-- ==== Sys2Proof/Word.lean ====
section
/-!
DEFINITION. The word types of the Relade RF register model: bytes, 32-bit registers (R27), 64-bit registers
and counters (R27, R56), and the index arithmetic modulo 2^32 of queues and packet sequence numbers (R105, R175).
-/

namespace Sys2Proof

/-- A byte of memory, of a descriptor or of a packet. -/
abbrev Byte := BitVec 8
/-- A 32-bit register, a queue index (R105) or a packet sequence number (R175). -/
abbrev Word := BitVec 32
/-- A 64-bit register, counter, fabric time or global address (R27, R327). -/
abbrev Word64 := BitVec 64

end Sys2Proof
end

