-- ==== Sys2Proof/Syntax.lean ====
section
/-!
DEFINITION. The commands of the Relade RF memory engine as a block: one constructor of `Instr` for each row of
spec/opcode_table.json, with the operands that the world outside the block supplies. `f` is a function (0 the PF,
1 to 16 a VF, R70), `d` a die, `q` a queue number, `off` a byte offset in the function's BAR0.
-/

namespace Sys2Proof

/-- A fabric packet: the 16-byte network header of R245, field by field, and the LENGTH bytes after it, in the order
in which R9 transmits them. -/
structure Packet where
  dest      : BitVec 18
  edition   : Bool
  tclass    : BitVec 3
  ptype     : BitVec 6
  escape    : Bool
  ce        : Bool
  reserved0 : BitVec 2
  source    : BitVec 18
  length    : BitVec 14
  hops      : BitVec 5
  replicate : Bool
  reserved1 : BitVec 10
  groupId   : BitVec 16
  groupGen  : BitVec 16
  reserved2 : BitVec 16
  body      : List Byte
  deriving DecidableEq, Repr

/-- A fabric management message (R588) without its COMMAND byte, which the command that carries it names, and with the
source and destination endpoints that its CMAC covers (zero when the mailbox carried it). -/
structure MgmtMessage where
  source   : BitVec 18
  dest     : BitVec 18
  flags    : Byte
  status   : BitVec 16
  reserved : Word
  sequence : Word64
  arg0     : Word64
  arg1     : Word64
  cmac     : BitVec 128
  deriving DecidableEq, Repr

/-- What ECC reports on a read of memory (R324). -/
inductive EccSeverity where
  | clean | corrected | uncorrected
  deriving DecidableEq, Repr

/-- What the ECC of a stage store reports while a stage runs (R387): nothing, a number of corrected units, or the address of
an uncorrectable one. -/
inductive StageEcc where
  | clean | corrected (units : Nat) | uncorrectable (address : Nat)
  deriving DecidableEq, Repr

/-- How a read of host memory fails (R74). -/
inductive HostReadFault where
  | poisoned | errorCompletion | timeout
  deriving DecidableEq, Repr

/-- What returns a die at a floor to Open (R599, R600). -/
inductive WakeCause where
  | doorbell | localPacket | registerWrite | timer | firmware
  deriving DecidableEq, Repr

/-- The PLLs of a die (R622). -/
inductive Pll where
  | cpll | dpll | rpll | mpll | gpll | serdes (port : Nat) | pcie
  deriving DecidableEq, Repr

/-- The commands: one constructor for each row of spec/opcode_table.json. -/
inductive Instr where
  /-- REGISTER_WRITE (R62): A write to a register field that has no row of its own: live fields take effect, a static field written while BUSY is refused, and reserved fields are ignored. -/
  | registerWrite (f off size : Nat) (value : Word64) (partialBE : Bool)
  /-- RC_REGISTER_READ (R30): A read of an RC register or of the low half of a 64-bit register returns the value and clears it or fills the shadow as one operation. -/
  | rcRegisterRead (f off size : Nat) (partialBE : Bool)
  /-- INT_RAW_CLEAR (R59): A W1C write to INT_RAW clears bits and sends a further message if INT_STAT stays nonzero. -/
  | intRawClear (f off : Nat) (bits : Word)
  /-- INT_EN_WRITE (R59): A write to INT_EN sets the enables and sends a further message if INT_STAT is nonzero after it. -/
  | intEnWrite (f off : Nat) (value : Word)
  /-- INT_SET (R46): A write of 1 to an INT_SET bit sets the matching INT_RAW bit. -/
  | intSet (f off : Nat) (bits : Word)
  /-- FE_STATUS_CLEAR (R53): Writing 1 to FE_STATUS.VALID clears VALID, FE_TIME and FE_DATA. -/
  | feStatusClear (f off : Nat)
  /-- MSIX_MESSAGE (R61): A routed page's interrupt request travels through the aggregator and quire links to die 0, which issues the MSI-X write or sets the pending bit. -/
  | msixMessage (k : Nat)
  /-- MSIX_UNMASK (R60): Unmasking a vector sends its message if the pending bit is still set. -/
  | msixUnmask (f v : Nat)
  /-- RESET (R44): The BLK_CTL RESET command starts a package warm reset, a die compute reset or a forwarding-plane reset, or is refused on any other page. -/
  | reset (f off : Nat) (key : Byte) (ctl : BitVec 11)
  /-- COLOPHON_ARM (R45): The COLOPHON_ARM command arms the page, and on a group page every page below it, for the next capture. -/
  | colophonArm (f off : Nat) (key : Byte) (ctl : BitVec 11)
  /-- COLOPHON_DISARM (R45): The COLOPHON_DISARM command disarms the page and the pages below it. -/
  | colophonDisarm (f off : Nat) (key : Byte) (ctl : BitVec 11)
  /-- CLEAR_ERRORS (R45): The CLEAR_ERRORS command clears FE_STATUS, FE_TIME and FE_DATA of the page and of every page below it. -/
  | clearErrors (f off : Nat) (key : Byte) (ctl : BitVec 11)
  /-- DIE_RESET_RAMP_DOWN_DONE (R675): When the ramp-down of a die compute reset has ended, the die-compute islands are cleared and leave reset, and RESET_ACTIVE and CMD_BUSY clear. -/
  | dieResetRampDownDone (d : Nat)
  /-- FORWARDING_PLANE_RESET (R289): The forwarding plane discards every packet, takes every port DOWN, returns to its reset values and is rewritten by the Spine. -/
  | forwardingPlaneReset (d : Nat)
  /-- PERST_N_ASSERT (R625): Assertion of PERST_N starts a package cold reset, clearing every island, register, memory content and key slot. -/
  | perstNAssert
  /-- PERST_N_DEASSERT (R626): Deassertion of PERST_N latches the straps, releases die 0 and starts PCI Express link training, answering configuration requests with retry status. -/
  | perstNDeassert (i3cAddr : BitVec 3) (strapTest : Bool)
  /-- RAIL_FAULT (R674): A rail of groups 1 to 4 leaves tolerance while PERST_N is deasserted and is treated as a power loss. -/
  | railFault (rail : Nat)
  /-- FUNCTION_LEVEL_RESET (R68): A Function Level Reset drops the function's doorbells and writes and sends the function into CLOSING for its function-wide reset. -/
  | functionLevelReset (f : Nat)
  /-- VF_ENABLE_CLEAR (R71): Clearing VF Enable resets every VF as a Function Level Reset does and closes them. -/
  | vfEnableClear
  /-- HOST_READ_ERROR (R74): A host-memory read for a queue returns poisoned data, an error completion, or times out, and the queue stops with HOST_FETCH_FAILED. -/
  | hostReadError (f q : Nat) (index : Word) (cause : HostReadFault)
  /-- POISONED_BAR_WRITE (R75): A poisoned memory write to a BAR is dropped and reported; a poisoned read request completes as Unsupported Request. -/
  | poisonedBarWrite (f : Nat) (isRead : Bool)
  /-- DOE_DISCOVERY (R77): A DOE Discovery object on the PF's mailbox is answered with the supported object types. -/
  | doeDiscovery (index : Nat)
  /-- DOE_UNSUPPORTED_OBJECT (R78): A DOE request of an unsupported type or longer than 1,024 DWORDs is discarded and DOE Error is set. -/
  | doeUnsupportedObject (vendor objType dwords : Nat)
  /-- DOE_ABORT (R78): DOE Abort empties both directions of the mailbox within 1 ms. -/
  | doeAbort
  /-- GET_VERSION (R575): The SPDM GET_VERSION request is answered with version 1.2. -/
  | getVersion
  /-- GET_CAPABILITIES (R575): The SPDM GET_CAPABILITIES request is answered with CERT_CAP, CHAL_CAP and MEAS_CAP. -/
  | getCapabilities
  /-- NEGOTIATE_ALGORITHMS (R575): The SPDM NEGOTIATE_ALGORITHMS request settles SHA-384 and the brainpoolP384r1 ExtAsym entry. -/
  | negotiateAlgorithms (sha384 extAsym : Bool)
  /-- GET_DIGESTS (R575): The SPDM GET_DIGESTS request returns the digest of certificate slot 0. -/
  | getDigests
  /-- GET_CERTIFICATE (R575): The SPDM GET_CERTIFICATE request returns the certificate chain of slot 0. -/
  | getCertificate (slot offset length : Nat)
  /-- CHALLENGE (R575): The SPDM CHALLENGE request is answered with a response signed by the identity key. -/
  | challenge (slot : Nat) (nonce : List Byte)
  /-- GET_MEASUREMENTS (R576): The SPDM GET_MEASUREMENTS request returns the six measurement blocks, signed. -/
  | getMeasurements (index : Nat) (signed : Bool) (nonce : List Byte)
  /-- SPDM_UNSUPPORTED_REQUEST (R575): Any other SPDM request is answered with ERROR, UnsupportedRequest. -/
  | spdmUnsupportedRequest (code : Byte)
  /-- DOORBELL_WRITE (R80): A write to BAR2 is checked as a doorbell and passed to the owning die's queue manager, or dropped and counted in DOORBELL_DROPS. -/
  | doorbellWrite (f off size : Nat) (value : Word)
  /-- DOORBELL_ADMISSION (R111): A doorbell reaching the queue manager moves tail or head if admissible, is recorded for a stopped queue, or stops the queue with DOORBELL_OVERRUN. -/
  | doorbellAdmission (f q : Nat)
  /-- ALRAM_DOORBELL (R256): An Alram doorbell packet for a local queue of the bound function is applied as a BAR2 doorbell, or dropped and counted in OP_DROPS. -/
  | alramDoorbell (d k : Nat) (p : Packet)
  /-- LEDGER_ISSUE (R90): The PCI Express controller issues the next write held in a ledger channel, in entry order, with a completion only after its data. -/
  | ledgerIssue (f c : Nat)
  /-- READ_BACK (R92): After a FLUSH descriptor's writes on a path have been issued, the device issues one read-back on that path per destination endpoint. -/
  | readBack (f q : Nat) (index : Word)
  /-- READ_BACK_RETURN (R95): A read-back returns, and when every read-back has returned the completion is written, with FLUSH_FAILED if one failed. -/
  | readBackReturn (f q : Nat) (index : Word) (ok : Bool)
  /-- DESCRIPTOR_FETCH (R123): The queue manager fetches a descriptor at most 32 indices ahead of execution as a run-ahead item. -/
  | descriptorFetch (f q : Nat)
  /-- DESCRIPTOR_FETCH_RETURN (R125): A fetched slot returns and is judged current, stale or malformed. -/
  | descriptorFetchReturn (f q : Nat) (index : Word) (slot : List Byte)
  /-- STALE_REFETCH (R126): At k × 0.5 µs after a stale read, refetch k of the slot is issued; an eighth stale result stops the queue with STALE_DESCRIPTOR. -/
  | staleRefetch (f q : Nat) (k : Nat)
  /-- COMPLETION_WRITE (R116): When a descriptor's operation finishes, its completion is written over the slot, bytes 4 to 63 before bytes 0 to 3, the published head advances and an MSI-X message follows if IRQ is set. -/
  | completionWrite (f q : Nat) (index : Word)
  /-- ARRIVAL_ENTRY_WRITE (R118): An arrival entry is written to its arrival queue, held if the queue is full, or dropped if the queue is absent, in ERROR or DISABLED. -/
  | arrivalEntryWrite (f q : Nat)
  /-- ARRIVAL_WAIT_EXPIRY (R121): A held arrival entry whose queue is still full after ARRIVAL_WAIT is dropped and counted, and later entries are dropped while the queue stays full. -/
  | arrivalWaitExpiry (f q : Nat)
  /-- QUEUE_DISABLE (R133): A QUEUE_DISABLE write moves a RUNNING queue to DISABLING in MAINTENANCE, or is rejected in SERVICE. -/
  | queueDisable (f d : Nat) (value : Word)
  /-- QUEUE_DISABLED (R133): A DISABLING queue becomes DISABLED once every begun descriptor has completed. -/
  | queueDisabled (f q : Nat)
  /-- QUEUE_ENABLE (R134): A QUEUE_ENABLE write in MAINTENANCE returns a stopped queue to RUNNING with fetch at the published head and applies a recorded doorbell. -/
  | queueEnable (f d : Nat) (value : Word)
  /-- STOP_FIFO_READ (R142): A read of STOP_FIFO returns and removes the oldest stop record. -/
  | stopFifoRead (f d : Nat)
  /-- ADMIN_QUEUE_ENABLE (R141): Writing ADMIN_CTL.ENABLE from 0 to 1 creates the admin queue with head and tail 0, or is refused for a bad size or vector. -/
  | adminQueueEnable (f : Nat) (value : Word)
  /-- ADMIN_QUEUE_DISABLE (R137): Writing ADMIN_CTL.ENABLE from 1 to 0 destroys an empty or stopped admin queue, or is refused. -/
  | adminQueueDisable (f : Nat) (value : Word)
  /-- CREATE_QUEUE (R148): CREATE_QUEUE creates a RUNNING queue with head and tail 0, or completes with an error. -/
  | createQueue (f : Nat)
  /-- DESTROY_QUEUE (R149): DESTROY_QUEUE makes a stopped or idle queue ABSENT, or completes with BUSY. -/
  | destroyQueue (f : Nat)
  /-- SET_ARRIVAL_ROUTE (R145): SET_ARRIVAL_ROUTE sets or removes the arrival queue for an entry type. -/
  | setArrivalRoute (f : Nat)
  /-- SET_FUNCTION_MODE (R136): SET_FUNCTION_MODE sets SERVICE or MAINTENANCE, refused with NOT_QUIESCED while descriptors run. -/
  | setFunctionMode (f : Nat)
  /-- CREATE_QP (R157): CREATE_QP allocates the lowest free queue-pair number of the owning die in INIT, with a SEND_EPOCH when GCM_EN is 1. -/
  | createQp (f : Nat)
  /-- TO_RTR (R159): MODIFY_QP TO_RTR sets the peer and the first expected PSN and moves INIT to RTR. -/
  | toRtr (f : Nat)
  /-- TO_RTS (R159): MODIFY_QP TO_RTS sets the first send PSN and limits and moves RTR to RTS with R at RATE_INIT. -/
  | toRts (f : Nat)
  /-- TO_ERROR (R160): MODIFY_QP TO_ERROR puts the queue pair in ERROR and completes outstanding descriptors with QP_ERROR, LOCAL_TO_ERROR. -/
  | toError (f : Nat)
  /-- TO_INIT (R160): MODIFY_QP TO_INIT resets a queue pair in ERROR with nothing outstanding to INIT, taking a new SEND_EPOCH under GCM. -/
  | toInit (f : Nat)
  /-- SET_LIMITS (R159): MODIFY_QP SET_LIMITS replaces RETRY_LIMIT and REORDER_THRESHOLD from the next retransmission decision. -/
  | setLimits (f : Nat)
  /-- DESTROY_QP (R161): DESTROY_QP frees the queue-pair number, or completes with BUSY while a descriptor is outstanding. -/
  | destroyQp (f : Nat)
  /-- LOAD_RECIPE (R404): LOAD_RECIPE checks a recipe bundle and makes it resident on every die under a package-wide handle. -/
  | loadRecipe (f : Nat) (bundle : List Byte)
  /-- UNLOAD_RECIPE (R406): UNLOAD_RECIPE releases a handle, or completes with BUSY while a Reckoner runs it. -/
  | unloadRecipe (f : Nat)
  /-- FORMAT_TABLE (R380): LOAD_TABLE of FORMAT_TABLE writes the format slots of the target Reckoners, or completes with an error and changes none. -/
  | formatTable (f : Nat) (table : List Byte)
  /-- SEQUENCE_TABLE (R429): LOAD_TABLE of SEQUENCE_TABLE replaces a Reckoner's sequence table as a whole. -/
  | sequenceTable (f : Nat) (table : List Byte)
  /-- COLLATION_TABLE (R519): LOAD_TABLE of COLLATION_TABLE installs or removes a collation entry on a die. -/
  | collationTable (f : Nat) (table : List Byte)
  /-- INVALIDATE_RANGE (R347): INVALIDATE_RANGE sends a range invalidation to every engine of every die and completes once all have acknowledged. -/
  | invalidateRange (f : Nat)
  /-- RESOLVE_FAULT (R353): RESOLVE_FAULT frees a fault record and tells every waiter to walk again. -/
  | resolveFault (f : Nat)
  /-- SET_PAGE_TABLE_ROOT (R330): SET_PAGE_TABLE_ROOT installs or removes a function's root on a die after every engine has dropped the function's translations. -/
  | setPageTableRoot (f : Nat)
  /-- RESIZE_PARTITION (R531): RESIZE_PARTITION reads a resource record and makes the partition's holdings equal to it, or completes with an error. -/
  | resizePartition (f : Nat) (record : List Byte)
  /-- DESTROY_PARTITION (R543): DESTROY_PARTITION closes a quiesced function, removes its roots and groups, and returns its resources to the PF. -/
  | destroyPartition (f : Nat)
  /-- CREATE_GROUP (R441): CREATE_GROUP reads a group table and installs the group on each named die of the package. -/
  | createGroup (f : Nat) (table : List Byte)
  /-- REFORM_GROUP (R443): REFORM_GROUP installs the next generation of a group, resets NEXT_OP_SEQ and ends descriptors in execution with REFORMED. -/
  | reformGroup (f : Nat) (table : List Byte)
  /-- DESTROY_GROUP (R444): DESTROY_GROUP removes a group from every die of the package, or completes with BUSY. -/
  | destroyGroup (f : Nat)
  /-- WRITE (R168): A WRITE descriptor begins and sends WRITE packets on its queue pair. -/
  | write (f q : Nat)
  /-- READ (R167): A READ descriptor begins and sends READ_REQUESTs of at most 1 MiB, at most 8 outstanding. -/
  | read (f q : Nat)
  /-- SEND (R171): A SEND descriptor begins and sends the packets of the next message sequence number. -/
  | send (f q : Nat)
  /-- WRITE_NOTIFY (R168): A WRITE_NOTIFY descriptor begins and sends WRITE_NOTIFY packets with IMMEDIATE on LAST. -/
  | writeNotify (f q : Nat)
  /-- ATOMIC_ADD (R168): An ATOMIC_ADD descriptor begins and sends one ATOMIC_REQUEST. -/
  | atomicAdd (f q : Nat)
  /-- STAGE_IN (R114): A STAGE_IN descriptor begins copying up to 1 MiB from host memory into package memory. -/
  | stageIn (f q : Nat) (data : List Byte)
  /-- STAGE_OUT (R114): A STAGE_OUT descriptor begins copying up to 1 MiB from package memory to host memory. -/
  | stageOut (f q : Nat)
  /-- LOCAL_COPY (R364): A LOCAL_COPY descriptor begins copying within the owning die in ascending address order, checking source tallies. -/
  | localCopy (f q : Nat)
  /-- RUN_RECIPE (R423): A RUN_RECIPE descriptor is checked and starts its recipe on every named Reckoner, or waits for them to be free. -/
  | runRecipe (f q : Nat)
  /-- REDUCE (R461): A REDUCE descriptor begins the member's part of a reduce-to-one, the root granting chunks 0 and 1. -/
  | reduce (f q : Nat)
  /-- BROADCAST (R464): A BROADCAST descriptor begins the member's part of a broadcast. -/
  | broadcast (f q : Nat)
  /-- CIPHER (R583): A CIPHER descriptor runs GCM, XTS, CBC or CMAC on the owning die's cipher engine. -/
  | cipher (f q : Nat)
  /-- NOP (R114): A NOP descriptor completes with SUCCESS. -/
  | nop (f q : Nat)
  /-- WRITE_PACKET (R176): An arriving WRITE packet is accepted and placed, treated as a duplicate, or dropped by its PSN. -/
  | writePacket (d : Nat) (p : Packet)
  /-- WRITE_NOTIFY_PACKET (R176): An arriving WRITE_NOTIFY packet is placed, and a NOTIFY entry is written once RCV_NXT passes LAST. -/
  | writeNotifyPacket (d : Nat) (p : Packet)
  /-- SEND_PACKET (R172): An arriving SEND packet is placed in its slot, or answered with NAK RNR or INVALID_REQUEST, with a RECEIVE entry once RCV_NXT passes LAST. -/
  | sendPacket (d : Nat) (p : Packet)
  /-- READ_REQUEST (R191): An arriving READ_REQUEST has its source translated and is executed when RCV_NXT reaches it, returning READ_RESPONSEs. -/
  | readRequest (d : Nat) (p : Packet)
  /-- READ_RESPONSE (R677): An arriving READ_RESPONSE is placed in the requester's memory, or faults and puts the queue pair in FAULT_WAIT. -/
  | readResponse (d : Nat) (p : Packet)
  /-- ATOMIC_REQUEST (R176): An arriving ATOMIC_REQUEST is executed when RCV_NXT reaches it, or answered from the replay cache when duplicate. -/
  | atomicRequest (d : Nat) (p : Packet)
  /-- ATOMIC_RESPONSE (R168): An arriving ATOMIC_RESPONSE gives the value before the add to RESULT0. -/
  | atomicResponse (d : Nat) (p : Packet)
  /-- MSG_ABORT (R174): An accepted MSG_ABORT releases the message's slot with no RECEIVE or NOTIFY entry. -/
  | msgAbort (d : Nat) (p : Packet)
  /-- ACK (R181): An arriving ACK advances SND_UNA, marks SACKed PSNs, finds lost PSNs, takes RTT samples and may start a rate update. -/
  | ack (d : Nat) (p : Packet)
  /-- NAK_RNR (R187): A NAK RNR is treated as an RTO expiry for that PSN. -/
  | nakRnr (d : Nat) (p : Packet)
  /-- NAK_FAULT_WAIT (R190): A NAK FAULT_WAIT puts the queue pair in FAULT_WAIT for a remote fault and stops the retransmission timer. -/
  | nakFaultWait (d : Nat) (p : Packet)
  /-- NAK_ACCESS_DENIED (R187): A NAK ACCESS_DENIED puts the queue pair in ERROR with ACCESS_DENIED, REMOTE. -/
  | nakAccessDenied (d : Nat) (p : Packet)
  /-- NAK_POISONED (R187): A NAK POISONED marks the request's PSNs answered and completes it with POISONED, REMOTE. -/
  | nakPoisoned (d : Nat) (p : Packet)
  /-- NAK_TALLY_FAILED (R187): A NAK TALLY_FAILED marks the request's PSNs answered and completes it with TALLY_FAILED, REMOTE. -/
  | nakTallyFailed (d : Nat) (p : Packet)
  /-- NAK_QP_ERROR (R187): A NAK QP_ERROR puts the queue pair in ERROR with PEER_IN_ERROR. -/
  | nakQpError (d : Nat) (p : Packet)
  /-- NAK_INVALID_REQUEST (R187): A NAK INVALID_REQUEST puts the queue pair in ERROR with PEER_INVALID_REQUEST. -/
  | nakInvalidRequest (d : Nat) (p : Packet)
  /-- ACK_TIMER (R177): 2 µs after the first unacknowledged accepted packet the receiver sends an ACK. -/
  | ackTimer (qp : Nat)
  /-- RTO_EXPIRY (R182): The retransmission timer expires: RTO doubles, R is cut, every unacknowledged PSN is sent again, or the queue pair ends at RETRY_LIMIT. -/
  | rtoExpiry (qp : Nat)
  /-- FAULT_WAIT_PROBE (R190): In a remote fault the NAKed PSN is sent again once per RTO without doubling. -/
  | faultWaitProbe (qp : Nat)
  /-- FAULT_WAIT_LIMIT (R190): FAULT_WAIT_LIMIT after the first NAK FAULT_WAIT without acknowledgement puts the queue pair in ERROR with TRANSLATION_FAULT, REMOTE. -/
  | faultWaitLimit (qp : Nat)
  /-- CONTEXT_FETCH_DONE (R197): A queue-pair context fetch from HBM3E completes; the queue pair becomes eligible and packets waiting in the miss list are processed. -/
  | contextFetchDone (qp : Nat)
  /-- CONTEXT_PREFETCH (R200): The transport prefetches contexts named by unscheduled doorbells, displacing only unchanged entries. -/
  | contextPrefetch (qp : Nat)
  /-- SCHEDULER_SELECTION (R215): When a port can accept a packet, its scheduler picks the highest eligible class and in it an ACK or the flow with the lowest start tag. -/
  | schedulerSelection (d i : Nat)
  /-- DEPTH_DELAY_SAMPLE (R238): Every 4,096 scheduler cycles each class's depth and head-of-line delay are sampled into histograms. -/
  | depthDelaySample (d i : Nat)
  /-- QP_WEIGHT_WRITE (R242): A QP_WEIGHT write sets a queue pair's weight from its next selection, or is refused above CAP. -/
  | qpWeightWrite (f d : Nat) (value : Word)
  /-- ALRAM_TRAINING_DONE (R252): Training completes on all 8 lanes of an Alram port and it moves to ALIGN. -/
  | alramTrainingDone (d k : Nat) (reversed : Bool)
  /-- ALRAM_ALIGN_LOCK (R252): Alignment locks on all lanes and the port moves to CREDIT_INIT. -/
  | alramAlignLock (d k : Nat)
  /-- INIT (R261): An INIT control word grants a virtual channel its credit and records the peer endpoint; CREDIT_INIT completes when all are exchanged. -/
  | init (d port vc : Nat) (endpoint : BitVec 18) (grant : BitVec 16)
  /-- ALRAM_LINK_DOWN (R252): An Alram port loses lock for 1 µs, exceeds the uncorrectable limit or a state bound, and goes DOWN, then to TRAINING or DISABLED. -/
  | alramLinkDown (d k : Nat)
  /-- LINK_ENABLE (R252): Setting ENABLE of an Alram port or quire link starts training. -/
  | linkEnable (d port : Nat)
  /-- LINK_DISABLE (R252): Clearing ENABLE takes the link to DISABLED. -/
  | linkDisable (d port : Nat)
  /-- FRAME_RECEIVE (R251): A frame arrives on an Alram port or quire link and is passed on, or discarded for CRC, codeword or framing errors or as stomped. -/
  | frameReceive (d port vc : Nat) (p : Packet) (crc : Word) (intact : Bool)
  /-- CREDIT (R262): A CREDIT word updates the units freed on a virtual channel. -/
  | credit (d port vc : Nat) (freed : Word)
  /-- SYNC (R263): A SYNC word lets the receiver add units lost with whole frames to its freed units. -/
  | sync (d port vc : Nat) (sent : Word)
  /-- CREDIT_REPORT_TIMER (R262): At least once per 1 µs while nonzero, a receiver sends CREDIT words with its freed totals. -/
  | creditReportTimer (d port : Nat)
  /-- SYNC_TIMER (R263): Every 4 µs a sender sends a SYNC word on each virtual channel. -/
  | syncTimer (d port : Nat)
  /-- ALRAM_WRITE (R254): An arriving ALRAM_WRITE is checked, translated through the bound function and written, or dropped and counted in OP_DROPS. -/
  | alramWrite (d k : Nat) (p : Packet)
  /-- ALRAM_READ_REQUEST (R255): An arriving ALRAM_READ_REQUEST is translated and answered with data or a status. -/
  | alramReadRequest (d k : Nat) (p : Packet)
  /-- ALRAM_READ_RESPONSE (R257): An arriving read response is matched by tag to an outstanding read, or dropped; a non-OK status ends the read at once. -/
  | alramReadResponse (d k : Nat) (p : Packet)
  /-- ALRAM_READ_TIMEOUT (R257): A read with no response within READ_TIMEOUT_US is reissued with the same tag, or ends after RETRIES. -/
  | alramReadTimeout (d k tag : Nat)
  /-- ROUTE_PACKET (R274): The router checks a packet's header and chooses its output port, delivers it locally, holds it or discards it. -/
  | routePacket (d port : Nat)
  /-- ESCAPE_WAIT_EXPIRY (R275): A packet that has waited ESCAPE_WAIT_NS without credit moves to its edition's escape channel. -/
  | escapeWaitExpiry (d port n : Nat)
  /-- HOLD_EXPIRY (R283): 2 µs after a port leaves UP its hold ends, it enters DISCARD and packets still held for it are discarded. -/
  | holdExpiry (d port : Nat)
  /-- EDITION_COUNT_RELEASE (R279): 1 µs after a packet's tail has left by an output port, it stops counting in its edition's count. -/
  | editionCountRelease (d : Nat) (edition : Bool)
  /-- FIFO_POINTER_MISMATCH (R272): A packet FIFO's duplicated pointers disagree and it resets, discarding every entry. -/
  | fifoPointerMismatch (d fifo : Nat)
  /-- DROP_REST (R270): A consumer's DROP_REST discards the rest of the packet being read. -/
  | dropRest (d fifo : Nat)
  /-- QUIRE_LINK_DOWN (R266): UCIe reports a quire link down or its retry fails, and it retrains at once. -/
  | quireLinkDown (d k : Nat)
  /-- QUIRE_LINK_UP (R266): A quire link reaches UP after training. -/
  | quireLinkUp (d k : Nat)
  /-- QUIRE_RETRAIN_TIMEOUT (R266): A quire link not UP 10 ms after going DOWN begins training again. -/
  | quireRetrainTimeout (d k : Nat)
  /-- ETH_FRAME_RECEIVE (R307): A received Ethernet frame passes the ten checks in order and is admitted to the ingress pool, or dropped and counted. -/
  | ethFrameReceive (d k : Nat) (frame : List Byte) (fcs : Word) (intact : Bool)
  /-- PFC_REPEAT (R312): While usage stays above XON, the port repeats the pause every PAUSE_QUANTA / 2 quanta. -/
  | pfcRepeat (d k p : Nat)
  /-- PFC_FRAME (R314): A received PFC frame sets or stops the receive pause timer of each enabled priority. -/
  | pfcFrame (d k : Nat) (vector : Byte) (times : List (BitVec 16))
  /-- PAUSE_TIMER_EXPIRY (R314): A receive pause timer runs out and its class becomes eligible again. -/
  | pauseTimerExpiry (d k p : Nat)
  /-- PFC_CTL_WRITE (R315): A PFC_CTL write sets pause quanta and lossless priorities, and a cleared PFC_EN bit sends time 0 for a paused priority. -/
  | pfcCtlWrite (d k : Nat) (value : Word)
  /-- PTP_FRAME (R316): A PTP frame is timestamped and queued to Quire firmware, or dropped when the queue is full. -/
  | ptpFrame (d k : Nat) (frame : List Byte) (stamp : Nat)
  /-- ETH_TRAINING_DONE (R298): Auto-negotiation and training complete on every lane of an Ethernet port and it moves to ALIGN. -/
  | ethTrainingDone (d k : Nat) (reversed : Bool)
  /-- ETH_TRAINING_TIMEOUT (R298): Training not done in 500 ms restarts. -/
  | ethTrainingTimeout (d k : Nat)
  /-- ETH_ALIGN_LOCK (R298): Block and alignment lock on every lane takes the port to UP. -/
  | ethAlignLock (d k : Nat)
  /-- ETH_LINK_DOWN (R298): Lock lost for 1 µs, too many uncorrectable codewords or a remote fault takes the port DOWN, and held packets are offered again. -/
  | ethLinkDown (d k : Nat) (remoteFault : Bool)
  /-- PORT_ENABLE (R298): Setting PORT_CTL.ENABLE starts training of an Ethernet port; clearing it takes the port to DISABLED. -/
  | portEnable (d k : Nat) (enable : Bool)
  /-- PATROL_SCRUB (R326): The controller reads each block once per SCRUB_HOURS, writing back corrected data and poisoning uncorrectable blocks. -/
  | patrolScrub (d m block : Nat) (severity : EccSeverity)
  /-- WALK_COMPLETE (R334): A page-table walk ends in a translation, a fault or ACCESS_DENIED. -/
  | walkComplete (d e f offset : Nat) (isWrite prefetch : Bool)
  /-- FAULT_ABORT (R354): A fault record still in use ABORT_MS after it was raised is aborted, and its waiters end with TRANSLATION_FAULT. -/
  | faultAbort (d record : Nat)
  /-- INVALIDATION_POINT (R343): An engine receives an invalidation and drops its cached and prefetched translations in the range. -/
  | invalidationPoint (d e : Nat)
  /-- INVALIDATION_ACK (R344): An engine acknowledges once every access translated through a dropped translation has completed. -/
  | invalidationAck (d e : Nat)
  /-- INVALIDATION_RESEND (R347): Every 100 µs the invalidation is sent again to a die that has not acknowledged. -/
  | invalidationResend (d : Nat)
  /-- DOG_EAR_WINDOW_END (R360): Every DOG_EAR_WINDOW µs all access counters are cleared. -/
  | dogEarWindowEnd (d : Nat)
  /-- TILE_PREFETCH (R426): The sequencer fetches a tile up to 2 ahead on each tier queue as a run-ahead item. -/
  | tilePrefetch (d r : Nat)
  /-- TILE_ARRIVAL (R426): A fetched tile arrives in the tile buffers, and a stage waiting for it proceeds. -/
  | tileArrival (d r : Nat)
  /-- LOAD (R415): A LOAD stage copies one tile from global memory into the stage store. -/
  | load (d r : Nat) (ecc : StageEcc)
  /-- MATMUL (R416): A MATMUL stage passes activation rows over a weight tile, adding block terms to the accumulators. -/
  | matmul (d r : Nat) (ecc : StageEcc)
  /-- VECTOR (R417): A VECTOR stage applies its operator chain to each row. -/
  | vector (d r : Nat) (ecc : StageEcc)
  /-- STORE (R415): A STORE stage writes stage-store data to global memory with tallies formed per 4 KiB block. -/
  | store (d r : Nat) (ecc : StageEcc)
  /-- CANDIDATE (R431): A SAMPLE stage in CANDIDATE mode reduces each row of logits to 256 candidates. -/
  | candidate (d r : Nat) (ecc : StageEcc)
  /-- DRAW (R432): A SAMPLE stage in DRAW mode draws a token for the current sequence, writes it to the token ring and advances POSITION. -/
  | draw (d r : Nat) (ecc : StageEcc)
  /-- SIGNAL (R420): A SIGNAL stage waits for earlier STOREs to be accepted and adds 1 to a flag. -/
  | signal (d r : Nat)
  /-- WAIT (R420): A WAIT stage begins watching a flag for its target. -/
  | wait (d r : Nat)
  /-- WAIT_SATISFIED (R420): The flag reaches the target and the WAIT stage finishes. -/
  | waitSatisfied (d r : Nat)
  /-- WAIT_TIMEOUT (R420): A WAIT unsatisfied after WAIT_LIMIT_US ends the recipe with RECIPE_ABORTED. -/
  | waitTimeout (d r : Nat)
  /-- CHECK_EXECUTION (R497): A checker executes a check record at its next stage boundary and compares the result. -/
  | checkExecution (d check : Nat) (result : List Byte)
  /-- CHECK_REEXECUTION (R498): The original and the third Reckoner execute a disputed record again and the check is classified. -/
  | checkReexecution (d check : Nat) (o2 t c2 : List Byte)
  /-- KNOWN_ANSWER_RUN (R506): After INTERVAL_MIN, Quire firmware runs the known-answer set on an idle Reckoner, or on a candidate at once. -/
  | knownAnswerRun (d r : Nat)
  /-- KAR_DEFER_EXPIRY (R506): A Reckoner not idle for MAX_DEFER_MIN is taken for known-answer runs at its next descriptor boundary. -/
  | karDeferExpiry (d r : Nat)
  /-- KNOWN_ANSWER_DONE (R507): A known-answer set ends, clearing, marking or retiring the Reckoner by its digests. -/
  | knownAnswerDone (d r : Nat) (failures : Nat)
  /-- TALLY_REREAD (R488): A block that failed its tally is read again; a second failure poisons it. -/
  | tallyReread (d f pa address : Nat)
  /-- NOTICE (R516): A received NOTICE poisons each translatable block of the function and is answered with NOTICE_ACK. -/
  | notice (d : Nat) (p : Packet)
  /-- NOTICE_ACK (R515): A NOTICE_ACK frees the notice's log entries. -/
  | noticeAck (d : Nat) (p : Packet)
  /-- NOTICE_REPEAT (R515): Every REPEAT_US an unacknowledged NOTICE is sent again, and after LIMIT its entries are freed with a NOTICE_UNACKED event. -/
  | noticeRepeat (d : Nat) (sequence : Word)
  /-- DIGEST_FORMED (R520): A round's SHA-384 of the collation ranges' tallies completes and is sent to the root as a DIGEST. -/
  | digestFormed (d entry : Nat)
  /-- DIGEST (R523): A DIGEST received at the root is stored, and the round is decided when every replica's digest of the part is held. -/
  | digest (d : Nat) (p : Packet)
  /-- DIGEST_ACK (R522): A DIGEST_ACK stops the repeats of a digest. -/
  | digestAck (d : Nat) (p : Packet)
  /-- DIGEST_REPEAT (R522): Every 100 µs an unacknowledged DIGEST is sent again until TIMEOUT_US. -/
  | digestRepeat (d entry : Nat)
  /-- COLLATION_TIMEOUT (R523): TIMEOUT_US after a round's first digest the root decides it with the digests it holds. -/
  | collationTimeout (d entry part : Nat)
  /-- DATA (R463): A DATA packet of a chunk is written to the member's destination. -/
  | data (d : Nat) (p : Packet)
  /-- FRAMES (R461): A child's FRAMES row is written to its replay part and added into the accumulation slot under a cast-out check. -/
  | frames (d : Nat) (p : Packet) (glitch : BitVec 320)
  /-- GRANT (R462): A GRANT lets a member begin chunks below ARG and pass the grant to its children. -/
  | grant (d : Nat) (p : Packet)
  /-- RECEIPT (R477): A RECEIPT reports a child subtree's progress and FINISHED, letting the root grant or finish. -/
  | receipt (d : Nat) (p : Packet)
  /-- RESEND (R466): A RESEND makes a child resend a chunk's rows from its replay slot, or the root resend a chunk's DATA. -/
  | resend (d : Nat) (p : Packet)
  /-- FAILURE (R474): A FAILURE reaching the root retracts and re-reduces the chunk, or aborts the operation. -/
  | failure (d : Nat) (p : Packet)
  /-- RETRACT (R475): A RETRACT makes a member poison its chunk output blocks of that generation and discard unsent rows. -/
  | retract (d : Nat) (p : Packet)
  /-- FINISH (R477): A FINISH lets a member complete once every child's RECEIPT shows FINISHED. -/
  | finish (d : Nat) (p : Packet)
  /-- CHUNK_ABORT (R477): A collective ABORT completes the member with its STATUS and DETAIL and is passed to its children. -/
  | chunkAbort (d : Nat) (p : Packet)
  /-- REPEAT_TIMER (R465): Every REPEAT_US a member repeats its GRANTs, RECEIPT, FAILURE, RETRACT or FINISH. -/
  | repeatTimer (d group : Nat)
  /-- RESEND_TIMER (R466): After RESEND_US without rows or DATA a member sends RESEND for the missing chunk. -/
  | resendTimer (d group : Nat)
  /-- CHILD_TIMEOUT (R468): A child silent for the group timeout is reported to the root with FAILURE and a MEMBER_TIMEOUT event. -/
  | childTimeout (d group child : Nat)
  /-- PARENT_TIMEOUT (R469): A member that hears nothing from its parent for the group timeout ends with PARENT_TIMEOUT and aborts its children. -/
  | parentTimeout (d group : Nat)
  /-- MEMBER_LEFT (R472): At a chunk boundary after a reset or resize reaches it, the engine sends FAILURE MEMBER_LEFT and abandons the operation. -/
  | memberLeft (d group : Nat)
  /-- FUNCTION_ENABLE (R535): Writing FN_CTL.ENABLE from 0 to 1 starts OPENING, or sets PENDING_OPEN during CLOSING. -/
  | functionEnable (f : Nat)
  /-- FUNCTION_DISABLE (R535): Writing FN_CTL.ENABLE from 1 to 0 starts CLOSING, or sets PENDING_CLOSE during OPENING. -/
  | functionDisable (f : Nat)
  /-- FN_HOLD (R541): Writing FN_CTL.HOLD stops or resumes the beginning of the function's descriptors. -/
  | fnHold (f : Nat) (hold : Bool)
  /-- OPENING_COMPLETE (R536): OPENING completes and the function is OPEN in MAINTENANCE, entering CLOSING if PENDING_CLOSE. -/
  | openingComplete (f : Nat)
  /-- CLOSING_COMPLETE (R539): The function-wide reset finishes and the function is CLOSED, reopening if PENDING_OPEN. -/
  | closingComplete (f : Nat)
  /-- DIRTY_LOG_ENABLE (R546): Writing DIRTY_CTL.ENABLE to 1 starts the dirty log with head and tail at 0. -/
  | dirtyLogEnable (f : Nat) (value : Word)
  /-- DIRTY_HEAD_WRITE (R546): A DIRTY_HEAD write consumes dirty entries, refused if it passes the tail. -/
  | dirtyHeadWrite (f : Nat) (value : Word)
  /-- BOOT_ROM_START (R557): The boot ROM holds the other dies, locks JTAG and verifies the Spine image, stopping if it fails. -/
  | bootRomStart
  /-- SPINE_START (R557): The Spine selects the binding record, derives keys, installs policy, releases the dies and loads Quire firmware. -/
  | spineStart
  /-- QUIRE_READY (R557): Quire firmware on a die reports ready; after the last report the Spine opens the PF. -/
  | quireReady (d : Nat)
  /-- QUIRE_READY_TIMEOUT (R568): A Quire image not ready within 2 s is rejected or QUIRE_FAILED is set. -/
  | quireReadyTimeout
  /-- QUIRE_HEARTBEAT (R559): Quire firmware on a die sends its heartbeat to the Spine. -/
  | quireHeartbeat (d : Nat)
  /-- HEARTBEAT_MISS (R559): Three missed heartbeats reset and reload the die's quire cores. -/
  | heartbeatMiss (d : Nat)
  /-- WATCHDOG_EXPIRY (R555): The Spine watchdog expires and causes a package warm reset. -/
  | watchdogExpiry
  /-- STATE_CHECKSUM (R555): Every 1 s the Spine's code is hashed, and a difference causes a package warm reset. -/
  | stateChecksum (same : Bool)
  /-- SPINE_ECC_ERROR (R555): A Spine SRAM ECC error is counted when corrected and causes a package warm reset when not. -/
  | spineEccError (corrected : Bool)
  /-- OFFER (R564): An OFFER of an image header is checked and answered with ACCEPT or REFUSE. -/
  | offer (session : BitVec 16) (header : List Byte)
  /-- BLOCK (R565): A BLOCK is accepted in order and acknowledged; the last block's digest is checked and DONE is sent. -/
  | block (session : BitVec 16) (sequence : Word) (payload : List Byte) (flashOk : Bool)
  /-- STATUS_REQUEST (R563): A STATUS_REQUEST is answered with STATUS carrying the GET_STATUS response. -/
  | statusRequest (session : BitVec 16)
  /-- DELIVERY_ABORT (R565): An ABORT ends the delivery session and empties the slot being written. -/
  | deliveryAbort (session : BitVec 16)
  /-- SESSION_TIMEOUT (R565): A session with no valid frame for 10 s ends. -/
  | sessionTimeout
  /-- GET_STATUS (R594): The mailbox command GET_STATUS returns SPINE_STAT, slot states and OTP minimums. -/
  | getStatus
  /-- ATTEST (R577): The mailbox command ATTEST returns a signed 416-byte report. -/
  | attest (request : List Byte)
  /-- LOAD_FABRIC_KEY (R589): LOAD_FABRIC_KEY installs the fabric key from a blob and resets the sequence. -/
  | loadFabricKey (request : List Byte)
  /-- FABRIC_CMD (R588): The mailbox command FABRIC_CMD carries one fabric management message and returns its response. -/
  | fabricCmd (d : Nat) (request : List Byte)
  /-- CONFIRM_QUIRE (R570): CONFIRM_QUIRE makes the TRIAL slot ACTIVE, drops old sections and raises the OTP minimum. -/
  | confirmQuire
  /-- DEBUG_CHALLENGE (R594): DEBUG_CHALLENGE returns the serial and a fresh nonce. -/
  | debugChallenge
  /-- DEBUG_UNLOCK (R592): DEBUG_UNLOCK verifies a debug token, erases every key and sets DEBUG_UNLOCKED. -/
  | debugUnlock (request : List Byte)
  /-- APPROVE_RAMP_TABLE (R615): APPROVE_RAMP_TABLE applies a ramp record that the policy checker accepts, or is refused. -/
  | approveRampTable (request : List Byte)
  /-- KEY_LOAD (R587): KEY_CMD with ERASE 0 unwraps a key blob into a handle, ending with a RESULT. -/
  | keyLoad (f : Nat) (value : Word)
  /-- KEY_ERASE (R587): KEY_CMD with ERASE 1 erases a handle, or gives IN_USE. -/
  | keyErase (f : Nat) (value : Word)
  /-- ENTROPY_HEALTH_FAILURE (R582): The entropy source fails a health test and is counted and captured. -/
  | entropyHealthFailure (d : Nat)
  /-- DRBG_RESEED (R582): After 2^20 requests the CTR_DRBG is reseeded, or descriptors wait while a health failure stands. -/
  | drbgReseed (d : Nat)
  /-- READ_ROUTER (R590): READ_ROUTER returns a 32-bit value from router page 0 or 1. -/
  | readRouter (d : Nat) (m : MgmtMessage)
  /-- WRITE_TABLE_ENTRY (R280): WRITE_TABLE_ENTRY writes TABLE_SELECT and TABLE_ENTRY under the edition and route-entry checks. -/
  | writeTableEntry (d : Nat) (m : MgmtMessage)
  /-- SET_INJECT_EDITION (R284): SET_INJECT_EDITION sets INJECT_EDITION and lets ports in DISCARD whose link is UP return to use. -/
  | setInjectEdition (d : Nat) (m : MgmtMessage)
  /-- SET_RELAY_REQUIRED (R291): SET_RELAY_REQUIRED sets or clears RELAY_REQUIRED. -/
  | setRelayRequired (d : Nat) (m : MgmtMessage)
  /-- SET_ENDPOINT_ID (R274): SET_ENDPOINT_ID sets the die's ENDPOINT_ID. -/
  | setEndpointId (d : Nat) (m : MgmtMessage)
  /-- SET_ROUTE_CTL (R590): SET_ROUTE_CTL sets ROUTE_CTL. -/
  | setRouteCtl (d : Nat) (m : MgmtMessage)
  /-- RESET_FORWARDING_PLANE (R590): RESET_FORWARDING_PLANE responds and then starts a forwarding-plane reset. -/
  | resetForwardingPlane (d : Nat) (m : MgmtMessage)
  /-- SET_FABRIC_TIME (R651): SET_FABRIC_TIME sets fabric time on every die, refused if backward once TIME_SET. -/
  | setFabricTime (d : Nat) (m : MgmtMessage)
  /-- ADJUST_FABRIC_TIME (R652): ADJUST_FABRIC_TIME slews an offset and sets a rate adjustment within ±500 ppm. -/
  | adjustFabricTime (d : Nat) (m : MgmtMessage)
  /-- SET_PTP (R655): SET_PTP sets the PTP die, port, domain, enable and epoch offset. -/
  | setPtp (d : Nat) (m : MgmtMessage)
  /-- ARM_CAPTURE_AT (R648): ARM_CAPTURE_AT sets NEXT_NUMBER and CAP_TIME on every die and sets TIME_EN. -/
  | armCaptureAt (d : Nat) (m : MgmtMessage)
  /-- TRIGGER_CAPTURE (R657): TRIGGER_CAPTURE makes die 0 start a capture at once with the given number. -/
  | triggerCapture (d : Nat) (m : MgmtMessage)
  /-- READ_FABRIC_TIME (R657): READ_FABRIC_TIME returns die 0's fabric time. -/
  | readFabricTime (d : Nat) (m : MgmtMessage)
  /-- POWER_REQ (R601): A POWER_REQ write asks the power unit for a state, refused under the quiesce and relay conditions. -/
  | powerReq (f off : Nat) (request : BitVec 3)
  /-- CREASE_IDLE (R599): A die idle for CREASE_IDLE_NS under a Creased floor enters Creased. -/
  | creaseIdle (d : Nat)
  /-- FOLD_IDLE (R600): A die idle for FOLD_IDLE_US under a Folded floor enters Folded. -/
  | foldIdle (d : Nat)
  /-- WAKE_EVENT (R599): A doorbell, local packet, register write, timer or firmware request returns a floored die to Open. -/
  | wakeEvent (d : Nat) (cause : WakeCause)
  /-- POWER_TRANSITION_DONE (R602): A transition to or from Pressed, Boarded or Shelved completes after firmware saves or restores die state. -/
  | powerTransitionDone
  /-- MCTP_WAKE (R605): An MCTP control request over I3C in Shelved wakes the part. -/
  | mctpWake (eid : Byte) (request : List Byte)
  /-- MCTP_SET_ENDPOINT_ID (R666): The MCTP Set Endpoint ID message sets the I3C target's endpoint ID. -/
  | mctpSetEndpointId (eid : Byte)
  /-- MCTP_GET_ENDPOINT_ID (R666): The MCTP Get Endpoint ID message returns the endpoint ID. -/
  | mctpGetEndpointId
  /-- MCTP_GET_VERSION_SUPPORT (R666): The MCTP Get MCTP Version Support message returns the versions supported. -/
  | mctpGetVersionSupport (msgType : Byte)
  /-- MCTP_GET_MESSAGE_TYPE_SUPPORT (R666): The MCTP Get Message Type Support message returns the types supported. -/
  | mctpGetMessageTypeSupport
  /-- MCTP_UNSUPPORTED_MESSAGE (R666): Any other MCTP message is refused with ERROR_UNSUPPORTED_CMD. -/
  | mctpUnsupportedMessage (code : Byte)
  /-- GOVERNOR_PERIOD (R607): Every 40 ns the governor estimates rail currents and sets the issue allowed, running ballast when work falls too fast. -/
  | governorPeriod (d : Nat) (fixed perPercent : List Nat) (wanted : Nat)
  /-- BUDGET_UPDATE (R613): Every 1 ms the Spine sets each die's budget within the package limit. -/
  | budgetUpdate (watts : List Nat)
  /-- BRAKE_ASSERT (R618): POWER_BRAKE_N asserted for 80 ns applies BRAKE_PERCENT as the brake cap. -/
  | brakeAssert
  /-- BRAKE_DEASSERT (R618): POWER_BRAKE_N deasserted lifts the brake cap. -/
  | brakeDeassert
  /-- THERMAL_SAMPLE (R619): Every 10 µs TJ_C is refreshed and the thermal cap, THERM_ALERT_N and TRIP are updated. -/
  | thermalSample (d tj : Nat)
  /-- TRIP_CLEAR (R621): A W1C write of TRIP clears it, refused while TJ_C is above ALERT_C. -/
  | tripClear (d : Nat)
  /-- THERM_TABLE_WRITE (R630): A THERM_TABLE write is refused unless the table stays ascending and within limits. -/
  | thermTableWrite (d j : Nat) (value : Word)
  /-- PLL_LOCK_LOSS (R623): A PLL out of lock for 1 µs holds its islands' reset domain in reset. -/
  | pllLockLoss (d : Nat) (pll : Pll)
  /-- PLL_RELOCK (R623): A PLL relocks and its islands leave reset. -/
  | pllRelock (d : Nat) (pll : Pll)
  /-- CAP_CMD_GO (R632): A write of CAP_CMD.GO triggers a capture with NEXT_NUMBER. -/
  | capCmdGo (d : Nat)
  /-- CAP_TIME_MATCH (R632): Fabric time reaching CAP_TIME triggers a capture and clears TIME_EN. -/
  | capTimeMatch (d : Nat)
  /-- COLOPHON_IN (R632): COLOPHON_IN low for 80 ns after 1 µs high triggers a capture on die 0. -/
  | colophonIn
  /-- COLOPHON_OUT_RELEASE (R634): 1 µs after a capture starts die 0 releases COLOPHON_OUT. -/
  | colophonOutRelease
  /-- MARKER_ARRIVAL (R635): A marker reaching a page latches its counters if armed, forwards markers and closes input channels. -/
  | markerArrival (d page channel : Nat) (number : Word)
  /-- COLOPHON_MARKER (R641): A COLOPHON_MARKER packet on a link closes its virtual channel and, on VC 10 or the lowest granted VC, triggers the far colophon block. -/
  | colophonMarker (d port vc : Nat) (p : Packet)
  /-- CHANNEL_TIMEOUT (R639): An input channel still open CHANNEL_TIMEOUT_US after the latch closes with TIMEOUT. -/
  | channelTimeout (d page channel : Nat)
  /-- PACKAGE_TIME_SYNC (R654): Every 1 µs die 0 sends its fabric time on VC 10 and the other dies align to it. -/
  | packageTimeSync (d : Nat)
  /-- PTP_SYNC_LOSS (R656): No Sync for 3 s clears PTP_LOCKED and fabric time runs on at the last rate. -/
  | ptpSyncLoss
  /-- ETH_ALIGN_TIMEOUT (R298): An Ethernet port that has not achieved block and alignment lock on every lane within 5 ms of entering ALIGN goes DOWN and from there to TRAINING or DISABLED. -/
  | ethAlignTimeout (d k : Nat)
  /-- ENTROPY_HEALTH_PASS (R582): The entropy source passes its repetition count and adaptive proportion tests again, the standing failure clears, the DRBG reseeds and the cipher engine begins descriptors again. -/
  | entropyHealthPass (d : Nat)
  deriving DecidableEq, Repr

end Sys2Proof
end

