-- ==== Sys2Proof/Machine/Bits.lean ====
section
/-!
DEFINITION. Bit fields, byte orders (R8, R9), serial comparison (R175, R223) and maps by address. A map is a list of
key and value pairs with keys strictly rising, so that equal maps are equal lists.
-/

namespace Sys2Proof.Machine

/-- Bits [hi:lo] of a number (R7). -/
def bits (x hi lo : Nat) : Nat := x / 2 ^ lo % 2 ^ (hi + 1 - lo)

/-- Bit n of a number (R7). -/
def bit (x n : Nat) : Bool := x / 2 ^ n % 2 == 1

/-- The number of a truth value. -/
def b2n (b : Bool) : Nat := if b then 1 else 0

/-- `x` with its bits [hi:lo] replaced by `v`. -/
def setBits (x hi lo v : Nat) : Nat :=
  x - bits x hi lo * 2 ^ lo + v % 2 ^ (hi + 1 - lo) * 2 ^ lo

/-- The largest of a list, 0 when it is empty. -/
def maxOf (l : List Nat) : Nat := l.foldl max 0

/-- ⌈a / b⌉. -/
def ceilDiv (a b : Nat) : Nat := (a + b - 1) / b

/-- The number that little-endian bytes hold (R8). -/
def fromLE : List Byte → Nat
  | [] => 0
  | b :: bs => b.toNat + 256 * fromLE bs

/-- The number that bytes hold, most significant byte first (R9). -/
def fromBE (bs : List Byte) : Nat := bs.foldl (fun a b => a * 256 + b.toNat) 0

/-- `n` bytes of a number, little-endian (R8). -/
def toLE : Nat → Nat → List Byte
  | 0, _ => []
  | n + 1, x => BitVec.ofNat 8 x :: toLE n (x / 256)

/-- `n` bytes of a number, most significant byte first (R9). -/
def toBE (n x : Nat) : List Byte := (toLE n x).reverse

/-- `n` bytes from offset `o`; bytes beyond the end are absent. -/
def slice (bs : List Byte) (o n : Nat) : List Byte := (bs.drop o).take n

/-- The little-endian number in bytes [o, o + n). -/
def le (bs : List Byte) (o n : Nat) : Nat := fromLE (slice bs o n)

/-- The big-endian number in bytes [o, o + n). -/
def be (bs : List Byte) (o n : Nat) : Nat := fromBE (slice bs o n)

/-- `n` zero bytes. -/
def zeros (n : Nat) : List Byte := List.replicate n 0

/-- Whether every byte is zero (R10). -/
def allZero (bs : List Byte) : Bool := bs.all (· == 0)

/-- PSN or index `a` is before `b`: (b − a) mod 2^32 lies between 1 and 2^31 − 1 (R175). -/
def before (a b : Word) : Bool := 0 < (b - a).toNat && (b - a).toNat < 2 ^ 31

/-- Serial comparison of 48-bit tags: `a` before `b` (R223). -/
def tagBefore (a b : BitVec 48) : Bool := 0 < (b - a).toNat && (b - a).toNat < 2 ^ 47

/-- The value at a key of a map. -/
def FMap.get? {α : Type} : List (Nat × α) → Nat → Option α
  | [], _ => none
  | (k', v) :: m, k => if k' = k then some v else if k < k' then none else FMap.get? m k

/-- A map with a value put at a key. -/
def FMap.set {α : Type} : List (Nat × α) → Nat → α → List (Nat × α)
  | [], k, v => [(k, v)]
  | (k', v') :: m, k, v =>
    if k' = k then (k, v) :: m else if k < k' then (k, v) :: (k', v') :: m else (k', v') :: FMap.set m k v

/-- A map with a key removed. -/
def FMap.erase {α : Type} : List (Nat × α) → Nat → List (Nat × α)
  | [], _ => []
  | (k', v') :: m, k => if k' = k then m else if k < k' then (k', v') :: m else (k', v') :: FMap.erase m k

/-- Every key of the map is above `b`, and the keys rise strictly. -/
def FMap.wfFrom {α : Type} : Nat → List (Nat × α) → Bool
  | _, [] => true
  | b, (k, _) :: m => decide (b ≤ k) && FMap.wfFrom (k + 1) m

/-- The keys rise strictly. -/
abbrev FMap.wf {α : Type} (m : List (Nat × α)) : Bool := FMap.wfFrom 0 m

/-- A map changed at one key, where the key is present. -/
def FMap.modify {α : Type} (m : List (Nat × α)) (k : Nat) (f : α → α) : List (Nat × α) :=
  m.map fun p => if p.1 = k then (p.1, f p.2) else p

/-- A list with its entry `i` changed. -/
def modifyAt {α : Type} (l : List α) (i : Nat) (f : α → α) : List α :=
  match l[i]? with
  | some x => l.set i (f x)
  | none => l

/-- The lowest number below `n` that `p` admits. -/
def lowestBelow (n : Nat) (p : Nat → Bool) : Option Nat := (List.range n).find? p

/-- The exclusive or of two byte lists, over the shorter. -/
def xorBytes (a b : List Byte) : List Byte := List.zipWith (· ^^^ ·) a b

/-- A list cut into pieces of `n`, the last one shorter; `fuel` bounds the number of pieces. -/
def chunksOf {α : Type} (n : Nat) : Nat → List α → List (List α)
  | 0, _ => []
  | fuel + 1, l => if l.isEmpty then [] else l.take n :: chunksOf n fuel (l.drop n)

/-- A list cut into pieces of `n` (at least 1), the last one shorter. -/
def pieces {α : Type} (n : Nat) (l : List α) : List (List α) := chunksOf (max n 1) l.length l

/-- The bits of a number below 2^n that are 1, lowest first. -/
def bitsSet (n x : Nat) : List Nat := (List.range n).filter (bit x)

/-- The number whose 1 bits are the given ones. -/
def maskOf (l : List Nat) : Nat := l.foldl (fun a n => a ||| 2 ^ n) 0

/-- Reversal of the low `n` bits. -/
def reflect : Nat → Nat → Nat
  | 0, _ => 0
  | n + 1, x => x % 2 * 2 ^ n + reflect n (x / 2)

/-- One step of a reflected CRC with the reflected polynomial `poly`. -/
def crcStep (poly c : Nat) : Nat := (c / 2) ^^^ (poly * (c % 2))

/-- One byte into a reflected CRC. -/
def crcByte (poly c : Nat) (b : Byte) : Nat :=
  Nat.repeat (crcStep poly) 8 (c ^^^ b.toNat)

/-- A reflected 32-bit CRC with initial value and final complement 0xFFFF_FFFF. -/
def crcReflected (poly : Nat) (bs : List Byte) : Word :=
  BitVec.ofNat 32 (bs.foldl (crcByte poly) 0xFFFFFFFF ^^^ 0xFFFFFFFF)

/-- CRC-32 of IEEE 802.3, polynomial 0x04C1_1DB7, which guards a link frame (R248). -/
def crc32 (bs : List Byte) : Word := crcReflected 0xEDB88320 bs

/-- CRC-32C, which guards a tally block. -/
def crc32c (bs : List Byte) : Word := crcReflected 0x82F63B78 bs

end Sys2Proof.Machine
end

