-- ==== Sys2Proof/Machine/Crypto.lean ====
section
/-!
DEFINITION. The cryptographic functions that the spec names: AES-256 (FIPS 197) with its GCM, XTS, CBC and CMAC modes,
SHA-384 (FIPS 180-4), HMAC and HKDF over it.
-/

namespace Sys2Proof.Machine

/-! ### AES-256 -/

/-- Multiplication by x in the field of AES. -/
def gfDouble (a : Nat) : Nat := if 128 ≤ a then (2 * a) % 256 ^^^ 0x1B else 2 * a

/-- Multiplication in the field of AES, over the low `n` bits of `b`. -/
def gfMulTo : Nat → Nat → Nat → Nat
  | 0, _, _ => 0
  | n + 1, a, b => (if b % 2 = 1 then a else 0) ^^^ gfMulTo n (gfDouble a) (b / 2)

/-- Multiplication in the field of AES. -/
def gfMul (a b : Nat) : Nat := gfMulTo 8 a b

/-- The inverse in the field of AES, a^254; 0 for 0. -/
def gfInv (a : Nat) : Nat :=
  let a2 := gfMul a a
  let a4 := gfMul a2 a2
  let a8 := gfMul a4 a4
  let a16 := gfMul a8 a8
  let a32 := gfMul a16 a16
  let a64 := gfMul a32 a32
  let a128 := gfMul a64 a64
  gfMul a2 (gfMul a4 (gfMul a8 (gfMul a16 (gfMul a32 (gfMul a64 a128)))))

/-- Rotation of a byte to the left. -/
def rotByte (a n : Nat) : Nat := (a * 2 ^ n) % 256 + a / 2 ^ (8 - n)

/-- Entry `i` of a list of numbers, 0 beyond its end. -/
def nth (l : List Nat) (i : Nat) : Nat := (l[i]?).getD 0

/-- The substitution of AES as FIPS 197 tabulates it: row x, sixteen entries, is for the bytes with x as high digit. -/
def subRows : List Nat :=
  [0x637C777BF26B6FC53001672BFED7AB76, 0xCA82C97DFA5947F0ADD4A2AF9CA472C0, 0xB7FD9326363FF7CC34A5E5F171D83115,
   0x04C723C31896059A071280E2EB27B275, 0x09832C1A1B6E5AA0523BD6B329E32F84, 0x53D100ED20FCB15B6ACBBE394A4C58CF,
   0xD0EFAAFB434D338545F9027F503C9FA8, 0x51A3408F929D38F5BCB6DA2110FFF3D2, 0xCD0C13EC5F974417C4A77E3D645D1973,
   0x60814FDC222A908846EEB814DE5E0BDB, 0xE0323A0A4906245CC2D3AC629195E479, 0xE7C8376D8DD54EA96C56F4EA657AAE08,
   0xBA78252E1CA6B4C6E8DD741F4BBD8B8A, 0x703EB5664803F60E613557B986C11D9E, 0xE1F8981169D98E949B1E87E9CE5528DF,
   0x8CA1890DBFE6426841992D0FB054BB16]

/-- The substitution of AES. -/
def subByte (a : Nat) : Nat := nth subRows (a / 16) / 256 ^ (15 - a % 16) % 256

/-- The inverse substitution. -/
def invSubByte (a : Nat) : Nat := gfInv (rotByte a 1 ^^^ rotByte a 3 ^^^ rotByte a 6 ^^^ 0x05)

/-- Words of the key schedule of AES-256, latest first: `n` more words after those of `ws`. -/
def expandKey : Nat → List (List Nat) → List (List Nat)
  | 0, ws => ws
  | n + 1, ws =>
    let i := ws.length
    let t := (ws.head?).getD []
    let t := if i % 8 = 0 then
        let r := (t.drop 1 ++ t.take 1).map subByte
        ((nth r 0) ^^^ 2 ^ (i / 8 - 1)) :: r.drop 1
      else if i % 8 = 4 then t.map subByte else t
    expandKey n (List.zipWith (· ^^^ ·) ((ws[7]?).getD []) t :: ws)

/-- The fifteen round keys of AES-256, 16 bytes each. -/
def roundKeys (key : List Byte) : List (List Nat) :=
  let ws := (expandKey 52 ((pieces 4 (key.map (·.toNat))).reverse)).reverse
  (pieces 4 ws).map List.flatten

/-- ShiftRows by a permutation of the 16 bytes in column order: row r moves `k` × r columns. -/
def shiftRows (k : Nat) (st : List Nat) : List Nat :=
  (List.range 16).map fun i => nth st ((i + k * 4 * (i % 4)) % 16)

/-- One column times the circulant matrix with first row `m`, of numbers below 16. -/
def mixColumn (m c : List Nat) : List Nat :=
  (List.range 4).map fun r => (List.range 4).foldl (fun a j => a ^^^ gfMulTo 4 (nth c j) (nth m ((j + 4 - r) % 4))) 0

/-- MixColumns with a matrix's first row. -/
def mixColumns (m st : List Nat) : List Nat := (pieces 4 st).flatMap (mixColumn m)

/-- One block of AES-256 encrypted. -/
def aesEncrypt (key block : List Byte) : List Byte :=
  let ks := roundKeys key
  let add (st k : List Nat) : List Nat := List.zipWith (· ^^^ ·) st k
  let st := add (block.map (·.toNat)) ((ks[0]?).getD [])
  let st := ((ks.drop 1).take 13).foldl (fun st k => add (mixColumns [2, 3, 1, 1] (shiftRows 1 (st.map subByte))) k) st
  (add (shiftRows 1 (st.map subByte)) ((ks[14]?).getD [])).map (BitVec.ofNat 8)

/-- One block of AES-256 decrypted. -/
def aesDecrypt (key block : List Byte) : List Byte :=
  let ks := roundKeys key
  let add (st k : List Nat) : List Nat := List.zipWith (· ^^^ ·) st k
  let st := add (block.map (·.toNat)) ((ks[14]?).getD [])
  let st := ((ks.drop 1).take 13).reverse.foldl
    (fun st k => mixColumns [14, 11, 13, 9] (add ((shiftRows 3 st).map invSubByte) k)) st
  (add ((shiftRows 3 st).map invSubByte) ((ks[0]?).getD [])).map (BitVec.ofNat 8)

/-! ### GCM -/

/-- Multiplication in the field of GCM: numbers hold 128 bits with the first bit most significant. -/
def ghashMulTo : Nat → Nat → Nat → Nat
  | 0, _, _ => 0
  | n + 1, x, v => (if bit x n then v else 0) ^^^ ghashMulTo n x (if v % 2 = 1 then v / 2 ^^^ 0xE1 * 2 ^ 120 else v / 2)

/-- Zero padding to whole 16-byte blocks. -/
def pad16 (bs : List Byte) : List Byte := bs ++ zeros ((16 - bs.length % 16) % 16)

/-- GHASH of a string of whole blocks. -/
def ghash (h : Nat) (bs : List Byte) : Nat :=
  (pieces 16 bs).foldl (fun y b => ghashMulTo 128 (y ^^^ fromBE b) h) 0

/-- Counter-mode keystream over `bs` from a 128-bit counter block whose last 32 bits count. -/
def ctrMode (key : List Byte) (ctr : Nat) (bs : List Byte) : List Byte :=
  (pieces 16 bs).zipIdx.flatMap fun b =>
    let c := ctr / 2 ^ 32 * 2 ^ 32 + (ctr + b.2) % 2 ^ 32
    xorBytes b.1 (aesEncrypt key (toBE 16 c))

/-- The tag of AES-256-GCM over additional data and ciphertext, for a 96-bit IV. -/
def gcmTag (key iv aad cipher : List Byte) : List Byte :=
  let h := fromBE (aesEncrypt key (zeros 16))
  let y := ghash h (pad16 aad ++ pad16 cipher ++ toBE 8 (8 * aad.length) ++ toBE 8 (8 * cipher.length))
  xorBytes (toBE 16 y) (aesEncrypt key (iv ++ toBE 4 1))

/-- AES-256-GCM of a text under a 96-bit IV, without the tag; encryption and decryption are the same. -/
def gcmCrypt (key iv text : List Byte) : List Byte := ctrMode key (fromBE (iv ++ toBE 4 2)) text

/-! ### CMAC, CBC and XTS -/

/-- Doubling of a 128-bit block, first bit most significant. -/
def cmacDouble (x : Nat) : Nat := if 2 ^ 127 ≤ x then (2 * x) % 2 ^ 128 ^^^ 0x87 else 2 * x

/-- AES-256-CMAC of a message. -/
def cmac (key msg : List Byte) : List Byte :=
  let k1 := cmacDouble (fromBE (aesEncrypt key (zeros 16)))
  let full := msg.length ≠ 0 ∧ msg.length % 16 = 0
  let n := if full then msg.length - 16 else msg.length / 16 * 16
  let last := msg.drop n
  let m := if full then xorBytes last (toBE 16 k1)
    else xorBytes (pad16 (last ++ [0x80])) (toBE 16 (cmacDouble k1))
  let c := (pieces 16 (msg.take n)).foldl (fun c b => aesEncrypt key (xorBytes c b)) (zeros 16)
  aesEncrypt key (xorBytes c m)

/-- CBC encryption of whole blocks. -/
def cbcEncrypt (key iv bs : List Byte) : List Byte :=
  ((pieces 16 bs).foldl (fun a b => let c := aesEncrypt key (xorBytes a.1 b); (c, a.2 ++ c)) (iv, [])).2

/-- CBC decryption of whole blocks. -/
def cbcDecrypt (key iv bs : List Byte) : List Byte :=
  ((pieces 16 bs).foldl (fun a b => (b, a.2 ++ xorBytes a.1 (aesDecrypt key b))) (iv, [])).2

/-- Multiplication of an XTS tweak, little-endian, by x. -/
def xtsDouble (t : Nat) : Nat := if 2 ^ 127 ≤ t then (2 * t) % 2 ^ 128 ^^^ 0x87 else 2 * t

/-- One XTS block under a tweak. -/
def xtsBlock (f : List Byte → List Byte → List Byte) (key : List Byte) (t : Nat) (b : List Byte) : List Byte :=
  xorBytes (f key (xorBytes b (toLE 16 t))) (toLE 16 t)

/-- The tweak of block `n` of a data unit. -/
def xtsTweak (key2 tweak : List Byte) (n : Nat) : Nat :=
  (List.range n).foldl (fun t _ => xtsDouble t) (fromLE (aesEncrypt key2 tweak))

/-- XTS over a data unit of at least 16 bytes, with ciphertext stealing for its last part (IEEE 1619). -/
def xtsCrypt (enc : Bool) (key1 key2 tweak bs : List Byte) : List Byte :=
  let f := if enc then aesEncrypt else aesDecrypt
  let n := bs.length / 16
  let r := bs.length % 16
  let whole := if r = 0 then n else n - 1
  let head := (pieces 16 (bs.take (16 * whole))).zipIdx.flatMap fun b => xtsBlock f key1 (xtsTweak key2 tweak b.2) b.1
  if r = 0 then head
  else
    let t1 := xtsTweak key2 tweak (n - 1)
    let t2 := xtsTweak key2 tweak n
    let a := slice bs (16 * (n - 1)) 16
    let b := bs.drop (16 * n)
    let c := xtsBlock f key1 (if enc then t1 else t2) a
    head ++ xtsBlock f key1 (if enc then t2 else t1) (b ++ c.drop r) ++ c.take r

/-! ### SHA-384, HMAC and HKDF -/

/-- The largest root of degree `k` of `x`, over `n` bits. -/
def rootTo (k x : Nat) : Nat → Nat → Nat
  | 0, a => a
  | n + 1, a => rootTo k x n (if (a + 2 ^ n) ^ k ≤ x then a + 2 ^ n else a)

/-- Whether a number has no divisor from 2 to 20; for the primes below 441. -/
def isSmallPrime (n : Nat) : Bool := decide (2 ≤ n) && (List.range 20).all fun d => decide (d < 2 || n ≤ d) || n % d != 0

/-- The primes below 410, the first 80. -/
def smallPrimes : List Nat := (List.range 410).filter isSmallPrime

/-- The round constants: 64 bits of the fraction of the cube roots of the primes. -/
def shaK : List Nat := smallPrimes.map fun p => rootTo 3 (p * 2 ^ 192) 68 0 % 2 ^ 64

/-- The initial hash of SHA-384: 64 bits of the fraction of the square roots of the ninth to sixteenth primes. -/
def shaInit : List Nat := ((smallPrimes.drop 8).take 8).map fun p => rootTo 2 (p * 2 ^ 128) 68 0 % 2 ^ 64

/-- Rotation of a 64-bit word to the right. -/
def rotr (x n : Nat) : Nat := x / 2 ^ n + x % 2 ^ n * 2 ^ (64 - n)

/-- The message schedule, latest word first: `n` more words. -/
def shaSchedule : Nat → List Nat → List Nat
  | 0, ws => ws
  | n + 1, ws =>
    let x := nth ws 14
    let y := nth ws 1
    let s0 := rotr x 1 ^^^ rotr x 8 ^^^ x / 2 ^ 7
    let s1 := rotr y 19 ^^^ rotr y 61 ^^^ y / 2 ^ 6
    shaSchedule n ((nth ws 15 + s0 + nth ws 6 + s1) % 2 ^ 64 :: ws)

/-- One round of SHA-512's compression. -/
def shaRound (v : List Nat) (kw : Nat) : List Nat :=
  let a := nth v 0
  let e := nth v 4
  let s1 := rotr e 14 ^^^ rotr e 18 ^^^ rotr e 41
  let ch := (e &&& nth v 5) ^^^ ((2 ^ 64 - 1 - e) &&& nth v 6)
  let t1 := nth v 7 + s1 + ch + kw
  let s0 := rotr a 28 ^^^ rotr a 34 ^^^ rotr a 39
  let mj := (a &&& nth v 1) ^^^ (a &&& nth v 2) ^^^ (nth v 1 &&& nth v 2)
  [(t1 + s0 + mj) % 2 ^ 64, a, nth v 1, nth v 2, (nth v 3 + t1) % 2 ^ 64, e, nth v 5, nth v 6]

/-- One block of 128 bytes into the hash. -/
def shaBlock (ks h : List Nat) (b : List Byte) : List Nat :=
  let ws := (shaSchedule 64 ((pieces 8 b).map fromBE).reverse).reverse
  let v := (List.zipWith (· + ·) ks ws).foldl shaRound h
  List.zipWith (fun a b => (a + b) % 2 ^ 64) h v

/-- SHA-384 of a message. -/
def sha384 (m : List Byte) : List Byte :=
  let p := m ++ [0x80] ++ zeros ((239 - m.length % 128) % 128) ++ toBE 16 (8 * m.length)
  (((pieces 128 p).foldl (shaBlock shaK) shaInit).take 6).flatMap (toBE 8)

/-- HMAC-SHA-384. -/
def hmac (key m : List Byte) : List Byte :=
  let k := if 128 < key.length then sha384 key else key
  let k := k ++ zeros (128 - k.length)
  sha384 (k.map (· ^^^ 0x5C) ++ sha384 (k.map (· ^^^ 0x36) ++ m))

/-- HKDF-SHA-384 of at most 48 bytes. -/
def hkdf (ikm salt info : List Byte) (n : Nat) : List Byte := (hmac (hmac salt ikm) (info ++ [1])).take n

end Sys2Proof.Machine
end

