-- ==== Sys2Proof/Machine/Curve.lean ====
section
/-!
DEFINITION. The curve brainpoolP384r1 (RFC 5639) with ECDSA and ECDH over it, by which the part verifies images and
tokens, signs reports and unwraps keys (R562, R575, R581, R592).
-/

namespace Sys2Proof.Machine

/-- The field prime of brainpoolP384r1. -/
def bpP : Nat :=
  0x8CB91E82A3386D280F5D6F7E50E641DF152F7109ED5456B412B1DA197FB71123ACD3A729901D1A71874700133107EC53

/-- The coefficients of the curve, y² = x³ + ax + b. -/
def bpA : Nat :=
  0x7BC382C63D8C150C3C72080ACE05AFA0C2BEA28E4FB22787139165EFBA91F90F8AA5814A503AD4EB04A8C7DD22CE2826
def bpB : Nat :=
  0x04A8C7DD22CE28268B39B55416F0447C2FB77DE107DCD2A62E880EA53EEB62D57CB4390295DBC9943AB78696FA504C11

/-- The base point and its order. -/
def bpG : Nat × Nat :=
  (0x1D1C64F068CF45FFA2A63A81B7C13F6B8847A3E77EF14FE3DB7FCAFE0CBD10E8E826E03436D646AAEF87B2E247D4AF1E,
   0x8ABE1D7520F9C2A45CB1EB8E95CFD55262B70B29FEEC5864E19C054FF99129280E4646217791811142820341263C5315)
def bpQ : Nat :=
  0x8CB91E82A3386D280F5D6F7E50E641DF152F7109ED5456B31F166E6CAC0425A7CF3AB6AF6B7FC3103B883202E9046565

/-- x^e modulo m, over the low `n` bits of `e`. -/
def powMod (m x e : Nat) : Nat → Nat
  | 0 => 1 % m
  | n + 1 =>
    let h := powMod m x (e / 2) n
    h * h % m * (if e % 2 = 1 then x % m else 1) % m

/-- The inverse modulo a prime of 384 bits; 0 for 0. -/
def invMod (m x : Nat) : Nat := powMod m x (m - 2) 384

/-- The sum of two points of the curve, none for the point at infinity. -/
def ecAdd : Option (Nat × Nat) → Option (Nat × Nat) → Option (Nat × Nat)
  | none, q => q
  | p, none => p
  | some (x1, y1), some (x2, y2) =>
    let p := bpP
    if x1 = x2 ∧ (y1 + y2) % p = 0 then none
    else
      let l := if x1 = x2 then (3 * x1 * x1 + bpA) * invMod p (2 * y1) % p else (y2 + p - y1) * invMod p ((x2 + p - x1) % p) % p
      let x3 := (l * l + 2 * p - x1 - x2) % p
      some (x3, (l * (x1 + p - x3) + p - y1) % p)

/-- A multiple of a point, over the low `n` bits of the scalar. -/
def ecMulTo (g : Option (Nat × Nat)) : Nat → Nat → Option (Nat × Nat)
  | 0, _ => none
  | n + 1, k =>
    let h := ecMulTo g n (k / 2)
    let d := ecAdd h h
    if k % 2 = 1 then ecAdd d g else d

/-- A multiple of a point. -/
def ecMul (k : Nat) (g : Nat × Nat) : Option (Nat × Nat) := ecMulTo (some g) 384 k

/-- Whether a pair of numbers is a point of the curve. -/
def onCurve (g : Nat × Nat) : Bool :=
  decide (g.1 < bpP ∧ g.2 < bpP) && (g.2 * g.2 % bpP == (g.1 * g.1 % bpP * g.1 + bpA * g.1 + bpB) % bpP)

/-- A point from its 97 bytes, uncompressed. -/
def pointOf (bs : List Byte) : Option (Nat × Nat) :=
  let g := (be bs 1 48, be bs 49 48)
  if bs.length = 97 ∧ le bs 0 1 = 4 ∧ onCurve g then some g else none

/-- The 97 bytes of a point, uncompressed; zeros for the point at infinity. -/
def pointBytes : Option (Nat × Nat) → List Byte
  | some g => [4] ++ toBE 48 g.1 ++ toBE 48 g.2
  | none => zeros 97

/-- Whether an ECDSA signature, r then s of 48 bytes each, verifies over a 48-byte digest with a public key. -/
def ecdsaVerify (key : Nat × Nat) (digest sig : List Byte) : Bool :=
  let r := be sig 0 48
  let t := be sig 48 48
  if sig.length = 96 ∧ 0 < r ∧ r < bpQ ∧ 0 < t ∧ t < bpQ then
    let w := invMod bpQ t
    match ecAdd (ecMul (fromBE digest * w % bpQ) bpG) (ecMul (r * w % bpQ) key) with
    | some g => g.1 % bpQ == r
    | none => false
  else false

/-- The ECDSA signature of a 48-byte digest with a private key and the number `k` of that signature. -/
def ecdsaSign (key k : Nat) (digest : List Byte) : List Byte :=
  let r := match ecMul (k % bpQ) bpG with
    | some g => g.1 % bpQ
    | none => 0
  toBE 48 r ++ toBE 48 (invMod bpQ (k % bpQ) * (fromBE digest + r * key) % bpQ)

end Sys2Proof.Machine
end

