-- ==== Sys2Proof/Machine/Counters.lean ====
section
/-!
DEFINITION. The live counters of each page by number (R56), as the counter tables of the chapters name them. Counter 0
of every page is ACCESS_REJECTS (R55).
-/

namespace Sys2Proof.Machine.Ctr

/-- DOORBELL_DROPS of the pcie page. -/
abbrev pcieDoorbellDrops : Nat := 1
/-- HOST_READ_ERRORS of the pcie page. -/
abbrev pcieHostReadErrors : Nat := 2
/-- FLUSH_READBACKS of the pcie page. -/
abbrev pcieFlushReadbacks : Nat := 3
/-- LINK_RETRAINS of the pcie page. -/
abbrev pcieLinkRetrains : Nat := 4
/-- DOORBELLS_ACCEPTED of the queuePage page. -/
abbrev queuePageDoorbellsAccepted : Nat := 1
/-- DESCRIPTORS_EXECUTED of the queuePage page. -/
abbrev queuePageDescriptorsExecuted : Nat := 2
/-- COMPLETIONS_WRITTEN of the queuePage page. -/
abbrev queuePageCompletionsWritten : Nat := 3
/-- STALE_REFETCHES of the queuePage page. -/
abbrev queuePageStaleRefetches : Nat := 4
/-- QUEUE_STOPS of the queuePage page. -/
abbrev queuePageQueueStops : Nat := 5
/-- CONTROL_REJECTS of the queuePage page. -/
abbrev queuePageControlRejects : Nat := 6
/-- ARRIVALS_WRITTEN of the queuePage page. -/
abbrev queuePageArrivalsWritten : Nat := 7
/-- ARRIVALS_DROPPED of the queuePage page. -/
abbrev queuePageArrivalsDropped : Nat := 8
/-- PACKETS_SENT of the tx page. -/
abbrev txPacketsSent : Nat := 1
/-- BYTES_SENT of the tx page. -/
abbrev txBytesSent : Nat := 2
/-- FAST_RETRANSMITS of the tx page. -/
abbrev txFastRetransmits : Nat := 3
/-- TIMEOUT_RETRANSMITS of the tx page. -/
abbrev txTimeoutRetransmits : Nat := 4
/-- RTO_EXPIRIES of the tx page. -/
abbrev txRtoExpiries : Nat := 5
/-- CTX_HITS of the tx page. -/
abbrev txCtxHits : Nat := 6
/-- CTX_MISSES of the tx page. -/
abbrev txCtxMisses : Nat := 7
/-- CTX_WRITEBACKS of the tx page. -/
abbrev txCtxWritebacks : Nat := 8
/-- QP_ERRORS of the tx page. -/
abbrev txQpErrors : Nat := 9
/-- FAULT_WAITS of the tx page. -/
abbrev txFaultWaits : Nat := 10
/-- PACKETS_ACCEPTED of the rx page. -/
abbrev rxPacketsAccepted : Nat := 1
/-- BYTES_PLACED of the rx page. -/
abbrev rxBytesPlaced : Nat := 2
/-- DUPLICATES of the rx page. -/
abbrev rxDuplicates : Nat := 3
/-- BEYOND_REACH of the rx page. -/
abbrev rxBeyondReach : Nat := 4
/-- PSN_OUT_OF_WINDOW of the rx page. -/
abbrev rxPsnOutOfWindow : Nat := 5
/-- TALLY_DISCARDS of the rx page. -/
abbrev rxTallyDiscards : Nat := 6
/-- GCM_DISCARDS of the rx page. -/
abbrev rxGcmDiscards : Nat := 7
/-- PEER_MISMATCH_DROPS of the rx page. -/
abbrev rxPeerMismatchDrops : Nat := 8
/-- CTX_MISS_DROPS of the rx page. -/
abbrev rxCtxMissDrops : Nat := 9
/-- ACKS_SENT of the rx page. -/
abbrev rxAcksSent : Nat := 10
/-- NAKS_SENT of the rx page. -/
abbrev rxNaksSent : Nat := 11
/-- PACKETS_CLASS of the sched page, first of eight by class or priority. -/
abbrev schedPacketsClass : Nat := 1
/-- BYTES_CLASS of the sched page, first of eight by class or priority. -/
abbrev schedBytesClass : Nat := 9
/-- PAUSED_NS_CLASS of the sched page, first of eight by class or priority. -/
abbrev schedPausedNsClass : Nat := 17
/-- MARKED_CLASS of the sched page, first of eight by class or priority. -/
abbrev schedMarkedClass : Nat := 25
/-- SAMPLES of the sched page. -/
abbrev schedSamples : Nat := 33
/-- PACKETS_FORWARDED of the router0 page. -/
abbrev router0PacketsForwarded : Nat := 1
/-- BYTES_FORWARDED of the router0 page. -/
abbrev router0BytesForwarded : Nat := 2
/-- NO_ROUTE_DISCARDS of the router0 page. -/
abbrev router0NoRouteDiscards : Nat := 3
/-- HOP_LIMIT_DISCARDS of the router0 page. -/
abbrev router0HopLimitDiscards : Nat := 4
/-- DRAIN_DISCARDS of the router0 page. -/
abbrev router0DrainDiscards : Nat := 5
/-- ESCAPE_MOVES of the router0 page. -/
abbrev router0EscapeMoves : Nat := 6
/-- HEADER_DISCARDS of the router0 page. -/
abbrev router0HeaderDiscards : Nat := 7
/-- LOCAL_RESET_DISCARDS of the router0 page. -/
abbrev router0LocalResetDiscards : Nat := 8
/-- REPLICATED_COPIES of the router0 page. -/
abbrev router0ReplicatedCopies : Nat := 9
/-- REPLICATE_MISSES of the router0 page. -/
abbrev router0ReplicateMisses : Nat := 10
/-- REPLICATE_TALLY_DISCARDS of the router0 page. -/
abbrev router0ReplicateTallyDiscards : Nat := 11
/-- FIFO_RESETS of the router0 page. -/
abbrev router0FifoResets : Nat := 12
/-- FORCE_WRITES of the router0 page. -/
abbrev router0ForceWrites : Nat := 13
/-- OCCUPANCY of the pktBuf page. -/
abbrev pktBufOccupancy : Nat := 1
/-- PEAK_OCCUPANCY of the pktBuf page. -/
abbrev pktBufPeakOccupancy : Nat := 2
/-- FRAMES_RECEIVED of the alram page. -/
abbrev linkFramesReceived : Nat := 1
/-- FRAMES_SENT of the alram page. -/
abbrev linkFramesSent : Nat := 2
/-- CRC_DISCARDS of the alram page. -/
abbrev linkCrcDiscards : Nat := 3
/-- STOMPED_DISCARDS of the alram page. -/
abbrev linkStompedDiscards : Nat := 4
/-- LINK_DOWNS of the alram page. -/
abbrev linkLinkDowns : Nat := 5
/-- CREDIT_RESYNC_UNITS of the alram page. -/
abbrev linkCreditResyncUnits : Nat := 6
/-- FEC_CORRECTED_CODEWORDS of the alram page. -/
abbrev alramFecCorrectedCodewords : Nat := 7
/-- FEC_UNCORRECTED_CODEWORDS of the alram page. -/
abbrev alramFecUncorrectedCodewords : Nat := 8
/-- READ_TIMEOUTS of the alram page. -/
abbrev alramReadTimeouts : Nat := 9
/-- OP_DROPS of the alram page. -/
abbrev alramOpDrops : Nat := 10
/-- FLIT_RETRIES of the quire page. -/
abbrev quireFlitRetries : Nat := 7
/-- TX_FRAMES of the ethPort page. -/
abbrev ethPortTxFrames : Nat := 1
/-- TX_BYTES of the ethPort page. -/
abbrev ethPortTxBytes : Nat := 2
/-- TX_PFC_FRAMES of the ethPort page. -/
abbrev ethPortTxPfcFrames : Nat := 3
/-- RX_FRAMES_OK of the ethPort page. -/
abbrev ethPortRxFramesOk : Nat := 4
/-- RX_BYTES_OK of the ethPort page. -/
abbrev ethPortRxBytesOk : Nat := 5
/-- RX_FCS_ERRORS of the ethPort page. -/
abbrev ethPortRxFcsErrors : Nat := 6
/-- RX_LENGTH_ERRORS of the ethPort page. -/
abbrev ethPortRxLengthErrors : Nat := 7
/-- RX_FILTER_DROPS of the ethPort page. -/
abbrev ethPortRxFilterDrops : Nat := 8
/-- RX_CONTROL_DROPS of the ethPort page. -/
abbrev ethPortRxControlDrops : Nat := 9
/-- RX_ETHERTYPE_DROPS of the ethPort page. -/
abbrev ethPortRxEthertypeDrops : Nat := 10
/-- RX_IP_DROPS of the ethPort page. -/
abbrev ethPortRxIpDrops : Nat := 11
/-- RX_UDP_DROPS of the ethPort page. -/
abbrev ethPortRxUdpDrops : Nat := 12
/-- RX_TYPE_DROPS of the ethPort page. -/
abbrev ethPortRxTypeDrops : Nat := 13
/-- RX_BUFFER_DROPS of the ethPort page. -/
abbrev ethPortRxBufferDrops : Nat := 14
/-- PFC_HEADROOM_DROPS of the ethPort page. -/
abbrev ethPortPfcHeadroomDrops : Nat := 15
/-- RX_PFC_FRAMES of the ethPort page. -/
abbrev ethPortRxPfcFrames : Nat := 16
/-- RX_ECN_CE of the ethPort page. -/
abbrev ethPortRxEcnCe : Nat := 17
/-- FEC_CORRECTED_CODEWORDS of the ethPort page. -/
abbrev ethPortFecCorrectedCodewords : Nat := 18
/-- FEC_UNCORRECTED_CODEWORDS of the ethPort page. -/
abbrev ethPortFecUncorrectedCodewords : Nat := 19
/-- LINK_DOWNS of the ethPort page. -/
abbrev ethPortLinkDowns : Nat := 20
/-- PTP_RX_TIMESTAMPS of the ethPort page. -/
abbrev ethPortPtpRxTimestamps : Nat := 21
/-- PTP_TX_TIMESTAMPS of the ethPort page. -/
abbrev ethPortPtpTxTimestamps : Nat := 22
/-- PTP_DROPS of the ethPort page. -/
abbrev ethPortPtpDrops : Nat := 23
/-- RX_FRAMES_PRIO of the ethPort page, first of eight by class or priority. -/
abbrev ethPortRxFramesPrio : Nat := 24
/-- XOFF_SENT_PRIO of the ethPort page, first of eight by class or priority. -/
abbrev ethPortXoffSentPrio : Nat := 32
/-- WALKS of the xlate page. -/
abbrev xlateWalks : Nat := 1
/-- WALK_READS of the xlate page. -/
abbrev xlateWalkReads : Nat := 2
/-- FAULTS_RAISED of the xlate page. -/
abbrev xlateFaultsRaised : Nat := 3
/-- FAULTS_COALESCED of the xlate page. -/
abbrev xlateFaultsCoalesced : Nat := 4
/-- FAULTS_RESOLVED of the xlate page. -/
abbrev xlateFaultsResolved : Nat := 5
/-- FAULTS_ABORTED of the xlate page. -/
abbrev xlateFaultsAborted : Nat := 6
/-- RECORD_FULL_WAITS of the xlate page. -/
abbrev xlateRecordFullWaits : Nat := 7
/-- INVALIDATIONS of the xlate page. -/
abbrev xlateInvalidations : Nat := 8
/-- ACCESS_DENIED of the xlate page. -/
abbrev xlateAccessDenied : Nat := 9
/-- DOG_EARS of the xlate page. -/
abbrev xlateDogEars : Nat := 10
/-- FAULTS_RAISED of the xlateFn page. -/
abbrev xlateFnFaultsRaised : Nat := 1
/-- ACCESS_DENIED of the xlateFn page. -/
abbrev xlateFnAccessDenied : Nat := 2
/-- DOG_EARS of the xlateFn page. -/
abbrev xlateFnDogEars : Nat := 3
/-- READ_BYTES of the memCtl page. -/
abbrev memCtlReadBytes : Nat := 1
/-- WRITE_BYTES of the memCtl page. -/
abbrev memCtlWriteBytes : Nat := 2
/-- ECC_CORRECTED of the memCtl page. -/
abbrev memCtlEccCorrected : Nat := 3
/-- ECC_UNCORRECTED of the memCtl page. -/
abbrev memCtlEccUncorrected : Nat := 4
/-- SCRUB_PASSES of the memCtl page. -/
abbrev memCtlScrubPasses : Nat := 5
/-- ARRAY_ROW_CYCLES of the reckoner page. -/
abbrev reckonerArrayRowCycles : Nat := 1
/-- MACS_BF16 of the reckoner page. -/
abbrev reckonerMacsBf16 : Nat := 2
/-- MACS_8BIT of the reckoner page. -/
abbrev reckonerMacs8bit : Nat := 3
/-- MACS_4BIT of the reckoner page. -/
abbrev reckonerMacs4bit : Nat := 4
/-- TILES of the reckoner page. -/
abbrev reckonerTiles : Nat := 5
/-- TILE_WAIT_CYCLES of the reckoner page. -/
abbrev reckonerTileWaitCycles : Nat := 6
/-- WEIGHT_LOAD_STALLS of the reckoner page. -/
abbrev reckonerWeightLoadStalls : Nat := 7
/-- THROTTLE_CYCLES of the reckoner page. -/
abbrev reckonerThrottleCycles : Nat := 8
/-- VECTOR_RESULTS of the reckoner page. -/
abbrev reckonerVectorResults : Nat := 9
/-- STAGE_ECC_CORRECTED of the reckoner page. -/
abbrev reckonerStageEccCorrected : Nat := 10
/-- STAGE_ECC_UNCORRECTED of the reckoner page. -/
abbrev reckonerStageEccUncorrected : Nat := 11
/-- CONVERT_SATURATIONS of the reckoner page. -/
abbrev reckonerConvertSaturations : Nat := 12
/-- CONVERT_SPECIALS of the reckoner page. -/
abbrev reckonerConvertSpecials : Nat := 13
/-- NAN_ACCUMULATIONS of the reckoner page. -/
abbrev reckonerNanAccumulations : Nat := 14
/-- RECIPES_RUN of the recipeCtl page. -/
abbrev recipeCtlRecipesRun : Nat := 1
/-- RECIPES_ABORTED of the recipeCtl page. -/
abbrev recipeCtlRecipesAborted : Nat := 2
/-- STAGES_RUN of the recipeCtl page. -/
abbrev recipeCtlStagesRun : Nat := 3
/-- TILES_HBM of the recipeCtl page. -/
abbrev recipeCtlTilesHbm : Nat := 4
/-- TILES_LPDDR5X of the recipeCtl page. -/
abbrev recipeCtlTilesLpddr5x : Nat := 5
/-- TILES_REMOTE_DIE of the recipeCtl page. -/
abbrev recipeCtlTilesRemoteDie : Nat := 6
/-- TIER_MISMATCHES of the recipeCtl page. -/
abbrev recipeCtlTierMismatches : Nat := 7
/-- TOKENS_DRAWN of the recipeCtl page. -/
abbrev recipeCtlTokensDrawn : Nat := 8
/-- GREEDY_DRAWS of the recipeCtl page. -/
abbrev recipeCtlGreedyDraws : Nat := 9
/-- NAN_LOGITS of the recipeCtl page. -/
abbrev recipeCtlNanLogits : Nat := 10
/-- WAIT_NS of the recipeCtl page. -/
abbrev recipeCtlWaitNs : Nat := 11
/-- FAULT_PAUSE_NS of the recipeCtl page. -/
abbrev recipeCtlFaultPauseNs : Nat := 12
/-- RELEASE_HELD_NS of the recipeCtl page. -/
abbrev recipeCtlReleaseHeldNs : Nat := 13
/-- EARLY_LOGGED of the recipeCtl page. -/
abbrev recipeCtlEarlyLogged : Nat := 14
/-- OPERATIONS_COMPLETED of the collective page. -/
abbrev collectiveOperationsCompleted : Nat := 1
/-- ELEMENTS_CONVERTED of the collective page. -/
abbrev collectiveElementsConverted : Nat := 2
/-- ROWS_ADDED of the collective page. -/
abbrev collectiveRowsAdded : Nat := 3
/-- ROWS_SENT of the collective page. -/
abbrev collectiveRowsSent : Nat := 4
/-- ROWS_RECEIVED of the collective page. -/
abbrev collectiveRowsReceived : Nat := 5
/-- DATA_RECEIVED of the collective page. -/
abbrev collectiveDataReceived : Nat := 6
/-- CAST_OUT_MISMATCHES of the collective page. -/
abbrev collectiveCastOutMismatches : Nat := 7
/-- TALLY_FAILURES of the collective page. -/
abbrev collectiveTallyFailures : Nat := 8
/-- RESENDS_REQUESTED of the collective page. -/
abbrev collectiveResendsRequested : Nat := 9
/-- RESENDS_SERVED of the collective page. -/
abbrev collectiveResendsServed : Nat := 10
/-- DUPLICATES_DROPPED of the collective page. -/
abbrev collectiveDuplicatesDropped : Nat := 11
/-- STALE_DROPS of the collective page. -/
abbrev collectiveStaleDrops : Nat := 12
/-- GROUP_TIMEOUTS of the collective page. -/
abbrev collectiveGroupTimeouts : Nat := 13
/-- RETRACTIONS of the collective page. -/
abbrev collectiveRetractions : Nat := 14
/-- REREDUCTIONS of the collective page. -/
abbrev collectiveRereductions : Nat := 15
/-- REPLAY_LOST of the collective page. -/
abbrev collectiveReplayLost : Nat := 16
/-- OUTPUT_SATURATIONS of the collective page. -/
abbrev collectiveOutputSaturations : Nat := 17
/-- OUTPUT_SPECIALS of the collective page. -/
abbrev collectiveOutputSpecials : Nat := 18
/-- TALLY_CHECKS of the integrity page. -/
abbrev integrityTallyChecks : Nat := 1
/-- TALLY_REREAD_PASSES of the integrity page. -/
abbrev integrityTallyRereadPasses : Nat := 2
/-- TALLY_POISONS of the integrity page. -/
abbrev integrityTallyPoisons : Nat := 3
/-- TILES_SELECTED of the integrity page. -/
abbrev integrityTilesSelected : Nat := 4
/-- CHECKS_PASSED of the integrity page. -/
abbrev integrityChecksPassed : Nat := 5
/-- CHECKS_FAILED of the integrity page. -/
abbrev integrityChecksFailed : Nat := 6
/-- CHECKS_ABORTED of the integrity page. -/
abbrev integrityChecksAborted : Nat := 7
/-- CLASS_PERMANENT of the integrity page. -/
abbrev integrityClassPermanent : Nat := 8
/-- CLASS_TRANSIENT of the integrity page. -/
abbrev integrityClassTransient : Nat := 9
/-- CLASS_UNRESOLVED of the integrity page. -/
abbrev integrityClassUnresolved : Nat := 10
/-- UNCHECKABLE of the integrity page. -/
abbrev integrityUncheckable : Nat := 11
/-- CHECK_BUFFER_WAIT_NS of the integrity page. -/
abbrev integrityCheckBufferWaitNs : Nat := 12
/-- KAR_RUNS of the integrity page. -/
abbrev integrityKarRuns : Nat := 13
/-- KAR_FAILURES of the integrity page. -/
abbrev integrityKarFailures : Nat := 14
/-- RETIREMENTS of the integrity page. -/
abbrev integrityRetirements : Nat := 15
/-- LOG_ENTRIES of the integrity page. -/
abbrev integrityLogEntries : Nat := 16
/-- LOG_HIGH_WATER of the integrity page. -/
abbrev integrityLogHighWater : Nat := 17
/-- LOG_FULL_NS of the integrity page. -/
abbrev integrityLogFullNs : Nat := 18
/-- NOTICES_SENT of the integrity page. -/
abbrev integrityNoticesSent : Nat := 19
/-- NOTICE_REPEATS of the integrity page. -/
abbrev integrityNoticeRepeats : Nat := 20
/-- NOTICES_UNACKED of the integrity page. -/
abbrev integrityNoticesUnacked : Nat := 21
/-- NOTICES_RECEIVED of the integrity page. -/
abbrev integrityNoticesReceived : Nat := 22
/-- NOTICE_BLOCKS_POISONED of the integrity page. -/
abbrev integrityNoticeBlocksPoisoned : Nat := 23
/-- NOTICE_BLOCKS_REFUSED of the integrity page. -/
abbrev integrityNoticeBlocksRefused : Nat := 24
/-- DIGESTS_FORMED of the collation page. -/
abbrev collationDigestsFormed : Nat := 1
/-- DIGEST_REPEATS of the collation page. -/
abbrev collationDigestRepeats : Nat := 2
/-- ROUNDS_AGREED of the collation page. -/
abbrev collationRoundsAgreed : Nat := 3
/-- ROUNDS_MISMATCH of the collation page. -/
abbrev collationRoundsMismatch : Nat := 4
/-- ROUNDS_SPLIT of the collation page. -/
abbrev collationRoundsSplit : Nat := 5
/-- REPLICAS_MISSING of the collation page. -/
abbrev collationReplicasMissing : Nat := 6
/-- TALLY_FAILURES of the integrityFn page. -/
abbrev integrityFnTallyFailures : Nat := 1
/-- POISONED_READS of the integrityFn page. -/
abbrev integrityFnPoisonedReads : Nat := 2
/-- BLOCKS_POISONED of the integrityFn page. -/
abbrev integrityFnBlocksPoisoned : Nat := 3
/-- LOG_ENTRIES of the integrityFn page. -/
abbrev integrityFnLogEntries : Nat := 4
/-- OPENS of the fnState page. -/
abbrev fnStateOpens : Nat := 1
/-- CLOSES of the fnState page. -/
abbrev fnStateCloses : Nat := 2
/-- FLRS of the fnState page. -/
abbrev fnStateFlrs : Nat := 3
/-- DIRTY_ENTRIES of the fnState page. -/
abbrev fnStateDirtyEntries : Nat := 4
/-- DIRTY_SUPPRESSED of the fnState page. -/
abbrev fnStateDirtySuppressed : Nat := 5
/-- DIRTY_LOST of the fnState page. -/
abbrev fnStateDirtyLost : Nat := 6
/-- HOLD_NS of the fnState page. -/
abbrev fnStateHoldNs : Nat := 7
/-- ENERGY_UJ of the power page. -/
abbrev powerEnergyUj : Nat := 1
/-- BALLAST_CYCLES of the power page. -/
abbrev powerBallastCycles : Nat := 2
/-- BALLAST_UJ of the power page. -/
abbrev powerBallastUj : Nat := 3
/-- RAMP_LIMITED_NS of the power page. -/
abbrev powerRampLimitedNs : Nat := 4
/-- BUDGET_LIMITED_NS of the power page. -/
abbrev powerBudgetLimitedNs : Nat := 5
/-- THERMAL_LIMITED_NS of the power page. -/
abbrev powerThermalLimitedNs : Nat := 6
/-- BRAKE_EVENTS of the power page. -/
abbrev powerBrakeEvents : Nat := 7
/-- BRAKE_NS of the power page. -/
abbrev powerBrakeNs : Nat := 8
/-- TRIPS of the power page. -/
abbrev powerTrips : Nat := 9
/-- STATE_CHANGES of the power page. -/
abbrev powerStateChanges : Nat := 10
/-- CREASED_NS of the power page. -/
abbrev powerCreasedNs : Nat := 11
/-- FOLDED_NS of the power page. -/
abbrev powerFoldedNs : Nat := 12
/-- PLL_LOCK_LOSSES of the clock page. -/
abbrev clockPllLockLosses : Nat := 1
/-- CAPTURES_TRIGGERED of the colophon page. -/
abbrev colophonCapturesTriggered : Nat := 1
/-- TRIGGERS_DROPPED of the colophon page. -/
abbrev colophonTriggersDropped : Nat := 2
/-- MARKERS_STALE of the colophon page. -/
abbrev colophonMarkersStale : Nat := 3
/-- CHANNELS_TIMED_OUT of the colophon page. -/
abbrev colophonChannelsTimedOut : Nat := 4
/-- TIME_STEPS of the colophon page. -/
abbrev colophonTimeSteps : Nat := 5
/-- PTP_SYNC_LOSSES of the colophon page. -/
abbrev colophonPtpSyncLosses : Nat := 6
/-- CIPHER_OPS of the cipherUser page. -/
abbrev cipherUserCipherOps : Nat := 1
/-- CIPHER_BYTES of the cipherUser page. -/
abbrev cipherUserCipherBytes : Nat := 2
/-- AUTH_FAILURES of the cipherUser page. -/
abbrev cipherUserAuthFailures : Nat := 3
/-- KEY_LOADS of the cipherUser page. -/
abbrev cipherUserKeyLoads : Nat := 4
/-- KEY_LOAD_FAILURES of the cipherUser page. -/
abbrev cipherUserKeyLoadFailures : Nat := 5
/-- HEALTH_FAILURES of the cipher page. -/
abbrev cipherHealthFailures : Nat := 1
/-- RESEEDS of the cipher page. -/
abbrev cipherReseeds : Nat := 2
/-- SPINE_ECC_CORRECTED of the mailbox page. -/
abbrev mailboxSpineEccCorrected : Nat := 1
/-- POLICY_VIOLATIONS of the mailbox page. -/
abbrev mailboxPolicyViolations : Nat := 2
/-- FABRIC_AUTH_DROPS of the mailbox page. -/
abbrev mailboxFabricAuthDrops : Nat := 3
/-- QUIRE_RELOADS of the mailbox page. -/
abbrev mailboxQuireReloads : Nat := 4
/-- WATCHDOG_RESETS of the mailbox page. -/
abbrev mailboxWatchdogResets : Nat := 5
/-- CHECKSUM_RESETS of the mailbox page. -/
abbrev mailboxChecksumResets : Nat := 6

end Sys2Proof.Machine.Ctr
end

