-- ==== Sys2Proof/Config.lean ====
section
/-!
DEFINITION. What a part fixes (R13, R16, R321), and the free values: opaque constants without a body, one for each
result that the spec leaves open, so that nothing can be proved from a value that nobody gave.
-/

namespace Sys2Proof

/-- The three parts of the series (R1, R13). -/
inductive Part where
  | rf2 | rf4 | rf8
  deriving DecidableEq, Repr

/-- Dies of the package (R13). -/
def Part.dies : Part → Nat
  | .rf2 => 2
  | .rf4 => 4
  | .rf8 => 8

/-- Package power limit in W (R13). -/
def Part.powerLimit (p : Part) : Nat := 350 * p.dies

/-- Queue-pair numbers of each die (R152). -/
def Part.qpsPerDie (p : Part) : Nat := 262144 / p.dies

/-- Size of the HBM3E device region in MiB (R321). -/
def Part.hbmRegionMiB : Part → Nat
  | .rf2 => 128
  | _ => 96

/-- Quire-link adapters wired on each die (R16). -/
def Part.quireLinks : Part → Nat
  | .rf2 => 2
  | .rf4 => 2
  | .rf8 => 3

/-- The die at the far end of quire link `k` of die `d`, and none where the adapter is not wired (R16). -/
def Part.quirePeer (p : Part) (d k : Nat) : Option Nat :=
  match p with
  | .rf2 => if k < 2 then some (1 - d) else none
  | .rf4 => if k = 0 then some ((d + 1) % 4) else if k = 1 then some ((d + 3) % 4) else none
  | .rf8 =>
    if k = 0 then some (d / 4 * 4 + (d % 4 + 1) % 4)
    else if k = 1 then some (d / 4 * 4 + (d % 4 + 3) % 4)
    else if k = 2 then some ((d + 4) % 8)
    else none

/-- The link of die `d'` at the far end of quire link `k` of die `d` (R16): the two ring directions face each other,
and the other links face the link of their own number. -/
def Part.quirePeerLink (p : Part) (k : Nat) : Nat :=
  match p with
  | .rf2 => k
  | _ => if k = 0 then 1 else if k = 1 then 0 else k

/-- The free values of the model, one for each use, applied to the count of those used so far (`State.free`). Nothing
gives any of them a number (notes/assumptions/3.md). -/
opaque Config.freeValue : Nat → Word64

/-- The hash by which a router picks one port of a set for a source and destination endpoint (R274): the spec names it
and does not give it. -/
opaque Config.routeHash : Nat → Nat → Nat → Nat

/-- Where a die's router sends a package packet of a source and destination endpoint (R246, R274): the spec forwards such
packets, calls them internal, and gives no route. -/
opaque Config.packageRoute : Nat → Nat → Nat → Nat

/-- The pages that send to a page on the channels of R21, as offset >> 12 in the die window, by the page's own offset
(R644): the spec names the entries and gives no page's channels. -/
opaque Config.inputSources : Nat → List Nat

/-- The bytes that a LOCAL_COPY leaves where its source and destination overlap through aliased frames, by the two offsets
and the byte's place (R365): the spec calls them unspecified. -/
opaque Config.aliasedByte : Nat → Nat → Nat → Byte

/-! What manufacture gives a device (R560, R573, R574): the spec describes each item and states none of them. -/

/-- The device identity key, a private scalar of brainpoolP384r1. -/
opaque Config.identityKey : Nat
/-- The device secret of 256 bits. -/
opaque Config.deviceSecret : List Byte
/-- The device serial number. -/
opaque Config.deviceSerial : Word64
/-- The service MAC address. -/
opaque Config.serviceMac : BitVec 48
/-- Image-signing public keys 0 to 3, as points of brainpoolP384r1. -/
opaque Config.imageKey : Nat → Option (Nat × Nat)
/-- Debug public keys 0 and 1. -/
opaque Config.debugKey : Nat → Option (Nat × Nat)
/-- The Spine image in flash. -/
opaque Config.spineHeader : List Byte
opaque Config.spineBody : List Byte
/-- The Quire image in slot A. -/
opaque Config.quireHeader : List Byte
opaque Config.quireBody : List Byte
/-- The certificate chain in flash. -/
opaque Config.certificateChain : List Byte
/-- The boot ROM's SHA-384. -/
opaque Config.romDigest : List Byte
/-- The stepping of the part (R561): the manual describes A0, which is 0. -/
def Config.stepping : Nat := 0
/-- The private scalar of the key-agreement key, by the device secret (R574): the spec gives HKDF-SHA-384 and not its salt
or info. -/
opaque Config.agreementScalar : List Byte → Nat
/-- The 64 bytes of the GET_STATUS response, by the values that it holds (R594): the spec gives no layout. -/
opaque Config.statusBytes : List Nat → List Byte

end Sys2Proof
end

