-- ==== Sys2Proof/Machine/State.lean ====
section
/-!
DEFINITION. Everything the spec gives the block, as plain data, and its value at reset. Registers that software reads
and writes as words live in `regs`, keyed by their PF BAR0 address (Machine/Pages.lean gives each its width, access and
reset value); state that the registers only show, and state behind no register, has a field of its own.
-/

namespace Sys2Proof.Machine

/-- Why a command stops the model. Both are safe: the part has no such unit, so no hardware goes on. -/
inductive Fault where
  /-- Raised by a command that names a die the part does not have (R13, R14). Safe. -/
  | noSuchDie
  /-- Raised by a command that names a function, port, virtual channel, Reckoner, engine, memory or queue-pair number
  outside the ranges of R14, R70, R152, R244, R260 or R294. Safe. -/
  | noSuchUnit
  deriving DecidableEq, Repr

/-- Why the model gives a command no meaning. -/
inductive Refusal where
  /-- Raised by an arm of `exec` whose command has no meaning yet. Safe. -/
  | notModelled (mnemonic : String)
  deriving DecidableEq, Repr

/-! ### What leaves the block -/

/-- The PCI Express errors that the model reports through Advanced Error Reporting (R73). -/
inductive AerError where
  | poisonedTlp | unsupportedRequest | uncorrectableInternal | correctedInternal | completionTimeout
  deriving DecidableEq, Repr

/-- An SPDM 1.2 response (R575) by its contents; DSP0274, which the spec names and does not print, gives its bytes. -/
inductive SpdmReply where
  /-- VERSION: the versions supported, major and minor. -/
  | version (list : List (Nat × Nat))
  /-- CAPABILITIES: CTExponent, CERT_CAP, CHAL_CAP, and MEAS_CAP with signature. -/
  | capabilities (ctExponent : Nat) (cert chal meas : Bool)
  /-- ALGORITHMS: whether SHA-384 and the ExtAsym entry are selected. -/
  | algorithms (sha384 extAsym : Bool)
  | digests (slotMask : Nat) (digest : List Byte)
  | certificate (slot : Nat) (portion : List Byte) (remainder : Nat)
  | challengeAuth (slot : Nat) (digest nonce signature : List Byte)
  /-- MEASUREMENTS: the number of blocks; each block asked for, by index, DMTF value type and value; the signature where one
  was asked for. -/
  | measurements (total : Nat) (blocks : List (Nat × Nat × List Byte)) (nonce : List Byte) (signature : Option (List Byte))
  /-- ERROR UnsupportedRequest. -/
  | unsupportedRequest
  deriving DecidableEq, Repr

/-- A response of the I3C target to an MCTP control request (chapter 18) by its contents; DSP0236 gives its bytes. -/
inductive MctpReply where
  | setEndpointId (eid : Byte)
  | endpointId (eid : Byte)
  /-- The versions supported; the spec does not say which. -/
  | versions (list : Word)
  | messageTypes (list : List Nat)
  /-- ERROR_UNSUPPORTED_CMD. -/
  | unsupportedCmd
  deriving DecidableEq, Repr

/-- One thing that the block sends to the world outside it. -/
inductive Output where
  /-- A PCI Express memory write for function `f` (R66). -/
  | hostWrite (f : Nat) (addr : Word64) (data : List Byte)
  /-- A PCI Express memory read for function `f`. -/
  | hostRead (f : Nat) (addr : Word64) (len : Nat)
  /-- An MSI-X message of vector `v` of function `f` (R61). -/
  | msix (f v : Nat) (addr : Word64) (data : Word)
  /-- The completion of a register read (R28). -/
  | readData (f : Nat) (value : Word64)
  /-- A request completed as Unsupported Request (R28, R67, R75). -/
  | unsupported (f : Nat)
  /-- An error reported on a function (R73). -/
  | aer (f : Nat) (e : AerError)
  /-- A frame on virtual channel `vc` of router port `port` of die `d`, with its link CRC (R250). -/
  | frame (d port vc : Nat) (p : Packet) (crc : Word)
  /-- A control word on a link (R250). -/
  | control (d port : Nat) (w : Word64)
  /-- A frame on Ethernet port `k` of die `d`, with its frame check sequence (R304). -/
  | ethFrame (d k : Nat) (frame : List Byte) (fcs : Word)
  /-- The answer to a DOE Discovery object (R77): vendor ID, object type and next index. -/
  | doeDiscovery (vendor objType next : Nat)
  /-- An SPDM response on the PF's DOE mailbox (R575). -/
  | spdm (r : SpdmReply)
  /-- A frame of the delivery protocol on the service port: header, payload and CRC-32C (R563). -/
  | service (frame : List Byte)
  /-- A response of the I3C target. -/
  | mctp (r : MctpReply)
  deriving DecidableEq, Repr

/-! ### Host control path (chapter 3) -/

/-- One entry of a function's MSI-X table (R72): address, data, mask bit and pending bit. -/
structure MsixEntry where
  addr    : Word64 := 0
  data    : Word := 0
  masked  : Bool := true
  pending : Bool := false
  deriving DecidableEq, Repr

/-- A write to host memory held in a ledger channel (R90), with the page that its dirty entry names and the vector of
the message that follows it (R98). -/
structure HostWrite where
  addr   : Word64
  data   : List Byte
  vector : Option Nat := none
  logged : Bool := true
  deriving DecidableEq, Repr

/-- A doorbell on its way to the owning die's queue manager (R82). -/
structure Doorbell where
  fn    : Nat
  q     : Nat
  index : Word
  deriving DecidableEq, Repr

/-- A page's interrupt request on its way to die 0 (R61): the INT_VEC value it carries. -/
structure IntRequest where
  fn     : Nat
  vector : Nat
  deriving DecidableEq, Repr

/-! ### Queues (chapter 4) -/

/-- The state of a queue number that is not ABSENT (R132). -/
inductive QueueState where
  | running | error | disabling | disabled
  deriving DecidableEq, Repr

/-- What the queue manager knows of a fetched slot (R125). -/
inductive SlotKind where
  | current | stale | malformed (offset : Nat)
  deriving DecidableEq, Repr

/-- A fetched descriptor slot, a run-ahead item until it begins (R123). -/
structure Slot where
  index : Word
  bytes : List Byte
  kind  : SlotKind
  deriving DecidableEq, Repr

/-- The refetch schedule of a stale slot (R126): refetches issued and returned, and when the first stale read returned. -/
structure StaleRun where
  index    : Word
  issued   : Nat
  returned : Nat
  since    : Nat
  deriving DecidableEq, Repr

/-- An arrival entry without its generation and LOST bit: its type, the 60 bytes of BODY, and for a RECEIVE entry the
queue pair and message whose slot it holds (R118, R171). -/
structure ArrivalEntry where
  kind : Nat
  body : List Byte
  slot : Option (Nat × Word) := none
  deriving DecidableEq, Repr

/-- A queue (R101 to R109, R132). -/
structure Queue where
  /-- Direction (1 bit; R101): true for an arrival queue. -/
  arrival  : Bool
  /-- Placement (1 bit; R102): true for a local queue. -/
  isLocal  : Bool
  /-- Owning die (3 bits; R102). -/
  owner    : Nat
  /-- Ledger channel it is bound to (R90). -/
  ledger   : Option Nat
  /-- n of the ring's 2^n entries (5 bits; R104). -/
  log2     : Nat
  /-- Ring base (64 bits; R104). -/
  base     : Word64
  /-- MSI-X vector and INT_EN (R138). -/
  vector   : Nat
  intEn    : Bool
  /-- ARRIVAL_WAIT in µs, 0xFFFF for no limit (R121). -/
  wait     : Nat
  state    : QueueState := .running
  /-- Published head and tail (32 bits; R105, R109). -/
  head     : Word := 0
  tail     : Word := 0
  /-- The next index to begin execution (R124). -/
  next     : Word := 0
  /-- A doorbell recorded while the queue was stopped (R134, R151). -/
  recorded : Option Word := none
  /-- Indices whose fetch is outstanding, and fetched slots that have not begun (R123). -/
  fetching : List Word := []
  slots    : List Slot := []
  /-- Indices at or above head whose completion has been written (R109). -/
  done     : List Word := []
  stale    : Option StaleRun := none
  /-- CAUSE, DETAIL and QUEUE_ERR_INDEX of the last stop (R127, R142). -/
  cause    : Nat := 0
  detail   : Nat := 0
  errIndex : Word := 0
  /-- Arrival queue: an entry held for space, whether later entries are dropped at once, whether the next one carries
  LOST, and the slot (queue pair and message) behind each RECEIVE entry not yet passed by head (R121, R171). -/
  held     : Option ArrivalEntry := none
  dropping : Bool := false
  lost     : Bool := false
  receipts : List (Word × Nat × Word) := []
  deriving DecidableEq, Repr

/-- How far the execution of a descriptor has come. -/
inductive ExecPhase where
  /-- In execution. -/
  | running
  /-- Its operation has ended; read-backs are outstanding (R92). -/
  | flushing
  /-- Its completion may be written (R115). -/
  | finished
  deriving DecidableEq, Repr

/-- The path of a read-back (R93). -/
inductive FlushPath where
  | pcie
  | alram (port : Nat)
  | queuePair
  deriving DecidableEq, Repr

/-- A read-back of a FLUSH descriptor (R92): its path, destination address, and whether it has been issued. -/
structure ReadBack where
  path   : FlushPath
  addr   : Word64
  issued : Bool := false
  deriving DecidableEq, Repr

/-- A descriptor in execution (R124), with the parts of the completion that it will be given (R115). -/
structure Exec where
  fn        : Nat
  q         : Nat
  index     : Word
  desc      : List Byte
  phase     : ExecPhase := .running
  status    : Nat := 0
  detail    : Nat := 0
  result0   : Nat := 0
  result1   : Nat := 0
  opResult  : List Byte := List.replicate 16 0
  readBacks : List ReadBack := []
  /-- Bytes of a copy or staging transfer already moved (R114, R364). -/
  moved     : Nat := 0
  /-- The copy waits for the fault record of a page key on a die (R352). -/
  paused    : Option (Nat × Nat) := none
  /-- Host data that a STAGE_IN has read (R114). -/
  data      : List Byte := []
  deriving DecidableEq, Repr

/-! ### Transport (chapters 5 and 6) -/

/-- The state of a queue pair that is not ABSENT (R160). -/
inductive QpState where
  | init | rtr | rts | faultWait | error
  deriving DecidableEq, Repr

/-- What a sent PSN carried (R165, R168). -/
inductive PsnKind where
  | data | readRequest | readResponse | atomic | abort
  deriving DecidableEq, Repr

/-- A PSN between SND_UNA and SND_NXT (R168, R181, R184). A PSN of a READ after the request's first has kind
`readResponse`, and `request` names the request's first PSN. -/
structure SentPsn where
  psn     : Word
  kind    : PsnKind
  request : Word
  /-- Index of its descriptor in the feeding queue, and whether it belongs to that descriptor's FLUSH read-back. -/
  op      : Word
  flush   : Bool := false
  opcode  : Nat
  /-- GLOBAL_ADDRESS, source address, payload length and AUX of the packet; the destination of a READ. -/
  addr    : Word64
  src     : Word64
  len     : Nat
  aux     : Word
  reply   : Word64 := 0
  first   : Bool
  last    : Bool
  txCount : Nat := 0
  acked   : Bool := false
  /-- Due to be sent again (R181, R182). -/
  due     : Bool := false
  /-- When it was last sent again as lost (R181). -/
  resent  : Option Nat := none
  /-- When its first transmission left, for the RTT sample (R179, R185). -/
  sentAt  : Nat := 0
  sampled : Bool := false
  /-- It is due by an expiry, a NAK RNR or a probe, and not as lost (R182, R187, R190). -/
  timed   : Bool := false
  deriving DecidableEq, Repr

/-- An operation outstanding on a queue pair: its descriptor and how much of it has used PSNs (R168). -/
structure QpOp where
  index   : Word
  opcode  : Nat
  src     : Word64
  dst     : Word64
  length  : Nat
  imm     : Word
  operand : Word64
  flush   : Bool
  msgSeq  : Word := 0
  /-- Bytes already cut into packets or requests. -/
  offset  : Nat := 0
  /-- Every PSN of the operation has been used. -/
  cut     : Bool := false
  /-- It ends here, with this STATUS and DETAIL, once MSG_ABORT has used its PSN (R174). -/
  short   : Option (Nat × Nat) := none
  resends : Nat := 0
  value   : Word64 := 0
  /-- It is the FLUSH read-back of its descriptor (R93). -/
  readBack : Bool := false
  deriving DecidableEq, Repr

/-- A response that a queue pair owes its peer, oldest request first (R213): the PSN, TX_COUNT and extent of the request
and how many of its responses have been sent. -/
structure OwedReply where
  psn     : Word
  txCount : Nat
  atomic  : Bool
  src     : Word64
  dst     : Word64
  length  : Nat
  value   : Word64 := 0
  sent    : Nat := 0
  deriving DecidableEq, Repr

/-- A data packet accepted ahead of RCV_NXT, or a LAST packet, kept until RCV_NXT passes it (R168, R171). -/
structure Accepted where
  psn    : Word
  opcode : Nat
  last   : Bool
  first  : Bool
  imm    : Word
  addr   : Word64
  len    : Nat
  abort  : Nat := 0
  deriving DecidableEq, Repr

/-- What a queue pair in FAULT_WAIT waits on (R188, R677). -/
structure FaultWait where
  /-- A source that faulted, on the page of a key: of the next new packet, or of a PSN sent again. -/
  source  : Option (Option Word × Nat) := none
  /-- Requests whose READ_RESPONSE faulted in placement, each with the page's key. -/
  replies : List (Word × Nat) := []
  /-- The PSN of a NAK FAULT_WAIT, and the local time of the first one (R190). -/
  remote  : Option (Word × Nat) := none
  deriving DecidableEq, Repr

/-- A queue-pair context (R194, R237). -/
structure Qp where
  /-- Owner function, feeding and arrival queues, class, window, receive region (R157). -/
  fn        : Nat
  sq        : Nat
  aq        : Nat
  tclass    : Nat
  gcm       : Bool
  key       : Nat
  log2Win   : Nat
  recvBase  : Word64
  recvSlots : Nat
  log2Slot  : Nat
  state     : QpState := .init
  /-- The peer (R159). -/
  peer      : Nat := 0
  peerQp    : Nat := 0
  peerPart  : Nat := 0
  peerMgr   : Bool := false
  peerEpoch : Nat := 0
  /-- SEND_EPOCH (22 bits; R206), and the wraps of each stream since RTR (R203, R204). -/
  epoch     : Nat := 0
  sndWraps  : Nat := 0
  rcvWraps  : Nat := 0
  ackWraps  : Nat := 0
  peerAckWraps : Nat := 0
  /-- SND_UNA, SND_NXT, RCV_NXT (32 bits; R175, R176). -/
  sndUna    : Word := 0
  sndNxt    : Word := 0
  rcvNxt    : Word := 0
  /-- RETRY_LIMIT and REORDER_THRESHOLD as set (4 bits each; R159). -/
  retryLimit : Nat := 7
  reorder   : Nat := 3
  /-- Sent PSNs not yet passed by SND_UNA, outstanding operations, message sequence numbers (R168, R171). -/
  sent      : List SentPsn := []
  ops       : List QpOp := []
  sndMsg    : Word := 0
  rcvMsg    : Word := 0
  /-- Received: accepted PSNs at or after RCV_NXT (the reorder map), messages whose slot is held, replay cache, owed
  responses (R171, R176, R213). -/
  accepted  : List Accepted := []
  /-- First destination address of the WRITE_NOTIFY message that RCV_NXT stands in (R173). -/
  notifyFrom : Word64 := 0
  slotsHeld : List Word := []
  replay    : List (Word × Word64) := []
  owed      : List OwedReply := []
  /-- Packets accepted since the last ACK and those of them marked, the trigger PSN, whether the 2 µs timer runs (R177,
  R178). -/
  dataCount : Nat := 0
  ceCount   : Nat := 0
  trigger   : Option Word := none
  ackTimer  : Bool := false
  /-- ACK_SEQ sent, and the last one accepted (R178, R204). -/
  ackSeq    : Word := 0
  peerAckSeq : Option Word := none
  /-- SRTT and RTTVAR in ns, none before the first sample; RTO in ns; retry count; expiries in a row that NAK RNR caused;
  whether the timer runs (R180, R182, R183). -/
  rtt       : Option (Rat × Rat) := none
  rto       : Nat := 40000
  retries   : Nat := 0
  rnrRun    : Nat := 0
  timer     : Bool := false
  lastSample : Nat := 0
  fault     : FaultWait := {}
  /-- STATUS and DETAIL of the last entry into ERROR (R208). -/
  errStatus : Nat := 0
  errDetail : Nat := 0
  /-- R in 1/1,024 Mb/s (32 bits), pacing time (64 bits, fabric ns, kept with its fraction), start tag (48 bits), weight
  (8 bits), whether the flow is idle and the port it last had a head packet for (R222, R229, R237). -/
  rate      : Nat := 0
  pace      : Rat := 0
  tag       : BitVec 48 := 0
  weight    : Nat := 16
  idle      : Bool := true
  port      : Option Nat := none
  /-- The head packet has moved to its escape channel (R275). -/
  escaped   : Bool := false
  /-- When the present head packet was formed (R238). -/
  headAt    : Nat := 0
  /-- ACKs_SINCE, DATA, CE, the time of the last update and the latest RTT sample of the interval (R231, R232). -/
  acksSince : Nat := 0
  ccData    : Nat := 0
  ccCe      : Nat := 0
  ccTime    : Nat := 0
  ccRtt     : Option Nat := none
  deriving DecidableEq, Repr

/-- One entry of the context cache (R195): the queue pair, its way, whether the context has changed since its fetch, and
whether a prefetch brought it that no selection has used (R200). The most recently used entry stands first. -/
structure CtxEntry where
  qp       : Nat
  way      : Nat
  changed  : Bool
  prefetch : Bool
  deriving DecidableEq, Repr

/-- A context fetch in progress (R197). -/
structure CtxFetch where
  qp       : Nat
  way      : Nat
  prefetch : Bool
  deriving DecidableEq, Repr

/-- The transport engine of a die (R195 to R199). -/
structure Transport where
  /-- The context cache of 8,192 entries, 512 sets of 16 ways; empty at reset. -/
  cache   : List CtxEntry := []
  /-- Fetches outstanding, at most 64. -/
  fetches : List CtxFetch := []
  /-- Packets waiting for their context, at most 256. -/
  misses  : List Packet := []
  deriving DecidableEq, Repr

/-- A flow of a scheduler class other than a queue pair (R212): its index, start tag and whether it is idle. -/
structure Flow where
  index : Nat
  tag   : BitVec 48
  idle  : Bool
  deriving DecidableEq, Repr

/-- One class of an egress scheduler. -/
structure SchedClass where
  /-- Token count in 1/200 bytes (R217); 0 while unshaped. -/
  tokens : Int := 0
  /-- Virtual time V (48 bits; R221). -/
  v      : BitVec 48 := 0
  flows  : List Flow := []
  deriving DecidableEq, Repr

/-- An egress scheduler (R211): its eight classes and ELIGIBLE as of the last selection. -/
structure Sched where
  classes  : List SchedClass
  eligible : Nat := 0
  deriving DecidableEq, Repr

/-! ### Forwarding plane (chapter 7) -/

/-- PORT_STATE of a router port (R292). -/
inductive PortState where
  | absent | up | hold | discard
  deriving DecidableEq, Repr

/-- LINK_STATE of an Alram port, quire link or Ethernet port (R252, R298). -/
inductive LinkState where
  | disabled | training | align | creditInit | up | down
  deriving DecidableEq, Repr

/-- A packet in a packet FIFO (R267), with the input port and virtual channel it came by and the units of the packet
buffer that it holds there (R262). -/
structure FifoPacket where
  pkt   : Packet
  port  : Nat
  vc    : Nat
  units : Nat
  /-- The replicated packet that it is a copy of (R287). -/
  origin : Option Nat := none
  deriving DecidableEq, Repr

/-- A formed packet that waits for an output port (R213, R227, R275). -/
structure HeldPacket where
  id     : Nat
  pkt    : Packet
  /-- Input port (7 for a local source), its virtual channel and the units held there, and the flow index of R212. -/
  inPort : Nat
  vcIn   : Nat
  units  : Nat
  flow   : Nat
  /-- Output port it waits for, the primary set and escape port of its route entry, and since when it waits. -/
  port   : Nat
  mask   : Nat
  escape : Option Nat
  since  : Nat
  /-- It waits in drain hold (R676). -/
  drain  : Bool := false
  /-- The replicated packet that it is a copy of (R287). -/
  origin : Option Nat := none
  deriving DecidableEq, Repr

/-- An entry of the replication table (R285). -/
structure ReplEntry where
  gen      : Nat
  isLocal  : Bool
  children : List Nat
  deriving DecidableEq, Repr

/-- Credits of one virtual channel of a link: units granted by the peer, units freed by it, units sent (R261 to R263),
and on the receiving side units seen and freed. -/
structure VcCredit where
  granted : Nat := 0
  peerFreed : Word := 0
  sent    : Word := 0
  seen    : Word := 0
  freed   : Word := 0
  initIn  : Bool := false
  initOut : Bool := false
  deriving DecidableEq, Repr

/-- What an outstanding Alram read serves (R258). -/
inductive ReadUse where
  /-- A FLUSH read-back of the descriptor at an index of a queue. -/
  | flush (fn q : Nat) (index : Word)
  /-- A source read of the operation of a queue pair. -/
  | source (qp : Nat)
  deriving DecidableEq, Repr

/-- An outstanding Alram read (R257). -/
structure AlramRead where
  tag     : Nat
  addr    : Word64
  len     : Nat
  fn      : Nat
  tclass  : Nat
  retries : Nat := 0
  use     : ReadUse
  deriving DecidableEq, Repr

/-- An Alram port or a quire link (R252, R257, R261, R266). -/
structure Link where
  state    : LinkState := .disabled
  reversed : Bool := false
  /-- LANE_LOCK (8 bits) and the peer endpoint of its INIT words (18 bits). -/
  lanes    : Nat := 0
  peer     : Nat := 0
  vcs      : List VcCredit
  reads    : List AlramRead := []
  /-- Data that answered a source read, by tag order, until its user takes it. -/
  fetched  : List (ReadUse × Word64 × List Byte) := []
  deriving DecidableEq, Repr

/-- The router of a die. -/
structure Router where
  /-- Input FIFOs of ports 0 to 7, then the transport RX FIFO (R267). -/
  fifos    : List (List FifoPacket)
  /-- Packets delivered to consumers of the local port other than transport RX, and not yet taken by them (R262). -/
  arrived  : List FifoPacket := []
  /-- Packets that wait for an output port (R213, R275). -/
  held     : List HeldPacket := []
  nextId   : Nat := 0
  /-- Route entries by edition × 2^15 + table × 2^14 + index; absent entries read 0 (R280). -/
  routes   : List (Nat × Word) := []
  ports    : List PortState
  /-- EDITION_COUNT_0 and _1, and packets that have left and still count for 1 µs (R279). -/
  counts   : List Nat := [0, 0]
  leaving  : List Nat := [0, 0]
  /-- Replication table by group ID (R285). -/
  repl     : List (Nat × ReplEntry) := []
  deriving DecidableEq, Repr

/-! ### Memory and translation (chapter 9) -/

/-- A translation held by an engine's cache (R336): the function, the page's first offset and size in bits, its tier,
frame, WRITABLE and COUNT_EN, and whether a prefetch found it. -/
structure Translation where
  fn       : Nat
  base     : Nat
  log2     : Nat
  tier     : Nat
  frame    : Nat
  writable : Bool
  countEn  : Bool
  deriving DecidableEq, Repr

/-- A table pointer held by the walk cache (R336): function, level of the entry it came from, index bits above that
level's page, and the address of the next table. -/
structure WalkPointer where
  fn    : Nat
  level : Nat
  tag   : Nat
  table : Nat
  deriving DecidableEq, Repr

/-- A fault record in use (R350), with the queue pairs and descriptors that wait on it. -/
structure FaultRec where
  fn       : Nat
  key      : Nat
  kind     : Nat
  addr     : Word64
  time     : Word64
  anyWrite : Bool
  waiters  : Nat
  /-- Queue pairs waiting through transport TX and through transport RX. -/
  tx       : List Nat := []
  rx       : List Nat := []
  since    : Nat
  deriving DecidableEq, Repr

/-- A faulting access that found every record in use (R355). -/
structure HeldFault where
  engine  : Nat
  fn      : Nat
  offset  : Nat
  kind    : Nat
  isWrite : Bool
  qp      : Option Nat
  since   : Nat
  deriving DecidableEq, Repr

/-- A range invalidation in progress on a die (R343): engines that have reached their invalidation point, and engines
that have acknowledged. -/
structure Inval where
  fn     : Nat
  base   : Nat
  len    : Nat
  points : Nat := 0
  acked  : Nat := 0
  deriving DecidableEq, Repr

/-- The translation unit of a die. -/
structure Xlate where
  /-- Page-table root of each function, absent for none (38 bits; R330). -/
  roots   : List (Nat × Nat) := []
  /-- Translation cache of each of the ten engines, most recently used first (R336). -/
  caches  : List (List Translation) := List.replicate 10 []
  walks   : List WalkPointer := []
  /-- Fault records in use, by record number (R350), and accesses held for one (R355). -/
  faults  : List (Nat × FaultRec) := []
  waiting : List HeldFault := []
  /-- Access counter of each 32 MiB frame (16 bits; R360); absent for 0. -/
  counts  : List (Nat × Nat) := []
  inval   : Option Inval := none
  deriving DecidableEq, Repr

/-- A memory controller (R324, MEM_STAT). -/
structure MemCtl where
  trained     : Bool := false
  selfRefresh : Bool := false
  /-- TEMP_C (8 bits). -/
  temp        : Nat := 0
  /-- Blocks scrubbed in the present pass (R326). -/
  scrubbed    : Nat := 0
  deriving DecidableEq, Repr

/-! ### Partitions (chapter 14) -/

/-- FN_STATE.STATE (R535). -/
inductive FnPhase where
  | closed | opening | opened | closing
  deriving DecidableEq, Repr

/-- A function: 0 the PF, 1 to 16 a VF and its partition (R528, R535). -/
structure Fn where
  phase     : FnPhase := .closed
  /-- FN_CTL.ENABLE and HOLD, PENDING_OPEN, PENDING_CLOSE (1 bit each; reset 0). -/
  enable    : Bool := false
  hold      : Bool := false
  pendOpen  : Bool := false
  pendClose : Bool := false
  /-- FUNCTION_MODE: true for SERVICE (1 bit; reset MAINTENANCE). -/
  service   : Bool := false
  /-- A DESTROY_PARTITION waits for the function to be CLOSED (R543). -/
  destroying : Bool := false
  /-- A Function Level Reset runs, from its start to its end (R68, R71). -/
  flr       : Bool := false
  /-- Shares of queues, queue pairs and recipe handles, and WEIGHT_CAP (R528, R551). -/
  queues    : Nat := 0
  qps       : Nat := 0
  handles   : Nat := 0
  cap       : Nat := 64
  /-- SET_ARRIVAL_ROUTE: queue by entry type (R145). -/
  routes    : List (Nat × Nat) := []
  /-- The four ledger channels, oldest write first (R90). -/
  ledgers   : List (List HostWrite) := [[], [], [], []]
  /-- The last 16 pages logged (R544). -/
  dirty     : List Nat := []
  /-- MSI-X table entries that differ from reset, by vector (R72). -/
  msix      : List (Nat × MsixEntry) := []
  deriving DecidableEq, Repr

/-! ### Power and clocks (chapter 16) -/

/-- The power unit of a die. -/
structure Power where
  /-- STATE and TARGET (3 bits each, encoded as POWER_REQ; reset 0). -/
  state   : Nat := 0
  target  : Nat := 0
  /-- BRAKE and TRIP (1 bit each; reset 0). -/
  brake   : Bool := false
  trip    : Bool := false
  /-- ISSUE_PERCENT (7 bits; reset 100), TJ_C (8 bits; reset 0) and LIMIT_CAUSE (4 bits; reset 0). -/
  issue   : Nat := 100
  tj      : Nat := 0
  cause   : Nat := 0
  /-- The thermal cap in force and the entry that set it (R619). -/
  thermal : Nat := 100
  thermEntry : Option Nat := none
  /-- Current of each rail in mA, one list for each 40 ns period, the latest first (R607). -/
  history : List (List Nat) := []
  /-- Fractions of a µJ, in 0.4 pJ, of ENERGY_UJ and BALLAST_UJ. The model's own fields. -/
  energy  : Nat := 0
  ballast : Nat := 0
  deriving DecidableEq, Repr

/-- The PLLs that are out of lock on a die, and the reset domains that they hold in reset (R622, R623). -/
structure Clocks where
  unlocked : List Pll := []
  deriving DecidableEq, Repr

/-! ### Colophon captures and time (chapter 17) -/

/-- An IN_FLIGHT entry of a snapshot bank (R644): SOURCE, COUNT, CLOSE and BOUNDARY. -/
structure Channel where
  source   : Nat
  count    : Nat := 0
  close    : Nat := 0
  boundary : Bool := false
  deriving DecidableEq, Repr

/-- A snapshot bank (R644). -/
structure Bank where
  number     : Word := 0
  latched    : Bool := false
  superseded : Bool := false
  time       : Word64 := 0
  done       : Nat := 0
  skipped    : Nat := 0
  channels   : List Channel := []
  totals     : List Word64 := []
  deriving DecidableEq, Repr

/-- What a page's capture logic holds: COLOPHON_ARMED, the two banks, and which holds the latest latch (R643). -/
structure PageCapture where
  armed : Bool := false
  bankA : Bank := {}
  bankB : Bank := {}
  lastB : Bool := false
  /-- A latch has been made since reset. -/
  any   : Bool := false
  /-- The latest number whose marker the page has sent on (R635). -/
  seen  : Option Word := none
  /-- Virtual channels of a link adapter whose marker of the number in `seen` has arrived, and those whose marker waits for
  credit, with its number (R641). -/
  vcs   : List Nat := []
  waiting : List (Nat × Word) := []
  deriving DecidableEq, Repr

/-- Fabric time of a die (R650 to R656). -/
structure FabricTime where
  /-- FABRIC_TIME (64 bits; reset 0) and its 16-bit fraction. -/
  ns       : Word64 := 0
  frac     : Nat := 0
  timeSet  : Bool := false
  ptpLocked : Bool := false
  synced   : Bool := false
  /-- Rate adjustments in ppb of ADJUST_FABRIC_TIME and of the PTP servo, and the offset still to be slewed out, in 2^-16 ns
  (R652); the epoch offset of SET_PTP; the part of a rate adjustment below 2^-16 ns, in 10^-9 of it. -/
  ppb      : Int := 0
  servo    : Int := 0
  slew     : Int := 0
  carry    : Int := 0
  epochOffset : Int := 0
  deriving DecidableEq, Repr
/-! ### Ethernet ports (chapter 8) -/

/-- An Ethernet port (PORT_STAT, PAUSE_STAT, R309, R312, R314, R316). -/
structure EthPort where
  state    : LinkState := .disabled
  reversed : Bool := false
  remoteFault : Bool := false
  /-- LANE_LOCK (8 bits). -/
  lanes    : Nat := 0
  /-- Usage U(k, p) in bytes of each priority (25 bits; R309). -/
  usage    : List Nat := List.replicate 8 0
  /-- TX_PAUSING (8 bits). -/
  pausing  : Nat := 0
  /-- Receive pause timer of each priority, in quanta as last set; 0 while it does not run (R314). -/
  rxPause  : List Nat := List.replicate 8 0
  /-- PTP frames that wait for Quire firmware, at most 64, with the timestamp of an event message in 2^-16 ns. -/
  ptp      : List (List Byte × Option Nat) := []
  deriving DecidableEq, Repr

/-! ### Reckoners and recipes (chapters 10 and 11) -/

/-- A loaded recipe (R402 to R406): its function, bundle, and the dies on which a copy is resident. -/
structure Recipe where
  fn     : Nat
  bundle : List Byte
  dies   : List Nat
  deriving DecidableEq, Repr

/-- An entry of a sequence table (R428), and the last token drawn for it since the table was loaded (R437). -/
structure Sequence where
  /-- 0 FREE, 1 ACTIVE, 2 PAUSED, 3 FINISHED (2 bits; reset FREE). -/
  state       : Nat := 0
  topK        : Nat := 0
  id          : Word := 0
  position    : Word := 0
  maxPosition : Word := 0
  blockTable  : Word64 := 0
  temperature : Word := 0
  topP        : Word := 0
  seed        : Word64 := 0
  key         : Nat := 0
  stopToken   : Nat := 0
  stopEn      : Bool := false
  ring        : Word64 := 0
  log2Ring    : Nat := 0
  last        : Option Nat := none
  deriving DecidableEq, Repr

/-- A selected tile's check record (R493, R496): the model's own number, the Reckoners by die × 5 + number, the run that
it came from, and what the record holds. -/
structure Check where
  id       : Nat
  original : Nat
  checker  : Nat
  third    : Option Nat := none
  fn       : Nat
  q        : Nat
  index    : Word
  early    : Bool
  /-- The tile address (32 bytes). -/
  tile     : List Byte
  operands : List Byte
  result   : List Byte
  /-- The checker's result, once it differs (R498). -/
  disputed : Option (List Byte) := none
  aborts   : Nat := 0
  /-- First block released from the tile under EARLY (R518). -/
  first    : Word64 := 0
  deriving DecidableEq, Repr

/-- Where the walk through the stage order of R408 stands: at the stages of a depth from one on, before or after its
inner loop. -/
structure Cursor where
  leaving : Bool := false
  depth   : Nat := 0
  next    : Nat := 0
  deriving DecidableEq, Repr

/-- A tile that the sequencer has fetched ahead (R426): its place in the stage order, the 4 KiB blocks of global memory
that it touches, its tier queue, and the blocks' bytes once they have arrived. -/
structure AheadTile where
  stage    : Nat
  counters : List Nat
  blocks   : List Nat
  tier     : Nat
  data     : Option (List (Nat × List Byte)) := none
  deriving DecidableEq, Repr

/-- A recipe running on a Reckoner (R422 to R436). -/
structure Run where
  /-- Its descriptor, handle, rank, named bit, release mode and wait limit. -/
  fn       : Nat
  q        : Nat
  index    : Word
  handle   : Nat
  rank     : Nat
  slot     : Nat
  early    : Bool
  limit    : Nat
  /-- The argument block, none until it has been read; the format snapshot by slot; ACTIVE entries at the start. -/
  args     : Option (List Word64) := none
  formats  : List (Nat × Nat)
  active   : List Nat
  /-- The six loop counters, the walk beyond the present stage, and the present stage; none at the end. -/
  counters : List Nat := List.replicate 6 0
  cursor   : Cursor := {}
  stage    : Option Nat := none
  /-- The present stage has been counted; bytes of it already stored; the page key and die of a fault that pauses it. -/
  begun    : Bool := false
  moved    : Nat := 0
  paused   : Option (Nat × Nat) := none
  /-- A WAIT stage watches its flag (R420). -/
  waiting  : Bool := false
  /-- A release is held (R435), with the token that its draw gave. -/
  held     : Bool := false
  token    : Option (Nat × Nat) := none
  /-- A block was stored while the log was full, so releases wait as under HOLD (R436). -/
  logFull  : Bool := false
  /-- Another Reckoner of the descriptor has failed (R424). -/
  stopping : Bool := false
  /-- Counters of the fetches whose indirection entry had VALID 0 (R419), and tiles fetched ahead. -/
  invalid  : List (List Nat) := []
  ahead    : List AheadTile := []
  /-- Check records that wait for the check buffer (R496). -/
  records  : List Check := []
  deriving DecidableEq, Repr

/-- A Reckoner (R368 to R401). -/
structure Reckoner where
  /-- The stage store of 16 MiB, byte addresses to bytes, 0 where unlisted (R386, R388). -/
  store    : List (Nat × Byte) := []
  seqs     : List Sequence := List.replicate 16 {}
  run      : Option Run := none
  /-- CLASS (2 bits; reset 0), HANDLE, STAGE and EARLY of RECIPE_STAT as of the last run, RECIPE_ABORT (32 bits). -/
  cls      : Nat := 0
  handle   : Nat := 0
  stage    : Nat := 0
  early    : Bool := false
  abort    : Nat := 0
  /-- EPOCH by handle (32 bits; R493). -/
  epochs   : List (Nat × Nat) := []
  /-- Retired, a candidate, and the times in ns of its TRANSIENT classifications (R501, R508). -/
  retired  : Bool := false
  candidate : Bool := false
  transients : List Nat := []
  /-- A known-answer run is in progress; one is due at the next descriptor boundary; the end of the last one (R506). -/
  known    : Bool := false
  knownDue : Bool := false
  knownAt  : Nat := 0
  deriving DecidableEq, Repr

/-! ### Collectives (chapter 12) -/

/-- A counting frame (R450): its class (0 FINITE, 1 POS_INF, 2 NEG_INF, 3 NAN) and its 320-bit integer. -/
structure Frame where
  cls : Nat := 0
  v   : BitVec 320 := 0
  deriving DecidableEq, Repr

/-- A chunk of an operation that a member holds (R461). -/
structure Chunk where
  k        : Nat
  /-- CHUNK_GEN (2 bits). -/
  gen      : Nat := 0
  /-- The member's own part is in its replay slot. -/
  own      : Bool := false
  /-- Accumulated frames by row (the accumulation slot), and the parts held of each row: part × 1,024 + row. -/
  acc      : List (Nat × List Frame) := []
  added    : List Nat := []
  /-- Rows whose sum failed its check at this generation (R456). -/
  bad      : List Nat := []
  /-- Half rows of a child received, by child part × 1,024 + row, with which half it is (R458). -/
  halves   : List (Nat × Bool × List Frame) := []
  /-- Rows sent up, or rounded and written at the root, and its output there by row (element and scale bytes). -/
  sent     : List Nat := []
  outputs  : List (Nat × List Byte × List Byte) := []
  committed : Bool := false
  /-- Rows of this generation are wanted: not between a RETRACT and the RESEND that follows it (R475). -/
  wanted   : Bool := true
  /-- DATA packets held at the current generation, blocks of output written at it, and blocks that a RETRACT poisoned
  (global addresses). -/
  data     : List Nat := []
  written  : List Word64 := []
  poisoned : List Word64 := []
  deriving DecidableEq, Repr

/-- What a member knows of a child (R465 to R468): its last RECEIPT, none before the first. -/
structure ChildState where
  member   : Nat
  endpoint : Nat
  receipt  : Option (Bool × Nat) := none
  deriving DecidableEq, Repr

/-- An operation in execution at a member (R445 to R448). -/
structure CollOp where
  fn        : Nat
  q         : Nat
  index     : Word
  broadcast : Bool
  src       : Word64
  dst       : Word64
  length    : Nat
  inType    : Nat
  outType   : Nat
  distribute : Bool
  early     : Bool
  seq       : Word
  /-- SRC_SCALE, DST_SCALE and REPLAY_BASE of the argument block. -/
  srcScale  : Word64 := 0
  dstScale  : Word64 := 0
  replay    : Word64 := 0
  /-- The descriptor has completed under EARLY (R478), or its blocks could not be logged. -/
  completed : Bool := false
  unlogged  : Bool := false
  /-- Chunks with index below this may be begun, or have been sent by the root of a BROADCAST. -/
  granted   : Nat := 0
  /-- Chunks in the window, lowest first, and the lowest index that may stand there. -/
  chunks    : List Chunk := []
  base      : Nat := 0
  children  : List ChildState
  /-- The last RECEIPT sent (R463), and RESENDs asked for: member, chunk and generation. -/
  receipt   : Option (Bool × Nat) := none
  asked     : List (Nat × Nat × Nat) := []
  /-- Chunks re-reduced, and re-reductions taken part in (R477). -/
  rereduced : List Nat := []
  takenPart : Nat := 0
  /-- Repeated packets (R465): failures reported (chunk, generation, cause, endpoint), retractions at the root. -/
  failures  : List (Nat × Nat × Nat × Nat) := []
  retracts  : List (Nat × Nat) := []
  /-- Chunks to be re-formed, each under its new generation (R474). -/
  reforms   : List (Nat × Nat) := []
  /-- FINISH received or sent: its STATUS and DETAIL. -/
  finish    : Option (Nat × Nat) := none
  /-- The page key on whose fault chunks are held, and the packets held with them (R352). -/
  paused    : Option Nat := none
  held      : List Packet := []
  /-- A reset or a partition change waits for a chunk boundary (R472). -/
  leaving   : Bool := false
  deriving DecidableEq, Repr

/-- A group installed on a die (R439 to R444). -/
structure Group where
  id       : Nat
  gen      : Nat
  root     : Nat
  tclass   : Nat
  owner    : Nat
  timeout  : Nat
  /-- This die's member index, and every member's endpoint and parent. -/
  member   : Nat
  table    : List (Nat × Nat)
  /-- NEXT_OP_SEQ (32 bits; 0 at installation). -/
  nextOp   : Word := 0
  op       : Option CollOp := none
  /-- OP_SEQ and chunks of the operation that ended last (R465). -/
  ended    : Option (Word × Nat) := none
  deriving DecidableEq, Repr
/-! ### Result integrity (chapter 13) -/

/-- The source of a retraction-log entry (R510): a Reckoner (die × 5 + number) and the checks linked to it, or a chunk of
a group's operation. -/
inductive LogSource where
  | reckoner (k : Nat) (checks : List Nat)
  | chunk (group : Nat) (seq : Word) (k : Nat)
  deriving DecidableEq, Repr

/-- An entry of a retraction log (R510). -/
structure LogEntry where
  seq        : Word
  block      : Word64
  fn         : Nat
  dest       : Nat
  source     : LogSource
  gen        : Nat := 0
  retracting : Bool := false
  deriving DecidableEq, Repr

/-- A NOTICE that has not been acknowledged (R514, R515). -/
structure Notice where
  seq     : Word
  dest    : Nat
  fn      : Nat
  gen     : Nat
  blocks  : List Word64
  repeats : Nat := 0
  deriving DecidableEq, Repr

/-- A digest that the root of a collation holds for a round (R523): round, part, replica, and the digest, none for
NO_DIGEST. -/
structure HeldDigest where
  round   : Nat
  part    : Nat
  replica : Nat
  digest  : Option (List Byte)
  deriving DecidableEq, Repr

/-- A collation entry (R519 to R523). -/
structure Collation where
  id       : Nat
  replica  : Nat
  last     : Nat
  part     : Nat
  root     : Nat
  group    : Bool
  source   : Nat
  interval : Nat
  timeout  : Nat
  fn       : Nat
  area     : Word64
  ranges   : List (Word64 × Nat)
  /-- COLLATION_STEPS (32 bits), rounds whose digest is to be formed, and digests that wait for DIGEST_ACK: round, digest,
  bytes sent, repeats so far. -/
  steps    : Nat := 0
  due      : List Nat := []
  unacked  : List (Nat × Option (List Byte) × List Byte × Nat) := []
  /-- At a root: digests held, the last round decided of each part, and COLLATION_RESULT. -/
  held     : List HeldDigest := []
  decided  : List (Nat × Nat) := []
  result   : Nat := 0
  deriving DecidableEq, Repr

/-- The integrity unit of a die. -/
structure Integrity where
  /-- The selection key (32 bytes; drawn at start, R494), and the rotation of R495. -/
  key        : List Byte := List.replicate 32 0
  rotation   : Nat := 0
  /-- The check buffer: records by slot, 0 to 3 (R496). -/
  records    : List (Nat × Check) := []
  /-- The retraction log, oldest first, and LOG_SEQ.NEXT (32 bits; reset 0). -/
  log        : List LogEntry := []
  nextSeq    : Word := 0
  notices    : List Notice := []
  /-- Collation entries by number, 0 to 31. -/
  collations : List (Nat × Collation) := []
  deriving DecidableEq, Repr


/-! ### Keys (chapter 15) -/

/-- A loaded key slot (R578): an AES-256 key, a second one for XTS (empty otherwise), its usage mask (R580), and its
connection counter on each die (22 bits, up to 2^22; R206). -/
structure KeySlot where
  key      : List Byte
  second   : List Byte
  usage    : Nat
  counters : List Nat
  deriving DecidableEq, Repr

/-- The cipher engine's random source on a die (R582): ENTROPY_OK and SEEDED (1 bit each; reset 0), and whether a reseed
fell due while a health failure stood. -/
structure Entropy where
  ok      : Bool := false
  seeded  : Bool := false
  blocked : Bool := false
  deriving DecidableEq, Repr

/-! ### The Spine (chapter 15) -/

/-- How far the start of R557 has come. -/
inductive StartPhase where
  /-- PERST_N is asserted, or STRAP_TEST was latched high (R667). -/
  | held
  /-- Die 0 is released; the boot ROM runs next. -/
  | rom
  /-- The Spine has been verified and started. -/
  | spine
  /-- Quire firmware is loaded and reports are awaited. -/
  | loading
  /-- The Spine has opened the PF. -/
  | running
  /-- QUIRE_FAILED (R568). -/
  | failed
  /-- The boot ROM has stopped (R558). -/
  | dead
  deriving DecidableEq, Repr

/-- An image in flash (R561): its 256-byte header and its body. -/
structure Image where
  header : List Byte
  body   : List Byte
  deriving DecidableEq, Repr

/-- The state of a Quire slot (R567). -/
inductive SlotState where
  | empty | trial | active | rejected
  deriving DecidableEq, Repr

/-- A Quire slot: its state, TRIED, and the image that it holds (R560, R567). -/
structure QuireSlot where
  state : SlotState := .empty
  tried : Bool := false
  image : Image := ⟨[], []⟩
  deriving DecidableEq, Repr

/-- The OTP array (R573). A point of brainpoolP384r1 is a pair of coordinates; a public key is none where it is not
programmed. -/
structure Otp where
  identity   : Nat := Config.identityKey
  secret     : List Byte := Config.deviceSecret
  serial     : Word64 := Config.deviceSerial
  serviceMac : BitVec 48 := Config.serviceMac
  /-- Image-signing keys 0 to 3 and debug keys 0 and 1, and the numbers of those revoked. -/
  imageKeys  : List (Option (Nat × Nat)) := (List.range 4).map Config.imageKey
  imageRevoked : List Nat := []
  debugKeys  : List (Option (Nat × Nat)) := (List.range 2).map Config.debugKey
  debugRevoked : List Nat := []
  /-- Security-version minimums for SPINE and QUIRE images. -/
  minSpine   : Nat := 0
  minQuire   : Nat := 0
  deriving DecidableEq, Repr

/-- A delivery session (R564, R565): its number, the header offered, the body received in order, the next block, and the
blocks accepted since the last BLOCK_ACK. -/
structure Delivery where
  session : BitVec 16
  header  : List Byte
  body    : List Byte := []
  next    : Nat := 0
  since   : Nat := 0
  deriving DecidableEq, Repr

/-- The Spine core with its OTP, its flash and its requests. -/
structure Spine where
  phase    : StartPhase := .held
  /-- The present start follows a package cold reset. -/
  cold     : Bool := true
  otp      : Otp := {}
  /-- Flash: the Spine slot and whether it verifies (R571, R572), Quire slots A and B, the certificate chain (R574). -/
  flash    : Image := ⟨Config.spineHeader, Config.spineBody⟩
  flashBad : Bool := false
  slots    : List QuireSlot := [{ state := .active, image := ⟨Config.quireHeader, Config.quireBody⟩ }, {}]
  certs    : List Byte := Config.certificateChain
  /-- The binding record in force (R569): which copy, SEQUENCE (32 bits), QUIRE_FORMAT_0 and _1 (16 bits each). -/
  copy     : Nat := 0
  sequence : Word := 0
  formats  : Nat × Nat := (0, 0)
  /-- The Spine image that runs, and the Quire slot whose image runs (1 bit; reset 0). -/
  image    : Image := ⟨[], []⟩
  inUse    : Nat := 0
  /-- The Spine has opened the PF in the present start; dies that have reported ready; missed heartbeats of each die. -/
  opened   : Bool := false
  reports  : List Nat := []
  misses   : List Nat := List.replicate 8 0
  /-- SPINE_CORRUPT, QUIRE_FAILED and DEBUG_UNLOCKED of SPINE_STAT (1 bit each; reset 0). -/
  corrupt  : Bool := false
  quireFailed : Bool := false
  unlocked : Bool := false
  /-- The nonce last returned by DEBUG_CHALLENGE, until it is accepted (R592). -/
  nonce    : Option (List Byte) := none
  /-- The fabric key, and the last fabric management SEQUENCE accepted under it (64 bits; R588, R589). -/
  fabricKey : Option (List Byte) := none
  fabricSeq : Nat := 0
  delivery : Option Delivery := none
  deriving DecidableEq, Repr

/-- The board interfaces of die 0 (chapters 3 and 18). -/
structure Board where
  /-- Straps latched at deassertion of PERST_N (R667): STRAP_I3C_ADDR (3 bits) and STRAP_TEST. -/
  i3cAddr  : BitVec 3 := 0
  strapTest : Bool := false
  /-- PERST_N is asserted. -/
  perst    : Bool := true
  /-- The PCI Express link, none while it is down: FLIT_MODE, RATE (3 bits) and WIDTH (3 bits). -/
  link     : Option (Bool × Nat × Nat) := none
  /-- DOE Error of the PF's mailbox (R78), and whether an SPDM requester has selected the ExtAsym entry (R575). -/
  doeError : Bool := false
  extAsym  : Bool := false
  /-- MCTP endpoint ID (8 bits; reset 0), and the request that woke the part and awaits its answer (R605). -/
  eid      : Byte := 0
  waking   : Option (List Byte) := none
  deriving DecidableEq, Repr


/-! ### The die and the package -/

/-- One die (R14). -/
structure Die where
  /-- The die-compute domain is in reset, and the forwarding-plane domain is (R63, R675); CMD_BUSY of its group page. -/
  computeReset : Bool := false
  fwdReset     : Bool := false
  cmdBusy      : Bool := false
  tx     : Transport := {}
  /-- Egress schedulers 0 to 9 (R211). -/
  scheds : List Sched := List.replicate 10 { classes := List.replicate 8 {} }
  router : Router := { fifos := List.replicate 9 [], ports := List.replicate 7 .absent ++ [.up] }
  /-- Alram ports 0 and 1, then quire links 0 to 3 (R14). -/
  links  : List Link :=
    List.replicate 2 { vcs := List.replicate 10 {} } ++ List.replicate 4 { vcs := List.replicate 11 {} }
  xlate  : Xlate := {}
  /-- HBM3E controller, LPDDR5X controllers 0 and 1 (R14). -/
  mems   : List MemCtl := [{}, {}, {}]
  power  : Power := {}
  clocks : Clocks := {}
  time   : FabricTime := {}
  /-- Capture logic of each page that differs from reset, by its offset in the die window (R643). -/
  captures : List (Nat × PageCapture) := []
  /-- ORIGIN and TRIGGER_TIME of the capture in progress, which its markers carry (R640). -/
  capOrigin  : Nat := 0
  capTrigger : Word64 := 0
  /-- Ethernet ports 0 to 3 (R294). -/
  eth    : List EthPort := List.replicate 4 {}
  /-- Reckoners 0 to 4 (R14). -/
  recks  : List Reckoner := List.replicate 5 {}
  /-- The collective engine's group list by entry (R439). -/
  groups : List (Nat × Group) := []
  integ  : Integrity := {}
  entropy : Entropy := {}
  deriving DecidableEq, Repr

/-- The state of the block. -/
structure State where
  /-- The part, which no command changes (R1). -/
  part      : Part
  /-- Commands that wait, the front one first. The model's own field. -/
  pending   : List Instr := []
  /-- Local reference time in ns, and how many free values have been used. The model's own fields. -/
  now       : Nat := 0
  free      : Nat := 0
  /-- Memory of every die, keyed by die × 2^38 + die physical address (R319); Ops.lean says what an unlisted byte reads. -/
  mem       : List Host.Cell := []
  /-- Registers and live counters that differ from reset, by PF BAR0 address (R34), and capture totals (R645). -/
  regs      : List (Nat × Word64) := []
  totals    : List (Nat × Word64) := []
  /-- High-half shadows of 64-bit reads, and low halves held by 64-bit writes: function, address, value (R30, R31). -/
  shadows   : List (Nat × Nat × Word) := []
  lowHalves : List (Nat × Nat × Word) := []
  dies      : List Die
  /-- Function 0 is the PF, function n VF n (R70). -/
  fns       : List Fn
  /-- Holder of each Reckoner, by die × 5 + Reckoner, and of each memory granule not held by the PF, by die × 192 +
  granule (R528, R529). -/
  rkOwner   : List Nat
  granules  : List (Nat × Nat) := []
  /-- Queues by function × 65,536 + number, queue pairs by number, descriptors in execution. -/
  queues    : List (Nat × Queue) := []
  qps       : List (Nat × Qp) := []
  execs     : List Exec := []
  /-- Doorbells and interrupt requests on their way (R61, R82), oldest first. -/
  doorbells : List Doorbell := []
  requests  : List IntRequest := []
  /-- STOP_FIFO records by queue page address, oldest first, and whether records were lost before the next (R142). -/
  stops     : List (Nat × List Word) := []
  stopsLost : List Nat := []
  /-- Arrival entries produced and not yet written: producing die, function, queue, entry, oldest first (R118, R121). -/
  arrivals  : List (Nat × Nat × Nat × ArrivalEntry) := []
  /-- COLOPHON_OUT is driven low (R634), THERM_ALERT_N is asserted (R620), POWER_BRAKE_N is asserted (R618). -/
  colophonOut : Bool := false
  thermAlert  : Bool := false
  brakePin    : Bool := false
  /-- Key slots that hold a key, by function × 65 + handle (R578). -/
  keys      : List (Nat × KeySlot) := []
  /-- Configuration and memory requests are answered: the start-up has ended (R67). -/
  ready     : Bool := false
  /-- Recipes by handle (R405), and how many check records have been formed (the model's own count). -/
  recipes   : List (Nat × Recipe) := []
  checks    : Nat := 0
  /-- The Spine, and the board interfaces. -/
  spine     : Spine := {}
  board     : Board := {}
  /-- POWER_REQ in force (3 bits; reset 0), POWER_REFUSED, the state to which the part is moving from or to Pressed, Boarded
  or Shelved, and a request that waits for that move (R601, R602, R631). -/
  powerReq  : Nat := 0
  powerRefused : Bool := false
  powerMove : Option Nat := none
  powerNext : Option Nat := none
  /-- What the block has sent, the latest first. -/
  outbox    : List Output := []
  deriving DecidableEq, Repr

/-- A die right after package cold reset: every field at its default. -/
def Die.reset : Die := {}

/-- The block right after package cold reset, with PERST_N asserted (R625): an RF-8, empty of work. -/
def State.reset : State where
  part := .rf8
  dies := List.replicate 8 Die.reset
  fns := List.replicate 17 {}
  rkOwner := List.replicate 40 0

end Sys2Proof.Machine
end

