-- ==== Sys2Proof/Machine/Pages.lean ====
section
/-!
DEFINITION. The register pages of R35 and of the block chapters: where each page lies in a die window, its header
constants (R40 to R42), and the registers that a page stores, with their access, writable and static bits and reset
values. Every definition here is a table of the spec.
-/

namespace Sys2Proof.Machine

/-- The kinds of page (R35, R42). -/
inductive PageKind where
  | dieGroup | power | clock | colophon | intAgg | packageGroup | mailbox | pcie | clusterGroup | reckoner | recipeCtl | format | partGroup | slotA | slotB | staging | tx | qpPage | rx | schedGroup | sched | rateCtl | curve | rate | collective | xlate | fault | xlateFn | hbm | lpddr | fwdGroup | router0 | router1 | pktBuf | alram | quire | ethGroup | ethPort | cipher | cipherUser | qm | queuePage | fnState | integrity | collation | integrityFn
  deriving DecidableEq, Repr

/-- A page: its die, kind, and instance within the die (function number on per-function pages). -/
structure Page where
  die  : Nat
  kind : PageKind
  inst : Nat := 0
  deriving DecidableEq, Repr

/-- The reset domain that clears a page (R21, R625). -/
inductive Domain where
  | compute | forwarding | package
  deriving DecidableEq, Repr

/-- One row of the page map: kind, offset of instance 0 in the die window, distance between instances, number of
instances, and whether only die 0 has it (R35). -/
structure PageRow where
  kind   : PageKind
  base   : Nat
  stride : Nat
  count  : Nat
  die0   : Bool
  deriving DecidableEq, Repr

/-- The page map of a die window (R35, R139, R207, R240, R292, R367, R400, R526, R551, R586). -/
def pageRows : List PageRow :=
  [⟨.dieGroup, 0, 0, 1, false⟩,
    ⟨.power, 0x1000, 0, 1, false⟩,
    ⟨.clock, 0x2000, 0, 1, false⟩,
    ⟨.colophon, 0x3000, 0, 1, false⟩,
    ⟨.intAgg, 0x4000, 0, 1, false⟩,
    ⟨.packageGroup, 0x80000, 0, 1, true⟩,
    ⟨.mailbox, 0x90000, 0, 1, true⟩,
    ⟨.pcie, 0xA0000, 0, 1, true⟩,
    ⟨.clusterGroup, 0xF0000, 0, 1, false⟩,
    ⟨.reckoner, 0x100000, 0x10000, 5, false⟩,
    ⟨.recipeCtl, 0x101000, 0x10000, 5, false⟩,
    ⟨.format, 0x102000, 0x10000, 5, false⟩]
  ++ [⟨.partGroup, 0x150000, 0x1000, 16, true⟩,
    ⟨.slotA, 0x160000, 0x1000, 16, true⟩,
    ⟨.slotB, 0x170000, 0x1000, 16, true⟩,
    ⟨.staging, 0x180000, 0, 1, false⟩,
    ⟨.tx, 0x200000, 0, 1, false⟩,
    ⟨.qpPage, 0x201000, 0x1000, 17, false⟩,
    ⟨.rx, 0x220000, 0, 1, false⟩,
    ⟨.schedGroup, 0x240000, 0, 1, false⟩,
    ⟨.sched, 0x241000, 0x1000, 10, false⟩,
    ⟨.rateCtl, 0x250000, 0, 1, false⟩,
    ⟨.curve, 0x251000, 0x1000, 8, false⟩,
    ⟨.rate, 0x260000, 0x1000, 17, false⟩]
  ++ [⟨.collective, 0x280000, 0, 1, false⟩,
    ⟨.xlate, 0x2C0000, 0, 1, false⟩,
    ⟨.fault, 0x2C1000, 0, 1, false⟩,
    ⟨.xlateFn, 0x2C2000, 0x1000, 17, false⟩,
    ⟨.hbm, 0x300000, 0, 1, false⟩,
    ⟨.lpddr, 0x310000, 0x8000, 2, false⟩,
    ⟨.fwdGroup, 0x400000, 0, 1, false⟩,
    ⟨.router0, 0x401000, 0, 1, false⟩,
    ⟨.router1, 0x402000, 0, 1, false⟩,
    ⟨.pktBuf, 0x403000, 0, 1, false⟩,
    ⟨.alram, 0x404000, 0x1000, 2, false⟩,
    ⟨.quire, 0x406000, 0x1000, 4, false⟩]
  ++ [⟨.ethGroup, 0x480000, 0, 1, false⟩,
    ⟨.ethPort, 0x481000, 0x1000, 4, false⟩,
    ⟨.cipher, 0x500000, 0, 1, false⟩,
    ⟨.cipherUser, 0x501000, 0x1000, 17, false⟩,
    ⟨.qm, 0x600000, 0, 1, false⟩,
    ⟨.queuePage, 0x601000, 0x1000, 17, false⟩,
    ⟨.fnState, 0x620000, 0x1000, 17, true⟩,
    ⟨.integrity, 0x700000, 0, 1, false⟩,
    ⟨.collation, 0x701000, 0, 1, false⟩,
    ⟨.integrityFn, 0x702000, 0x1000, 17, false⟩]

/-- Offset of instance 0 of a kind in the die window, and the distance between instances. -/
def PageKind.place : PageKind → Nat × Nat
  | .dieGroup => (0, 0)
  | .power => (0x1000, 0)
  | .clock => (0x2000, 0)
  | .colophon => (0x3000, 0)
  | .intAgg => (0x4000, 0)
  | .packageGroup => (0x80000, 0)
  | .mailbox => (0x90000, 0)
  | .pcie => (0xA0000, 0)
  | .clusterGroup => (0xF0000, 0)
  | .reckoner => (0x100000, 0x10000)
  | .recipeCtl => (0x101000, 0x10000)
  | .format => (0x102000, 0x10000)
  | .partGroup => (0x150000, 0x1000)
  | .slotA => (0x160000, 0x1000)
  | .slotB => (0x170000, 0x1000)
  | .staging => (0x180000, 0)
  | .tx => (0x200000, 0)
  | .qpPage => (0x201000, 0x1000)
  | .rx => (0x220000, 0)
  | .schedGroup => (0x240000, 0)
  | .sched => (0x241000, 0x1000)
  | .rateCtl => (0x250000, 0)
  | .curve => (0x251000, 0x1000)
  | .rate => (0x260000, 0x1000)
  | .collective => (0x280000, 0)
  | .xlate => (0x2C0000, 0)
  | .fault => (0x2C1000, 0)
  | .xlateFn => (0x2C2000, 0x1000)
  | .hbm => (0x300000, 0)
  | .lpddr => (0x310000, 0x8000)
  | .fwdGroup => (0x400000, 0)
  | .router0 => (0x401000, 0)
  | .router1 => (0x402000, 0)
  | .pktBuf => (0x403000, 0)
  | .alram => (0x404000, 0x1000)
  | .quire => (0x406000, 0x1000)
  | .ethGroup => (0x480000, 0)
  | .ethPort => (0x481000, 0x1000)
  | .cipher => (0x500000, 0)
  | .cipherUser => (0x501000, 0x1000)
  | .qm => (0x600000, 0)
  | .queuePage => (0x601000, 0x1000)
  | .fnState => (0x620000, 0x1000)
  | .integrity => (0x700000, 0)
  | .collation => (0x701000, 0)
  | .integrityFn => (0x702000, 0x1000)

/-- Offset of a page in its die window. -/
def Page.off (p : Page) : Nat := p.kind.place.1 + p.inst * p.kind.place.2

/-- PF BAR0 address of a page (R34). -/
def Page.addr (p : Page) : Nat := p.die * 0x800000 + p.off

/-- TYPE of BLK_ID (R42). -/
def PageKind.type : PageKind → Nat
  | .dieGroup => 2
  | .power => 0x50
  | .clock => 0x51
  | .colophon => 0x52
  | .intAgg => 0x53
  | .packageGroup => 1
  | .mailbox => 0x60
  | .pcie => 0x61
  | .clusterGroup => 3
  | .reckoner => 0x10
  | .recipeCtl => 0x10
  | .format => 0x10
  | .partGroup => 4
  | .slotA => 3
  | .slotB => 3
  | .staging => 0x11
  | .tx => 0x20
  | .qpPage => 0x20
  | .rx => 0x21
  | .schedGroup => 5
  | .sched => 0x22
  | .rateCtl => 0x22
  | .curve => 0x22
  | .rate => 0x22
  | .collective => 0x24
  | .xlate => 0x25
  | .fault => 0x25
  | .xlateFn => 0x25
  | .hbm => 0x30
  | .lpddr => 0x31
  | .fwdGroup => 6
  | .router0 => 0x40
  | .router1 => 0x40
  | .pktBuf => 0x41
  | .alram => 0x42
  | .quire => 0x43
  | .ethGroup => 7
  | .ethPort => 0x44
  | .cipher => 0x27
  | .cipherUser => 0x27
  | .qm => 0x23
  | .queuePage => 0x23
  | .fnState => 0x70
  | .integrity => 0x26
  | .collation => 0x26
  | .integrityFn => 0x26

/-- PAGES of BLK_CAP: the block's pages minus one. -/
def PageKind.pages : PageKind → Nat
  | .router0 | .router1 => 1
  | .reckoner | .recipeCtl | .format => 2
  | .tx | .qpPage | .cipher | .cipherUser | .qm | .queuePage => 17
  | .xlate | .fault | .xlateFn | .integrity | .collation | .integrityFn => 18
  | .rateCtl | .curve | .rate => 25
  | _ => 0

/-- COUNTERS of BLK_CAP: live counters of the page; every page has ACCESS_REJECTS (R55, R56). -/
def PageKind.counters : PageKind → Nat
  | .power => 13
  | .clock => 2
  | .colophon => 7
  | .mailbox => 7
  | .pcie => 5
  | .reckoner => 15
  | .recipeCtl => 15
  | .tx => 11
  | .rx => 12
  | .sched => 34
  | .collective => 19
  | .xlate => 11
  | .xlateFn => 4
  | .hbm => 6
  | .lpddr => 6
  | .router0 => 14
  | .pktBuf => 3
  | .alram => 11
  | .quire => 8
  | .ethPort => 40
  | .cipher => 3
  | .cipherUser => 6
  | .queuePage => 9
  | .fnState => 8
  | .integrity => 25
  | .collation => 7
  | .integrityFn => 5
  | _ => 1

/-- GROUP of BLK_CAP. -/
def PageKind.isGroup : PageKind → Bool
  | .dieGroup | .packageGroup | .clusterGroup | .partGroup | .slotA | .slotB | .schedGroup | .fwdGroup | .ethGroup => true
  | _ => false

/-- Whether a page serves a single function (R41). -/
def PageKind.perFn : PageKind → Bool
  | .recipeCtl | .qpPage | .rate | .xlateFn | .cipherUser | .queuePage | .integrityFn => true
  | _ => false

/-- Reset domain of a page (R21). -/
def PageKind.domain : PageKind → Domain
  | .reckoner | .recipeCtl | .format | .staging | .tx | .qpPage | .rx | .collective | .xlate | .fault | .xlateFn | .cipher | .cipherUser | .qm | .queuePage | .integrity | .collation | .integrityFn => .compute
  | .schedGroup | .sched | .rateCtl | .curve | .rate | .fwdGroup | .router0 | .router1 | .pktBuf | .alram | .quire | .ethGroup | .ethPort => .forwarding
  | _ => .package

/-- INSTANCE of BLK_ID. -/
def Page.instNo (p : Page) : Nat :=
  match p.kind with
  | .rateCtl | .curve | .rate => 16
  | .dieGroup => p.die
  | .reckoner | .recipeCtl | .format | .sched | .lpddr | .alram | .quire | .ethPort | .fnState => p.inst
  | .partGroup => p.inst + 1
  | _ => 0

/-- How a stored register answers (R11). -/
inductive Access where
  | ro | rw | rc
  deriving DecidableEq, Repr

/-- A stored register, or an array of them: offset in the page, distance, number, whether it is 64-bit, access, the bits
that a write sets, the static bits among them (R62), and the reset value. -/
structure RegDef where
  off    : Nat
  stride : Nat
  count  : Nat
  wide   : Bool
  access : Access
  wmask  : Nat
  smask  : Nat
  reset  : Nat
  deriving DecidableEq, Repr

/-- The registers that a page stores, by the field tables of its chapter. A reset value that depends on the instance is
given by `regReset`. -/
def regDefs : PageKind → List RegDef
  | .queuePage =>
    [⟨0x100, 0, 1, true, .rw, 0xFFFFFFFFFFFFFFFF, 0, 0⟩ /- ADMIN_BASE -/,
     ⟨0x108, 0, 1, false, .rw, 0xC01F07FF, 0, 0⟩ /- ADMIN_CTL -/,
     ⟨0x110, 0, 1, false, .rw, 0xFFFF, 0, 0⟩ /- QUEUE_SELECT -/]
  | .tx =>
    [⟨0x100, 0, 1, false, .rw, 0xFF, 0, 0x80⟩ /- CTX_PROTECT -/,
     ⟨0x104, 0, 1, false, .rw, 0xFFFF, 0, 0x64⟩ /- FAULT_WAIT_LIMIT -/]
  | .qpPage =>
    [⟨0x100, 0, 1, false, .rw, 0x3FFFF, 0, 0⟩ /- QP_SELECT -/]
  | .sched =>
    [⟨0x100, 0, 1, false, .rw, 0xFF, 0xFF, 0⟩ /- SCHED_CTL -/,
     ⟨0x104, 0, 1, false, .rw, 0x80001F1F, 0, 0x80000608⟩ /- SAMPLE_CTL -/,
     ⟨0x140, 0x10, 8, false, .rw, 0xC0FFFF00, 0, 0x101000⟩ /- CLASS_CTL -/,
     ⟨0x144, 0x10, 8, false, .rw, 0xFFFFFF, 0, 0x186A00⟩ /- CLASS_RATE -/,
     ⟨0x148, 0x10, 8, false, .rw, 0xFFFFFFFF, 0, 0x10000⟩ /- CLASS_BURST -/,
     ⟨0x14C, 0x10, 8, false, .rw, 0xFFFF, 0, 0⟩ /- CLASS_MARK -/,
     ⟨0x400, 4, 128, false, .rc, 0, 0, 0⟩ /- DEPTH_HIST -/,
     ⟨0x600, 4, 128, false, .rc, 0, 0, 0⟩ /- DELAY_HIST -/]
  | .rateCtl =>
    [⟨0x100, 0, 1, false, .rw, 0xFF0F, 0, 0xFF08⟩ /- CC_CTL -/,
     ⟨0x140, 4, 17, false, .rw, 0xFF, 0, 0x40⟩ /- WEIGHT_CAP -/]
  | .curve =>
    [⟨0x100, 0, 1, false, .rw, 1, 0, 0⟩ /- CURVE_CTL -/,
     ⟨0x104, 0, 1, false, .rw, 0xFFFFFF, 0, 0x1388⟩ /- BASE_RTT_NS -/,
     ⟨0x108, 0, 1, false, .rw, 0xFFFF, 0, 0x1F4⟩ /- DELAY_STEP_NS -/,
     ⟨0x10C, 0, 1, false, .rw, 0xFFFFFF, 0, 0x64⟩ /- RATE_MIN -/,
     ⟨0x110, 0, 1, false, .rw, 0xFFFFFF, 0, 0x61A80⟩ /- RATE_INIT -/,
     ⟨0x114, 0, 1, false, .rw, 0xFFFFFF, 0, 0x186A00⟩ /- RATE_MAX -/,
     ⟨0x200, 4, 64, false, .rw, 0xFFFFFFFF, 0, 0x80008000⟩ /- CURVE -/]
  | .rate =>
    [⟨0x100, 0, 1, false, .rw, 0x3FFFF, 0, 0⟩ /- RATE_SELECT -/]
  | .router0 =>
    [⟨0x100, 0, 1, false, .rw, 0x8003FFFF, 0x8003FFFF, 0⟩ /- ENDPOINT_ID -/,
     ⟨0x104, 0, 1, false, .rw, 0x101, 0, 0⟩ /- EDITION_CTL -/,
     ⟨0x110, 0, 1, false, .rw, 0xFF00FFFF, 0, 0x3E8⟩ /- ROUTE_CTL -/,
     ⟨0x118, 0, 1, false, .rw, 0xFFFF, 0, 0x404⟩ /- FIFO_CTL -/]
  | .router1 =>
    [⟨0x100, 0, 1, false, .rw, 0xE0003FFF, 0, 0⟩ /- TABLE_SELECT -/]
  | .alram =>
    [⟨0x100, 0, 1, false, .rw, 0xE01F0000, 0x601F0000, 0x40000000⟩ /- ALRAM_CTL -/,
     ⟨0x10C, 0, 1, false, .rw, 0xFFFF000F, 0, 0x140003⟩ /- ALRAM_READ_CTL -/,
     ⟨0x140, 4, 10, false, .rw, 0xFFFF, 0xFFFF, 0⟩ /- CREDIT_GRANT -/]
  | .quire =>
    [⟨0x100, 0, 1, false, .rw, 0x80000000, 0, 0⟩ /- QUIRE_CTL -/,
     ⟨0x140, 4, 11, false, .rw, 0xFFFF, 0xFFFF, 0⟩ /- CREDIT_GRANT -/]
  | .ethGroup =>
    [⟨0x100, 0, 1, false, .rw, 3, 3, 0⟩ /- ETH_GROUP_CTL -/,
     ⟨0x104, 0, 1, false, .rw, 0xFFFF, 0xFFFF, 0x2000⟩ /- ETH_POOL -/,
     ⟨0x108, 0, 1, false, .rw, 0xFFFF, 0xFFFF, 0x4470⟩ /- UDP_PORT -/,
     ⟨0x10C, 0, 1, false, .rw, 0xFF, 0, 0x40⟩ /- IP_CTL -/,
     ⟨0x110, 0, 1, true, .rw, 0xFFFFFFFFFFFFFFFF, 0xFFFFFFFFFFFFFFFF, 0⟩ /- FABRIC_PREFIX -/,
     ⟨0x118, 0, 1, false, .rw, 0x3F3F3F3F, 0, 0x18100800⟩ /- TX_DSCP_LO -/,
     ⟨0x11C, 0, 1, false, .rw, 0x3F3F3F3F, 0, 0x38302820⟩ /- TX_DSCP_HI -/,
     ⟨0x140, 4, 8, false, .rw, 0x77777777, 0, 0⟩ /- RX_DSCP_MAP -/]
  | .ethPort =>
    [⟨0x100, 0, 1, false, .rw, 0xE0000000, 0x40000000, 0⟩ /- PORT_CTL -/,
     ⟨0x108, 0, 1, false, .rw, 0x3FFF, 0, 0x2400⟩ /- MAX_FRAME -/,
     ⟨0x10C, 0, 1, false, .rw, 0xFFFF00FF, 0, 0xFFFF0000⟩ /- PFC_CTL -/,
     ⟨0x110, 0, 1, true, .rw, 0xFFFFFFFFFFFF, 0, 0⟩ /- GATEWAY_MAC -/,
     ⟨0x120, 8, 8, true, .rw, 0x8000FFFFFFFFFFFF, 0, 0⟩ /- UCAST_FILTER -/,
     ⟨0x160, 8, 4, true, .rw, 0x8000FFFFFFFFFFFF, 0, 0⟩ /- MCAST_FILTER -/,
     ⟨0x180, 8, 8, false, .rw, 0xFFFFFFFF, 0, 0x1000200⟩ /- PRIO_THRESH -/,
     ⟨0x184, 8, 8, false, .rw, 0xFFFF, 0, 0x100⟩ /- PRIO_HEADROOM -/]
  | .xlate =>
    [⟨0x100, 0, 1, false, .rw, 0xFFFF, 0, 0x64⟩ /- FAULT_CTL -/,
     ⟨0x104, 0, 1, false, .rw, 0xFFFFFF, 0, 0x3E8⟩ /- DOG_EAR_WINDOW -/,
     ⟨0x108, 0, 1, false, .rw, 0xFFFFFFFF, 0, 0x8000000⟩ /- DOG_EAR_THRESH -/,
     ⟨0x114, 0, 1, false, .rw, 0x1F, 0, 0⟩ /- ROOT_SELECT -/]
  | .fault =>
    [⟨0x100, 0, 1, false, .rw, 0xFFF, 0, 0⟩ /- FAULT_SELECT -/]
  | .hbm =>
    [⟨0x100, 0, 1, false, .rw, 0x8000FFFF, 0, 0x80000018⟩ /- MEM_CTL -/]
  | .reckoner =>
    [⟨0x104, 0, 1, false, .ro, 0, 0, 0⟩ /- STAGE_ECC_ADDR -/]
  | .format =>
    [⟨0x100, 4, 8, false, .rw, 0xFF017F3F, 0xFFFFFFFF, 0⟩ /- FMT_SLOT -/]
  | .recipeCtl =>
    [⟨0x108, 0, 1, false, .rw, 0xF, 0, 0⟩ /- SEQ_SELECT -/]
  | .collective =>
    [⟨0x100, 0, 1, false, .rw, 0xFFFFFFFF, 0, 0x32000A⟩ /- COLL_CTL -/,
     ⟨0x108, 0, 1, false, .rw, 0xFFF, 0, 0⟩ /- GROUP_SELECT -/]
  | .integrity =>
    [⟨0x100, 0, 1, false, .rw, 0xFF0F, 0, 0x305⟩ /- REREC_CTL -/,
     ⟨0x108, 0, 1, false, .ro, 0, 0, 0x3FFFF⟩ /- LAST_CLASS -/,
     ⟨0x114, 0, 1, false, .rw, 0xFFFF, 0, 0x3C0A⟩ /- KAR_CTL -/,
     ⟨0x118, 0, 1, false, .rw, 0xFFFFFFFF, 0, 0x64000A⟩ /- NOTICE_CTL -/]
  | .collation =>
    [⟨0x100, 0, 1, false, .rw, 0x1F, 0, 0⟩ /- COLLATION_SELECT -/]
  | .fnState =>
    [⟨0x140, 0, 1, true, .rw, 0xFFFFFFFFFFFFFFFF, 0, 0⟩ /- DIRTY_BASE -/,
     ⟨0x148, 0, 1, false, .rw, 0x8000001F, 0, 0⟩ /- DIRTY_CTL -/,
     ⟨0x14C, 0, 1, false, .ro, 0, 0, 0⟩ /- DIRTY_TAIL -/,
     ⟨0x150, 0, 1, false, .rw, 0xFFFFFFFF, 0, 0⟩ /- DIRTY_HEAD -/]
  | .cipherUser =>
    [⟨0x100, 0, 1, true, .rw, 0xFFFFFFFFFFFFFFFF, 0, 0⟩ /- KEY_BLOB_ADDR -/,
     ⟨0x10C, 0, 1, false, .ro, 0, 0, 0⟩ /- KEY_STAT -/,
     ⟨0x118, 0, 1, false, .rw, 0x7F, 0, 0⟩ /- KEY_SELECT -/]
  | .mailbox =>
    [⟨0x100, 0, 1, true, .rw, 0xFFFFFFFFFFFFFFFF, 0, 0⟩ /- MBX_REQ_ADDR -/,
     ⟨0x108, 0, 1, true, .rw, 0xFFFFFFFFFFFFFFFF, 0, 0⟩ /- MBX_RSP_ADDR -/,
     ⟨0x114, 0, 1, false, .ro, 0, 0, 0⟩ /- MBX_STAT -/]
  | .power =>
    [⟨0x104, 0, 1, false, .rw, 0xFFFFFF00, 0, 0x19646E00⟩ /- PWR_CTL -/,
     ⟨0x108, 0, 1, false, .ro, 0, 0, 0x15E⟩ /- DIE_BUDGET -/,
     ⟨0x10C, 0, 1, false, .rw, 0xFFFFFFFF, 0, 0x6407D0⟩ /- IDLE_CTL -/,
     ⟨0x110, 0, 1, false, .ro, 0, 0, 0⟩ /- PACKAGE_LIMIT -/,
     ⟨0x140, 4, 8, false, .rw, 0xFF7F, 0, 0⟩ /- THERM_TABLE -/,
     ⟨0x400, 0x100, 3, false, .ro, 0, 0, 0⟩ /- UP_TABLE -/,
     ⟨0x480, 0x100, 3, false, .ro, 0, 0, 0⟩ /- DOWN_TABLE -/]
  | .colophon =>
    [⟨0x100, 0, 1, false, .rw, 0xF000FFFF, 0, 0x800003E8⟩ /- CAP_CTL -/,
     ⟨0x108, 0, 1, false, .rw, 0xFFFFFFFF, 0, 1⟩ /- NEXT_NUMBER -/,
     ⟨0x10C, 0, 1, false, .ro, 0, 0, 0⟩ /- LAST_NUMBER -/,
     ⟨0x110, 0, 1, true, .rw, 0xFFFFFFFFFFFFFFFF, 0, 0⟩ /- CAP_TIME -/,
     ⟨0x118, 0, 1, false, .rw, 0x1FFFFF, 0, 0⟩ /- ERROR_TRIGGER -/,
     ⟨0x12C, 0, 1, false, .rw, 0xFC7F0000, 0, 0⟩ /- TIME_CTL -/,
     ⟨0x130, 0, 1, false, .ro, 0, 0, 0⟩ /- TIME_OFFSET_NS -/]
  | .lpddr =>
    [⟨0x100, 0, 1, false, .rw, 0x8000FFFF, 0, 0x80000018⟩ /- MEM_CTL -/]
  | _ => []

end Sys2Proof.Machine
end

