-- ==== Sys2Proof/Machine/Ops.lean ====
section
/-!
DEFINITION. Named operations over the state: dies, functions, registers, counters, memory bytes, time, outputs. Every
meaning reaches the state through these.
-/

namespace Sys2Proof.Machine

/-- The outcome of a command of this block. -/
abbrev Result := Host.Outcome State Fault Refusal

/-- Die `d`; a die at reset where the part has none. -/
def State.die (s : State) (d : Nat) : Die := (s.dies[d]?).getD Die.reset

/-- Die `d` changed. -/
def State.onDie (s : State) (d : Nat) (f : Die → Die) : State := { s with dies := modifyAt s.dies d f }

/-- Function `f`; a closed function where there is none. -/
def State.fn (s : State) (f : Nat) : Fn := (s.fns[f]?).getD {}

/-- Function `f` changed. -/
def State.onFn (s : State) (f : Nat) (g : Fn → Fn) : State := { s with fns := modifyAt s.fns f g }

/-- Something sent to the world outside. -/
def State.emit (s : State) (o : Output) : State := { s with outbox := o :: s.outbox }

/-- A command's effect where die `d` exists; elsewhere the fault of R14. -/
def atDie (s : State) (d : Nat) (r : State) : Result :=
  if d < s.dies.length then .next r else .fault .noSuchDie

/-- A command's effect where die `d` exists and the unit it names is in range. -/
def atUnit (s : State) (d : Nat) (ok : Bool) (r : State) : Result :=
  if d < s.dies.length then (if ok then .next r else .fault .noSuchUnit) else .fault .noSuchDie

/-- A command's effect where function `f` exists (R70). -/
def atFn (s : State) (f : Nat) (r : State) : Result :=
  if f < s.fns.length then .next r else .fault .noSuchUnit

/-! ### Time -/

/-- Fabric time of die `d` in ns (R650). -/
def State.time (s : State) (d : Nat) : Word64 := (s.die d).time.ns

/-! ### Registers -/

/-- The register definition at an offset of a page. -/
def regDefAt (k : PageKind) (off : Nat) : Option RegDef :=
  (regDefs k).find? fun r =>
    r.off ≤ off && (if r.stride = 0 then off == r.off
      else (off - r.off) % r.stride == 0 && (off - r.off) / r.stride < r.count)

/-- I_FULL of a governed rail in mA (R606). -/
def railFull : Nat → Nat
  | 0 => 350000
  | 1 => 25000
  | _ => 50000

/-- Default entry `j` of the ramp tables of a rail (R611, R612). -/
def rampDefault (rail j : Nat) : Nat :=
  if j ≤ 12 then 2 ^ j * 2 ^ 19 + (if rail = 0 then 56 else if rail = 1 then 4 else 8) * 2 ^ j
  else 6250 * 2 ^ 19 + railFull rail

/-- Reset value of FMT_SLOT k (R379). -/
def fmtSlotReset : Nat → Nat
  | 0 => 0x05012101
  | 1 => 0x05012301
  | 2 => 0x05013203
  | 3 => 0x25014307
  | 4 => 0x1501520F
  | 5 => 0x45010706
  | 6 => 0x21014307
  | _ => 0x41010300

/-- Reset value of a stored register (the reset columns of the field tables). -/
def regReset (part : Part) (p : Page) (off : Nat) : Nat :=
  match p.kind with
  | .sched => if off = 0x100 then (if p.inst < 2 then 24 else if p.inst < 6 then 86 else 8)
      else ((regDefAt p.kind off).map RegDef.reset).getD 0
  | .alram => if 0x140 ≤ off ∧ off < 0x168 then (if off < 0x160 then 4096 else 1024)
      else ((regDefAt p.kind off).map RegDef.reset).getD 0
  | .quire => if off = 0x100 then (if (part.quirePeer p.die p.inst).isSome then 0x80000000 else 0)
      else if 0x140 ≤ off ∧ off < 0x16C then (if off < 0x160 then 2048 else if off < 0x168 then 1024 else 256)
      else ((regDefAt p.kind off).map RegDef.reset).getD 0
  | .ethGroup => if 0x140 ≤ off ∧ off < 0x160 then 0x11111111 * ((off - 0x140) / 4)
      else ((regDefAt p.kind off).map RegDef.reset).getD 0
  | .format => if 0x100 ≤ off ∧ off < 0x120 then fmtSlotReset ((off - 0x100) / 4)
      else ((regDefAt p.kind off).map RegDef.reset).getD 0
  | .power => if off = 0x110 then part.powerLimit
      else if 0x140 ≤ off ∧ off < 0x160 then
        (91 + 2 * ((off - 0x140) / 4)) * 256 + (if off = 0x15C then 0 else 100 - 15 * ((off - 0x140) / 4))
      else if 0x400 ≤ off ∧ off < 0x700 then rampDefault ((off - 0x400) / 0x100) ((off - 0x400) % 0x80 / 4)
      else ((regDefAt p.kind off).map RegDef.reset).getD 0
  | k => ((regDefAt k off).map RegDef.reset).getD 0

/-- Contents of a stored register. -/
def State.reg (s : State) (p : Page) (off : Nat) : Nat :=
  match FMap.get? s.regs (p.addr + off) with
  | some v => v.toNat
  | none => regReset s.part p off

/-- A stored register set; a register back at its reset value is not listed. -/
def State.setReg (s : State) (p : Page) (off v : Nat) : State :=
  { s with regs :=
      if BitVec.ofNat 64 v = BitVec.ofNat 64 (regReset s.part p off) then FMap.erase s.regs (p.addr + off)
      else FMap.set s.regs (p.addr + off) (BitVec.ofNat 64 v) }

/-! ### Counters (R55 to R57, R645, R649) -/

/-- Address of live counter `k` of a page (R56); a page of 4 KiB has room for 128. -/
def Page.ctr (p : Page) (k : Nat) : Nat := p.addr + 0xC00 + 8 * (k % 128)

/-- Live counter `k` of a page. -/
def State.ctr (s : State) (p : Page) (k : Nat) : Word64 := (FMap.get? s.regs (p.ctr k)).getD 0

/-- Capture total of counter `k` of a page (R645). -/
def State.total (s : State) (p : Page) (k : Nat) : Word64 := (FMap.get? s.totals (p.ctr k)).getD 0

/-- A map entry set, or removed where the value is 0. -/
def setOr0 (m : List (Nat × Word64)) (k : Nat) (v : Word64) : List (Nat × Word64) :=
  if v = 0 then FMap.erase m k else FMap.set m k v

/-- Counter `k` of a page advanced by `n`, its capture total with it. -/
def State.count (s : State) (p : Page) (k : Nat) (n : Nat := 1) : State :=
  { s with
    regs := setOr0 s.regs (p.ctr k) (s.ctr p k + BitVec.ofNat 64 n)
    totals := setOr0 s.totals (p.ctr k) (s.total p k + BitVec.ofNat 64 n) }

/-- A level counter set to a value (OCCUPANCY, PEAK_OCCUPANCY, LOG_HIGH_WATER). -/
def State.setLevel (s : State) (p : Page) (k : Nat) (n : Nat) : State :=
  { s with
    regs := setOr0 s.regs (p.ctr k) (BitVec.ofNat 64 n)
    totals := setOr0 s.totals (p.ctr k) (BitVec.ofNat 64 n) }

/-! ### Memory bytes (R319, R321, R322) -/

/-- Key of a die physical address in the memory of the package. -/
def memKey (d pa : Nat) : Nat := d * 2 ^ 38 + pa % 2 ^ 38

/-- Offset of a die physical address in its memory of 64 GiB, each of which has the layout of R322. -/
def memOffset (pa : Nat) : Nat := pa % 2 ^ 36

/-- What a byte that nothing has written reads as: all ones in a poison bitmap (R322: the 2 MiB from 0xF_FBE0_0000 of each of
the three memories), since every block is poisoned when a memory's contents have been lost (R604); 0 elsewhere. DESIGN CHOICE
for the zero (notes/assumptions/4.md); unsafe. -/
def memDefault (key : Nat) : Byte :=
  if memOffset key / 2 ^ 21 = 0x7FDF ∧ key % 2 ^ 38 / 2 ^ 36 < 3 then 0xFF else 0

/-- The byte at a die physical address. -/
def State.byte (s : State) (d pa : Nat) : Byte := (FMap.get? s.mem (memKey d pa)).getD (memDefault (memKey d pa))

/-- The canonical form of memory: addresses strictly rising, no entry equal to what an unlisted address reads as. -/
abbrev Memory.wf (m : List Host.Cell) : Bool := FMap.wf m && m.all fun c => !(c.2 == memDefault c.1)

/-- `n` bytes from a key on, in one pass over memory in canonical form; `fuel` bounds the pass. -/
def memRead : Nat → List Host.Cell → Nat → Nat → List Byte
  | 0, _, _, _ => []
  | _, _, _, 0 => []
  | fuel + 1, [], k, n + 1 => memDefault k :: memRead fuel [] (k + 1) n
  | fuel + 1, c :: m, k, n + 1 =>
    if c.1 < k then memRead fuel m k (n + 1)
    else if c.1 = k then c.2 :: memRead fuel m (k + 1) n
    else memDefault k :: memRead fuel (c :: m) (k + 1) n

/-- `n` bytes from a die physical address, without any check. -/
def State.bytes (s : State) (d pa n : Nat) : List Byte := memRead (s.mem.length + n) s.mem (memKey d pa) n

/-- The cells that list bytes from a key on. -/
def memCells (k : Nat) : List Byte → List Host.Cell
  | [] => []
  | b :: bs => if b = memDefault k then memCells (k + 1) bs else (k, b) :: memCells (k + 1) bs

/-- Memory without its cells below a key. -/
def memFrom (k : Nat) : List Host.Cell → List Host.Cell
  | [] => []
  | c :: m => if c.1 < k then memFrom k m else c :: m

/-- Memory with the bytes from a key on replaced, in one pass. -/
def memPut (k : Nat) (bs : List Byte) : List Host.Cell → List Host.Cell
  | [] => memCells k bs
  | c :: m => if c.1 < k then c :: memPut k bs m else memCells k bs ++ memFrom (k + bs.length) (c :: m)

/-- Memory with the byte at a key set; a byte equal to what an unlisted one reads as is not listed. -/
def memSet (m : List Host.Cell) (k : Nat) (b : Byte) : List Host.Cell := memPut k [b] m

/-- The byte at a die physical address set. -/
def State.setByte (s : State) (d pa : Nat) (b : Byte) : State := { s with mem := memSet s.mem (memKey d pa) b }

/-- Bytes put at a die physical address, without tallies. -/
def State.setBytes (s : State) (d pa : Nat) (bs : List Byte) : State := { s with mem := memPut (memKey d pa) bs s.mem }

/-- The next free value, and the state that has used it. -/
def State.takeFree (s : State) : Word64 × State := (Config.freeValue s.free, { s with free := s.free + 1 })

/-- `n` free bytes. -/
def State.takeFreeBytes : Nat → State → List Byte × State
  | 0, s => ([], s)
  | n + 1, s =>
    let r := State.takeFreeBytes n { s with free := s.free + 1 }
    ((Config.freeValue s.free).setWidth 8 :: r.1, r.2)

end Sys2Proof.Machine
end

