-- ==== Sys2Proof/Machine/Interrupts.lean ====
section
/-!
DEFINITION. The common page of every block (R40 to R61): group pages and their children, interrupt status and routing,
first-error capture, and the start of a colophon capture, which an error may trigger (R632).
-/

namespace Sys2Proof.Machine

/-- The page whose interrupt registers a page shows: its block's first page, or itself (R41). -/
def Page.home (p : Page) : Page :=
  match p.kind with
  | .format => ⟨p.die, .reckoner, p.inst⟩
  | .curve => ⟨p.die, .rateCtl, 0⟩
  | .fault => ⟨p.die, .xlate, 0⟩
  | .router1 => ⟨p.die, .router0, 0⟩
  | .collation => ⟨p.die, .integrity, 0⟩
  | _ => p

/-- Child index in the die group page of the block that a page belongs to (R51). -/
def Page.dieChild (p : Page) : Option Nat :=
  match p.kind with
  | .clusterGroup | .reckoner | .recipeCtl | .format => some 0
  | .staging => some 1
  | .tx | .qpPage => some 2
  | .rx => some 3
  | .schedGroup | .sched | .rateCtl | .curve | .rate => some 4
  | .collective => some 5
  | .xlate | .fault | .xlateFn => some 6
  | .hbm => some 7
  | .lpddr => some (8 + p.inst)
  | .fwdGroup | .router0 | .router1 | .pktBuf | .alram | .quire => some 10
  | .ethGroup | .ethPort => some 11
  | .cipher | .cipherUser => some 12
  | .qm | .queuePage => some 13
  | .integrity | .collation | .integrityFn => some 14
  | .power => some 15
  | .clock => some 16
  | .colophon => some 17
  | .intAgg => some 18
  | .mailbox => some 19
  | .pcie => some 20
  | .dieGroup | .packageGroup | .partGroup | .slotA | .slotB | .fnState => none

/-- The group page between a block and its die group page, with the block's index in it (R50, R240). -/
def Page.midChild (p : Page) : Option (PageKind × Nat) :=
  match p.kind with
  | .reckoner | .recipeCtl | .format => some (.clusterGroup, p.inst)
  | .sched => some (.schedGroup, p.inst)
  | .rateCtl | .curve | .rate => some (.schedGroup, 10)
  | .router0 | .router1 => some (.fwdGroup, 0)
  | .pktBuf => some (.fwdGroup, 1)
  | .alram => some (.fwdGroup, 2 + p.inst)
  | .quire => some (.fwdGroup, 4 + p.inst)
  | .ethPort => some (.ethGroup, p.inst)
  | _ => none

/-- Reckoners held by a function, as (die, Reckoner), in ascending order (R38). -/
def State.heldReckoners (s : State) (f : Nat) : List (Nat × Nat) :=
  ((List.range s.rkOwner.length).filter fun i => s.rkOwner[i]? == some f).map fun i => (i / 5, i % 5)

/-- The dies of the part. -/
def State.dieList (s : State) : List Nat := List.range s.dies.length

/-- The function that holds Reckoner `k` of die `d`. -/
def State.reckonerFn (s : State) (d k : Nat) : Nat := (s.rkOwner[d * 5 + k]?).getD 0

/-- The function that a per-function, function-state or partition page serves. -/
def State.pageFn (s : State) (p : Page) : Nat :=
  match p.kind with
  | .recipeCtl => s.reckonerFn p.die p.inst
  | .partGroup | .slotA | .slotB => p.inst + 1
  | .queuePage | .qpPage | .rate | .xlateFn | .integrityFn | .cipherUser | .fnState => p.inst
  | _ => 0

/-- The pages that answer for each child of a group page, in child order (R50 to R52). -/
def State.children (s : State) (p : Page) : List (List Page) :=
  let one (k : PageKind) (n : Nat := 0) : List Page := [⟨p.die, k, n⟩]
  let all (k : PageKind) (n : Nat) : List Page := s.dieList.map fun d => ⟨d, k, n⟩
  match p.kind with
  | .packageGroup => s.dieList.map fun d => [⟨d, .dieGroup, 0⟩]
  | .dieGroup =>
    [one .clusterGroup, one .staging, one .tx, one .rx, one .schedGroup, one .collective, one .xlate, one .hbm,
      one .lpddr, one .lpddr 1, one .fwdGroup] ++
    [one .ethGroup, one .cipher, one .qm, one .integrity, one .power, one .clock, one .colophon, one .intAgg] ++
    (if p.die = 0 then [one .mailbox, one .pcie] else [])
  | .clusterGroup => (List.range 5).map fun k => one .reckoner k
  | .schedGroup => ((List.range 10).map fun k => one .sched k) ++ [one .rateCtl]
  | .fwdGroup => [one .router0, one .pktBuf, one .alram, one .alram 1, one .quire, one .quire 1, one .quire 2, one .quire 3]
  | .ethGroup => (List.range 4).map fun k => one .ethPort k
  | .partGroup =>
    let n := p.inst + 1
    [one .fnState n, all .queuePage n, all .qpPage n ++ all .rate n, one .cipherUser n, one .slotA p.inst,
      one .slotB p.inst, all .integrityFn n, all .xlateFn n]
  | .slotA => ((s.heldReckoners (p.inst + 1)).take 20).map fun r => [⟨r.1, .recipeCtl, r.2⟩]
  | .slotB => ((s.heldReckoners (p.inst + 1)).drop 20).map fun r => [⟨r.1, .recipeCtl, r.2⟩]
  | _ => []

/-- The group pages of a partition that a page stands below, with its child index there (R52). -/
def State.partParents (s : State) (p : Page) : List (Page × Nat) :=
  let f := s.pageFn p
  if f = 0 then [] else
  match p.kind with
  | .fnState => [(⟨0, .partGroup, f - 1⟩, 0)]
  | .queuePage => [(⟨0, .partGroup, f - 1⟩, 1)]
  | .qpPage | .rate => [(⟨0, .partGroup, f - 1⟩, 2)]
  | .cipherUser => if p.die = 0 then [(⟨0, .partGroup, f - 1⟩, 3)] else []
  | .slotA => [(⟨0, .partGroup, f - 1⟩, 4)]
  | .slotB => [(⟨0, .partGroup, f - 1⟩, 5)]
  | .integrityFn => [(⟨0, .partGroup, f - 1⟩, 6)]
  | .xlateFn => [(⟨0, .partGroup, f - 1⟩, 7)]
  | .recipeCtl =>
    match (s.heldReckoners f).idxOf? (p.die, p.inst) with
    | some k => if k < 20 then [(⟨0, .slotA, f - 1⟩, k)] else [(⟨0, .slotB, f - 1⟩, k - 20)]
    | none => []
  | _ => []

/-- The group pages directly above a page, with its child index in each. -/
def State.parents (s : State) (p : Page) : List (Page × Nat) :=
  (match p.kind with
    | .dieGroup => [(⟨0, .packageGroup, 0⟩, p.die)]
    | .clusterGroup | .schedGroup | .fwdGroup | .ethGroup =>
      (p.dieChild.map fun c => (⟨p.die, .dieGroup, 0⟩, c)).toList
    | _ =>
      match p.midChild with
      | some (g, i) => [(⟨p.die, g, 0⟩, i)]
      | none => (p.dieChild.map fun c => (⟨p.die, .dieGroup, 0⟩, c)).toList) ++ s.partParents p

/-! ### Interrupts (R46 to R48, R58 to R61) -/

/-- INT_STAT of a page: INT_RAW AND INT_EN, where a group page's INT_RAW bit n says that child n has a nonzero INT_STAT
(R46, R48). The first argument bounds the depth of group pages. -/
def State.intStatTo : Nat → State → Page → Nat
  | 0, _, _ => 0
  | k + 1, s, p =>
    if p.kind.isGroup then
      maskOf (((s.children p).zipIdx.filter fun c => c.1.any fun q => State.intStatTo k s q != 0).map Prod.snd)
        &&& s.reg p 0x14
    else s.reg p.home 0x10 &&& s.reg p.home 0x14

/-- INT_STAT of a page. -/
def State.intStat (s : State) (p : Page) : Nat := s.intStatTo 5 p

/-- INT_RAW of a page. -/
def State.intRaw (s : State) (p : Page) : Nat :=
  if p.kind.isGroup then
    maskOf (((s.children p).zipIdx.filter fun c => c.1.any fun q => s.intStatTo 4 q != 0).map Prod.snd)
  else s.reg p.home 0x10

/-- Whether INT_VEC.ROUTE_EN of a page is set. -/
def State.routed (s : State) (p : Page) : Bool := bit (s.reg p 0x28) 31

/-- The request that a routed page sends: INT_VEC.FUNCTION, which is the VF's number on a page of a VF, and VECTOR. -/
def State.intRequest (s : State) (p : Page) : IntRequest :=
  { fn := if s.pageFn p = 0 then bits (s.reg p 0x28) 28 24 else s.pageFn p, vector := bits (s.reg p 0x28) 10 0 }

/-- The pages whose INT_STAT a change on a page can change: the page whose registers it shows, and every group page
above it, nearest first. A per-function page stands below the group pages of its partition only. -/
def State.intChainTo : Nat → State → Page → List Page
  | 0, _, p => [p]
  | k + 1, s, p =>
    p :: ((if p.kind.perFn then s.partParents p else s.parents p).flatMap fun g => State.intChainTo k s g.1)

/-- The chain of R59 above a page. -/
def State.intChain (s : State) (p : Page) : List Page := s.intChainTo 4 p.home

/-- Requests appended for the routed pages of a list that `p` admits. -/
def State.request (s : State) (l : List Page) (p : Page → Bool) : State :=
  { s with requests := s.requests ++ (l.filter fun g => s.routed g && p g).map s.intRequest }

/-- After a change from `s0` to `s` on a page: one message for each routed page whose INT_STAT went from zero to
nonzero (R59). -/
def State.risen (s0 s : State) (p : Page) : State :=
  s.request (s.intChain p) fun g => s0.intStat g == 0 && s.intStat g != 0

/-- INT_RAW bits of a leaf page set by an event (R46). -/
def State.raise (s : State) (p : Page) (mask : Nat) : State :=
  s.risen (s.setReg p.home 0x10 (s.reg p.home 0x10 ||| mask)) p

/-- After a W1C write to INT_RAW or a write to INT_EN of a page: one further message from each routed page of the chain
whose INT_STAT is nonzero after it (R59). -/
def State.furtherMessages (s : State) (p : Page) : State :=
  s.request (s.intChain p) fun g => s.intStat g != 0

/-- The MSI-X entry of vector `v` of function `f`. -/
def State.msixEntry (s : State) (f v : Nat) : MsixEntry := (FMap.get? (s.fn f).msix v).getD {}

/-- The MSI-X entry of vector `v` of function `f` set. -/
def State.setMsix (s : State) (f v : Nat) (e : MsixEntry) : State :=
  s.onFn f fun x => { x with msix := if e = {} then FMap.erase x.msix v else FMap.set x.msix v e }

/-- The PCI Express controller issues a message, or sets the pending bit of a masked vector (R60, R61). -/
def State.sendMsix (s : State) (f v : Nat) : State :=
  let e := s.msixEntry f v
  if e.masked then s.setMsix f v { e with pending := true }
  else s.emit (.msix f v e.addr e.data)

/-- Vectors of a function (R72). -/
def vectorCount (f : Nat) : Nat := if f = 0 then 2048 else 128

/-! ### Colophon triggers (R632 to R634) -/

/-- The colophon block page of a die. -/
abbrev colophonPage (d : Nat) : Page := ⟨d, .colophon, 0⟩

/-- ENDPOINT_ID of a die: VALID and ID (R274). -/
def State.endpoint (s : State) (d : Nat) : Nat := bits (s.reg ⟨d, .router0, 0⟩ 0x100) 17 0

/-- Whether the die has an endpoint ID (R274). -/
def State.hasEndpoint (s : State) (d : Nat) : Bool := bit (s.reg ⟨d, .router0, 0⟩ 0x100) 31

/-- A capture of number `n` starts at a die's colophon block, if `n` is after LAST_NUMBER; otherwise the trigger is
counted (R633). Die 0 drives COLOPHON_OUT when `out` says that its trigger is one of R634. -/
def State.capture (s : State) (d : Nat) (n : Word) (origin : Nat) (at_ : Word64) (out : Bool) : State :=
  let p := colophonPage d
  if before (BitVec.ofNat 32 (s.reg p 0x10C)) n then
    let s := (s.setReg p 0x10C n.toNat).count p Ctr.colophonCapturesTriggered
    let s := s.onDie d fun x => { x with capOrigin := origin, capTrigger := at_ }
    if out && d == 0 then { s with colophonOut := true } else s
  else s.count p Ctr.colophonTriggersDropped

/-- A trigger other than a marker: it uses NEXT_NUMBER, which then advances (R633). -/
def State.trigger (s : State) (d : Nat) (out : Bool) : State :=
  let p := colophonPage d
  let n : Word := BitVec.ofNat 32 (s.reg p 0x108)
  (s.capture d n (s.endpoint d) (s.time d) out).setReg p 0x108 (n + 1).toNat

/-! ### First-error capture (R53, R54) -/

/-- Whether FE_STATUS.VALID of a page is set. -/
def State.feValid (s : State) (p : Page) : Bool := bit (s.reg p 0x40) 31

/-- An error recorded on one page alone: FE_COUNT counts it, and CODE, SOURCE, TIME and FE_DATA are taken while VALID is
0, OVERFLOW set otherwise (R53). -/
def State.feRecord (s : State) (p : Page) (code source data : Nat) : State :=
  let s := s.setReg p 0x44 (min (s.reg p 0x44 + 1) 0xFFFFFFFF)
  if s.feValid p then s.setReg p 0x40 (s.reg p 0x40 ||| 0x40000000)
  else
    ((s.setReg p 0x40 (0x80000000 + source % 256 * 65536 + code % 65536)).setReg p 0x48 (s.time p.die).toNat).setReg
      p 0x50 data

/-- The error trigger of a die: its named child has set VALID with a matching CODE (R632). -/
def State.errorTrigger (s : State) (d child code : Nat) : State :=
  let p := colophonPage d
  let t := s.reg p 0x118
  if bit (s.reg p 0x100) 29 && bits t 20 16 == child && (bits t 15 0 == 0 || bits t 15 0 == code)
  then s.trigger d true else s

/-- CHILD_ERROR recorded on each group page above a page whose VALID went from 0 to 1 (R54). -/
def State.feGroups : Nat → State → List (Page × Nat) → State
  | 0, s, _ => s
  | _, s, [] => s
  | k + 1, s, (g, i) :: rest =>
    let s' := s.feRecord g 0x0008 i 0
    let s' := if s.feValid g then s' else State.feGroups k s' (s'.parents g)
    State.feGroups k s' rest

/-- An error of a block's page (R53, R54): the record, bit 31 of INT_RAW, CHILD_ERROR above, and the error trigger. -/
def State.error (s : State) (p : Page) (code : Nat) (source data : Nat := 0) : State :=
  let s' := s.feRecord p code source data
  if s.feValid p then s' else
  let s' := if p.kind.isGroup then s' else s'.raise p 0x80000000
  let s' := s'.feGroups 6 (s'.parents p)
  match p.dieChild with
  | some c => s'.errorTrigger p.die c code
  | none => s'

/-- A refused or ignored access: counted in ACCESS_REJECTS of the page and captured there (R55). -/
def State.reject (s : State) (p : Page) (code : Nat) : State := (s.count p 0).error p code

/-- A write refused with a block-specific code: captured, not counted in ACCESS_REJECTS (R55 names codes 0x0001 to
0x0007 and 0x0009). -/
def State.refuse (s : State) (p : Page) (code : Nat) : State := s.error p code

end Sys2Proof.Machine
end

