-- ==== Sys2Proof/Machine/Captures.lean ====
section
/-!
DEFINITION. Where a page lies (R34 to R36), whether its domain is in reset or its island power-gated (R63, R64, R596), and
what a page keeps of colophon captures: latches, input channels, and the banks of group pages (R635 to R646).
-/

namespace Sys2Proof.Machine

/-! ### Pages by address (R34 to R36) -/

/-- The page at an offset of a die window. -/
def pageAt (d off : Nat) : Option Page :=
  (pageRows.find? fun r =>
    (!r.die0 || d == 0) && decide (r.base ≤ off) &&
    (if r.stride = 0 then decide (off < r.base + 4096)
     else decide ((off - r.base) / r.stride < r.count ∧ (off - r.base) % r.stride < 4096))).map fun r =>
    ⟨d, r.kind, if r.stride = 0 then 0 else (off - r.base) / r.stride⟩

/-- The page at a PF BAR0 address (R34). -/
def pageOfAddr (a : Nat) : Option Page := pageAt (a / 0x800000) (a % 0x800000)

/-! ### Reset, power and absence of a page's island -/

/-- The page's reset domain is in reset (R63). -/
def State.inReset (s : State) (p : Page) : Bool :=
  match p.kind.domain with
  | .compute => (s.die p.die).computeReset
  | .forwarding => (s.die p.die).fwdReset
  | .package => false

/-- The page's island is power-gated (R64, R596): die-compute islands from Folded on, the forwarding plane from Boarded on,
and the rest in Shelved. -/
def State.gated (s : State) (p : Page) : Bool :=
  decide ((match p.kind.domain with
    | .compute => 2
    | .forwarding => 4
    | .package => 5) ≤ (s.die p.die).power.state)

/-- ABSENT of a leaf page: a quire link that is not wired (R16), a retired Reckoner, an Ethernet port that the mode of the
group does not have, and the scheduler of a link or port that is absent (R211). -/
def State.leafAbsent (s : State) (p : Page) : Bool :=
  match p.kind with
  | .quire => (s.part.quirePeer p.die p.inst).isNone
  | .reckoner | .recipeCtl | .format => (((s.die p.die).recks[p.inst]?).map Reckoner.retired).getD false
  | .ethPort => decide (2 ^ bits (s.reg ⟨p.die, .ethGroup, 0⟩ 0x100) 1 0 ≤ p.inst)
  | .sched =>
    if p.inst < 2 then false
    else if p.inst < 6 then decide (2 ^ bits (s.reg ⟨p.die, .ethGroup, 0⟩ 0x100) 1 0 ≤ p.inst - 2)
    else (s.part.quirePeer p.die (p.inst - 6)).isNone
  | _ => false

/-- ABSENT: of a group page only if every child is absent. The first argument bounds the depth of group pages. -/
def State.absentTo : Nat → State → Page → Bool
  | 0, _, _ => false
  | k + 1, s, p =>
    if p.kind.isGroup then (s.children p).all fun c => c.all fun q => State.absentTo k s q else s.leafAbsent p

/-- ABSENT of a page. -/
def State.absent (s : State) (p : Page) : Bool := s.absentTo 5 p

/-! ### The capture logic of a page (R643, R644) -/

/-- The capture logic of a page. -/
def State.cap (s : State) (p : Page) : PageCapture := (FMap.get? (s.die p.die).captures p.off).getD {}

/-- The capture logic of a page set. -/
def State.setCap (s : State) (p : Page) (c : PageCapture) : State :=
  s.onDie p.die fun x =>
    { x with captures := if c = {} then FMap.erase x.captures p.off else FMap.set x.captures p.off c }

/-- The bank of the latest latch. -/
def PageCapture.last (c : PageCapture) : Bank := if c.lastB then c.bankB else c.bankA

/-- Both banks changed. -/
def PageCapture.onBanks (c : PageCapture) (f : Bank → Bank) : PageCapture :=
  { c with bankA := f c.bankA, bankB := f c.bankB }

/-- A bank written by a latch: the one that does not hold the latest (R643). -/
def PageCapture.store (c : PageCapture) (b : Bank) : PageCapture :=
  if c.any && !c.lastB then { c with bankB := b, lastB := true }
  else { c with bankA := b, lastB := false, any := true }

/-- A channel that may still count. -/
def Channel.isOpen (c : Channel) : Bool := c.close == 0 && !c.boundary

/-- An input channel of a bank closed: 1 by its marker, 2 EARLY, 3 TIMEOUT (R636, R639). -/
def Bank.close (b : Bank) (src : Nat) (how : Nat) : Bank :=
  { b with channels := b.channels.map fun c => if c.source == src && c.isOpen then { c with close := how } else c }

/-- Whether a channel of a bank is open. -/
def Bank.hasOpen (b : Bank) (src : Nat) : Bool := b.channels.any fun c => c.source == src && c.isOpen

/-- SOURCE of the wire of a link. -/
abbrev srcWire : Nat := 0xFFFF

/-- Whether a page has a wire input. -/
def PageKind.wired : PageKind → Bool
  | .alram | .quire | .ethPort => true
  | _ => false

/-- LINK_STATE of the link behind a page, UP. -/
def State.wireUp (s : State) (p : Page) : Bool :=
  match p.kind with
  | .ethPort => (((s.die p.die).eth[p.inst]?).map EthPort.state) == some .up
  | .alram => (((s.die p.die).links[p.inst]?).map Link.state) == some .up
  | .quire => (((s.die p.die).links[p.inst + 2]?).map Link.state) == some .up
  | _ => false

/-- An input channel as a latch finds it (R638, R639). -/
def State.channelFrom (s : State) (p : Page) (src : Nat) : Channel :=
  let boundary :=
    if src = srcWire then p.kind == .ethPort || (p.kind == .alram && !bit (s.reg p 0x100) 29)
    else p.die == 0 && src / 16 == 0xA
  let down :=
    if src = srcWire then !s.wireUp p
    else match pageAt p.die (src * 4096) with
      | some q => s.inReset q || s.gated q
      | none => false
  { source := src, close := if !boundary && down then 2 else 0, boundary := boundary }

/-- The input channels of a page, in ascending SOURCE, at most 16 (R644). -/
def State.channels (s : State) (p : Page) : List Channel :=
  ((((Config.inputSources p.off).filter (· < srcWire)).take (if p.kind.wired then 15 else 16)) ++
    (if p.kind.wired then [srcWire] else [])).map (s.channelFrom p)

/-- Counters that a bank holds. -/
def Page.latched (p : Page) : Nat := min p.kind.counters 40

/-- The bank of a latch of number `n` at a page (R635, R644, R645). -/
def State.bankNow (s : State) (p : Page) (n : Word) : Bank :=
  { number := n, latched := true, time := s.time p.die
    channels := if p.kind.isGroup then [] else s.channels p
    totals := (List.range p.latched).map fun k => s.total p k }

/-- An item that arrives on an input channel of a page (R637): it counts in every capture still open there. -/
def State.item (s : State) (p : Page) (src : Nat) : State :=
  let c := s.cap p
  let f (b : Bank) : Bank :=
    { b with channels := b.channels.map fun x =>
        if x.source == src && x.isOpen then { x with count := min (x.count + 1) 0xFFFFFFFF } else x }
  if c.any then s.setCap p (c.onBanks f) else s

/-! ### What a request of the host reaches (R63, R64, R67, R68, R290, R537) -/

/-- A page of a function other than its function state page: its per-function pages and its partition's group pages. -/
def PageKind.ofFn (k : PageKind) : Bool :=
  k.perFn || (match k with
    | .partGroup | .slotA | .slotB => true
    | _ => false)

/-- Whether a page belongs to a function that is not OPEN (R537). -/
def State.closedPage (s : State) (p : Page) : Bool := p.kind.ofFn && (s.fn (s.pageFn p)).phase != .opened

/-- Dies that one more quire link reaches from those of a list. -/
def State.reachMore (s : State) (ds : List Nat) : List Nat :=
  ds ++ s.dieList.filter fun d => !ds.contains d && ds.any fun e => (List.range 4).any fun k =>
    s.part.quirePeer e k == some d && s.wireUp ⟨e, .quire, k⟩ && s.wireUp ⟨d, .quire, s.part.quirePeerLink k⟩

/-- Whether die 0 reaches a die over quire links that are UP (R290). -/
def State.answers (s : State) (d : Nat) : Bool :=
  d == 0 || ((List.range 7).foldl (fun ds _ => s.reachMore ds) [0]).contains d

/-- A write to a page as its die, its domain, its island and its function allow it. One to a die that cannot be reached is
dropped, counted and captured at die 0 (R290); a page in reset or power-gated ignores it, counted and captured at the die
group page (R63, R64); a page of a function that is not OPEN ignores it, counted and captured there (R537); a function in
its Function Level Reset drops it (R68). -/
def State.guarded (s : State) (p : Page) (r : State) : State :=
  if !s.answers p.die then s.reject ⟨0, .dieGroup, 0⟩ 0x0006
  else if s.inReset p then s.reject ⟨p.die, .dieGroup, 0⟩ 0x0006
  else if s.gated p then s.reject ⟨p.die, .dieGroup, 0⟩ 0x0007
  else if s.closedPage p then (if (s.fn (s.pageFn p)).flr then s else s.reject p 0x0006) else r

/-- Whether a read of a page returns more than BLK_ID and BLK_STAT (R63, R64, R537). -/
def State.readable (s : State) (p : Page) : Bool := !s.inReset p && !s.gated p && !s.closedPage p

/-- A memory request of function `f` to its BARs: none without a PCI Express link, and an Unsupported Request before the
Spine has opened the PF (R67). -/
def State.fromFn (s : State) (f : Nat) (r : State) : State :=
  if s.board.link.isNone then s else if !s.ready then s.emit (.unsupported f) else r

/-! ### Group pages (R646) -/

/-- The group pages in whose banks a page counts as a child: the first page of a block, and a page of a partition. -/
def State.capParents (s : State) (p : Page) : List (Page × Nat) :=
  if p.home != p || p.kind.perFn then s.partParents p else s.parents p

/-- COMPLETE of a bank of a page: every input channel has closed; on a group page, every child is done or skipped. -/
def State.bankComplete (s : State) (p : Page) (b : Bank) : Bool :=
  b.latched && (if p.kind.isGroup then
      (List.range (s.children p).length).all fun j => bit b.done j || bit b.skipped j
    else b.channels.all fun c => !c.isOpen)

/-- Whether a page has completed number `n`, or a later one. -/
def State.capDone (s : State) (p : Page) (n : Word) : Bool :=
  [(s.cap p).bankA, (s.cap p).bankB].any fun b => (b.number == n || before n b.number) && s.bankComplete p b

/-- Whether a page has completed a later number than `n`. -/
def State.capLater (s : State) (p : Page) (n : Word) : Bool :=
  [(s.cap p).bankA, (s.cap p).bankB].any fun b => before n b.number && s.bankComplete p b

/-- Whether a page has latched `n` or a later number. -/
def State.capHas (s : State) (p : Page) (n : Word) : Bool :=
  [(s.cap p).bankA, (s.cap p).bankB].any fun b => b.latched && (b.number == n || before n b.number)

/-- COLOPHON_ARMED: of a group page, AND over its children. -/
def State.armedTo : Nat → State → Page → Bool
  | 0, _, _ => false
  | k + 1, s, p =>
    if p.kind.isGroup then (s.children p).all fun c => c.all fun q => State.armedTo k s q
    else (s.cap (if p.kind.perFn then p else p.home)).armed

/-- COLOPHON_ARMED of a page. -/
def State.armed (s : State) (p : Page) : Bool := s.armedTo 5 p

/-- A child that a latch of `n` passes over: absent, in reset, power-gated or unarmed (R646). -/
def State.passedOver (s : State) (n : Word) (c : List Page) : Bool :=
  !(c.any fun q => s.capHas q n) &&
    (c.all fun q => s.absent q || s.inReset q || s.gated q || !s.armed q)

/-- A bank of a group page brought up to date. -/
def State.groupBank (s : State) (p : Page) (b : Bank) : Bank :=
  if !b.latched then b else
  let cs := (s.children p).zipIdx
  let done := maskOf ((cs.filter fun c => !c.1.isEmpty && c.1.all fun q => s.capDone q b.number).map Prod.snd)
  let late := cs.any fun c => !c.1.isEmpty && c.1.all fun q => s.capLater q b.number
  let gone := maskOf ((cs.filter fun c => c.1.all fun q => s.inReset q && !s.capDone q b.number).map Prod.snd)
  { b with done := b.done ||| done, superseded := b.superseded || late, skipped := b.skipped ||| gone }

/-- A group page brought up to date; a die group page that reaches COMPLETE raises bit 0 of its colophon block. -/
def State.refreshGroup (s : State) (p : Page) : State :=
  let c := s.cap p
  if !c.any then s else
  let c' := c.onBanks (s.groupBank p)
  let s' := s.setCap p c'
  if p.kind == .dieGroup && !s.bankComplete p c.last && s'.bankComplete p c'.last then s'.raise (colophonPage p.die) 1 else s'

/-- Every group page above a die's pages, lowest first. -/
def groupsAbove (d : Nat) : List Page :=
  [⟨d, .clusterGroup, 0⟩, ⟨d, .schedGroup, 0⟩, ⟨d, .fwdGroup, 0⟩, ⟨d, .ethGroup, 0⟩, ⟨d, .dieGroup, 0⟩] ++
  (List.range 16).map (fun i => (⟨0, .slotA, i⟩ : Page)) ++ (List.range 16).map (fun i => (⟨0, .slotB, i⟩ : Page)) ++
  (List.range 16).map (fun i => (⟨0, .partGroup, i⟩ : Page)) ++ [⟨0, .packageGroup, 0⟩]

/-- The group pages above a die's pages brought up to date. -/
def State.refreshGroups (s : State) (d : Nat) : State := (groupsAbove d).foldl State.refreshGroup s

/-- The group pages above a page latch a number that they have not latched (R646). -/
def State.latchGroups : Nat → State → Page → Word → State
  | 0, s, _, _ => s
  | k + 1, s, p, n =>
    (s.capParents p).foldl (fun s g =>
      if s.capHas g.1 n then s else
      let b := { s.bankNow g.1 n with
        skipped := maskOf (((s.children g.1).zipIdx.filter fun c => s.passedOver n c.1).map Prod.snd) }
      State.latchGroups k (s.setCap g.1 ((s.cap g.1).store b)) g.1 n) s

/-- A page latches number `n` (R635, R643). -/
def State.latch (s : State) (p : Page) (n : Word) : State :=
  let c := (s.cap p).store (s.bankNow p n)
  let s := s.setCap p { c with armed := c.armed && bit (s.reg (colophonPage p.die) 0x100) 31 }
  s.latchGroups 4 p n

/-! ### Channels that close early (R639) -/

/-- The channels of a die's pages from the pages that `q` names close EARLY. -/
def State.closeEarly (s : State) (d : Nat) (q : Page → Bool) : State :=
  let how (c : Channel) : Channel :=
    match pageAt d (c.source * 4096) with
    | some p => if c.source != srcWire && c.isOpen && q p then { c with close := 2 } else c
    | none => c
  let shut (b : Bank) : Bank := { b with channels := b.channels.map how }
  if (s.die d).captures.isEmpty then s else
  (s.onDie d fun x => { x with captures := x.captures.map fun c => (c.1, c.2.onBanks shut) }).refreshGroups d

/-- The wire channel of a page closes EARLY, when its link leaves UP (R660). -/
def State.closeWire (s : State) (p : Page) : State :=
  if (s.die p.die).captures.isEmpty then s else
  (s.setCap p { (s.cap p).onBanks (fun b => b.close srcWire 2) with vcs := [], waiting := [] }).refreshGroups p.die

end Sys2Proof.Machine
end

