-- ==== Sys2Proof/Machine/Memory.lean ====
section
/-!
DEFINITION. Memory of a die under page tables: tallies and poison (R322, R482 to R490), page-table walks and translation
caches (R330 to R345), fault records (R349 to R357), access counters (R360), and reads and writes by an engine.
-/

namespace Sys2Proof.Machine

/-- The page of a die's queue manager for function `f` (R139). -/
abbrev queuePage (d f : Nat) : Page := ⟨d, .queuePage, f⟩

/-- Page 0 of a die's translation unit, and its page for function `f` (R367). -/
abbrev xlatePage (d : Nat) : Page := ⟨d, .xlate, 0⟩
abbrev xlateFnPage (d f : Nat) : Page := ⟨d, .xlateFn, f⟩

/-- Integrity page 0 of a die, and its page for function `f` (R526). -/
abbrev integrityPage (d : Nat) : Page := ⟨d, .integrity, 0⟩
abbrev integrityFnPage (d f : Nat) : Page := ⟨d, .integrityFn, f⟩

/-- The memory controller page that serves a die physical address (R319). -/
def memPage (d pa : Nat) : Page := if pa < 2 ^ 36 then ⟨d, .hbm, 0⟩ else ⟨d, .lpddr, pa / 2 ^ 36 - 1⟩

/-! ### Arrival entries as the blocks produce them (R118) -/

/-- Bytes put at offset `o` of an entry, whose first 4 bytes are its header. -/
def putAt (bs : List Byte) (o : Nat) (v : List Byte) : List Byte := bs.take (o - 4) ++ v ++ bs.drop (o - 4 + v.length)

/-- A BODY of 60 bytes, zero but for the given fields: entry offset, width in bytes, value. -/
def bodyOf (l : List (Nat × Nat × Nat)) : List Byte := l.foldl (fun b x => putAt b x.1 (toLE x.2.1 x.2.2)) (zeros 60)

/-- An entry routed by SET_ARRIVAL_ROUTE for function `f`, produced by die `d`; without a route it is dropped and counted
on the producing die (R122, R357). -/
def State.arrive (s : State) (d f kind : Nat) (body : List Byte) : State :=
  match FMap.get? (s.fn f).routes kind with
  | some q => { s with arrivals := s.arrivals ++ [(d, f, q, { kind := kind, body := body })] }
  | none => s.count (queuePage d f) Ctr.queuePageArrivalsDropped

/-- An integrity event (R518), an arrival entry of type POISON_NOTICE. -/
def State.integrityEvent (s : State) (d f event index count endpoint seq addr : Nat) : State :=
  s.arrive d f 4 (bodyOf [(4, 1, event), (5, 1, index), (6, 2, count), (8, 4, endpoint), (12, 4, seq), (16, 8, addr),
    (24, 8, (s.time d).toNat)])

/-! ### Tallies and poison bits (R322, R482 to R490) -/

/-- Base of the memory that holds a die physical address. -/
def memBase (pa : Nat) : Nat := pa / 2 ^ 36 * 2 ^ 36

/-- Address of the tally of the block of a die physical address (R322). -/
def tallyAddr (pa : Nat) : Nat := memBase pa + 0xFFC000000 + 4 * (memOffset pa / 4096)

/-- Address of the byte that holds the poison bit of the block, and the bit's number (R322). -/
def poisonAddr (pa : Nat) : Nat := memBase pa + 0xFFBE00000 + memOffset pa / 4096 / 8
def poisonBit (pa : Nat) : Nat := memOffset pa / 4096 % 8

/-- Whether a block is poisoned. -/
def State.poisoned (s : State) (d pa : Nat) : Bool := bit (s.byte d (poisonAddr pa)).toNat (poisonBit pa)

/-- The poison bit of a block set or cleared (R490). -/
def State.setPoison (s : State) (d pa : Nat) (v : Bool) : State :=
  s.setByte d (poisonAddr pa)
    (BitVec.ofNat 8 (setBits (s.byte d (poisonAddr pa)).toNat (poisonBit pa) (poisonBit pa) (b2n v)))

/-- The stored tally of a block (R482). -/
def State.tally (s : State) (d pa : Nat) : Word := BitVec.ofNat 32 (fromLE (s.bytes d (tallyAddr pa) 4))

/-- The stored tally of a block set. -/
def State.setTally (s : State) (d pa : Nat) (t : Word) : State := s.setBytes d (tallyAddr pa) (toLE 4 t.toNat)

/-- First address of the block of a die physical address. -/
def blockBase (pa : Nat) : Nat := pa / 4096 * 4096

/-- Whether a block's tally passes (R487). -/
def State.tallyOk (s : State) (d pa : Nat) : Bool := crc32c (s.bytes d (blockBase pa) 4096) == s.tally d pa

/-- The CRC-32C with initial value and final XOR 0 of a 4,096-byte string holding `delta` at offset `o` (R484). -/
def tallyDelta (o : Nat) (delta : List Byte) : Word :=
  BitVec.ofNat 32 ((delta ++ zeros (4096 - o - delta.length)).foldl (crcByte 0x82F63B78) 0)

/-- A write that lies in one block: a whole block stores the tally of the new block and clears its poison bit (R483), a
part of one stores T XOR Δ (R484). -/
def State.writeBlock (s : State) (d pa : Nat) (bs : List Byte) : State :=
  if pa % 4096 = 0 ∧ bs.length = 4096 then ((s.setBytes d pa bs).setTally d pa (crc32c bs)).setPoison d pa false
  else
    let delta := xorBytes (s.bytes d pa bs.length) bs
    (s.setBytes d pa bs).setTally d pa (s.tally d pa ^^^ tallyDelta (pa % 4096) delta)

/-- A range cut at 4 KiB boundaries: offset in the range and length of each part. -/
def cutBlocks : Nat → Nat → Nat → Nat → List (Nat × Nat)
  | 0, _, _, _ => []
  | fuel + 1, a, o, n =>
    if n = 0 then [] else
    let k := min n (4096 - a % 4096)
    (o, k) :: cutBlocks fuel (a + k) (o + k) (n - k)

/-- The parts of a range of `n` bytes at address `a` that lie in one aligned 4 KiB block each (R166, R337). -/
def blocks (a n : Nat) : List (Nat × Nat) := cutBlocks (n / 4096 + 2) a 0 n

/-- The tallies that follow data placed at an address, one for each part in an aligned 4 KiB block (R166, R486). -/
def tallies (base : Nat) (data : List Byte) : List Byte :=
  (blocks base data.length).flatMap fun b => toLE 4 (crc32c (slice data b.1 b.2)).toNat

/-- Data and the tallies that follow it, taken apart: the data, and whether every tally passes; none where no length of
data gives the length received. -/
def untally (base : Nat) (bs : List Byte) : Option (List Byte × Bool) :=
  ((List.range 8).find? fun k => decide (4 * k ≤ bs.length) && (blocks base (bs.length - 4 * k)).length == k).map fun k =>
    let data := bs.take (bs.length - 4 * k)
    (data, tallies base data == bs.drop (bs.length - 4 * k))

/-- The second read of a block that failed its tally (R488): it passes and is counted, or the block is poisoned, counted,
captured and reported to function `f`, whose read reached it through global address `ga`. -/
def State.tallyReread (s : State) (d f pa ga : Nat) : State :=
  if s.tallyOk d pa then s.count (integrityPage d) Ctr.integrityTallyRereadPasses
  else
    let s' := (s.setPoison d pa true).count (integrityPage d) Ctr.integrityTallyPoisons
    let s' := if s.poisoned d pa then s' else s'.count (integrityFnPage d f) Ctr.integrityFnBlocksPoisoned
    let s' := s'.error (integrityPage d) 0x0102 0 (blockBase pa)
    s'.integrityEvent d f 2 0 0 (s.endpoint d) 0 (ga / 4096 * 4096)

/-! ### Page tables (R330 to R345) -/

/-- The holder of the granule of a die physical address; the top granule of each memory belongs to the PF (R323). -/
def State.granuleFn (s : State) (d g : Nat) : Nat := (FMap.get? s.granules (d * 192 + g)).getD 0

/-- Bytes of the device region of the memory that holds an address (R321). -/
def regionBytes (part : Part) (pa : Nat) : Nat := (if pa < 2 ^ 36 then part.hbmRegionMiB else 96) * 2 ^ 20

/-- Whether a range of `n` bytes inside one memory overlaps its device region. -/
def inDeviceRegion (part : Part) (pa n : Nat) : Bool := decide (2 ^ 36 - regionBytes part pa < memOffset pa + n)

/-- Whether every granule that a range touches belongs to `f`. -/
def State.owns (s : State) (d f pa n : Nat) : Bool :=
  (List.range ((n + 2 ^ 30 - 1) / 2 ^ 30)).all fun i => decide (pa / 2 ^ 30 + i < 192) && s.granuleFn d (pa / 2 ^ 30 + i) == f

/-- How a walk ends (R334). -/
inductive WalkOut where
  | found (t : Translation)
  | fault (kind : Nat)
  | denied
  deriving DecidableEq, Repr

/-- A page size in bits by level: 16 GiB, 1 GiB, 32 MiB (R332). -/
def pageLog2 : Nat → Nat
  | 1 => 34
  | 2 => 30
  | _ => 25

/-- Whether an entry breaks R333 at a level (row 3 of R334). -/
def badEntry (level e : Nat) : Bool :=
  let leaf := bit e 1
  bits e 7 6 != 0 || bits e 3 2 == 3 || (level == 3 && !leaf) ||
  (if leaf then
     (if bits e 3 2 == 2 then bits e 24 8 != 0
      else bits e 63 38 != 0 || bits e 37 8 * 256 % 2 ^ pageLog2 level != 0)
   else bits e 3 2 != 0 || bits e 63 38 != 0)

/-- The outcome at a leaf (rows 5 to 9 of R334), for a read or a write. -/
def State.leafOut (s : State) (d f offset level e : Nat) (isWrite : Bool) : WalkOut :=
  let n := 2 ^ pageLog2 level
  let frame := bits e 37 8 * 256
  let tier := bits e 3 2
  if tier == 2 then .fault 3
  else if (tier == 0 && 2 ^ 36 ≤ frame) || (tier == 1 && (frame < 2 ^ 36 || 3 * 2 ^ 36 ≤ frame)) then .fault 2
  else if inDeviceRegion s.part frame n || !s.owns d f frame n then .denied
  else if isWrite && !bit e 4 then .fault 4
  else .found { fn := f, base := offset / n * n, log2 := pageLog2 level, tier := tier, frame := frame,
                writable := bit e 4, countEn := bit e 5 }

/-- A walk from level `level` with its table at `table`: the outcome, entries read, and table pointers found. -/
def State.walkFrom (s : State) (d f offset : Nat) (isWrite : Bool) :
    Nat → Nat → Nat → Nat → List WalkPointer → WalkOut × Nat × List WalkPointer
  | 0, _, _, n, ps => (.fault 2, n, ps)
  | fuel + 1, level, table, n, ps =>
    let idx := if level = 1 then bits offset 45 34 else if level = 2 then bits offset 33 30 else bits offset 29 25
    let e := fromLE (s.bytes d (table + 8 * idx) 8)
    if !bit e 0 then (.fault 1, n + 1, ps)
    else if badEntry level e then (.fault 2, n + 1, ps)
    else if bit e 1 then (s.leafOut d f offset level e isWrite, n + 1, ps)
    else
      let next := bits e 37 8 * 256
      let size := if level = 1 then 128 else 256
      if 3 * 2 ^ 36 ≤ next || s.granuleFn d (next / 2 ^ 30) != 0 || inDeviceRegion s.part next size then
        (.fault 2, n + 1, ps)
      else State.walkFrom s d f offset isWrite fuel (level + 1) next (n + 1)
        (⟨f, level, offset / 2 ^ pageLog2 level, next⟩ :: ps)

/-- A walk for an access of function `f` (R334), through the walk cache (R336). -/
def State.walk (s : State) (d f offset : Nat) (isWrite : Bool) : WalkOut × Nat × List WalkPointer :=
  let x := (s.die d).xlate
  match FMap.get? x.roots f with
  | none => (.denied, 0, [])
  | some root =>
    match x.walks.find? (fun p => p.fn == f && p.level == 2 && p.tag == offset / 2 ^ 30) with
    | some p => s.walkFrom d f offset isWrite 1 3 p.table 0 []
    | none =>
      match x.walks.find? (fun p => p.fn == f && p.level == 1 && p.tag == offset / 2 ^ 34) with
      | some p => s.walkFrom d f offset isWrite 2 2 p.table 0 []
      | none => s.walkFrom d f offset isWrite 3 1 root 0 []

/-- Entries of an engine's translation cache (R336). -/
def cacheSize : Nat → Nat
  | 5 | 6 => 1024
  | 7 | 8 => 128
  | 9 => 32
  | _ => 64

/-- The translation unit of a die changed. -/
def State.onXlate (s : State) (d : Nat) (f : Xlate → Xlate) : State := s.onDie d fun x => { x with xlate := f x.xlate }

/-- The cached translation of an offset for an engine. -/
def State.cached (s : State) (d e f offset : Nat) : Option Translation :=
  (((s.die d).xlate.caches[e]?).getD []).find? fun t => t.fn == f && t.base == offset / 2 ^ t.log2 * 2 ^ t.log2

/-- A translation put at the front of an engine's cache, the least recently used dropped (R336). -/
def State.install (s : State) (d e : Nat) (t : Translation) : State :=
  s.onXlate d fun x => { x with caches := modifyAt x.caches e fun c => (t :: c.filter (· != t)).take (cacheSize e) }

/-- Table pointers put into the walk cache (R336). -/
def State.installWalk (s : State) (d : Nat) (ps : List WalkPointer) : State :=
  s.onXlate d fun x => { x with walks := (ps ++ x.walks).take 1024 }

/-- The die physical address that a translation gives an offset. -/
def Translation.pa (t : Translation) (offset : Nat) : Nat := t.frame + offset % 2 ^ t.log2

/-- A committed walk for engine `e` (R334, R338): it is counted, and a translation found is cached. An engine of 10 or
above stands for the Alram operations and notices, which have no cache. -/
def State.demandWalk (s : State) (d e f offset : Nat) (isWrite : Bool) : WalkOut × State :=
  let w := s.walk d f offset isWrite
  let s := (s.count (xlatePage d) Ctr.xlateWalks).count (xlatePage d) Ctr.xlateWalkReads w.2.1
  let s := s.installWalk d w.2.2
  match w.1 with
  | .found t => (.found t, if e < 10 then s.install d e t else s)
  | .denied =>
    (.denied, (s.count (xlatePage d) Ctr.xlateAccessDenied).count (xlateFnPage d f) Ctr.xlateFnAccessDenied)
  | .fault k => (.fault k, s)

/-- A translation by engine `e` for one access of at most 4 KiB (R337): from its cache, or by a walk. -/
def State.translate (s : State) (d e f offset : Nat) (isWrite : Bool) : WalkOut × State :=
  match s.cached d e f offset with
  | some t => if isWrite && !t.writable then (.fault 4, s) else (.found t, s.install d e t)
  | none => s.demandWalk d e f offset isWrite

/-! ### Access counters and dog-ears (R360 to R362) -/

/-- One committed access through a translation: with COUNT_EN the frame's counter advances, and the access that brings it
to the threshold of its tier dog-ears the frame. -/
def State.access (s : State) (d offset : Nat) (t : Translation) : State :=
  if !t.countEn then s else
  let fr := t.pa offset / 2 ^ 25
  let c := (FMap.get? (s.die d).xlate.counts fr).getD 0
  if c = 0xFFFF then s else
  let s := s.onXlate d fun x => { x with counts := FMap.set x.counts fr (c + 1) }
  let th := s.reg (xlatePage d) 0x108
  let lim := if t.tier = 0 then bits th 15 0 else bits th 31 16
  if lim ≠ 0 ∧ c + 1 = lim then
    let owner := s.granuleFn d (t.pa offset / 2 ^ 30)
    let ga := s.endpoint d * 2 ^ 46 + offset / 2 ^ 25 * 2 ^ 25
    let s := (s.count (xlatePage d) Ctr.xlateDogEars).count (xlateFnPage d owner) Ctr.xlateFnDogEars
    s.arrive d owner 3 (bodyOf [(4, 4, s.endpoint d), (8, 8, ga), (16, 1, t.tier), (24, 8, (s.time d).toNat)])
  else s

/-! ### Fault records (R349 to R356) -/

/-- The FAULT arrival entry of a record (R351). -/
def State.faultEntry (s : State) (d n : Nat) (r : FaultRec) (event : Nat) : State :=
  s.arrive d 0 5 (bodyOf [(4, 2, n), (6, 1, d), (7, 1, event),
    (8, 4, r.fn + r.kind * 256 + b2n r.anyWrite * 2048 + r.waiters * 65536), (16, 8, r.addr.toNat), (24, 8, r.time.toNat)])

/-- A queue pair added to the waiters of a record, through transport TX (engine 5) or RX (engine 6) (R350). -/
def FaultRec.addQp (r : FaultRec) (e : Nat) (qp : Option Nat) : FaultRec :=
  match qp with
  | none => r
  | some q =>
    if e = 5 then { r with tx := if r.tx.contains q then r.tx else r.tx ++ [q] }
    else if e = 6 then { r with rx := if r.rx.contains q then r.rx else r.rx ++ [q] } else r

/-- A fault of engine `e` for function `f` at an offset (R350, R355): it joins the record of its page key, takes the
lowest free record and writes a FAULT entry, or waits for a record. -/
def State.fault (s : State) (d e f offset kind : Nat) (isWrite : Bool) (qp : Option Nat) (since : Nat) : State :=
  let x := (s.die d).xlate
  let key := offset / 2 ^ 25
  match x.faults.find? (fun r => r.2.fn == f && r.2.key == key) with
  | some (n, r) =>
    let r' := { r.addQp e qp with anyWrite := r.anyWrite || isWrite, waiters := r.waiters ||| 2 ^ e }
    let s := s.onXlate d fun x => { x with faults := FMap.set x.faults n r' }
    if bit r.waiters e then s else s.count (xlatePage d) Ctr.xlateFaultsCoalesced
  | none =>
    match lowestBelow 4096 (fun n => (FMap.get? x.faults n).isNone) with
    | none =>
      (s.onXlate d fun x => { x with waiting := x.waiting ++ [⟨e, f, offset, kind, isWrite, qp, since⟩] }).count
        (xlatePage d) Ctr.xlateRecordFullWaits
    | some n =>
      let r : FaultRec := { fn := f, key := key, kind := kind, time := s.time d, anyWrite := isWrite, waiters := 2 ^ e,
                            addr := BitVec.ofNat 64 (s.endpoint d * 2 ^ 46 + offset), since := since }
      let r := r.addQp e qp
      let s := s.onXlate d fun x => { x with faults := FMap.set x.faults n r }
      let s := (s.count (xlatePage d) Ctr.xlateFaultsRaised).count (xlateFnPage d f) Ctr.xlateFnFaultsRaised
      s.faultEntry d n r 0

/-- The accesses held for a record take the records that are free now, oldest first (R355). -/
def State.admitHeldFaults (s : State) (d : Nat) : State :=
  let w := (s.die d).xlate.waiting
  w.foldl (fun s h => s.fault d h.engine h.fn h.offset h.kind h.isWrite h.qp h.since)
    (s.onXlate d fun x => { x with waiting := [] })

/-- A fault record freed. -/
def State.freeFault (s : State) (d n : Nat) : State :=
  (s.onXlate d fun x => { x with faults := FMap.erase x.faults n }).admitHeldFaults d

/-- Every record and held fault of the functions that `p` names freed without arrival entries (R356). -/
def State.dropFaults (s : State) (d : Nat) (p : Nat → Bool) : State :=
  s.onXlate d fun x => { x with faults := x.faults.filter (fun r => !p r.2.fn), waiting := x.waiting.filter (fun h => !p h.fn) }

/-- Every cached translation and table pointer of the functions that `p` names dropped (R341). -/
def State.dropTranslations (s : State) (d : Nat) (p : Nat → Bool) : State :=
  s.onXlate d fun x => { x with caches := x.caches.map (·.filter fun t => !p t.fn), walks := x.walks.filter fun w => !p w.fn }

/-! ### Reads and writes by an engine -/

/-- How an access of an engine ends: done, or the first fault, denial, poisoned block or failed tally. -/
inductive MemOut where
  | ok (data : List Byte)
  | fault (kind offset : Nat)
  | denied
  | poisoned
  | tallyFailed
  deriving DecidableEq, Repr

/-- One read of at most 4 KiB within a block: translated, counted, its poison bit and tally checked (R487 to R489). -/
def State.readPart (s : State) (d e f offset n : Nat) : MemOut × State :=
  match s.translate d e f offset false with
  | (.denied, s) => (.denied, s)
  | (.fault k, s) => (.fault k offset, s)
  | (.found t, s) =>
    let pa := t.pa offset
    let s := (s.access d offset t).count (memPage d pa) Ctr.memCtlReadBytes 4096
    let s := s.count (integrityPage d) Ctr.integrityTallyChecks
    if s.poisoned d pa then (.poisoned, s.count (integrityFnPage d f) Ctr.integrityFnPoisonedReads)
    else if s.tallyOk d pa then (.ok (s.bytes d pa n), s)
    else
      (.tallyFailed, (s.count (integrityFnPage d f) Ctr.integrityFnTallyFailures).tallyReread d f pa
        (s.endpoint d * 2 ^ 46 + offset))

/-- Reads of the parts of a range in ascending order, to the first that fails. -/
def State.readParts (d e f offset : Nat) : List (Nat × Nat) → State → MemOut × State
  | [], s => (.ok [], s)
  | (o, n) :: ps, s =>
    match s.readPart d e f (offset + o) n with
    | (.ok bs, s) =>
      match State.readParts d e f offset ps s with
      | (.ok bs', s) => (.ok (bs ++ bs'), s)
      | r => r
    | r => r

/-- A checked read of `n` bytes by engine `e` of die `d` for function `f` (R337, R487). -/
def State.read (s : State) (d e f offset n : Nat) : MemOut × State := State.readParts d e f offset (blocks offset n) s

/-- The translations of every part of a range, to the first that fails: their die physical addresses. -/
def State.translateParts (d e f offset : Nat) (isWrite : Bool) :
    List (Nat × Nat) → State → (MemOut × List (Nat × Translation)) × State
  | [], s => ((.ok [], []), s)
  | (o, _) :: ps, s =>
    match s.translate d e f (offset + o) isWrite with
    | (.denied, s) => ((.denied, []), s)
    | (.fault k, s) => ((.fault k (offset + o), []), s)
    | (.found t, s) =>
      match State.translateParts d e f offset isWrite ps s with
      | ((m, l), s) => ((m, (offset + o, t) :: l), s)

/-- One write of at most 4 KiB within a block, through a translation already found. -/
def State.writePart (s : State) (d offset : Nat) (t : Translation) (bs : List Byte) : State :=
  ((s.access d offset t).writeBlock d (t.pa offset) bs).count (memPage d (t.pa offset)) Ctr.memCtlWriteBytes bs.length

/-- Writes of the parts of a range in ascending order, to the first that fails; the earlier parts stay written. -/
def State.writeParts (d e f offset : Nat) (bs : List Byte) : List (Nat × Nat) → State → MemOut × State
  | [], s => (.ok [], s)
  | (o, n) :: ps, s =>
    match s.translate d e f (offset + o) true with
    | (.denied, s) => (.denied, s)
    | (.fault k, s) => (.fault k (offset + o), s)
    | (.found t, s) => State.writeParts d e f offset bs ps (s.writePart d (offset + o) t (slice bs o n))

/-- A write by engine `e` of die `d` for function `f` (R337, R483, R484). -/
def State.write (s : State) (d e f offset : Nat) (bs : List Byte) : MemOut × State :=
  State.writeParts d e f offset bs (blocks offset bs.length) s

/-- A write that is made only if every part of its range translates: a packet is placed whole or not at all (R176,
R191). -/
def State.writeWhole (s : State) (d e f offset : Nat) (bs : List Byte) : MemOut × State :=
  match State.translateParts d e f offset true (blocks offset bs.length) s with
  | ((.ok _, _), s) => s.write d e f offset bs
  | ((m, _), s) => (m, s)

/-- The endpoint and offset of a global address (R327). -/
def gaEndpoint (a : Word64) : Nat := bits a.toNat 63 46
def gaOffset (a : Word64) : Nat := bits a.toNat 45 0

/-- An unchecked read of a local ring's slot by the queue manager (R129, R487). -/
def State.readRing (s : State) (d f offset n : Nat) : MemOut × State :=
  match s.translate d 8 f offset false with
  | (.denied, s) => (.denied, s)
  | (.fault k, s) => (.fault k offset, s)
  | (.found t, s) =>
    (.ok (s.bytes d (t.pa offset) n), (s.access d offset t).count (memPage d (t.pa offset)) Ctr.memCtlReadBytes n)

end Sys2Proof.Machine
end

