-- ==== Sys2Proof/Machine/QueueCore.lean ====
section
/-!
DEFINITION. What every unit needs of the queues (R100 to R151): host writes and ledger channels with the dirty log
(R90, R544), the stop of a queue (R130, R142), arrival entries (R118 to R122), and the end of a descriptor (R115, R192).
-/

namespace Sys2Proof.Machine

/-- Key of queue `q` of function `f`. -/
def qKey (f q : Nat) : Nat := f * 65536 + q

/-- Queue `q` of function `f`, if it exists. -/
def State.queue (s : State) (f q : Nat) : Option Queue := FMap.get? s.queues (qKey f q)

/-- Queue `q` of function `f` set. -/
def State.setQueue (s : State) (f q : Nat) (x : Queue) : State := { s with queues := FMap.set s.queues (qKey f q) x }

/-- Queue `q` of function `f` changed where it exists. -/
def State.onQueue (s : State) (f q : Nat) (g : Queue → Queue) : State :=
  match s.queue f q with
  | some x => s.setQueue f q (g x)
  | none => s

/-- Generation of an index of a ring of 2^n entries (R108). -/
def gen (n : Nat) (i : Word) : Nat := i.toNat / 2 ^ n % 256

/-- Byte offset of an index from the ring base (R106). -/
def ringOffset (n : Nat) (i : Word) : Nat := 64 * (i.toNat % 2 ^ n)

/-- Page of the PCI Express controller (R85 to R92 of die 0). -/
abbrev pciePage : Page := ⟨0, .pcie, 0⟩

/-- Function state page of a function (R551). -/
abbrev fnPage (f : Nat) : Page := ⟨0, .fnState, f⟩

/-! ### Host memory writes (R66, R90, R98, R544 to R547) -/

/-- One dirty entry for a 4 KiB page of host memory (R544 to R546): omitted for one of the last 16 pages logged, lost
when the ring is full, written otherwise. -/
def State.dirtyPage (s : State) (f pg : Nat) : State :=
  let p := fnPage f
  if (s.fn f).dirty.contains pg then s.count p Ctr.fnStateDirtySuppressed
  else
    let n := bits (s.reg p 0x148) 4 0
    let tail := s.reg p 0x14C
    if (BitVec.ofNat 32 tail - BitVec.ofNat 32 (s.reg p 0x150) : Word).toNat = 2 ^ n then
      (((s.setReg p 0x148 (s.reg p 0x148 ||| 0x40000000)).count p Ctr.fnStateDirtyLost).raise p 4)
    else
      let e := gen n (BitVec.ofNat 32 tail) + pg * 4096
      let a := BitVec.ofNat 64 (s.reg p 0x140 + 8 * (tail % 2 ^ n))
      let s := (s.setReg p 0x14C ((tail + 1) % 2 ^ 32)).onFn f fun x => { x with dirty := (pg :: x.dirty).take 16 }
      (s.count p Ctr.fnStateDirtyEntries).emit (.hostWrite 0 a (toLE 8 e))

/-- The dirty entries of a write of `n` bytes at a bus address, where the function's log is enabled (R544). -/
def State.logDirty (s : State) (f : Nat) (a n : Nat) : State :=
  if bit (s.reg (fnPage f) 0x148) 31 then
    (List.range ((a + n + 4095) / 4096 - a / 4096)).foldl (fun s i => s.dirtyPage f (a / 4096 + i)) s
  else s

/-- The PCI Express controller issues a write, then the message that announces it (R98). -/
def State.issueHost (s : State) (f : Nat) (w : HostWrite) : State :=
  let s := if w.data.isEmpty then s else s.emit (.hostWrite f w.addr w.data)
  let s := if w.logged && !w.data.isEmpty then s.logDirty f w.addr.toNat w.data.length else s
  match w.vector with
  | some v => s.sendMsix f v
  | none => s

/-- A write of a descriptor to host memory: it enters its queue's ledger channel, or is issued (R89, R90). -/
def State.hostWrite (s : State) (f : Nat) (ledger : Option Nat) (w : HostWrite) : State :=
  match ledger with
  | some c => s.onFn f fun x => { x with ledgers := modifyAt x.ledgers c (· ++ [w]) }
  | none => s.issueHost f w

/-! ### Stops (R129, R130, R142) -/

/-- Stop causes (QUEUE_ERROR.CAUSE). -/
def causeMalformed : Nat := 1
def causeStale : Nat := 2
def causeOverrun : Nat := 3
def causeHostFetch : Nat := 4
def causeRing : Nat := 5

/-- A record pushed into the STOP_FIFO of a queue page; a push into a full FIFO is lost and marks the next record read
(R142). -/
def State.pushStop (s : State) (p : Page) (rec_ : Word) : State :=
  let l := (FMap.get? s.stops p.addr).getD []
  if l.length < 256 then { s with stops := FMap.set s.stops p.addr (l ++ [rec_]) }
  else { s with stopsLost := if s.stopsLost.contains p.addr then s.stopsLost else p.addr :: s.stopsLost }

/-- A queue stops in ERROR (R130, R142): fetched descriptors are discarded, the cause, DETAIL and index are latched, a
record enters STOP_FIFO, and a QUEUE_STOP entry goes to its route. -/
def State.stopQueue (s : State) (f q cause detail : Nat) (index : Word) : State :=
  match s.queue f q with
  | none => s
  | some x =>
    let s := s.setQueue f q { x with
      state := .error, cause := cause, detail := detail, errIndex := index, slots := [], fetching := [], stale := none }
    let p := queuePage x.owner f
    let s := s.count p Ctr.queuePageQueueStops
    let s := s.pushStop p (BitVec.ofNat 32 (cause % 8 * 65536 + q))
    match FMap.get? (s.fn f).routes 6 with
    | some r =>
      { s with arrivals := s.arrivals ++
          [(x.owner, f, r, { kind := 6, body := bodyOf [(4, 2, q), (6, 2, cause), (8, 4, index.toNat)] })] }
    | none => s

/-! ### Writing an entry into a ring (R116, R118, R129) -/

/-- The bytes of a local ring's slot written by the queue manager: bytes 4 to 63, then bytes 0 to 3 (R116); a fault or a
denial writes nothing. -/
def State.writeRing (s : State) (d f offset : Nat) (bs : List Byte) : Bool × State :=
  match State.translateParts d 8 f offset true [(0, 64)] s with
  | ((.ok _, _), s) =>
    let s := (s.write d 8 f (offset + 4) (bs.drop 4)).2
    (true, (s.write d 8 f offset (bs.take 4)).2)
  | (_, s) => (false, s)

/-- An entry written into the slot of an index of a queue, with the message that follows it; false where a local ring
faults (R129). -/
def State.writeEntry (s : State) (f q : Nat) (x : Queue) (i : Word) (bs : List Byte) (vector : Option Nat) : Bool × State :=
  let a := x.base.toNat + ringOffset x.log2 i
  if x.isLocal then
    match s.writeRing x.owner f (gaOffset (BitVec.ofNat 64 a)) bs with
    | (true, s) => (true, match vector with | some v => s.sendMsix f v | none => s)
    | (false, s) => (false, s.stopQueue f q causeRing 0 i)
  else
    let s := s.hostWrite f x.ledger ⟨BitVec.ofNat 64 (a + 4), bs.drop 4, none, true⟩
    (true, s.hostWrite f x.ledger ⟨BitVec.ofNat 64 a, bs.take 4, vector, true⟩)

/-! ### Arrival queues (R118 to R122) -/

/-- A queue pair, if it is not ABSENT. -/
def State.qp (s : State) (n : Nat) : Option Qp := FMap.get? s.qps n

/-- A queue pair set. -/
def State.setQp (s : State) (n : Nat) (x : Qp) : State := { s with qps := FMap.set s.qps n x }

/-- A queue pair changed where it exists. -/
def State.onQp (s : State) (n : Nat) (g : Qp → Qp) : State :=
  match s.qp n with
  | some x => s.setQp n (g x)
  | none => s

/-- The die that owns a queue-pair number (R152). -/
def State.qpDie (s : State) (n : Nat) : Nat := n / s.part.qpsPerDie

/-- The receive slot of a message released (R171). -/
def State.releaseSlot (s : State) (slot : Option (Nat × Word)) : State :=
  match slot with
  | some (n, m) => s.onQp n fun x => { x with slotsHeld := x.slotsHeld.filter (· != m) }
  | none => s

/-- An arrival entry dropped: counted, its slot released, and the next entry written marked LOST (R121, R122, R171). -/
def State.dropArrival (s : State) (d f q : Nat) (e : ArrivalEntry) : State :=
  ((s.count (queuePage d f) Ctr.queuePageArrivalsDropped).releaseSlot e.slot).onQueue f q fun x => { x with lost := true }

/-- An entry written at the tail of an arrival queue (R118, R138). A ring fault stops the queue and drops the entry. -/
def State.putArrival (s : State) (f q : Nat) (x : Queue) (e : ArrivalEntry) : State :=
  let hdr := toLE 4 (e.kind + gen x.log2 x.tail * 256 + b2n x.lost * 65536)
  let vec := if x.intEn && x.head == x.tail then some x.vector else none
  match s.writeEntry f q x x.tail (hdr ++ e.body) vec with
  | (true, s) =>
    (s.onQueue f q fun y => { y with
      tail := y.tail + 1, lost := false, dropping := false,
      receipts := match e.slot with
        | some (n, m) => y.receipts ++ [(x.tail, n, m)]
        | none => y.receipts }).count (queuePage x.owner f) Ctr.queuePageArrivalsWritten
  | (false, s) => s.dropArrival x.owner f q e

/-- Whether an arrival queue has space for an entry (R107). -/
def Queue.hasSpace (x : Queue) : Bool := decide ((x.tail - x.head).toNat < 2 ^ x.log2)

/-- The next entry produced for a queue is written, held while the queue is full, or dropped (R121, R122). -/
def State.deliverArrival (s : State) (f q : Nat) : State :=
  match s.queue f q with
  | none | some { arrival := false, .. } =>
    match s.arrivals.find? fun a => a.2.1 == f && a.2.2.1 == q with
    | some a => ({ s with arrivals := s.arrivals.erase a }).dropArrival a.1 f q a.2.2.2
    | none => s
  | some x =>
    match x.held with
    | some e =>
      if x.state == .error || x.state == .disabled then
        (s.setQueue f q { x with held := none }).dropArrival x.owner f q e
      else if x.hasSpace then (s.setQueue f q { x with held := none }).putArrival f q { x with held := none } e
      else s
    | none =>
      match s.arrivals.find? fun a => a.2.1 == f && a.2.2.1 == q with
      | none => s
      | some a =>
        let s := { s with arrivals := s.arrivals.erase a }
        if x.state == .error || x.state == .disabled then s.dropArrival a.1 f q a.2.2.2
        else if x.hasSpace then s.putArrival f q x a.2.2.2
        else if x.dropping then s.dropArrival a.1 f q a.2.2.2
        else s.setQueue f q { x with held := some a.2.2.2 }

/-- A RECEIVE or NOTIFY entry for the arrival queue of a queue pair (R173). -/
def State.arriveAt (s : State) (d f q : Nat) (e : ArrivalEntry) : State :=
  if q = 0 then s.releaseSlot e.slot else { s with arrivals := s.arrivals ++ [(d, f, q, e)] }

/-! ### The end of a descriptor (R115, R192) -/

/-- Status codes of R150. -/
def stSuccess : Nat := 0
def stFlushFailed : Nat := 1
def stTransportTimeout : Nat := 2
def stQpError : Nat := 3
def stTranslationFault : Nat := 4
def stPoisoned : Nat := 5
def stTallyFailed : Nat := 6
def stRetractedChunk : Nat := 7
def stReplayLost : Nat := 8
def stGroupTimeout : Nat := 9
def stAccessDenied : Nat := 0xA
def stCipherAuth : Nat := 0xB
def stRecipeAborted : Nat := 0xC
def stInvalidArgument : Nat := 0x80
def stNotPermitted : Nat := 0x81
def stNoResource : Nat := 0x82
def stNoSuchObject : Nat := 0x83
def stQueueExists : Nat := 0x84
def stAlignment : Nat := 0x85
def stLedgerNotHost : Nat := 0x86
def stRingNotLocal : Nat := 0x87
def stBusy : Nat := 0x88
def stNotQuiesced : Nat := 0x89
def stBadFormat : Nat := 0x8A

/-- DETAIL LOCAL and REMOTE (R192). -/
def dtLocal : Nat := 10
def dtRemote : Nat := 11

/-- Whether an execution is that of a queue's index. -/
def Exec.is (e : Exec) (f q : Nat) (i : Word) : Bool := e.fn == f && e.q == q && e.index == i

/-- The descriptor in execution at an index of a queue. -/
def State.exec? (s : State) (f q : Nat) (i : Word) : Option Exec := s.execs.find? (·.is f q i)

/-- The descriptor in execution at an index of a queue changed. -/
def State.onExec (s : State) (f q : Nat) (i : Word) (g : Exec → Exec) : State :=
  { s with execs := s.execs.map fun e => if e.is f q i then g e else e }

/-- Fields of a descriptor (R112). -/
def dOpcode (d : List Byte) : Nat := le d 0 1
def dFence (d : List Byte) : Bool := bit (le d 0 4) 17
def dFlush (d : List Byte) : Bool := bit (le d 0 4) 18
def dEarly (d : List Byte) : Bool := bit (le d 0 4) 19
def dIrq (d : List Byte) : Bool := bit (le d 0 4) 20
def dTarget (d : List Byte) : Nat := le d 4 4 % 2 ^ 18
def dSrc (d : List Byte) : Word64 := BitVec.ofNat 64 (le d 8 8)
def dDst (d : List Byte) : Word64 := BitVec.ofNat 64 (le d 0x10 8)
def dLength (d : List Byte) : Nat := le d 0x18 4
def dImm (d : List Byte) : Word := BitVec.ofNat 32 (le d 0x1C 4)
def dOperand (d : List Byte) : Word64 := BitVec.ofNat 64 (le d 0x20 8)

/-- A descriptor's operation ends with a status, DETAIL and results: its completion may be written, once its read-backs
have returned (R92, R115). -/
def State.finish (s : State) (f q : Nat) (i : Word) (status detail result0 result1 : Nat) : State :=
  s.onExec f q i fun e =>
    if e.phase == .finished then e else
    { e with phase := if e.readBacks.isEmpty || status != 0 then .finished else .flushing
             readBacks := if status != 0 then [] else e.readBacks
             status := status, detail := detail, result0 := result0, result1 := result1 }

/-- The 64 bytes of a completion (R115). -/
def completionBytes (e : Exec) (time : Word64) : List Byte :=
  toLE 4 (dOpcode e.desc + le e.desc 1 1 * 256 + 65536) ++ toLE 2 e.status ++ toLE 2 e.detail ++ toLE 8 e.result0 ++
  toLE 8 e.result1 ++ toLE 8 time.toNat ++ zeros 8 ++ slice e.desc 0x28 8 ++ e.opResult

/-- A descriptor completes on die `d`: it counts one step of each collation entry whose SOURCE and FUNCTION it has, and a
count that reaches a multiple of INTERVAL makes a digest due (R520). -/
def State.countSteps (s : State) (d : Nat) (e : Exec) : State :=
  let op := dOpcode e.desc
  if (e.status != stSuccess && e.status != stRetractedChunk) || e.q == 0 then s else
  let mine (c : Collation) : Bool :=
    c.fn == e.fn && (if c.group then (op == 0x28 || op == 0x29) && c.source == dTarget e.desc % 65536
      else op == 0x20 && c.source == dTarget e.desc)
  let step (c : Collation) : Collation :=
    let n := (c.steps + 1) % 2 ^ 32
    { c with steps := n, due := if n % c.interval = 0 then c.due ++ [n / c.interval] else c.due }
  s.onDie d fun x => { x with integ := { x.integ with
    collations := x.integ.collations.map fun y => (y.1, if mine y.2 then step y.2 else y.2) } }

end Sys2Proof.Machine
end

