-- ==== Sys2Proof/Machine/EthernetPause.lean ====
section
/-!
DEFINITION. Priority flow control of the Ethernet ports (R308 to R315): usage of the ingress pool, PFC frames, and pauses.
-/

namespace Sys2Proof.Machine

/-- The Ethernet group page of a die and the page of port `k`. -/
abbrev ethGroupPage (d : Nat) : Page := ⟨d, .ethGroup, 0⟩
abbrev ethPage (d k : Nat) : Page := ⟨d, .ethPort, k⟩

/-- Ethernet port `k` of a die. -/
def State.ethPort (s : State) (d k : Nat) : EthPort := ((s.die d).eth[k]?).getD {}

/-- Ethernet port `k` of a die changed. -/
def State.onEth (s : State) (d k : Nat) (f : EthPort → EthPort) : State :=
  s.onDie d fun x => { x with eth := modifyAt x.eth k f }

/-- Ports of the mode of a die (R294). -/
def State.ethPorts (s : State) (d : Nat) : Nat := 2 ^ bits (s.reg (ethGroupPage d) 0x100) 1 0

/-- XON, XOFF and headroom of a priority, in bytes. -/
def State.xon (s : State) (d k p : Nat) : Nat := bits (s.reg (ethPage d k) (0x180 + 8 * p)) 31 16 * 1024
def State.xoff (s : State) (d k p : Nat) : Nat := bits (s.reg (ethPage d k) (0x180 + 8 * p)) 15 0 * 1024
def State.headroom (s : State) (d k p : Nat) : Nat := bits (s.reg (ethPage d k) (0x184 + 8 * p)) 15 0 * 1024

/-- Whether a priority is lossless (R310). -/
def State.lossless (s : State) (d k p : Nat) : Bool := bit (s.reg (ethPage d k) 0x10C) p

/-- U(k, p) (R309). -/
def State.usage (s : State) (d k p : Nat) : Nat := ((s.ethPort d k).usage[p]?).getD 0

/-- The address of a 64-bit MAC register, as its six octets (R304). -/
def State.mac (s : State) (d k off : Nat) : List Byte := toBE 6 (s.reg (ethPage d k) off % 2 ^ 48)

/-- The 60 bytes of a PFC frame before its frame check sequence (R313). -/
def pfcBytes (src : List Byte) (vector : Nat) (times : List Nat) : List Byte :=
  [0x01, 0x80, 0xC2, 0x00, 0x00, 0x01] ++ src ++ [0x88, 0x08, 0x01, 0x01] ++ toBE 2 vector ++
  times.flatMap (toBE 2) ++ zeros 26

/-- A frame sent by an Ethernet port, counted with its frame check sequence. -/
def State.sendEth (s : State) (d k : Nat) (frame : List Byte) : State :=
  ((s.count (ethPage d k) Ctr.ethPortTxFrames).count (ethPage d k) Ctr.ethPortTxBytes (frame.length + 4)).emit
    (.ethFrame d k frame (crc32 frame))

/-- A PFC frame that gives one priority a time (R312, R313); a port that is not UP sends no frame (R298). -/
def State.sendPfc (s : State) (d k p time : Nat) : State :=
  if (s.ethPort d k).state != .up then s else
  let times := (List.range 8).map fun i => if i = p then time else 0
  let s := (s.count (ethPage d k) Ctr.ethPortTxPfcFrames).sendEth d k (pfcBytes (s.mac d k 0x120) (2 ^ p) times)
  if time = 0 then s else s.count (ethPage d k) (Ctr.ethPortXoffSentPrio + p)

/-- Whether a port holds its peer paused for a priority. -/
def State.pausing (s : State) (d k p : Nat) : Bool := bit (s.ethPort d k).pausing p

/-- TX_PAUSING of a priority set. -/
def State.setPausing (s : State) (d k p : Nat) (v : Bool) : State :=
  s.onEth d k fun x => { x with pausing := setBits x.pausing p p (b2n v) }

/-- PAUSE_QUANTA of a port. -/
def State.quanta (s : State) (d k : Nat) : Nat := bits (s.reg (ethPage d k) 0x10C) 31 16

/-- A frame of priority `p` admitted to the pool, and the pause that its crossing of XOFF calls for (R309, R312). -/
def State.useAdd (s : State) (d k p n : Nat) : State :=
  let u := s.usage d k p
  let s' := s.onEth d k fun x => { x with usage := modifyAt x.usage p (· + n) }
  if s.lossless d k p && u ≤ s.xoff d k p && s.xoff d k p < u + n && !s.pausing d k p then
    (s'.sendPfc d k p (s.quanta d k)).setPausing d k p ((s.ethPort d k).state == .up)
  else s'

/-- A frame of priority `p` gone from the pool, and the frame of time 0 that its fall to XON calls for (R309, R312). -/
def State.useSub (s : State) (d k p n : Nat) : State :=
  let u := s.usage d k p
  let s' := s.onEth d k fun x => { x with usage := modifyAt x.usage p (· - n) }
  if s.pausing d k p && u - n ≤ s.xon d k p then (s'.sendPfc d k p 0).setPausing d k p false else s'

end Sys2Proof.Machine
end

