-- ==== Sys2Proof/Machine/Router.lean ====
section
/-!
DEFINITION. The router of a die and its links (R244 to R293): headers, port choice, held packets, virtual channels and
credits, frames.
-/

namespace Sys2Proof.Machine

/-- Router pages, the packet buffer page and the page of a link by its index (Alram 0 and 1, quire 0 to 3). -/
abbrev routerPage (d : Nat) : Page := ⟨d, .router0, 0⟩
abbrev router1Page (d : Nat) : Page := ⟨d, .router1, 0⟩
abbrev bufferPage (d : Nat) : Page := ⟨d, .pktBuf, 0⟩
def linkPage (d l : Nat) : Page := if l < 2 then ⟨d, .alram, l⟩ else ⟨d, .quire, l - 2⟩

/-- Index in `Die.links` of the link behind a router port; none for the Ethernet port group and the local port (R244). -/
def linkOfPort (port : Nat) : Option Nat :=
  if port < 2 then some port else if 3 ≤ port ∧ port ≤ 6 then some (port - 1) else none

/-- Router port of a link index (R16, R244). -/
def portOfLink (l : Nat) : Nat := if l < 2 then l else l + 1

/-- Virtual channels of a link (R260). -/
def linkVcs (l : Nat) : Nat := if l < 2 then 10 else 11

/-- A link of a die. -/
def Die.link (x : Die) (l : Nat) : Link := (x.links[l]?).getD { vcs := [] }

/-- A link of a die changed. -/
def State.onLink (s : State) (d l : Nat) (f : Link → Link) : State :=
  s.onDie d fun x => { x with links := modifyAt x.links l f }

/-- A virtual channel of a link changed. -/
def State.onVc (s : State) (d l vc : Nat) (f : VcCredit → VcCredit) : State :=
  s.onLink d l fun x => { x with vcs := modifyAt x.vcs vc f }

/-- The router of a die changed. -/
def State.onRouter (s : State) (d : Nat) (f : Router → Router) : State := s.onDie d fun x => { x with router := f x.router }

/-- The 16 bytes of a network header (R245). -/
def headerBytes (p : Packet) : List Byte :=
  toBE 4 (p.dest.toNat * 2 ^ 14 + b2n p.edition * 2 ^ 13 + p.tclass.toNat * 2 ^ 10 + p.ptype.toNat * 16 +
    b2n p.escape * 8 + b2n p.ce * 4 + p.reserved0.toNat) ++
  toBE 4 (p.source.toNat * 2 ^ 14 + p.length.toNat) ++
  toBE 4 (p.hops.toNat * 2 ^ 27 + b2n p.replicate * 2 ^ 26 + p.reserved1.toNat * 2 ^ 16 + p.groupId.toNat) ++
  toBE 4 (p.groupGen.toNat * 2 ^ 16 + p.reserved2.toNat)

/-- The network header read from its 16 bytes, with the bytes after it (R245). -/
def parseHeader (h body : List Byte) : Packet :=
  let a := be h 0 4
  let b := be h 4 4
  let c := be h 8 4
  let e := be h 12 4
  { dest := .ofNat 18 (bits a 31 14), edition := bit a 13, tclass := .ofNat 3 (bits a 12 10)
    ptype := .ofNat 6 (bits a 9 4), escape := bit a 3, ce := bit a 2, reserved0 := .ofNat 2 (bits a 1 0)
    source := .ofNat 18 (bits b 31 14), length := .ofNat 14 (bits b 13 0)
    hops := .ofNat 5 (bits c 31 27), replicate := bit c 26, reserved1 := .ofNat 10 (bits c 25 16)
    groupId := .ofNat 16 (bits c 15 0), groupGen := .ofNat 16 (bits e 31 16), reserved2 := .ofNat 16 (bits e 15 0)
    body := body }

/-- The link CRC of a packet (R248). -/
def linkCrc (p : Packet) : Word := crc32 (headerBytes p ++ p.body)

/-- Packet types (R246). -/
def ptBrevefold : BitVec 6 := 0x01
def ptAlramWrite : BitVec 6 := 0x02
def ptAlramReadRequest : BitVec 6 := 0x03
def ptAlramReadResponse : BitVec 6 := 0x04
def ptAlramDoorbell : BitVec 6 := 0x05
def ptChunk : BitVec 6 := 0x06
def ptPoisonNotice : BitVec 6 := 0x07
def ptFabricMgmt : BitVec 6 := 0x08
def ptMarker : BitVec 6 := 0x09

/-- Whether a type is package control (R246). -/
def isPackageType (t : BitVec 6) : Bool := decide (0x30 ≤ t.toNat)

/-- Whether a type is single-link (R246). -/
def isSingleLink (t : BitVec 6) : Bool := decide (2 ≤ t.toNat ∧ t.toNat ≤ 5) || t == ptMarker

/-- A packet of a die's own: routed, unreserved, with its body. -/
def ownPacket (src dst tclass : Nat) (t : BitVec 6) (body : List Byte) : Packet :=
  { dest := .ofNat 18 dst, edition := false, tclass := .ofNat 3 tclass, ptype := t, escape := false, ce := false
    reserved0 := 0, source := .ofNat 18 src, length := .ofNat 14 body.length, hops := 0, replicate := false
    reserved1 := 0, groupId := 0, groupGen := 0, reserved2 := 0, body := body }

/-- The discards of R247 for a packet that arrives at port `port` of die `d`. -/
def State.badHeader (s : State) (d port : Nat) (p : Packet) : Bool :=
  p.reserved0 != 0 || p.reserved1 != 0 || p.reserved2 != 0 || decide (8256 < p.length.toNat) ||
  p.length.toNat != p.body.length ||
  !(decide (1 ≤ p.ptype.toNat ∧ p.ptype.toNat ≤ 9) || isPackageType p.ptype) ||
  (p.replicate && p.ptype != ptChunk) ||
  (isPackageType p.ptype && decide (port < 3)) ||
  (isSingleLink p.ptype && (p.dest.toNat != s.endpoint d || !s.hasEndpoint d))

/-- Units of the packet buffer that a frame takes (R261). -/
def frameUnits (p : Packet) : Nat := ceilDiv (20 + p.length.toNat) 64

/-- The virtual channel of a packet (R260). -/
def packetVc (p : Packet) : Nat :=
  if isPackageType p.ptype then 10 else if p.escape then 8 + b2n p.edition else p.tclass.toNat

/-- Units of credit that a sender holds on a virtual channel (R261, R262). -/
def VcCredit.credit (c : VcCredit) : Nat := (BitVec.ofNat 32 c.granted + c.peerFreed - c.sent : Word).toNat

/-- Units of credit for a virtual channel of a router port; a port without virtual channels never lacks it (R275). -/
def State.credit (s : State) (d port vc : Nat) : Nat :=
  match linkOfPort port with
  | some l => ((((s.die d).link l).vcs[vc]?).map VcCredit.credit).getD 0
  | none => 2 ^ 32

/-- Whether a port holds credit for a packet on a virtual channel (R261). -/
def State.hasCredit (s : State) (d port vc : Nat) (p : Packet) : Bool := decide (frameUnits p ≤ s.credit d port vc)

/-- The state of a router port. -/
def State.portState (s : State) (d port : Nat) : PortState := ((s.die d).router.ports[port]?).getD .absent

/-- A router port set. -/
def State.setPort (s : State) (d port : Nat) (v : PortState) : State :=
  s.onRouter d fun r => { r with ports := r.ports.set port v }

/-- Where a routed packet goes (R274). -/
inductive RouteOut where
  | noRoute
  | localPort
  /-- By the ports of a mask, with the escape port of the entry. -/
  | ports (mask : Nat) (escape : Option Nat)
  deriving DecidableEq, Repr

/-- Index of a route entry in `Router.routes`. -/
def routeIndex (e : Bool) (member : Bool) (i : Nat) : Nat := b2n e * 2 ^ 15 + b2n member * 2 ^ 14 + i

/-- The route of a packet at a die (R274). -/
def State.route (s : State) (d : Nat) (p : Packet) : RouteOut :=
  if !s.hasEndpoint d then .noRoute
  else if p.dest.toNat == s.endpoint d then .localPort
  else
    let same := p.dest.toNat / 16 == s.endpoint d / 16
    let i := if same then routeIndex p.edition true (p.dest.toNat % 16) else routeIndex p.edition false (p.dest.toNat / 16)
    let r := ((FMap.get? (s.die d).router.routes i).getD 0).toNat
    if !bit r 31 then .noRoute else .ports (bits r 15 8) (if bit r 0 then some (bits r 18 16) else none)

/-- The ports of a mask that are UP (R676). -/
def State.usable (s : State) (d mask : Nat) : List Nat := (bitsSet 8 mask).filter fun k => s.portState d k == .up

/-- The port of a usable set for a packet: the one with most free credit for a class routed adaptively, the lowest on a
tie, and otherwise one by hash (R274). -/
def State.pickPort (s : State) (d : Nat) (p : Packet) (ok : List Nat) : Nat :=
  if bit (s.reg (routerPage d) 0x110) (24 + p.tclass.toNat) then
    let best := maxOf (ok.map fun k => s.credit d k (packetVc p))
    (ok.find? fun k => s.credit d k (packetVc p) == best).getD 0
  else (ok[Config.routeHash (maskOf ok) p.source.toNat p.dest.toNat % max ok.length 1]?).getD 0

/-- What a router does with a packet that it would send on (R274, R676). -/
inductive Choice where
  | noRoute
  | localPort
  | port (k mask : Nat) (escape : Option Nat)
  | hold (mask : Nat) (escape : Option Nat)
  | drain
  deriving DecidableEq, Repr

/-- Port choice for one routed packet (R274, R676). -/
def State.choose (s : State) (d : Nat) (p : Packet) : Choice :=
  match s.route d p with
  | .noRoute => .noRoute
  | .localPort => .localPort
  | .ports mask esc =>
    if p.escape then
      match esc with
      | none => .noRoute
      | some k => if s.portState d k == .up then .port k mask esc else .drain
    else
      let ok := s.usable d mask
      if !ok.isEmpty then .port (s.pickPort d p ok) mask esc
      else if (bitsSet 8 mask).any fun k => s.portState d k == .hold then .hold mask esc
      else .drain

/-- Units freed on the virtual channel that a packet came by, to be reported (R262), or bytes of the Ethernet ingress
pool, whose port and priority stand in place of the virtual channel as 8k + p (R309). A copy of a replicated packet frees
them only once no other copy is held (R287). -/
def State.freeUnits (s : State) (d port vc units : Nat) (origin : Option Nat := none) : State :=
  let r := (s.die d).router
  let kept := match origin with
    | none => false
    | some _ => r.held.any (fun h => h.origin == origin) || r.arrived.any (fun a => a.origin == origin)
  if kept then s else if port = 2 then s.useSub d (vc / 8) (vc % 8) units
  else
    match linkOfPort port with
    | some l => s.onVc d l vc fun c => { c with freed := c.freed + BitVec.ofNat 32 units }
    | none => s

/-- EDITION_COUNT of a packet's edition changed (R279). -/
def State.editionCount (s : State) (d : Nat) (e : Bool) (f : Nat → Nat) : State :=
  s.onRouter d fun r => { r with counts := modifyAt r.counts (b2n e) f }

/-- A packet held by the router discarded: counted, its units freed, its edition count ended (R262, R279). -/
def State.discard (s : State) (d : Nat) (p : Packet) (port vc units ctr : Nat) (origin : Option Nat := none) : State :=
  ((s.count (routerPage d) ctr).freeUnits d port vc units origin).editionCount d p.edition (· - 1)

/-- Bytes of packets, the copies of one replicated packet counted once (R287). -/
def sharedBytes : List Nat → List (Option Nat × Nat) → Nat
  | _, [] => 0
  | seen, (none, n) :: l => n + sharedBytes seen l
  | seen, (some o, n) :: l => if seen.contains o then sharedBytes seen l else n + sharedBytes (o :: seen) l

/-- Bytes that a die's router holds (packet-buffer counter OCCUPANCY). -/
def Die.occupancy (x : Die) : Nat :=
  sharedBytes [] (((x.router.fifos.flatten ++ x.router.arrived).map fun f => (f.origin, 20 + f.pkt.length.toNat)) ++
    x.router.held.map fun h => (h.origin, 20 + h.pkt.length.toNat))

/-- OCCUPANCY and PEAK_OCCUPANCY of the packet buffer brought up to date. -/
def State.noteOccupancy (s : State) (d : Nat) : State :=
  let n := (s.die d).occupancy
  (s.setLevel (bufferPage d) Ctr.pktBufOccupancy n).setLevel (bufferPage d) Ctr.pktBufPeakOccupancy
    (max n (s.ctr (bufferPage d) Ctr.pktBufPeakOccupancy).toNat)

/-- A packet put among those that wait for an output port. -/
def State.holdPacket (s : State) (d : Nat) (h : HeldPacket) : State :=
  (s.onRouter d fun r => { r with held := r.held ++ [{ h with id := r.nextId }], nextId := r.nextId + 1 }).noteOccupancy d

/-- A packet that has entered the router through an input port: local delivery, a wait for an output port, drain hold or
a discard (R262, R274, R276, R288, R676). Its edition is already counted. -/
def State.forward (s : State) (d : Nat) (p : Packet) (flow inPort vcIn units : Nat) (origin : Option Nat := none) :
    State :=
  let h (k mask : Nat) (esc : Option Nat) (dr : Bool) : HeldPacket :=
    { id := 0, pkt := p, inPort := inPort, vcIn := vcIn, units := units, flow := flow, port := k, mask := mask,
      escape := esc, since := s.now, drain := dr, origin := origin }
  match s.choose d p with
  | .noRoute => s.discard d p inPort vcIn units Ctr.router0NoRouteDiscards origin
  | .localPort =>
    if (s.die d).computeReset || (s.die d).power.state == 3 then s.discard d p inPort vcIn units Ctr.router0LocalResetDiscards origin else
    let s := s.editionCount d p.edition (· - 1)
    let f : FifoPacket := ⟨p, inPort, vcIn, units, origin⟩
    (if p.ptype == ptBrevefold then
      (s.item ⟨d, .rx, 0⟩ 0x401).onRouter d fun r => { r with fifos := modifyAt r.fifos 8 (· ++ [f]) }
     else s.onRouter d fun r => { r with arrived := r.arrived ++ [f] }).noteOccupancy d
  | .drain => s.discard d p inPort vcIn units Ctr.router0DrainDiscards origin
  | .port k mask esc =>
    if p.hops.toNat = 31 then s.discard d p inPort vcIn units Ctr.router0HopLimitDiscards origin
    else s.holdPacket d (h k mask esc false)
  | .hold mask esc =>
    if p.hops.toNat = 31 then s.discard d p inPort vcIn units Ctr.router0HopLimitDiscards origin
    else s.holdPacket d (h 8 mask esc true)

/-- INJECT_EDITION of a die. -/
def State.injectEdition (s : State) (d : Nat) : Bool := bit (s.reg (routerPage d) 0x104) 0

/-- A package packet that has entered the router: the spec keeps its format and its routing to itself (R246, R274), so
whether it is consumed here or by which quire link it goes on is free. -/
def State.forwardPackage (s : State) (d : Nat) (p : Packet) (flow inPort vcIn units : Nat) : State :=
  match Config.packageRoute d p.source.toNat p.dest.toNat % 5 with
  | 0 => ((s.editionCount d p.edition (· - 1)).freeUnits d inPort vcIn units).noteOccupancy d
  | n + 1 =>
    if p.hops.toNat = 31 then s.discard d p inPort vcIn units Ctr.router0HopLimitDiscards
    else if s.portState d (n + 3) == .up then
      s.holdPacket d
        { id := 0, pkt := p, inPort := inPort, vcIn := vcIn, units := units, flow := flow, port := n + 3
          mask := 2 ^ (n + 3), escape := none, since := s.now }
    else s.discard d p inPort vcIn units Ctr.router0DrainDiscards

/-- A packet that an engine of the die forms: it takes the injection edition, is counted, and is routed (R212, R278,
R279). -/
def State.inject (s : State) (d : Nat) (p : Packet) (flow : Nat) : State :=
  let p := { p with edition := s.injectEdition d }
  let s := if flow < 262144 then s.item (routerPage d) 0x200 else s
  (s.editionCount d p.edition (· + 1)).forward d p flow 7 0 0

/-- Flow indices of R212. -/
def flowRelay (port : Nat) : Nat := 262144 + port
def flowCollective : Nat := 262160
def flowReckoner : Nat := 262161
def flowLocal : Nat := 262162

/-- A packet taken by its consumer at the local port: its FIFO or list entry is removed, its units freed (R262). -/
def State.takeLocal (s : State) (d : Nat) (p : Packet) : State :=
  let r := (s.die d).router
  let l := if p.ptype == ptBrevefold then (r.fifos[8]?).getD [] else r.arrived
  match l.find? fun f => f.pkt == p with
  | none => s
  | some f =>
    let s := s.onRouter d fun r =>
      if p.ptype == ptBrevefold then { r with fifos := modifyAt r.fifos 8 (·.erase f) }
      else { r with arrived := r.arrived.erase f }
    (s.freeUnits d f.port f.vc f.units f.origin).noteOccupancy d

/-- A frame sent on a link: units leave the sender's credit, the frame is counted (R261). -/
def State.sendFrame (s : State) (d l vc : Nat) (p : Packet) : State :=
  let s := s.onVc d l vc fun c => { c with sent := c.sent + BitVec.ofNat 32 (frameUnits p) }
  (s.count (linkPage d l) Ctr.linkFramesSent).emit (.frame d (portOfLink l) vc p (linkCrc p))

/-- A single-link packet that the die forms for one of its links (R246, R253): it waits for that port as a packet of a
local source, and is lost where the port is not UP. -/
def State.sendOnLink (s : State) (d l : Nat) (p : Packet) : State :=
  let k := portOfLink l
  if s.portState d k != .up then s else
  let p := { p with edition := bit (s.reg (routerPage d) 0x104) 0 }
  (s.editionCount d p.edition (· + 1)).holdPacket d
    { id := 0, pkt := p, inPort := 7, vcIn := 0, units := 0, flow := 262162, port := k, mask := 2 ^ k, escape := none,
      since := s.now }

/-- A control word of a link (R250). -/
def controlWord (kind vc value : Nat) : Word64 := BitVec.ofNat 64 (kind * 2 ^ 56 + vc * 2 ^ 52 + value)

/-- A control word sent on a link. -/
def State.sendControl (s : State) (d l kind vc value : Nat) : State :=
  s.emit (.control d (portOfLink l) (controlWord kind vc value))

/-- A sender's bookkeeping for a packet that leaves by a port other than the local port: it is counted, its input units
are freed, and its edition counts on for 1 µs (R262, R276, R279). -/
def State.departed (s : State) (d : Nat) (p : Packet) (inPort vcIn units : Nat) (origin : Option Nat := none) : State :=
  let s := (s.count (routerPage d) Ctr.router0PacketsForwarded).count (routerPage d) Ctr.router0BytesForwarded
    (20 + p.length.toNat)
  (s.freeUnits d inPort vcIn units origin).onRouter d fun r => { r with leaving := modifyAt r.leaving (b2n p.edition) (· + 1) }

end Sys2Proof.Machine
end

