-- ==== Sys2Proof/Machine/Links.lean ====
section
/-!
DEFINITION. Alram ports and quire links (R249 to R266): link states, frames, credits, Alram operations that a die answers,
and the state of the router ports behind them (R283, R284).
-/

namespace Sys2Proof.Machine

/-! ### Router ports (R283, R284, R676) -/

/-- Packets that wait for an output are offered again: one whose port is UP stays, another takes a usable port of its
primary set, waits in drain hold, or is discarded. -/
def State.reoffer (s : State) (d : Nat) : State :=
  let again (h : HeldPacket) : Option HeldPacket :=
    if !h.drain && s.portState d h.port == .up then some h
    else if h.pkt.escape then none
    else
      let ok := s.usable d h.mask
      if !ok.isEmpty then some { h with port := s.pickPort d h.pkt ok, drain := false }
      else if (bitsSet 8 h.mask).any fun k => s.portState d k == .hold then some { h with port := 8, drain := true }
      else none
  let hs := (s.die d).router.held
  let s' := s.onRouter d fun r => { r with held := hs.filterMap again }
  ((hs.filter fun h => (again h).isNone).foldl
    (fun s h => s.discard d h.pkt h.inPort h.vcIn h.units Ctr.router0DrainDiscards h.origin) s').noteOccupancy d

/-- A port leaves UP: HOLD, and its packets are offered again (R283). -/
def State.portDown (s : State) (d port : Nat) : State :=
  if s.portState d port == .up then (s.setPort d port .hold).reoffer d else s

/-- A port's link reaches UP: a port that was absent or disabled comes into use (R284). -/
def State.portUp (s : State) (d port : Nat) : State :=
  if s.portState d port == .absent then (s.setPort d port .up).reoffer d else s

/-! ### Link states (R252, R266) -/

/-- ENABLE of a link. -/
def State.linkEnabled (s : State) (d l : Nat) : Bool := bit (s.reg (linkPage d l) 0x100) 31

/-- The state of a link. -/
def State.linkState (s : State) (d l : Nat) : LinkState := ((s.die d).link l).state

/-- Whether a link of a die is wired: both Alram ports, and the quire links of R16. -/
def State.wired (s : State) (d l : Nat) : Bool := decide (l < 2) || (decide (l < 6) && (s.part.quirePeer d (l - 2)).isSome)

/-- Credits of a quire link that has left UP: its INIT words come anew (R261, R266). An Alram port's start at CREDIT_INIT. -/
def freshVcs (l : Nat) (x : Link) : Link := if l < 2 then x else { x with vcs := List.replicate (linkVcs l) {} }

/-- A link starts training (R252). -/
def State.linkTrain (s : State) (d l : Nat) : State :=
  s.onLink d l fun x => freshVcs l { x with state := .training, reversed := false, lanes := 0 }

/-- A link leaves its state for DOWN, and at once for TRAINING or DISABLED (R252, R266). -/
def State.linkDrop (s : State) (d l : Nat) (enabled : Bool) : State :=
  let up := s.linkState d l == .up
  let s := if up then s.closeWire (linkPage d l) else s
  let s := s.onLink d l fun x =>
    freshVcs l { x with state := if enabled then .training else .disabled, reversed := false, lanes := 0 }
  if up then
    (((s.count (linkPage d l) Ctr.linkLinkDowns).portDown d (portOfLink l)).raise (linkPage d l) 1)
  else s

/-- A link reaches UP (R252, R266). -/
def State.linkReach (s : State) (d l : Nat) : State :=
  ((s.onLink d l fun x => { x with state := .up }).portUp d (portOfLink l)).raise (linkPage d l) 2

/-- CREDIT_GRANT of a virtual channel (R264). -/
def State.creditGrant (s : State) (d l vc : Nat) : Nat := bits (s.reg (linkPage d l) (0x140 + 4 * vc)) 15 0

/-- A link enters CREDIT_INIT: its totals start from zero, and an INIT word goes out for every virtual channel (R261). -/
def State.creditInit (s : State) (d l : Nat) : State :=
  let s := s.onLink d l fun x =>
    { x with state := .creditInit, lanes := if l < 2 then 0xFF else 0
             vcs := List.replicate (linkVcs l) { initOut := true } }
  (List.range (linkVcs l)).foldl (fun s vc => s.sendControl d l 5 vc (s.endpoint d * 2 ^ 32 + s.creditGrant d l vc)) s

/-- An Alram port of a die, by its number. -/
def atAlram (s : State) (d k : Nat) (r : State) : Result := atUnit s d (decide (k < 2)) r

/-- A quire link of a die, by its number. -/
def atQuire (s : State) (d k : Nat) (r : State) : Result := atUnit s d (s.wired d (k + 2)) r

/-- A link of a die, by its router port. -/
def atLink (s : State) (d port : Nat) (r : Nat → State) : Result :=
  match linkOfPort port with
  | some l => atUnit s d (s.wired d l) (r l)
  | none => atUnit s d false s

/-- ALRAM_TRAINING_DONE (R252). -/
def execAlramTrainingDone (d k : Nat) (reversed : Bool) (s : State) : Result :=
  atAlram s d k <|
    if s.linkState d k == .training then s.onLink d k fun x => { x with state := .align, reversed := reversed } else s

/-- ALRAM_ALIGN_LOCK (R252, R261). -/
def execAlramAlignLock (d k : Nat) (s : State) : Result :=
  atAlram s d k <| if s.linkState d k == .align then s.creditInit d k else s

/-- INIT (R252, R261): the grant and the peer's endpoint are kept; the last one of every virtual channel takes an Alram
port to UP. A quire link receives its INIT words while it trains. -/
def execInit (d port vc : Nat) (endpoint : BitVec 18) (grant : BitVec 16) (s : State) : Result :=
  atLink s d port fun l =>
    let st := s.linkState d l
    if st == .creditInit || (st == .training && decide (2 ≤ l)) then
      let s := (s.onLink d l fun x => { x with peer := endpoint.toNat }).onVc d l vc fun c =>
        { c with granted := grant.toNat, initIn := true }
      if st == .creditInit && ((s.die d).link l).vcs.all (·.initIn) then s.linkReach d l else s
    else s

/-- ALRAM_LINK_DOWN (R252): lock lost, too many uncorrectable codewords, or a state bound exceeded. -/
def execAlramLinkDown (d k : Nat) (s : State) : Result :=
  atAlram s d k <| if s.linkState d k == .disabled then s else s.linkDrop d k (s.linkEnabled d k)

/-- QUIRE_LINK_DOWN (R266). -/
def execQuireLinkDown (d k : Nat) (s : State) : Result :=
  atQuire s d k <| if s.linkState d (k + 2) == .disabled then s else s.linkDrop d (k + 2) (s.linkEnabled d (k + 2))

/-- QUIRE_LINK_UP (R266): training has ended. A virtual channel whose INIT word no command has given holds the grant of
the adapter at the far end, which is in the package (R16, R261). -/
def execQuireLinkUp (d k : Nat) (s : State) : Result :=
  atQuire s d k <|
    if s.linkState d (k + 2) == .training && s.linkEnabled d (k + 2) then
      let d' := (s.part.quirePeer d k).getD 0
      let l' := s.part.quirePeerLink k + 2
      let seen := ((s.die d).link (k + 2)).vcs
      let vcs := (List.range 11).map fun vc =>
        match seen[vc]? with
        | some c => if c.initIn then c else { granted := s.creditGrant d' l' vc, initIn := true, initOut := true }
        | none => { granted := s.creditGrant d' l' vc, initIn := true, initOut := true }
      (s.onLink d (k + 2) fun x =>
        { x with vcs := vcs, peer := if seen.any (·.initIn) then x.peer else s.endpoint d' }).linkReach d (k + 2)
    else s

/-- QUIRE_RETRAIN_TIMEOUT (R266): a link that is not UP begins training again. -/
def execQuireRetrainTimeout (d k : Nat) (s : State) : Result :=
  atQuire s d k <|
    let st := s.linkState d (k + 2)
    if st == .up || st == .disabled then s else s.linkTrain d (k + 2)

/-! ### Frames and credits (R250, R251, R261 to R263) -/

/-- A frame that arrives on an UP link (R251, R261, R278): its units are seen; a bad frame is counted and its units freed,
a good one enters the port's FIFO and is counted by edition. -/
def State.frameIn (s : State) (d l port vc : Nat) (p : Packet) (crc : Word) (intact : Bool) : State :=
  let u := frameUnits p
  let s := s.onVc d l vc fun c => { c with seen := c.seen + BitVec.ofNat 32 u }
  if !intact then (s.count (linkPage d l) Ctr.linkCrcDiscards).freeUnits d port vc u
  else if crc == linkCrc p then
    let s := ((s.count (linkPage d l) Ctr.linkFramesReceived).item (linkPage d l) srcWire).item (routerPage d)
      ((linkPage d l).off / 4096)
    let p := if l < 2 && bit (s.reg (linkPage d l) 0x100) 30 then { p with edition := s.injectEdition d } else p
    ((s.editionCount d p.edition (· + 1)).onRouter d fun r =>
      { r with fifos := modifyAt r.fifos port (· ++ [⟨p, port, vc, u, none⟩]) }).noteOccupancy d
  else if crc == ~~~ linkCrc p then (s.count (linkPage d l) Ctr.linkStompedDiscards).freeUnits d port vc u
  else (s.count (linkPage d l) Ctr.linkCrcDiscards).freeUnits d port vc u

/-- FRAME_RECEIVE (R251). -/
def execFrameReceive (d port vc : Nat) (p : Packet) (crc : Word) (intact : Bool) (s : State) : Result :=
  atLink s d port fun l =>
    if s.linkState d l == .up && decide (vc < linkVcs l) then s.frameIn d l port vc p crc intact else s

/-! ### Markers on links (R640, R641) -/

/-- Whether colophon markers cross a link (R640). -/
def State.markersCross (s : State) (d l : Nat) : Bool :=
  s.linkState d l == .up && (decide (2 ≤ l) || bit (s.reg (linkPage d l) 0x100) 29)

/-- Virtual channels of a link whose CREDIT_GRANT is nonzero (R641). -/
def State.markerVcs (s : State) (d l : Nat) : List Nat := (List.range (linkVcs l)).filter fun vc => s.creditGrant d l vc != 0

/-- The COLOPHON_MARKER packet of a number on a link (R640). -/
def State.markerPacket (s : State) (d l : Nat) (n : Word) : Packet :=
  ownPacket (s.endpoint d) ((s.die d).link l).peer 0 ptMarker
    (toBE 4 n.toNat ++ toBE 4 (s.die d).capOrigin ++ toBE 8 (s.die d).capTrigger.toNat)

/-- Markers that wait on a link and now have a unit of credit are sent, in order (R641). -/
def State.flushMarkers (s : State) (d l : Nat) : State :=
  let p := linkPage d l
  (s.cap p).waiting.foldl (fun s (w : Nat × Word) =>
    if s.credit d (portOfLink l) w.1 = 0 then s else
    let c := s.cap p
    (s.setCap p { c with waiting := c.waiting.erase w }).sendFrame d l w.1 (s.markerPacket d l w.2)) s

/-- A marker of number `n` sent on every virtual channel of a link (R641). -/
def State.sendMarkers (s : State) (d l : Nat) (n : Word) : State :=
  if !s.markersCross d l then s else
  let p := linkPage d l
  let c := s.cap p
  (s.setCap p { c with waiting := c.waiting ++ (s.markerVcs d l).map fun vc => (vc, n) }).flushMarkers d l

/-- CREDIT (R262). -/
def execCredit (d port vc : Nat) (freed : Word) (s : State) : Result :=
  atLink s d port fun l =>
    if s.linkState d l == .up then (s.onVc d l vc fun c => { c with peerFreed := freed }).flushMarkers d l else s

/-- SYNC (R263): units sent and not seen are added to those freed, and counted. -/
def execSync (d port vc : Nat) (sent : Word) (s : State) : Result :=
  atLink s d port fun l =>
    match ((s.die d).link l).vcs[vc]? with
    | some c =>
      if s.linkState d l == .up && before c.seen sent then
        (s.onVc d l vc fun c => { c with freed := c.freed + (sent - c.seen), seen := sent }).count (linkPage d l)
          Ctr.linkCreditResyncUnits (sent - c.seen).toNat
      else s
    | none => s

/-- CREDIT_REPORT_TIMER (R262): a CREDIT word for each virtual channel whose running total is nonzero. -/
def execCreditReportTimer (d port : Nat) (s : State) : Result :=
  atLink s d port fun l =>
    if s.linkState d l == .up then
      ((s.die d).link l).vcs.zipIdx.foldl (fun s c => if c.1.freed = 0 then s else s.sendControl d l 3 c.2 c.1.freed.toNat) s
    else s

/-- SYNC_TIMER (R263): a SYNC word on each virtual channel. -/
def execSyncTimer (d port : Nat) (s : State) : Result :=
  atLink s d port fun l =>
    if s.linkState d l == .up then
      ((s.die d).link l).vcs.zipIdx.foldl (fun s c => s.sendControl d l 4 c.2 c.1.sent.toNat) s
    else s

/-! ### Alram operations (R253 to R257) -/

/-- Fields of the operation header (R253). -/
def aAddress (p : Packet) : Word64 := BitVec.ofNat 64 (be p.body 0 8)
def aTag (p : Packet) : Nat := be p.body 8 2
def aStatus (p : Packet) : Nat := bits (be p.body 8 4) 15 12
def aPartition (p : Packet) : Nat := bits (be p.body 8 4) 11 8
def aMgr (p : Packet) : Bool := bit (be p.body 8 4) 7
def aTallied (p : Packet) : Bool := bit (be p.body 8 4) 6
def aArg (p : Packet) : Nat := be p.body 12 4
def aData (p : Packet) : List Byte := p.body.drop 16

/-- The operation header of an operation of function `f` (R253). -/
def alramHeader (addr tag status f : Nat) (tallied : Bool) (arg : Nat) : List Byte :=
  toBE 8 addr ++ toBE 4 (tag * 2 ^ 16 + status * 2 ^ 12 + (f - 1) % 16 * 2 ^ 8 + b2n (f == 0) * 2 ^ 7 + b2n tallied * 2 ^ 6) ++
  toBE 4 arg

/-- The drops of R253: a reserved bit, a STATUS out of place, or no whole header. -/
def alramBad (p : Packet) (isResponse : Bool) : Bool :=
  decide (p.body.length < 16) || bits (be p.body 8 4) 5 0 != 0 || (if isResponse then decide (4 < aStatus p) else aStatus p != 0)

/-- PORT_PARTITION of an Alram port. -/
def State.portPartition (s : State) (d k : Nat) : Nat := bits (s.reg (linkPage d k) 0x100) 20 16

/-- Whether an operation names the function that its port is bound to (R255). -/
def State.alramBound (s : State) (d k : Nat) (p : Packet) : Bool :=
  let f := s.portPartition d k
  if f = 0 then aMgr p && aPartition p == 0 else !aMgr p && aPartition p + 1 == f

/-- An operation dropped and counted in OP_DROPS. -/
def State.opDrop (s : State) (d k : Nat) : State := s.count (linkPage d k) Ctr.alramOpDrops

/-- Whether a range of `n` bytes stays within 8 KiB and one 8 KiB block of addresses (R254). -/
def alramRange (a n : Nat) : Bool := decide (n ≤ 8192) && (n == 0 || a / 8192 == (a + n - 1) / 8192)

/-- The data of a write or response, where its length and tallies are right (R254). -/
def alramData (p : Packet) : Option (List Byte) :=
  if aTallied p then
    match untally (aAddress p).toNat (aData p) with
    | some (bs, true) => some bs
    | _ => none
  else some (aData p)

/-- ALRAM_WRITE (R253 to R255): checked, translated through the bound function and written whole, or dropped. -/
def execAlramWrite (d k : Nat) (p : Packet) (s : State) : Result :=
  atAlram s d k <|
    let s := s.takeLocal d p
    if alramBad p false || !s.alramBound d k p then s.opDrop d k else
    match alramData p with
    | none => s.opDrop d k
    | some bs =>
      if !alramRange (aAddress p).toNat bs.length || gaEndpoint (aAddress p) != s.endpoint d then s.opDrop d k
      else
        match s.writeWhole d 10 (s.portPartition d k) (gaOffset (aAddress p)) bs with
        | (.ok _, s) => s
        | (_, s) => s.opDrop d k

/-- The answer to a read request (R254). -/
def State.alramAnswer (s : State) (d k : Nat) (p : Packet) (status : Nat) (data : List Byte) : State :=
  let ok := status == 0
  let body := toBE 8 (aAddress p).toNat ++
    toBE 4 (aTag p * 2 ^ 16 + status * 2 ^ 12 + aPartition p * 2 ^ 8 + b2n (aMgr p) * 2 ^ 7 + b2n ok * 2 ^ 6) ++ toBE 4 0 ++
    (if ok then data ++ tallies (aAddress p).toNat data else [])
  s.sendOnLink d k (ownPacket (s.endpoint d) p.source.toNat p.tclass.toNat ptAlramReadResponse body)

/-- ALRAM_READ_REQUEST (R253 to R255). -/
def execAlramReadRequest (d k : Nat) (p : Packet) (s : State) : Result :=
  atAlram s d k <|
    let s := s.takeLocal d p
    if alramBad p false || !s.alramBound d k p || decide (255 < aTag p) then s.opDrop d k
    else if aArg p = 0 || !alramRange (aAddress p).toNat (aArg p) then (s.opDrop d k).alramAnswer d k p 3 []
    else if gaEndpoint (aAddress p) != s.endpoint d then s.alramAnswer d k p 3 []
    else
      match s.read d 10 (s.portPartition d k) (gaOffset (aAddress p)) (aArg p) with
      | (.ok bs, s) => s.alramAnswer d k p 0 bs
      | (.fault _ _, s) => s.alramAnswer d k p 4 []
      | (.denied, s) => s.alramAnswer d k p 3 []
      | (.poisoned, s) => s.alramAnswer d k p 1 []
      | (.tallyFailed, s) => s.alramAnswer d k p 2 []

/-- ALRAM_DOORBELL (R256): a doorbell for a local queue of the bound function that this die owns. -/
def execAlramDoorbell (d k : Nat) (p : Packet) (s : State) : Result :=
  atAlram s d k <|
    let s := s.takeLocal d p
    let f := s.portPartition d k
    if alramBad p false || !s.alramBound d k p then s.opDrop d k else
    match s.queue f (aTag p) with
    | some q =>
      if q.isLocal && q.owner == d then
        { s with doorbells := s.doorbells ++ [⟨f, aTag p, BitVec.ofNat 32 (aArg p)⟩] }
      else s.opDrop d k
    | none => s.opDrop d k

/-! ### Packet FIFOs and counts (R270, R272, R279, R283) -/

/-- HOLD_EXPIRY (R283). -/
def execHoldExpiry (d port : Nat) (s : State) : Result :=
  atUnit s d (decide (port < 8)) <|
    if s.portState d port == .hold then (s.setPort d port .discard).reoffer d else s

/-- EDITION_COUNT_RELEASE (R279). -/
def execEditionCountRelease (d : Nat) (edition : Bool) (s : State) : Result :=
  atDie s d <|
    if ((s.die d).router.leaving[b2n edition]?).getD 0 = 0 then s
    else (s.onRouter d fun r => { r with leaving := modifyAt r.leaving (b2n edition) (· - 1) }).editionCount d edition (· - 1)

/-- The packets of a list gone from FIFO `i` of a die: units freed, and the edition count ended where the router still
held them (R262, R279). -/
def State.fifoGone (s : State) (d i : Nat) (l : List FifoPacket) : State :=
  (l.foldl (fun s x =>
    let s := s.freeUnits d x.port x.vc x.units x.origin
    if i = 8 then s else s.editionCount d x.pkt.edition (· - 1)) s).noteOccupancy d

/-- FIFO_POINTER_MISMATCH (R272): every entry of the FIFO is discarded, counted and captured. -/
def execFifoPointerMismatch (d fifo : Nat) (s : State) : Result :=
  atUnit s d (decide (fifo < 9)) <|
    let l := ((s.die d).router.fifos[fifo]?).getD []
    let s := s.onRouter d fun r => { r with fifos := r.fifos.set fifo [] }
    (((s.fifoGone d fifo l).count (routerPage d) Ctr.router0FifoResets).error (routerPage d) 0x0103)

/-- DROP_REST (R270): the packet being read is discarded. -/
def execDropRest (d fifo : Nat) (s : State) : Result :=
  atUnit s d (decide (fifo < 9)) <|
    let l := ((s.die d).router.fifos[fifo]?).getD []
    (s.onRouter d fun r => { r with fifos := r.fifos.set fifo (l.drop 1) }).fifoGone d fifo (l.take 1)

end Sys2Proof.Machine
end

