-- ==== Sys2Proof/Machine/Ethernet.lean ====
section
/-!
DEFINITION. The Ethernet ports (R294 to R318): link states, frames received and their checks, admission to the ingress
pool, pauses, PTP frames, and the frame that carries a packet out.
-/

namespace Sys2Proof.Machine

/-! ### Link states (R298, R299) -/

/-- Whether a port of the group is UP. -/
def State.ethUp (s : State) (d k : Nat) : Bool := (s.ethPort d k).state == .up

/-- The ports of the group that are UP, in ascending order. -/
def State.ethUpPorts (s : State) (d : Nat) : List Nat := (List.range 4).filter (s.ethUp d)

/-- A port of the mode of a die, by its number (R294). -/
def atEth (s : State) (d k : Nat) (r : State) : Result := atUnit s d (decide (k < s.ethPorts d)) r

/-- ENABLE of an Ethernet port. -/
def State.ethEnabled (s : State) (d k : Nat) : Bool := bit (s.reg (ethPage d k) 0x100) 31

/-- The lanes of a port in the mode of its die, as a mask (R294). -/
def State.ethLanes (s : State) (d k : Nat) : Nat :=
  let n := 8 / max 1 (s.ethPorts d)
  (2 ^ n - 1) * 2 ^ (n * k)

/-- A port starts training (R298). -/
def State.ethTrain (s : State) (d k : Nat) : State :=
  s.onEth d k fun x => { x with state := .training, reversed := false, lanes := 0 }

/-- A port leaves its state for DOWN, and at once for TRAINING or DISABLED; leaving UP stops its pauses, and takes router
port 2 down with the last port of the group (R298, R299, R318). -/
def State.ethDrop (s : State) (d k : Nat) (fault enabled : Bool) : State :=
  let up := s.ethUp d k
  let s := s.onEth d k fun x =>
    { x with state := if enabled then .training else .disabled, reversed := false, lanes := 0, remoteFault := fault
             pausing := 0, rxPause := List.replicate 8 0 }
  if up then
    let s := (s.count (ethPage d k) Ctr.ethPortLinkDowns).raise (ethPage d k) 1
    if (s.ethUpPorts d).isEmpty then s.portDown d 2 else s
  else s

/-- ETH_TRAINING_DONE (R298). -/
def execEthTrainingDone (d k : Nat) (reversed : Bool) (s : State) : Result :=
  atEth s d k <|
    if (s.ethPort d k).state == .training then s.onEth d k fun x => { x with state := .align, reversed := reversed } else s

/-- ETH_TRAINING_TIMEOUT (R298): training restarts. -/
def execEthTrainingTimeout (d k : Nat) (s : State) : Result :=
  atEth s d k <| if (s.ethPort d k).state == .training then s.ethTrain d k else s

/-- ETH_ALIGN_TIMEOUT (R298). -/
def execEthAlignTimeout (d k : Nat) (s : State) : Result :=
  atEth s d k <| if (s.ethPort d k).state == .align then s.ethDrop d k false (s.ethEnabled d k) else s

/-- ETH_ALIGN_LOCK (R298, R299). -/
def execEthAlignLock (d k : Nat) (s : State) : Result :=
  atEth s d k <|
    if (s.ethPort d k).state == .align then
      let first := (s.ethUpPorts d).isEmpty
      let s := (s.onEth d k fun x => { x with state := .up, lanes := s.ethLanes d k, remoteFault := false }).raise
        (ethPage d k) 2
      if first then s.portUp d 2 else s
    else s

/-- ETH_LINK_DOWN (R298, R303). -/
def execEthLinkDown (d k : Nat) (remoteFault : Bool) (s : State) : Result :=
  atEth s d k <| if s.ethUp d k then s.ethDrop d k remoteFault (s.ethEnabled d k) else s

/-- PORT_CTL.ENABLE written (R298). -/
def State.enableEth (s : State) (d k : Nat) (enable : Bool) : State :=
  let p := ethPage d k
  let s' := s.setReg p 0x100 (setBits (s.reg p 0x100) 31 31 (b2n enable))
  if enable then (if (s.ethPort d k).state == .disabled then s'.ethTrain d k else s')
  else if (s.ethPort d k).state == .disabled then s' else s'.ethDrop d k false false

/-- PORT_ENABLE (R298): a write of PORT_CTL.ENABLE. -/
def execPortEnable (d k : Nat) (enable : Bool) (s : State) : Result :=
  atEth s d k <| s.fromFn 0 <| s.guarded (ethPage d k) (s.enableEth d k enable)

/-! ### Pauses (R311 to R315) -/

/-- PAUSE_QUANTA / 2 quanta after a port last paused a priority, it pauses it again while U stays above XON (R312). -/
def execPfcRepeat (d k p : Nat) (s : State) : Result :=
  atUnit s d (decide (k < s.ethPorts d ∧ p < 8)) <|
    if s.pausing d k p && s.lossless d k p && decide (s.xon d k p < s.usage d k p) then s.sendPfc d k p (s.quanta d k) else s

/-- A received PFC frame applied (R314). -/
def State.takePfc (s : State) (d k : Nat) (vector : Nat) (times : List Nat) : State :=
  (s.onEth d k fun x => { x with
    rxPause := x.rxPause.zipIdx.map fun t =>
      if bit vector t.2 && s.lossless d k t.2 then (times[t.2]?).getD 0 else t.1 }).count (ethPage d k) Ctr.ethPortRxPfcFrames

/-- PFC_FRAME (R314): a port that is UP receives a PFC frame. -/
def execPfcFrame (d k : Nat) (vector : Byte) (times : List (BitVec 16)) (s : State) : Result :=
  atEth s d k <| if s.ethUp d k then s.takePfc d k vector.toNat (times.map BitVec.toNat) else s

/-- PAUSE_TIMER_EXPIRY (R314). -/
def execPauseTimerExpiry (d k p : Nat) (s : State) : Result :=
  atUnit s d (decide (k < s.ethPorts d ∧ p < 8)) <| s.onEth d k fun x => { x with rxPause := x.rxPause.set p 0 }

/-- The reservation of the lossless priorities of every port present, in KiB, where `f` gives PFC_EN, XOFF and HEADROOM
of a port and priority (R311). -/
def reservation (ports : Nat) (f : Nat → Nat → Bool × Nat × Nat) : Nat :=
  ((List.range ports).flatMap fun k => (List.range 8).map fun p => if (f k p).1 then (f k p).2.1 + (f k p).2.2 else 0).sum

/-- What a port's registers give the reservation. -/
def State.reserve (s : State) (d k p : Nat) : Bool × Nat × Nat :=
  (s.lossless d k p, s.xoff d k p / 1024, s.headroom d k p / 1024)

/-- ETH_POOL.KIB. -/
def State.ethPool (s : State) (d : Nat) : Nat := bits (s.reg (ethGroupPage d) 0x104) 15 0

/-- PFC_CTL written (R311, R315). -/
def State.writePfc (s : State) (d k value : Nat) : State :=
  let p := ethPage d k
  let v := value &&& 0xFFFF00FF
  let r := reservation (s.ethPorts d) fun j q => if j = k then (bit v q, (s.reserve d j q).2) else s.reserve d j q
  if bits v 31 16 < 2 then s.refuse p 0x0100
  else if s.ethPool d < r then s.refuse p 0x0101
  else
    ((List.range 8).filter fun q => s.pausing d k q && s.lossless d k q && !bit v q).foldl
      (fun s q => (s.sendPfc d k q 0).setPausing d k q false) (s.setReg p 0x10C v)

/-- PFC_CTL_WRITE (R311, R315). -/
def execPfcCtlWrite (d k : Nat) (value : Word) (s : State) : Result :=
  atEth s d k <| s.fromFn 0 <| s.guarded (ethPage d k) (s.writePfc d k value.toNat)

/-! ### Frames received (R307 to R310, R316, R317) -/

/-- The 16-bit ones'-complement checksum of RFC 768 over bytes. -/
def onesSum (bs : List Byte) : Nat :=
  let t := ((pieces 2 bs).map fun w => fromBE (if w.length = 1 then w ++ [0] else w)).sum
  let t := t / 65536 + t % 65536
  65535 - (t / 65536 + t % 65536) % 65536

/-- The UDP checksum over the pseudo-header of RFC 8200 and the datagram. -/
def udpSum (src dst udp : List Byte) : Nat := onesSum (src ++ dst ++ toBE 4 udp.length ++ toBE 4 17 ++ udp)

/-- Whether a frame is a PTP frame (R316). -/
def isPtp (fr : List Byte) : Bool :=
  (be fr 12 2 == 0x88F7 && (be fr 0 6 == 0x011B19000000 || be fr 0 6 == 0x0180C200000E)) ||
  (be fr 12 2 == 0x86DD && be fr 20 1 == 17 && (be fr 56 2 == 319 || be fr 56 2 == 320))

/-- Whether a PTP frame carries an event message (R317). -/
def isPtpEvent (fr : List Byte) : Bool :=
  if be fr 12 2 = 0x88F7 then decide (be fr 14 1 % 16 < 4) else be fr 56 2 == 319

/-- A PTP frame taken to the timestamp path (R316, R317). -/
def State.takePtp (s : State) (d k : Nat) (fr : List Byte) (stamp : Nat) : State :=
  let p := ethPage d k
  let s := if isPtpEvent fr then s.count p Ctr.ethPortPtpRxTimestamps else s
  if (s.ethPort d k).ptp.length < 64 then
    s.onEth d k fun x => { x with ptp := x.ptp ++ [(fr, if isPtpEvent fr then some stamp else none)] }
  else (s.count p Ctr.ethPortPtpDrops).raise p 4

/-- PTP_FRAME (R316): with PTP_EN at 0 a PTP frame is dropped by the checks of R307. -/
def execPtpFrame (d k : Nat) (frame : List Byte) (stamp : Nat) (s : State) : Result :=
  atEth s d k <|
    if s.ethUp d k && bit (s.reg (ethPage d k) 0x100) 29 && isPtp frame then s.takePtp d k frame stamp else s

/-- Whether a filter table of a port holds an address (R307). -/
def State.filterHit (s : State) (d k base n a : Nat) : Bool :=
  (List.range n).any fun i =>
    let r := s.reg (ethPage d k) (base + 8 * i)
    bit r 63 && r % 2 ^ 48 == a

/-- RX_DSCP_MAP entry of a DSCP (R308). -/
def State.dscpPriority (s : State) (d dscp : Nat) : Nat :=
  s.reg (ethGroupPage d) (0x140 + 4 * (dscp / 8)) / 16 ^ (dscp % 8) % 8

/-- Whether the pool admits a frame of `n` bytes (R310). -/
def State.admits (s : State) (d k p n : Nat) : Bool :=
  if s.lossless d k p then decide (s.usage d k p + n ≤ s.xoff d k p + s.headroom d k p)
  else
    let all := (List.range (s.ethPorts d)).flatMap fun j => (List.range 8).map fun q => (j, q)
    let used := (all.map fun x => s.usage d x.1 x.2).sum
    let spare := (all.map fun x =>
      if s.lossless d x.1 x.2 then s.xoff d x.1 x.2 + s.headroom d x.1 x.2 - s.usage d x.1 x.2 else 0).sum
    decide (s.usage d k p + n ≤ s.xoff d k p) && decide (used + n + spare ≤ s.ethPool d * 1024)

/-- Checks 6 to 9 of R307, as the counter of the first that fails. -/
def State.ethCheck (s : State) (d : Nat) (fr : List Byte) : Option Nat :=
  let plen := be fr 18 2
  let udp := fr.drop 54
  let sum := be fr 60 2
  let h := parseHeader (slice fr 62 16) (fr.drop 78)
  if be fr 12 2 ≠ 0x86DD then some Ctr.ethPortRxEthertypeDrops
  else if fr.length < 54 ∨ be fr 14 1 / 16 ≠ 6 ∨ be fr 20 1 ≠ 17 ∨ 54 + plen ≠ fr.length ∨
      be fr 38 8 ≠ s.reg (ethGroupPage d) 0x110 ∨ 2 ^ 18 ≤ be fr 46 8 then some Ctr.ethPortRxIpDrops
  else if fr.length < 62 ∨ be fr 56 2 ≠ bits (s.reg (ethGroupPage d) 0x108) 15 0 ∨ be fr 58 2 ≠ plen ∨ sum = 0 ∨
      udpSum (slice fr 22 16) (slice fr 38 16) udp ≠ 0 then some Ctr.ethPortRxUdpDrops
  else if fr.length < 78 ∨ be fr 46 8 ≠ h.dest.toNat ∨
      !(h.ptype == ptBrevefold || h.ptype == ptChunk || h.ptype == ptPoisonNotice || h.ptype == ptFabricMgmt) then
    some Ctr.ethPortRxTypeDrops
  else none

/-- An admitted packet enters the input FIFO of router port 2, with the edition of injection (R278, R305, R307). -/
def State.ethAdmit (s : State) (d k p : Nat) (fr : List Byte) : State :=
  let n := fr.length + 4
  let ecn := bits (be fr 14 4) 21 20
  let h := parseHeader (slice fr 62 16) (fr.drop 78)
  let h := { h with edition := s.injectEdition d, ce := h.ce || ecn == 3 }
  let pg := ethPage d k
  let s := ((s.count pg Ctr.ethPortRxFramesOk).count pg Ctr.ethPortRxBytesOk n).count pg (Ctr.ethPortRxFramesPrio + p)
  let s := if ecn = 3 then s.count pg Ctr.ethPortRxEcnCe else s
  let s := (s.editionCount d h.edition (· + 1)).onRouter d fun r =>
    { r with fifos := modifyAt r.fifos 2 (· ++ [⟨h, 2, 8 * k + p, n, none⟩]) }
  (s.useAdd d k p n).noteOccupancy d

/-- ETH_FRAME_RECEIVE (R307): the ten checks in order, for a frame without its frame check sequence. -/
def execEthFrameReceive (d k : Nat) (frame : List Byte) (fcs : Word) (intact : Bool) (s : State) : Result :=
  atEth s d k <|
    let pg := ethPage d k
    let n := frame.length + 4
    let dst := be frame 0 6
    if !s.ethUp d k then s
    else if !intact || fcs != crc32 frame then s.count pg Ctr.ethPortRxFcsErrors
    else if n < 64 ∨ bits (s.reg pg 0x108) 13 0 < n then s.count pg Ctr.ethPortRxLengthErrors
    else if bit (s.reg pg 0x100) 29 && isPtp frame then
      s.takePtp d k frame ((s.die d).time.ns.toNat * 65536 + (s.die d).time.frac)
    else if !(s.filterHit d k 0x120 8 dst || s.filterHit d k 0x160 4 dst || dst == 0x0180C2000001) then
      s.count pg Ctr.ethPortRxFilterDrops
    else if be frame 12 2 = 0x8808 then
      if be frame 14 2 = 0x0101 then s.takePfc d k (be frame 16 2) ((List.range 8).map fun i => be frame (18 + 2 * i) 2)
      else s.count pg Ctr.ethPortRxControlDrops
    else
      match s.ethCheck d frame with
      | some c => s.count pg c
      | none =>
        let p := s.dscpPriority d (bits (be frame 14 4) 27 22)
        if s.admits d k p n then s.ethAdmit d k p frame
        else s.count pg (if s.lossless d k p then Ctr.ethPortPfcHeadroomDrops else Ctr.ethPortRxBufferDrops)

/-! ### Frames sent (R301 to R305) -/

/-- The entropy of a packet (R301). -/
def entropy (p : Packet) : Nat :=
  let dst := p.dest.toNat % 16384
  if p.ptype = ptBrevefold then
    let q := bits (be p.body 0 4) 31 14
    (q % 16384) ^^^ (q / 16384) ^^^ dst
  else if p.ptype = ptChunk then (p.groupId.toNat % 16384) ^^^ dst
  else dst

/-- The Ethernet port by which a packet leaves (R302). -/
def State.ethPortFor (s : State) (d : Nat) (p : Packet) : Option Nat :=
  let up := s.ethUpPorts d
  up[entropy p % max 1 up.length]?

/-- TX_DSCP of a class. -/
def State.txDscp (s : State) (d c : Nat) : Nat :=
  s.reg (ethGroupPage d) (if c < 4 then 0x118 else 0x11C) / 256 ^ (c % 4) % 64

/-- The frame of a packet, without its frame check sequence (R304, R305). -/
def State.ethFrame (s : State) (d k : Nat) (p : Packet) : List Byte :=
  let e := entropy p
  let n := 24 + p.length.toNat
  let prefix_ := toBE 8 (s.reg (ethGroupPage d) 0x110)
  let src := prefix_ ++ toBE 8 (s.endpoint d)
  let dst := prefix_ ++ toBE 8 p.dest.toNat
  let head := toBE 2 (49152 ||| e) ++ toBE 2 (bits (s.reg (ethGroupPage d) 0x108) 15 0) ++ toBE 2 n
  let rest := headerBytes p ++ p.body
  let sum := udpSum src dst (head ++ [0, 0] ++ rest)
  s.mac d k 0x110 ++ s.mac d k 0x120 ++ [0x86, 0xDD] ++
  toBE 4 (6 * 2 ^ 28 + (s.txDscp d p.tclass.toNat * 4 + (if p.ce then 3 else 2)) * 2 ^ 20 + e) ++ toBE 2 n ++ [17] ++
  toBE 1 (bits (s.reg (ethGroupPage d) 0x10C) 7 0) ++ src ++ dst ++ head ++ toBE 2 (if sum = 0 then 65535 else sum) ++ rest

end Sys2Proof.Machine
end

