-- ==== Sys2Proof/Machine/QueueExec.lean ====
section
/-!
DEFINITION. Queues at work (R79 to R151): doorbells, descriptor fetch, the beginning and the completion of descriptors,
ledger channels and read-backs, disable and enable, and the staging and copy opcodes.
-/

namespace Sys2Proof.Machine

/-! ### Doorbells (R79 to R85, R111) -/

/-- DOORBELL_WRITE (R67, R68, R80, R82): checked and passed on, or dropped and counted. -/
def execDoorbellWrite (f off size : Nat) (value : Word) (s : State) : Result :=
  atFn s f <| s.fromFn f <|
    if size != 4 || off % 8 != 0 || decide (524288 ≤ off) || (s.fn f).phase != .opened || (s.queue f (off / 8)).isNone then
      s.count pciePage Ctr.pcieDoorbellDrops
    else { s with doorbells := s.doorbells ++ [⟨f, off / 8, value⟩] }

/-- A doorbell's value applied to a RUNNING queue (R84, R111). -/
def State.applyDoorbell (s : State) (f q : Nat) (x : Queue) (v : Word) : State :=
  let p := queuePage x.owner f
  if x.arrival then
    if (v - x.head).toNat ≤ (x.tail - x.head).toNat then
      let gone := x.receipts.filter fun r => (r.1 - x.head).toNat < (v - x.head).toNat
      let s := s.setQueue f q { x with
        head := v, receipts := x.receipts.filter fun r => !decide ((r.1 - x.head).toNat < (v - x.head).toNat) }
      (gone.foldl (fun s r => s.releaseSlot (some r.2)) s).count p Ctr.queuePageDoorbellsAccepted
    else s.stopQueue f q causeOverrun 0 v
  else if (v - x.head).toNat ≤ 2 ^ x.log2 ∧ (x.tail - x.head).toNat ≤ (v - x.head).toNat then
    (s.setQueue f q { x with tail := v }).count p Ctr.queuePageDoorbellsAccepted
  else s.stopQueue f q causeOverrun 0 v

/-- DOORBELL_ADMISSION (R111, R134, R151): the oldest doorbell of a queue reaches its queue manager. -/
def execDoorbellAdmission (f q : Nat) (s : State) : Result :=
  atFn s f <|
    match s.doorbells.find? fun b => b.fn == f && b.q == q with
    | none => s
    | some b =>
      let s := { s with doorbells := s.doorbells.erase b }
      match s.queue f q with
      | none => s.count pciePage Ctr.pcieDoorbellDrops
      | some x =>
        if x.state == .running then s.applyDoorbell f q x b.index
        else s.setQueue f q { x with recorded := some b.index }

/-! ### Fetch (R123 to R129) -/

/-- The index that the queue manager fetches next: the lowest at or above the next to begin, below tail and less than 32
ahead, that is neither fetched nor being fetched. A slot found stale is fetched again once it is the next to begin, unless
its refetches run (R126). -/
def Queue.fetchIndex (x : Queue) : Option Word :=
  let n := min 32 (x.tail - x.next).toNat
  ((List.range n).map fun i => x.next + BitVec.ofNat 32 i).find? fun i =>
    !x.fetching.contains i && (x.stale.map StaleRun.index) != some i &&
    !(x.slots.any fun t => t.index == i && !(i == x.next && t.kind == .stale))

/-- DESCRIPTOR_FETCH (R123): one run-ahead item of a RUNNING submission queue. -/
def execDescriptorFetch (f q : Nat) (s : State) : Result :=
  atFn s f <|
    match s.queue f q with
    | none => s
    | some x =>
      if x.arrival || x.state != .running || (s.fn f).phase != .opened then s else
      match x.fetchIndex with
      | none => s
      | some i =>
        let s := s.setQueue f q { x with fetching := x.fetching ++ [i], slots := x.slots.filter fun t => t.index != i }
        if x.isLocal then s else s.emit (.hostRead f (x.base + BitVec.ofNat 64 (ringOffset x.log2 i)) 64)

/-- How a fetched slot is judged (R125). -/
def judge (x : Queue) (i : Word) (bs : List Byte) : SlotKind :=
  let g := le bs 1 1
  if g = gen x.log2 i ∧ !bit (le bs 0 4) 16 then .current
  else if g = (gen x.log2 i + 255) % 256 then .stale
  else .malformed 0

/-- A fetched slot that the queue manager has read (R125, R126): kept, or discarded as stale, when it starts or continues
the refetches of the next index to begin. The eighth stale refetch stops the queue. -/
def State.slotRead (s : State) (f q : Nat) (x : Queue) (i : Word) (bs : List Byte) : State :=
  let x := { x with fetching := x.fetching.erase i }
  let isRun := (x.stale.map StaleRun.index) == some i
  match judge x i bs with
  | .stale =>
    if i != x.next then s.setQueue f q { x with slots := x.slots ++ [⟨i, bs, .stale⟩] }
    else
      match x.stale with
      | some r =>
        if isRun && r.returned + 1 == 8 then (s.setQueue f q x).stopQueue f q causeStale 0 i
        else s.setQueue f q { x with stale := some (if isRun then { r with returned := r.returned + 1 }
                                                    else ⟨i, 0, 0, s.now⟩) }
      | none => s.setQueue f q { x with stale := some ⟨i, 0, 0, s.now⟩ }
  | k =>
    if x.slots.any (fun t => t.index == i && t.kind != .stale) then s.setQueue f q x
    else
      s.setQueue f q { x with stale := if isRun then none else x.stale
                              slots := x.slots.filter (fun t => t.index != i) ++ [⟨i, bs, k⟩] }

/-- A fetch that returns (R123, R129): the bytes that a host read gave, or what a local ring's slot holds. -/
def State.fetchReturn (s : State) (f q : Nat) (i : Word) (slot : List Byte) : State :=
  match s.queue f q with
  | none => s
  | some x =>
    if !x.fetching.contains i then s
    else if x.isLocal then
      match s.readRing x.owner f (gaOffset (x.base + BitVec.ofNat 64 (ringOffset x.log2 i))) 64 with
      | (.ok bs, s) => s.slotRead f q x i bs
      | (_, s) => s.stopQueue f q causeRing 0 i
    else s.slotRead f q x i slot

/-- STALE_REFETCH (R126): refetch `k` of the slot that is being refetched. -/
def execStaleRefetch (f q : Nat) (k : Nat) (s : State) : Result :=
  atFn s f <|
    match s.queue f q with
    | none => s
    | some x =>
      match x.stale with
      | none => s
      | some r =>
        if x.state != .running || k != r.issued + 1 || decide (8 < k) then s else
        let s := s.setQueue f q { x with stale := some { r with issued := k }, fetching := x.fetching ++ [r.index] }
        let s := s.count (queuePage x.owner f) Ctr.queuePageStaleRefetches
        if x.isLocal then s else s.emit (.hostRead f (x.base + BitVec.ofNat 64 (ringOffset x.log2 r.index)) 64)

/-- How a failed read of host memory is reported (R73); an error completion is its completer's to report. -/
def HostReadFault.aer : HostReadFault → Option AerError
  | .poisoned => some .poisonedTlp
  | .timeout => some .completionTimeout
  | .errorCompletion => none

/-- HOST_READ_ERROR (R73, R74): a host-memory read for a queue failed, and the queue stops. -/
def execHostReadError (f q : Nat) (index : Word) (cause : HostReadFault) (s : State) : Result :=
  atFn s f <|
    match s.queue f q with
    | none => s
    | some x =>
      let s := { s with execs := s.execs.filter fun e => !e.is f q index }
      let s := s.count pciePage Ctr.pcieHostReadErrors
      let s := match HostReadFault.aer cause with
        | some e => s.emit (.aer f e)
        | none => s
      if x.state == .error then s else s.stopQueue f q causeHostFetch 0 index

/-! ### Beginning a descriptor (R124, R144, R541) -/

/-- The slot that is next to begin, where the queue may begin one: RUNNING, its function OPEN and not on HOLD, FENCE met,
and on an admin queue no command in execution. -/
def State.nextSlot (s : State) (f q : Nat) : Option (Queue × Slot) :=
  match s.queue f q with
  | none => none
  | some x =>
    match x.slots.find? fun t => t.index == x.next with
    | none => none
    | some t =>
      if x.state == .running && !x.arrival && t.kind == .current && (s.fn f).phase == .opened &&
          (!(s.fn f).hold || (f == 0 && q == 0)) &&
          (!dFence t.bytes || x.head == x.next) && (q != 0 || !s.execs.any fun e => e.fn == f && e.q == 0) then
        some (x, t)
      else none

/-- A descriptor begins execution (R24, R124): its slot is taken and it is counted. -/
def State.beginSlot (s : State) (f q : Nat) (x : Queue) (t : Slot) : State :=
  let s := s.setQueue f q { x with next := x.next + 1, slots := x.slots.filter fun u => u.index != t.index }
  let s := { s with execs := s.execs ++ [({ fn := f, q := q, index := t.index, desc := t.bytes } : Exec)] }
  s.count (queuePage x.owner f) Ctr.queuePageDescriptorsExecuted

/-- Form of the fields that every descriptor of a submission queue shares (R112, R113, R127): offset of the first field
that offends, up to LENGTH, whose range is given. -/
def headForm (d : List Byte) (early : Bool) (maxLen : Nat) (zeroLen : Bool) : Option Nat :=
  let w := le d 0 4
  if bits w 31 21 != 0 || (bit w 19 && !early) then some 0
  else if bits (le d 4 4) 31 18 != 0 then some 4
  else if (if zeroLen then dLength d != 0 else dLength d == 0 || decide (maxLen < dLength d)) then some 0x18
  else none

/-- The first offence of two lists of checks: by offset. -/
def firstOffence (l : List (Option Nat)) : Option Nat :=
  l.foldl (fun a b => match a, b with
    | none, b => b
    | a, none => a
    | some x, some y => some (min x y)) none

/-- An offence at an offset where `bad` holds. -/
def offence (bad : Bool) (o : Nat) : Option Nat := if bad then some o else none

/-- OP_ARGS must be zero (R112). -/
def noArgs (d : List Byte) : Option Nat := offence (!allZero (slice d 0x30 16)) 0x30

/-- Form of the opcodes of this chapter (R112 to R114) and of LOCAL_COPY (R365). -/
def formNop (d : List Byte) : Option Nat := firstOffence [headForm d false 0 true, noArgs d]
def formStage (d : List Byte) : Option Nat := firstOffence [headForm d false 1048576 false, noArgs d]
def formCopy (d : List Byte) : Option Nat :=
  let a := gaOffset (dSrc d)
  let b := gaOffset (dDst d)
  let n := dLength d
  firstOffence [headForm d false 0x80000000 false, noArgs d,
    offence (decide (n ≤ 0x80000000 ∧ a < b + n ∧ b < a + n)) 0x10]

/-- Form of an admin entry (R143). -/
def formAdmin (d : List Byte) : Option Nat :=
  firstOffence [offence (bits (le d 0 4) 31 21 != 0 || dEarly d || dFlush d) 0, offence (!allZero (slice d 4 4)) 4,
    offence (!allZero (slice d 0x38 8)) 0x38]

/-! ### Staging and copies (R114, R364 to R366) -/

/-- The die of the package that has an endpoint ID. -/
def State.dieOf (s : State) (e : Nat) : Option Nat := s.dieList.find? fun d => s.hasEndpoint d && s.endpoint d == e

/-- Bytes up to the next 4 KiB boundary of either of two addresses, at most `n`. -/
def pieceLen (a b n : Nat) : Nat := min n (min (4096 - a % 4096) (4096 - b % 4096))

/-- How a copy stands: done, waiting on the fault of an offset of a die, or ended with a status. -/
inductive CopyOut where
  | done (moved : Nat)
  | fault (moved die kind offset : Nat) (isWrite : Bool)
  | stop (status : Nat)
  deriving DecidableEq, Repr

/-- The end of a copy by the outcome of one access. -/
def copyStop : MemOut → Nat → Nat → Bool → CopyOut
  | .fault k o, moved, d, w => .fault moved d k o w
  | .poisoned, _, _, _ => .stop 5
  | .tallyFailed, _, _, _ => .stop 6
  | _, _, _, _ => .stop 0xA

/-- The die physical address of an offset, for the queue manager's engine; none where no leaf translates it. -/
def State.placed (s : State) (d f off : Nat) : Option Nat :=
  match s.cached d 8 f off with
  | some t => some (t.pa off)
  | none =>
    match (s.walk d f off false).1 with
    | .found t => some (t.pa off)
    | _ => none

/-- The physical ranges of an offset range, cut at the smallest page size of 32 MiB (R332): first byte, and the one after
the last. -/
def State.spans (s : State) (d f off n : Nat) : List (Nat × Nat) :=
  (List.range ((off % 2 ^ 25 + n + (2 ^ 25 - 1)) / 2 ^ 25)).filterMap fun j =>
    let a := max off ((off / 2 ^ 25 + j) * 2 ^ 25)
    (s.placed d f a).map fun p => (p, p + (min (off + n) ((off / 2 ^ 25 + j + 1) * 2 ^ 25) - a))

/-- Whether two offset ranges overlap through aliased frames (R365). -/
def State.aliased (s : State) (d f src dst n : Nat) : Bool :=
  (s.spans d f src n).any fun x => (s.spans d f dst n).any fun y => x.1 < y.2 && y.1 < x.2

/-- What a copy inside one die writes of the bytes that it has read, from byte `moved` of it on: them, or free bytes where the
ranges overlap through aliased frames (R365). -/
def copied (overlap : Bool) (src dst moved : Nat) (bs : List Byte) : List Byte :=
  if overlap then (List.range bs.length).map fun i => Config.aliasedByte src dst (moved + i) else bs

/-- A copy inside one die, in ascending address order, from byte `moved` on (R364, R366). -/
def State.copyFrom (overlap : Bool) (d f src dst n : Nat) : Nat → Nat → State → CopyOut × State
  | 0, moved, s => (.done moved, s)
  | fuel + 1, moved, s =>
    if n ≤ moved then (.done n, s) else
    let k := pieceLen (src + moved) (dst + moved) (n - moved)
    match s.read d 8 f (src + moved) k with
    | (.ok bs, s) =>
      match s.write d 8 f (dst + moved) (copied overlap src dst moved bs) with
      | (.ok _, s) => State.copyFrom overlap d f src dst n fuel (moved + k) s
      | (m, s) => (copyStop m moved d true, s)
    | (m, s) => (copyStop m moved d false, s)

/-- A copy inside one die (R364 to R366). -/
def State.copyLocal (d f src dst n fuel moved : Nat) (s : State) : CopyOut × State :=
  State.copyFrom (s.aliased d f src dst n) d f src dst n fuel moved s

/-- Host data written to a die's memory, from byte `moved` on (R114, R485). -/
def State.copyIn (d f dst : Nat) (data : List Byte) : Nat → Nat → State → CopyOut × State
  | 0, moved, s => (.done moved, s)
  | fuel + 1, moved, s =>
    if data.length ≤ moved then (.done data.length, s) else
    let k := pieceLen (dst + moved) 0 (data.length - moved)
    match s.write d 8 f (dst + moved) (slice data moved k) with
    | (.ok _, s) => State.copyIn d f dst data fuel (moved + k) s
    | (m, s) => (copyStop m moved d true, s)

/-- Data of a die's memory written to host memory, from byte `moved` on (R90, R114). -/
def State.copyOut (d f src : Nat) (ledger : Option Nat) (host : Word64) (n : Nat) : Nat → Nat → State → CopyOut × State
  | 0, moved, s => (.done moved, s)
  | fuel + 1, moved, s =>
    if n ≤ moved then (.done n, s) else
    let k := pieceLen (src + moved) 0 (n - moved)
    match s.read d 8 f (src + moved) k with
    | (.ok bs, s) =>
      State.copyOut d f src ledger host n fuel (moved + k)
        (s.hostWrite f ledger ⟨host + BitVec.ofNat 64 moved, bs, none, true⟩)
    | (m, s) => (copyStop m moved d false, s)

/-- A copy in execution runs on from where it stands: to its end, or to a fault on which it waits (R352, R366). -/
def State.runCopy (s : State) (f q : Nat) (i : Word) : State :=
  match s.exec? f q i, s.queue f q with
  | some e, some x =>
    let d := e.desc
    let n := dLength d
    let op := dOpcode d
    let fuel := n / 1024 + 4
    let home := if op = 0x12 then (if s.endpoint x.owner = gaEndpoint (dSrc d) ∧ s.endpoint x.owner = gaEndpoint (dDst d)
        ∧ s.hasEndpoint x.owner then some x.owner else none)
      else s.dieOf (gaEndpoint (if op = 0x10 then dDst d else dSrc d))
    match home with
    | none => s.finish f q i stAccessDenied dtLocal 0 0
    | some die =>
      let r := if op = 0x12 then State.copyLocal die f (gaOffset (dSrc d)) (gaOffset (dDst d)) n fuel e.moved s
        else if op = 0x10 then State.copyIn die f (gaOffset (dDst d)) e.data fuel e.moved s
        else State.copyOut die f (gaOffset (dSrc d)) x.ledger (dDst d) n fuel e.moved s
      match r with
      | (.done m, s) =>
        let s := if op = 0x11 && dFlush d then
            s.onExec f q i fun e => { e with readBacks := [⟨.pcie, (dDst d + BitVec.ofNat 64 (n - 1)) &&& ~~~ 63#64, false⟩] }
          else s
        s.finish f q i stSuccess 0 m 0
      | (.fault m die k o w, s) =>
        (s.onExec f q i fun e => { e with moved := m, paused := some (die, o / 2 ^ 25) }).fault die 8 f o k w none s.now
      | (.stop st, s) => s.finish f q i st dtLocal 0 0
  | _, _ => s

/-- Copies in execution of the queues that die `d` owns. -/
def State.copiesOn (s : State) (d : Nat) : Nat :=
  (s.execs.filter fun e => dOpcode e.desc == 0x12 && e.phase == .running && e.q != 0 &&
    (match s.queue e.fn e.q with | some x => x.owner == d | none => false)).length

/-- Whether a descriptor is a copy of R114 or R364. -/
def Exec.isCopy (e : Exec) : Bool := decide (0x10 ≤ dOpcode e.desc ∧ dOpcode e.desc ≤ 0x12)

/-- The copies that wait for a page key of a function on a die run on (R353). -/
def State.retryCopies (s : State) (d f key : Nat) : State :=
  (s.execs.filter fun e => e.isCopy && e.fn == f && e.paused == some (d, key)).foldl
    (fun s e => (s.onExec e.fn e.q e.index fun e => { e with paused := none }).runCopy e.fn e.q e.index) s

/-- The copies that wait for an aborted fault record end (R354, R366). -/
def State.abortCopies (s : State) (d f key : Nat) : State :=
  (s.execs.filter fun e => e.isCopy && e.fn == f && e.paused == some (d, key)).foldl
    (fun s e => s.finish e.fn e.q e.index stTranslationFault dtLocal 0 0) s

/-! ### Completions, read-backs and ledger channels (R90 to R98, R115 to R117, R138) -/

/-- The vector of a submission queue's messages, where INT_EN is set; ADMIN_CTL holds both for an admin queue. -/
def State.subVector (s : State) (f q : Nat) (x : Queue) : Option Nat :=
  let ctl := s.reg (queuePage 0 f) 0x108
  if q = 0 then (if bit ctl 30 then some (bits ctl 10 0) else none)
  else if x.intEn then some x.vector else none

/-- The published head advances over the run of completed slots (R109, R117). -/
def headAfter : Nat → Word → List Word → Word
  | 0, h, _ => h
  | n + 1, h, done => if done.contains h then headAfter n (h + 1) done else h

/-- COMPLETION_WRITE (R90, R98, R115, R116, R129, R138). -/
def execCompletionWrite (f q : Nat) (index : Word) (s : State) : Result :=
  atFn s f <|
    match s.exec? f q index, s.queue f q with
    | some e, some x =>
      if e.phase != .finished then s else
      let s := { s with execs := s.execs.filter fun e => !e.is f q index }
      let vec := if dIrq e.desc then s.subVector f q x else none
      match s.writeEntry f q x index (completionBytes e (s.time x.owner)) vec with
      | (true, s) =>
        let s := (s.count (queuePage x.owner f) Ctr.queuePageCompletionsWritten).countSteps x.owner e
        s.onQueue f q fun x =>
          let done := index :: x.done
          let h := headAfter 65536 x.head done
          { x with head := h, done := done.filter fun j => (j - h).toNat < 2 ^ 31 }
      | (false, s) => s
    | _, _ => s

/-- LEDGER_ISSUE (R90). -/
def execLedgerIssue (f c : Nat) (s : State) : Result :=
  atFn s f <|
    match ((s.fn f).ledgers[c]?).getD [] with
    | [] => s
    | w :: ws => (s.onFn f fun x => { x with ledgers := x.ledgers.set c ws }).issueHost f w

/-- A read-back of a descriptor returns (R92, R95): the last one lets the completion be written. -/
def State.flushReturn (s : State) (f q : Nat) (i : Word) (ok : Bool) : State :=
  s.onExec f q i fun e =>
    if e.phase != .flushing then e
    else if !ok then { e with phase := .finished, status := stFlushFailed, detail := 0, readBacks := [] }
    else
      match e.readBacks.find? (·.issued) with
      | none => e
      | some r =>
        let rest := e.readBacks.erase r
        { e with readBacks := rest, phase := if rest.isEmpty then .finished else .flushing }

/-- READ_BACK_RETURN (R95). -/
def execReadBackReturn (f q : Nat) (index : Word) (ok : Bool) (s : State) : Result :=
  atFn s f <| s.flushReturn f q index ok

/-- ARRIVAL_ENTRY_WRITE (R118, R121, R122). -/
def execArrivalEntryWrite (f q : Nat) (s : State) : Result := atFn s f <| s.deliverArrival f q

/-- ARRIVAL_WAIT_EXPIRY (R121). -/
def execArrivalWaitExpiry (f q : Nat) (s : State) : Result :=
  atFn s f <|
    match s.queue f q with
    | none => s
    | some x =>
      match x.held with
      | none => s
      | some e =>
        if x.hasSpace || x.wait == 0xFFFF then s
        else (s.setQueue f q { x with held := none, dropping := true }).dropArrival x.owner f q e

/-- MSIX_MESSAGE (R61): a page's request reaches the PCI Express controller. -/
def execMsixMessage (k : Nat) (s : State) : Result :=
  .next <|
    match s.requests[k]? with
    | none => s
    | some r => ({ s with requests := s.requests.eraseIdx k }).sendMsix r.fn r.vector

/-! ### Disable, enable and the admin queue (R132 to R137, R140 to R142) -/

/-- Whether a queue has a descriptor in execution. -/
def State.executing (s : State) (f q : Nat) : Bool := s.execs.any fun e => e.fn == f && e.q == q

/-- A rejected control write of a queue page. -/
def State.controlReject (s : State) (d f : Nat) : State := s.count (queuePage d f) Ctr.queuePageControlRejects

/-- QUEUE_DISABLE (R133, R140). -/
def execQueueDisable (f d : Nat) (value : Word) (s : State) : Result :=
  atDie s d <| s.fromFn f <| s.guarded (queuePage d f) <|
    let q := bits value.toNat 15 0
    match s.queue f q with
    | none => s.controlReject d f
    | some x =>
      if q = 0 || x.owner != d || (s.fn f).service || x.state != .running then s.controlReject d f
      else s.setQueue f q { x with state := .disabling, slots := [], fetching := [], stale := none }

/-- QUEUE_DISABLED (R133). -/
def execQueueDisabled (f q : Nat) (s : State) : Result :=
  atFn s f <|
    match s.queue f q with
    | none => s
    | some x => if x.state == .disabling && !s.executing f q then s.setQueue f q { x with state := .disabled } else s

/-- QUEUE_ENABLE (R133, R134): fetch resumes at the published head, and a recorded doorbell is applied. -/
def execQueueEnable (f d : Nat) (value : Word) (s : State) : Result :=
  atDie s d <| s.fromFn f <| s.guarded (queuePage d f) <|
    let q := bits value.toNat 15 0
    match s.queue f q with
    | none => s.controlReject d f
    | some x =>
      if q = 0 || x.owner != d || (s.fn f).service || !(x.state == .error || x.state == .disabled) || s.executing f q then
        s.controlReject d f
      else
        let y := { x with state := .running, next := x.head, slots := [], fetching := [], done := [], stale := none,
                          recorded := none, cause := 0, detail := 0, errIndex := 0 }
        let s := s.setQueue f q y
        match x.recorded with
        | some v => s.applyDoorbell f q y v
        | none => s

/-- The oldest record of a queue page's STOP_FIFO as a read returns it, and the state without it (R142). -/
def State.popStop (s : State) (p : Page) : Nat × State :=
  match (FMap.get? s.stops p.addr).getD [] with
  | [] => (0, s)
  | r :: rs =>
    let lost := s.stopsLost.contains p.addr
    (0x80000000 + b2n lost * 0x40000000 + r.toNat,
      { s with stops := if rs.isEmpty then FMap.erase s.stops p.addr else FMap.set s.stops p.addr rs
               stopsLost := s.stopsLost.filter (· != p.addr) })

/-- STOP_FIFO_READ (R142): the oldest record is returned and removed. -/
def execStopFifoRead (f d : Nat) (s : State) : Result :=
  atDie s d <| s.fromFn f <|
    if !s.answers d then (s.reject ⟨0, .dieGroup, 0⟩ 0x0006).emit (.readData f 0)
    else if s.readable (queuePage d f) then
      let r := s.popStop (queuePage d f)
      r.2.emit (.readData f (BitVec.ofNat 64 r.1))
    else s.emit (.readData f 0)

/-- ADMIN_QUEUE_ENABLE (R58, R104, R137, R141): a write of ADMIN_CTL with ENABLE at 1 where it was 0. -/
def execAdminQueueEnable (f : Nat) (value : Word) (s : State) : Result :=
  atFn s f <| s.fromFn f <| s.guarded (queuePage 0 f) <|
    let p := queuePage 0 f
    let v := value.toNat &&& 0xC01F07FF
    if bit (s.reg p 0x108) 31 || !bit v 31 then s
    else if bits v 20 16 < 4 ∨ 8 < bits v 20 16 then s.refuse p 0x0100
    else if vectorCount f ≤ bits v 10 0 then s.reject p 0x0009
    else (s.setReg p 0x108 v).setQueue f 0
      { arrival := false, isLocal := false, owner := 0, ledger := none, log2 := bits v 20 16
        base := BitVec.ofNat 64 (s.reg p 0x100), vector := bits v 10 0, intEn := bit v 30, wait := 0xFFFF }

/-- ADMIN_QUEUE_DISABLE (R137): a write of ADMIN_CTL with ENABLE at 0 where it was 1. -/
def execAdminQueueDisable (f : Nat) (value : Word) (s : State) : Result :=
  atFn s f <| s.fromFn f <| s.guarded (queuePage 0 f) <|
    let p := queuePage 0 f
    let v := value.toNat &&& 0xC01F07FF
    match s.queue f 0 with
    | none => s
    | some x =>
      if bit v 31 then s
      else if vectorCount f ≤ bits v 10 0 then s.reject p 0x0009
      else if (x.head == x.tail || x.state == .error) && !s.executing f 0 then
        { s.setReg p 0x108 v with queues := FMap.erase s.queues (qKey f 0) }
      else s.reject p 0x0002

end Sys2Proof.Machine
end

