-- ==== Sys2Proof/Machine/Transport.lean ====
section
/-!
DEFINITION. Brevefold transport, the sending side (R152 to R206): packets and their protection, operations cut into
packets, errors and faults of a queue pair, and the end of its operations.
-/

namespace Sys2Proof.Machine

/-- The transport TX and RX pages of a die. -/
abbrev txPage (d : Nat) : Page := ⟨d, .tx, 0⟩
abbrev rxPage (d : Nat) : Page := ⟨d, .rx, 0⟩

/-- Packet opcodes (R165). -/
def poWrite : Nat := 1
def poWriteNotify : Nat := 2
def poSend : Nat := 3
def poReadRequest : Nat := 4
def poReadResponse : Nat := 5
def poAtomicRequest : Nat := 6
def poAtomicResponse : Nat := 7
def poAbort : Nat := 8
def poAck : Nat := 0x10
def poNak : Nat := 0x11

/-- NAK codes (R187). -/
def nakRnr : Nat := 1
def nakFaultWait : Nat := 2
def nakAccessDenied : Nat := 3
def nakPoisoned : Nat := 4
def nakTallyFailed : Nat := 5
def nakQpError : Nat := 6
def nakInvalid : Nat := 7

/-- Opcode by which an operation in a queue pair stands for the FLUSH read-back (R168). -/
def opReadBack : Nat := 0xF2

/-- Descriptor opcode to the opcode of its data packets (R165). -/
def packetOf : Nat → Nat
  | 0x01 => poWrite
  | 0x03 => poSend
  | 0x04 => poWriteNotify
  | 0x05 => poAtomicRequest
  | _ => poReadRequest

/-- The flow index by which ACKs and NAKs wait at a scheduler, ahead of every flow (R215). -/
def flowAck : Nat := 262163

/-- The key slot of a handle of a function (R578). -/
def State.keySlot (s : State) (f h : Nat) : Option KeySlot := FMap.get? s.keys (f * 65 + h)

/-! ### Protection (R201 to R206) -/

/-- Wraps of a stream at a PSN, when the stream stands at `ref` with `wraps` wraps (R204). -/
def wrapsAt (wraps : Nat) (ref psn : Word) : Nat :=
  if before psn ref then (if ref.toNat < psn.toNat then wraps - 1 else wraps)
  else if psn.toNat < ref.toNat then wraps + 1 else wraps

/-- The 96-bit nonce (R203). -/
def nonce (kind epoch source qp tx seq : Nat) : List Byte :=
  toBE 12 (kind * 2 ^ 94 + epoch % 2 ^ 22 * 2 ^ 72 + source * 2 ^ 54 + qp * 2 ^ 36 + tx % 16 * 2 ^ 32 + seq)

/-- Additional authenticated data of a packet: its endpoints, each in four bytes, then the transport header (R201). The
spec does not give the octets of the endpoints: DESIGN CHOICE (notes/assumptions/12.md); safe. -/
def bfAad (source dest : Nat) (hdr : List Byte) : List Byte := toBE 4 source ++ toBE 4 dest ++ hdr

/-- A payload with its tallies protected: encrypted, or authenticated only for an ACK or NAK, then the tag (R201, R202). -/
def protect (key iv aad text : List Byte) (clear : Bool) : List Byte :=
  if clear then text ++ gcmTag key iv (aad ++ text) []
  else
    let c := gcmCrypt key iv text
    c ++ gcmTag key iv aad c

/-- A protected text opened: none where the tag fails. -/
def unprotect (key iv aad body : List Byte) (clear : Bool) : Option (List Byte) :=
  let n := body.length - 16
  let c := body.take n
  if body.length < 16 then none
  else if clear then (if gcmTag key iv (aad ++ c) [] == body.drop n then some c else none)
  else if gcmTag key iv aad c == body.drop n then some (gcmCrypt key iv c) else none

/-- Nonce kind of a packet opcode (R203). -/
def nonceKind (op : Nat) : Nat :=
  if op = poAck ∨ op = poNak then 2 else if op = poReadResponse ∨ op = poAtomicResponse then 1 else 0

/-! ### Packets (R164 to R166) -/

/-- The fields of a transport header (R164). -/
structure BfHeader where
  op     : Nat
  psn    : Word
  addr   : Word64 := 0
  first  : Bool := false
  last   : Bool := false
  ackReq : Bool := false
  tx     : Nat := 0
  aux    : Word := 0
  deriving DecidableEq, Repr

/-- The 24 bytes of a transport header of a queue pair (R164). -/
def bfHeaderBytes (x : Qp) (h : BfHeader) : List Byte :=
  toBE 4 (x.peerQp * 2 ^ 14 + x.peerPart * 2 ^ 10 + b2n x.peerMgr * 2 ^ 9 + h.op) ++ toBE 4 h.psn.toNat ++
  toBE 8 h.addr.toNat ++
  toBE 4 (b2n h.first * 2 ^ 31 + b2n h.last * 2 ^ 30 + b2n h.ackReq * 2 ^ 29 + b2n x.gcm * 2 ^ 28 + h.tx % 16 * 2 ^ 24) ++
  toBE 4 h.aux.toNat

/-- The address by which a payload's tallies are cut (R166). -/
def tallyBase (op : Nat) (addr : Word64) : Nat :=
  if op = poWrite ∨ op = poWriteNotify ∨ op = poReadResponse then addr.toNat
  else if op = poSend then addr.toNat % 2 ^ 32 else 0

/-- EPOCH of a packet that a queue pair sends (R203). -/
def Qp.sendEpoch (x : Qp) (op : Nat) (psn : Word) : Nat :=
  x.epoch + (match nonceKind op with
    | 0 => wrapsAt x.sndWraps x.sndNxt psn
    | 1 => wrapsAt x.rcvWraps x.rcvNxt psn
    | _ => x.ackWraps)

/-- A packet of queue pair `n` of die `d`, with its tallies and its protection. `seq` is the PSN, or the ACK_SEQ of an ACK
or NAK. -/
def State.bfPacket (s : State) (d n : Nat) (x : Qp) (h : BfHeader) (payload : List Byte) (seq : Word) : Packet :=
  let hdr := bfHeaderBytes x h
  let text := payload ++ tallies (tallyBase h.op h.addr) payload
  let src := s.endpoint d
  let rest := match x.gcm, s.keySlot x.fn x.key with
    | true, some k =>
      protect k.key (nonce (nonceKind h.op) (x.sendEpoch h.op h.psn) src n (if nonceKind h.op = 2 then 0 else h.tx) seq.toNat)
        (bfAad src x.peer hdr) text (nonceKind h.op == 2)
    | true, none => text ++ zeros 16
    | false, _ => text
  ownPacket src x.peer x.tclass ptBrevefold (hdr ++ rest)

/-- LENGTH of a packet of a queue pair with `n` bytes of payload at a tally base (R165, R201). -/
def Qp.packetLength (x : Qp) (base n : Nat) : Nat := 24 + n + 4 * (blocks base n).length + (if x.gcm then 16 else 0)

/-! ### What a queue pair sends next (R167, R175, R213) -/

/-- The head packet of a queue pair. -/
inductive Head where
  | resend (r : SentPsn)
  | reply (o : OwedReply)
  | fresh (op : QpOp)
  deriving DecidableEq, Repr

/-- Pieces into which 8 KiB boundaries cut a range (R166). -/
def segments (a n : Nat) : Nat := if n = 0 then 1 else (a + n - 1) / 8192 - a / 8192 + 1

/-- Requests of a kind outstanding: their first PSNs, where a PSN of theirs has no answer (R167). -/
def Qp.requests (x : Qp) (atomic : Bool) : List Word :=
  ((x.sent.filter fun r => !r.acked && (if atomic then r.kind == .atomic
    else r.kind == .readRequest || r.kind == .readResponse)).map SentPsn.request).eraseDups

/-- The placing address of the next data of an operation, and its length (R166). -/
def QpOp.place (o : QpOp) : Nat := if o.opcode = 0x03 then o.offset else o.dst.toNat + o.offset
def QpOp.piece (o : QpOp) : Nat := min (o.length - o.offset) (8192 - o.place % 8192)

/-- The next request of a READ: destination and length (R167). -/
def QpOp.request (o : QpOp) : Nat × Nat :=
  let a := o.dst.toNat + o.offset
  (a, if o.length ≤ 1048576 then o.length - o.offset else min (o.length - o.offset) (1048576 - a % 1048576))

/-- Whether an operation is a READ, the read-back included. -/
def QpOp.isRead (o : QpOp) : Bool := o.opcode == 0x02 || o.opcode == opReadBack

/-- PSNs that the next packet of an operation uses (R165). -/
def QpOp.psns (o : QpOp) : Nat :=
  if o.short.isSome then 1 else if o.isRead then segments o.request.1 o.request.2 else 1

/-- Whether the window and the limits of R167 admit the next packet of an operation. -/
def Qp.admits (x : Qp) (o : QpOp) : Bool :=
  decide ((x.sndNxt - x.sndUna).toNat + o.psns ≤ 2 ^ x.log2Win) &&
  (o.short.isSome || ((!o.isRead || decide ((x.requests false).length < 8)) &&
    (o.opcode != 0x05 || decide ((x.requests true).length < 2))))

/-- The head packet of a queue pair in RTS or FAULT_WAIT, which sends no new data or request packet in FAULT_WAIT (R188,
R213). -/
def Qp.head? (x : Qp) : Option Head :=
  if x.state != .rts && x.state != .faultWait then none else
  match x.sent.find? fun r => r.due && !r.acked with
  | some r => some (.resend r)
  | none =>
    match x.owed.head? with
    | some o => some (.reply o)
    | none =>
      if x.state == .faultWait then none else
      match x.ops.find? fun o => !o.cut with
      | some o => if x.admits o then some (.fresh o) else none
      | none => none

/-- Extent of the next response that is owed: address of its first byte at the requester, and its length. -/
def OwedReply.piece (o : OwedReply) : Nat × Nat :=
  let a := o.dst.toNat + (if o.sent = 0 then 0 else 8192 * ((o.dst.toNat / 8192 + o.sent)) - o.dst.toNat)
  (a, min (o.dst.toNat + o.length - a) (8192 - a % 8192))

/-- The source range that forming the head packet reads: none where it reads none. -/
def Head.source : Head → Option (Word64 × Nat)
  | .resend r => if r.kind == .data then some (r.src, r.len) else none
  | .reply _ => none
  | .fresh o =>
    if o.short.isSome || o.isRead || o.opcode == 0x05 then none else some (o.src + BitVec.ofNat 64 o.offset, o.piece)

/-- LENGTH of the head packet. -/
def Qp.headLength (x : Qp) : Head → Nat
  | .resend r =>
    match r.kind with
    | .data => x.packetLength (tallyBase r.opcode r.addr) r.len
    | .abort => x.packetLength 0 0
    | _ => x.packetLength 0 8
  | .reply o => if o.atomic then x.packetLength 0 8 else x.packetLength o.piece.1 o.piece.2
  | .fresh o =>
    if o.short.isSome then x.packetLength 0 0
    else if o.isRead || o.opcode == 0x05 then x.packetLength 0 8 else x.packetLength o.place o.piece

/-! ### Sources on attached endpoints (R156, R257) -/

/-- The Alram link of a die whose peer is an endpoint. -/
def State.alramTo (s : State) (d e : Nat) : Option Nat :=
  [0, 1].find? fun l => ((s.die d).link l).peer == e && s.linkState d l == .up

/-- A range cut at 8 KiB boundaries of its address (R254). -/
def alramPieces (a : Word64) (n : Nat) : List (Word64 × Nat) :=
  let k := min n (8192 - a.toNat % 8192)
  (a, k) :: (if k < n then [(a + BitVec.ofNat 64 k, n - k)] else [])

/-- An Alram read issued by a die on the lowest free tag; none where 256 are outstanding (R257). -/
def State.alramRead (s : State) (d l f tclass : Nat) (a : Word64) (n : Nat) (use : ReadUse) : Option State :=
  let rs := ((s.die d).link l).reads
  (lowestBelow 256 fun t => !rs.any (·.tag == t)).map fun t =>
    (s.onLink d l fun x => { x with reads := x.reads ++ [{ tag := t, addr := a, len := n, fn := f, tclass := tclass, use := use }] }).sendOnLink
      d l (ownPacket (s.endpoint d) ((s.die d).link l).peer tclass ptAlramReadRequest (alramHeader a.toNat t 0 f false n))

/-- Fetched data of a source piece of a queue pair. -/
def Link.fetchedAt (x : Link) (n : Nat) (a : Word64) : Option (List Byte) :=
  (x.fetched.find? fun r => r.1 == .source n && r.2.1 == a).map (·.2.2)

/-- Whether the source of a head packet can be read: local, or fetched from its attached endpoint. -/
def State.sourceReady (s : State) (d n : Nat) (h : Head) : Bool :=
  match h.source with
  | none => true
  | some (a, k) =>
    if gaEndpoint a == s.endpoint d then true else
    match s.alramTo d (gaEndpoint a) with
    | none => true
    | some l => (alramPieces a k).all fun p => (((s.die d).link l).fetchedAt n p.1).isSome

/-- The reads that a head packet's source on an attached endpoint still needs are issued. -/
def State.pullSource (s : State) (d n : Nat) (x : Qp) (h : Head) : State :=
  match h.source with
  | none => s
  | some (a, k) =>
    if gaEndpoint a == s.endpoint d then s else
    match s.alramTo d (gaEndpoint a) with
    | none => s
    | some l =>
      (alramPieces a k).foldl (fun s p =>
        let lk := (s.die d).link l
        if (lk.fetchedAt n p.1).isSome || lk.reads.any (fun r => r.use == .source n && r.addr == p.1) then s
        else (s.alramRead d l x.fn x.tclass p.1 p.2 (.source n)).getD s) s

/-- A source read by transport TX (engine 5), or taken from what an attached endpoint has answered (R156, R487). -/
def State.sourceRead (s : State) (d n : Nat) (x : Qp) (a : Word64) (k : Nat) : MemOut × State :=
  if gaEndpoint a == s.endpoint d then s.read d 5 x.fn (gaOffset a) k
  else
    match s.alramTo d (gaEndpoint a) with
    | none => (.denied, s)
    | some l =>
      let ps := alramPieces a k
      let lk := (s.die d).link l
      let bs := ps.flatMap fun p => (lk.fetchedAt n p.1).getD []
      if bs.length = k then
        (.ok bs, s.onLink d l fun y =>
          { y with fetched := y.fetched.filter fun r => !(r.1 == .source n && ps.any fun p => p.1 == r.2.1) })
      else (.denied, s)

/-! ### Ends and errors (R168, R174, R192, R193) -/

/-- Whether two operations of a queue pair are the same. -/
def QpOp.same (a b : QpOp) : Bool := a.index == b.index && a.readBack == b.readBack

/-- An operation of a queue pair changed. -/
def Qp.onOp (x : Qp) (index : Word) (readBack : Bool) (f : QpOp → QpOp) : Qp :=
  { x with ops := x.ops.map fun o => if o.index == index && o.readBack == readBack then f o else o }

/-- The descriptor of an operation ends (R115, R168): the read-back's end is that of the FLUSH, and a WRITE, WRITE_NOTIFY
or ATOMIC_ADD with FLUSH waits for one. -/
def State.endOp (s : State) (x : Qp) (o : QpOp) : State :=
  if o.readBack then s.flushReturn x.fn x.sq o.index o.short.isNone
  else
    let r := o.short.getD (stSuccess, 0)
    let ok := r.1 == stSuccess
    let s := if o.flush && ok && (o.opcode == 0x01 || o.opcode == 0x04 || o.opcode == 0x05) then
        s.onExec x.fn x.sq o.index fun e =>
          { e with readBacks := [⟨.queuePair, (o.dst + BitVec.ofNat 64 (o.length - 1)) &&& ~~~ 63#64, false⟩] }
      else s
    s.finish x.fn x.sq o.index r.1 r.2 (if !ok then 0 else if o.opcode = 0x05 then o.value.toNat else o.length) o.resends

/-- The operations of a queue pair whose PSNs SND_UNA has passed end (R168). -/
def State.endOps (s : State) (n : Nat) : State :=
  match s.qp n with
  | none => s
  | some x =>
    let ended := x.ops.filter fun o => o.cut && !x.sent.any fun r => r.op == o.index && r.flush == o.readBack
    let s := s.setQp n { x with ops := x.ops.filter fun o => !ended.any o.same }
    ended.foldl (fun s o => s.endOp x o) s

/-- A queue pair enters ERROR (R160, R193): every outstanding descriptor completes with the cause, and a descriptor that
waits for its read-back with FLUSH_FAILED (R95). -/
def State.qpError (s : State) (n status detail : Nat) : State :=
  match s.qp n with
  | none => s
  | some x =>
    if x.state == .error then s else
    let s := s.setQp n { x with
      state := .error, errStatus := status, errDetail := detail, ops := [], sent := [], owed := [], timer := false
      ackTimer := false, fault := {}, idle := true, escaped := false }
    let s := s.count (txPage (s.qpDie n)) Ctr.txQpErrors
    x.ops.foldl (fun s o =>
      if o.readBack then s.flushReturn x.fn x.sq o.index false
      else s.finish x.fn x.sq o.index status detail 0 o.resends) s

/-- The message of an operation is cut short (R174): it ends once MSG_ABORT has used a PSN where one is needed, and at
once where no PSN or no abort is. -/
def State.cutShort (s : State) (n : Nat) (o : QpOp) (status detail : Nat) : State :=
  (s.onQp n fun x => x.onOp o.index o.readBack fun p =>
    if p.short.isSome then p else
    { p with short := some (status, detail)
             cut := p.cut || p.offset == 0 || !(p.opcode == 0x03 || p.opcode == 0x04) }).endOps n

/-- A queue pair leaves FAULT_WAIT once nothing holds it there (R189, R190, R677). -/
def Qp.resume (x : Qp) : Qp :=
  if x.state == .faultWait && x.fault == {} then { x with state := .rts } else x

/-- A queue pair enters FAULT_WAIT for a cause (R188). -/
def State.qpFault (s : State) (n : Nat) (f : FaultWait → FaultWait) : State :=
  match s.qp n with
  | none => s
  | some x =>
    let s := s.setQp n { x with state := if x.state == .rts then .faultWait else x.state, fault := f x.fault }
    if x.state == .rts then s.count (txPage (s.qpDie n)) Ctr.txFaultWaits else s

/-- A PSN whose source cannot be read again carries MSG_ABORT instead, and its message ends there. The spec does not say
what such a PSN carries: DESIGN CHOICE (notes/assumptions/13.md); unsafe. -/
def State.abortPsn (s : State) (n : Nat) (r : SentPsn) (status : Nat) : State :=
  let s := s.onQp n fun x =>
    { x.onOp r.op r.flush fun o => if o.short.isSome then o else { o with short := some (status, dtLocal), cut := true } with
      sent := x.sent.map fun t => if t.psn == r.psn then { t with kind := .abort, due := true, len := 0 } else t }
  s.endOps n

/-! ### Forming the head packet (R166, R168, R171, R179, R184) -/

/-- The connection counter of a queue pair's key follows the epochs that it reaches, and an EPOCH above 22 bits ends the
queue pair (R205, R206). -/
def State.noteEpoch (s : State) (d n : Nat) : State :=
  match s.qp n with
  | none => s
  | some x =>
    if !x.gcm then s else
    let e := x.epoch + max x.sndWraps (max x.rcvWraps x.ackWraps)
    let s := { s with keys := FMap.modify s.keys (x.fn * 65 + x.key) fun k =>
      { k with counters := modifyAt k.counters d fun c => max c (e + 1) } }
    if 2 ^ 22 ≤ e then s.qpError n stQpError 9 else s

/-- Whether the next first transmission is sampled for the RTT: none is under way, and SRTT has passed since the last
(R179, R185). -/
def State.sampleDue (s : State) (x : Qp) : Bool :=
  !x.sent.any (·.sampled) &&
  (match x.rtt with
    | none => true
    | some (srtt, _) => decide (x.lastSample + srtt.floor.toNat ≤ s.now))

/-- New PSNs used by a queue pair: SND_NXT advances, and the timer runs unless a remote fault stops it (R182, R190). -/
def Qp.usePsns (x : Qp) (rs : List SentPsn) : Qp :=
  let nxt := x.sndNxt + BitVec.ofNat 32 rs.length
  { x with sent := x.sent ++ rs, sndNxt := nxt, sndWraps := x.sndWraps + b2n (decide (nxt.toNat < x.sndNxt.toNat))
           timer := x.timer || x.fault.remote.isNone }

/-- A first transmission of one or more PSNs, counted (PACKETS_SENT, BYTES_SENT). -/
def State.sentFresh (s : State) (d n : Nat) (x : Qp) (payload : Nat) : State :=
  let s := (s.setQp n x).noteEpoch d n
  (s.count (txPage d) Ctr.txPacketsSent).count (txPage d) Ctr.txBytesSent payload

/-- The fresh packet of an operation formed, or the event that its source gave (R166 to R168, R174, R188). -/
def State.formFresh (s : State) (d n : Nat) (x : Qp) (o : QpOp) : Option Packet × State :=
  let psn := x.sndNxt
  let sample := s.sampleDue x
  match o.short with
  | some _ =>
    let addr : Word64 := if o.opcode = 0x03 then BitVec.ofNat 64 (o.msgSeq.toNat * 2 ^ 32 + o.offset)
      else o.dst + BitVec.ofNat 64 o.offset
    let h : BfHeader := { op := poAbort, psn := psn, addr := addr, last := true, ackReq := true
                          aux := BitVec.ofNat 32 (packetOf o.opcode) }
    let r : SentPsn := { psn := psn, kind := .abort, request := psn, op := o.index, flush := o.readBack, opcode := poAbort,
                         addr := addr, src := 0, len := 0, aux := h.aux, first := false, last := true, sentAt := s.now }
    let y := (x.usePsns [r]).onOp o.index o.readBack fun o => { o with cut := true }
    (some (s.bfPacket d n x h [] psn), s.sentFresh d n y 0)
  | none =>
    if o.isRead then
      let a := o.request.1
      let k := o.request.2
      let src := o.src + BitVec.ofNat 64 o.offset
      let pay := toBE 8 a
      let h : BfHeader := { op := poReadRequest, psn := psn, addr := src, first := true, last := true, ackReq := true
                            aux := BitVec.ofNat 32 k }
      let rs := (List.range (segments a k)).map fun i =>
        ({ psn := psn + BitVec.ofNat 32 i, kind := if i = 0 then .readRequest else .readResponse, request := psn
           op := o.index, flush := o.readBack, opcode := poReadRequest, addr := src, src := 0, len := 8, aux := h.aux
           reply := BitVec.ofNat 64 a, first := true, last := true, sentAt := s.now
           sampled := sample && i == 0 } : SentPsn)
      let y := (x.usePsns rs).onOp o.index o.readBack fun o =>
        { o with offset := o.offset + k, cut := o.length ≤ o.offset + k }
      (some (s.bfPacket d n x h pay psn), s.sentFresh d n y 8)
    else if o.opcode = 0x05 then
      let pay := toBE 8 o.operand.toNat
      let h : BfHeader := { op := poAtomicRequest, psn := psn, addr := o.dst, first := true, last := true, ackReq := true }
      let r : SentPsn := { psn := psn, kind := .atomic, request := psn, op := o.index, opcode := poAtomicRequest
                           addr := o.dst, src := o.operand, len := 8, aux := 0, first := true, last := true
                           sentAt := s.now, sampled := sample }
      let y := (x.usePsns [r]).onOp o.index false fun o => { o with cut := true, offset := 8 }
      (some (s.bfPacket d n x h pay psn), s.sentFresh d n y 8)
    else
      let k := o.piece
      let src := o.src + BitVec.ofNat 64 o.offset
      match s.sourceRead d n x src k with
      | (.ok bs, s) =>
        let first := o.offset == 0
        let last := decide (o.length ≤ o.offset + k)
        let m := if first then x.sndMsg else o.msgSeq
        let addr : Word64 := if o.opcode = 0x03 then BitVec.ofNat 64 (m.toNat * 2 ^ 32 + o.offset)
          else o.dst + BitVec.ofNat 64 o.offset
        let h : BfHeader := { op := packetOf o.opcode, psn := psn, addr := addr, first := first, last := last
                              ackReq := last || sample, aux := if last && o.opcode != 0x01 then o.imm else 0 }
        let r : SentPsn := { psn := psn, kind := .data, request := psn, op := o.index, opcode := h.op, addr := addr
                             src := src, len := k, aux := h.aux, first := first, last := last, sentAt := s.now
                             sampled := sample }
        let y := (x.usePsns [r]).onOp o.index false fun o => { o with offset := o.offset + k, cut := last, msgSeq := m }
        let y := if first && o.opcode == 0x03 then { y with sndMsg := y.sndMsg + 1 } else y
        (some (s.bfPacket d n x h bs psn), s.sentFresh d n y k)
      | (.fault kd off, s) =>
        (none, (s.fault d 5 x.fn off kd false (some n) s.now).qpFault n fun f => { f with source := some (none, off / 2 ^ 25) })
      | (.denied, s) => (none, s.cutShort n o stAccessDenied dtLocal)
      | (.poisoned, s) => (none, s.cutShort n o stPoisoned dtLocal)
      | (.tallyFailed, s) => (none, s.cutShort n o stTallyFailed dtLocal)

/-- A PSN sent again: TX_COUNT one above, counted on its operation once (R168, R184). -/
def State.sentAgain (s : State) (d n : Nat) (r : SentPsn) : State :=
  let s := s.onQp n fun x =>
    let x := { x with
      sent := x.sent.map fun t => if t.request == r.request && (t.psn == r.psn || t.kind == .readRequest || t.kind == .readResponse)
        then { t with txCount := r.txCount + 1, due := false, timed := false, resent := some s.now, sampled := false } else t
      timer := x.timer || x.fault.remote.isNone }
    if r.txCount = 0 then x.onOp r.op r.flush fun o => { o with resends := o.resends + 1 } else x
  s.count (txPage d) (if r.timed then Ctr.txTimeoutRetransmits else Ctr.txFastRetransmits)

/-- A PSN formed again (R184), or the event that its source gave. -/
def State.formAgain (s : State) (d n : Nat) (x : Qp) (r : SentPsn) : Option Packet × State :=
  let h : BfHeader := { op := r.opcode, psn := r.request, addr := r.addr, first := r.first, last := r.last
                        ackReq := r.last, tx := r.txCount + 1, aux := r.aux }
  match r.kind with
  | .data =>
    match s.sourceRead d n x r.src r.len with
    | (.ok bs, s) => (some (s.bfPacket d n x h bs r.psn), s.sentAgain d n r)
    | (.fault kd off, s) =>
      let s := s.onQp n fun x =>
        { x with sent := x.sent.map fun t => if t.psn == r.psn then { t with due := false } else t }
      (none, (s.fault d 5 x.fn off kd false (some n) s.now).qpFault n fun f =>
        { f with source := some (some r.psn, off / 2 ^ 25) })
    | (.denied, s) => (none, s.abortPsn n r stAccessDenied)
    | (.poisoned, s) => (none, s.abortPsn n r stPoisoned)
    | (.tallyFailed, s) => (none, s.abortPsn n r stTallyFailed)
  | .abort =>
    (some (s.bfPacket d n x { h with op := poAbort, last := true, aux := BitVec.ofNat 32 (if r.opcode = poAbort then r.aux.toNat else r.opcode) } []
      r.psn), s.sentAgain d n r)
  | .atomic => (some (s.bfPacket d n x h (toBE 8 r.src.toNat) r.psn), s.sentAgain d n r)
  | _ => (some (s.bfPacket d n x h (toBE 8 r.reply.toNat) r.request), s.sentAgain d n r)

/-- Room made for the next response that is owed. -/
def Qp.replied (x : Qp) (o : OwedReply) (last : Bool) : Qp :=
  { x with owed := if last then x.owed.drop 1 else { o with sent := o.sent + 1 } :: x.owed.drop 1 }

/-- An ACK or NAK handed to the scheduler, ahead of every flow of its class (R215). -/
def State.sendAck (s : State) (d : Nat) (p : Packet) : State := s.inject d p flowAck

/-- A NAK sent by queue pair `n` for a PSN (R178, R187). -/
def State.nak (s : State) (d n : Nat) (psn : Word) (code : Nat) : State :=
  match s.qp n with
  | none => s
  | some x =>
    let seq := x.ackSeq + 1
    let x := { x with ackSeq := seq, ackWraps := x.ackWraps + b2n (decide (seq.toNat < x.ackSeq.toNat)) }
    let p := s.bfPacket d n x { op := poNak, psn := psn, aux := BitVec.ofNat 32 code } [] seq
    (((s.setQp n x).noteEpoch d n).count (rxPage d) Ctr.rxNaksSent).sendAck d p

/-- The next response that is owed formed (R168), or the NAK that its source calls for (R187, R191). -/
def State.formReply (s : State) (d n : Nat) (x : Qp) (o : OwedReply) : Option Packet × State :=
  if o.atomic then
    let h : BfHeader := { op := poAtomicResponse, psn := o.psn, addr := o.src, first := true, last := true, tx := o.txCount }
    (some (s.bfPacket d n x h (toBE 8 o.value.toNat) o.psn), s.setQp n (x.replied o true))
  else
    let a := o.piece.1
    let k := o.piece.2
    let src := o.src + BitVec.ofNat 64 (a - o.dst.toNat)
    let last := decide (o.dst.toNat + o.length ≤ a + k)
    let psn := o.psn + BitVec.ofNat 32 o.sent
    let drop (s : State) (code : Nat) : Option Packet × State := (none, (s.setQp n (x.replied o true)).nak d n o.psn code)
    match s.read d 5 x.fn (gaOffset src) k with
    | (.ok bs, s) =>
      let h : BfHeader := { op := poReadResponse, psn := psn, addr := BitVec.ofNat 64 a, first := o.sent == 0, last := last
                            tx := o.txCount }
      (some (s.bfPacket d n x h bs psn), s.setQp n (x.replied o last))
    | (.fault kd off, s) => drop (s.fault d 5 x.fn off kd false none s.now) nakFaultWait
    | (.denied, s) => drop s nakAccessDenied
    | (.poisoned, s) => drop s nakPoisoned
    | (.tallyFailed, s) => drop s nakTallyFailed

/-- The head packet of a queue pair formed. -/
def State.formHead (s : State) (d n : Nat) (x : Qp) : Head → Option Packet × State
  | .resend r => s.formAgain d n x r
  | .reply o => s.formReply d n x o
  | .fresh o => s.formFresh d n x o

/-! ### Beginning an operation (R154, R156, R162) -/

/-- Form of a transport descriptor (R112, R154, R156). -/
def State.formTransport (s : State) (f q : Nat) (d : List Byte) : Option Nat :=
  let op := dOpcode d
  let bound := match s.qp (dTarget d) with
    | some x => x.fn == f && x.sq == q
    | none => false
  firstOffence [headForm d false 0x80000000 false, offence (!bound) 4, noArgs d,
    offence (op == 0x03 && dDst d != 0) 0x10, offence (op == 0x05 && dSrc d != 0) 8,
    offence (op == 0x05 && (dDst d).toNat % 8 != 0) 0x10, offence (op == 0x05 && dLength d != 8) 0x18]

/-- Whether the addresses of a transport descriptor keep to the table of R156. -/
def State.transportAddresses (s : State) (die : Nat) (x : Qp) (d : List Byte) : Bool :=
  let own (a : Word64) : Bool := s.hasEndpoint die && gaEndpoint a == s.endpoint die
  let src := own (dSrc d) || (s.alramTo die (gaEndpoint (dSrc d))).isSome
  let peer (a : Word64) : Bool := gaEndpoint a == x.peer
  match dOpcode d with
  | 0x01 | 0x04 => src && peer (dDst d)
  | 0x03 => src
  | 0x02 => peer (dSrc d) && own (dDst d)
  | _ => peer (dDst d)

/-- A transport descriptor in execution reaches its queue pair (R156, R162, R168). -/
def State.beginTransport (s : State) (f q : Nat) (i : Word) (d : List Byte) : State :=
  match s.qp (dTarget d) with
  | none => s
  | some x =>
    match x.state with
    | .init | .rtr => s.finish f q i stQpError 6 0 0
    | .error => s.finish f q i stQpError 7 0 0
    | _ =>
      if !s.transportAddresses (s.qpDie (dTarget d)) x d then s.finish f q i stAccessDenied dtLocal 0 0
      else
        s.setQp (dTarget d) { x with ops := x.ops ++ [({
          index := i, opcode := dOpcode d, src := dSrc d, dst := dDst d, length := dLength d, imm := dImm d
          operand := dOperand d, flush := dFlush d } : QpOp)] }

end Sys2Proof.Machine
end

