-- ==== Sys2Proof/Machine/TransportRx.lean ====
section
/-!
DEFINITION. Brevefold transport, the receiving side (R163 to R210): the context cache, acceptance of packets, ACKs and
NAKs, responses, retransmission and rate updates, and the outcome of translation faults.
-/

namespace Sys2Proof.Machine

/-! ### Context cache (R195 to R200) -/

/-- The transport engine of a die changed. -/
def State.onTx (s : State) (d : Nat) (f : Transport → Transport) : State := s.onDie d fun x => { x with tx := f x.tx }

/-- The set of a queue pair (R195). -/
def ctxSet (q : Nat) : Nat := (q ^^^ q / 512) % 512

/-- The ways that the context of a queue pair may use (R196). -/
def State.ctxWays (s : State) (d q : Nat) : Nat :=
  match s.qp q with
  | some x => if bit (s.reg (txPage d) 0x100) x.tclass then 16 else 12
  | none => 12

/-- Whether the context of a queue pair is cached. -/
def State.ctxCached (s : State) (d q : Nat) : Bool := (s.die d).tx.cache.any (·.qp == q)

/-- Whether the context of a queue pair is being fetched. -/
def State.ctxFetching (s : State) (d q : Nat) : Bool := (s.die d).tx.fetches.any (·.qp == q)

/-- An access to a cached context: it becomes the most recently used, and is changed by the access. -/
def State.ctxTouch (s : State) (d q : Nat) : State :=
  s.onTx d fun t =>
    match t.cache.find? (·.qp == q) with
    | some e => { t with cache := { e with changed := true, prefetch := false } :: t.cache.filter (·.qp != q) }
    | none => t

/-- The way that a fetch takes, with the entry that it evicts: a free way, or that of the least recently used entry of the
set, which a prefetch takes only if unchanged (R195, R200). -/
def State.ctxVictim (s : State) (d q : Nat) (prefetch : Bool) : Option (Nat × Option CtxEntry) :=
  let t := (s.die d).tx
  let used := (t.cache.filter fun e => ctxSet e.qp == ctxSet q).map CtxEntry.way ++
    (t.fetches.filter fun e => ctxSet e.qp == ctxSet q).map CtxFetch.way
  match lowestBelow (s.ctxWays d q) fun w => !used.contains w with
  | some w => some (w, none)
  | none =>
    (t.cache.reverse.find? fun e => ctxSet e.qp == ctxSet q && decide (e.way < s.ctxWays d q) && !(prefetch && e.changed)).map
      fun e => (e.way, some e)

/-- A fetch of a context starts, after the write-back of what it evicts, while fewer than 64 are outstanding (R197). -/
def State.ctxFetch (s : State) (d q : Nat) (prefetch : Bool) : State :=
  if s.ctxCached d q || s.ctxFetching d q || decide (64 ≤ (s.die d).tx.fetches.length) then s else
  match s.ctxVictim d q prefetch with
  | none => s
  | some (w, e) =>
    let s := match e with
      | some e =>
        let s := s.onTx d fun t => { t with cache := t.cache.erase e }
        if e.changed then (s.count (txPage d) Ctr.txCtxWritebacks).count (memPage d 0) Ctr.memCtlWriteBytes 256 else s
      | none => s
    let s := if prefetch then s else s.count (txPage d) Ctr.txCtxMisses
    (s.onTx d fun t => { t with fetches := t.fetches ++ [⟨q, w, prefetch⟩] }).count (memPage d 0) Ctr.memCtlReadBytes 256

/-- A context dropped from the cache, with its fetch. -/
def State.ctxDrop (s : State) (d q : Nat) : State :=
  s.onTx d fun t => { t with cache := t.cache.filter (·.qp != q), fetches := t.fetches.filter (·.qp != q) }

/-! ### Received packets taken apart (R164 to R166, R201 to R204) -/

/-- A transport header as received (R164). -/
structure BfIn where
  dest     : Nat
  part     : Nat
  mgr      : Bool
  op       : Nat
  psn      : Word
  addr     : Word64
  first    : Bool
  last     : Bool
  ackReq   : Bool
  gcm      : Bool
  tx       : Nat
  aux      : Word
  reserved : Bool
  deriving DecidableEq, Repr

/-- The transport header of a packet, where the packet holds one (R164). -/
def bfIn (p : Packet) : Option BfIn :=
  if p.body.length < 24 then none else
  let a := be p.body 0 4
  let b := be p.body 16 4
  some { dest := bits a 31 14, part := bits a 13 10, mgr := bit a 9, op := bits a 7 0, psn := BitVec.ofNat 32 (be p.body 4 4)
         addr := BitVec.ofNat 64 (be p.body 8 8), first := bit b 31, last := bit b 30, ackReq := bit b 29, gcm := bit b 28
         tx := bits b 27 24, aux := BitVec.ofNat 32 (be p.body 20 4), reserved := bit a 8 || bits b 23 0 != 0 }

/-- Whether an opcode is one of R165. -/
def bfKnown (op : Nat) : Bool := decide (1 ≤ op ∧ op ≤ 8) || op == poAck || op == poNak

/-- Length of the payload of a packet whose text, tallies included, has `n` bytes: none where its opcode asks for another
(R165, R166). -/
def bfPayload (h : BfIn) (n : Nat) : Option Nat :=
  let base := tallyBase h.op h.addr
  let len := ((List.range 4).find? fun k => decide (4 * k ≤ n) && (blocks base (n - 4 * k)).length == k).map (n - 4 * ·)
  match len with
  | none => none
  | some k =>
    let ok := if h.op = poAck then k == 40 else if h.op = poNak ∨ h.op = poAbort then k == 0
      else if h.op = poReadRequest ∨ h.op = poAtomicRequest ∨ h.op = poAtomicResponse then k == 8
      else decide (1 ≤ k) && decide (base % 8192 + k ≤ 8192)
    if ok then some k else none

/-- EPOCH and SEQUENCE values under which an arriving packet may have been protected (R203, R204). A NAK carries no
ACK_SEQ: the receiver takes the first of the next 256 under which its tag verifies. DESIGN CHOICE
(notes/assumptions/14.md). -/
def Qp.nonces (x : Qp) (h : BfIn) (text : List Byte) : List (Nat × Word) :=
  let ack (q : Word) : Nat × Word :=
    (x.peerEpoch + x.peerAckWraps + b2n (decide (q.toNat < (x.peerAckSeq.getD 0).toNat)), q)
  match nonceKind h.op with
  | 0 => [(x.peerEpoch + wrapsAt x.rcvWraps x.rcvNxt h.psn, h.psn)]
  | 1 => [(x.peerEpoch + wrapsAt x.sndWraps x.sndNxt h.psn, h.psn)]
  | _ =>
    if h.op = poAck then [ack (BitVec.ofNat 32 (be text 36 4))]
    else (List.range 256).map fun i => ack (x.peerAckSeq.getD 0 + BitVec.ofNat 32 (i + 1))

/-- A packet of a protected queue pair opened: its text and the SEQUENCE under which it verified (R201 to R204). -/
def State.openPacket (s : State) (x : Qp) (p : Packet) (h : BfIn) : Option (List Byte × Word) :=
  match s.keySlot x.fn x.key with
  | none => none
  | some k =>
    let body := p.body.drop 24
    let aad := bfAad p.source.toNat p.dest.toNat (p.body.take 24)
    let clear := nonceKind h.op == 2
    (x.nonces h body).findSome? fun n =>
      (unprotect k.key (nonce (nonceKind h.op) n.1 p.source.toNat x.peerQp (if clear then 0 else h.tx) n.2.toNat) aad body
        clear).map fun t => (t, n.2)

/-! ### ACKs (R177, R178) -/

/-- An ACK sent by queue pair `n` (R178). -/
def State.ack (s : State) (d n : Nat) : State :=
  match s.qp n with
  | none => s
  | some x =>
    let seq := x.ackSeq + 1
    let map := maskOf ((x.accepted.map fun a => (a.psn - x.rcvNxt).toNat).filter fun k => decide (0 < k ∧ k < 256))
    let pay := toBE 32 map ++ toBE 4 (x.dataCount % 65536 * 65536 + x.ceCount % 65536) ++ toBE 4 seq.toNat
    let y := { x with ackSeq := seq, ackWraps := x.ackWraps + b2n (decide (seq.toNat < x.ackSeq.toNat)), dataCount := 0
                      ceCount := 0, trigger := none, ackTimer := false }
    let p := s.bfPacket d n y { op := poAck, psn := x.rcvNxt, aux := x.trigger.getD (x.rcvNxt - 1) } pay seq
    (((s.setQp n y).noteEpoch d n).count (rxPage d) Ctr.rxAcksSent).sendAck d p

/-- A data or request packet accepted: counted, and its CE mark and ACK_REQ kept for the next ACK (R176, R178). -/
def State.noteAccepted (s : State) (d n : Nat) (p : Packet) (h : BfIn) : State :=
  (s.onQp n fun x => { x with
    dataCount := x.dataCount + 1, ceCount := x.ceCount + b2n p.ce
    trigger := if h.ackReq && (match x.trigger with | some t => before t h.psn | none => true) then some h.psn
      else x.trigger }).count (rxPage d) Ctr.rxPacketsAccepted

/-- The ACK that an accepted packet calls for (R177), or the 2 µs timer. -/
def State.ackAfter (s : State) (d n : Nat) (h : BfIn) (inOrder : Bool) : State :=
  match s.qp n with
  | none => s
  | some x =>
    if h.last || h.ackReq || decide (4 ≤ x.dataCount) || !inOrder then s.ack d n
    else s.setQp n { x with ackTimer := true }

/-! ### Acceptance in order (R171 to R174, R176) -/

/-- The slot of a message: its global address (R171). -/
def Qp.slotAddr (x : Qp) (m : Word) : Word64 :=
  x.recvBase + BitVec.ofNat 64 (m.toNat % max x.recvSlots 1 * 2 ^ x.log2Slot)

/-- Body of a RECEIVE or NOTIFY entry (R173). -/
def messageBody (n : Nat) (m : Word) (len : Nat) (imm : Word) (addr : Word64) : List Byte :=
  bodyOf [(4, 4, n), (8, 4, m.toNat), (12, 4, len), (16, 4, imm.toNat), (24, 8, addr.toNat)]

/-- What RCV_NXT passing an accepted packet does (R171, R173, R174). -/
def State.passed (s : State) (d n : Nat) (x : Qp) (a : Accepted) : State :=
  let m : Word := BitVec.ofNat 32 (a.addr.toNat / 2 ^ 32)
  if a.opcode = poSend then
    if a.last then
      (s.setQp n { x with rcvMsg := m + 1 }).arriveAt d x.fn x.aq
        { kind := 1, body := messageBody n m (a.addr.toNat % 2 ^ 32 + a.len) a.imm (x.slotAddr m), slot := some (n, m) }
    else s
  else if a.opcode = poWriteNotify then
    let start := if a.first then a.addr else x.notifyFrom
    let s := s.setQp n { x with notifyFrom := start }
    if a.last then
      if x.aq = 0 then s else s.arriveAt d x.fn x.aq
        { kind := 2, body := messageBody n 0 ((a.addr - start).toNat + a.len) a.imm start }
    else s
  else if a.opcode = poAbort ∧ a.abort = poSend then
    s.setQp n { x with rcvMsg := m + 1, slotsHeld := x.slotsHeld.filter (· != m) }
  else s

/-- RCV_NXT advances over each run of accepted PSNs (R176). -/
def State.runUp (d n : Nat) : Nat → State → State
  | 0, s => s
  | fuel + 1, s =>
    match s.qp n with
    | none => s
    | some x =>
      match x.accepted.find? (·.psn == x.rcvNxt) with
      | none => s
      | some a =>
        let nxt := x.rcvNxt + 1
        let y := { x with accepted := x.accepted.filter (·.psn != x.rcvNxt), rcvNxt := nxt
                          rcvWraps := x.rcvWraps + b2n (nxt == 0) }
        State.runUp d n fuel ((s.setQp n y).passed d n y a)

/-- A packet of one PSN accepted and marked in the reorder map; a SEND's slot is held from then on (R171, R176). -/
def State.accept (s : State) (d n : Nat) (p : Packet) (h : BfIn) (len : Nat) : State :=
  match s.qp n with
  | none => s
  | some x =>
    let a : Accepted := { psn := h.psn, opcode := h.op, last := h.last, first := h.first, imm := h.aux, addr := h.addr
                          len := len, abort := bits h.aux.toNat 7 0 }
    let m : Word := BitVec.ofNat 32 (h.addr.toNat / 2 ^ 32)
    let s := (s.setQp n { x with
      accepted := x.accepted ++ [a]
      slotsHeld := if h.op = poSend ∧ m ∉ x.slotsHeld then m :: x.slotsHeld else x.slotsHeld }).noteAccepted d n p h
    ((State.runUp d n 257 s).noteEpoch d n).ackAfter d n h (h.psn == x.rcvNxt)

/-- A request that stands at RCV_NXT accepted: RCV_NXT advances by the PSNs that it uses (R176). -/
def State.acceptRequest (s : State) (d n : Nat) (p : Packet) (h : BfIn) (psns : Nat) : State :=
  match s.qp n with
  | none => s
  | some x =>
    let nxt := x.rcvNxt + BitVec.ofNat 32 psns
    let s := (s.setQp n { x with rcvNxt := nxt, rcvWraps := x.rcvWraps + b2n (decide (nxt.toNat < x.rcvNxt.toNat)) }).noteAccepted
      d n p h
    ((State.runUp d n 257 s).noteEpoch d n).ackAfter d n h true

/-- Data placed by transport RX (engine 6), or the NAK that its placement calls for (R187, R191). -/
def State.placeData (s : State) (d n : Nat) (x : Qp) (p : Packet) (h : BfIn) (addr : Word64) (bs : List Byte) : State :=
  if gaEndpoint addr != s.endpoint d then s.nak d n h.psn nakAccessDenied else
  match s.writeWhole d 6 x.fn (gaOffset addr) bs with
  | (.ok _, s) => (s.count (rxPage d) Ctr.rxBytesPlaced bs.length).accept d n p h bs.length
  | (.fault k o, s) => (s.fault d 6 x.fn o k true none s.now).nak d n h.psn nakFaultWait
  | (_, s) => s.nak d n h.psn nakAccessDenied

/-- A WRITE or WRITE_NOTIFY packet within reach (R168, R176). -/
def State.rxWrite (s : State) (d n : Nat) (x : Qp) (p : Packet) (h : BfIn) (bs : List Byte) : State :=
  s.placeData d n x p h h.addr bs

/-- A SEND packet within reach (R171, R172). -/
def State.rxSend (s : State) (d n : Nat) (x : Qp) (p : Packet) (h : BfIn) (bs : List Byte) : State :=
  let m : Word := BitVec.ofNat 32 (h.addr.toNat / 2 ^ 32)
  let off := h.addr.toNat % 2 ^ 32
  if x.recvSlots = 0 ∨ 2 ^ x.log2Slot < off + bs.length then s.nak d n h.psn nakInvalid
  else if x.slotsHeld.any fun k => k != m && k.toNat % x.recvSlots == m.toNat % x.recvSlots then
    s.nak d n h.psn nakRnr
  else s.placeData d n x p h (x.slotAddr m + BitVec.ofNat 64 off) bs

/-- A responder's READ (R168, R187, R191): its source is translated before the request is accepted. -/
def State.rxRead (s : State) (d n : Nat) (x : Qp) (p : Packet) (h : BfIn) (dst : Word64) (duplicate : Bool) : State :=
  let len := h.aux.toNat
  let reply : OwedReply := { psn := h.psn, txCount := h.tx, atomic := false, src := h.addr, dst := dst, length := len }
  if len = 0 ∨ 1048576 < len then s.nak d n h.psn nakInvalid
  else if gaEndpoint h.addr != s.endpoint d then s.nak d n h.psn nakAccessDenied
  else
    match State.translateParts d 5 x.fn (gaOffset h.addr) false (blocks (gaOffset h.addr) len) s with
    | ((.ok _, _), s) =>
      let s := s.onQp n fun y => { y with owed := y.owed ++ [reply] }
      if duplicate then s.ack d n else s.acceptRequest d n p h (segments dst.toNat len)
    | ((.fault k o, _), s) => (s.fault d 5 x.fn o k false none s.now).nak d n h.psn nakFaultWait
    | (_, s) => s.nak d n h.psn nakAccessDenied

/-- A responder's ATOMIC_ADD at RCV_NXT (R168, R176, R187, R191, R487). -/
def State.rxAtomic (s : State) (d n : Nat) (x : Qp) (p : Packet) (h : BfIn) (addend : Nat) : State :=
  let off := gaOffset h.addr
  if h.addr.toNat % 8 ≠ 0 then s.nak d n h.psn nakInvalid
  else if gaEndpoint h.addr != s.endpoint d then s.nak d n h.psn nakAccessDenied
  else
    match State.translateParts d 6 x.fn off true [(0, 8)] s with
    | ((.ok _, ts), s) =>
      let pa := ((ts.head?).map fun t => t.2.pa off).getD 0
      if s.poisoned d pa then
        ((s.count (integrityFnPage d x.fn) Ctr.integrityFnPoisonedReads).acceptRequest d n p h 1).nak d n h.psn nakPoisoned
      else
        let old : Word64 := BitVec.ofNat 64 (fromLE (s.bytes d pa 8))
        let s := s.count (memPage d pa) Ctr.memCtlReadBytes 8
        let s := (s.write d 6 x.fn off (toLE 8 (old + BitVec.ofNat 64 addend).toNat)).2
        let reply : OwedReply := { psn := h.psn, txCount := h.tx, atomic := true, src := h.addr, dst := 0, length := 8
                                   value := old }
        (s.onQp n fun y => { y with owed := y.owed ++ [reply], replay := ((h.psn, old) :: y.replay).take 2 }).acceptRequest
          d n p h 1
    | ((.fault k o, _), s) => (s.fault d 6 x.fn o k true none s.now).nak d n h.psn nakFaultWait
    | (_, s) => s.nak d n h.psn nakAccessDenied

/-- A data or request packet by its PSN (R163, R176). -/
def State.rxSequenced (s : State) (d n : Nat) (x : Qp) (p : Packet) (h : BfIn) (bs : List Byte) : State :=
  let ahead := (h.psn - x.rcvNxt).toNat
  let behind := (x.rcvNxt - h.psn).toNat
  let isRequest := h.op == poReadRequest || h.op == poAtomicRequest
  if x.state == .error then s.nak d n h.psn nakQpError
  else if (0 < behind ∧ behind ≤ 4096) ∨ x.accepted.any (·.psn == h.psn) then
    let s := s.count (rxPage d) Ctr.rxDuplicates
    if h.op = poReadRequest then s.rxRead d n x p h (BitVec.ofNat 64 (fromBE bs)) true
    else
      let s := match h.op == poAtomicRequest, x.replay.find? (·.1 == h.psn) with
        | true, some r => s.onQp n fun y => { y with
            owed := y.owed ++ [({ psn := h.psn, txCount := h.tx, atomic := true, src := h.addr, dst := 0, length := 8,
                                  value := r.2 } : OwedReply)] }
        | _, _ => s
      s.ack d n
  else if ahead < 256 then
    if isRequest && ahead != 0 then s.ack d n
    else if h.op = poReadRequest then s.rxRead d n x p h (BitVec.ofNat 64 (fromBE bs)) false
    else if h.op = poAtomicRequest then s.rxAtomic d n x p h (fromBE bs)
    else if h.op = poSend then s.rxSend d n x p h bs
    else if h.op = poAbort then s.accept d n p h 0
    else s.rxWrite d n x p h bs
  else if ahead < 4096 then (s.count (rxPage d) Ctr.rxBeyondReach).ack d n
  else s.count (rxPage d) Ctr.rxPsnOutOfWindow

/-! ### Acknowledgement and retransmission (R179 to R185, R190) -/

/-- RTO from SRTT and RTTVAR (R180), in ns. -/
def rtoOf : Option (Rat × Rat) → Nat
  | none => 40000
  | some (srtt, var) => min 8000000 (max 8000 (srtt + 4 * var).floor.toNat)

/-- SRTT and RTTVAR after a sample (R180). -/
def rttAfter (r : Nat) : Option (Rat × Rat) → Rat × Rat
  | none => (r, (r : Rat) / 2)
  | some (srtt, var) =>
    let dev := if (r : Rat) < srtt then srtt - r else (r : Rat) - srtt
    (7 * srtt / 8 + (r : Rat) / 8, 3 * var / 4 + dev / 4)

/-- A register of the curve page of a class. -/
abbrev curvePage (d c : Nat) : Page := ⟨d, .curve, c⟩
abbrev rateCtlPage (d : Nat) : Page := ⟨d, .rateCtl, 0⟩

/-- Entry `i` of the delay (0) or ECN (1) curve of a class in its active bank (R236). -/
def State.curveEntry (s : State) (d c which i : Nat) : Nat :=
  let w := s.reg (curvePage d c) (0x200 + 0x80 * (s.reg (curvePage d c) 0x100 % 2) + 0x40 * which + 4 * (i / 2))
  if i % 2 = 1 then bits w 31 16 else bits w 15 0

/-- R after a factor, between RATE_MIN and RATE_MAX of the class (R229, R233). -/
def State.rateTimes (s : State) (d c rate factor : Nat) : Nat :=
  min (s.reg (curvePage d c) 0x114 * 1024) (max (s.reg (curvePage d c) 0x10C * 1024) (rate * factor / 32768))

/-- Whether rate control is in force for a class (R235). -/
def State.ccOn (s : State) (d c : Nat) : Bool := bit (s.reg (rateCtlPage d) 0x100) (8 + c)

/-- Bits [31:0] of fabric time (R237). -/
def State.time32 (s : State) (d : Nat) : Nat := (s.time d).toNat % 2 ^ 32

/-- An ACK or NAK for a queue pair counts towards its next rate update, and starts it when it is due (R231 to R233). -/
def State.rateUpdate (s : State) (d n data ce : Nat) : State :=
  match s.qp n with
  | none => s
  | some x =>
    let x := { x with acksSince := min 15 (x.acksSince + 1), ccData := min 1048575 (x.ccData + data)
                      ccCe := min 1048575 (x.ccCe + ce) }
    let since := (s.time32 d + 2 ^ 32 - x.ccTime) % 2 ^ 32
    let due := decide (bits (s.reg (rateCtlPage d) 0x100) 3 0 ≤ x.acksSince) ||
      (match x.rtt with | some (srtt, _) => decide (srtt ≤ ((since : Nat) : Rat)) | none => false)
    if !s.ccOn d x.tclass || !due then s.setQp n x else
    let delay := x.ccRtt.map fun r =>
      s.curveEntry d x.tclass 0 (min 31 ((r - s.reg (curvePage d x.tclass) 0x104) / max 1 (s.reg (curvePage d x.tclass) 0x108)))
    let ecn := if 0 < x.ccData then some (s.curveEntry d x.tclass 1 (min 31 (x.ccCe * 32 / x.ccData))) else none
    let x := { x with ccTime := s.time32 d }
    match delay, ecn with
    | none, none => s.setQp n x
    | a, b =>
      let factor := min (a.getD 0x10000) (b.getD 0x10000)
      s.setQp n { x with rate := s.rateTimes d x.tclass x.rate factor, acksSince := 0, ccData := 0, ccCe := 0, ccRtt := none }

/-- R after an expiry (R234). -/
def State.rateCut (s : State) (d n : Nat) : State :=
  match s.qp n with
  | none => s
  | some x =>
    if !s.ccOn d x.tclass then s else
    s.setQp n { x with rate := s.rateTimes d x.tclass x.rate (s.curveEntry d x.tclass 1 31), acksSince := 0, ccData := 0
                       ccCe := 0, ccRtt := none, ccTime := s.time32 d }

/-- The entries that stand for their PSN or request when it is sent again: each unacknowledged PSN, and of a READ_REQUEST
its first PSN without an answer. -/
def Qp.resendable (x : Qp) (p : SentPsn → Bool) : List Word :=
  let open_ := x.sent.filter fun r => !r.acked
  (open_.filter fun r => p r &&
    (!(r.kind == .readRequest || r.kind == .readResponse) ||
      (open_.find? fun t => t.request == r.request).map SentPsn.psn == some r.psn)).map SentPsn.psn

/-- The named PSNs fall due to be sent again; one that would need a sixteenth retransmission ends the queue pair (R184). -/
def State.makeDue (s : State) (n : Nat) (timed : Bool) (psns : List Word) : State :=
  match s.qp n with
  | none => s
  | some x =>
    if x.sent.any fun r => psns.contains r.psn && decide (15 ≤ r.txCount) then s.qpError n stTransportTimeout 2
    else s.setQp n { x with
      sent := x.sent.map fun r => if psns.contains r.psn then { r with due := true, timed := timed } else r }

/-- SND_UNA advances over acknowledged PSNs: the retry count, RTO and timer start anew, and operations end (R168, R182). -/
def State.advance (s : State) (n : Nat) : State :=
  match s.qp n with
  | none => s
  | some x =>
    let rest := x.sent.dropWhile (·.acked)
    let una := match rest with | r :: _ => r.psn | [] => x.sndNxt
    let x := if una = x.sndUna then x else
      { x with sent := rest, sndUna := una, retries := 0, rto := rtoOf x.rtt, rnrRun := 0
               timer := !rest.isEmpty && x.fault.remote.isNone }
    (s.setQp n x).endOps n

/-- A remote fault ends once the PSN of its NAK is acknowledged, or its request has a response (R190). -/
def State.settleRemote (s : State) (n : Nat) : State :=
  s.onQp n fun x =>
    match x.fault.remote with
    | none => x
    | some (p, _) =>
      if x.sent.any fun r => r.request == p && !r.acked && !(x.sent.any fun t => t.request == p && t.acked) then x
      else
        Qp.resume { x with fault := { x.fault with remote := none }, retries := 0, rto := rtoOf x.rtt
                           timer := x.sent.any fun r => !r.acked }

/-- The named PSNs acknowledged. -/
def Qp.markAcked (x : Qp) (p : SentPsn → Bool) : Qp :=
  { x with sent := x.sent.map fun r => if p r then { r with acked := true, due := false } else r }

/-- Whether a PSN is one of a READ_REQUEST or ATOMIC_REQUEST, which only its response acknowledges (R168). -/
def SentPsn.isRequest (r : SentPsn) : Bool := r.kind == .readRequest || r.kind == .readResponse || r.kind == .atomic

/-- An ACK (R168, R179 to R181, R190, R231): samples, marks, advances, and finds lost PSNs. -/
def State.rxAck (s : State) (d n : Nat) (x : Qp) (h : BfIn) (bs : List Byte) : State :=
  if x.state != .rts && x.state != .faultWait then s else
  if (x.sndNxt - x.sndUna).toNat < (h.psn - x.sndUna).toNat then s else
  let map := be bs 0 32
  let data := be bs 32 2
  let ce := be bs 34 2
  let shown (r : SentPsn) : Bool :=
    let k := (r.psn - h.psn).toNat
    before r.psn h.psn || (decide (0 < k ∧ k < 256) && bit map k)
  let x : Qp := match x.sent.find? fun r => r.sampled && r.psn == h.aux && r.txCount == 0 with
    | some r =>
      let rtt := s.now - r.sentAt
      { x with rtt := some (rttAfter rtt x.rtt), ccRtt := some (min rtt 16777215), lastSample := s.now
               sent := x.sent.map fun t => { t with sampled := false } }
    | none => x
  let x := x.markAcked fun r => (r.kind == .data || r.kind == .abort) && shown r
  let s := ((s.setQp n x).advance n).settleRemote n
  let top := (List.range 256).reverse.find? (bit map)
  let s := match top, s.qp n with
    | some k, some x =>
      if k = 0 then s else
      s.makeDue n false (x.resendable fun r =>
        let gap := (h.psn + BitVec.ofNat 32 k - r.psn).toNat
        !r.due && decide (x.reorder ≤ gap ∧ gap < 2 ^ 31) && !(r.isRequest && before r.psn h.psn) &&
          (match r.resent with | some t => decide (t + x.rto ≤ s.now) | none => true))
    | _, _ => s
  s.rateUpdate d n data ce

/-- An expiry of the timer, or a NAK RNR treated as one for the PSNs named (R182, R183, R187, R234). -/
def State.expire (s : State) (d n : Nat) (x : Qp) (rnr : Bool) (psns : List Word) : State :=
  let s := s.count (txPage d) Ctr.txRtoExpiries
  let run := if rnr then x.rnrRun + 1 else 0
  if x.retryLimit ≤ x.retries then s.qpError n stTransportTimeout (if 3 ≤ run then 3 else 1)
  else
    ((s.setQp n { x with rto := min 8000000 (2 * x.rto), retries := x.retries + 1, rnrRun := run }).makeDue n true psns).rateCut
      d n

/-- The PSNs of a request or READ marked answered, and its descriptor cut short with a status (R187, R677). -/
def State.answered (s : State) (n : Nat) (p : SentPsn → Bool) (op : Word) (flush : Bool) (status detail : Nat) : State :=
  let s := s.onQp n fun x =>
    (x.onOp op flush fun o => if o.short.isSome then o else { o with short := some (status, detail), cut := true }).markAcked p
  (s.advance n).settleRemote n

/-- A NAK (R187). -/
def State.rxNak (s : State) (d n : Nat) (x : Qp) (h : BfIn) : State :=
  if x.state != .rts && x.state != .faultWait then s else
  let s := s.rateUpdate d n 0 0
  match x.sent.find? (fun r => r.psn == h.psn && !r.acked), s.qp n with
  | some r, some x =>
    match bits h.aux.toNat 7 0 with
    | 1 => if x.fault.remote.isSome then s.makeDue n true [r.psn] else s.expire d n x true [r.psn]
    | 2 =>
      s.qpFault n (fun f => { f with remote := some (f.remote.getD (r.request, s.now)) }) |>.onQp n
        fun x => { x with timer := false }
    | 3 => s.qpError n stAccessDenied dtRemote
    | 4 => s.answered n (·.request == r.request) r.op r.flush stPoisoned dtRemote
    | 5 => s.answered n (·.request == r.request) r.op r.flush stTallyFailed dtRemote
    | 6 => s.qpError n stQpError 4
    | _ => s.qpError n stQpError 8
  | _, _ => s

/-- The response on one PSN accepted. -/
def State.responded (s : State) (n : Nat) (psn : Word) : State :=
  ((s.onQp n fun x => x.markAcked (·.psn == psn)).advance n).settleRemote n

/-- A READ_RESPONSE or ATOMIC_RESPONSE (R168, R677). -/
def State.rxResponse (s : State) (d n : Nat) (x : Qp) (h : BfIn) (bs : List Byte) : State :=
  if x.state != .rts && x.state != .faultWait then s else
  match x.sent.find? fun r => r.psn == h.psn && !r.acked &&
      (if h.op = poAtomicResponse then r.kind == .atomic else r.kind == .readRequest || r.kind == .readResponse) with
  | none => s.count (rxPage d) Ctr.rxDuplicates
  | some r =>
    if h.op = poAtomicResponse then
      (s.onQp n fun x => x.onOp r.op r.flush fun o => { o with value := BitVec.ofNat 64 (fromBE bs) }).responded n r.psn
    else if r.flush then s.responded n r.psn
    else if gaEndpoint h.addr != s.endpoint d then
      s.answered n (fun t => t.op == r.op && t.flush == r.flush) r.op r.flush stAccessDenied dtLocal
    else
      match s.writeWhole d 6 x.fn (gaOffset h.addr) bs with
      | (.ok _, s) => (s.count (rxPage d) Ctr.rxBytesPlaced bs.length).responded n r.psn
      | (.fault k o, s) =>
        (s.fault d 6 x.fn o k true (some n) s.now).qpFault n fun f =>
          let e := (r.request, o / 2 ^ 25)
          { f with replies := if f.replies.contains e then f.replies else f.replies ++ [e] }
      | (_, s) => s.answered n (fun t => t.op == r.op && t.flush == r.flush) r.op r.flush stAccessDenied dtLocal

/-- A queue pair without a head packet is idle, except in FAULT_WAIT (R222, R243). -/
def State.noteIdle (s : State) (n : Nat) : State :=
  s.onQp n fun x => if x.state != .faultWait && x.head?.isNone then { x with idle := true, escaped := false } else x

/-! ### The way of a received packet (R165, R186, R195 to R209) -/

/-- A packet dropped under R165 or R209. -/
def State.mismatch (s : State) (d : Nat) : State := s.count (rxPage d) Ctr.rxPeerMismatchDrops

/-- Whether a packet names a queue pair's function and comes from its peer (R209). -/
def Qp.admitsFrom (x : Qp) (p : Packet) (h : BfIn) : Bool :=
  x.state != .init && h.mgr == (x.fn == 0) && h.part == (if x.fn = 0 then 0 else x.fn - 1) && p.source.toNat == x.peer

/-- A packet whose queue pair's context is at hand: checked, opened, its tallies checked, and acted on (R165, R186, R201 to
R204, R209). -/
def State.rxChecked (s : State) (d : Nat) (p : Packet) (h : BfIn) : State :=
  let n := h.dest
  match s.qp n with
  | none => s.mismatch d
  | some x =>
    let tag := if x.gcm then 16 else 0
    if !x.admitsFrom p h || decide (p.body.length < 24 + tag) then s.mismatch d else
    match bfPayload h (p.body.length - 24 - tag) with
    | none => s.mismatch d
    | some k =>
      let opened := if x.gcm != h.gcm then none else if x.gcm then s.openPacket x p h else some (p.body.drop 24, 0)
      match opened with
      | none => s.count (rxPage d) Ctr.rxGcmDiscards
      | some (text, seq) =>
        let bs := text.take k
        if tallies (tallyBase h.op h.addr) bs != text.drop k then s.count (rxPage d) Ctr.rxTallyDiscards
        else
          let isAck := h.op == poAck || h.op == poNak
          let old := match x.peerAckSeq with | some q => !before q seq | none => false
          if x.gcm && isAck && old then s.count (rxPage d) Ctr.rxGcmDiscards else
          let x := if x.gcm && isAck then
              { x with peerAckSeq := some seq
                       peerAckWraps := x.peerAckWraps + b2n (decide (seq.toNat < (x.peerAckSeq.getD 0).toNat)) }
            else x
          let s := s.setQp n x
          (if h.op = poAck then s.rxAck d n x h bs
           else if h.op = poNak then s.rxNak d n x h
           else if h.op = poReadResponse ∨ h.op = poAtomicResponse then s.rxResponse d n x h bs
           else s.rxSequenced d n x p h bs).noteIdle n

/-- A packet that reaches transport RX: through the context cache, or into the miss list (R195 to R199, R209). -/
def State.rxPacket (s : State) (d : Nat) (p : Packet) (h : BfIn) : State :=
  if !bfKnown h.op || h.reserved || (s.qp h.dest).isNone || s.qpDie h.dest != d ||
      (h.op == poNak && !decide (1 ≤ bits h.aux.toNat 7 0 ∧ bits h.aux.toNat 7 0 ≤ 7)) then s.mismatch d
  else if s.ctxCached d h.dest then ((s.count (txPage d) Ctr.txCtxHits).ctxTouch d h.dest).rxChecked d p h
  else if 256 ≤ (s.die d).tx.misses.length then s.count (rxPage d) Ctr.rxCtxMissDrops
  else (s.onTx d fun t => { t with misses := t.misses ++ [p] }).ctxFetch d h.dest false

/-- A packet that a command names by its opcode, and a NAK by its code. A packet of another opcode of R165 is not the
command's. -/
def State.receive (s : State) (d op code : Nat) (p : Packet) : Result :=
  atDie s d <|
    match bfIn p with
    | none => (s.takeLocal d p).mismatch d
    | some h =>
      let c := bits h.aux.toNat 7 0
      if bfKnown h.op && (h.op != op || (op == poNak && c != code && decide (1 ≤ c ∧ c ≤ 7))) then s
      else (s.takeLocal d p).rxPacket d p h

/-- WRITE_PACKET (R176). -/
def execWritePacket (d : Nat) (p : Packet) (s : State) : Result := s.receive d poWrite 0 p

/-- WRITE_NOTIFY_PACKET (R173, R176). -/
def execWriteNotifyPacket (d : Nat) (p : Packet) (s : State) : Result := s.receive d poWriteNotify 0 p

/-- SEND_PACKET (R171 to R173). -/
def execSendPacket (d : Nat) (p : Packet) (s : State) : Result := s.receive d poSend 0 p

/-- READ_REQUEST (R155, R168, R191). -/
def execReadRequest (d : Nat) (p : Packet) (s : State) : Result := s.receive d poReadRequest 0 p

/-- READ_RESPONSE (R677). -/
def execReadResponse (d : Nat) (p : Packet) (s : State) : Result := s.receive d poReadResponse 0 p

/-- ATOMIC_REQUEST (R168, R176). -/
def execAtomicRequest (d : Nat) (p : Packet) (s : State) : Result := s.receive d poAtomicRequest 0 p

/-- ATOMIC_RESPONSE (R168). -/
def execAtomicResponse (d : Nat) (p : Packet) (s : State) : Result := s.receive d poAtomicResponse 0 p

/-- MSG_ABORT (R174). -/
def execMsgAbort (d : Nat) (p : Packet) (s : State) : Result := s.receive d poAbort 0 p

/-- ACK (R181). -/
def execAck (d : Nat) (p : Packet) (s : State) : Result := s.receive d poAck 0 p

/-- The NAKs (R187, R190). -/
def execNakRnr (d : Nat) (p : Packet) (s : State) : Result := s.receive d poNak nakRnr p
def execNakFaultWait (d : Nat) (p : Packet) (s : State) : Result := s.receive d poNak nakFaultWait p
def execNakAccessDenied (d : Nat) (p : Packet) (s : State) : Result := s.receive d poNak nakAccessDenied p
def execNakPoisoned (d : Nat) (p : Packet) (s : State) : Result := s.receive d poNak nakPoisoned p
def execNakTallyFailed (d : Nat) (p : Packet) (s : State) : Result := s.receive d poNak nakTallyFailed p
def execNakQpError (d : Nat) (p : Packet) (s : State) : Result := s.receive d poNak nakQpError p
def execNakInvalidRequest (d : Nat) (p : Packet) (s : State) : Result := s.receive d poNak nakInvalid p

/-! ### Timers and the context store (R177, R182, R190, R197 to R200) -/

/-- A command about a queue-pair number: nothing where the queue pair is ABSENT, the fault of R152 beyond its range. -/
def atQp (s : State) (n : Nat) (f : Qp → State) : Result :=
  if 262144 ≤ n then .fault .noSuchUnit else
  match s.qp n with
  | some x => .next (f x)
  | none => .next s

/-- ACK_TIMER (R177). -/
def execAckTimer (qp : Nat) (s : State) : Result :=
  atQp s qp fun x => if x.ackTimer then s.ack (s.qpDie qp) qp else s

/-- RTO_EXPIRY (R182, R183). -/
def execRtoExpiry (qp : Nat) (s : State) : Result :=
  atQp s qp fun x =>
    if x.timer && x.fault.remote.isNone && (x.state == .rts || x.state == .faultWait) && x.sent.any (!·.acked) then
      s.expire (s.qpDie qp) qp x false (x.resendable fun _ => true)
    else s

/-- FAULT_WAIT_PROBE (R190). -/
def execFaultWaitProbe (qp : Nat) (s : State) : Result :=
  atQp s qp fun x =>
    match x.fault.remote with
    | some (p, _) => s.makeDue qp true (x.resendable (·.request == p))
    | none => s

/-- FAULT_WAIT_LIMIT (R190). -/
def execFaultWaitLimit (qp : Nat) (s : State) : Result :=
  atQp s qp fun x => if x.fault.remote.isSome then s.qpError qp stTranslationFault dtRemote else s

/-- CONTEXT_FETCH_DONE (R197 to R199): the context is cached, its waiting packets are taken, and fetches that waited for a
free one start. -/
def execContextFetchDone (qp : Nat) (s : State) : Result :=
  if 262144 ≤ qp then .fault .noSuchUnit else .next <|
    let d := s.qpDie qp
    let t := (s.die d).tx
    match t.fetches.find? (·.qp == qp) with
    | none => s
    | some f =>
      let mine (p : Packet) : Bool := (bfIn p).map BfIn.dest == some qp
      let s := s.onTx d fun t => { t with
        fetches := t.fetches.filter (·.qp != qp), misses := t.misses.filter fun p => !mine p
        cache := ⟨qp, f.way, false, f.prefetch⟩ :: t.cache }
      let s := (t.misses.filter mine).foldl (fun s p =>
        match bfIn p with
        | some h => (s.ctxTouch d qp).rxChecked d p h
        | none => s) s
      (s.die d).tx.misses.foldl (fun s p =>
        match bfIn p with
        | some h => s.ctxFetch d h.dest false
        | none => s) s

/-- CONTEXT_PREFETCH (R200). -/
def execContextPrefetch (qp : Nat) (s : State) : Result :=
  atQp s qp fun _ => s.ctxFetch (s.qpDie qp) qp true

/-! ### Outcomes of translation faults (R189, R353, R354, R677) -/

/-- A page key is resolved for the queue pairs that wait on it: sources are read again, and READ_REQUESTs whose responses
faulted are sent again at once. -/
def State.qpResolve (s : State) (key : Nat) (r : FaultRec) : State :=
  let s := r.tx.foldl (fun s n =>
    match s.qp n with
    | none => s
    | some x =>
      match x.fault.source with
      | some (p, k) =>
        if k != key then s else
        let s := s.setQp n (Qp.resume { x with fault := { x.fault with source := none } })
        match p with
        | some psn => s.makeDue n false (x.resendable (·.psn == psn))
        | none => s
      | none => s) s
  r.rx.foldl (fun s n =>
    match s.qp n with
    | none => s
    | some x =>
      let mine := (x.fault.replies.filter (·.2 == key)).map Prod.fst
      let s := s.setQp n (Qp.resume { x with fault := { x.fault with replies := x.fault.replies.filter (·.2 != key) } })
      s.makeDue n false (x.resendable fun t => mine.contains t.request)) s

/-- A fault record aborts for the queue pairs that wait on it: the message or READ ends with TRANSLATION_FAULT, LOCAL. -/
def State.qpAbort (s : State) (key : Nat) (r : FaultRec) : State :=
  let s := r.tx.foldl (fun s n =>
    match s.qp n with
    | none => s
    | some x =>
      match x.fault.source with
      | some (p, k) =>
        if k != key then s else
        let s := s.setQp n (Qp.resume { x with fault := { x.fault with source := none } })
        match p with
        | some psn =>
          match x.sent.find? (·.psn == psn) with
          | some t => s.abortPsn n t stTranslationFault
          | none => s
        | none =>
          match x.ops.find? fun o => !o.cut with
          | some o => s.cutShort n o stTranslationFault dtLocal
          | none => s
      | none => s) s
  r.rx.foldl (fun s n =>
    match s.qp n with
    | none => s
    | some x =>
      let mine := (x.fault.replies.filter (·.2 == key)).map Prod.fst
      let s := s.setQp n (Qp.resume { x with fault := { x.fault with replies := x.fault.replies.filter (·.2 != key) } })
      (x.sent.filter fun t => mine.contains t.request).foldl (fun s t =>
        s.answered n (fun u => u.op == t.op && u.flush == t.flush) t.op t.flush stTranslationFault dtLocal) s) s

end Sys2Proof.Machine
end

