-- ==== Sys2Proof/Machine/Scheduler.lean ====
section
/-!
DEFINITION. Egress schedulers (R211 to R243): flows and their tags, one selection, token buckets, marking, pacing, escape
moves, and the sampling of depth and delay.
-/

namespace Sys2Proof.Machine

/-- The page of an egress scheduler. -/
abbrev schedPage (d i : Nat) : Page := ⟨d, .sched, i⟩

/-- The router port of an egress scheduler (R211, R244). -/
def schedPort (i : Nat) : Nat := if i < 2 then i else if i < 6 then 2 else i - 3

/-- The class of an egress scheduler, by die. -/
def State.schedClass (s : State) (d i c : Nat) : SchedClass :=
  ((((s.die d).scheds[i]?).bind fun x => x.classes[c]?)).getD {}

/-- A class of an egress scheduler changed. -/
def State.onClass (s : State) (d i c : Nat) (f : SchedClass → SchedClass) : State :=
  s.onDie d fun x => { x with scheds := modifyAt x.scheds i fun y => { y with classes := modifyAt y.classes c f } }

/-- Registers of a class. -/
def State.classReg (s : State) (d i c off : Nat) : Nat := s.reg (schedPage d i) (off + 0x10 * c)

/-- Charged length of a packet with LENGTH `n` at a port (R214). -/
def State.charged (s : State) (d i n : Nat) : Nat := 16 + n + bits (s.reg (schedPage d i) 0x100) 7 0

/-! ### Flows and their head packets (R212, R213) -/

/-- Whether a held packet waits at an egress scheduler. -/
def State.heldAt (s : State) (d i : Nat) (h : HeldPacket) : Bool :=
  !h.drain && h.port == schedPort i && (i < 2 || 6 ≤ i || s.ethPortFor d h.pkt == some (i - 2))

/-- The packet of a queue pair by which its route is chosen: its fields of R245, and no body yet. -/
def State.routeProbe (s : State) (d : Nat) (x : Qp) (h : Head) : Packet :=
  { ownPacket (s.endpoint d) x.peer x.tclass ptBrevefold (toBE 4 (x.peerQp * 2 ^ 14)) with
      edition := s.injectEdition d, escape := x.escaped, length := BitVec.ofNat 14 (x.headLength h) }

/-- Where the head packet of a queue pair goes: an egress scheduler, or none of them. -/
def State.headSched (s : State) (d : Nat) (x : Qp) (h : Head) : Option Nat :=
  let p := s.routeProbe d x h
  match s.choose d p with
  | .port k _ _ => if k = 2 then (s.ethPortFor d p).map (· + 2) else some (if k < 2 then k else k + 3)
  | .hold _ _ => none
  | _ => some 10

/-- The queue pairs of a die whose head packet goes to scheduler `i`. -/
def State.qpsAt (s : State) (d i : Nat) : List (Nat × Qp × Head) :=
  s.qps.filterMap fun e =>
    if s.qpDie e.1 != d then none else
    match e.2.head? with
    | some h => if s.headSched d e.2 h == some i then some (e.1, e.2, h) else none
    | none => none

/-- Start tag of a flow that wakes (R222). -/
def State.wakeTag (s : State) (d i c w : Nat) (old : Option (BitVec 48)) : BitVec 48 :=
  let v := (s.schedClass d i c).v
  if bit (s.classReg d i c 0x140) 30 then
    let a := old.getD v
    let b := v - BitVec.ofNat 48 (ceilDiv (s.classReg d i c 0x148 * 256) (max 1 w))
    if tagBefore a b then b else a
  else v

/-- The weight of a flow that is no queue pair (R212). -/
def State.flowWeight (s : State) (d i c flow : Nat) : Nat :=
  if 262144 ≤ flow ∧ flow < 262152 then bits (s.classReg d i c 0x140) 23 16 else bits (s.classReg d i c 0x140) 15 8

/-- Flows with a head packet that were idle wake, and flows without one are idle (R222). -/
def State.refreshFlows (s : State) (d i : Nat) : State :=
  let at_ := (s.die d).router.held.filter (s.heldAt d i)
  let s := (List.range 8).foldl (fun s c =>
    let now := ((at_.filter fun h => h.pkt.tclass.toNat == c && h.flow != flowAck).map HeldPacket.flow).eraseDups
    s.onClass d i c fun k =>
      let kept := k.flows.map fun f =>
        if now.contains f.index then
          (if f.idle then { f with idle := false, tag := s.wakeTag d i c (s.flowWeight d i c f.index) (some f.tag) } else f)
        else { f with idle := true }
      let fresh := (now.filter fun j => !k.flows.any (·.index == j)).map fun j =>
        ({ index := j, tag := s.wakeTag d i c (s.flowWeight d i c j) none, idle := false } : Flow)
      { k with flows := kept ++ fresh }) s
  (s.qpsAt d i).foldl (fun s e =>
    let x := e.2.1
    if !x.idle && x.port == some i then s
    else
      s.setQp e.1 { x with
        idle := false, port := some i, headAt := s.now
        tag := s.wakeTag d i x.tclass x.weight (if x.port == some i then some x.tag else none) }) s

/-! ### Selection (R213, R215 to R227) -/

/-- Whether a class of a scheduler is paused (R224). -/
def State.classPaused (s : State) (d i c : Nat) : Bool :=
  decide (2 ≤ i ∧ i < 6) && (((s.ethPort d (i - 2)).rxPause[c]?).getD 0) != 0

/-- Whether the token bucket of a class lets it send (R218, R219). -/
def State.classTokens (s : State) (d i c : Nat) : Bool :=
  !bit (s.classReg d i c 0x140) 31 || decide (0 < (s.schedClass d i c).tokens)

/-- What a class can send: an ACK or NAK, a held packet of a flow, or a queue pair's head packet. -/
inductive Pick where
  | held (h : HeldPacket)
  | qp (n : Nat) (x : Qp) (h : Head)
  deriving DecidableEq, Repr

/-- The waiting ACK or NAK of a class whose channel holds credit (R215, R225). -/
def State.ackAt (s : State) (d i c : Nat) : Option HeldPacket :=
  (s.die d).router.held.find? fun h =>
    s.heldAt d i h && h.flow == flowAck && h.pkt.tclass.toNat == c && s.hasCredit d (schedPort i) (packetVc h.pkt) h.pkt

/-- The head packets of the flows of a class that hold credit, with tag and flow index (R213). A queue pair also needs its
pacing time and its source at hand; its context is looked at when it is picked. -/
def State.flowsAt (s : State) (d i c : Nat) : List (BitVec 48 × Nat × Pick) :=
  let heads := (s.schedClass d i c).flows.filterMap fun f =>
    (((s.die d).router.held.find? fun h => s.heldAt d i h && h.flow == f.index && h.pkt.tclass.toNat == c).bind fun h =>
      if s.hasCredit d (schedPort i) (packetVc h.pkt) h.pkt then some (f.tag, f.index, Pick.held h) else none)
  let qps := (s.qpsAt d i).filterMap fun e =>
    let x := e.2.1
    let p := s.routeProbe d x e.2.2
    if x.tclass == c && decide (x.pace ≤ (((s.time d).toNat : Nat) : Rat)) && s.sourceReady d e.1 e.2.2 &&
        s.hasCredit d (schedPort i) (packetVc p) p then some (x.tag, e.1, Pick.qp e.1 x e.2.2) else none
  heads ++ qps

/-- Whether one flow goes before another (R215). -/
def flowBefore (a b : BitVec 48 × Nat × Pick) : Bool := tagBefore a.1 b.1 || (a.1 == b.1 && decide (a.2.1 < b.2.1))

/-- Flows in the order in which a selection would take them. -/
def insertFlow (a : BitVec 48 × Nat × Pick) : List (BitVec 48 × Nat × Pick) → List (BitVec 48 × Nat × Pick)
  | [] => [a]
  | b :: l => if flowBefore a b then a :: b :: l else b :: insertFlow a l

/-- The first flow of a list that can be sent: a queue pair whose context is missing is skipped, and its fetch starts
(R198). -/
def State.firstFlow (d : Nat) : List (BitVec 48 × Nat × Pick) → State → Option (BitVec 48 × Nat × Pick) × State
  | [], s => (none, s)
  | f :: fs, s =>
    match f.2.2 with
    | .held _ => (some f, s)
    | .qp n _ _ => if s.ctxCached d n then (some f, s) else State.firstFlow d fs (s.ctxFetch d n false)

/-- Bytes held for a port in a class (R227, R228): the packets that wait in the packet buffer, and queue pairs' head
packets. -/
def State.depth (s : State) (d i c : Nat) : Nat :=
  (((s.die d).router.held.filter fun h => s.heldAt d i h && h.pkt.tclass.toNat == c).map fun h => 16 + h.pkt.length.toNat).sum +
  (((s.qpsAt d i).filter fun e => e.2.1.tclass == c).map fun e => 16 + e.2.1.headLength e.2.2).sum

/-- A packet sent by an egress scheduler: marked where its class is deep, its tokens taken, counted, and put on the wire
(R216 to R218, R227, R228, R276). -/
def State.sendBy (s : State) (d i c : Nat) (p : Packet) (deep : Nat) : State :=
  let pg := schedPage d i
  let ch := s.charged d i p.length.toNat
  let mark := bits (s.classReg d i c 0x14C) 15 0
  let marked := !p.ce && mark != 0 && decide (mark * 1024 < deep)
  let s := if marked then s.count pg (Ctr.schedMarkedClass + c) else s
  let s := if bit (s.classReg d i c 0x140) 31 then s.onClass d i c fun k => { k with tokens := k.tokens - 200 * ch } else s
  let s := (s.count pg (Ctr.schedPacketsClass + c)).count pg (Ctr.schedBytesClass + c) ch
  let p := { p with ce := p.ce || marked, hops := if isSingleLink p.ptype then p.hops else p.hops + 1 }
  if 2 ≤ i ∧ i < 6 then s.sendEth d (i - 2) (s.ethFrame d (i - 2) p)
  else
    match linkOfPort (schedPort i) with
    | some l => s.sendFrame d l (packetVc p) p
    | none => s

/-- V of a class and the tag of a flow after a selection (R220, R221). -/
def State.chargeFlow (s : State) (d i c : Nat) (tag : BitVec 48) : State :=
  s.onClass d i c fun k => { k with v := if tagBefore k.v tag then tag else k.v }

/-- A held packet sent (R215, R262, R279, R287). -/
def State.sendHeld (s : State) (d i c : Nat) (tag : Option (BitVec 48)) (h : HeldPacket) : State :=
  let deep := s.depth d i c - (16 + h.pkt.length.toNat)
  let s := s.onRouter d fun r => { r with held := r.held.filter (·.id != h.id) }
  let s := match tag with
    | some t =>
      (s.chargeFlow d i c t).onClass d i c fun k => { k with
        flows := k.flows.map fun (f : Flow) =>
          if f.index = h.flow then
            { f with tag := t + BitVec.ofNat 48 (ceilDiv (s.charged d i h.pkt.length.toNat * 256)
                              (max 1 (s.flowWeight d i c h.flow)))
                     idle := !(s.die d).router.held.any fun g =>
                       s.heldAt d i g && g.flow == h.flow && g.pkt.tclass.toNat == c }
          else f }
    | none => s
  ((s.sendBy d i c h.pkt deep).departed d h.pkt h.inPort h.vcIn h.units h.origin).noteOccupancy d

/-- The bookkeeping of a queue pair whose packet has been sent: tag, pacing time, idleness (R220, R222, R230). -/
def State.sentQp (s : State) (d n : Nat) (tag : BitVec 48) (weight ch : Nat) : State :=
  let t := (((s.time d).toNat : Nat) : Rat)
  (s.onQp n fun y => { y with
    tag := tag + BitVec.ofNat 48 (ceilDiv (ch * 256) (max 1 weight)), escaped := false, headAt := s.now
    pace := (if t ≤ y.pace then y.pace else t) + (ch * 8 * 1024 * 1000 : Nat) / ((max 1 y.rate : Nat) : Rat) }).noteIdle n

/-- R of a queue pair as its class holds it at a pacing decision: between RATE_MIN and RATE_MAX, and RATE_MAX without rate
control (R229, R235, R241). -/
def State.pacedRate (s : State) (d : Nat) (x : Qp) : Nat :=
  if s.ccOn d x.tclass then s.rateTimes d x.tclass x.rate 32768 else s.reg (curvePage d x.tclass) 0x114 * 1024

/-- A queue pair's head packet formed and sent; where its source gives none, the event that it gave (R168, R213, R279). -/
def State.sendQp (s : State) (d i c : Nat) (tag : BitVec 48) (n : Nat) (x : Qp) (h : Head) : State :=
  let deep := s.depth d i c - (16 + x.headLength h)
  let escape := x.escaped
  let x := { x with rate := s.pacedRate d x }
  let s := ((s.setQp n x).count (txPage d) Ctr.txCtxHits).ctxTouch d n
  match s.formHead d n x h with
  | (none, s) => s.noteIdle n
  | (some p, s) =>
    let p := { p with edition := s.injectEdition d, escape := escape }
    let s := (s.chargeFlow d i c tag).editionCount d p.edition (· + 1)
    let s := (s.sendBy d i c p deep).departed d p 7 0 0
    s.sentQp d n tag x.weight (s.charged d i p.length.toNat)

/-- One selection at a port (R215, R216). -/
def State.select (s : State) (d i : Nat) : State :=
  let s := s.refreshFlows d i
  let s := (s.qpsAt d i).foldl (fun s e => s.pullSource d e.1 e.2.1 e.2.2) s
  let open_ := (List.range 8).filter fun c => !s.classPaused d i c && s.classTokens d i c
  let eligible := open_.filter fun c => (s.ackAt d i c).isSome || (s.flowsAt d i c).any fun f =>
    match f.2.2 with
    | .held _ => true
    | .qp n _ _ => s.ctxCached d n
  let s := s.onDie d fun x => { x with scheds := modifyAt x.scheds i fun y => { y with eligible := maskOf eligible } }
  (open_.reverse.foldl (fun (r : Bool × State) c =>
    if r.1 then r else
    match r.2.ackAt d i c with
    | some h => (true, r.2.sendHeld d i c none h)
    | none =>
      match State.firstFlow d ((r.2.flowsAt d i c).foldr insertFlow []) r.2 with
      | (none, s) => (false, s)
      | (some (tag, _, .held h), s) => (true, s.sendHeld d i c (some tag) h)
      | (some (tag, _, .qp n x h), s) => (true, s.sendQp d i c tag n x h)) (false, s)).2

/-- The head packet of a queue pair that no egress port takes: its route is the local port, or none. It is formed and the
router delivers or discards it (R213, R274). -/
def State.selectLocal (s : State) (d : Nat) : State :=
  match (s.qpsAt d 10).find? fun e =>
      s.sourceReady d e.1 e.2.2 && decide (e.2.1.pace ≤ (((s.time d).toNat : Nat) : Rat)) with
  | none => (s.qpsAt d 10).foldl (fun s e => s.pullSource d e.1 e.2.1 e.2.2) s
  | some (n, x, h) =>
    if !s.ctxCached d n then s.ctxFetch d n false else
    let x := { x with rate := s.pacedRate d x }
    let s := ((s.setQp n x).count (txPage d) Ctr.txCtxHits).ctxTouch d n
    match s.formHead d n x h with
    | (none, s) => s.noteIdle n
    | (some p, s) =>
      (s.inject d { p with escape := x.escaped } n).sentQp d n x.tag x.weight (16 + p.length.toNat)

/-- SCHEDULER_SELECTION (R215). Instance 10 stands for the packets of queue pairs that no egress port takes. DESIGN CHOICE
(notes/assumptions/15.md); safe. -/
def execSchedulerSelection (d i : Nat) (s : State) : Result :=
  atUnit s d (decide (i ≤ 10)) <|
    if (s.die d).fwdReset then s
    else if i = 10 then s.selectLocal d
    else if s.portState d (schedPort i) != .up || (decide (2 ≤ i ∧ i < 6) && !s.ethUp d (i - 2)) then s
    else s.select d i

/-! ### Escape moves (R275, R293) -/

/-- ESCAPE_WAIT_EXPIRY (R275): packet `n` − 2^18 of the router, or the head packet of queue pair `n`, has waited
ESCAPE_WAIT_NS. -/
def execEscapeWaitExpiry (d port n : Nat) (s : State) : Result :=
  atUnit s d (decide (port < 8)) <|
    let stuck (mask : Nat) (p : Packet) : Bool := (s.usable d mask).all fun k => !s.hasCredit d k (packetVc p) p
    if 262144 ≤ n then
      match (s.die d).router.held.find? fun h => h.id == n - 262144 && h.port == port with
      | none => s
      | some h =>
        match h.escape with
        | none => s
        | some k =>
          if h.pkt.escape || h.drain || isPackageType h.pkt.ptype || !stuck h.mask h.pkt then s
          else if s.portState d k != .up then
            (s.onRouter d fun r => { r with held := r.held.filter (·.id != h.id) }).discard d h.pkt h.inPort h.vcIn h.units
              Ctr.router0DrainDiscards h.origin
          else
            let p := { h.pkt with escape := true }
            if s.hasCredit d k (packetVc p) p then
              (s.onRouter d fun r => { r with
                held := r.held.map fun g => if g.id = h.id then { g with pkt := p, port := k, mask := 2 ^ k } else g }).count
                (routerPage d) Ctr.router0EscapeMoves
            else s
    else
      match s.qp n with
      | none => s
      | some x =>
        match x.head? with
        | none => s
        | some h =>
          let p := s.routeProbe d x h
          match s.choose d p with
          | .port k mask (some e) =>
            if x.escaped || k != port || !stuck mask p || s.portState d e != .up then s
            else
              let q := { p with escape := true }
              if s.hasCredit d e (packetVc q) q then
                (s.setQp n { x with escaped := true }).count (routerPage d) Ctr.router0EscapeMoves
              else s
          | _ => s

/-! ### Depth and delay (R238, R239) -/

/-- The bin of a value in units of 2^shift (R239). -/
def histBin (v shift : Nat) : Nat :=
  let u := v / 2 ^ shift
  if u = 0 then 0 else min 15 (Nat.log2 u + 1)

/-- A histogram bin advanced, to at most 0xFFFF_FFFF (R239). -/
def State.bump (s : State) (p : Page) (off : Nat) : State := s.setReg p off (min (s.reg p off + 1) 0xFFFFFFFF)

/-- Time since the oldest packet held for a port in a class was formed; 0 where none is held (R238). -/
def State.headDelay (s : State) (d i c : Nat) : Nat :=
  maxOf (((s.die d).router.held.filter fun h => s.heldAt d i h && h.pkt.tclass.toNat == c).map (s.now - ·.since) ++
    ((s.qpsAt d i).filter fun e => e.2.1.tclass == c).map fun e => s.now - e.2.1.headAt)

/-- DEPTH_DELAY_SAMPLE (R238). -/
def execDepthDelaySample (d i : Nat) (s : State) : Result :=
  atUnit s d (decide (i < 10)) <|
    let p := schedPage d i
    let ctl := s.reg p 0x104
    if !bit ctl 31 || (s.die d).fwdReset then s else
    let s := (s.refreshFlows d i).count p Ctr.schedSamples
    (List.range 8).foldl (fun s c =>
      (s.bump p (0x400 + 0x40 * c + 4 * histBin (s.depth d i c) (bits ctl 4 0))).bump p
        (0x600 + 0x40 * c + 4 * histBin (s.headDelay d i c) (bits ctl 12 8))) s

/-! ### Weights (R242) -/

/-- The queue pair that a function's rate page shows: one of the function, owned by the die (R208, R242). -/
def State.shownQp (s : State) (d f sel : Nat) : Option Qp :=
  match s.qp sel with
  | some x => if x.fn == f && s.qpDie sel == d then some x else none
  | none => none

/-- QP_WEIGHT_WRITE (R242). A write while the selected queue pair is none of the function's on this die has no register
behind it and changes nothing. -/
def execQpWeightWrite (f d : Nat) (value : Word) (s : State) : Result :=
  atUnit s d (decide (f < s.fns.length)) <|
    let p : Page := ⟨d, .rate, f⟩
    let w := bits value.toNat 7 0
    let sel := bits (s.reg p 0x100) 17 0
    s.fromFn f <| s.guarded p <|
      if w = 0 ∨ bits (s.reg (rateCtlPage d) (0x140 + 4 * f)) 7 0 < w then s.refuse p 0x0101
      else
        match s.shownQp d f sel with
        | some x => s.setQp sel { x with weight := w }
        | none => s

end Sys2Proof.Machine
end

