-- ==== Sys2Proof/Machine/AlramReads.lean ====
section
/-!
DEFINITION. The die's own Alram reads (R257, R258): how each ends.
-/

namespace Sys2Proof.Machine

/-- The message whose source read has failed is cut short (R174, R258): at the PSN that would send the piece again, or at
the operation that is being cut into packets. -/
def State.cutSource (s : State) (n : Nat) (a : Word64) (status : Nat) : State :=
  match s.qp n with
  | none => s
  | some x =>
    match x.sent.find? fun r => r.due && !r.acked && r.kind == .data && decide ((a - r.src).toNat < r.len) with
    | some r => s.abortPsn n r status
    | none =>
      match x.ops.find? fun o => !o.cut with
      | some o => s.cutShort n o status dtLocal
      | none => s

/-- A read of link `k` ended: it is no longer outstanding. -/
def State.closeRead (s : State) (d k : Nat) (r : AlramRead) : State :=
  s.onLink d k fun x => { x with reads := x.reads.filter fun q => q.tag != r.tag }

/-- A read that ends without data (R258), with the status of the transport descriptor that it served. -/
def State.failRead (s : State) (d k : Nat) (r : AlramRead) (status : Nat) : State :=
  let s := s.closeRead d k r
  match r.use with
  | .flush f q i => s.flushReturn f q i false
  | .source n => s.cutSource n r.addr status

/-- The status of the transport descriptor for a STATUS other than OK (R258). -/
def readStatus : Nat → Nat
  | 1 => stPoisoned
  | 2 => stTallyFailed
  | _ => stAccessDenied

/-- ALRAM_READ_RESPONSE (R253, R257, R258): matched by tag, taken by what the read served, or dropped. -/
def execAlramReadResponse (d k : Nat) (p : Packet) (s : State) : Result :=
  atAlram s d k <|
    let s := s.takeLocal d p
    if alramBad p true then s.opDrop d k else
    match ((s.die d).link k).reads.find? fun r => r.tag == aTag p with
    | none => s.opDrop d k
    | some r =>
      if aStatus p ≠ 0 then (if (aData p).isEmpty then s.failRead d k r (readStatus (aStatus p)) else s.opDrop d k)
      else
        match alramData p with
        | none => s.opDrop d k
        | some bs =>
          if bs.length ≠ r.len then s.opDrop d k
          else
            let s := s.closeRead d k r
            match r.use with
            | .flush f q i => s.flushReturn f q i true
            | .source n =>
              if (s.qp n).isNone then s
              else s.onLink d k fun x => { x with fetched := x.fetched ++ [(r.use, r.addr, bs)] }

/-- ALRAM_READ_TIMEOUT (R257, R258): the read is issued again with its tag, or ends after its retries. -/
def execAlramReadTimeout (d k tag : Nat) (s : State) : Result :=
  atAlram s d k <|
    match ((s.die d).link k).reads.find? fun r => r.tag == tag with
    | none => s
    | some r =>
      let s := s.count (linkPage d k) Ctr.alramReadTimeouts
      if r.retries < bits (s.reg (linkPage d k) 0x10C) 3 0 then
        (s.onLink d k fun x => { x with
          reads := x.reads.map fun q => if q.tag == tag then { q with retries := q.retries + 1 } else q }).sendOnLink d k
          (ownPacket (s.endpoint d) ((s.die d).link k).peer r.tclass ptAlramReadRequest (alramHeader r.addr.toNat tag 0 r.fn false r.len))
      else s.failRead d k r stTallyFailed

/-- Every read outstanding on a die's Alram ports ends as one that has exhausted its retries (R258). -/
def State.failReads (s : State) (d : Nat) : State :=
  [0, 1].foldl (fun s k => (((s.die d).link k).reads).foldl (fun s r => s.failRead d k r stTallyFailed) s) s

end Sys2Proof.Machine
end

