-- ==== Sys2Proof/Machine/Admin.lean ====
section
/-!
DEFINITION. Admin commands on queues and queue pairs (R136, R143 to R149, R157 to R161, R206): what each does once it has
begun as the descriptor of an admin queue. Machine/Begin.lean begins them.
-/

namespace Sys2Proof.Machine

/-- The argument words of an admin entry (R143). -/
def arg0 (d : List Byte) : Nat := le d 0x08 8
def arg1 (d : List Byte) : Nat := le d 0x10 8
def arg2 (d : List Byte) : Nat := le d 0x18 8
def arg3 (d : List Byte) : Nat := le d 0x20 8
def arg4 (d : List Byte) : Nat := le d 0x30 8

/-- An admin command of function `f` ends with a status and results (R145). -/
def State.adminEnd (s : State) (f : Nat) (i : Word) (status : Nat) (r0 r1 : Nat := 0) : State :=
  s.finish f 0 i status 0 r0 r1

/-- What a function may hold of a divided resource: its share, and for the PF what no partition holds (R528). -/
def State.share (s : State) (f total : Nat) (g : Fn → Nat) : Nat :=
  if f = 0 then total - ((s.fns.drop 1).map g).sum else g (s.fn f)

/-- Queues that exist in a function. -/
def State.queueCount (s : State) (f : Nat) : Nat := (s.queues.filter fun e => e.1 / 65536 == f).length

/-- Queue pairs of a function. -/
def State.qpCount (s : State) (f : Nat) : Nat := (s.qps.filter fun e => e.2.fn == f).length

/-- Whether every page of a range of offsets is mapped for a function on a die. -/
def State.mapped (s : State) (d f off n : Nat) : Bool :=
  decide (off + n ≤ 2 ^ 46) &&
  (List.range ((off + n + 2 ^ 25 - 1) / 2 ^ 25 - off / 2 ^ 25)).all fun i =>
    match (s.walk d f (max off ((off / 2 ^ 25 + i) * 2 ^ 25)) false).1 with
    | .found _ => true
    | _ => false

/-- CREATE_QUEUE (R104, R145, R148). -/
def State.createQueue (s : State) (f : Nat) (i : Word) (d : List Byte) : State :=
  let a := arg1 d
  let q := bits a 15 0
  let owner := bits a 18 16
  let n := bits a 24 20
  let isLocal := bit a 26
  let base := arg0 d
  let size := 64 * 2 ^ n
  if q = 0 ∨ n < 4 ∨ 16 < n ∨ s.dies.length ≤ owner ∨ vectorCount f ≤ bits a 42 32 then s.adminEnd f i stInvalidArgument
  else if (s.queue f q).isSome then s.adminEnd f i stQueueExists
  else if base % min 4096 size ≠ 0 then s.adminEnd f i stAlignment
  else if isLocal ∧ bit a 27 then s.adminEnd f i stLedgerNotHost
  else if isLocal ∧ !(s.hasEndpoint owner && base / 2 ^ 46 == s.endpoint owner && s.mapped owner f (base % 2 ^ 46) size) then
    s.adminEnd f i stRingNotLocal
  else if s.share f 65536 Fn.queues ≤ s.queueCount f then s.adminEnd f i stNoResource
  else
    (s.setQueue f q
      { arrival := bit a 25, isLocal := isLocal, owner := owner, ledger := if bit a 27 then some (bits a 29 28) else none
        log2 := n, base := BitVec.ofNat 64 base, vector := bits a 42 32, intEn := bit a 43
        wait := bits (arg2 d) 15 0 }).adminEnd f i stSuccess

/-- A queue becomes ABSENT: its doorbells are left to be dropped, its held entries go, and the slots behind its receipts
are released. -/
def State.removeQueue (s : State) (f q : Nat) : State :=
  match s.queue f q with
  | none => s
  | some x =>
    x.receipts.foldl (fun s r => s.releaseSlot (some r.2)) { s with queues := FMap.erase s.queues (qKey f q) }

/-- DESTROY_QUEUE (R149). -/
def State.destroyQueue (s : State) (f : Nat) (i : Word) (d : List Byte) : State :=
  let q := bits (arg1 d) 15 0
  match s.queue f q with
  | none => s.adminEnd f i stNoSuchObject
  | some x =>
    if q = 0 then s.adminEnd f i stInvalidArgument
    else if x.state == .error || x.state == .disabled ||
        (x.state == .running && x.head == x.tail && x.slots.isEmpty && x.fetching.isEmpty && !s.executing f q) then
      (s.removeQueue f q).adminEnd f i stSuccess
    else s.adminEnd f i stBusy

/-- SET_ARRIVAL_ROUTE (R145). -/
def State.setArrivalRoute (s : State) (f : Nat) (i : Word) (d : List Byte) : State :=
  let kind := bits (arg1 d) 7 0
  let q := bits (arg1 d) 31 16
  if kind < 3 ∨ 7 < kind then s.adminEnd f i stInvalidArgument
  else if q = 0 then (s.onFn f fun x => { x with routes := FMap.erase x.routes kind }).adminEnd f i stSuccess
  else if (s.queue f q).map Queue.arrival = some true then
    (s.onFn f fun x => { x with routes := FMap.set x.routes kind q }).adminEnd f i stSuccess
  else s.adminEnd f i stNoSuchObject

/-- Whether a function has a descriptor in execution; those of the PF's admin queue are not counted (R136). -/
def State.fnBusy (s : State) (f : Nat) : Bool := s.execs.any fun e => e.fn == f && !(f == 0 && e.q == 0)

/-- SET_FUNCTION_MODE (R136). -/
def State.setFunctionMode (s : State) (f : Nat) (i : Word) (d : List Byte) : State :=
  let g := bits (arg1 d) 4 0
  let service := bit (arg1 d) 8
  if f ≠ 0 then s.adminEnd f i stNotPermitted
  else if 16 < g then s.adminEnd f i stInvalidArgument
  else if !service && s.fnBusy g then s.adminEnd f i stNotQuiesced
  else (s.onFn g fun x => { x with service := service }).adminEnd f i stSuccess

/-! ### Queue pairs -/

/-- QP_STATE.STATE of a state. -/
def QpState.code : QpState → Nat
  | .init => 2
  | .rtr => 3
  | .rts => 4
  | .faultWait => 5
  | .error => 6

/-- The connection counter of a key of a function on a die (R206). -/
def State.keyCounter (s : State) (f h d : Nat) : Nat :=
  match s.keySlot f h with
  | some k => (k.counters[d]?).getD 0
  | none => 0

/-- The connection counter advanced. -/
def State.takeEpoch (s : State) (f h d : Nat) : State :=
  { s with keys := FMap.modify s.keys (f * 65 + h) fun k => { k with counters := modifyAt k.counters d (· + 1) } }

/-- CREATE_QP (R157, R158, R206). -/
def State.createQp (s : State) (f : Nat) (i : Word) (d : List Byte) : State :=
  let a := arg1 d
  let sq := bits a 15 0
  let aq := bits a 31 16
  let gcm := bit a 35
  let win := bits a 39 36
  let slots := bits (arg2 d) 12 0
  let slotLog := bits (arg2 d) 20 16
  let key := bits (arg3 d) 15 0
  let base := arg0 d
  let sQ := s.queue f sq
  let aQ := s.queue f aq
  let owner := (sQ.map Queue.owner).getD 0
  let pow2 := slots == 0 || (List.range 13).any fun k => slots == 2 ^ k
  let apart : Bool := match sQ, aQ with
    | some x, some y => aq != 0 && x.owner != y.owner
    | _, _ => false
  if win < 6 ∨ 12 < win ∨ !pow2 ∨ (slots ≠ 0 ∧ (slotLog < 12 ∨ 20 < slotLog)) ∨ (slots = 0 ∧ base ≠ 0) ∨
      (!gcm ∧ key ≠ 0) ∨ apart then s.adminEnd f i stInvalidArgument
  else if sq = 0 ∨ sQ.map Queue.arrival ≠ some false ∨ (aq ≠ 0 ∧ aQ.map Queue.arrival ≠ some true) ∨
      (gcm ∧ (s.keySlot f key).isNone) then s.adminEnd f i stNoSuchObject
  else if slots ≠ 0 ∧ (base % 2 ^ slotLog ≠ 0 ∨ !s.hasEndpoint owner ∨ base / 2 ^ 46 ≠ s.endpoint owner ∨
      !s.mapped owner f (base % 2 ^ 46) (slots * 2 ^ slotLog)) then s.adminEnd f i stAlignment
  else
    let n := s.part.qpsPerDie
    match (List.range n).find? fun k => (s.qp (owner * n + k)).isNone with
    | none => s.adminEnd f i stNoResource
    | some k =>
      if s.share f 262144 Fn.qps ≤ s.qpCount f ∨ (gcm ∧ 2 ^ 22 ≤ s.keyCounter f key owner) then s.adminEnd f i stNoResource
      else
        let e := if gcm then s.keyCounter f key owner else 0
        let s := if gcm then s.takeEpoch f key owner else s
        (s.setQp (owner * n + k)
          { fn := f, sq := sq, aq := aq, tclass := bits a 34 32, gcm := gcm, key := key, log2Win := win
            recvBase := BitVec.ofNat 64 base, recvSlots := slots, log2Slot := slotLog, epoch := e }).adminEnd f i stSuccess
          (owner * n + k) e

/-- Whether a descriptor of a queue pair is outstanding: begun and not ended (R160, R161). -/
def State.qpOutstanding (s : State) (n : Nat) (x : Qp) : Bool :=
  s.execs.any fun e => e.fn == x.fn && e.q == x.sq && decide (1 ≤ dOpcode e.desc ∧ dOpcode e.desc ≤ 5) &&
    dTarget e.desc == n && e.phase != .finished

/-- A MODIFY_QP on a queue pair of the function (R159): it names the queue pair in ARG1 [17:0]. -/
def State.modifyQp (s : State) (f : Nat) (i : Word) (d : List Byte) (act : Nat → Qp → State) : State :=
  let n := bits (arg1 d) 17 0
  match s.qp n with
  | some x => if x.fn = f then act n x else s.adminEnd f i stNoSuchObject
  | none => s.adminEnd f i stNoSuchObject

/-- A queue pair's new contents, and the end of the MODIFY_QP that gave them. -/
def State.modified (s : State) (f : Nat) (i : Word) (n : Nat) (x : Qp) (r1 : Nat := 0) : State :=
  (s.setQp n x).adminEnd f i stSuccess x.state.code r1

/-- RETRY_LIMIT and REORDER_THRESHOLD of ARG4 (R159). -/
def limitsOf (a : Nat) : Nat × Nat :=
  (if bits a 3 0 = 0 then 7 else bits a 3 0, if bits a 7 4 = 0 then 3 else bits a 7 4)

/-- MODIFY_QP TO_RTR (R159, R160). -/
def State.toRtr (s : State) (f : Nat) (i : Word) (d : List Byte) : State :=
  s.modifyQp f i d fun n x =>
    if x.state != .init then s.adminEnd f i stInvalidArgument else
    let a := arg2 d
    s.modified f i n { x with
      state := .rtr, peer := bits a 17 0, peerQp := bits a 35 18, peerPart := bits a 39 36, peerMgr := bit a 40
      rcvNxt := BitVec.ofNat 32 (arg3 d), peerEpoch := bits (arg3 d) 53 32, rcvMsg := 0 }

/-- MODIFY_QP TO_RTS (R159, R160, R229). -/
def State.toRts (s : State) (f : Nat) (i : Word) (d : List Byte) : State :=
  s.modifyQp f i d fun n x =>
    if x.state != .rtr then s.adminEnd f i stInvalidArgument else
    let l := limitsOf (arg4 d)
    let die := s.qpDie n
    let psn : Word := BitVec.ofNat 32 (arg3 d)
    s.modified f i n { x with
      state := .rts, sndUna := psn, sndNxt := psn, sndMsg := 0, retryLimit := l.1, reorder := l.2
      rate := s.reg (curvePage die x.tclass) (if s.ccOn die x.tclass then 0x110 else 0x114) * 1024
      ccTime := s.time32 die }

/-- MODIFY_QP TO_ERROR (R160). -/
def State.toError (s : State) (f : Nat) (i : Word) (d : List Byte) : State :=
  s.modifyQp f i d fun n x =>
    if x.state == .error then s.adminEnd f i stInvalidArgument
    else (s.qpError n stQpError 5).adminEnd f i stSuccess 6

/-- MODIFY_QP TO_INIT (R160, R161, R206): as CREATE_QP, keeping the creation arguments. -/
def State.toInit (s : State) (f : Nat) (i : Word) (d : List Byte) : State :=
  s.modifyQp f i d fun n x =>
    let die := s.qpDie n
    if x.state != .error then s.adminEnd f i stInvalidArgument
    else if s.qpOutstanding n x then s.adminEnd f i stBusy
    else if x.gcm && decide (2 ^ 22 ≤ s.keyCounter f x.key die) then s.adminEnd f i stNoResource
    else
      let e := if x.gcm then s.keyCounter f x.key die else 0
      (if x.gcm then s.takeEpoch f x.key die else s).modified f i n
        { fn := x.fn, sq := x.sq, aq := x.aq, tclass := x.tclass, gcm := x.gcm, key := x.key, log2Win := x.log2Win
          recvBase := x.recvBase, recvSlots := x.recvSlots, log2Slot := x.log2Slot, epoch := e } e

/-- MODIFY_QP SET_LIMITS (R159, R160). -/
def State.setLimits (s : State) (f : Nat) (i : Word) (d : List Byte) : State :=
  s.modifyQp f i d fun n x =>
    if x.state != .rts && x.state != .faultWait then s.adminEnd f i stInvalidArgument else
    let l := limitsOf (arg4 d)
    s.modified f i n { x with retryLimit := l.1, reorder := l.2 }

/-- A queue pair becomes ABSENT without completions (R160, R210). -/
def State.removeQp (s : State) (n : Nat) : State :=
  let d := s.qpDie n
  let s := { s with qps := FMap.erase s.qps n }
  let s := [0, 1].foldl (fun s l => s.onLink d l fun x => { x with fetched := x.fetched.filter fun r => r.1 != .source n }) s
  s.ctxDrop d n

/-- DESTROY_QP (R160, R161). -/
def State.destroyQp (s : State) (f : Nat) (i : Word) (d : List Byte) : State :=
  s.modifyQp f i d fun n x =>
    if s.qpOutstanding n x then s.adminEnd f i stBusy else (s.removeQp n).adminEnd f i stSuccess

/-- Argument bits that an admin command names, by argument word; every other bit is reserved (R10, R143). -/
def adminMasks : Nat → Option (List Nat)
  | 0x01 => some [2 ^ 64 - 1, 0xFFF3FF7FFFF, 0xFFFF, 0, 0]
  | 0x02 => some [0, 0xFFFF, 0, 0, 0]
  | 0x03 => some [0, 0xFFFF00FF, 0, 0, 0]
  | 0x08 => some [0, 0x11F, 0, 0, 0]
  | 0x10 => some [2 ^ 64 - 1, 0xFFFFFFFFFF, 0x1F1FFF, 0xFFFF, 0]
  | 0x11 => some [0, 0xF3FFFF, 2 ^ 41 - 1, 2 ^ 54 - 1, 0xFF]
  | 0x12 => some [0, 0x3FFFF, 0, 0, 0]
  | 0x18 => some [2 ^ 64 - 1, 0xFFFFFFFF, 0, 0, 0]
  | 0x19 => some [0, 0xFFFF, 0, 0, 0]
  | 0x1A => some [2 ^ 64 - 1, 0xFFFFFFFF0000FFFF, 0, 0, 0]
  | 0x20 => some [2 ^ 64 - 1, 2 ^ 64 - 1, 0x1F, 0, 0]
  | 0x21 => some [0, 0x70FFF, 0, 0, 0]
  | 0x22 => some [2 ^ 64 - 1, 0, 0x1F, 0, 0]
  | 0x30 => some [2 ^ 64 - 1, 0, 0x1F, 0, 0]
  | 0x31 => some [0, 0, 0x1F, 0, 0]
  | 0x38 => some [2 ^ 64 - 1, 0xFFFF, 0, 0, 0]
  | 0x39 => some [2 ^ 64 - 1, 0xFFFF, 0, 0, 0]
  | 0x3A => some [0, 0xFFFF, 0, 0, 0]
  | _ => none

/-- Form of an admin entry (R127, R143, R145): an opcode of the table, and no reserved bit. -/
def formAdminEntry (d : List Byte) : Option Nat :=
  match adminMasks (dOpcode d) with
  | none => some 0
  | some m =>
    firstOffence (formAdmin d ::
      ((List.zip m [(arg0 d, 0x08), (arg1 d, 0x10), (arg2 d, 0x18), (arg3 d, 0x20), (arg4 d, 0x30)]).map fun e =>
        offence (e.2.1 &&& e.1 != e.2.1) e.2.2))

end Sys2Proof.Machine
end

