-- ==== Sys2Proof/Machine/Float.lean ====
section
/-!
DEFINITION. FP32 arithmetic of the vector unit and the arrays (R382 to R394): values as exact rationals with a sign, one
rounding to nearest even for each step, and the functions of the operator menu.
-/

namespace Sys2Proof.Machine

/-- A floating-point value: NaN, an infinity, or a finite value by sign and magnitude. -/
inductive Fp where
  | nan
  | inf (neg : Bool)
  | fin (neg : Bool) (mag : Rat)
  deriving DecidableEq, Repr

/-- 2^e. -/
def pow2 (e : Int) : Rat := if 0 ≤ e then ((2 ^ e.toNat : Nat) : Rat) else 1 / ((2 ^ (-e).toNat : Nat) : Rat)

/-- ⌊log2 q⌋ of a positive rational. -/
def log2Floor (q : Rat) : Int :=
  let x : Int := (Nat.log2 q.num.toNat : Int) - (Nat.log2 q.den : Int)
  if pow2 x ≤ q then x else x - 1

/-- A rational that is not negative, rounded to an integer, ties to even. -/
def roundEven (q : Rat) : Nat :=
  let n := q.num.toNat / q.den
  let r := 2 * (q.num.toNat % q.den)
  if r < q.den ∨ (r = q.den ∧ n % 2 = 0) then n else n + 1

/-- The magnitude code of a positive rational in a binary format with `m` mantissa bits and least exponent `emin`, ties to
even: exponent field and mantissa field as one number, which runs past the largest finite code on overflow. -/
def roundCode (emin : Int) (m : Nat) (q : Rat) : Nat :=
  if q = 0 then 0 else
  let u := max (log2Floor q) emin - m
  (u + m - emin).toNat * 2 ^ m + roundEven (q / pow2 u)

/-- The magnitude that a finite code has in such a format. -/
def codeMag (emin : Int) (m : Nat) (c : Nat) : Rat :=
  let e := c / 2 ^ m
  let f := c % 2 ^ m
  if e = 0 then (f : Rat) * pow2 (emin - m) else ((2 ^ m + f : Nat) : Rat) * pow2 (emin - m + (e - 1 : Nat))

/-- The value of an FP32 word. -/
def Fp.ofWord (w : Word) : Fp :=
  let c := w.toNat % 2 ^ 31
  let neg := bit w.toNat 31
  if c < 0x7F800000 then .fin neg (codeMag (-126) 23 c) else if c = 0x7F800000 then .inf neg else .nan

/-- A value rounded once to FP32, to nearest even; a NaN is 0x7FC0_0000 (R382, R389). -/
def Fp.toWord : Fp → Word
  | .nan => 0x7FC00000
  | .inf neg => if neg then 0xFF800000 else 0x7F800000
  | .fin neg q => BitVec.ofNat 32 (b2n neg * 2 ^ 31 + min (roundCode (-126) 23 q) 0x7F800000)

/-- The signed rational of a finite value. -/
def signed (neg : Bool) (q : Rat) : Rat := if neg then -q else q

/-- A finite value from a signed rational; an exact zero has the sign given. -/
def Fp.ofRat (q : Rat) (zeroNeg : Bool := false) : Fp :=
  if q = 0 then .fin zeroNeg 0 else if q < 0 then .fin true (-q) else .fin false q

/-- Exact operations under IEEE 754. -/
def Fp.neg : Fp → Fp
  | .nan => .nan
  | .inf s => .inf (!s)
  | .fin s q => .fin (!s) q

def Fp.add : Fp → Fp → Fp
  | .nan, _ | _, .nan => .nan
  | .inf s, .inf t => if s = t then .inf s else .nan
  | .inf s, _ => .inf s
  | _, .inf t => .inf t
  | .fin s a, .fin t b => .ofRat (signed s a + signed t b) (s && t)

def Fp.mul : Fp → Fp → Fp
  | .nan, _ | _, .nan => .nan
  | .inf s, .inf t => .inf (s != t)
  | .inf s, .fin t b => if b = 0 then .nan else .inf (s != t)
  | .fin s a, .inf t => if a = 0 then .nan else .inf (s != t)
  | .fin s a, .fin t b => .fin (s != t) (a * b)

def Fp.div : Fp → Fp → Fp
  | .nan, _ | _, .nan => .nan
  | .inf _, .inf _ => .nan
  | .inf s, .fin t _ => .inf (s != t)
  | .fin s _, .inf t => .fin (s != t) 0
  | .fin s a, .fin t b =>
    if b = 0 then (if a = 0 then .nan else .inf (s != t)) else .fin (s != t) (a / b)

/-- Whether one value is below another, with −0 below +0 (MAX and MIN of R390). -/
def Fp.below : Fp → Fp → Bool
  | .inf s, .inf t => s && !t
  | .inf s, _ => s
  | _, .inf t => !t
  | .fin s a, .fin t b => signed s a < signed t b || (signed s a == signed t b && s && !t)
  | _, _ => false

/-! ### Steps of the vector unit, on FP32 words (R389, R390) -/

def f32Add (a b : Word) : Word := ((Fp.ofWord a).add (Fp.ofWord b)).toWord
def f32Sub (a b : Word) : Word := ((Fp.ofWord a).add (Fp.ofWord b).neg).toWord
def f32Mul (a b : Word) : Word := ((Fp.ofWord a).mul (Fp.ofWord b)).toWord
def f32Fma (a b c : Word) : Word := (((Fp.ofWord a).mul (Fp.ofWord b)).add (Fp.ofWord c)).toWord
def f32Div (a b : Word) : Word := ((Fp.ofWord a).div (Fp.ofWord b)).toWord

/-- MAX and MIN: NaN if either is NaN. -/
def f32Max (a b : Word) : Word :=
  match Fp.ofWord a, Fp.ofWord b with
  | .nan, _ | _, .nan => 0x7FC00000
  | x, y => if x.below y then b else a
def f32Min (a b : Word) : Word :=
  match Fp.ofWord a, Fp.ofWord b with
  | .nan, _ | _, .nan => 0x7FC00000
  | x, y => if x.below y then a else b

/-! ### Functions, in fixed point (R389)

Each function is computed in fixed point with more bits than any FP32 rounding of it needs, so that the word is the
correctly rounded value. UNVERIFIED that 448 bits below the point decide every case (notes/assumptions/16.md). -/

/-- Bits below the point. -/
def fxBits : Nat := 448
def fxOne : Int := 2 ^ fxBits

/-- A rational in fixed point, and back. -/
def toFx (q : Rat) : Int := (q * (fxOne : Rat)).floor
def ofFx (x : Int) : Rat := (x : Rat) / (fxOne : Rat)
def fxMul (x y : Int) : Int := x * y / fxOne
def fxDiv (x y : Int) : Int := x * fxOne / y

/-- Σ of terms t, t·f(1), t·f(1)·f(2) …, where `next` gives a term from the one before. -/
def fxSeries (next : Nat → Int → Int) : Nat → Nat → Int → Int → Int
  | 0, _, _, acc => acc
  | fuel + 1, k, t, acc =>
    let t' := next k t
    fxSeries next fuel (k + 1) t' (acc + t')

/-- e^x by its series, x at most 1 in magnitude. -/
def fxExpSmall (x : Int) : Int := fxSeries (fun k t => fxMul t x / (k : Int)) 100 1 fxOne fxOne

/-- Squared `n` times. -/
def fxSquares : Nat → Int → Int
  | 0, x => x
  | n + 1, x => fxSquares n (fxMul x x)

/-- e^x for |x| below 128. -/
def fxExp (x : Int) : Int := fxSquares 8 (fxExpSmall (x / 256))

/-- 2·artanh z for |z| at most 1/3. -/
def fxLogRatio (z : Int) : Int :=
  let z2 := fxMul z z
  let r := (List.range 150).foldl (fun (r : Int × Int) k => (fxMul r.1 z2, r.2 + r.1 / ((2 * k + 1 : Nat) : Int))) (z, 0)
  2 * r.2

/-- ln 2, and ln of a positive rational. -/
def fxLn2 : Int := fxLogRatio (fxOne / 3)
def fxLn (q : Rat) : Int :=
  let k := log2Floor q
  let m := toFx (q / pow2 k)
  k * fxLn2 + fxLogRatio (fxDiv (m - fxOne) (m + fxOne))

/-- artan(1/n) and π by Machin's formula, with `b` bits below the point. -/
def atanInv (b n : Nat) : Int :=
  let one : Int := 2 ^ b
  (List.range (b / 4 + 8)).foldl
    (fun (r : Int × Int) k =>
      (r.1 / ((n * n : Nat) : Int), r.2 + (if k % 2 = 0 then r.1 else -r.1) / ((2 * k + 1 : Nat) : Int))) (one / (n : Int), 0) |>.2
def fxPi (b : Nat) : Int := 4 * (4 * atanInv b 5 - atanInv b 239)

/-- sin and cos by their series, |x| at most 1. -/
def fxSin (x : Int) : Int :=
  let x2 := fxMul x x
  fxSeries (fun k t => -(fxMul t x2) / ((2 * k * (2 * k + 1) : Nat) : Int)) 60 1 x x
def fxCos (x : Int) : Int :=
  let x2 := fxMul x x
  fxSeries (fun k t => -(fxMul t x2) / ((2 * k * (2 * k - 1) : Nat) : Int)) 60 1 fxOne fxOne

/-- The quadrant of an angle and what remains of it, in fixed point. -/
def quadrant (x : Rat) : Int × Int :=
  let b := fxBits + 160
  let half := fxPi b / 2
  let y := (x * ((2 ^ b : Nat) : Rat)).floor
  let n := (2 * y + half) / (2 * half)
  (n, (y - n * half) / (2 ^ 160 : Int))

/-- sin of an angle `q` quadrants on. -/
def sinRat (x : Rat) (shift : Int) : Rat :=
  let r := quadrant x
  let k := (r.1 + shift) % 4
  ofFx (if k = 0 then fxSin r.2 else if k = 1 then fxCos r.2 else if k = 2 then -fxSin r.2 else -fxCos r.2)

/-- A function of a finite FP32 value, with its values at the infinities. -/
def f32Fun (posInf negInf : Fp) (f : Bool → Rat → Fp) (a : Word) : Word :=
  Fp.toWord (match Fp.ofWord a with
    | .nan => .nan
    | .inf false => posInf
    | .inf true => negInf
    | .fin s q => f s q)

def f32Recip (a : Word) : Word := f32Div 0x3F800000 a

/-- √q in fixed point. -/
def sqrtRat (q : Rat) : Rat :=
  let n := (q * (fxOne : Rat) * (fxOne : Rat)).floor.toNat
  ((rootTo 2 n (fxBits + 100) 0 : Nat) : Rat) / (fxOne : Rat)

def f32Sqrt : Word → Word :=
  f32Fun (.inf false) .nan fun s q => if q = 0 then .fin s 0 else if s then .nan else .fin false (sqrtRat q)
def f32Rsqrt : Word → Word :=
  f32Fun (.fin false 0) .nan fun s q => if q = 0 then .inf s else if s then .nan else .fin false (sqrtRat (1 / q))

/-- e^x of a finite value: beyond the range where FP32 holds it, an overflow or a value that rounds to zero. -/
def expRat (x : Rat) : Rat := if 100 < x then pow2 200 else if x < -110 then pow2 (-200) else ofFx (fxExp (toFx x))

def f32Exp : Word → Word := f32Fun (.inf false) (.fin false 0) fun s q => .fin false (expRat (signed s q))
def f32Log : Word → Word :=
  f32Fun (.inf false) .nan fun s q =>
    if q = 0 then .inf true else if s then .nan else if q = 1 then .fin false 0 else .ofRat (ofFx (fxLn q))
def f32Tanh : Word → Word :=
  f32Fun (.fin false 1) (.fin true 1) fun s q =>
    if 20 < q then .fin s 1
    else if q = 0 then .fin s 0
    else
      let e := fxExp (toFx (2 * q))
      .fin s (ofFx (fxDiv (e - fxOne) (e + fxOne)))
def f32Sigmoid : Word → Word :=
  f32Fun (.fin false 1) (.fin false 0) fun s q =>
    if s then .fin false (expRat (-q) / (1 + expRat (-q))) else .fin false (1 / (1 + expRat (-q)))
def f32Sin : Word → Word :=
  f32Fun .nan .nan fun s q => if q = 0 then .fin s 0 else .ofRat (sinRat (signed s q) 0)
def f32Cos : Word → Word := f32Fun .nan .nan fun _ q => .ofRat (sinRat q 1)
def f32Silu (a : Word) : Word := f32Mul a (f32Sigmoid a)

/-- GELU_TANH in its eight steps (R390). -/
def f32Gelu (a : Word) : Word :=
  let c := f32Mul (f32Mul a a) a
  let d := f32Fma 0x3D372713 c a
  let t := f32Tanh (f32Mul 0x3F4C422A d)
  f32Mul (f32Mul 0x3F000000 a) (f32Add 0x3F800000 t)

/-- ROTARY of a lane pair by an angle: two exact expressions, each rounded once (R390). -/
def f32Rotary (x z th : Word) : Word × Word :=
  let cs := Fp.ofWord (f32Cos th)
  let sn := Fp.ofWord (f32Sin th)
  let a := Fp.ofWord x
  let b := Fp.ofWord z
  (((a.mul cs).add (b.mul sn).neg).toWord, ((a.mul sn).add (b.mul cs)).toWord)

/-! ### Rows (R391, R392) -/

/-- The lanes after every vector of a row. -/
def rowLanes (op : Word → Word → Word) (lanes : List Word) : List (List Word) → List Word
  | [] => lanes
  | v :: vs => rowLanes op (List.zipWith op lanes v ++ lanes.drop v.length) vs

/-- The fixed pairwise tree over 2^n lanes. -/
def laneTree (op : Word → Word → Word) : Nat → List Word → Word
  | 0, l => (l.head?).getD 0
  | n + 1, l => laneTree op n (List.zipWith op (l.take (2 ^ n)) (l.drop (2 ^ n)))

/-- A row reduction (R391). -/
def rowReduce (op : Word → Word → Word) (identity : Word) (x : List Word) : Word :=
  laneTree op 8 (rowLanes op (List.replicate 256 identity) (pieces 256 x))

def rowSum (x : List Word) : Word := rowReduce f32Add 0 x
def rowMax (x : List Word) : Word := rowReduce f32Max 0xFF800000 x

/-- A count as an exact FP32 value. -/
def f32OfNat (n : Nat) : Word := (Fp.fin false (n : Rat)).toWord

/-- RMS_NORM, LAYER_NORM and SOFTMAX of a row (R392). -/
def rmsNorm (eps : Word) (g x : List Word) : List Word :=
  let r := f32Rsqrt (f32Add (f32Div (rowSum (x.map fun a => f32Mul a a)) (f32OfNat x.length)) eps)
  List.zipWith (fun a b => f32Mul (f32Mul a r) b) x g
def layerNorm (eps : Word) (g b x : List Word) : List Word :=
  let mu := f32Div (rowSum x) (f32OfNat x.length)
  let d := x.map fun a => f32Sub a mu
  let r := f32Rsqrt (f32Add (f32Div (rowSum (d.map fun a => f32Mul a a)) (f32OfNat x.length)) eps)
  List.zipWith (fun a (gb : Word × Word) => f32Fma (f32Mul a r) gb.1 gb.2) d (List.zip g b)
def softmax (x : List Word) : List Word :=
  let m := rowMax x
  let e := x.map fun a => f32Exp (f32Sub a m)
  let s := rowSum e
  e.map fun a => f32Div a s

/-! ### Element formats (R374 to R378, R393 to R395) -/

/-- Fields of a format slot. -/
structure Fmt where
  integer  : Bool
  specials : Nat
  scale    : Nat
  block    : Nat
  sign     : Bool
  exp      : Nat
  man      : Nat
  bias     : Nat
  deriving DecidableEq, Repr

/-- A slot's word taken apart (R374). -/
def Fmt.ofWord (w : Nat) : Fmt :=
  { integer := bits w 31 30 == 1, specials := bits w 29 28, scale := bits w 27 26, block := 16 * 2 ^ bits w 25 24
    sign := bit w 16, exp := bits w 14 12, man := bits w 11 8, bias := bits w 5 0 }

/-- Whether a word is a valid slot value (R375). -/
def slotValid (w : Nat) : Bool :=
  let f := Fmt.ofWord w
  let n := b2n f.sign + f.exp + f.man
  decide (bits w 31 30 < 2) && decide (bits w 29 28 < 3) && decide (bits w 27 26 < 3) && decide (bits w 25 24 < 3) &&
  bits w 23 17 == 0 && !bit w 15 && bits w 7 6 == 0 && decide (1 ≤ n ∧ n ≤ 8) && decide (f.man ≤ 8) &&
  (if f.integer then f.exp == 0 && f.specials == 0 && decide (f.bias ≤ 7)
   else decide (1 ≤ f.exp ∧ f.exp ≤ 5) && (f.specials == 0 || decide (2 ≤ f.exp)))

/-- Width of an element in bits. -/
def Fmt.width (f : Fmt) : Nat := b2n f.sign + f.exp + f.man

/-- Least exponent of a FLOAT slot. -/
def Fmt.emin (f : Fmt) : Int := 1 - (f.bias : Int)

/-- The value of an element (R376). -/
def Fmt.decode (f : Fmt) (x : Nat) : Fp :=
  if f.integer then
    let v : Int := if f.sign && bit x f.man then (x : Int) - 2 ^ (f.man + 1) else x
    .ofRat ((v : Rat) * pow2 (-(f.bias : Int)))
  else
    let c := x % 2 ^ (f.exp + f.man)
    let e := c / 2 ^ f.man
    let m := c % 2 ^ f.man
    let neg := f.sign && bit x (f.exp + f.man)
    if f.specials = 1 ∧ e = 2 ^ f.exp - 1 then (if m = 0 then .inf neg else .nan)
    else if f.specials = 2 ∧ c = 2 ^ (f.exp + f.man) - 1 then .nan
    else
      let q := codeMag f.emin f.man c
      .fin (neg && q != 0) q

/-- The E4M3 decode of a scale byte (R377). -/
def e4m3 : Fmt := Fmt.ofWord 0x21014307

/-- The value of a scale byte (R377). -/
def Fmt.scaleValue (f : Fmt) (b : Nat) : Fp :=
  match f.scale with
  | 0 => .fin false 1
  | 1 => if b = 0xFF then .nan else .fin false (pow2 ((b : Int) - 127))
  | _ => if 128 ≤ b then .nan else e4m3.decode b

/-- Code of the largest finite magnitude of a format, and that magnitude (R394). -/
def Fmt.maxCode (f : Fmt) : Nat :=
  if f.integer then 2 ^ f.man - 1
  else if f.specials = 1 then (2 ^ f.exp - 1) * 2 ^ f.man - 1
  else if f.specials = 2 then 2 ^ (f.exp + f.man) - 2
  else 2 ^ (f.exp + f.man) - 1
def Fmt.maxMag (f : Fmt) : Rat :=
  if f.integer then (f.maxCode : Rat) * pow2 (-(f.bias : Int)) else codeMag f.emin f.man f.maxCode

/-- EMAX of a format (R394). -/
def Fmt.emax (f : Fmt) : Int := if f.integer then (f.man : Int) - 1 - f.bias else log2Floor f.maxMag

/-- Elements of a packed run of bytes (R378). -/
def Fmt.elements (f : Fmt) (bs : List Byte) (n : Nat) : List Nat :=
  let x := fromLE bs
  (List.range n).map fun i => x / 2 ^ (f.width * i) % 2 ^ f.width

/-- Elements packed into bytes (R378). -/
def Fmt.pack (f : Fmt) (l : List Nat) : List Byte :=
  toLE (l.length * f.width / 8) (l.foldr (fun x a => a * 2 ^ f.width + x) 0)

/-- The scale byte of a block of finite values with the largest magnitude `amax`, and the scale's value (R394). -/
def Fmt.chooseScale (f : Fmt) (amax : Rat) : Nat × Rat :=
  match f.scale with
  | 0 => (0, 1)
  | 1 =>
    let x : Int := if amax = 0 then -127 else max (-127) (min 127 (log2Floor amax - f.emax))
    ((x + 127).toNat, pow2 x)
  | _ =>
    let ok (c : Nat) : Bool := decide (amax ≤ codeMag (-6) 3 c * f.maxMag)
    let c := ((List.range 0x7E).find? fun k => ok (k + 1)).elim 0x7E (· + 1)
    (c, codeMag (-6) 3 c)

/-- An element's code for a finite quotient, and whether it was replaced as out of range (R394). -/
def Fmt.encode (f : Fmt) (neg : Bool) (q : Rat) : Nat × Bool :=
  if neg && !f.sign then (0, q != 0)
  else if f.integer then
    let n := roundEven (q * pow2 f.bias)
    let most : Nat := if neg then 2 ^ f.man else 2 ^ f.man - 1
    let past := decide ((most : Rat) < q * pow2 f.bias)
    let v := if past then most else n
    (if neg then (2 ^ (f.man + 1) - v) % 2 ^ (f.man + 1) else v, past)
  else
    let past := decide (f.maxMag < q)
    let c := if past then f.maxCode else roundCode f.emin f.man q
    (b2n neg * 2 ^ (f.exp + f.man) + c, past)

/-- The format's NaN, if it has one, and its infinity (R395). -/
def Fmt.nanCode (f : Fmt) : Option Nat :=
  if f.integer then none
  else if f.specials = 1 ∧ f.man ≠ 0 then some ((2 ^ f.exp - 1) * 2 ^ f.man + 2 ^ (f.man - 1))
  else if f.specials = 2 then some (2 ^ (f.exp + f.man) - 1)
  else none

/-- A block of values in a format: scale byte, element codes, replacements and special cases (R394, R395). -/
def Fmt.convertFp (f : Fmt) (vs : List Fp) : Nat × List Nat × Nat × Nat :=
  let special (v : Fp) : Bool := match v with | .fin _ _ => false | _ => true
  if f.scale ≠ 0 ∧ vs.any special then (if f.scale = 1 then 0xFF else 0x7F, vs.map fun _ => 0, 0, 1)
  else
    let mag (v : Fp) : Rat := match v with | .fin _ q => q | _ => 0
    let amax := vs.foldl (fun a v => if a < mag v then mag v else a) 0
    let sc := f.chooseScale amax
    let one (v : Fp) : Nat × Nat × Nat :=
      match v with
      | .fin s q =>
        let r := f.encode s (q / sc.2)
        (r.1, b2n r.2, 0)
      | .nan => (f.nanCode.getD 0, 0, 1)
      | .inf s =>
        if f.specials = 1 then (b2n (s && f.sign) * 2 ^ (f.exp + f.man) + (2 ^ f.exp - 1) * 2 ^ f.man, 0, 1)
        else
          let r := f.encode s (f.maxMag * 2 + pow2 (f.bias : Int))
          (r.1, 1, 1)
    let rs := vs.map one
    (sc.1, rs.map (·.1), (rs.map (·.2.1)).sum, (rs.map (·.2.2)).sum)

/-- What CONVERT gives a block of FP32 words. -/
def Fmt.convert (f : Fmt) (l : List Word) : Nat × List Nat × Nat × Nat := f.convertFp (l.map Fp.ofWord)

/-- BF16 to FP32 words, and FP32 to BF16 (R394). -/
def bf16Value (x : Nat) : Word := BitVec.ofNat 32 (x * 65536)
def toBf16 (w : Word) : Nat :=
  match Fp.ofWord w with
  | .nan => 0x7FC0
  | .inf s => b2n s * 32768 + 0x7F80
  | .fin s q => b2n s * 32768 + min (roundCode (-126) 7 q) 0x7F80

/-- LOAD_CONVERT of an element and its scale (R393). -/
def Fmt.load (f : Fmt) (x scale : Nat) : Word := ((f.decode x).mul (f.scaleValue scale)).toWord

/-! ### The array (R382 to R384) -/

/-- The exact sum of a block's products: NaN, an infinity, or a rational (R382, R383). -/
def productSum (xs ws : List Fp) : Fp :=
  let ps := List.zipWith Fp.mul xs ws
  if ps.any (· == .nan) || (ps.any (· == .inf false) && ps.any (· == .inf true)) then .nan
  else if ps.any (· == .inf false) then .inf false
  else if ps.any (· == .inf true) then .inf true
  else .ofRat (ps.foldl (fun a p => match p with | .fin s q => a + signed s q | _ => a) 0)

/-- The block term T (R382, R383). -/
def blockTerm (sx sw : Fp) (xs ws : List Fp) : Fp := (productSum xs ws).mul (sx.mul sw)

/-- A + T rounded once, with whether it gave a NaN (R382, R383). An exact zero is +0. -/
def accumulate (a : Word) (t : Fp) : Word × Bool :=
  let r := (Fp.ofWord a).add t
  let w := (match r with | .fin _ q => if q = 0 then Fp.fin false 0 else r | _ => r).toWord
  (w, r == .nan)

end Sys2Proof.Machine
end

