-- ==== Sys2Proof/Machine/Integrity.lean ====
section
/-!
DEFINITION. The integrity unit below the recipes (R482 to R518): tile selection and checkers, the retraction log, and
poison notices.
-/

namespace Sys2Proof.Machine

/-- The Reckoner page and the recipe-control page of a Reckoner (R400). -/
abbrev reckonerPage (d r : Nat) : Page := ⟨d, .reckoner, r⟩
abbrev recipePage (d r : Nat) : Page := ⟨d, .recipeCtl, r⟩

/-- Reckoner `r` of a die. -/
def State.reck (s : State) (d r : Nat) : Reckoner := ((s.die d).recks[r]?).getD {}

/-- Reckoner `r` of a die changed. -/
def State.onReck (s : State) (d r : Nat) (f : Reckoner → Reckoner) : State :=
  s.onDie d fun x => { x with recks := modifyAt x.recks r f }

/-- The integrity unit of a die, and the unit changed. -/
def State.integ (s : State) (d : Nat) : Integrity := (s.die d).integ
def State.onInteg (s : State) (d : Nat) (f : Integrity → Integrity) : State :=
  s.onDie d fun x => { x with integ := f x.integ }

/-- Every Reckoner of the package, as die × 5 + number. -/
def State.reckList (s : State) : List Nat := List.range (s.dies.length * 5)

/-! ### Selection (R491 to R495) -/

/-- REREC_CTL.RATE of a die. -/
def State.rereckonRate (s : State) (d : Nat) : Nat := bits (s.reg (integrityPage d) 0x100) 3 0

/-- EPOCH of a handle on a Reckoner (R493). -/
def Reckoner.epoch (x : Reckoner) (h : Nat) : Nat := (FMap.get? x.epochs h).getD 0

/-- Whether the tile of an address is selected on a Reckoner (R492, R493). -/
def State.selected (s : State) (d r h : Nat) (tile : List Byte) : Bool :=
  let rate := s.rereckonRate d
  rate != 0 && (fromBE ((cmac (s.integ d).key tile).take 4) + (s.reck d r).epoch h) % 2 ^ rate == 0

/-- The first Reckoner of a die, from its rotation on, that is not one of `excl`, not retired and not a candidate. -/
def State.pickOnDie (s : State) (d : Nat) (excl : List Nat) : Option Nat :=
  (((List.range 5).map fun j => ((s.integ d).rotation + j) % 5).find? fun r =>
    !excl.contains (d * 5 + r) && !(s.reck d r).retired && !(s.reck d r).candidate).map (d * 5 + ·)

/-- The next Reckoner in rotation for a tile of die `d`, on that die or else on the next die that has one; the rotation
of die `d` advances (R495). -/
def State.pickReckoner (s : State) (d : Nat) (excl : List Nat) : Option Nat × State :=
  let n := s.dies.length
  let k := ((List.range n).map fun j => (d + j) % n).findSome? fun d' => s.pickOnDie d' excl
  (k, s.onInteg d fun x => { x with rotation := (x.rotation + 1) % 5 })

/-- Check records of the package: those in a check buffer, and those that wait for one. -/
def State.allChecks (s : State) : List Check :=
  s.dieList.flatMap fun d =>
    ((s.integ d).records.map Prod.snd) ++ (s.die d).recks.flatMap fun r => (r.run.map Run.records).getD []

/-- Checks outstanding on a Reckoner (R504). -/
def State.outstanding (s : State) (k : Nat) : List Nat := (s.allChecks.filter fun c => c.original == k).map Check.id

/-- A record put into the lowest free slot of its checker's die; none while the buffer is full (R496). -/
def State.placeRecord (s : State) (c : Check) : Option State :=
  let d := c.checker / 5
  (lowestBelow 4 fun n => (FMap.get? (s.integ d).records n).isNone).map fun n =>
    s.onInteg d fun x => { x with records := FMap.set x.records n c }

/-- Records that wait are placed as the buffers have room. -/
def State.placeWaiting (s : State) : State :=
  s.reckList.foldl (fun s k =>
    (((s.reck (k / 5) (k % 5)).run.map Run.records).getD []).foldl (fun s c =>
      match s.placeRecord c with
      | some s => s.onReck (k / 5) (k % 5) fun x =>
          { x with run := x.run.map fun r => { r with records := r.records.filter fun y => y.id != c.id } }
      | none => s) s) s

/-! ### Retraction log (R510 to R512) -/

/-- Entries of a retraction log. -/
def logSize : Nat := 16384

/-- An entry written for a released block (R510); false while the log is full (R511). -/
def State.logBlock (s : State) (d : Nat) (block : Word64) (fn dest : Nat) (src : LogSource) (gen : Nat) : Bool × State :=
  let x := s.integ d
  if logSize ≤ x.log.length then (false, s) else
  let e : LogEntry := { seq := x.nextSeq, block := block, fn := fn, dest := dest, source := src, gen := gen }
  let s := s.onInteg d fun y => { y with log := y.log ++ [e], nextSeq := y.nextSeq + 1 }
  let s := (s.count (integrityPage d) Ctr.integrityLogEntries).count (integrityFnPage d fn) Ctr.integrityFnLogEntries
  let n := x.log.length + 1
  let s := if (s.ctr (integrityPage d) Ctr.integrityLogHighWater).toNat < n then
      s.setLevel (integrityPage d) Ctr.integrityLogHighWater n else s
  (true, if n = logSize then s.raise (integrityPage d) 4 else s)

/-- Entries of a log that `p` names freed. -/
def State.freeLog (s : State) (d : Nat) (p : LogEntry → Bool) : State :=
  s.onInteg d fun x => { x with log := x.log.filter fun e => !p e }

/-! ### Integrity messages (R513) -/

/-- Bytes of the 16-byte header of an integrity message. -/
def integrityHeader (kind count fn flags seq coll gen : Nat) : List Byte :=
  toBE 4 (kind * 2 ^ 28 + count % 4096 * 2 ^ 16 + (if fn = 0 then 2048 else (fn - 1) * 4096) + flags) ++ toBE 4 seq ++
    toBE 4 coll ++ toBE 4 gen

/-- An integrity message sent by a die. The spec names no traffic class for it: a free value. -/
def State.sendIntegrity (s : State) (d dest : Nat) (header payload : List Byte) : State :=
  let c := s.takeFree
  let m := header ++ payload
  c.2.inject d (ownPacket (s.endpoint d) dest (c.1.toNat % 8) ptPoisonNotice (m ++ tallies 0 m)) flowLocal

/-- The function that an integrity message names. -/
def integrityFn (h : List Byte) : Nat := if bit (be h 0 4) 11 then 0 else bits (be h 0 4) 15 12 + 1

/-! ### Poison notices (R514 to R518) -/

/-- One block of a notice applied (R516): what it counts, and whether its poison bit went from 0 to 1. -/
def State.noticeBlock (s : State) (d fn : Nat) (a : Word64) : Bool × State :=
  let p := integrityPage d
  if !s.hasEndpoint d || gaEndpoint a != s.endpoint d then (false, s.count p Ctr.integrityNoticeBlocksRefused) else
  match s.demandWalk d 10 fn (gaOffset a) true with
  | (.found t, s) =>
    let pa := t.pa (gaOffset a)
    if s.poisoned d pa then (false, s)
    else (true, ((s.setPoison d pa true).count p Ctr.integrityNoticeBlocksPoisoned).count (integrityFnPage d fn)
      Ctr.integrityFnBlocksPoisoned)
  | (_, s) => (false, s.count p Ctr.integrityNoticeBlocksRefused)

/-- The blocks of a notice applied in order: how many were newly poisoned. -/
def State.noticeBlocks (s : State) (d fn : Nat) : List Word64 → Nat × State
  | [] => (0, s)
  | a :: as =>
    let r := s.noticeBlock d fn a
    let r' := State.noticeBlocks r.2 d fn as
    (r'.1 + b2n r.1, r'.2)

/-- A notice applied on a die (R516): the count of newly poisoned blocks, with its event. -/
def State.applyNotice (s : State) (d fn sender seq : Nat) (blocks : List Word64) : Nat × State :=
  let r := s.noticeBlocks d fn blocks
  let s := r.2.count (integrityPage d) Ctr.integrityNoticesReceived
  (r.1, if r.1 = 0 then s else s.integrityEvent d fn 1 0 r.1 sender seq ((blocks.head?).getD 0).toNat)

/-- A NOTICE packet sent. -/
def State.emitNotice (s : State) (d : Nat) (n : Notice) : State :=
  s.sendIntegrity d n.dest (integrityHeader 1 n.blocks.length n.fn 0 n.seq.toNat 0 n.gen)
    (n.blocks.flatMap fun a => toBE 8 a.toNat)

/-- One notice started: applied on its own die at once, or sent and kept until its acknowledgement (R514, R515). -/
def State.startNotice (s : State) (d : Nat) (n : Notice) : State :=
  if s.hasEndpoint d && n.dest == s.endpoint d then
    (s.applyNotice d n.fn n.dest n.seq.toNat n.blocks).2.freeLog d fun e =>
      e.retracting && e.dest == n.dest && e.fn == n.fn && n.blocks.contains e.block && e.gen == n.gen
  else
    ((s.onInteg d fun x => { x with notices := x.notices ++ [n] }).count (integrityPage d)
      Ctr.integrityNoticesSent).emitNotice d n

/-- The notices that cover a list of entries: up to 1,022 with one destination, function and generation each (R514). -/
def noticesOf : Nat → List LogEntry → List Notice
  | 0, _ => []
  | _, [] => []
  | fuel + 1, e :: es =>
    let same (x : LogEntry) : Bool := x.dest == e.dest && x.fn == e.fn && x.gen == e.gen
    let here := (e :: es.filter same).take 1022
    { seq := e.seq, dest := e.dest, fn := e.fn, gen := e.gen, blocks := here.map LogEntry.block } ::
      noticesOf fuel (es.filter fun x => !here.contains x)

/-- The entries of a log that `p` names are retracted (R512, R514). -/
def State.retract (s : State) (d : Nat) (p : LogEntry → Bool) : State :=
  let l := (s.integ d).log.filter fun e => p e && !e.retracting
  let s := s.onInteg d fun x => { x with log := x.log.map fun e => if p e then { e with retracting := true } else e }
  (noticesOf l.length l).foldl (fun s n => s.startNotice d n) s

/-- A check passes or ends without a verdict: it leaves the entries that it was linked to, and an entry without checks is
freed (R511). -/
def State.unlink (s : State) (d : Nat) (id : Nat) : State :=
  s.onInteg d fun x => { x with log := x.log.filterMap fun e =>
    match e.source with
    | .reckoner k l =>
      let l' := l.filter (· != id)
      if e.retracting then some e else if l'.isEmpty then none else some { e with source := .reckoner k l' }
    | .chunk .. => some e }

/-- Whether an entry is linked to a check. -/
def LogEntry.linked (e : LogEntry) (id : Nat) : Bool :=
  match e.source with
  | .reckoner _ l => l.contains id
  | .chunk .. => false

/-- The parts of a received integrity message: header and payload, where its LENGTH, tallies and reserved fields are
good. -/
def integrityParts (p : Packet) : Option (List Byte × List Byte) :=
  match untally 0 p.body with
  | some (m, true) => if m.length < 16 ∨ p.length.toNat ≠ p.body.length then none else some (m.take 16, m.drop 16)
  | _ => none

/-- NOTICE (R516): its blocks are poisoned and it is acknowledged. -/
def execNotice (d : Nat) (p : Packet) (s : State) : Result :=
  atDie s d <|
    let s := s.takeLocal d p
    match integrityParts p with
    | none => s
    | some (h, body) =>
      let n := bits (be h 0 4) 27 16
      if bits (be h 0 4) 31 28 ≠ 1 ∨ n = 0 ∨ 1022 < n ∨ body.length ≠ 8 * n then s else
      let blocks := (pieces 8 body).map fun b => BitVec.ofNat 64 (fromBE b)
      let r := s.applyNotice d (integrityFn h) p.source.toNat (be h 4 4) blocks
      r.2.sendIntegrity d p.source.toNat (integrityHeader 2 r.1 (integrityFn h) 0 (be h 4 4) 0 0) []

/-- NOTICE_ACK (R515): the notice's entries are freed. -/
def execNoticeAck (d : Nat) (p : Packet) (s : State) : Result :=
  atDie s d <|
    let s := s.takeLocal d p
    match integrityParts p with
    | none => s
    | some (h, _) =>
      if bits (be h 0 4) 31 28 ≠ 2 then s else
      match (s.integ d).notices.find? fun n => n.seq.toNat == be h 4 4 && n.dest == p.source.toNat with
      | none => s
      | some n =>
        (s.onInteg d fun x => { x with notices := x.notices.filter (· != n) }).freeLog d fun e =>
          e.retracting && e.dest == n.dest && e.fn == n.fn && e.gen == n.gen && n.blocks.contains e.block

/-- NOTICE_REPEAT (R515): a notice is sent again; after LIMIT repeats its entries are freed. -/
def execNoticeRepeat (d : Nat) (sequence : Word) (s : State) : Result :=
  atDie s d <|
    match (s.integ d).notices.find? fun n => n.seq == sequence with
    | none => s
    | some n =>
      if n.repeats < bits (s.reg (integrityPage d) 0x118) 31 16 then
        ((s.onInteg d fun x => { x with notices := x.notices.map fun m =>
            if m == n then { m with repeats := m.repeats + 1 } else m }).count (integrityPage d)
          Ctr.integrityNoticeRepeats).emitNotice d n
      else
        let s := (s.onInteg d fun x => { x with notices := x.notices.filter (· != n) }).freeLog d fun e =>
          e.retracting && e.dest == n.dest && e.fn == n.fn && e.gen == n.gen && n.blocks.contains e.block
        ((s.count (integrityPage d) Ctr.integrityNoticesUnacked).raise (integrityPage d) 8).integrityEvent d n.fn 5 0 0
          n.dest n.seq.toNat ((n.blocks.head?).getD 0).toNat

/-- TALLY_REREAD (R488): the second read of a block that failed its tally, for function `f`, at die physical address `pa`
reached through offset `address` of the die's global addresses. -/
def execTallyReread (d f pa address : Nat) (s : State) : Result :=
  atUnit s d (f < s.fns.length) (s.tallyReread d f pa address)

end Sys2Proof.Machine
end

