-- ==== Sys2Proof/Machine/Recipes.lean ====
section
/-!
DEFINITION. Recipe bundles: their tables, the checks of LOAD_RECIPE, the stage order, formats at run, sequence tables
(R402 to R419, R428, R429), and the sampling unit's functions (R431 to R433).
-/

namespace Sys2Proof.Machine

/-! ### The bundle's tables (R402, R403) -/

def bLoops (b : List Byte) : Nat := le b 6 1
def bGens (b : List Byte) : Nat := le b 7 1
def bStages (b : List Byte) : Nat := le b 8 1
def bChain (b : List Byte) : Nat := le b 9 1
def bConsts (b : List Byte) : Nat := le b 10 1
/-- FORMAT_MASK, RELEASE, SEQUENCES, LOG2_BLOCK_TOKENS and ARG_WORDS. -/
def bFormats (b : List Byte) : Nat := le b 11 1
def bRelease (b : List Byte) : Nat := bits (le b 0x0C 4) 1 0
def bSequences (b : List Byte) : Bool := bit (le b 0x0C 4) 2
def bTokens (b : List Byte) : Nat := 2 ^ bits (le b 0x0C 4) 7 4
def bArgs (b : List Byte) : Nat := bits (le b 0x0C 4) 15 8

/-- Offsets of the tables after the loops. -/
def bGenBase (b : List Byte) : Nat := 64 + 8 * bLoops b
def bStageBase (b : List Byte) : Nat := bGenBase b + 88 * bGens b
def bChainBase (b : List Byte) : Nat := bStageBase b + 32 * bStages b
def bConstBase (b : List Byte) : Nat := bChainBase b + 8 * bChain b
def bTotal (b : List Byte) : Nat := bConstBase b + 4 * bConsts b

/-- A loop entry: KIND, COUNT_ARG, COUNT (R407). -/
def bLoop (b : List Byte) (d : Nat) : Nat := le b (64 + 8 * d) 8
def loopKind (w : Nat) : Nat := bits w 1 0
def loopArg (w : Nat) : Bool := bit w 2
def loopCount (w : Nat) : Nat := bits w 63 32

/-- Constant `k`. -/
def bConst (b : List Byte) (k : Nat) : Word := BitVec.ofNat 32 (le b (bConstBase b + 4 * k) 4)

/-- An address generator (R409). -/
structure Gen where
  base    : Word64
  space   : Nat
  ind     : Bool
  seq     : Bool
  mask    : Nat
  strides : List Word64
  deriving DecidableEq, Repr

def bGen (b : List Byte) (g : Nat) : Gen :=
  let o := bGenBase b + 88 * g
  let w := le b (o + 8) 8
  { base := BitVec.ofNat 64 (le b o 8), space := bits w 1 0, ind := bit w 2, seq := bit w 3, mask := bits w 16 8
    strides := (List.range 9).map fun t => BitVec.ofNat 64 (le b (o + 16 + 8 * t) 8) }

/-- A stage entry (R414). -/
structure Stage where
  kind       : Nat
  depth      : Nat
  phase      : Bool
  chainFirst : Nat
  chainLen   : Nat
  param      : Nat
  in0        : Nat
  in1        : Nat
  in2        : Nat
  out        : Nat
  scale0     : Nat
  scale1     : Nat
  slot0      : Nat
  slot1      : Nat
  rows       : Nat
  cols       : Nat
  accInit    : Nat
  draw       : Bool
  length     : Nat
  rowStride  : Nat
  colStride  : Nat
  scaleCol   : Nat
  deriving DecidableEq, Repr

def bStage (b : List Byte) (i : Nat) : Stage :=
  let o := bStageBase b + 32 * i
  let w := le b o 4
  let g := le b (o + 4) 4
  let r := le b (o + 8) 4
  { kind := bits w 3 0, depth := bits w 6 4, phase := bit w 7, chainFirst := bits w 13 8, chainLen := bits w 18 14
    param := bits w 31 24, in0 := bits g 3 0, in1 := bits g 7 4, in2 := bits g 11 8, out := bits g 15 12
    scale0 := bits g 19 16, scale1 := bits g 23 20, slot0 := bits g 27 24, slot1 := bits g 31 28
    rows := bits r 12 0, cols := bits r 21 13, accInit := bits r 23 22, draw := bit r 24, length := le b (o + 12) 4
    rowStride := le b (o + 0x10) 3, colStride := le b (o + 0x14) 3, scaleCol := le b (o + 0x18) 3 }

def kLoad : Nat := 0
def kMatmul : Nat := 1
def kVector : Nat := 2
def kStore : Nat := 3
def kSample : Nat := 4
def kSignal : Nat := 5
def kWait : Nat := 6

/-- A chain entry (R417). -/
structure ChainEntry where
  op        : Nat
  a         : Nat
  b         : Nat
  c         : Nat
  param     : Nat
  slot      : Nat
  maskLevel : Nat
  halves    : Bool
  headWidth : Nat
  deriving DecidableEq, Repr

def bEntry (b : List Byte) (i : Nat) : ChainEntry :=
  let w := le b (bChainBase b + 8 * i) 8
  { op := bits w 7 0, a := bits w 11 8, b := bits w 15 12, c := bits w 19 16, param := bits w 27 20, slot := bits w 31 28
    maskLevel := bits w 34 32, halves := bit w 35, headWidth := bits w 47 36 }

/-- The chain of a stage. -/
def bChainOf (b : List Byte) (st : Stage) : List ChainEntry :=
  (List.range st.chainLen).map fun i => bEntry b (st.chainFirst + i)

/-! ### The checks of LOAD_RECIPE (R404) -/

/-- Index of the SEQUENCE loop; 6 where there is none. -/
def bSeqLoop (b : List Byte) : Nat :=
  ((List.range (bLoops b)).find? fun d => loopKind (bLoop b d) == 1).getD 6

/-- A loop entry is good (R407). -/
def loopOk (b : List Byte) (d : Nat) : Bool :=
  let w := bLoop b d
  bits w 31 3 == 0 &&
  (match loopKind w with
    | 0 => if loopArg w then decide (loopCount w < bArgs b) else decide (1 ≤ loopCount w ∧ loopCount w ≤ 2 ^ 24)
    | 1 => bSequences b && !loopArg w && loopCount w == 0 && bSeqLoop b == d
    | 2 => bSequences b && !loopArg w && loopCount w == 0 && decide (bSeqLoop b < d)
    | _ => false)

/-- A generator entry is good (R409). An argument-word index lies inside the argument block (DEDUCED). -/
def genOk (b : List Byte) (g : Nat) : Bool :=
  let w := le b (bGenBase b + 88 * g + 8) 8
  let x := bGen b g
  x.space != 3 && bits w 7 4 == 0 && bits w 63 17 == 0 && !(x.space == 1 && (x.ind || x.seq)) &&
  (x.space != 2 || x.seq || decide (x.base.toNat < bArgs b))

/-- A generator field names a generator of a space that `ok` admits, or none where `opt` allows it. -/
def operandOk (b : List Byte) (opt : Bool) (ok : Nat → Bool) (g : Nat) : Bool :=
  if g = 15 then opt else decide (g < bGens b) && ok (bGen b g).space

/-- A stage entry is good (R414, R415, R420, R431, R432). -/
def stageOk (b : List Byte) (i : Nat) : Bool :=
  let o := bStageBase b + 32 * i
  let st := bStage b i
  let inStage (g : Nat) := operandOk b false (· == 1) g
  let inGlobal (g : Nat) := operandOk b false (· != 1) g
  let any (g : Nat) := operandOk b true (fun _ => true) g
  bits (le b o 4) 23 19 == 0 && bits (le b (o + 8) 4) 31 25 == 0 && le b (o + 0x13) 1 == 0 && le b (o + 0x17) 1 == 0 &&
  le b (o + 0x1B) 1 == 0 && le b (o + 0x1C) 4 == 0 &&
  decide (st.kind ≤ 6 ∧ st.depth ≤ bLoops b ∧ st.chainLen ≤ 16 ∧ st.chainFirst + st.chainLen ≤ bChain b) &&
  decide (st.slot0 ≤ 9 ∧ st.slot1 ≤ 9 ∧ st.accInit ≠ 3 ∧ 1 ≤ st.rows ∧ st.rows ≤ 4096) &&
  any st.in0 && any st.in1 && any st.in2 && any st.out && any st.scale0 && any st.scale1 &&
  (match st.kind with
    | 0 => inGlobal st.in0 && inStage st.out && decide (1 ≤ st.length ∧ st.length ≤ 262144)
    | 1 => st.in0 != 15 && inStage st.in1 && inStage st.out && decide (1 ≤ st.cols ∧ st.cols ≤ 256 ∧ 1 ≤ st.length) &&
        (st.accInit != 2 || inStage st.in2)
    | 2 => inStage st.in0 && operandOk b true (· == 1) st.in1 && operandOk b true (· == 1) st.in2 && inStage st.out &&
        decide (1 ≤ st.length)
    | 3 => inStage st.in0 && inGlobal st.out && decide (1 ≤ st.length ∧ st.length ≤ 262144)
    | 4 => inStage st.in0 &&
        (if st.draw then decide (0 < st.length ∧ st.length % 256 = 0 ∧ bSeqLoop b < st.depth)
         else st.out != 15 && decide (1 ≤ st.length ∧ st.param < bArgs b))
    | 5 => inGlobal st.out && st.length == 0
    | _ => inGlobal st.in0 && decide (st.param < bArgs b))

/-- A chain entry is good (R417, R418). MASK_LEVEL names a loop of the recipe (DEDUCED). -/
def entryOk (b : List Byte) (i : Nat) : Bool :=
  let e := bEntry b i
  let consts := if e.op = 0x08 then 2 else if e.op = 0x18 ∨ e.op = 0x19 ∨ e.a = 5 ∨ e.b = 5 ∨ e.c = 5 then 1 else 0
  decide (e.op ≤ 0x1C ∧ e.a ≤ 6 ∧ e.b ≤ 6 ∧ e.c ≤ 6) && bits (le b (bChainBase b + 8 * i) 8) 63 48 == 0 &&
  (if e.op = 0x1B ∨ e.op = 0x1C then decide (e.slot ≤ 8) else e.slot == 0) &&
  (e.op != 0x14 || decide (2 ≤ e.headWidth ∧ e.headWidth ≤ 4094 ∧ e.headWidth % 2 = 0)) &&
  (e.op != 0x15 || decide (e.maskLevel < bLoops b)) && (consts == 0 || decide (e.param + consts ≤ bConsts b))

/-- Whether a bundle passes every check of R404. -/
def bundleOk (b : List Byte) : Bool :=
  decide (64 ≤ b.length ∧ b.length ≤ 8192) && le b 0 4 == 0x50434552 && le b 4 2 == 1 && bTotal b == b.length &&
  le b 0x10 4 == b.length && crc32c (b.take 0x14 ++ zeros 4 ++ b.drop 0x18) == BitVec.ofNat 32 (le b 0x14 4) &&
  decide (bLoops b ≤ 6 ∧ bGens b ≤ 15 ∧ 1 ≤ bStages b ∧ bStages b ≤ 32 ∧ bChain b ≤ 64 ∧ bRelease b ≠ 3) &&
  !bit (le b 0x0C 4) 3 && bits (le b 0x0C 4) 31 16 == 0 && decide (bits (le b 0x0C 4) 7 4 ≤ 10) &&
  allZero (slice b 0x18 40) && (List.range (bLoops b)).all (loopOk b) && (List.range (bGens b)).all (genOk b) &&
  (List.range (bStages b)).all (stageOk b) && (List.range (bChain b)).all (entryOk b)

/-! ### Formats at run (R370, R381, R416, R423) -/

/-- The format of a SLOT field under a snapshot: 8 is BF16, 9 FP32; none where a slot is not in the snapshot. -/
inductive SlotFmt where
  | slot (f : Fmt)
  | bf16
  | fp32
  deriving DecidableEq, Repr

def slotFmt (snap : List (Nat × Nat)) (k : Nat) : Option SlotFmt :=
  if k = 8 then some .bf16 else if k = 9 then some .fp32 else (FMap.get? snap k).map fun w => .slot (Fmt.ofWord w)

def SlotFmt.width : SlotFmt → Nat
  | .slot f => f.width
  | .bf16 => 16
  | .fp32 => 32
def SlotFmt.block : SlotFmt → Nat
  | .slot f => f.block
  | _ => 32
/-- Whether the format has a scale array. -/
def SlotFmt.scaled : SlotFmt → Bool
  | .slot f => f.scale != 0
  | _ => false

/-- Width class of a product and the K of its tile (R369). -/
def widthClass (w : Nat) : Nat := if 8 < w then 1 else if 4 < w then 2 else 3
def classK (c : Nat) : Nat := 128 * 2 ^ c

/-- Whether a MATMUL's operands are good under a snapshot (R370, R416). -/
def matmulOk (snap : List (Nat × Nat)) (st : Stage) : Bool :=
  match slotFmt snap st.slot0, slotFmt snap st.slot1 with
  | some .bf16, some .bf16 => decide (st.length % 32 = 0 ∧ st.length ≤ 256)
  | some (.slot f), some (.slot g) =>
    decide (f.block = g.block ∧ st.length % f.block = 0 ∧ st.length ≤ classK (widthClass (max f.width g.width)))
  | _, _ => false

/-- Whether every format that a bundle uses is in the snapshot, and every MATMUL is good (R423). -/
def formatsOk (b : List Byte) (snap : List (Nat × Nat)) : Bool :=
  (List.range (bStages b)).all fun i =>
    let st := bStage b i
    let has (k : Nat) : Bool := (slotFmt snap k).isSome
    if st.kind = kMatmul then matmulOk snap st
    else if st.kind = kVector then
      has st.slot0 && (st.in1 == 15 || has st.slot1) &&
      (bChainOf b st).all fun e => !(e.op == 0x1B || e.op == 0x1C) || has e.slot
    else true

/-! ### Stage order (R407, R408) -/

/-- The current sequence of a stage or loop at a depth: its entry number. -/
def Run.sequence (r : Run) (b : List Byte) (depth : Nat) : Option Nat :=
  if bSeqLoop b < depth then r.active[(r.counters[bSeqLoop b]?).getD 0]? else none

/-- How often loop `d` runs for the present counters. -/
def loopRuns (b : List Byte) (seqs : List Sequence) (r : Run) (d : Nat) : Nat :=
  let w := bLoop b d
  match loopKind w with
  | 0 => if loopArg w then ((((r.args.getD [])[loopCount w]?).getD 0).toNat) % 2 ^ 24 else loopCount w
  | 1 => r.active.length
  | _ =>
    match (r.sequence b d).bind fun e => seqs[e]? with
    | some q => ceilDiv (q.position.toNat + 1) (bTokens b)
    | none => 0

/-- Whether some stage below loop `d` can run: every loop down to its depth runs at least once. -/
def loopLive (b : List Byte) (seqs : List Sequence) (r : Run) (d : Nat) : Bool :=
  (List.range (bStages b)).any fun i =>
    let e := (bStage b i).depth
    decide (d < e) && (List.range (e - d)).all fun j =>
      loopKind (bLoop b (d + j)) == 2 || 0 < loopRuns b seqs r (d + j)

/-- The first stage of a depth and phase from index `n` on. -/
def stageFrom (b : List Byte) (depth : Nat) (phase : Bool) (n : Nat) : Option Nat :=
  (List.range (bStages b)).find? fun i => decide (n ≤ i) && (bStage b i).depth == depth && (bStage b i).phase == phase

/-- The walk of R408 from a cursor to the next stage; none at the end. `fuel` bounds the moves between two stages. -/
def walkStages (b : List Byte) (seqs : List Sequence) : Nat → Run → Run
  | 0, r => { r with stage := none }
  | fuel + 1, r =>
    let c := r.cursor
    let set (d n : Nat) : List Nat := r.counters.set d n
    match stageFrom b c.depth c.leaving c.next with
    | some i => { r with stage := some i, cursor := { c with next := i + 1 } }
    | none =>
      if !c.leaving then
        if c.depth < bLoops b && loopLive b seqs r c.depth then
          walkStages b seqs fuel { r with counters := set c.depth 0, cursor := ⟨false, c.depth + 1, 0⟩ }
        else walkStages b seqs fuel { r with cursor := ⟨true, c.depth, 0⟩ }
      else if c.depth = 0 then { r with stage := none }
      else
        let d := c.depth - 1
        let n := (r.counters[d]?).getD 0 + 1
        if n < loopRuns b seqs r d then
          walkStages b seqs fuel { r with counters := set d n, cursor := ⟨false, c.depth, 0⟩ }
        else walkStages b seqs fuel { r with counters := set d 0, cursor := ⟨true, d, 0⟩ }

/-- A run moved to its next stage. -/
def Run.next (r : Run) (b : List Byte) (seqs : List Sequence) : Run :=
  walkStages b seqs 64 { r with begun := false, moved := 0, waiting := false, held := false, token := none }

/-! ### Sequence tables (R428, R429) -/

/-- An entry of a sequence table from its 64 bytes. -/
def seqOf (b : List Byte) : Sequence :=
  { state := bits (le b 0 4) 1 0, topK := bits (le b 0 4) 24 16, id := BitVec.ofNat 32 (le b 4 4)
    position := BitVec.ofNat 32 (le b 8 4), maxPosition := BitVec.ofNat 32 (le b 0x0C 4)
    blockTable := BitVec.ofNat 64 (le b 0x10 8), temperature := BitVec.ofNat 32 (le b 0x18 4)
    topP := BitVec.ofNat 32 (le b 0x1C 4), seed := BitVec.ofNat 64 (le b 0x20 8), key := le b 0x28 2
    stopToken := bits (le b 0x2C 4) 17 0, stopEn := bit (le b 0x2C 4) 31, ring := BitVec.ofNat 64 (le b 0x30 8)
    log2Ring := bits (le b 0x38 4) 4 0 }

/-- Whether a numeric value is below another; false with a NaN. -/
def f32Lt (a b : Word) : Bool :=
  match Fp.ofWord a, Fp.ofWord b with
  | .inf s, .inf t => s && !t
  | .inf s, .fin _ _ => s
  | .fin _ _, .inf t => !t
  | .fin s x, .fin t y => signed s x < signed t y
  | _, _ => false
def f32Le (a b : Word) : Bool := f32Lt a b || (match Fp.ofWord a, Fp.ofWord b with
  | .nan, _ | _, .nan => false
  | x, y => x == y || !f32Lt b a)

/-- Whether an entry that is not FREE keeps to R428, on a die with an endpoint. A BLOCK_TABLE of 0 names none
(DEDUCED). -/
def seqOk (endpoint : Nat) (b : List Byte) : Bool :=
  let e := seqOf b
  let finite : Bool := match Fp.ofWord e.temperature with | .fin _ _ => true | _ => false
  bits (le b 0 4) 15 2 == 0 && bits (le b 0 4) 31 25 == 0 && decide (1 ≤ e.topK ∧ e.topK ≤ 256) &&
  finite && f32Le 0 e.temperature && f32Lt 0 e.topP && f32Le e.topP 0x3F800000 && le b 0x2A 2 == 0 &&
  bits (le b 0x2C 4) 30 18 == 0 && e.ring.toNat % 4 == 0 && decide (4 ≤ e.log2Ring ∧ e.log2Ring ≤ 20) &&
  bits (le b 0x38 4) 31 5 == 0 && le b 0x3C 4 == 0 && (e.blockTable == 0 || gaEndpoint e.blockTable == endpoint)

/-! ### Sampling (R431 to R433) -/

/-- A logit by which candidates are ordered: a NaN counts as −∞. -/
def logitOf (w : Word) : Word := if Fp.ofWord w == .nan then 0xFF800000 else w

/-- Candidate order: logit descending, then token ascending. -/
def candBefore (a b : Word × Word) : Bool :=
  f32Lt (logitOf b.1) (logitOf a.1) || (!f32Lt (logitOf a.1) (logitOf b.1) && decide (a.2.toNat ≤ b.2.toNat))

/-- A candidate put into an ordered list, and a list ordered. -/
def candInsert (a : Word × Word) : List (Word × Word) → List (Word × Word)
  | [] => [a]
  | b :: l => if candBefore a b then a :: b :: l else b :: candInsert a l
def candSort (l : List (Word × Word)) : List (Word × Word) := l.foldr candInsert []

/-- The 256 candidates of a row of logits whose first token is `first`, and its NaN logits (R431). -/
def candidates (first : Nat) (logits : List Word) : List (Word × Word) × Nat :=
  let l := candSort (logits.zipIdx.map fun x => (logitOf x.1, BitVec.ofNat 32 (first + x.2)))
  ((l ++ List.replicate (256 - l.length) (0xFF800000, 0xFFFFFFFF)).take 256,
    (logits.filter fun w => Fp.ofWord w == .nan).length)

/-- rng24 (R433). -/
def rng24 (key : List Byte) (e : Sequence) : Nat :=
  be (aesEncrypt key (toBE 8 e.seed.toNat ++ toBE 4 (e.position + 1).toNat ++ zeros 4)) 0 3

/-- Running sums of a list of values, each addition rounded. -/
def runningSums : Word → List Word → List Word
  | _, [] => []
  | c, x :: xs => f32Add c x :: runningSums (f32Add c x) xs

/-- The token drawn from candidates with a random number, and whether the draw was greedy (R432); none without a valid
candidate. -/
def drawToken (e : Sequence) (rng : Nat) (l : List (Word × Word)) : Option (Word × Bool) :=
  let l := candSort (l.filter fun c => c.2 != 0xFFFFFFFF)
  match l with
  | [] => none
  | c0 :: _ =>
    if e.temperature.toNat % 2 ^ 31 = 0 ∨ logitOf c0.1 = 0xFF800000 then some (c0.2, true) else
    let k := min e.topK l.length
    let z := (l.take k).map fun c => f32Div c.1 e.temperature
    let z0 := (z.head?).getD 0
    let cum := runningSums 0 (z.map fun x => f32Exp (f32Sub x z0))
    let at_ (i : Nat) : Word := (cum[i]?).getD 0
    let lim := f32Mul e.topP (at_ (k - 1))
    let n := 1 + ((cum.take (k - 1)).takeWhile fun c => f32Lt c lim).length
    let u : Word := (Fp.fin false ((rng : Rat) * pow2 (-24))).toWord
    let t := f32Mul u (at_ (n - 1))
    let i := ((cum.take (n - 1)).takeWhile fun c => f32Le c t).length
    (l[i]?).map fun c => (c.2, false)

end Sys2Proof.Machine
end

