-- ==== Sys2Proof/Machine/Chains.lean ====
section
/-!
DEFINITION. Operator chains of a VECTOR stage on one row (R390 to R395, R417 to R419).
-/

namespace Sys2Proof.Machine

/-- What a chain reads besides its own results: its inputs as FP32 words, constants, the predicate of MASK by loop level
and element, format snapshot, and free words for the operands that the spec gives no value. -/
structure ChainIn where
  n      : Nat
  in0    : List Word
  in1    : Option (List Word)
  in2    : Option (List Word)
  const  : Nat → Word
  masked : Nat → Nat → Bool
  snap   : List (Nat × Nat)
  free   : Nat → Word

/-- A chain under way: the previous entry's result, the last reduction, the scale bytes and saturations of CONVERT. -/
structure ChainState where
  step     : Nat := 0
  prev     : Option (List Word) := none
  row      : Option Word := none
  scales   : List Byte := []
  saturated : Nat := 0
  specials : Nat := 0

/-- A row of free words of the present entry. -/
def ChainIn.anyRow (c : ChainIn) (x : ChainState) : List Word :=
  (List.range c.n).map fun e => c.free (x.step * 2 ^ 32 + e)

/-- The row of an operand source (R418). A source that gives no value gives free words. -/
def ChainIn.source (c : ChainIn) (x : ChainState) (e : ChainEntry) (code : Nat) : List Word :=
  match code with
  | 1 => x.prev.getD (c.anyRow x)
  | 2 => c.in0
  | 3 => c.in1.getD (c.anyRow x)
  | 4 => c.in2.getD (c.anyRow x)
  | 5 => List.replicate c.n (c.const e.param)
  | 6 => (x.row.map (List.replicate c.n)).getD (c.anyRow x)
  | _ => c.anyRow x

/-- The partner and side of a lane under ROTARY's pairing (R390): none where the row ends inside the pair. -/
def rotaryPair (n : Nat) (e : ChainEntry) (i : Nat) : Option (Nat × Nat × Bool) :=
  let w := e.headWidth
  let r :=
    if e.halves then
      let h := i / w * w
      let j := i % w
      if j < w / 2 then (i, h + j + w / 2, true) else (h + j - w / 2, i, false)
    else if i % 2 = 0 then (i, i + 1, true) else (i - 1, i, false)
  if r.2.1 < n then some r else none

/-- ROTARY of a row. The angle of a pair is that of its first lane (DEDUCED). -/
def rotaryRow (c : ChainIn) (x : ChainState) (e : ChainEntry) (a th : List Word) : List Word :=
  (List.range c.n).map fun i =>
    match rotaryPair c.n e i with
    | some (j, k, first) =>
      let r := f32Rotary ((a[j]?).getD 0) ((a[k]?).getD 0) ((th[j]?).getD 0)
      if first then r.1 else r.2
    | none => c.free (x.step * 2 ^ 32 + i)

/-- LOAD_CONVERT of a row (R393): the element in the low bits of a, under the scale byte in the low bits of b, or 1 where
b is unused. DESIGN CHOICE (notes/assumptions/18.md). -/
def loadRow (c : ChainIn) (e : ChainEntry) (a b : List Word) : List Word :=
  match slotFmt c.snap e.slot with
  | some (.slot f) =>
    List.zipWith (fun x y =>
      if e.b = 0 then (f.decode (x.toNat % 2 ^ f.width)).toWord else f.load (x.toNat % 2 ^ f.width) (y.toNat % 256)) a b
  | _ => a.map fun x => (Fp.ofWord (bf16Value (x.toNat % 65536))).toWord

/-- CONVERT of a row: element codes, scale bytes, saturations and specials (R394, R395). -/
def convertRow (c : ChainIn) (e : ChainEntry) (a : List Word) : List Word × List Byte × Nat × Nat :=
  match slotFmt c.snap e.slot with
  | some (.slot f) =>
    let rs := (pieces f.block a).map f.convert
    ((rs.flatMap fun r => r.2.1).map (BitVec.ofNat 32),
      if f.scale = 0 then [] else rs.map fun r => BitVec.ofNat 8 r.1, (rs.map fun r => r.2.2.1).sum,
      (rs.map fun r => r.2.2.2).sum)
  | _ => (a.map fun w => BitVec.ofNat 32 (toBf16 w), [], 0, 0)

/-- One entry of a chain. -/
def chainStep (c : ChainIn) (x : ChainState) (e : ChainEntry) : ChainState :=
  let a := c.source x e e.a
  let b := c.source x e e.b
  let d := c.source x e e.c
  let zip (f : Word → Word → Word) : List Word := List.zipWith f a b
  let done (l : List Word) : ChainState := { x with step := x.step + 1, prev := some l }
  let reduced (v : Word) : ChainState := { x with step := x.step + 1, prev := some (List.replicate c.n v), row := some v }
  match e.op with
  | 0x00 => done a
  | 0x01 => done (zip f32Add)
  | 0x02 => done (zip f32Sub)
  | 0x03 => done (zip f32Mul)
  | 0x04 => done (List.zipWith (fun p q => f32Fma p.1 p.2 q) (List.zip a b) d)
  | 0x05 => done (zip f32Div)
  | 0x06 => done (zip f32Max)
  | 0x07 => done (zip f32Min)
  | 0x08 => done (a.map fun v => f32Min (f32Max v (c.const e.param)) (c.const (e.param + 1)))
  | 0x09 => done (a.map f32Recip)
  | 0x0A => done (a.map f32Sqrt)
  | 0x0B => done (a.map f32Rsqrt)
  | 0x0C => done (a.map f32Exp)
  | 0x0D => done (a.map f32Log)
  | 0x0E => done (a.map f32Tanh)
  | 0x0F => done (a.map f32Sigmoid)
  | 0x10 => done (a.map f32Silu)
  | 0x11 => done (a.map f32Gelu)
  | 0x12 => done (a.map f32Sin)
  | 0x13 => done (a.map f32Cos)
  | 0x14 => done (rotaryRow c x e a d)
  | 0x15 => done (a.zipIdx.map fun v => if c.masked e.maskLevel v.2 then 0xFF800000 else v.1)
  | 0x16 => reduced (rowSum a)
  | 0x17 => reduced (rowMax a)
  | 0x18 => done (rmsNorm (c.const e.param) b a)
  | 0x19 => done (layerNorm (c.const e.param) b d a)
  | 0x1A => done (softmax a)
  | 0x1B => done (loadRow c e a b)
  | _ =>
    let r := convertRow c e a
    { step := x.step + 1, prev := some r.1, row := x.row, scales := r.2.1, saturated := x.saturated + r.2.2.1
      specials := x.specials + r.2.2.2 }

/-- A chain run on a row (R417). -/
def runChain (c : ChainIn) (l : List ChainEntry) : ChainState := l.foldl (chainStep c) {}

/-- The bytes that the last entry's result writes to OUT: the elements of CONVERT's format, or FP32 words. -/
def chainBytes (snap : List (Nat × Nat)) (l : List ChainEntry) (v : List Word) : List Byte :=
  match l.getLast? with
  | some e =>
    if e.op = 0x1C then
      match slotFmt snap e.slot with
      | some (.slot f) =>
        toLE (ceilDiv (v.length * f.width) 8) (v.foldr (fun x acc => acc * 2 ^ f.width + x.toNat) 0)
      | _ => v.flatMap fun x => toLE 2 x.toNat
    else v.flatMap fun x => toLE 4 x.toNat
  | none => []

end Sys2Proof.Machine
end

