-- ==== Sys2Proof/Machine/Stages.lean ====
section
/-!
DEFINITION. What the stages of a recipe do (R408 to R421, R430 to R436): addresses, memory and stage-store accesses, and
each kind of stage. An access that faults pauses the recipe there; an error stops it (R424).
-/

namespace Sys2Proof.Machine

/-- Why a stage does not finish: a fault on a page key of a die, a release that must wait, or an error with STATUS and
DETAIL. -/
inductive Halt where
  | fault (d key : Nat)
  | held
  | stop (status detail : Nat)
  deriving DecidableEq, Repr

/-- A stage's work: it reads and changes the state, and may halt. -/
abbrev RM := ExceptT Halt (StateM State)

/-- Details of RECIPE_ABORTED (R424). -/
def raMalformed : Nat := 1
def raBounds : Nat := 2
def raEcc : Nat := 3
def raRetired : Nat := 4
def raNotResident : Nat := 5
def raTimeout : Nat := 6
def raPeer : Nat := 7
def raCheck : Nat := 8

/-- What a stage works for: its Reckoner, run, bundle and entry. -/
structure Work where
  d   : Nat
  r   : Nat
  run : Run
  b   : List Byte
  st  : Stage

/-- A stage stops with RECIPE_ABORTED. -/
def rmAbort {α : Type} (detail : Nat) : RM α := throw (.stop stRecipeAborted detail)

/-- A halt unless a condition holds. -/
def rmNeed (ok : Bool) (h : Halt) : RM Unit := if ok then pure () else throw h

/-- An access of engine `e` of a die for a function, as a stage sees it (R352, R424). -/
def rmAccess (d e f : Nat) (isWrite : Bool) (act : State → MemOut × State) : RM (List Byte) := do
  match ← modifyGet act with
  | .ok bs => pure bs
  | .fault k off =>
    modify fun s => s.fault d e f off k isWrite none s.now
    throw (.fault d (off / 2 ^ 25))
  | .denied => throw (.stop stAccessDenied dtLocal)
  | .poisoned => throw (.stop stPoisoned dtLocal)
  | .tallyFailed => throw (.stop stTallyFailed dtLocal)

/-- The die and engine by which a recipe reaches a global address: its own die by the Reckoner, another die of the package
by the queue manager there, and no other endpoint (R421). -/
def rmWhere (w : Work) (a : Word64) (ownDie : Bool) : RM (Nat × Nat) := do
  match (← get).dieOf (gaEndpoint a) with
  | some d => if d = w.d then pure (d, w.r) else if ownDie then throw (.stop stAccessDenied dtLocal) else pure (d, 8)
  | none => throw (.stop stAccessDenied dtLocal)

/-- A read of global memory. -/
def rmRead (w : Work) (a : Word64) (n : Nat) (ownDie : Bool := false) : RM (List Byte) := do
  let p ← rmWhere w a ownDie
  rmAccess p.1 p.2 w.run.fn false fun s => s.read p.1 p.2 w.run.fn (gaOffset a) n

/-! ### Addresses (R409 to R413) -/

/-- Where a generator points: the stage store, global memory with its entry's tier, or a block that does not exist. -/
inductive Place where
  | stage (a : Nat)
  | glob (a : Word64) (tier : Option Nat)
  | absent
  deriving DecidableEq, Repr

/-- Loop counter `t` as a stage sees it: 0 where the loop does not enclose it (R409). -/
def Work.counter (w : Work) (t : Nat) : Nat := if t < w.st.depth then (w.run.counters[t]?).getD 0 else 0

/-- The entry of the current sequence, and its contents. -/
def Work.seqNo (w : Work) : Option Nat := w.run.sequence w.b w.st.depth
def State.sequenceAt (s : State) (w : Work) : Option Sequence := w.seqNo.bind fun e => (s.reck w.d w.r).seqs[e]?

/-- POSITION of the current sequence, 0 outside a SEQUENCE loop. -/
def State.positionAt (s : State) (w : Work) : Nat := ((s.sequenceAt w).map fun e => e.position.toNat).getD 0

/-- The nine terms (R409). -/
def State.terms (s : State) (w : Work) : List Nat :=
  ((List.range 6).map w.counter) ++ [s.positionAt w / bTokens w.b, s.positionAt w % bTokens w.b, w.run.rank]

/-- The sum of the terms that `p` names, each times its stride, modulo 2^64 (R410). -/
def termSum (ts : List Nat) (strides : List Word64) (p : Nat → Bool) : Word64 :=
  ((List.zip ts strides).zipIdx).foldl (fun a x => if p x.2 then a + BitVec.ofNat 64 x.1.1 * x.1.2 else a) 0

/-- The base of a generator (R409, R410): without a current sequence, IND_SEQ is malformed at run (DEDUCED). -/
def Gen.start (g : Gen) (w : Work) (s : State) : Option Word64 :=
  if g.seq then (s.sequenceAt w).map Sequence.blockTable
  else if g.space = 2 then some (((w.run.args.getD [])[g.base.toNat]?).getD 0)
  else some g.base

/-- The address that a generator gives (R410, R411). -/
def rmPlace (w : Work) (k : Nat) : RM Place := do
  let g := bGen w.b k
  let ts := (← get).terms w
  match g.start w (← get) with
  | none => rmAbort raMalformed
  | some t =>
    let isJ (i : Nat) : Bool := g.ind && bit g.mask i
    let off := termSum ts g.strides fun i => !isJ i
    if g.space = 1 then pure (.stage (t + off).toNat)
    else if !g.ind then pure (.glob (t + off) none)
    else
      let bs ← rmRead w (t + 8 * termSum ts g.strides isJ) 8 true
      let e := fromLE bs
      if 2 ≤ bits e 2 1 then rmAbort raMalformed
      else if bit e 0 then pure (.glob (BitVec.ofNat 64 (e / 4096 * 4096) + off) (some (bits e 2 1)))
      else
        modify fun s => s.onReck w.d w.r fun x => { x with run := x.run.map fun q =>
          { q with invalid := if q.invalid.contains q.counters then q.invalid else q.counters :: q.invalid } }
        pure .absent

/-! ### The stage store (R386, R413) -/

/-- First stage-store address that recipes cannot use. -/
def stageTop : Nat := 0xE00000

/-- A range of the stage store that a recipe may use. -/
def rmRange (a n : Nat) : RM Unit := rmNeed (decide (a + n ≤ stageTop)) (.stop stRecipeAborted raBounds)

/-- A stage-store address of an operand, row or output: inside the range for recipes and aligned to 128 bytes. -/
def rmAligned (a n : Nat) : RM Unit :=
  rmNeed (decide (a + n ≤ stageTop ∧ a % 128 = 0)) (.stop stRecipeAborted raBounds)

/-- Bytes of a stage store. -/
def Reckoner.bytes (x : Reckoner) (a n : Nat) : List Byte := (List.range n).map fun i => (FMap.get? x.store (a + i)).getD 0

/-- Bytes put into a stage store; a zero byte is not listed. -/
def storePut : List (Nat × Byte) → Nat → List Byte → List (Nat × Byte)
  | m, _, [] => m
  | m, a, b :: bs => storePut (if b = 0 then FMap.erase m a else FMap.set m a b) (a + 1) bs

/-- A read and a write of the stage store. -/
def rmStageRead (w : Work) (a n : Nat) : RM (List Byte) := do
  rmRange a n
  pure (((← get).reck w.d w.r).bytes a n)
def rmStageWrite (w : Work) (a : Nat) (bs : List Byte) : RM Unit := do
  rmRange a bs.length
  modify fun s => s.onReck w.d w.r fun x => { x with store := storePut x.store a bs }

/-- The stage-store address of an operand; a GLOBAL one where the stage store is required is denied (R421). -/
def rmStagePlace (w : Work) (k : Nat) : RM Nat := do
  match ← rmPlace w k with
  | .stage a => pure a
  | _ => throw (.stop stAccessDenied dtLocal)

/-- Bytes of a place: zero for a block that does not exist (R411). -/
def rmFetch (w : Work) (p : Place) (off n : Nat) : RM (List Byte) :=
  match p with
  | .stage a => rmStageRead w (a + off) n
  | .glob a _ => rmRead w (a + BitVec.ofNat 64 off) n
  | .absent => pure (zeros n)

/-! ### Tiles (R411, R412, R426) -/

/-- The 4 KiB blocks that ranges of global memory touch, each once, as keys of a map. -/
def touched (l : List (Word64 × Nat)) : List Nat :=
  ((l.flatMap fun r => (blocks r.1.toNat r.2).map fun o => (r.1.toNat + o.1) / 4096 * 4096).foldl
    (fun m k => FMap.set m k ()) []).map Prod.fst

/-- A range taken from blocks that have been read. -/
def fromBlocks (m : List (Nat × List Byte)) (a : Word64) (n : Nat) : List Byte :=
  (blocks a.toNat n).flatMap fun o =>
    slice ((FMap.get? m ((a.toNat + o.1) / 4096 * 4096)).getD []) ((a.toNat + o.1) % 4096) o.2

/-- Whether a global address lies in HBM3E for a function, by the leaf that translates it on a die. -/
def State.leafHbm (s : State) (d e f : Nat) (a : Word64) : Bool :=
  match s.cached d e f (gaOffset a) with
  | some t => t.pa (gaOffset a) < 2 ^ 36
  | none =>
    match (s.walk d f (gaOffset a) false).1 with
    | .found t => t.pa (gaOffset a) < 2 ^ 36
    | _ => true

/-- A committed tile counted (R412; TILES_HBM, TILES_LPDDR5X, TILES_REMOTE_DIE, TIER_MISMATCHES). -/
def State.countTile (s : State) (w : Work) (a : Word64) (tier : Option Nat) : State :=
  let p := recipePage w.d w.r
  if s.dieOf (gaEndpoint a) ≠ some w.d then s.count p Ctr.recipeCtlTilesRemoteDie else
  let hbm := s.leafHbm w.d w.r w.run.fn a
  let s := s.count p (if hbm then Ctr.recipeCtlTilesHbm else Ctr.recipeCtlTilesLpddr5x)
  match tier with
  | some t => if (t == 0) == hbm then s else s.count p Ctr.recipeCtlTierMismatches
  | none => s

/-- Blocks read one after another. -/
def rmBlocks (w : Work) : List Nat → RM (List (Nat × List Byte))
  | [] => pure []
  | k :: ks => do
    let bs ← rmRead w (BitVec.ofNat 64 k) 4096
    let rest ← rmBlocks w ks
    pure ((k, bs) :: rest)

/-- The blocks of a tile: its commit point (R23, R426). What was fetched ahead for this stage is used; the access itself
is made and counted here. -/
def rmTile (w : Work) (l : List (Word64 × Nat)) : RM (List (Nat × List Byte)) := do
  let ks := touched l
  let m ← rmBlocks w ks
  let mine (t : AheadTile) : Bool :=
    some t.stage == w.run.stage && t.counters == w.run.counters && t.blocks == ks
  let found := ((← get).reck w.d w.r).run.bind fun q => q.ahead.find? mine
  modify fun s => s.onReck w.d w.r fun x => { x with run := x.run.map fun q => { q with ahead := q.ahead.filter fun t => !mine t } }
  pure ((found.bind AheadTile.data).getD m)

/-! ### Checks and the retraction log (R434 to R436, R491 to R496, R504) -/

/-- The present run of a stage's Reckoner. -/
def State.runAt (s : State) (d r : Nat) : Option Run := (s.reck d r).run

/-- The run of a Reckoner changed. -/
def State.onRun (s : State) (d r : Nat) (f : Run → Run) : State :=
  s.onReck d r fun x => { x with run := x.run.map f }

/-- Whether releases of a Reckoner's run need not wait: its checks have passed, or it releases early and the log has room
(R435, R436). -/
def State.mayRelease (s : State) (d r : Nat) : Bool :=
  (s.outstanding (d * 5 + r)).isEmpty || ((s.runAt d r).map fun q => q.early && !q.logFull).getD true

/-- The address of a tile (R493): `part` is its bytes 18 and 19. -/
def Work.tile (w : Work) (part : Nat) : List Byte :=
  ((List.range 6).flatMap fun t => toLE 3 (w.counter t)) ++ toLE 2 part ++
    [BitVec.ofNat 8 (w.run.stage.getD 0), BitVec.ofNat 8 w.run.handle, BitVec.ofNat 8 w.run.rank, BitVec.ofNat 8 w.run.fn] ++
    zeros 8

/-- Bytes that a record adds to a tile's operands and result: the format snapshot, and the sequence entry of a DRAW. -/
def recordExtra (w : Work) (seq : List Byte) : List Byte := (w.run.formats.flatMap fun f => toLE 4 f.2) ++ seq

/-- A tile that has executed (R493 to R496): where it is selected, its record goes to its checker's buffer, or waits for
room; a record above 1 MiB is not made. -/
def State.tileDone (s : State) (w : Work) (part : Nat) (operands result : List Byte) : State :=
  let k := w.d * 5 + w.r
  let tile := w.tile part
  if !s.selected w.d w.r w.run.handle tile then s else
  let s := s.count (integrityPage w.d) Ctr.integrityTilesSelected
  let pk := s.pickReckoner w.d [k]
  let s := pk.2
  if 2 ^ 20 < operands.length + result.length then s.count (integrityPage w.d) Ctr.integrityUncheckable else
  match pk.1 with
  | none => s.count (integrityPage w.d) Ctr.integrityChecksAborted
  | some c =>
    let c : Check := { id := s.checks, original := k, checker := c, fn := w.run.fn, q := w.run.q, index := w.run.index
                       early := w.run.early, tile := tile, operands := operands, result := result }
    let s := { s with checks := s.checks + 1 }
    match s.placeRecord c with
    | some s => s
    | none => s.onRun w.d w.r fun q => { q with records := q.records ++ [c] }

/-- A check among those named remembers the first block released from its tile (R518). -/
def Check.released (c : Check) (l : List Nat) (b : Nat) : Check :=
  if l.contains c.id && c.first == 0 then { c with first := BitVec.ofNat 64 b } else c

/-- The blocks of a released range entered into the retraction log, where checks are outstanding (R436, R504). -/
def State.logRange (s : State) (w : Work) (a : Word64) (n : Nat) : State :=
  let k := w.d * 5 + w.r
  let l := s.outstanding k
  if l.isEmpty || !((s.runAt w.d w.r).map Run.early).getD false then s else
  (touched [(a, n)]).foldl (fun s b =>
    match s.logBlock w.d (BitVec.ofNat 64 b) w.run.fn (gaEndpoint a) (.reckoner k l) 0 with
    | (true, s) =>
      let s := s.dieList.foldl (fun s d => s.onInteg d fun x =>
        { x with records := x.records.map fun e => (e.1, e.2.released l b) }) s
      s.count (recipePage w.d w.r) Ctr.recipeCtlEarlyLogged
    | (false, s) => s.onRun w.d w.r fun q => { q with logFull := true }) s

/-! ### The stages -/

/-- LOAD (R415): a tile into the stage store. -/
def stageLoad (w : Work) : RM Unit := do
  let src ← rmPlace w w.st.in0
  let out ← rmStagePlace w w.st.out
  rmAligned out w.st.length
  match src with
  | .glob a tier =>
    let m ← rmTile w [(a, w.st.length)]
    modify fun s => s.countTile w a tier
    rmStageWrite w out (fromBlocks m a w.st.length)
  | _ => rmStageWrite w out (zeros w.st.length)

/-- The format of a slot at a stage: one that is missing is malformed at run (R424). -/
def rmFmt (w : Work) (k : Nat) : RM SlotFmt :=
  match slotFmt w.run.formats k with
  | some f => pure f
  | none => rmAbort raMalformed

/-- An operand's scale array; a scaled format without one is malformed at run (DEDUCED). -/
def rmScalePlace (w : Work) (f : SlotFmt) (k : Nat) : RM (Option Place) :=
  if !f.scaled then pure none else if k = 15 then rmAbort raMalformed else do pure (some (← rmPlace w k))

/-- Elements of a run of bytes as values (R376, R384). -/
def SlotFmt.values (f : SlotFmt) (bs : List Byte) (n : Nat) : List Fp :=
  match f with
  | .slot g => (g.elements bs n).map g.decode
  | .bf16 => (pieces 2 (bs.take (2 * n))).map fun x => Fp.ofWord (bf16Value (fromLE x))
  | .fp32 => (pieces 4 (bs.take (4 * n))).map fun x => Fp.ofWord (BitVec.ofNat 32 (fromLE x))

/-- Block scales of a run; 1 without a scale array or where it is not read (R377, R384, R411). -/
def SlotFmt.scales (f : SlotFmt) (bs : Option (List Byte)) (nb : Nat) : List Fp :=
  match f, bs with
  | .slot g, some l => if g.scale = 0 then List.replicate nb (.fin false 1) else (l.take nb).map fun x => g.scaleValue x.toNat
  | _, _ => List.replicate nb (.fin false 1)

/-- One accumulator after every block term of a row and a column (R382 to R384), with its NaN results. -/
def accumulateRow (block : Nat) (xs ws : List Fp) (sx sw : List Fp) (a : Word) : Word × Nat :=
  let ts := List.zipWith (fun (p q : List Fp × Fp) => blockTerm p.2 q.2 p.1 q.1) (List.zip (pieces block xs) sx)
    (List.zip (pieces block ws) sw)
  ts.foldl (fun r t => let n := accumulate r.1 t; (n.1, r.2 + b2n n.2)) (a, 0)

/-- Bytes of a place at a list of offsets. -/
def rmFetchAll (w : Work) (p : Place) (n : Nat) : List Nat → RM (List (List Byte))
  | [] => pure []
  | o :: os => do
    let bs ← rmFetch w p o n
    let rest ← rmFetchAll w p n os
    pure (bs :: rest)

/-- Words of an FP32 row. -/
def wordsOf (bs : List Byte) : List Word := (pieces 4 bs).map fun x => BitVec.ofNat 32 (fromLE x)
def bytesOf (l : List Word) : List Byte := l.flatMap fun x => toLE 4 x.toNat

/-- Row data must fit between rows (R424). -/
def rmRowFits (w : Work) (n : Nat) : RM Unit :=
  rmNeed (decide (w.st.rows ≤ 1 ∨ n ≤ w.st.rowStride)) (.stop stRecipeAborted raBounds)

/-- Stage-store rows of an operand: the generated address aligned and inside the range, and no row longer than its stride
(R413, R424). DEDUCED: the stride need not be a multiple of 128. -/
def rmRows (w : Work) (a n stride : Nat) : RM (List (List Byte)) := do
  rmAligned a n
  rmFetchAll w (.stage a) n ((List.range w.st.rows).map (· * stride))

/-- Lists written to the stage store, `stride` apart. -/
def rmWriteRows (w : Work) (a stride : Nat) : Nat → List (List Byte) → RM Unit
  | _, [] => pure ()
  | i, r :: rs => do
    rmStageWrite w (a + i * stride) r
    rmWriteRows w a stride (i + 1) rs

/-- The weight operand's columns and scale runs, from one tile or from the stage store (R416); no scale runs where they
are not read, as in a block that does not exist: every scale is 1 then (R411). -/
def rmWeights (w : Work) (f : SlotFmt) : RM (List (List Byte) × List (List Byte)) := do
  let src ← rmPlace w w.st.in0
  let sc ← rmScalePlace w f w.st.scale0
  let nb := w.st.length / f.block
  let n := w.st.length * f.width / 8
  let cols := (List.range w.st.cols).map (· * w.st.colStride)
  let scols := (List.range w.st.cols).map (· * w.st.scaleCol)
  match src with
  | .absent => pure (cols.map fun _ => zeros n, [])
  | .stage a =>
    rmAligned a n
    let ws ← rmFetchAll w src n cols
    match sc with
    | none | some .absent => pure (ws, [])
    | some p => do pure (ws, ← rmFetchAll w p nb scols)
  | .glob a tier =>
    let ranges := cols.map fun o => (a + BitVec.ofNat 64 o, n)
    let sranges : List (Word64 × Nat) := match sc with
      | some (.glob b _) => scols.map fun o => (b + BitVec.ofNat 64 o, nb)
      | _ => []
    let m ← rmTile w (ranges ++ sranges)
    modify fun s => s.countTile w a tier
    let ss ← match sc with
      | some (.stage b) => rmFetchAll w (.stage b) nb scols
      | _ => pure (sranges.map fun r => fromBlocks m r.1 r.2)
    pure (ranges.map (fun r => fromBlocks m r.1 r.2), ss)

/-- Initial accumulators of a MATMUL (R414): an operand row of input 2 lies as the accumulators do (DEDUCED). -/
def rmAccumulators (w : Work) (out : Nat) : RM (List (List Word)) := do
  let rowsAt (a : Nat) : RM (List (List Word)) := do
    rmAligned a (4 * w.st.cols)
    let rows ← rmFetchAll w (.stage a) (4 * w.st.cols) ((List.range w.st.rows).map (· * 1024))
    pure (rows.map wordsOf)
  if w.st.accInit = 1 then rowsAt out
  else if w.st.accInit = 2 then do rowsAt (← rmStagePlace w w.st.in2)
  else pure (List.replicate w.st.rows (List.replicate w.st.cols 0))

/-- MACs counter of a width class. -/
def macsCtr : Nat → Nat
  | 1 => Ctr.reckonerMacsBf16
  | 2 => Ctr.reckonerMacs8bit
  | _ => Ctr.reckonerMacs4bit

/-- MATMUL (R368 to R373, R382 to R384, R416). -/
def stageMatmul (w : Work) : RM Unit := do
  rmNeed (matmulOk w.run.formats w.st) (.stop stRecipeAborted raMalformed)
  let fw ← rmFmt w w.st.slot0
  let fx ← rmFmt w w.st.slot1
  let nb := w.st.length / fw.block
  let xBytes := w.st.length * fx.width / 8
  rmRowFits w xBytes
  let xAt ← rmStagePlace w w.st.in1
  let xs ← rmRows w xAt xBytes w.st.rowStride
  let xScale ← rmScalePlace w fx w.st.scale1
  let xsc ← match xScale with
    | some p => rmFetchAll w p nb ((List.range w.st.rows).map (· * nb))
    | none => pure []
  let out ← rmStagePlace w w.st.out
  rmAligned out (4 * w.st.cols)
  let acc ← rmAccumulators w out
  let ws ← rmWeights w fw
  let cols : List (List Fp × List Fp) :=
    ws.1.zipIdx.map fun c => (fw.values c.1 w.st.length, fw.scales ws.2[c.2]? nb)
  let res := (List.zip xs acc).zipIdx.map fun x =>
    let row := fx.values x.1.1 w.st.length
    let sc := fx.scales xsc[x.2]? nb
    List.zipWith (fun (c : List Fp × List Fp) a => accumulateRow fw.block row c.1 sc c.2 a) cols x.1.2
  let rows := res.map fun r => r.map Prod.fst
  rmWriteRows w out 1024 0 (rows.map bytesOf)
  let cls := widthClass (max fw.width fx.width)
  let p := reckonerPage w.d w.r
  modify fun s =>
    let s := (s.count p Ctr.reckonerArrayRowCycles w.st.rows).count p (macsCtr cls) (w.st.rows * classK cls * 256)
    let s := (s.count p Ctr.reckonerTiles).count p Ctr.reckonerNanAccumulations ((res.map fun r => (r.map Prod.snd).sum).sum)
    s.onReck w.d w.r fun x => { x with cls := cls }
  let weights := ws.1.flatten ++ ws.2.flatten
  modify fun s =>
    (pieces 256 (List.zip xs (List.zip acc rows)).zipIdx).zipIdx.foldl (fun s t =>
      let ops := t.1.flatMap fun x => x.1.1 ++ (xsc[x.2]?).getD [] ++ bytesOf x.1.2.1
      s.tileDone w t.2 (ops ++ weights ++ recordExtra w []) (t.1.flatMap fun x => bytesOf x.1.2.2)) s

/-- A VECTOR input's row as FP32 words (R393, R418). -/
def SlotFmt.load (f : SlotFmt) (bs scales : List Byte) (n : Nat) : List Word :=
  match f with
  | .slot g => (g.elements bs n).zipIdx.map fun x =>
      if g.scale = 0 then (g.decode x.1).toWord else g.load x.1 ((scales[x.2 / g.block]?).getD 0).toNat
  | .bf16 => (pieces 2 (bs.take (2 * n))).map fun x => (Fp.ofWord (bf16Value (fromLE x))).toWord
  | .fp32 => wordsOf (bs.take (4 * n))

/-- Every row of a VECTOR input: its words, and the bytes read. Without a generator there is none. -/
def rmVectorIn (w : Work) (k slot scale : Nat) : RM (Option (List (List Word × List Byte))) := do
  if k = 15 then pure none else
  let f ← rmFmt w slot
  let n := ceilDiv (w.st.length * f.width) 8
  rmRowFits w n
  let a ← rmStagePlace w k
  let rows ← rmRows w a n w.st.rowStride
  let nb := ceilDiv w.st.length f.block
  let scs ← match ← rmScalePlace w f scale with
    | some p => rmFetchAll w p nb ((List.range w.st.rows).map (· * nb))
    | none => pure []
  pure (some (rows.zipIdx.map fun x =>
    let sc := (scs[x.2]?).getD []
    (f.load x.1 sc w.st.length, x.1 ++ sc)))

/-- Whether MASK's predicate holds for an element (R419). -/
def State.masked (s : State) (w : Work) (level e : Nat) : Bool :=
  let t := bTokens w.b
  decide (s.positionAt w < w.counter level * t + e % t) ||
    (((s.runAt w.d w.r).map Run.invalid).getD []).any fun c => c.take (level + 1) == w.run.counters.take (level + 1)

/-- VECTOR (R417): the chain on each row. Scale bytes of a CONVERT go to the array of GEN_SCALE1 where input 1 does not use
it: DESIGN CHOICE (notes/assumptions/18.md). -/
def stageVector (w : Work) : RM Unit := do
  let i0 ← rmVectorIn w w.st.in0 w.st.slot0 w.st.scale0
  let i1 ← rmVectorIn w w.st.in1 w.st.slot1 w.st.scale1
  let i2 ← rmVectorIn w w.st.in2 9 15
  let out ← rmStagePlace w w.st.out
  let s0 ← get
  let chain := bChainOf w.b w.st
  let rowAt (i : Option (List (List Word × List Byte))) (m : Nat) : Option (List Word × List Byte) := i.bind (·[m]?)
  let res : List ChainState := (List.range w.st.rows).map fun m =>
    runChain { n := w.st.length, in0 := ((rowAt i0 m).map Prod.fst).getD [], in1 := (rowAt i1 m).map Prod.fst
               in2 := (rowAt i2 m).map Prod.fst, const := bConst w.b, masked := s0.masked w, snap := w.run.formats
               free := fun k => (Config.freeValue (s0.free + m * 2 ^ 40 + k)).setWidth 32 } chain
  modify fun s => { s with free := s.free + w.st.rows * 2 ^ 40 }
  let outs := res.map fun x => chainBytes w.run.formats chain (x.prev.getD [])
  if !chain.isEmpty then
    let n := ((outs.head?).map List.length).getD 0
    rmRowFits w n
    rmAligned out n
    rmWriteRows w out w.st.rowStride 0 outs
    let scs := res.map ChainState.scales
    if w.st.scale1 ≠ 15 ∧ scs.any (fun x => !x.isEmpty) then
      match ← rmPlace w w.st.scale1 with
      | .stage a => rmWriteRows w a (((scs.head?).map List.length).getD 0) 0 scs
      | _ => throw (.stop stAccessDenied dtLocal)
  let p := reckonerPage w.d w.r
  modify fun s =>
    let s := s.count p Ctr.reckonerVectorResults (w.st.length * chain.length * w.st.rows)
    let s := s.count p Ctr.reckonerConvertSaturations ((res.map ChainState.saturated).sum)
    s.count p Ctr.reckonerConvertSpecials ((res.map ChainState.specials).sum)
  modify fun s => outs.zipIdx.foldl (fun s o =>
    let used := [i0, i1, i2].flatMap fun i => ((rowAt i o.2).map Prod.snd).getD []
    s.tileDone w o.2 (used ++ recordExtra w []) o.1) s

/-- STORE (R415, R486): stage-store bytes to global memory, block by block in ascending order, from the byte that a pause
left. A destination whose indirection entry has VALID 0 takes nothing: DESIGN CHOICE (notes/assumptions/19.md). -/
def storeParts (w : Work) (a : Word64) (d e : Nat) (bs : List Byte) : List (Nat × Nat) → RM Unit
  | [] => pure ()
  | (o, n) :: ps => do
    let _ ← rmAccess d e w.run.fn true fun s => s.write d e w.run.fn (gaOffset a + o) (slice bs o n)
    modify fun s => (s.logRange w (a + BitVec.ofNat 64 o) n).onRun w.d w.r fun q => { q with moved := o + n }
    storeParts w a d e bs ps
def stageStore (w : Work) : RM Unit := do
  let src ← rmStagePlace w w.st.in0
  rmAligned src w.st.length
  let bs ← rmStageRead w src w.st.length
  match ← rmPlace w w.st.out with
  | .glob a _ =>
    let p ← rmWhere w a false
    storeParts w a p.1 p.2 bs ((blocks (gaOffset a) w.st.length).filter fun o => w.run.moved ≤ o.1)
  | _ => pure ()

/-- CANDIDATE (R431). -/
def stageCandidate (w : Work) : RM Unit := do
  let n := 4 * w.st.length
  rmRowFits w n
  let a ← rmStagePlace w w.st.in0
  let rows ← rmRows w a n w.st.rowStride
  let out ← rmStagePlace w w.st.out
  rmAligned out 2048
  match (w.run.args.getD [])[w.st.param + w.run.rank]? with
  | none => rmAbort raMalformed
  | some first =>
    let cs := rows.map fun r => candidates first.toNat (wordsOf r)
    let outs := cs.map fun c => c.1.flatMap fun x => toLE 4 x.1.toNat ++ toLE 4 x.2.toNat
    rmWriteRows w out 2048 0 outs
    modify fun s => s.count (recipePage w.d w.r) Ctr.recipeCtlNanLogits ((cs.map Prod.snd).sum)
    modify fun s => (List.zip rows outs).zipIdx.foldl (fun s x => s.tileDone w x.2 (x.1.1 ++ recordExtra w []) x.1.2) s

/-- What a drawn token does once it may be released (R430): it is written to the token ring, POSITION advances, and the
entry may become FINISHED. -/
def rmReleaseToken (w : Work) (entry token : Nat) : RM Unit := do
  match ((← get).reck w.d w.r).seqs[entry]? with
  | none => pure ()
  | some e =>
    let pos := e.position + 1
    let a := e.ring + BitVec.ofNat 64 (4 * (pos.toNat % 2 ^ e.log2Ring))
    let p ← rmWhere w a false
    let _ ← rmAccess p.1 p.2 w.run.fn true fun s => s.writeWhole p.1 p.2 w.run.fn (gaOffset a) (toLE 4 (token % 2 ^ 18))
    let fin := pos == e.maxPosition || (e.stopEn && token % 2 ^ 18 == e.stopToken)
    modify fun s =>
      let s := s.logRange w a 4
      let s := s.onReck w.d w.r fun x => { x with seqs := modifyAt x.seqs entry fun y =>
        { y with position := pos, last := some (token % 2 ^ 18), state := if fin then 3 else y.state } }
      if fin && e.state != 3 then s.raise (recipePage w.d w.r) 2 else s

/-- DRAW (R432, R433, R435): a token is drawn once; its release may wait. -/
def stageDraw (w : Work) : RM Unit := do
  let k := w.seqNo.getD 0
  match w.run.token with
  | some t =>
    rmNeed ((← get).mayRelease w.d w.r) .held
    rmReleaseToken w t.1 t.2
  | none =>
    let a ← rmStagePlace w w.st.in0
    rmAligned a (8 * w.st.length)
    let bs ← rmStageRead w a (8 * w.st.length)
    let cs := (pieces 8 bs).map fun x =>
      ((BitVec.ofNat 32 (le x 0 4) : Word), (BitVec.ofNat 32 (le x 4 4) : Word))
    match (← get).sequenceAt w with
    | none => pure ()
    | some e =>
      let slot := (← get).keySlot w.run.fn e.key
      let key : List Byte := if e.key = 0 then zeros 32 else (slot.map KeySlot.key).getD (zeros 32)
      let fv ← modifyGet State.takeFree
      let t := (drawToken e (rng24 key e) cs).getD (fv.setWidth 32, false)
      let p := recipePage w.d w.r
      modify fun s =>
        let s := (s.count p Ctr.recipeCtlTokensDrawn).count p Ctr.recipeCtlGreedyDraws (b2n t.2)
        let s := s.tileDone w k (bs ++ recordExtra w (toLE 8 e.seed.toNat ++ toLE 4 e.position.toNat ++
          toLE 4 e.temperature.toNat ++ toLE 4 e.topP.toNat ++ toLE 4 e.topK ++ toLE 2 e.key)) (toLE 4 (t.1.toNat % 2 ^ 18))
        let s := s.onRun w.d w.r fun q => { q with token := some (k, t.1.toNat) }
        s.onExec w.run.fn w.run.q w.run.index fun x =>
          { x with opResult := toLE 4 (le x.opResult 0 4 + 1) ++ x.opResult.drop 4 }
      rmNeed ((← get).mayRelease w.d w.r) .held
      rmReleaseToken w k t.1.toNat

/-- SIGNAL (R420, R435): the flag advances by one once the release may be made. -/
def stageSignal (w : Work) : RM Unit := do
  rmNeed ((← get).mayRelease w.d w.r) .held
  match ← rmPlace w w.st.out with
  | .glob a _ =>
    let p ← rmWhere w a false
    let bs ← rmAccess p.1 p.2 w.run.fn true fun s =>
      match State.translateParts p.1 p.2 w.run.fn (gaOffset a) true (blocks (gaOffset a) 8) s with
      | ((.ok _, _), s) => s.read p.1 p.2 w.run.fn (gaOffset a) 8
      | ((m, _), s) => (m, s)
    let _ ← rmAccess p.1 p.2 w.run.fn true fun s =>
      s.write p.1 p.2 w.run.fn (gaOffset a) (toLE 8 (fromLE bs + 1))
  | _ => pure ()

/-- The flag of a WAIT and its target (R420). -/
def rmFlag (w : Work) : RM Bool := do
  let target := (((w.run.args.getD [])[w.st.param]?).getD 0).toNat + w.st.length * (w.counter 0 + 1)
  match ← rmPlace w w.st.in0 with
  | .glob a _ => do pure (decide (target ≤ fromLE (← rmRead w a 8 true)))
  | _ => pure (decide (target ≤ 0))

end Sys2Proof.Machine
end

