-- ==== Sys2Proof/Machine/RunRecipe.lean ====
section
/-!
DEFINITION. Running recipes (R405, R406, R422 to R430, R434 to R438): the start and end of a RUN_RECIPE, the commands of
the stages, run-ahead, and the tables and bundles that the admin queue loads.
-/

namespace Sys2Proof.Machine

/-! ### The end of a recipe on a Reckoner (R424, R425) -/

/-- Reckoners that run a descriptor's recipe. -/
def State.runsOf (s : State) (f q : Nat) (i : Word) : List Nat :=
  s.reckList.filter fun k => ((s.runAt (k / 5) (k % 5)).map fun r => r.fn == f && r.q == q && r.index == i).getD false

/-- Reckoners that a RUN_RECIPE names (OP_ARGS 0x30). -/
def dReckoners (d : List Byte) : List Nat := bitsSet 40 (le d 0x30 5)

/-- The descriptor ends once no Reckoner runs it: with the first error, or with SUCCESS. -/
def State.endRecipe (s : State) (f q : Nat) (i : Word) : State :=
  match s.exec? f q i with
  | some e =>
    if (s.runsOf f q i).isEmpty then
      s.finish f q i e.status e.detail (if e.status = 0 then (dReckoners e.desc).length else 0) e.result1
    else s
  | none => s

/-- A Reckoner's run ends. Check records of it that no buffer has taken end without a verdict. -/
def State.clearRun (s : State) (d r : Nat) : State :=
  let lost := ((s.runAt d r).map Run.records).getD []
  let s := s.onReck d r fun x => { x with run := none, cls := 0 }
  lost.foldl (fun s c => (s.unlink d c.id).count (integrityPage (c.checker / 5)) Ctr.integrityChecksAborted) s

/-- A Reckoner stops on an error (R424, RECIPE_ABORT). -/
def State.stopOne (s : State) (d r status detail : Nat) : State :=
  let s := s.onReck d r fun x => { x with abort := status * 65536 + detail }
  ((s.count (recipePage d r) Ctr.recipeCtlRecipesAborted).raise (recipePage d r) 1).clearRun d r

/-- The other Reckoners of a descriptor stop at their next stage boundary: at once, but for one that a fault pauses inside
a stage. -/
def State.stopPeers (s : State) (f q : Nat) (i : Word) : State :=
  (s.runsOf f q i).foldl (fun s k =>
    if ((s.runAt (k / 5) (k % 5)).map fun x => x.paused.isSome && x.begun).getD false then
      s.onRun (k / 5) (k % 5) fun x => { x with stopping := true }
    else s.stopOne (k / 5) (k % 5) stRecipeAborted raPeer) s

/-- A Reckoner's recipe meets an error (R424): the first one becomes the descriptor's. -/
def State.failRun (s : State) (d r status detail : Nat) : State :=
  match s.runAt d r with
  | none => s
  | some x =>
    let s := s.onExec x.fn x.q x.index fun e =>
      if e.status = 0 then { e with status := status, detail := detail, result1 := x.slot } else e
    ((s.stopOne d r status detail).stopPeers x.fn x.q x.index).endRecipe x.fn x.q x.index

/-- The end of a Reckoner's stages: its run ends once its records have a place and its releases may be made (R425, R435,
R496). -/
def State.tryFinish (s : State) (d r : Nat) : State :=
  match s.runAt d r with
  | none => s
  | some x =>
    if x.stage.isSome || !x.records.isEmpty then s
    else if s.mayRelease d r then (s.clearRun d r).endRecipe x.fn x.q x.index
    else s.onRun d r fun y => { y with held := true }

/-- A stage has finished: the run stops with its peers, or goes on to the next stage (R408). -/
def State.stageDone (s : State) (d r : Nat) : State :=
  match s.runAt d r with
  | none => s
  | some x =>
    if x.stopping then (s.stopOne d r stRecipeAborted raPeer).endRecipe x.fn x.q x.index
    else
      match FMap.get? s.recipes x.handle with
      | none => s
      | some p =>
        let s := s.onReck d r fun y => { y with run := y.run.map fun z => z.next p.bundle y.seqs, cls := 0 }
        s.tryFinish d r

/-- An uncorrectable stage-store error (R387). -/
def State.stageEcc (s : State) (d r a : Nat) : State :=
  let p := reckonerPage d r
  let s := ((s.count p Ctr.reckonerStageEccUncorrected).error p 0x0101).setReg p 0x104 (a % 2 ^ 24)
  (s.raise p 1).failRun d r stRecipeAborted raEcc

/-- What a stage's work comes to. -/
def State.settleStage (d r : Nat) : Except Halt Unit × State → State
  | (.ok (), s) => s.stageDone d r
  | (.error (.fault d' key), s) => s.onRun d r fun x => { x with paused := some (d', key) }
  | (.error .held, s) => s.onRun d r fun x => { x with held := true }
  | (.error (.stop st dt), s) => s.failRun d r st dt

/-- The present stage of a Reckoner, where it may run: not paused, not in a WAIT, and with every check record placed. -/
def State.workAt (s : State) (d r : Nat) : Option Work :=
  match s.runAt d r with
  | none => none
  | some x =>
    match x.stage, FMap.get? s.recipes x.handle with
    | some i, some p =>
      if x.paused.isSome || x.waiting || !x.records.isEmpty then none
      else some { d := d, r := r, run := x, b := p.bundle, st := bStage p.bundle i }
    | _, _ => none

/-- A stage begins (STAGES_RUN): RECIPE_STAT shows it. -/
def State.beginStage (s : State) (w : Work) : State :=
  if w.run.begun then s.onRun w.d w.r fun x => { x with held := false } else
  let s := s.onReck w.d w.r fun x =>
    { x with stage := w.run.stage.getD 0, run := x.run.map fun y => { y with begun := true, held := false } }
  s.count (recipePage w.d w.r) Ctr.recipeCtlStagesRun

/-- The command of a stage: Reckoner `r` of die `d` runs its present stage, where it is of the kind that `sel` names. -/
def State.runStage (s : State) (d r : Nat) (sel : Stage → Bool) (ecc : StageEcc) (act : Work → RM Unit) : State :=
  match s.workAt d r with
  | none => s
  | some w =>
    if !sel w.st then s else
    let s := s.beginStage w
    match ecc with
    | .uncorrectable a => s.stageEcc d r a
    | .corrected n => State.settleStage d r (act w (s.count (reckonerPage d r) Ctr.reckonerStageEccCorrected n))
    | .clean => State.settleStage d r (act w s)

/-- LOAD, MATMUL, VECTOR, STORE, CANDIDATE, DRAW and SIGNAL stages (R415 to R420, R430 to R433). -/
def execLoad (d r : Nat) (ecc : StageEcc) (s : State) : Result :=
  atUnit s d (r < 5) (s.runStage d r (fun st => st.kind == kLoad) ecc stageLoad)
def execMatmul (d r : Nat) (ecc : StageEcc) (s : State) : Result :=
  atUnit s d (r < 5) (s.runStage d r (fun st => st.kind == kMatmul) ecc stageMatmul)
def execVector (d r : Nat) (ecc : StageEcc) (s : State) : Result :=
  atUnit s d (r < 5) (s.runStage d r (fun st => st.kind == kVector) ecc stageVector)
def execStore (d r : Nat) (ecc : StageEcc) (s : State) : Result :=
  atUnit s d (r < 5) (s.runStage d r (fun st => st.kind == kStore) ecc stageStore)
def execCandidate (d r : Nat) (ecc : StageEcc) (s : State) : Result :=
  atUnit s d (r < 5) (s.runStage d r (fun st => st.kind == kSample && !st.draw) ecc stageCandidate)
def execDraw (d r : Nat) (ecc : StageEcc) (s : State) : Result :=
  atUnit s d (r < 5) (s.runStage d r (fun st => st.kind == kSample && st.draw) ecc stageDraw)
def execSignal (d r : Nat) (s : State) : Result :=
  atUnit s d (r < 5) (s.runStage d r (fun st => st.kind == kSignal) .clean stageSignal)

/-- WAIT (R420): the stage begins to watch its flag. -/
def execWait (d r : Nat) (s : State) : Result :=
  atUnit s d (r < 5) <|
    match s.workAt d r with
    | none => s
    | some w =>
      if w.st.kind ≠ kWait then s
      else (s.beginStage w).onRun d r fun x => { x with waiting := true }

/-- A WAIT looks at its flag (R420): `late` says that its limit has expired, which an unsatisfied flag then shows (R438). -/
def State.checkWait (s : State) (d r : Nat) (late : Bool) : State :=
  match s.runAt d r with
  | none => s
  | some x =>
    if !x.waiting || x.paused.isSome then s else
    match x.stage, FMap.get? s.recipes x.handle with
    | some i, some p =>
      match rmFlag { d := d, r := r, run := x, b := p.bundle, st := bStage p.bundle i } s with
      | (.ok true, s) => s.stageDone d r
      | (.ok false, s) => if late && x.limit != 0 then s.failRun d r stRecipeAborted raTimeout else s
      | (.error (.fault d' key), s) => s.onRun d r fun y => { y with paused := some (d', key) }
      | (.error (.stop st dt), s) => s.failRun d r st dt
      | (.error .held, s) => s
    | _, _ => s

/-- WAIT_SATISFIED (R420). -/
def execWaitSatisfied (d r : Nat) (s : State) : Result := atUnit s d (r < 5) (s.checkWait d r false)

/-- WAIT_TIMEOUT (R420, R438). -/
def execWaitTimeout (d r : Nat) (s : State) : Result := atUnit s d (r < 5) (s.checkWait d r true)

/-! ### Releases that wait, and faults (R352 to R354, R435) -/

/-- A Reckoner whose releases wait goes on where they may now be made: it releases its drawn token, ends, or lets its
SIGNAL run. -/
def State.resumeHeld (s : State) (k : Nat) : State :=
  let d := k / 5
  let r := k % 5
  match s.runAt d r with
  | none => s
  | some x =>
    if x.stage.isNone then s.tryFinish d r
    else if !x.held || !s.mayRelease d r then s
    else
      match x.token, s.workAt d r with
      | some _, some w => State.settleStage d r (stageDraw w s)
      | _, _ => s.onRun d r fun y => { y with held := false, logFull := false }

/-- Runs whose argument block has been read start: EPOCH advances, and the first stage is found (R408, R493). -/
def State.startRun (s : State) (d r : Nat) (args : List Word64) : State :=
  match s.runAt d r with
  | none => s
  | some x =>
    match FMap.get? s.recipes x.handle with
    | none => s
    | some p =>
      let s := s.onReck d r fun y =>
        let e := (y.epoch x.handle + 1) % 2 ^ 32
        let q := { x with args := some args, paused := none }
        { y with run := some (q.next p.bundle y.seqs), epochs := FMap.set y.epochs x.handle e }
      (s.count (recipePage d r) Ctr.recipeCtlRecipesRun).tryFinish d r

/-- The argument block of a RUN_RECIPE is read by the queue manager of the die that holds it, and its recipes start
(R422). -/
def State.fetchArgs (s : State) (f q : Nat) (i : Word) : State :=
  let ks := s.runsOf f q i
  match s.exec? f q i, ks.head?.bind fun k => s.runAt (k / 5) (k % 5) with
  | some e, some x =>
    match FMap.get? s.recipes x.handle with
    | none => s
    | some p =>
      let n := bArgs p.bundle
      let a := dOperand e.desc
      let give (s : State) (bs : List Byte) : State :=
        ks.foldl (fun s k => s.startRun (k / 5) (k % 5) ((pieces 8 bs).map fun b => BitVec.ofNat 64 (fromLE b))) s
      let fail (s : State) (st dt : Nat) : State :=
        (ks.foldl (fun s k => s.clearRun (k / 5) (k % 5)) s).finish f q i st dt 0 0
      if n = 0 then give s [] else
      match s.dieOf (gaEndpoint a) with
      | none => fail s stAccessDenied dtLocal
      | some d =>
        match rmAccess d 8 f false (fun s => s.read d 8 f (gaOffset a) (8 * n)) s with
        | (.ok bs, s) => give s bs
        | (.error (.fault d' key), s) =>
          ks.foldl (fun s k => s.onRun (k / 5) (k % 5) fun y => { y with paused := some (d', key) }) s
        | (.error (.stop st dt), s) => fail s st dt
        | (.error .held, s) => s
  | _, _ => s

/-- Runs that wait on a page key of a function on a die. -/
def State.runsPaused (s : State) (d f key : Nat) : List Nat :=
  s.reckList.filter fun k =>
    ((s.runAt (k / 5) (k % 5)).map fun x => x.fn == f && x.paused == some (d, key)).getD false

/-- The recipes that wait on a record go on (R353): a stage runs again from its access, an argument block is read again. -/
def State.retryRuns (s : State) (d f key : Nat) : State :=
  (s.runsPaused d f key).foldl (fun s k =>
    match s.runAt (k / 5) (k % 5) with
    | some x =>
      let s := s.onRun (k / 5) (k % 5) fun y => { y with paused := none }
      if x.args.isNone then
        if ((s.runsOf x.fn x.q x.index).head?) == some k then s.fetchArgs x.fn x.q x.index else s
      else s
    | none => s) s

/-- The recipes that wait on an aborted record stop (R354, R424). -/
def State.abortRuns (s : State) (d f key : Nat) : State :=
  (s.runsPaused d f key).foldl (fun s k =>
    match s.runAt (k / 5) (k % 5) with
    | some x =>
      if x.args.isNone then
        ((s.runsOf x.fn x.q x.index).foldl (fun s k => s.clearRun (k / 5) (k % 5)) s).finish x.fn x.q x.index
          stTranslationFault dtLocal 0 0
      else s.failRun (k / 5) (k % 5) stTranslationFault dtLocal
    | none => s) s

/-! ### RUN_RECIPE (R422, R423) -/

/-- The Reckoner that a named bit stands for, as die × 5 + number: the function's slot on a VF, the number itself on the
PF, and none where the function does not hold it (R38, R422). -/
def State.namedReckoner (s : State) (f bit_ : Nat) : Option Nat :=
  if f = 0 then (if s.rkOwner[bit_]? = some 0 ∧ bit_ < 5 * s.dies.length then some bit_ else none)
  else ((s.heldReckoners f)[bit_]?).map fun x => x.1 * 5 + x.2

/-- Form of a RUN_RECIPE (R127, R422, R423). -/
def State.formRunRecipe (s : State) (f : Nat) (d : List Byte) : Option Nat :=
  let holds := ((FMap.get? s.recipes (dTarget d % 128)).map Recipe.fn) == some f
  firstOffence [offence (bits (le d 0 4) 31 21 != 0) 0, offence (bits (le d 4 4) 31 7 != 0 || !holds) 4,
    offence ((dOperand d).toNat % 8 != 0) 0x20,
    offence (le d 0x35 3 != 0 || (dReckoners d).isEmpty || (dReckoners d).any fun k => (s.namedReckoner f k).isNone) 0x30,
    offence (le d 0x3C 4 != 0) 0x3C]

/-- Whether a Reckoner executes a check record: one that waits for it (R497, R498). -/
def State.checking (s : State) (k : Nat) : Bool :=
  s.dieList.any fun d => (s.integ d).records.any fun e =>
    if e.2.disputed.isNone then e.2.checker == k else e.2.original == k || e.2.third == some k || e.2.checker == k

/-- Whether a Reckoner cannot take a recipe now (R423, R501, R506). -/
def State.reckBusy (s : State) (k : Nat) : Bool :=
  let x := s.reck (k / 5) (k % 5)
  x.run.isSome || x.known || x.knownDue || x.candidate || s.checking k

/-- Reckoners named by a RUN_RECIPE, each with its bit, in ascending bit order. -/
def State.named (s : State) (f : Nat) (d : List Byte) : List (Nat × Nat) :=
  (dReckoners d).filterMap fun k => (s.namedReckoner f k).map fun r => (k, r)

/-- The format snapshot that a Reckoner would take (R381). -/
def State.snapshot (s : State) (b : List Byte) (k : Nat) : List (Nat × Nat) :=
  (bitsSet 8 (bFormats b)).map fun i => (i, s.reg ⟨k / 5, .format, k % 5⟩ (0x100 + 4 * i))

/-- Why a RUN_RECIPE ends before any Reckoner starts (R423): the DETAIL of RECIPE_ABORTED. -/
def State.runRefusal (s : State) (f : Nat) (d : List Byte) : Option Nat :=
  match FMap.get? s.recipes (dTarget d % 128) with
  | none => none
  | some p =>
    let ks := s.named f d
    if ks.any fun k => (s.reck (k.2 / 5) (k.2 % 5)).retired then some raRetired
    else if ks.any fun k => !p.dies.contains (k.2 / 5) then some raNotResident
    else none

/-- Whether a RUN_RECIPE that passes the checks before it waits for its Reckoners (R423). -/
def State.runWaits (s : State) (f : Nat) (d : List Byte) : Bool :=
  (s.runRefusal f d).isNone && (s.named f d).any fun k => s.reckBusy k.2

/-- A RUN_RECIPE in execution starts (R422, R423, R434). -/
def State.runRecipe (s : State) (f q : Nat) (i : Word) (d : List Byte) : State :=
  match s.runRefusal f d with
  | some dt => s.finish f q i stRecipeAborted dt 0 0
  | none =>
    match FMap.get? s.recipes (dTarget d % 128) with
    | none => s
    | some p =>
      let ks := s.named f d
      if ks.any fun k => !formatsOk p.bundle (s.snapshot p.bundle k.2) then s.finish f q i stRecipeAborted raMalformed 0 0
      else
        let early := bRelease p.bundle == 2 || (bRelease p.bundle == 0 && dEarly d)
        let s := ks.zipIdx.foldl (fun s k =>
          let r := k.1.2
          s.onReck (r / 5) (r % 5) fun x => { x with
            handle := dTarget d % 128, early := early
            run := some {
              fn := f, q := q, index := i, handle := dTarget d % 128, rank := k.2, slot := k.1.1, early := early
              limit := le d 0x38 4, formats := s.snapshot p.bundle r
              active := if bSequences p.bundle then
                  (List.range 16).filter fun e => (x.seqs[e]?.map Sequence.state) == some 1
                else [] } }) s
        s.fetchArgs f q i

/-! ### Run-ahead (R426, R427) -/

/-- The next tile that the sequencer may fetch after a run's present stage, in stage order: it stops before a SIGNAL and a
WAIT (R427). `fuel` bounds how far it looks. -/
def nextTile (b : List Byte) (seqs : List Sequence) (have_ : List (Nat × List Nat)) : Nat → Run → Option Run
  | 0, _ => none
  | fuel + 1, r =>
    match r.stage with
    | none => none
    | some i =>
      let st := bStage b i
      if st.kind = kSignal ∨ st.kind = kWait then none
      else if (st.kind = kLoad || (st.kind = kMatmul && (bGen b st.in0).space != 1)) && !have_.contains (i, r.counters) then
        some r
      else nextTile b seqs have_ fuel (r.next b seqs)

/-- The blocks and tier queue of the tile of a stage, without any architectural change (R24); none where an address cannot
be found or the access would fault. -/
def State.tileAhead (s : State) (w : Work) : Option AheadTile :=
  let ranges : RM (List (Word64 × Nat) × Option Nat) := do
    match ← rmPlace w w.st.in0 with
    | .glob a tier =>
      if w.st.kind = kLoad then pure ([(a, w.st.length)], tier) else
      let f ← rmFmt w w.st.slot0
      let n := w.st.length * f.width / 8
      let nb := w.st.length / f.block
      let sc ← rmScalePlace w f w.st.scale0
      let rest : List (Word64 × Nat) := match sc with
        | some (.glob c _) => (List.range w.st.cols).map fun o => (c + BitVec.ofNat 64 (o * w.st.scaleCol), nb)
        | _ => []
      pure (((List.range w.st.cols).map fun o => (a + BitVec.ofNat 64 (o * w.st.colStride), n)) ++ rest, tier)
    | _ => pure ([], none)
  match (ranges s).1 with
  | .ok (l, tier) =>
    match l.head? with
    | none => none
    | some a =>
      let hbm := s.leafHbm w.d w.r w.run.fn a.1
      some { stage := w.run.stage.getD 0, counters := w.run.counters, blocks := touched l
             tier := tier.getD (if hbm then 0 else 1) }
  | .error _ => none

/-- TILE_PREFETCH (R23 to R25, R426, R427): the next tile of the stage order, at most two ahead on each tier queue. -/
def execTilePrefetch (d r : Nat) (s : State) : Result :=
  atUnit s d (r < 5) <|
    match s.runAt d r with
    | none => s
    | some x =>
      match x.stage, FMap.get? s.recipes x.handle with
      | some _, some p =>
        let seqs := (s.reck d r).seqs
        let start := if x.begun then x.next p.bundle seqs else x
        let mine := x.ahead.map fun t => (t.stage, t.counters)
        match if x.args.isNone || x.stopping then none else nextTile p.bundle seqs mine 4096 start with
        | none => s
        | some y =>
          match s.tileAhead { d := d, r := r, run := y, b := p.bundle, st := bStage p.bundle (y.stage.getD 0) } with
          | none => s
          | some t =>
            if 2 ≤ (x.ahead.filter fun u => u.tier == t.tier).length then s
            else s.onRun d r fun z => { z with ahead := z.ahead ++ [t] }
      | _, _ => s

/-- The bytes of a block of global memory that a run-ahead fetch finds: none where it would fault, is poisoned or fails its
tally, in which case the item is discarded (R25) and the access at the commit point decides. -/
def State.peekBlock (s : State) (f k : Nat) : Option (List Byte) :=
  match s.dieOf (gaEndpoint (BitVec.ofNat 64 k)) with
  | none => none
  | some d' =>
    match (s.walk d' f (gaOffset (BitVec.ofNat 64 k)) false).1 with
    | .found t =>
      let pa := t.pa (gaOffset (BitVec.ofNat 64 k))
      if s.poisoned d' pa || !s.tallyOk d' pa then none else some (s.bytes d' pa 4096)
    | _ => none

/-- TILE_ARRIVAL (R426): the oldest tile on its way arrives in the tile buffers. -/
def execTileArrival (d r : Nat) (s : State) : Result :=
  atUnit s d (r < 5) <|
    match s.runAt d r with
    | none => s
    | some x =>
      match x.ahead.find? fun t => t.data.isNone with
      | none => s
      | some t =>
        let got := t.blocks.map fun k => (s.peekBlock x.fn k).map fun bs => (k, bs)
        if got.any Option.isNone then s.onRun d r fun y => { y with ahead := y.ahead.filter (· != t) }
        else s.onRun d r fun y => { y with ahead := y.ahead.map fun u =>
          if u == t then { u with data := some (got.filterMap id) } else u }

/-- Tiles fetched ahead that `p` names by function and offset are discarded (R25, R344, R438). -/
def State.dropTiles (s : State) (d r f base len : Nat) : State :=
  s.onRun d r fun x =>
    if x.fn ≠ f then x else
    { x with ahead := x.ahead.filter fun t => !t.blocks.any fun k =>
        let o := gaOffset (BitVec.ofNat 64 k)
        base < o + 4096 && o < base + len }

/-! ### Bundles and tables of the admin queue (R380, R404 to R406, R429) -/

/-- Handles that a function holds. -/
def State.handleCount (s : State) (f : Nat) : Nat := (s.recipes.filter fun e => e.2.fn == f).length

/-- LOAD_RECIPE (R404, R405) of the bundle that was read: the handle is the lowest free one (DEDUCED). -/
def State.loadRecipe (s : State) (f : Nat) (i : Word) (bundle : List Byte) : State :=
  if !bundleOk bundle then s.adminEnd f i stBadFormat
  else
    match lowestBelow 128 fun h => (FMap.get? s.recipes h).isNone with
    | none => s.adminEnd f i stNoResource
    | some h =>
      if s.share f 128 Fn.handles ≤ s.handleCount f then s.adminEnd f i stNoResource
      else
        let s := { s with recipes := FMap.set s.recipes h { fn := f, bundle := bundle, dies := s.dieList } }
        let s := s.reckList.foldl (fun s k => s.onReck (k / 5) (k % 5) fun x => { x with epochs := FMap.erase x.epochs h }) s
        s.adminEnd f i stSuccess h

/-- Whether a RUN_RECIPE that names a handle waits for its Reckoners at the head of a queue (R438). -/
def State.handleWaits (s : State) (h : Nat) : Bool :=
  s.queues.any fun e =>
    match s.nextSlot (e.1 / 65536) (e.1 % 65536) with
    | some (_, t) => e.1 % 65536 != 0 && dOpcode t.bytes == 0x20 && dTarget t.bytes == h && s.runWaits (e.1 / 65536) t.bytes
    | none => false

/-- UNLOAD_RECIPE (R406, R438). -/
def State.unloadRecipe (s : State) (f : Nat) (i : Word) (d : List Byte) : State :=
  let h := bits (arg1 d) 15 0
  if ((FMap.get? s.recipes h).map Recipe.fn) ≠ some f then s.adminEnd f i stNoSuchObject
  else if (s.reckList.any fun k => ((s.runAt (k / 5) (k % 5)).map Run.handle) == some h) || s.handleWaits h then
    s.adminEnd f i stBusy
  else ({ s with recipes := FMap.erase s.recipes h }).adminEnd f i stSuccess

/-- Reckoners that a LOAD_TABLE names (R380): 0xFF stands for every one that the function holds. -/
def State.tableTargets (s : State) (f inst : Nat) : List Nat :=
  if inst = 0xFF then (s.heldReckoners f).map fun x => x.1 * 5 + x.2
  else if inst < 40 then (s.namedReckoner f inst).toList else []

/-- LOAD_TABLE of FORMAT_TABLE (R375, R380). -/
def State.formatTable (s : State) (f : Nat) (i : Word) (inst : Nat) (table : List Byte) : State :=
  let ks := s.tableTargets f inst
  let word (k : Nat) : Nat := le table (4 * k) 4
  if table.length ≠ 32 ∨ !((List.range 8).all fun k => slotValid (word k)) then s.adminEnd f i stBadFormat
  else if ks.isEmpty then s.adminEnd f i stNoSuchObject
  else if ks.any fun k => (s.runAt (k / 5) (k % 5)).isSome then s.adminEnd f i stBusy
  else
    (ks.foldl (fun s r => (List.range 8).foldl (fun s k =>
      s.setReg ⟨r / 5, .format, r % 5⟩ (0x100 + 4 * k) (word k)) s) s).adminEnd f i stSuccess

/-- LOAD_TABLE of SEQUENCE_TABLE (R429). -/
def State.sequenceTable (s : State) (f : Nat) (i : Word) (inst : Nat) (table : List Byte) : State :=
  if inst = 0xFF then s.adminEnd f i stBadFormat else
  match (s.tableTargets f inst).head? with
  | none => s.adminEnd f i stNoSuchObject
  | some k =>
    let es := pieces 64 table
    let used := es.filter fun e => bits (le e 0 4) 1 0 != 0
    if (s.runAt (k / 5) (k % 5)).isSome then s.adminEnd f i stBusy
    else if table.length ≠ 1024 ∨ !(used.all (seqOk (s.endpoint (k / 5)))) then s.adminEnd f i stBadFormat
    else if used.any fun e => le e 0x28 2 != 0 && (s.keySlot f (le e 0x28 2)).isNone then s.adminEnd f i stNoSuchObject
    else
      (s.onReck (k / 5) (k % 5) fun x => { x with
        seqs := es.map fun e => if bits (le e 0 4) 1 0 = 0 then {} else seqOf e }).adminEnd f i stSuccess

end Sys2Proof.Machine
end

