-- ==== Sys2Proof/Machine/Checks.lean ====
section
/-!
DEFINITION. Re-reckoning after a record has been written, known-answer runs and retirement (R497 to R509).
-/

namespace Sys2Proof.Machine

/-- A check record removed from its buffer. -/
def State.dropRecord (s : State) (d slot : Nat) : State :=
  s.onInteg d fun x => { x with records := FMap.erase x.records slot }

/-- What waited for the end of a check goes on: records take the room, and held releases are made (R435, R496). -/
def State.afterCheck (s : State) : State := let t := s.placeWaiting; t.reckList.foldl State.resumeHeld t

/-- A check passes (R498): its tile's entries are no longer linked to it. -/
def State.passCheck (s : State) (d slot : Nat) (c : Check) : State :=
  let o := c.original / 5
  (((s.dropRecord d slot).count (integrityPage o) Ctr.integrityChecksPassed).unlink o c.id).afterCheck

/-- A check ends without a verdict, and its tile is treated as passed (R500). -/
def State.abandonCheck (s : State) (d slot : Nat) (c : Check) : State :=
  let o := c.original / 5
  (((s.dropRecord d slot).count (integrityPage o) Ctr.integrityChecksAborted).unlink o c.id).afterCheck

/-- FE_DATA words beyond the first of an error that is about to be captured (R53). -/
def State.errorWords (s : State) (p : Page) (code : Nat) (words : List Nat) : State :=
  let fresh := !s.feValid p
  let s := s.error p code 0 ((words.head?).getD 0)
  if fresh then ((words.drop 1).take 21).zipIdx.foldl (fun s w => s.setReg p (0x58 + 8 * w.2) w.1) s else s

/-- A check fails (R499, R502, R503): it is captured, the recipe's function is told, a recipe still running stops, and what
was released early is retracted. -/
def State.failCheck (s : State) (d slot : Nat) (c : Check) : State :=
  let o := c.original / 5
  let p := integrityPage o
  let s := (s.dropRecord d slot).count p Ctr.integrityChecksFailed
  let s := s.errorWords p 0x0101 (((pieces 8 c.tile).map fromLE) ++ [s.reg p 0x108])
  let seq := ((s.integ o).log.find? fun e => e.linked c.id).map fun e => e.seq.toNat
  let s := (s.raise p 1).integrityEvent o c.fn 3 c.original 0 (s.endpoint o) (seq.getD 0) c.first.toNat
  let s := s.retract o fun e => e.linked c.id
  let running := ((s.runAt o (c.original % 5)).map fun r => r.fn == c.fn && r.q == c.q && r.index == c.index).getD false
  (if running then s.failRun o (c.original % 5) stRecipeAborted raCheck
   else
     match (s.runsOf c.fn c.q c.index).head? with
     | some k => s.failRun (k / 5) (k % 5) stRecipeAborted raCheck
     | none => s).afterCheck

/-- A check whose checker or third Reckoner has gone (R500): it goes to the next Reckoner in rotation, or ends. -/
def State.abortCheck (s : State) (d slot : Nat) (c : Check) : State :=
  let pk := s.pickReckoner (c.original / 5) [c.original, c.checker]
  match pk.1 with
  | some k =>
    if 2 ≤ c.aborts then pk.2.abandonCheck d slot c
    else
      let c' : Check := { c with checker := k, third := none, disputed := none, aborts := c.aborts + 1 }
      pk.2.onInteg d fun x => { x with records := FMap.set x.records slot c' }
  | none => pk.2.abandonCheck d slot c

/-- A TRANSIENT classification counted for a Reckoner, which may make it a candidate (R501). -/
def State.noteTransient (s : State) (k : Nat) : State :=
  s.onReck (k / 5) (k % 5) fun x =>
    let l := s.now :: x.transients.filter fun t => s.now < t + 86400000000000
    { x with transients := l, candidate := x.candidate || bits (s.reg (integrityPage (k / 5)) 0x100) 15 8 ≤ l.length }

/-- A Reckoner made a candidate (R501). -/
def State.suspect (s : State) (k : Nat) : State := s.onReck (k / 5) (k % 5) fun x => { x with candidate := true }

/-- Retirement (R397, R398, R508). The mark is the binding record's: no reset clears it. -/
def State.retire (s : State) (k : Nat) : State :=
  let d := k / 5
  let r := k % 5
  let s := s.onReck d r fun x => { x with retired := true, candidate := false, known := false, knownDue := false }
  let s := s.failRun d r stRecipeAborted raRetired
  let held := s.dieList.flatMap fun d' => (s.integ d').records.filterMap fun e =>
    if e.2.checker == k || e.2.third == some k then some (d', e.1, e.2) else none
  let s := held.foldl (fun s h => s.abortCheck h.1 h.2.1 h.2.2) s
  let s := s.integrityEvent d 0 4 k 0 (s.endpoint d) 0 0
  let s := ((s.raise (reckonerPage d r) 2).raise (integrityPage d) 2).count (integrityPage d) Ctr.integrityRetirements
  s.retract d fun e => match e.source with
    | .reckoner j _ => j == k
    | .chunk .. => false

/-- A classification recorded (R499, LAST_CLASS). -/
def State.classify (s : State) (c : Check) (cls ctr : Nat) : State :=
  let p := integrityPage (c.original / 5)
  (s.setReg p 0x108 (cls * 2 ^ 29 + c.third.getD 63 * 4096 + c.checker * 64 + c.original)).count p ctr

/-- CHECK_EXECUTION (R497, R498, R509): the checker has executed record `check` of die `d` with a result. A result that
differs is disputed, and a third Reckoner is named. -/
def execCheckExecution (d check : Nat) (result : List Byte) (s : State) : Result :=
  atDie s d <|
    match FMap.get? (s.integ d).records check with
    | none => s
    | some c =>
      if c.disputed.isSome then s else
      let s := s.onRun (c.checker / 5) (c.checker % 5) fun x => { x with ahead := [] }
      let s := s.onExec c.fn c.q c.index fun e =>
        { e with opResult := e.opResult.take 4 ++ toLE 4 (le e.opResult 4 4 + 1) ++ e.opResult.drop 8 }
      if result == c.result then s.passCheck d check c
      else if (s.reck (c.original / 5) (c.original % 5)).retired then s.failCheck d check c
      else
        let pk := s.pickReckoner (c.original / 5) [c.original, c.checker]
        match pk.1 with
        | none => pk.2.abandonCheck d check c
        | some k =>
          let c' : Check := { c with third := some k, disputed := some result }
          pk.2.onInteg d fun x => { x with records := FMap.set x.records check c' }

/-- CHECK_REEXECUTION (R498, R499, R509): the original's second result, the third Reckoner's, and a second one of the
checker classify a disputed check. -/
def execCheckReexecution (d check : Nat) (o2 t c2 : List Byte) (s : State) : Result :=
  atDie s d <|
    match FMap.get? (s.integ d).records check with
    | none => s
    | some c =>
      match c.disputed with
      | none => s
      | some r =>
        if (s.reck (c.original / 5) (c.original % 5)).retired then s.failCheck d check c
        else if o2 == c.result && t == r then
          ((s.classify c 1 Ctr.integrityClassPermanent).failCheck d check c).retire c.original
        else if o2 == r && t == r then
          ((s.classify c 2 Ctr.integrityClassTransient).failCheck d check c).noteTransient c.original
        else if o2 == c.result && t == c.result then
          if c2 == r then ((s.classify c 3 Ctr.integrityClassPermanent).passCheck d check c).retire c.checker
          else if c2 == c.result then
            ((s.classify c 4 Ctr.integrityClassTransient).passCheck d check c).noteTransient c.checker
          else ((s.classify c 6 Ctr.integrityClassUnresolved).passCheck d check c).suspect c.checker
        else
          (((s.classify c 5 Ctr.integrityClassUnresolved).failCheck d check c).suspect c.original).suspect c.checker

/-! ### Known-answer recipes (R505 to R507) -/

/-- KNOWN_ANSWER_RUN (R506): the set begins on a Reckoner that is idle. -/
def execKnownAnswerRun (d r : Nat) (s : State) : Result :=
  atUnit s d (r < 5) <|
    let x := s.reck d r
    if x.run.isSome || x.known || x.retired || s.checking (d * 5 + r) || (s.die d).computeReset then s
    else s.onReck d r fun x => { x with known := true }

/-- KAR_DEFER_EXPIRY (R506): a busy Reckoner is taken at its next descriptor boundary. -/
def execKarDeferExpiry (d r : Nat) (s : State) : Result :=
  atUnit s d (r < 5) <|
    if (s.reck d r).run.isSome then s.onReck d r fun x => { x with knownDue := true } else s

/-- KNOWN_ANSWER_DONE (R507): the 64 recipes have run, `failures` of them with a digest that differs. -/
def execKnownAnswerDone (d r : Nat) (failures : Nat) (s : State) : Result :=
  atUnit s d (r < 5) <|
    let x := s.reck d r
    if !x.known then s else
    let s := (s.count (integrityPage d) Ctr.integrityKarRuns 64).count (integrityPage d) Ctr.integrityKarFailures
      (min failures 64)
    let s := s.onReck d r fun y => { y with known := false, knownDue := false, knownAt := s.now }
    if x.candidate then
      if failures = 0 then s.onReck d r fun y => { y with candidate := false, transients := [] }
      else s.retire (d * 5 + r)
    else if failures = 0 then s
    else s.suspect (d * 5 + r)

end Sys2Proof.Machine
end

