-- ==== Sys2Proof/Machine/Frames.lean ====
section
/-!
DEFINITION. Counting frames (R446 to R460): element types, conversion, exact addition with its cast-out check, the one
rounding at the root, windows, and the layout of a replay slot.
-/

namespace Sys2Proof.Machine

/-! ### Types (R446) -/

/-- Width in bits of a type code. -/
def collWidth (t : Nat) : Nat :=
  if t = 0 then 4 else if t ≤ 2 then 6 else if t ≤ 6 then 8 else if t = 7 then 16 else if t ≤ 9 then 32 else 64

/-- The slot value that decodes a type of at most 8 bits. -/
def collSlot (t : Nat) : Nat :=
  match t with
  | 0 => 0x05012101
  | 1 => 0x05012301
  | 2 => 0x05013203
  | 3 => 0x25014307
  | 4 => 0x1501520F
  | 5 => 0x21014307
  | _ => 0x1101520F

/-- Whether a type is an MX type, with one scale byte for 32 elements, or an integer type. -/
def isMx (t : Nat) : Bool := decide (t ≤ 4)
def isInt (t : Nat) : Bool := t == 9 || t == 10

/-- Elements in a chunk of a type: those whose bytes make up 64 KiB, down to a multiple of 256. -/
def chunkElems (t : Nat) : Nat := 65536 * 8 / collWidth t / 256 * 256

/-! ### Frames (R450 to R455) -/

/-- The frame of an exact value, a multiple of 2^−149 (R450, R451). -/
def Frame.ofFp : Fp → Frame
  | .nan => { cls := 3 }
  | .inf s => { cls := if s then 2 else 1 }
  | .fin s q => { v := BitVec.ofInt 320 ((signed s q * pow2 149).floor) }

/-- The frame of an element code of a type under a scale byte (R451). -/
def Frame.ofElement (t x scale : Nat) : Frame :=
  if isInt t then
    let w := collWidth t
    let v : Int := if bit x (w - 1) then (x : Int) - 2 ^ w else x
    { v := BitVec.ofInt 320 (v * 2 ^ 149) }
  else if t = 8 then .ofFp (Fp.ofWord (BitVec.ofNat 32 x))
  else if t = 7 then .ofFp (Fp.ofWord (bf16Value x))
  else
    let f := Fmt.ofWord (collSlot t)
    if isMx t then .ofFp ((f.decode x).mul (f.scaleValue scale)) else .ofFp (f.decode x)

/-- The value of a frame (R450). -/
def Frame.value (a : Frame) : Fp :=
  match a.cls with
  | 0 => .fin (decide (a.v.toInt < 0)) (((a.v.toInt.natAbs : Nat) : Rat) / pow2 149)
  | 1 => .inf false
  | 2 => .inf true
  | _ => .nan

/-- The class of a sum (R452). -/
def sumClass (a b : Nat) : Nat :=
  if a = 3 ∨ b = 3 ∨ (a = 1 ∧ b = 2) ∨ (a = 2 ∧ b = 1) then 3 else if a = 0 then b else a

/-- The sum of two frames (R452). -/
def Frame.add (a b : Frame) : Frame :=
  let c := sumClass a.cls b.cls
  { cls := c, v := if c = 0 then a.v + b.v else 0 }

/-- The residue ρ: the value modulo 65,535 (R454). -/
def residue (x : BitVec 320) : Nat := x.toNat % 65535

/-- The carry out of bit 319 of a sum. -/
def carryOut (a b : BitVec 320) : Nat := (a.toNat + b.toNat) / 2 ^ 320

/-- The addition check of R455 for a sum `s` of `a` and `b`. -/
def castOutOk (a b s : BitVec 320) : Bool := (residue s + carryOut a b) % 65535 == (residue a + residue b) % 65535

/-- The placement check of R455 for a significand `m` placed at bit `q` with a sign. -/
def placementOk (f : BitVec 320) (neg : Bool) (m q : Nat) : Bool :=
  let t : Int := (m : Int) * 2 ^ (q % 16)
  (residue f : Int) == (if neg then 1 - t else t) % 65535

/-- One addition of a row, with the bits by which an adder is wrong, and whether it passes its check. -/
def Frame.addChecked (a b : Frame) (glitch : BitVec 320) : Frame × Bool :=
  let s := a.add b
  if s.cls = 0 then
    let v := s.v ^^^ glitch
    ({ cls := 0, v := v }, castOutOk a.v b.v v)
  else (s, true)

/-- A row added to a row; the first element takes the adder's error. -/
def addRow (a b : List Frame) (glitch : BitVec 320) : List Frame × Bool :=
  let l := (List.zip a b).zipIdx.map fun x => x.1.1.addChecked x.1.2 (if x.2 = 0 then glitch else 0)
  (l.map Prod.fst, l.all Prod.snd)

/-! ### Contribution and output (R451, R453) -/

/-- Codes of `w` bits packed in bytes, element 0 in the lowest bits (R378). -/
def codesOf (w : Nat) (bs : List Byte) (n : Nat) : List Nat :=
  let x := fromLE bs
  (List.range n).map fun i => x / 2 ^ (w * i) % 2 ^ w

/-- Codes packed into bytes. -/
def packCodes (w : Nat) (l : List Nat) : List Byte := toLE (l.length * w / 8) (l.foldr (fun x a => a * 2 ^ w + x) 0)

/-- A row padded to 256 frames: elements beyond the operation's end are zero frames (R458). -/
def padRow (l : List Frame) : List Frame := l ++ List.replicate (256 - l.length) ({} : Frame)

/-- A row of a contribution: element bytes, scale bytes and number of elements. -/
def rowFrames (t : Nat) (bs scales : List Byte) (n : Nat) : List Frame :=
  padRow ((codesOf (collWidth t) bs n).zipIdx.map fun x =>
    Frame.ofElement t x.1 (((scales[x.2 / 32]?).map BitVec.toNat).getD 0))

/-- What a root writes for a row of `n` outputs (R453): element bytes, scale bytes, saturations and special cases. -/
def rowOutput (t : Nat) (fs : List Frame) (n : Nat) : List Byte × List Byte × Nat × Nat :=
  let fs := fs.take n
  let special := (fs.filter fun f => f.cls != 0).length
  if isInt t then
    (packCodes (collWidth t) (fs.map fun f => (f.v.toInt / 2 ^ 149 % 2 ^ collWidth t).toNat), [], 0, special)
  else if t = 8 then (fs.flatMap fun f => toLE 4 f.value.toWord.toNat, [], 0, special)
  else if t = 7 then
    let code (v : Fp) : Nat := match v with
      | .nan => 0x7FC0
      | .inf s => b2n s * 32768 + 0x7F80
      | .fin s q => b2n s * 32768 + min (roundCode (-126) 7 q) 0x7F80
    (fs.flatMap fun f => toLE 2 (code f.value), [], 0, special)
  else
    let f := Fmt.ofWord (collSlot t)
    if isMx t then
      let bl := (pieces 32 (fs.map Frame.value)).map f.convertFp
      (packCodes f.width (bl.flatMap fun b => b.2.1), bl.map fun b => BitVec.ofNat 8 b.1, (bl.map fun b => b.2.2.1).sum,
        special)
    else
      let b := f.convertFp (fs.map Frame.value)
      (packCodes 8 b.2.1, [], b.2.2.1, special)

/-! ### Windows (R458) -/

/-- Whether words P to P + W − 1 hold a frame's integer. -/
def fitsWindow (w p : Nat) (f : Frame) : Bool :=
  let x := f.v.toInt
  if w = 0 then x == 0
  else x % 2 ^ (64 * p) == 0 && decide (-(2 ^ (64 * (p + w) - 1)) ≤ x ∧ x < 2 ^ (64 * (p + w) - 1))

/-- The smallest W, and then the smallest P, that hold a row. -/
def rowWindow (fs : List Frame) : Nat × Nat :=
  (((List.range 6).flatMap fun w => (List.range (if w = 0 then 1 else 6 - w)).map fun p => (w, p)).find? fun x =>
    fs.all (fitsWindow x.1 x.2)).getD (5, 0)

/-- A class map: 2 bits per element. -/
def classMap (fs : List Frame) : List Byte := toLE (fs.length / 4) (fs.foldr (fun f a => a * 4 + f.cls) 0)

/-- The windows of frames, each word little-endian. -/
def windowBytes (w p : Nat) (fs : List Frame) : List Byte :=
  fs.flatMap fun f => toLE (8 * w) (f.v.toNat / 2 ^ (64 * p))

/-- Frames read from windows and a class map. -/
def windowFrames (w p n : Nat) (specials : Bool) (bs : List Byte) : List Frame :=
  let map := le bs (8 * w * n) (n / 4)
  (List.range n).map fun i =>
    let x := le bs (8 * w * i) (8 * w)
    let v : Int := if w ≠ 0 ∧ bit x (64 * w - 1) then (x : Int) - 2 ^ (64 * w) else x
    { cls := if specials then map / 4 ^ i % 4 else 0, v := BitVec.ofInt 320 (v * 2 ^ (64 * p)) }

/-! ### Replay slots (R460) -/

/-- The 40-byte frames of a row, and frames read back from them and their class map. -/
def frameBytes (fs : List Frame) : List Byte := fs.flatMap fun f => toLE 40 f.v.toNat
def framesOf (bs map : List Byte) : List Frame :=
  let m := fromLE map
  (pieces 40 bs).zipIdx.map fun x => { cls := m / 4 ^ x.2 % 4, v := BitVec.ofNat 320 (fromLE x.1) }

/-! ### Operations (R446, R461) -/

/-- Elements of a REDUCE, or bytes of a BROADCAST. -/
def CollOp.count (o : CollOp) : Nat := if o.broadcast then o.length else o.length * 8 / collWidth o.inType

/-- C of an operation. -/
def CollOp.size (o : CollOp) : Nat := if o.broadcast then 65536 else chunkElems o.inType

/-- Chunks of an operation. -/
def CollOp.chunkCount (o : CollOp) : Nat := ceilDiv o.count o.size

/-- Elements, or bytes, of chunk `k`. -/
def CollOp.chunkLen (o : CollOp) (k : Nat) : Nat := min o.size (o.count - k * o.size)

/-- Rows of chunk `k`, and elements of row `r` in it. -/
def CollOp.rows (o : CollOp) (k : Nat) : Nat := ceilDiv (o.chunkLen k) 256
def CollOp.rowLen (o : CollOp) (k r : Nat) : Nat := min 256 (o.chunkLen k - r * 256)

/-- Bytes of element and scale output of chunk `k`; for a BROADCAST, its data. -/
def CollOp.elemBytes (o : CollOp) (k : Nat) : Nat :=
  if o.broadcast then o.chunkLen k else o.chunkLen k * collWidth o.outType / 8
def CollOp.scaleBytes (o : CollOp) (k : Nat) : Nat := if !o.broadcast && isMx o.outType then o.chunkLen k / 32 else 0

/-- DATA packets of chunk `k` (R458). -/
def CollOp.packets (o : CollOp) (k : Nat) : Nat := ceilDiv (o.elemBytes k + o.scaleBytes k) 8192

/-- A chunk in the window. -/
def CollOp.chunk? (o : CollOp) (k : Nat) : Option Chunk := o.chunks.find? fun c => c.k == k

/-- A chunk in the window changed. -/
def CollOp.onChunk (o : CollOp) (k : Nat) (f : Chunk → Chunk) : CollOp :=
  { o with chunks := o.chunks.map fun c => if c.k = k then f c else c }

/-- Offset of row `r` of a part in its replay slot, and of its class map. -/
def CollOp.partAt (o : CollOp) (k part : Nat) : Nat := (k % 2 * (1 + o.children.length) + part) * (161 * o.size / 4)
def CollOp.rowAt (o : CollOp) (k part r : Nat) : Nat := o.partAt k part + r * 10240
def CollOp.mapAt (o : CollOp) (k part r : Nat) : Nat := o.partAt k part + o.size * 40 + r * 64

/-- Bytes of the replay window (R460). -/
def CollOp.replayLen (o : CollOp) : Nat := 2 * (1 + o.children.length) * (161 * o.size / 4)

/-- Whether a member writes output: the root of a REDUCE, every member under DISTRIBUTE, and every member but the root of a
BROADCAST. -/
def CollOp.writes (o : CollOp) (root : Bool) : Bool := if o.broadcast then !root else root || o.distribute

/-- Key of a part's row in `Chunk.added`. -/
def partRow (part r : Nat) : Nat := part * 1024 + r

/-- Whether every part of a row is held. -/
def Chunk.complete (c : Chunk) (children r : Nat) : Bool := (List.range (children + 1)).all fun p => c.added.contains (partRow p r)

/-- A part's row added into the accumulation slot (R461): the chunk, whether an addition was made, and whether it passed. -/
def Chunk.addPart (c : Chunk) (part r : Nat) (fs : List Frame) (glitch : BitVec 320) : Chunk × Bool × Bool :=
  let c := { c with added := if c.added.contains (partRow part r) then c.added else partRow part r :: c.added }
  match FMap.get? c.acc r with
  | none => ({ c with acc := FMap.set c.acc r fs }, false, true)
  | some a =>
    let x := addRow a fs glitch
    if x.2 then ({ c with acc := FMap.set c.acc r x.1 }, true, true) else ({ c with bad := r :: c.bad }, true, false)

/-- The lowest chunk of an operation not held at its current generation by the member itself (R457, RECEIPT). A member that
writes no output lacks none. -/
def CollOp.holds (o : CollOp) (root : Bool) : Nat :=
  if root || !o.writes root then o.chunkCount
  else ((List.range (o.chunkCount - o.base)).find? fun j =>
    match o.chunk? (o.base + j) with
    | some c => c.data.length != o.packets (o.base + j)
    | none => true).elim o.chunkCount (o.base + ·)

/-- The lowest RECEIPT of the children, none before every child has sent one. -/
def CollOp.receipts (o : CollOp) : Option Nat :=
  if o.children.all fun c => c.receipt.isSome then
    some (o.children.foldl (fun m c => min m ((c.receipt.map Prod.snd).getD 0)) o.chunkCount)
  else none

/-- Whether every child's RECEIPT shows FINISHED. -/
def CollOp.allFinished (o : CollOp) : Bool := o.children.all fun c => (c.receipt.map Prod.fst).getD false

end Sys2Proof.Machine
end

