-- ==== Sys2Proof/Machine/Groups.lean ====
section
/-!
DEFINITION. Groups (R439 to R444), and the replication of chunk packets down a group's tree (R285 to R287).
-/

namespace Sys2Proof.Machine

/-- The collective-engine page of a die. -/
abbrev collPage (d : Nat) : Page := ⟨d, .collective, 0⟩

/-- A group of a die, with its group-list entry, by its ID. -/
def State.groupOf (s : State) (d id : Nat) : Option (Nat × Group) := (s.die d).groups.find? fun e => e.2.id == id

/-- A group-list entry changed. -/
def State.onGroup (s : State) (d e : Nat) (f : Group → Group) : State :=
  s.onDie d fun x => { x with groups := FMap.modify x.groups e f }

/-- The operation of a group-list entry, and the operation changed. -/
def State.collOp (s : State) (d e : Nat) : Option (Group × CollOp) :=
  match FMap.get? (s.die d).groups e with
  | some g => g.op.map fun o => (g, o)
  | none => none
def State.onOp (s : State) (d e : Nat) (f : CollOp → CollOp) : State :=
  s.onGroup d e fun g => { g with op := g.op.map f }
def State.onChunk (s : State) (d e k : Nat) (f : Chunk → Chunk) : State := s.onOp d e fun o => o.onChunk k f

/-- Whether a group's member is its root, and the endpoints of its root, its parent and a member. -/
def Group.isRoot (g : Group) : Bool := g.member == g.root
def Group.endpointOf (g : Group) (m : Nat) : Nat := ((g.table[m]?).map Prod.fst).getD 0
def Group.parentOf (g : Group) : Nat := ((g.table[g.member]?).map Prod.snd).getD 0

/-- The children of a member, in ascending member index (R440). -/
def childrenOf (table : List (Nat × Nat)) (root m : Nat) : List Nat :=
  (List.range table.length).filter fun k => k != root && ((table[k]?).map Prod.snd) == some m

/-! ### Replication (R286, R287) -/

/-- A stand-in for a replicated packet while its copies are formed, so that its units are freed only after the last. -/
def originMark (p : Packet) (port vc id : Nat) : FifoPacket := ⟨p, port, vc, 0, some id⟩

/-- A packet to be replicated at a die: a copy for each child endpoint and for the local port, each a relay flow of the
port where the original arrived (R286). The original's edition count has ended. -/
def State.replicate (s : State) (d : Nat) (p : Packet) (e : ReplEntry) (flow inPort vcIn units : Nat) : State :=
  let id := (s.die d).router.nextId
  let mark := originMark p inPort vcIn id
  let s := s.onRouter d fun r => { r with nextId := id + 1, arrived := r.arrived ++ [mark] }
  let one (s : State) (q : Packet) : State :=
    ((s.count (routerPage d) Ctr.router0ReplicatedCopies).editionCount d q.edition (· + 1)).forward d q flow inPort vcIn
      units (some id)
  let s := e.children.foldl (fun s c =>
    one s { p with dest := BitVec.ofNat 18 c, hops := 0, edition := s.injectEdition d }) s
  let s := if e.isLocal then one s p else s
  let s := s.onRouter d fun r => { r with arrived := r.arrived.erase mark }
  s.freeUnits d inPort vcIn units (some id)

/-- The replication entry that a packet uses (R287): that of its group, where the generation is the entry's. -/
def State.replEntry (s : State) (d : Nat) (p : Packet) : Option ReplEntry :=
  match FMap.get? (s.die d).router.repl p.groupId.toNat with
  | some e => if e.gen = p.groupGen.toNat then some e else none
  | none => none

/-! ### Group tables (R440) -/

/-- A group table at the length that its header names. -/
def fitTable (t : List Byte) : List Byte := let n := le t 0x14 4; t.take n ++ zeros (n - t.length)

/-- The members of a table: endpoint and parent of each. -/
def groupMembers (t : List Byte) : List (Nat × Nat) :=
  (List.range (bits (le t 8 4) 27 16 + 1)).map fun k =>
    let e := le t (64 + 8 * k) 8
    (bits e 17 0, bits e 29 18)

/-- Whether following PARENT from a member reaches the root. -/
def reachesRoot (table : List (Nat × Nat)) (root : Nat) : Nat → Nat → Bool
  | 0, m => m == root
  | fuel + 1, m => m == root || reachesRoot table root fuel (((table[m]?).map Prod.snd).getD root)

/-- Whether a table is well formed for a group ID (R440). -/
def groupTableOk (t : List Byte) (id : Nat) : Bool :=
  let n := bits (le t 8 4) 27 16 + 1
  let w := le t 0x0C 4
  let root := bits w 11 0
  let m := groupMembers t
  let entries := (List.range n).map fun k => le t (64 + 8 * k) 8
  le t 0 4 == 0x47525550 && le t 4 2 == 1 && le t 6 2 == id && bits (le t 8 4) 31 28 == 0 && decide (root < n) &&
  !bit w 15 && decide (bits w 20 16 ≤ 16) && bits w 31 21 == 0 && le t 0x12 2 == 0 && le t 0x14 4 == 64 + 8 * n &&
  le t 0x18 4 == (crc32c (t.take 0x18 ++ zeros 4 ++ t.drop 0x1C)).toNat && allZero (slice t 0x1C 0x24) &&
  entries.all (fun e => bits e 63 30 == 0) && m.all (fun e => decide (e.2 < n)) &&
  ((m[root]?).map Prod.snd) == some root && decide (m.map Prod.fst).Nodup &&
  (List.range n).all (fun k => decide ((childrenOf m root k).length ≤ 8) && reachesRoot m root n k)

/-- The group that a table installs on a die as member `k`. -/
def groupOfTable (t : List Byte) (k : Nat) : Group :=
  let w := le t 0x0C 4
  let us := le t 0x10 2
  { id := le t 6 2, gen := le t 8 2, root := bits w 11 0, tclass := bits w 14 12, owner := bits w 20 16
    timeout := if us = 0 then 2000 else us, member := k, table := groupMembers t }

/-- The member index of a die in a table. -/
def State.memberIn (s : State) (d : Nat) (m : List (Nat × Nat)) : Option Nat :=
  if s.hasEndpoint d then (List.range m.length).find? fun k => ((m[k]?).map Prod.fst) == some (s.endpoint d) else none

/-- A group's replication entry (R441). -/
def Group.replEntry (g : Group) : ReplEntry :=
  { gen := g.gen, isLocal := !g.isRoot, children := (childrenOf g.table g.root g.member).map g.endpointOf }

/-- A group installed on a die, in the entry of the same group or else the lowest free one (R441). -/
def State.installGroup (s : State) (d : Nat) (g : Group) : State :=
  let e := match s.groupOf d g.id with
    | some (e, _) => some e
    | none => lowestBelow 4096 fun n => (FMap.get? (s.die d).groups n).isNone
  match e with
  | none => s
  | some e =>
    (s.onDie d fun x => { x with groups := FMap.set x.groups e g }).onRouter d fun r =>
      { r with repl := FMap.set r.repl g.id g.replEntry }

/-- A group removed from a die. -/
def State.removeGroup (s : State) (d id : Nat) : State :=
  (s.onDie d fun x => { x with groups := x.groups.filter fun e => e.2.id != id }).onRouter d fun r =>
    { r with repl := FMap.erase r.repl id }

/-- The dies that a table names, with their member indices. -/
def State.namedDies (s : State) (t : List Byte) : List (Nat × Nat) :=
  s.dieList.filterMap fun d => (s.memberIn d (groupMembers t)).map fun k => (d, k)

/-- Whether a named die has no free entry for a group (R441). -/
def State.groupsFull (s : State) (t : List Byte) (id : Nat) : Bool :=
  (s.namedDies t).any fun n => (s.groupOf n.1 id).isNone && decide (4096 ≤ (s.die n.1).groups.length)

/-- The dies of the package that hold a group. -/
def State.holders (s : State) (id : Nat) : List Nat := s.dieList.filter fun d => (s.groupOf d id).isSome

/-- The group table read from host memory, its header first (R440). -/
def State.readTable (s : State) (f : Nat) (d t : List Byte) : State :=
  let s := s.emit (.hostRead f (BitVec.ofNat 64 (arg0 d)) 64)
  if t.length ≤ 64 then s else s.emit (.hostRead f (BitVec.ofNat 64 (arg0 d + 64)) (t.length - 64))

/-- CREATE_GROUP with its table (R441). -/
def State.createGroup (s : State) (f : Nat) (i : Word) (d table : List Byte) : State :=
  let t := fitTable table
  let id := bits (arg1 d) 15 0
  let s := s.readTable f d t
  if !groupTableOk t id then s.adminEnd f i stBadFormat
  else if !(s.holders id).isEmpty then s.adminEnd f i stInvalidArgument
  else if s.groupsFull t id then s.adminEnd f i stNoResource
  else ((s.namedDies t).foldl (fun s n => s.installGroup n.1 (groupOfTable t n.2)) s).adminEnd f i stSuccess (le t 8 2)

end Sys2Proof.Machine
end

