-- ==== Sys2Proof/Machine/CollectiveCore.lean ====
section
/-!
DEFINITION. The collective engine (R445 to R478), below its commands: chunk packets, the member's part of a chunk, rows
sent, rounded and re-formed, grants, receipts and the end of an operation.
-/

namespace Sys2Proof.Machine

/-! ### Chunk packets (R457) -/

/-- Kinds of chunk packet. -/
def ckData : Nat := 0
def ckFrames : Nat := 1
def ckGrant : Nat := 2
def ckReceipt : Nat := 3
def ckResend : Nat := 4
def ckFailure : Nat := 5
def ckRetract : Nat := 6
def ckFinish : Nat := 7
def ckAbort : Nat := 8

/-- A chunk header as received, with its payload and whether every tally of it passes. -/
structure ChunkIn where
  kind     : Nat
  gen      : Nat
  specials : Bool
  half     : Bool
  sender   : Nat
  seq      : Word
  chunk    : Nat
  row      : Nat
  width    : Nat
  pos      : Nat
  arg      : Nat
  group    : Nat
  ggen     : Nat
  payload  : List Byte
  good     : Bool
  deriving DecidableEq, Repr

/-- The chunk header of a packet's body. -/
def chunkIn (body : List Byte) : Option ChunkIn :=
  if body.length < 20 then none else
  let a := be body 0 4
  let c := be body 8 4
  let g := be body 16 4
  let pay := (untally 0 (body.drop 20)).getD (body.drop 20, false)
  some { kind := bits a 31 28, gen := bits a 27 26, specials := bit a 25, half := bit a 24, sender := bits a 23 12
         seq := BitVec.ofNat 32 (be body 4 4), chunk := bits c 31 16, row := bits c 15 7, width := bits c 6 4
         pos := bits c 3 1, arg := be body 12 4, group := bits g 31 16, ggen := bits g 15 0
         payload := pay.1, good := pay.2 }

/-- The bytes of a chunk header, then the payload with its tallies. -/
def chunkBody (g : Group) (seq : Word) (kind gen flags chunk row window arg : Nat) (payload : List Byte) : List Byte :=
  toBE 4 (kind * 2 ^ 28 + gen * 2 ^ 26 + flags * 2 ^ 24 + g.member * 4096) ++ toBE 4 seq.toNat ++
  toBE 4 (chunk * 65536 + row * 128 + window) ++ toBE 4 arg ++ toBE 4 (g.id * 65536 + g.gen) ++ payload ++ tallies 0 payload

/-- A chunk packet to one endpoint. -/
def State.sendChunk (s : State) (d : Nat) (g : Group) (dest : Nat) (body : List Byte) : State :=
  s.inject d (ownPacket (s.endpoint d) dest g.tclass ptChunk body) flowCollective

/-- A chunk packet from the root to every member (R286, R457). -/
def State.sendAll (s : State) (d : Nat) (g : Group) (body : List Byte) : State :=
  let p := { ownPacket (s.endpoint d) (s.endpoint d) g.tclass ptChunk body with
    replicate := true, groupId := BitVec.ofNat 16 g.id, groupGen := BitVec.ofNat 16 g.gen, edition := s.injectEdition d }
  match s.replEntry d p with
  | some e => s.replicate d p e flowCollective 7 0 0
  | none => s.count (routerPage d) Ctr.router0ReplicateMisses

/-- A chunk packet to every child, one by one. -/
def State.sendChildren (s : State) (d : Nat) (g : Group) (o : CollOp) (body : List Byte) : State :=
  o.children.foldl (fun s c => s.sendChunk d g c.endpoint body) s

/-- A chunk packet to the parent, and one to the root. -/
def State.sendParent (s : State) (d : Nat) (g : Group) (body : List Byte) : State :=
  s.sendChunk d g (g.endpointOf g.parentOf) body
def State.sendRoot (s : State) (d : Nat) (g : Group) (body : List Byte) : State := s.sendChunk d g (g.endpointOf g.root) body

/-- The GRANT of an operation (R461). -/
def State.sendGrants (s : State) (d : Nat) (g : Group) (o : CollOp) : State :=
  s.sendChildren d g o (chunkBody g o.seq ckGrant 0 0 0 0 0 o.granted [])

/-- A RECEIPT to the parent. -/
def State.sendReceipt (s : State) (d : Nat) (g : Group) (seq : Word) (finished : Bool) (low : Nat) : State :=
  s.sendParent d g (chunkBody g seq ckReceipt 0 0 0 0 0 (b2n finished * 2 ^ 31 + low) [])

/-- A RESEND for a chunk, to an endpoint that stands for a member; counted the first time (R466, R467, R474). -/
def State.askResend (s : State) (d e m k gen : Nat) : State :=
  match s.collOp d e with
  | none => s
  | some (g, o) =>
    let s := if o.asked.contains (m, k, gen) then s else
      (s.onOp d e fun o => { o with asked := (m, k, gen) :: o.asked }).count (collPage d) Ctr.collectiveResendsRequested
    s.sendChunk d g (g.endpointOf m) (chunkBody g o.seq ckResend gen 0 k 0 0 0 [])

/-- A GROUP_EVENT entry (R479). -/
def State.groupEvent (s : State) (d : Nat) (g : Group) (event : Nat) (seq : Word) (endpoint chunk : Nat) : State :=
  s.arrive d g.owner 7 (bodyOf [(4, 2, g.id), (6, 2, g.gen), (8, 1, event), (12, 4, seq.toNat), (16, 4, endpoint),
    (20, 2, chunk), (24, 8, (s.time d).toNat)])

/-! ### The end of an operation (R477, R478) -/

/-- A member's operation ends: its descriptor completes, or under EARLY the FINISHED event is written and its log entries
are freed. -/
def State.endColl (s : State) (d e status detail r0 r1 : Nat) : State :=
  match s.collOp d e with
  | none => s
  | some (g, o) =>
    let s := s.onGroup d e fun g => { g with op := none, ended := some (o.seq, o.chunkCount) }
    if o.completed then
      (s.groupEvent d g 7 o.seq 0 0).freeLog d fun x => match x.source with
        | .chunk i q _ => i == g.id && q == o.seq && !x.retracting
        | .reckoner .. => false
    else (s.finish o.fn o.q o.index status detail r0 r1).count (collPage d) Ctr.collectiveOperationsCompleted

/-- The results of an operation that ends well (R477). -/
def CollOp.results (o : CollOp) : Nat × Nat :=
  let own := o.rereduced.foldl (fun m k => match m with | none => some k | some x => some (min x k)) (none : Option Nat)
  let low := match o.finish with
    | some (st, dt) => if st = stRetractedChunk then dt else own.getD 0
    | none => own.getD 0
  (o.count, low + o.takenPart * 2 ^ 32)

/-- ABORT by the root: every member is told, and the root's own descriptor ends with a DETAIL of its own (R470, R477). -/
def State.abortRoot (s : State) (d e status detail own : Nat) : State :=
  match s.collOp d e with
  | none => s
  | some (g, o) =>
    (s.sendAll d g (chunkBody g o.seq ckAbort 0 0 0 0 0 (detail * 65536 + status) [])).endColl d e status own 0 0

/-- Details of R477. -/
def gtMemberTimeout : Nat := 1
def gtParentTimeout : Nat := 2
def gtAborted : Nat := 3
def gtReformed : Nat := 4
def gtStale : Nat := 5

/-- REPLAY_LOST at the root (R476). -/
def State.replayLost (s : State) (d e detail k : Nat) : State :=
  match s.collOp d e with
  | none => s
  | some (g, o) =>
    (((s.groupEvent d g 4 o.seq 0 k).count (collPage d) Ctr.collectiveReplayLost).raise (collPage d) 8).abortRoot d e
      stReplayLost detail detail

/-- What the root does about causes 3 to 7 of R473 (R470, R473, R476); `self` when it found the cause itself. -/
def State.rootCause (s : State) (d e k cause endpoint : Nat) (self : Bool) : State :=
  match s.collOp d e with
  | none => s
  | some (g, o) =>
    if cause = 3 then s.replayLost d e 1 k
    else if cause = 4 then
      (s.groupEvent d g 1 o.seq endpoint k).abortRoot d e stGroupTimeout gtAborted (if self then gtMemberTimeout else gtAborted)
    else if cause = 5 then (s.groupEvent d g 5 o.seq endpoint k).abortRoot d e stGroupTimeout gtAborted gtAborted
    else
      s.abortRoot d e (if cause = 6 then stPoisoned else stTallyFailed) dtRemote (if self then dtLocal else dtRemote)

/-- FAILURE sent by a member that is not the root, and kept for its repeats (R465, R473). -/
def State.sendFailure (s : State) (d e k gen cause endpoint : Nat) : State :=
  match s.collOp d e with
  | none => s
  | some (g, o) =>
    let f := (k, gen, cause, endpoint)
    (s.onOp d e fun o => { o with failures := if o.failures.contains f then o.failures else o.failures ++ [f] }).sendRoot d g
      (chunkBody g o.seq ckFailure gen 0 k 0 0 (endpoint * 256 + cause) [])

/-! ### Work on chunks, which may halt -/

/-- Why work on a chunk does not go on: the operation has gone, a page key has faulted, the member's descriptor ends, or
a cause of R473 was found on a chunk. -/
inductive CollStop where
  | gone
  | fault (key : Nat)
  | ends (status detail : Nat)
  | cause (k cause : Nat)
  deriving DecidableEq, Repr

/-- Work of the collective engine. -/
abbrev CM := ExceptT CollStop (StateM State)

/-- The operation of a group-list entry. -/
def cmOp (d e : Nat) : CM (Group × CollOp) := do
  match (← get).collOp d e with
  | some x => pure x
  | none => throw .gone

/-- A chunk in the operation's window. -/
def cmChunk (d e k : Nat) : CM Chunk := do
  match (← cmOp d e).2.chunk? k with
  | some c => pure c
  | none => throw .gone

/-- An access of engine 7 (R336, R352). -/
def cmAccess (d f : Nat) (isWrite : Bool) (poison tally : CollStop) (act : State → MemOut × State) : CM (List Byte) := do
  match ← modifyGet act with
  | .ok bs => pure bs
  | .fault k off =>
    modify fun s => s.fault d 7 f off k isWrite none s.now
    throw (.fault (off / 2 ^ 25))
  | .denied => throw (.ends stAccessDenied dtLocal)
  | .poisoned => throw poison
  | .tallyFailed => throw tally

/-- An address on the member's own die (R445). -/
def cmOwn (d : Nat) (a : Word64) : CM Unit := do
  let s ← get
  if s.hasEndpoint d && gaEndpoint a == s.endpoint d then pure () else throw (.ends stAccessDenied dtLocal)

/-- A read and a write at a global address of the die. -/
def cmRead (d f : Nat) (a : Word64) (n : Nat) (poison tally : CollStop) : CM (List Byte) := do
  if n = 0 then pure [] else
  cmOwn d a
  cmAccess d f false poison tally fun s => s.read d 7 f (gaOffset a) n
def cmWrite (d f : Nat) (a : Word64) (bs : List Byte) : CM Unit := do
  if bs.isEmpty then pure () else
  cmOwn d a
  let _ ← cmAccess d f true (.ends stPoisoned dtLocal) (.ends stTallyFailed dtLocal) fun s => s.write d 7 f (gaOffset a) bs

/-- A part's row written to, and read from, the replay window (R460). -/
def cmStorePart (d : Nat) (o : CollOp) (k part r : Nat) (fs : List Frame) : CM Unit := do
  cmWrite d o.fn (o.replay + BitVec.ofNat 64 (o.rowAt k part r)) (frameBytes fs)
  cmWrite d o.fn (o.replay + BitVec.ofNat 64 (o.mapAt k part r)) (classMap fs)
def cmLoadPart (d : Nat) (o : CollOp) (k part r : Nat) : CM (List Frame) := do
  let lost : CollStop := .cause k 3
  let bs ← cmRead d o.fn (o.replay + BitVec.ofNat 64 (o.rowAt k part r)) 10240 lost lost
  let m ← cmRead d o.fn (o.replay + BitVec.ofNat 64 (o.mapAt k part r)) 64 lost lost
  pure (framesOf bs m)

/-- A part's row held: added into the accumulation slot, counted, and a failed check captured (R455, R456). True where the
check fails. -/
def State.addPart (s : State) (d e k part r : Nat) (fs : List Frame) (glitch : BitVec 320) : Bool × State :=
  match s.collOp d e with
  | none => (false, s)
  | some (g, o) =>
    match o.chunk? k with
    | none => (false, s)
    | some c =>
      let x := c.addPart part r fs glitch
      let s := s.onChunk d e k fun _ => x.1
      let s := if x.2.1 then s.count (collPage d) Ctr.collectiveRowsAdded else s
      if x.2.2 then (false, s)
      else
        let s := (s.count (collPage d) Ctr.collectiveCastOutMismatches).raise (collPage d) 1
        (true, s.errorWords (collPage d) 0x0100
          [g.id + k * 65536 + o.seq.toNat * 2 ^ 32, r + 2 * 512])

/-- The member's own part of a granted chunk (R461, step 2). -/
def cmBegin (d e k : Nat) : CM Unit := do
  let (_, o) ← cmOp d e
  let c ← cmChunk d e k
  if c.own then pure () else
  let w := collWidth o.inType
  let n := o.chunkLen k
  let bs ← cmRead d o.fn (o.src + BitVec.ofNat 64 (k * o.size * w / 8)) (n * w / 8) (.cause k 6) (.cause k 7)
  let sc ← if isMx o.inType then cmRead d o.fn (o.srcScale + BitVec.ofNat 64 (k * o.size / 32)) (n / 32) (.cause k 6) (.cause k 7)
    else pure []
  for r in List.range (o.rows k) do
    let m := o.rowLen k r
    let fs := rowFrames o.inType (slice bs (r * 32 * w) (m * w / 8)) (slice sc (r * 8) (m / 32)) m
    cmStorePart d o k 0 r fs
    modify fun s => (s.addPart d e k 0 r fs 0).2
  modify fun s => (s.onChunk d e k fun c => { c with own := true }).count (collPage d) Ctr.collectiveElementsConverted n

/-- A row sent up as FRAMES, in one packet or in two halves (R458). -/
def State.sendRow (s : State) (d : Nat) (g : Group) (o : CollOp) (k gen r : Nat) (fs : List Frame) : State :=
  let (w, p) := rowWindow fs
  let sp := fs.any fun f => f.cls != 0
  let one (s : State) (half : Nat) (l : List Frame) : State :=
    s.sendParent d g (chunkBody g o.seq ckFrames gen (b2n sp * 2 + half) k r (w * 16 + p * 2) 0
      (windowBytes w p l ++ if sp then classMap l else []))
  let s := if 8 * w * 256 + b2n sp * 64 ≤ 8192 then one s 0 fs else one (one s 0 (fs.take 128)) 1 (fs.drop 128)
  s.count (collPage d) Ctr.collectiveRowsSent

/-- Blocks that a write of `n` bytes at a global address touches. -/
def blocksAt (a : Word64) (n : Nat) : List Word64 :=
  (List.range (ceilDiv (a.toNat % 4096 + n) 4096)).map fun i => BitVec.ofNat 64 (a.toNat / 4096 * 4096 + 4096 * i)

/-- Output blocks written: kept for a retraction, and logged under EARLY (R475, R478). -/
def State.noteOutput (s : State) (d e k : Nat) (a : Word64) (n : Nat) : State :=
  (blocksAt a n).foldl (fun s b =>
    match s.collOp d e with
    | none => s
    | some (g, o) =>
      match o.chunk? k with
      | none => s
      | some c =>
        if c.written.contains b then s else
        let s := s.onChunk d e k fun c => { c with written := c.written ++ [b] }
        if !o.early then s else
        let r := s.logBlock d b g.owner (s.endpoint d) (.chunk g.id o.seq k) c.gen
        if r.1 then r.2 else r.2.onOp d e fun o => { o with unlogged := true }) s

/-- Output written to the destination at an offset of a chunk's stream of element bytes and then scale bytes (R463, R464). -/
def cmOutput (d e k off : Nat) (bs : List Byte) : CM Unit := do
  let (_, o) ← cmOp d e
  let n := o.elemBytes k
  let x := bs.take (n - off)
  let y := bs.drop (n - off)
  let a := o.dst + BitVec.ofNat 64 (if o.broadcast then k * 65536 + off else k * o.size * collWidth o.outType / 8 + off)
  let b := o.dstScale + BitVec.ofNat 64 (k * o.size / 32 + (off - n))
  cmWrite d o.fn a x
  cmWrite d o.fn b y
  modify fun s =>
    let s := if x.isEmpty then s else s.noteOutput d e k a x.length
    if y.isEmpty then s else s.noteOutput d e k b y.length

/-- A complete row sent up, or rounded and written at the root (R461, steps 4 and 5). -/
def cmRow (d e k r : Nat) : CM Unit := do
  let (g, o) ← cmOp d e
  let c ← cmChunk d e k
  if !c.wanted || c.sent.contains r || c.bad.contains r || !c.complete o.children.length r then pure () else
  match FMap.get? c.acc r with
  | none => pure ()
  | some fs =>
    if g.isRoot then
      let x := rowOutput o.outType fs (o.rowLen k r)
      cmOutput d e k (r * 256 * collWidth o.outType / 8) x.1
      cmOutput d e k (o.elemBytes k + r * 8) x.2.1
      modify fun s =>
        ((s.onChunk d e k fun c => { c with sent := r :: c.sent, outputs := FMap.set c.outputs r (x.1, x.2.1) }).count
          (collPage d) Ctr.collectiveOutputSaturations x.2.2.1).count (collPage d) Ctr.collectiveOutputSpecials x.2.2.2
    else
      modify fun s => (s.sendRow d g o k c.gen r fs).onChunk d e k fun c => { c with sent := r :: c.sent }

/-- The stream of a chunk that a root sends as DATA (R458): its output, or its source read again (R464). -/
def cmStream (d e k : Nat) : CM (List Byte) := do
  let (_, o) ← cmOp d e
  if o.broadcast then
    cmRead d o.fn (o.src + BitVec.ofNat 64 (k * 65536)) (o.chunkLen k) (.cause k 6) (.cause k 7)
  else
    let c ← cmChunk d e k
    pure ((c.outputs.flatMap fun x => x.2.1) ++ c.outputs.flatMap fun x => x.2.2)

/-- A chunk sent as DATA through the whole tree. -/
def cmSendData (d e k gen : Nat) : CM Unit := do
  let (g, o) ← cmOp d e
  let bs ← cmStream d e k
  modify fun s => (pieces 8192 bs).zipIdx.foldl (fun s x => s.sendAll d g (chunkBody g o.seq ckData gen 0 k x.2 0 0 x.1)) s

/-- The root commits a chunk of which every row is written (R461, step 6). -/
def cmCommit (d e k : Nat) : CM Unit := do
  let (_, o) ← cmOp d e
  let c ← cmChunk d e k
  if c.committed || c.sent.length != o.rows k then pure () else
  modify fun s => s.onChunk d e k fun c => { c with committed := true }
  if o.distribute then cmSendData d e k c.gen else pure ()

/-- Everything that can be done now for the chunks in the window. -/
def cmChunks (d e : Nat) : CM Unit := do
  let (g, o) ← cmOp d e
  for c in o.chunks do
    cmBegin d e c.k
    for r in List.range (o.rows c.k) do cmRow d e c.k r
    if g.isRoot then cmCommit d e c.k else pure ()

/-- The chunks that a grant covers enter the window, and those whose replay slot they take leave it (R462). -/
def CollOp.grantTo (o : CollOp) (n : Nat) : CollOp :=
  let n := min n o.chunkCount
  { o with granted := n, base := n - 2
           chunks := (o.chunks ++ ((List.range (n - o.granted)).map fun j => ({ k := o.granted + j } : Chunk))).filter
             fun c => decide (n - 2 ≤ c.k) }

/-- How many chunks a root may grant: two more than are committed and, under DISTRIBUTE, held by every subtree (R462). -/
def CollOp.rootGrant (o : CollOp) : Nat :=
  let done (k : Nat) : Bool :=
    (match o.chunk? k with | some c => c.committed | none => false) &&
      (!o.distribute || (match o.receipts with | some m => decide (k < m) | none => false))
  let k := (List.range (o.chunkCount - o.base)).find? fun j => !done (o.base + j)
  o.base + k.getD (o.chunkCount - o.base) + 2

/-- A chunk moves to a new generation at a member (R474, R475): what belongs to the old one goes, and rows are sent again
only when they are wanted. -/
def CollOp.advance (o : CollOp) (k gen : Nat) (poisoned : List Word64) : CollOp :=
  let old := ((o.chunk? k).map Chunk.gen).getD gen
  let o := o.onChunk k fun c => { c with
    gen := gen, bad := [], halves := [], sent := [], outputs := [], committed := false, wanted := false, data := []
    written := [], poisoned := c.poisoned ++ poisoned }
  { o with
    rereduced := if o.rereduced.contains k then o.rereduced else o.rereduced ++ [k]
    takenPart := o.takenPart + (gen - old)
    failures := o.failures.filter fun f => f.1 != k || decide (gen ≤ f.2.1) }

/-- The rows of a part of a chunk read back from the replay window; none for a child's part that is not whole or not
readable (R474). -/
def cmPart (d e k part : Nat) : CM (Option (List (List Frame))) := do
  let (_, o) ← cmOp d e
  let c ← cmChunk d e k
  if !(List.range (o.rows k)).all fun r => c.added.contains (partRow part r) then pure none
  else if part = 0 then
    let l ← (List.range (o.rows k)).mapM (cmLoadPart d o k 0)
    pure (some l)
  else
    tryCatch (do let l ← (List.range (o.rows k)).mapM (cmLoadPart d o k part); pure (some l)) fun x =>
      match x with
      | .cause _ 3 => pure none
      | y => throw y

/-- A chunk re-formed under a generation from the replay slot, with a RESEND to each child whose part is missing or
unreadable (R474). -/
def cmReform (d e k gen : Nat) : CM Unit := do
  let (_, o) ← cmOp d e
  let _ ← cmChunk d e k
  let parts ← (List.range (o.children.length + 1)).mapM fun p => do pure (p, ← cmPart d e k p)
  modify fun s =>
    let s := s.onOp d e fun o => (o.advance k gen []).onChunk k fun c => { c with wanted := true, acc := [], added := [] }
    let s := parts.foldl (fun s x =>
      match x.2 with
      | some rows => rows.zipIdx.foldl (fun s y => (s.addPart d e k x.1 y.2 y.1 0).2) s
      | none =>
        match o.children[x.1 - 1]? with
        | some c => if x.1 = 0 then s else s.askResend d e c.member k gen
        | none => s) s
    (s.onOp d e fun o => { o with reforms := o.reforms.erase (k, gen) }).count (collPage d) Ctr.collectiveRereductions

/-- Every row of a chunk that has been sent, sent again from the replay slot (R466). -/
def cmResend (d e k : Nat) : CM Unit := do
  let (g, o) ← cmOp d e
  let c ← cmChunk d e k
  for r in c.sent.reverse do
    let own ← cmLoadPart d o k 0 r
    let parts ← (List.range o.children.length).mapM fun j => cmLoadPart d o k (j + 1) r
    let fs := parts.foldl (fun a b => (addRow a b 0).1) own
    modify fun s => (s.count (collPage d) Ctr.collectiveRowsAdded parts.length).sendRow d g o k c.gen r fs
  modify fun s => s.count (collPage d) Ctr.collectiveResendsServed

/-- The work of one operation, as far as it goes without a packet: chunks, and at the root of a REDUCE the grants that
follow from them. -/
def cmPump (d e : Nat) : Nat → CM Unit
  | 0 => pure ()
  | fuel + 1 => do
    let (g, o) ← cmOp d e
    if o.broadcast then
      if !g.isRoot then pure () else
      match o.receipts with
      | none => pure ()
      | some m =>
        let n := min (m + 2) o.chunkCount
        for j in List.range (n - o.granted) do
          cmSendData d e (o.granted + j) 0
          modify fun s => s.onOp d e fun x => { x with granted := o.granted + j + 1 }
    else do
      for x in o.reforms do cmReform d e x.1 x.2
      cmChunks d e
      let (g, o) ← cmOp d e
      if g.isRoot && decide (o.granted < min o.rootGrant o.chunkCount) then do
        modify fun s =>
          let s := s.onOp d e fun o => o.grantTo o.rootGrant
          match s.collOp d e with
          | some (g, o) => s.sendGrants d g o
          | none => s
        cmPump d e fuel
      else pure ()

/-- What follows from how a piece of work ended (R352, R473). -/
def State.settleColl (d e : Nat) : Except CollStop Unit × State → State
  | (.ok _, s) => s
  | (.error .gone, s) => s
  | (.error (.fault key), s) => s.onOp d e fun o => { o with paused := some key }
  | (.error (.ends st dt), s) => s.endColl d e st dt 0 0
  | (.error (.cause k c), s) =>
    match s.collOp d e with
    | none => s
    | some (g, o) =>
      let gen := ((o.chunk? k).map Chunk.gen).getD 0
      if g.isRoot then s.rootCause d e k c (s.endpoint d) true else s.sendFailure d e k gen c (s.endpoint d)

/-- A piece of work done, where no fault holds the operation. -/
def State.runColl (s : State) (d e : Nat) (act : CM Unit) : State :=
  match s.collOp d e with
  | none => s
  | some (_, o) => if o.paused.isSome then s else State.settleColl d e (act.run s)

/-- Completion under EARLY (R478): a member that writes output completes once it has written every chunk. -/
def State.earlyEnd (s : State) (d e : Nat) : State :=
  match s.collOp d e with
  | none => s
  | some (g, o) =>
    let done := if g.isRoot then
        o.granted == o.chunkCount && o.chunks.all Chunk.committed
      else o.holds false == o.chunkCount
    if o.early && !o.unlogged && !o.completed && !o.broadcast && o.writes g.isRoot && done then
      let low := maxOf (o.rereduced.map fun k => o.chunkCount - k)
      let st := if o.rereduced.isEmpty then stSuccess else stRetractedChunk
      let dt := if o.rereduced.isEmpty then 0 else o.chunkCount - low
      let r := o.results
      ((s.onOp d e fun o => { o with completed := true }).finish o.fn o.q o.index st dt r.1
        (if o.rereduced.isEmpty then 0 else dt + o.takenPart * 2 ^ 32)).count (collPage d) Ctr.collectiveOperationsCompleted
    else s

/-- RECEIPTs, FINISH and completion, as far as they follow (R463, R477). -/
def State.settleEnd (s : State) (d e : Nat) : State :=
  let s := s.earlyEnd d e
  match s.collOp d e with
  | none => s
  | some (g, o) =>
    if g.isRoot then
      let all := match o.receipts with | some m => decide (o.chunkCount ≤ m) | none => false
      let ready := if o.broadcast then o.granted == o.chunkCount && all
        else o.granted == o.chunkCount && o.chunks.all Chunk.committed && (!o.distribute || all)
      match o.finish with
      | none =>
        if !ready then s else
        let low := o.chunkCount - maxOf (o.rereduced.map fun k => o.chunkCount - k)
        let fin := if o.rereduced.isEmpty then (stSuccess, 0) else (stRetractedChunk, low)
        let s := (s.onOp d e fun o => { o with finish := some fin, retracts := [] }).sendAll d g
          (chunkBody g o.seq ckFinish 0 0 0 0 0 (fin.2 * 65536 + fin.1) [])
        let r := { o with finish := some fin }.results
        if o.allFinished then s.endColl d e fin.1 fin.2 r.1 r.2 else s
      | some fin => if o.allFinished then s.endColl d e fin.1 fin.2 o.results.1 o.results.2 else s
    else
      match o.receipts with
      | none => s
      | some m =>
        let low := min m (o.holds false)
        match o.finish with
        | some fin =>
          if o.allFinished then (s.sendReceipt d g o.seq true low).endColl d e fin.1 fin.2 o.results.1 o.results.2 else s
        | none =>
          if o.receipt == some (false, low) then s
          else (s.onOp d e fun o => { o with receipt := some (false, low) }).sendReceipt d g o.seq false low

/-- An operation taken as far as it goes. -/
def State.pumpColl (s : State) (d e : Nat) : State :=
  match s.collOp d e with
  | none => s
  | some (_, o) => (s.runColl d e (cmPump d e (o.chunkCount + 2))).settleEnd d e

end Sys2Proof.Machine
end

