-- ==== Sys2Proof/Machine/Collective.lean ====
section
/-!
DEFINITION. The commands of the collective engine (R443 to R478): REDUCE and BROADCAST, chunk packets, timers, retraction,
re-form and removal of groups.
-/

namespace Sys2Proof.Machine

/-! ### Beginning an operation (R445 to R448) -/

/-- The group of a collective descriptor on the member. -/
def State.collGroup (s : State) (die : Nat) (d : List Byte) : Option (Nat × Group) := s.groupOf die (dTarget d % 65536)

/-- Form of a REDUCE or BROADCAST descriptor before its argument block is read (R112, R445, R447). -/
def State.formColl (s : State) (f die : Nat) (d : List Byte) : Option Nat :=
  let bc := dOpcode d == 0x29
  let w := le d 0x30 4
  let it := bits w 3 0
  let ot := bits w 7 4
  let dist := bit w 8
  let bad (need : Bool) (a : Word64) : Bool := need == (a == 0)
  let e := s.collGroup die d
  let root := (e.map fun x => x.2.isRoot).getD false
  let types := if bc then bits w 8 0 != 0
    else decide (10 < it) || decide (10 < ot) || (isInt it != isInt ot)
  let unit := if isMx it || isMx ot then 32 else 1
  let n := dLength d * 8 / collWidth it
  firstOffence [headForm d (!bc) 0x80000000 false,
    offence (bits (dTarget d) 17 16 != 0 || (match e with | some x => x.2.owner != f | none => true)) 4,
    offence (bad (!bc || root) (dSrc d)) 8, offence (bad (if bc then !root else root || dist) (dDst d)) 0x10,
    offence (!bc && !types && (dLength d * 8 % collWidth it != 0 || n % unit != 0)) 0x18,
    offence (dOperand d == 0) 0x20, offence (types || bits w 31 9 != 0) 0x30, offence (le d 0x36 2 != 0) 0x34,
    offence (le d 0x3C 4 != 0) 0x3C]

/-- Whether a descriptor waits to begin: 16 operations run on the die, or one of its own group (R448). -/
def State.collWaits (s : State) (die : Nat) (d : List Byte) : Bool :=
  decide (16 ≤ ((s.die die).groups.filter fun g => g.2.op.isSome).length) ||
  (match s.collGroup die d with | some x => x.2.op.isSome | none => false)

/-- Whether the whole replay range is mapped with tier HBM (R447). -/
def State.mappedHbm (s : State) (d f off n : Nat) : Bool :=
  decide (off + n ≤ 2 ^ 46) &&
  (List.range ((off + n + 2 ^ 25 - 1) / 2 ^ 25 - off / 2 ^ 25)).all fun i =>
    match (s.walk d f (max off ((off / 2 ^ 25 + i) * 2 ^ 25)) true).1 with
    | .found t => t.tier == 0
    | _ => false

/-- A descriptor found malformed by its argument block: it has not begun, and its queue stops (R127, R447). -/
def State.malformedAt (s : State) (f q : Nat) (i : Word) (o : Nat) : State :=
  let s := { s with execs := s.execs.filter fun e => !e.is f q i }
  (s.onQueue f q fun x => { x with next := i }).stopQueue f q causeMalformed o i

/-- The operation of a descriptor, with its argument block. -/
def collOpOf (f q : Nat) (i : Word) (d : List Byte) (g : Group) (args : List Byte) : CollOp :=
  let w := le d 0x30 4
  { fn := f, q := q, index := i, broadcast := dOpcode d == 0x29, src := dSrc d, dst := dDst d, length := dLength d
    inType := bits w 3 0, outType := bits w 7 4, distribute := bit w 8, early := dEarly d, seq := BitVec.ofNat 32 (le d 0x38 4)
    srcScale := BitVec.ofNat 64 (le args 0 8), dstScale := BitVec.ofNat 64 (le args 8 8)
    replay := BitVec.ofNat 64 (le args 0x10 8)
    children := (childrenOf g.table g.root g.member).map fun m => { member := m, endpoint := g.endpointOf m } }

/-- Whether the argument block offends (R445, R447). -/
def CollOp.badArgs (o : CollOp) (root : Bool) (args : List Byte) : Bool :=
  let bad (need : Bool) (a : Word64) : Bool := need == (a == 0)
  bad (!o.broadcast && isMx o.inType) o.srcScale || bad (!o.broadcast && isMx o.outType && o.writes root) o.dstScale ||
  bad (!o.broadcast) o.replay || o.replay.toNat % 4096 != 0 || le args 0x18 8 != 0

/-- A collective descriptor in execution reads its argument block and begins its operation (R445, R447, R448, R462). -/
def State.beginColl (s : State) (f q : Nat) (i : Word) (d : List Byte) : State :=
  match s.queue f q with
  | none => s
  | some x =>
    let die := x.owner
    match s.collGroup die d with
    | none => s.malformedAt f q i 4
    | some (e, g) =>
      let a := dOperand d
      if !s.hasEndpoint die || gaEndpoint a != s.endpoint die then s.finish f q i stAccessDenied dtLocal 0 0 else
      match s.read die 7 f (gaOffset a) 32 with
      | (.fault k off, s) =>
        (s.fault die 7 f off k false none s.now).onExec f q i fun y => { y with paused := some (die, off / 2 ^ 25) }
      | (.denied, s) => s.finish f q i stAccessDenied dtLocal 0 0
      | (.poisoned, s) => s.finish f q i stPoisoned dtLocal 0 0
      | (.tallyFailed, s) => s.finish f q i stTallyFailed dtLocal 0 0
      | (.ok args, s) =>
        let o := collOpOf f q i d g args
        if o.badArgs g.isRoot args then s.malformedAt f q i 0x20
        else if le d 0x34 2 != g.gen then s.finish f q i stGroupTimeout gtStale 0 0
        else if o.seq != g.nextOp then s.finish f q i stInvalidArgument 0 0 0
        else if !o.broadcast && !(gaEndpoint o.replay == s.endpoint die && s.mappedHbm die f (gaOffset o.replay) o.replayLen) then
          s.finish f q i stAccessDenied dtLocal 0 0
        else
          let o := if g.isRoot && !o.broadcast then o.grantTo 2 else o
          let s := s.onGroup die e fun g => { g with op := some o, nextOp := g.nextOp + 1 }
          let s := if g.isRoot && !o.broadcast then s.sendGrants die g o else s
          s.pumpColl die e

/-! ### Packets (R457 to R459) -/

/-- Whether a packet's SENDER stands in the relation that its kind requires (R457, R459). -/
def Group.senderOk (g : Group) (o : CollOp) (h : ChunkIn) (replicated : Bool) : Bool :=
  let child := o.children.any fun c => c.member == h.sender
  let parent := !g.isRoot && h.sender == g.parentOf
  let root := !g.isRoot && h.sender == g.root
  if h.kind = ckData ∨ h.kind = ckRetract ∨ h.kind = ckFinish then root
  else if h.kind = ckFrames ∨ h.kind = ckReceipt then child
  else if h.kind = ckGrant then parent
  else if h.kind = ckResend then (if g.isRoot then h.sender != g.member && decide (h.sender < g.table.length) else parent)
  else if h.kind = ckFailure then g.isRoot && h.sender != g.member && decide (h.sender < g.table.length)
  else if replicated then root else parent

/-- Whether a kind concerns a chunk at a generation. -/
def chunkKind (k : Nat) : Bool := k == ckData || k == ckFrames || k == ckResend || k == ckFailure || k == ckRetract

/-- A chunk packet taken at the local port: dropped as stale (R459), or acted on. -/
def State.chunkPacket (s : State) (d : Nat) (p : Packet) (kind : Nat)
    (act : State → Nat → Group → CollOp → ChunkIn → State) : State :=
  let s := s.takeLocal d p
  let stale := s.count (collPage d) Ctr.collectiveStaleDrops
  match chunkIn p.body with
  | none => stale
  | some h =>
    if h.kind ≠ kind then s else
    match s.groupOf d h.group with
    | none => stale
    | some (e, g) =>
      match g.op with
      | none =>
        if kind = ckFinish && h.ggen == g.gen && !g.isRoot && h.sender == g.root && (g.ended.map Prod.fst) == some h.seq then
          s.sendReceipt d g h.seq true ((g.ended.map Prod.snd).getD 0)
        else stale
      | some o =>
        let gen := ((o.chunk? h.chunk).map Chunk.gen).getD 0
        if h.ggen ≠ g.gen ∨ h.seq ≠ o.seq ∨ !g.senderOk o h p.replicate ∨ (chunkKind kind ∧ h.gen < gen) then stale
        else act s e g o h

/-- The root has learned of cause CAST_OUT or TALLY for a chunk at its present generation (R474, R476). -/
def State.retractRoot (s : State) (d e k : Nat) : State :=
  match s.collOp d e with
  | none => s
  | some (g, o) =>
    match o.chunk? k with
    | none => s
    | some c =>
      if c.gen = 3 then s.replayLost d e 2 k
      else
        let s := (s.groupEvent d g 3 o.seq 0 k).sendAll d g (chunkBody g o.seq ckRetract c.gen 0 k 0 0 0 [])
        let s := (s.count (collPage d) Ctr.collectiveRetractions).raise (collPage d) 4
        let s := if !o.early then s else s.retract d fun x => match x.source with
          | .chunk i q j => i == g.id && q == o.seq && j == k && x.gen == c.gen
          | .reckoner .. => false
        (s.onOp d e fun o => { (o.onChunk k fun c => { c with wanted := false, committed := false }) with
          retracts := o.retracts ++ [(k, c.gen)], reforms := o.reforms ++ [(k, c.gen + 1)] }).pumpColl d e

/-- Cause CAST_OUT or TALLY of R473 found on a chunk by a die: a RESEND for a BROADCAST, a FAILURE for a REDUCE. -/
def State.chunkFailed (s : State) (d e k cause : Nat) : State :=
  match s.collOp d e with
  | none => s
  | some (g, o) =>
    if o.broadcast then s.askResend d e g.root k 0
    else if g.isRoot then s.retractRoot d e k
    else s.sendFailure d e k (((o.chunk? k).map Chunk.gen).getD 0) cause (s.endpoint d)

/-- A failed tally that a router found in a replicated chunk (R287). -/
def State.routerTally (s : State) (d : Nat) (p : Packet) : State :=
  match chunkIn p.body with
  | none => s
  | some h =>
    match s.groupOf d h.group with
    | none => s
    | some (e, g) =>
      match g.op with
      | none => s
      | some o =>
        if h.ggen != g.gen || h.seq != o.seq || g.isRoot || decide (h.gen < ((o.chunk? h.chunk).map Chunk.gen).getD 0) then s
        else (s.count (collPage d) Ctr.collectiveTallyFailures).chunkFailed d e h.chunk 2

/-- A packet held while a fault holds the operation (R352). -/
def State.holdChunk (s : State) (d e : Nat) (p : Packet) : State := s.onOp d e fun o => { o with held := o.held ++ [p] }

/-- The frames of a FRAMES packet, and whether they are a half row; none for a length that fits no form (R458). -/
def ChunkIn.frames (h : ChunkIn) : Option (List Frame × Bool) :=
  let len (n : Nat) : Nat := 8 * h.width * n + b2n h.specials * (n / 4)
  if 5 < h.width ∨ (h.width = 0 ∧ h.pos ≠ 0) ∨ (0 < h.width ∧ 5 - h.width < h.pos) then none
  else if h.payload.length = len 256 then
    (if h.half then none else some (windowFrames h.width h.pos 256 h.specials h.payload, false))
  else if h.payload.length = len 128 then some (windowFrames h.width h.pos 128 h.specials h.payload, true)
  else none

/-- A child's whole row of a chunk written to its part and added (R461, step 3). -/
def State.acceptRow (s : State) (d e : Nat) (p : Packet) (k part r : Nat) (fs : List Frame) (glitch : BitVec 320) : State :=
  match s.collOp d e with
  | none => s
  | some (_, o) =>
    match (cmStorePart d o k part r fs).run s with
    | (.ok _, s) =>
      let x := (s.count (collPage d) Ctr.collectiveRowsReceived).addPart d e k part r fs glitch
      if x.1 then x.2.chunkFailed d e k 1 else x.2.pumpColl d e
    | (.error (.fault key), s) => (s.onOp d e fun o => { o with paused := some key }).holdChunk d e p
    | r => State.settleColl d e r

/-- What a member does with a child's FRAMES packet (R458, R461). -/
def State.framesIn (s : State) (d e : Nat) (p : Packet) (glitch : BitVec 320) (o : CollOp) (h : ChunkIn) : State :=
  let stale := s.count (collPage d) Ctr.collectiveStaleDrops
  match o.chunk? h.chunk with
  | none => stale
  | some c =>
    let part := (o.children.map ChildState.member).idxOf h.sender + 1
    let key := partRow part h.row
    let dup := s.count (collPage d) Ctr.collectiveDuplicatesDropped
    if o.broadcast || c.gen < h.gen || decide (o.rows h.chunk ≤ h.row) then stale
    else if o.paused.isSome then s.holdChunk d e p
    else if !h.good then (s.count (collPage d) Ctr.collectiveTallyFailures).chunkFailed d e h.chunk 2
    else if c.added.contains key then dup
    else
      match h.frames with
      | none => stale
      | some (fs, false) => s.acceptRow d e p h.chunk part h.row fs glitch
      | some (fs, true) =>
        match c.halves.find? fun x => x.1 == key with
        | none => s.onChunk d e h.chunk fun c => { c with halves := c.halves ++ [(key, h.half, fs)] }
        | some x =>
          if x.2.1 == h.half then dup
          else s.acceptRow d e p h.chunk part h.row (if h.half then x.2.2 ++ fs else fs ++ x.2.2) glitch

/-- FRAMES (R458, R461): `glitch` is what a faulty adder flips in the sum of the row's first element. -/
def execFrames (d : Nat) (p : Packet) (glitch : BitVec 320) (s : State) : Result :=
  atDie s d <| s.chunkPacket d p ckFrames fun s e _ o h => s.framesIn d e p glitch o h

/-- The poison bits of output blocks of a function, set by a retraction or cleared by the write that replaces them (R475). -/
def State.poisonBlocks (s : State) (d f : Nat) (l : List Word64) (v : Bool) : State :=
  l.foldl (fun s a =>
    match s.translate d 7 f (gaOffset a) true with
    | (.found t, s) =>
      let pa := t.pa (gaOffset a)
      let s' := s.setPoison d pa v
      if v && !s.poisoned d pa then s'.count (integrityFnPage d f) Ctr.integrityFnBlocksPoisoned else s'
    | (_, s) => s) s

/-- The chunks of a BROADCAST that a member holds whole leave its list. -/
def CollOp.dropHeld (o : CollOp) : CollOp :=
  if !o.broadcast then o else
  let n := o.holds false
  { o with base := n, chunks := o.chunks.filter fun c => decide (n ≤ c.k) }

/-- A chunk whose DATA is whole: the blocks that a retraction poisoned are good again (R475). -/
def State.dataWhole (s : State) (d e k : Nat) : State :=
  match s.collOp d e with
  | none => s
  | some (_, o) =>
    match o.chunk? k with
    | none => s
    | some c =>
      if c.data.length != o.packets k then s
      else
        ((s.poisonBlocks d o.fn c.poisoned false).onChunk d e k fun c => { c with poisoned := [] }).onOp d e CollOp.dropHeld

/-- What a member does with a DATA packet (R459, R463, R464, R467). -/
def State.dataIn (s : State) (d e : Nat) (p : Packet) (g : Group) (o : CollOp) (h : ChunkIn) : State :=
  let k := h.chunk
  let dup := s.count (collPage d) Ctr.collectiveDuplicatesDropped
  let stale := s.count (collPage d) Ctr.collectiveStaleDrops
  if !o.writes false || o.chunkCount ≤ k || (!o.broadcast && o.granted ≤ k) then stale
  else if k < o.base then dup
  else if o.paused.isSome then s.holdChunk d e p
  else if !h.good then (s.count (collPage d) Ctr.collectiveTallyFailures).chunkFailed d e k 2
  else
    let o := if (o.chunk? k).isSome then o else { o with chunks := o.chunks ++ [{ k := k }] }
    let gen := ((o.chunk? k).map Chunk.gen).getD 0
    let o := if gen < h.gen then o.advance k h.gen [] else o
    let s := s.onOp d e fun _ => o
    if ((o.chunk? k).map fun c => c.data.contains h.row).getD false then dup
    else if o.packets k ≤ h.row ∨ h.payload.length ≠ min 8192 (o.elemBytes k + o.scaleBytes k - h.row * 8192) then stale
    else
      match (cmOutput d e k (h.row * 8192) h.payload).run s with
      | (.ok _, s) =>
        let s := (s.onChunk d e k fun c => { c with data := h.row :: c.data }).count (collPage d) Ctr.collectiveDataReceived
        let s := s.dataWhole d e k
        match s.collOp d e with
        | none => s
        | some (_, o) =>
          let low := o.holds false
          let lack := ((o.chunk? low).map Chunk.gen).getD 0
          let s := if low < k && !o.asked.contains (g.root, low, lack) then s.askResend d e g.root low lack else s
          s.pumpColl d e
      | (.error (.fault key), s) => (s.onOp d e fun o => { o with paused := some key }).holdChunk d e p
      | r => State.settleColl d e r

/-- DATA (R463, R464). -/
def execData (d : Nat) (p : Packet) (s : State) : Result :=
  atDie s d <| s.chunkPacket d p ckData fun s e g o h => s.dataIn d e p g o h

/-- GRANT (R461, R462): the chunks that it covers may be begun, and the children get the same grant. -/
def execGrant (d : Nat) (p : Packet) (s : State) : Result :=
  atDie s d <| s.chunkPacket d p ckGrant fun s e g o h =>
    if o.broadcast || min h.arg o.chunkCount ≤ o.granted then s else
    let o := o.grantTo h.arg
    ((s.onOp d e fun _ => o).sendGrants d g o).pumpColl d e

/-- RECEIPT (R463, R477). -/
def execReceipt (d : Nat) (p : Packet) (s : State) : Result :=
  atDie s d <| s.chunkPacket d p ckReceipt fun s e _ _ h =>
    (s.onOp d e fun o => { o with children := o.children.map fun c =>
      if c.member = h.sender then { c with receipt := some (bit h.arg 31, bits h.arg 30 0) } else c }).pumpColl d e

/-- RESEND (R466, R467, R474): rows of a child sent again, under a new generation after they are re-formed, or DATA of the
root sent again. -/
def execResend (d : Nat) (p : Packet) (s : State) : Result :=
  atDie s d <| s.chunkPacket d p ckResend fun s e g o h =>
    let served (s : State) : State := s.count (collPage d) Ctr.collectiveResendsServed
    if g.isRoot then
      let ready := if o.broadcast then decide (h.chunk < o.granted)
        else o.distribute && ((o.chunk? h.chunk).map Chunk.committed).getD false
      if ready then
        let gen := ((o.chunk? h.chunk).map Chunk.gen).getD 0
        (served s).runColl d e (cmSendData d e h.chunk gen)
      else s
    else
      match o.chunk? h.chunk with
      | none => s
      | some c =>
        if o.broadcast || !c.own then s
        else if c.gen < h.gen || !c.wanted then
          if o.reforms.contains (h.chunk, h.gen) then s else
          ((served s).onOp d e fun o => { o with reforms := o.reforms ++ [(h.chunk, h.gen)] }).pumpColl d e
        else s.runColl d e (cmResend d e h.chunk)

/-- FAILURE (R470, R473, R474, R476) at the root. -/
def execFailure (d : Nat) (p : Packet) (s : State) : Result :=
  atDie s d <| s.chunkPacket d p ckFailure fun s e g o h =>
    let cause := bits h.arg 7 0
    let ep := bits h.arg 25 8
    if cause = 1 ∨ cause = 2 then
      if o.broadcast then s.runColl d e (if h.chunk < o.granted then cmSendData d e h.chunk 0 else pure ())
      else
        match o.chunk? h.chunk with
        | none => s
        | some c => if c.gen = h.gen && !o.reforms.contains (h.chunk, h.gen + 1) then s.retractRoot d e h.chunk else s
    else if cause < 3 ∨ 7 < cause then s
    else s.rootCause d e h.chunk cause (if ep = 0 then g.endpointOf h.sender else ep) false

/-- RETRACT (R475): the chunk's output blocks are poisoned, and unsent rows of its generation are discarded. -/
def execRetract (d : Nat) (p : Packet) (s : State) : Result :=
  atDie s d <| s.chunkPacket d p ckRetract fun s e g o h =>
    match o.chunk? h.chunk with
    | none => s
    | some c =>
      if c.gen < h.gen then s else
      let s := s.poisonBlocks d o.fn c.written true
      let s := if !o.early then s else s.retract d fun x => match x.source with
        | .chunk i q j => i == g.id && q == o.seq && j == h.chunk && x.gen == h.gen
        | .reckoner .. => false
      (s.onOp d e fun o => o.advance h.chunk (h.gen + 1) c.written).settleEnd d e

/-- FINISH (R465, R477). -/
def execFinish (d : Nat) (p : Packet) (s : State) : Result :=
  atDie s d <| s.chunkPacket d p ckFinish fun s e _ _ h =>
    (s.onOp d e fun o => { o with finish := some (bits h.arg 15 0, bits h.arg 31 16) }).settleEnd d e

/-- DETAIL of an ABORT at the member that reported its cause (R470, R473, R477). -/
def CollOp.abortDetail (o : CollOp) (status detail : Nat) : Nat :=
  let reported (c : Nat) : Bool := o.failures.any fun f => f.2.2.1 == c
  if status = stGroupTimeout && reported 4 then gtMemberTimeout
  else if (status = stPoisoned && reported 6) || (status = stTallyFailed && reported 7) then dtLocal
  else detail

/-- ABORT (R469, R470, R477): the operation ends, and an ABORT of the parent is passed to the children. -/
def execChunkAbort (d : Nat) (p : Packet) (s : State) : Result :=
  atDie s d <| s.chunkPacket d p ckAbort fun s e g o h =>
    let st := bits h.arg 15 0
    let dt := bits h.arg 31 16
    let s := if p.replicate then s else s.sendChildren d g o (chunkBody g o.seq ckAbort 0 0 0 0 0 h.arg [])
    s.endColl d e st (o.abortDetail st dt) 0 0

/-! ### Timers (R465 to R469, R472) -/

/-- A timer of a group-list entry's operation. -/
def atColl (s : State) (d entry : Nat) (act : Group → CollOp → State) : Result :=
  atUnit s d (decide (entry < 4096)) <|
    match s.collOp d entry with
    | none => s
    | some (g, o) => act g o

/-- REPEAT_TIMER (R465): every packet that is repeated goes out again. -/
def execRepeatTimer (d entry : Nat) (s : State) : Result :=
  atColl s d entry fun g o =>
    let s := if o.broadcast || o.granted = 0 then s else s.sendGrants d g o
    if g.isRoot then
      let covered (k : Nat) : Bool :=
        ((o.chunk? k).map Chunk.committed).getD true && (!o.distribute || decide (k < o.receipts.getD 0))
      let l := o.retracts.filter fun x => !covered x.1
      let s := l.foldl (fun s x => s.sendAll d g (chunkBody g o.seq ckRetract x.2 0 x.1 0 0 0 [])) s
      let s := s.onOp d entry fun o => { o with retracts := l }
      match o.finish with
      | some f => s.sendAll d g (chunkBody g o.seq ckFinish 0 0 0 0 0 (f.2 * 65536 + f.1) [])
      | none => s
    else
      let s := match o.receipts with
        | some m => s.sendReceipt d g o.seq false (min m (o.holds false))
        | none => s
      o.failures.foldl (fun s f =>
        s.sendRoot d g (chunkBody g o.seq ckFailure f.2.1 0 f.1 0 0 (f.2.2.2 * 256 + f.2.2.1) [])) s

/-- Whether a member lacks rows of chunk `k` from a child's part. -/
def CollOp.lacksRows (o : CollOp) (k part : Nat) : Bool :=
  match o.chunk? k with
  | some c => (List.range (o.rows k)).any fun r => !c.added.contains (partRow part r)
  | none => false

/-- RESEND_TIMER (R466, R467): RESEND to each child whose rows of a granted chunk are lacking, and to the root for the
lowest chunk whose DATA is. -/
def execResendTimer (d entry : Nat) (s : State) : Result :=
  atColl s d entry fun g o =>
    let s := if o.broadcast then s else
      o.chunks.foldl (fun s c =>
        o.children.zipIdx.foldl (fun s x =>
          if c.wanted && o.lacksRows c.k (x.2 + 1) then s.askResend d entry x.1.member c.k c.gen else s) s) s
    let low := o.holds g.isRoot
    if !g.isRoot && o.writes false && low < o.chunkCount then
      s.askResend d entry g.root low (((o.chunk? low).map Chunk.gen).getD 0)
    else s

/-- CHILD_TIMEOUT (R468): child number `child` of the member, from 0 up, has kept it waiting for the group timeout. -/
def execChildTimeout (d entry child : Nat) (s : State) : Result :=
  atColl s d entry fun g o =>
    match o.children[child]? with
    | none => s
    | some c =>
      let rows := o.chunks.find? fun x => o.lacksRows x.k (child + 1)
      let low := (c.receipt.map Prod.snd).getD 0
      let lags := (o.writes false && decide (low < o.chunkCount)) || (o.finish.isSome && !((c.receipt.map Prod.fst).getD false)) ||
        c.receipt.isNone
      if rows.isNone && !lags then s else
      let k := (rows.map Chunk.k).getD low
      let s := (s.count (collPage d) Ctr.collectiveGroupTimeouts).raise (collPage d) 2
      if g.isRoot then s.rootCause d entry k 4 c.endpoint true
      else (s.groupEvent d g 1 o.seq c.endpoint k).sendFailure d entry k (((o.chunk? k).map Chunk.gen).getD 0) 4 c.endpoint

/-- PARENT_TIMEOUT (R469). -/
def execParentTimeout (d entry : Nat) (s : State) : Result :=
  atColl s d entry fun g o =>
    if g.isRoot then s else
    let s := (s.count (collPage d) Ctr.collectiveGroupTimeouts).raise (collPage d) 2
    let s := s.groupEvent d g 2 o.seq (g.endpointOf g.parentOf) 0
    (s.sendChildren d g o (chunkBody g o.seq ckAbort 0 0 0 0 0 (gtParentTimeout * 65536 + stGroupTimeout) [])).endColl d entry
      stGroupTimeout gtParentTimeout 0 0

/-- Whether a member is at a chunk boundary (R472). -/
def CollOp.atBoundary (o : CollOp) (root : Bool) : Bool :=
  root || o.chunks.all fun c => c.sent.isEmpty || c.sent.length == o.rows c.k

/-- MEMBER_LEFT (R472): a reset or a partition change that waits takes effect at a chunk boundary. -/
def execMemberLeft (d entry : Nat) (s : State) : Result :=
  atColl s d entry fun g o =>
    if !o.leaving || !o.atBoundary g.isRoot then s else
    let s := { s with execs := s.execs.filter fun e => !e.is o.fn o.q o.index }
    let s := if g.isRoot then
        (s.groupEvent d g 5 o.seq (s.endpoint d) 0).sendAll d g
          (chunkBody g o.seq ckAbort 0 0 0 0 0 (gtAborted * 65536 + stGroupTimeout) [])
      else s.sendFailure d entry 0 0 5 (s.endpoint d)
    s.onGroup d entry fun g => { g with op := none, ended := some (o.seq, o.chunkCount) }

/-! ### Faults (R352 to R354) -/

/-- The group-list entries of a die whose operation waits for a page key of a function. -/
def State.collPaused (s : State) (d f key : Nat) : List Nat :=
  ((s.die d).groups.filter fun g => (g.2.op.map fun o => o.fn == f && o.paused == some key).getD false).map Prod.fst

/-- The descriptors that wait for their argument block on a page key. -/
def State.collArgs (s : State) (d f key : Nat) : List Exec :=
  s.execs.filter fun e => e.fn == f && e.paused == some (d, key) && (dOpcode e.desc == 0x28 || dOpcode e.desc == 0x29) && e.q != 0

/-- The collective operations that wait on a record go on (R353): held packets are taken, and chunks are worked on. -/
def State.retryColl (s : State) (d f key : Nat) : State :=
  let s := (s.collPaused d f key).foldl (fun s e =>
    match s.collOp d e with
    | none => s
    | some (_, o) =>
      let s := s.onOp d e fun o => { o with paused := none, held := [] }
      let s := o.held.foldl (fun s p =>
        match chunkIn p.body, s.collOp d e with
        | some h, some (g, o) =>
          if h.gen < ((o.chunk? h.chunk).map Chunk.gen).getD 0 then s.count (collPage d) Ctr.collectiveStaleDrops
          else if h.kind = ckData then s.dataIn d e p g o h
          else s.framesIn d e p 0 o h
        | _, _ => s) s
      s.pumpColl d e) s
  (s.collArgs d f key).foldl (fun s e =>
    (s.onExec e.fn e.q e.index fun y => { y with paused := none }).beginColl e.fn e.q e.index e.desc) s

/-- The collective operations that wait on an aborted record end (R354). -/
def State.abortColl (s : State) (d f key : Nat) : State :=
  let s := (s.collPaused d f key).foldl (fun s e => s.endColl d e stTranslationFault dtLocal 0 0) s
  (s.collArgs d f key).foldl (fun s e => s.finish e.fn e.q e.index stTranslationFault dtLocal 0 0) s

/-! ### Groups re-formed and removed (R443, R444) -/

/-- What a re-form does on one die (R443): the operation in execution ends, and the entry is replaced or removed. -/
def State.reformDie (s : State) (d id : Nat) (g : Option Group) : State :=
  let old := s.groupOf d id
  let s := match old with
    | some (e, _) => s.endColl d e stGroupTimeout gtReformed 0 0
    | none => s
  match g, old with
  | some g, _ => (s.installGroup d g).groupEvent d g 6 0 0 0
  | none, some (_, h) => (s.removeGroup d id).groupEvent d h 6 0 0 0
  | none, none => s

/-- REFORM_GROUP with its table (R443). -/
def State.reformGroup (s : State) (f : Nat) (i : Word) (d table : List Byte) : State :=
  let t := fitTable table
  let id := bits (arg1 d) 15 0
  if (s.holders id).isEmpty then s.createGroup f i d table else
  let s := s.readTable f d t
  if !groupTableOk t id then s.adminEnd f i stBadFormat
  else if !(s.holders id).all (fun h => ((s.groupOf h id).map fun g => (g.2.gen + 1) % 65536) == some (le t 8 2)) then
    s.adminEnd f i stInvalidArgument
  else if s.groupsFull t id then s.adminEnd f i stNoResource
  else
    let named := s.namedDies t
    (s.dieList.foldl (fun s h =>
      s.reformDie h id ((named.find? fun n => n.1 == h).map fun n => groupOfTable t n.2)) s).adminEnd f i stSuccess (le t 8 2)

/-- DESTROY_GROUP (R444). -/
def State.destroyGroup (s : State) (f : Nat) (i : Word) (d : List Byte) : State :=
  let id := bits (arg1 d) 15 0
  let l := s.holders id
  if l.isEmpty then s.adminEnd f i stNoSuchObject
  else if l.any fun h => ((s.groupOf h id).map fun g => g.2.op.isSome).getD false then s.adminEnd f i stBusy
  else (l.foldl (fun s h => s.removeGroup h id) s).adminEnd f i stSuccess

end Sys2Proof.Machine
end

