-- ==== Sys2Proof/Machine/Collation.lean ====
section
/-!
DEFINITION. Collation (R519 to R523): entries, the digest of a round, and its decision at the root.
-/

namespace Sys2Proof.Machine

/-- The collation page of a die. -/
abbrev collationPage (d : Nat) : Page := ⟨d, .collation, 0⟩

/-- A collation entry changed. -/
def State.onCollation (s : State) (d n : Nat) (f : Collation → Collation) : State :=
  s.onInteg d fun x => { x with collations := FMap.modify x.collations n f }

/-- The entry that the bytes of a table give (R519). -/
def collationOf (t : List Byte) : Collation :=
  let w := le t 8 4
  let iv := le t 0x14 2
  let us := le t 0x16 2
  { id := le t 6 2, replica := bits w 5 0, last := bits w 13 8, part := bits w 23 16, root := bits (le t 0x0C 4) 17 0
    group := bit (le t 0x10 4) 0, source := le t 0x12 2, interval := if iv = 0 then 16 else iv
    timeout := if us = 0 then 10000 else us, fn := bits (le t 0x18 4) 4 0, area := BitVec.ofNat 64 (le t 0x20 8)
    ranges := (List.range (bits w 31 24)).map fun k =>
      (BitVec.ofNat 64 (le t (64 + 16 * k) 8), le t (72 + 16 * k) 8) }

/-- Whether a table keeps to R519 for a die. -/
def State.collationOk (s : State) (d : Nat) (t : List Byte) : Bool :=
  let w := le t 8 4
  let n := bits w 31 24
  let c := collationOf t
  t.length == 64 + 16 * n && le t 0 4 == 0x4C4C4F43 && le t 4 2 == 1 && bits w 7 6 == 0 && bits w 15 14 == 0 &&
  decide (c.replica ≤ c.last) && decide (1 ≤ c.last) && decide (n ≤ 16) && bits (le t 0x0C 4) 31 18 == 0 &&
  bits (le t 0x10 4) 15 1 == 0 && bits (le t 0x18 4) 31 5 == 0 && decide (c.fn ≤ 16) &&
  le t 0x1C 4 == (crc32c (t.take 0x1C ++ zeros 4 ++ t.drop 0x20)).toNat && allZero (slice t 0x28 0x18) &&
  (c.area == 0 || (s.hasEndpoint d && c.root == s.endpoint d && gaEndpoint c.area == s.endpoint d)) &&
  (c.area != 0 || !(s.hasEndpoint d && c.root == s.endpoint d) || n == 0) &&
  c.ranges.all (fun r => r.1.toNat % 4096 == 0 && r.2 % 4096 == 0 && s.hasEndpoint d && gaEndpoint r.1 == s.endpoint d) &&
  decide ((c.ranges.map Prod.snd).sum ≤ 2 ^ 36)

/-- LOAD_TABLE of COLLATION_TABLE (R519). -/
def State.collationTable (s : State) (f : Nat) (i : Word) (inst : Nat) (table : List Byte) : State :=
  let d := inst / 32
  if s.dies.length ≤ d then s.adminEnd f i stInvalidArgument
  else if !s.collationOk d table then s.adminEnd f i stBadFormat
  else
    let c := collationOf table
    let change (l : List (Nat × Collation)) : List (Nat × Collation) :=
      if c.ranges.isEmpty && c.area == 0 then FMap.erase l (inst % 32) else FMap.set l (inst % 32) c
    (s.onInteg d fun x => { x with collations := change x.collations }).adminEnd f i stSuccess

/-! ### Digests (R520 to R522) -/

/-- The tallies of the blocks of a range, none where a block is poisoned or unmapped (R520, R522). -/
def State.rangeTallies (s : State) (d f : Nat) (r : Word64 × Nat) : Option (List Byte) :=
  (List.range (r.2 / 4096)).foldl (fun a j =>
    match a with
    | none => none
    | some bs =>
      let off := gaOffset r.1 + 4096 * j
      match (s.walk d f off false).1 with
      | .found t => if s.poisoned d (t.pa off) then none else some (bs ++ toLE 4 (s.tally d (t.pa off)).toNat)
      | _ => none) (some [])

/-- The digest of a collation entry now. -/
def State.collationDigest (s : State) (d : Nat) (c : Collation) : Option (List Byte) :=
  (c.ranges.foldl (fun a r =>
    match a, s.rangeTallies d c.fn r with
    | some x, some y => some (x ++ y)
    | _, _ => none) (some [])).map sha384

/-- The header word of a collation message (R513). -/
def collationWord (id part replica : Nat) : Nat := id * 65536 + part * 256 + replica * 4

/-- A DIGEST message sent. -/
def State.sendDigest (s : State) (d : Nat) (c : Collation) (round : Nat) (none_ : Bool) (bs : List Byte) : State :=
  s.sendIntegrity d c.root
    (integrityHeader 3 0 c.fn (b2n none_ * 1024) round (collationWord c.id c.part c.replica) 0) bs

/-- DIGEST_FORMED (R520, R522): the digest of the oldest due round. The 48 bytes under NO_DIGEST are a free value. -/
def execDigestFormed (d entry : Nat) (s : State) : Result :=
  atUnit s d (decide (entry < 32)) <|
    match FMap.get? (s.integ d).collations entry with
    | none => s
    | some c =>
      match c.due with
      | [] => s
      | r :: due =>
        let g := s.collationDigest d c
        let fill := match g with
          | some bs => (bs, s)
          | none => State.takeFreeBytes 48 s
        let s := fill.2.onCollation d entry fun c => { c with due := due, unacked := c.unacked ++ [(r, g, fill.1, 0)] }
        (s.count (collationPage d) Ctr.collationDigestsFormed).sendDigest d c r g.isNone fill.1

/-- DIGEST_REPEAT (R522): the oldest digest without an acknowledgement goes out again, every 100 µs, until TIMEOUT_US. -/
def execDigestRepeat (d entry : Nat) (s : State) : Result :=
  atUnit s d (decide (entry < 32)) <|
    match FMap.get? (s.integ d).collations entry with
    | none => s
    | some c =>
      match c.unacked with
      | [] => s
      | (r, g, bs, n) :: l =>
        if c.timeout ≤ (n + 1) * 100 then s.onCollation d entry fun c => { c with unacked := l }
        else
          ((s.onCollation d entry fun c => { c with unacked := (r, g, bs, n + 1) :: l }).count (collationPage d)
            Ctr.collationDigestRepeats).sendDigest d c r g.isNone bs

/-- DIGEST_ACK (R522). -/
def execDigestAck (d : Nat) (p : Packet) (s : State) : Result :=
  atDie s d <|
    let s := s.takeLocal d p
    match integrityParts p with
    | none => s
    | some (h, _) =>
      if bits (be h 0 4) 31 28 ≠ 4 then s else
      let ack (c : Collation) : Collation :=
        if c.root = p.source.toNat ∧ collationWord c.id c.part c.replica = be h 8 4 then
          { c with unacked := c.unacked.filter fun u => u.1 != be h 4 4 }
        else c
      s.onInteg d fun x => { x with collations := x.collations.map fun y => (y.1, ack y.2) }

/-! ### The root (R523) -/

/-- The majority digest of a part: one held by more than half of the replicas. -/
def majority (last : Nat) (l : List HeldDigest) : Option (List Byte) :=
  (l.filterMap HeldDigest.digest).find? fun g => decide (last + 1 < 2 * (l.filter fun h => h.digest == some g).length)

/-- A round decided for a part (R523). -/
def State.decideRound (s : State) (d n round part : Nat) : State :=
  match FMap.get? (s.integ d).collations n with
  | none => s
  | some c =>
    let l := c.held.filter fun h => h.round == round && h.part == part
    let p := collationPage d
    let s := s.count p Ctr.collationReplicasMissing (c.last + 1 - l.length)
    let close (s : State) (outcome odd : Nat) : State :=
      s.onCollation d n fun c => { c with
        held := c.held.filter fun h => !(h.part == part && decide (h.round ≤ round))
        decided := FMap.set c.decided part round
        result := outcome * 2 ^ 30 + round % 2 ^ 24 * 64 + odd }
    let event (s : State) (e odd : Nat) : State := s.integrityEvent d c.fn e odd c.id (s.endpoint d) round 0
    match majority c.last l with
    | none => (event ((close s 3 0).count p Ctr.collationRoundsSplit) 7 0).raise p 1
    | some g =>
      let odd := (List.range (c.last + 1)).filter fun r => !l.any fun h => h.replica == r && h.digest == some g
      match odd with
      | [] => (close s 1 0).count p Ctr.collationRoundsAgreed
      | o :: _ =>
        (odd.foldl (fun s r => event s 6 r) ((close s 2 o).count p Ctr.collationRoundsMismatch)).raise p 1

/-- The collation area's record of a digest, one of 64 bytes for each replica and part (R519, R523). The spec gives the
record no layout: its bytes are free values. -/
def State.storeDigest (s : State) (d : Nat) (c : Collation) (replica part : Nat) : State :=
  let r := State.takeFreeBytes 64 s
  (r.2.write d 10 c.fn (gaOffset c.area + (replica * 256 + part) * 64) r.1).2

/-- The entry of a die that is the root of a collation group. -/
def State.collationRoot (s : State) (d id : Nat) : Option (Nat × Collation) :=
  (s.integ d).collations.find? fun y => y.2.id == id && y.2.area != 0 && s.hasEndpoint d && y.2.root == s.endpoint d

/-- DIGEST (R522, R523): stored and acknowledged at the root; the round is decided once every replica's is held. -/
def execDigest (d : Nat) (p : Packet) (s : State) : Result :=
  atDie s d <|
    let s := s.takeLocal d p
    match integrityParts p with
    | none => s
    | some (h, body) =>
      let w := be h 0 4
      let round := be h 4 4
      let x := be h 8 4
      let part := bits x 15 8
      let replica := bits x 7 2
      if bits w 31 28 ≠ 3 ∨ body.length ≠ 48 then s else
      match s.collationRoot d (bits x 31 16) with
      | none => s
      | some (n, c) =>
        if c.last < replica then s else
        let s := s.sendIntegrity d p.source.toNat (integrityHeader 4 0 (integrityFn h) 0 round x 0) []
        let old := ((FMap.get? c.decided part).map fun r => decide (round ≤ r)).getD false
        if old || c.held.any (fun y => y.round == round && y.part == part && y.replica == replica) then s else
        let g := if bit w 10 then none else some body
        let s := (s.storeDigest d c replica part).onCollation d n fun c =>
          { c with held := c.held ++ [{ round := round, part := part, replica := replica, digest := g }] }
        let now := ((FMap.get? (s.integ d).collations n).map fun c =>
          (c.held.filter fun y => y.round == round && y.part == part).length).getD 0
        if now = c.last + 1 then s.decideRound d n round part else s

/-- COLLATION_TIMEOUT (R523): the oldest round of a part is decided with the digests held. -/
def execCollationTimeout (d entry part : Nat) (s : State) : Result :=
  atUnit s d (decide (entry < 32)) <|
    match FMap.get? (s.integ d).collations entry with
    | none => s
    | some c =>
      match (c.held.filter fun h => h.part == part).map HeldDigest.round with
      | [] => s
      | r :: rs => s.decideRound d entry (rs.foldl min r) part

end Sys2Proof.Machine
end

