-- ==== Sys2Proof/Machine/Partition.lean ====
section
/-!
DEFINITION. Partitions and function states (R528 to R547): quiesce, the function-wide reset, opening and closing, resource
records, destruction, and the registers of the dirty log.
-/

namespace Sys2Proof.Machine

/-! ### Quiesce (R540) -/

/-- FN_STATE.QUIESCED of a function. -/
def State.quiesced (s : State) (f : Nat) : Bool :=
  !s.fnBusy f &&
  !(s.qps.any fun x => x.2.fn == f && (!x.2.ops.isEmpty || s.qpOutstanding x.1 x.2)) &&
  !(s.dies.any fun d =>
    (d.recks.any fun r => (r.run.map fun x => x.fn == f).getD false) ||
    (d.groups.any fun g => (g.2.op.map fun o => o.fn == f).getD false) ||
    (d.xlate.faults.any fun r => r.2.fn == f) || d.integ.log.any fun e => e.fn == f) &&
  (s.fn f).ledgers.all (·.isEmpty)

/-! ### The function-wide reset (R539) -/

/-- The function's pages, in R539: its per-function pages (R41), the recipe-control pages of its Reckoners and its
partition's group pages. DEDUCED: not its function state page, which tells the manager of the closing itself (R551). -/
def State.fnPages (s : State) (f : Nat) : List Page :=
  (s.dieList.flatMap fun d =>
    [PageKind.queuePage, .qpPage, .rate, .xlateFn, .cipherUser, .integrityFn].map fun k => (⟨d, k, f⟩ : Page)) ++
  ((s.heldReckoners f).map fun r => recipePage r.1 r.2) ++
  (if f = 0 then [] else [⟨0, .partGroup, f - 1⟩, ⟨0, .slotA, f - 1⟩, ⟨0, .slotB, f - 1⟩])

/-- INT_RAW, INT_EN and INT_VEC of a page back at their reset values. -/
def State.clearInts (s : State) (p : Page) : State := ((s.setReg p 0x10 0).setReg p 0x14 0).setReg p 0x28 0

/-- The admin queue of a function is gone: ADMIN_CTL.ENABLE reads 0. -/
def State.adminGone (s : State) (f : Nat) : State :=
  let p := queuePage 0 f
  s.setReg p 0x108 (s.reg p 0x108 % 2 ^ 31)

/-- Check records of a function end without a verdict (R527). -/
def State.endChecks (s : State) (f : Nat) : State :=
  let l := s.dieList.flatMap fun d => ((s.integ d).records.filter fun c => c.2.fn == f).map fun c => (d, c)
  l.foldl (fun s x => s.abandonCheck x.1 x.2.1 x.2.2) s

/-- The function-wide reset. Collective operations go at their next chunk boundary (R472). -/
def State.functionReset (s : State) (f : Nat) : State :=
  let s := { s with execs := s.execs.filter (fun e => e.fn != f), doorbells := s.doorbells.filter (·.fn != f)
                    arrivals := s.arrivals.filter fun a => a.2.1 != f }
  let s := (s.queues.map Prod.fst).foldl (fun s k => if k / 65536 = f then s.removeQueue f (k % 65536) else s) s
  let s := (s.adminGone f).onFn f fun x => { x with ledgers := [[], [], [], []], msix := [] }
  let s := ((s.qps.filter fun x => x.2.fn == f).map Prod.fst).foldl State.removeQp s
  let s := s.reckList.foldl (fun s k =>
    if ((s.runAt (k / 5) (k % 5)).map fun x => x.fn == f).getD false then s.clearRun (k / 5) (k % 5) else s) s
  let s := { s with recipes := s.recipes.filter fun r => r.2.fn != f }
  let s := s.endChecks f
  let s := s.dieList.foldl (fun s d =>
    let s := (s.die d).groups.foldl (fun s g =>
      s.onOp d g.1 fun o => if o.fn = f then { o with leaving := true } else o) s
    ((s.dropFaults d (· == f)).dropTranslations d (· == f)).freeLog d fun e => e.fn == f) s
  (s.fnPages f).foldl State.clearInts s

/-! ### Function states (R535 to R539) -/

/-- A function enters CLOSING. -/
def State.enterClosing (s : State) (f : Nat) : State :=
  (s.onFn f fun x => { x with phase := .closing, pendClose := false }).functionReset f

/-- A function reaches OPEN, in MAINTENANCE; a pending close is then acted on. -/
def State.reachOpen (s : State) (f : Nat) : State :=
  let close := (s.fn f).pendClose
  let s := s.onFn f fun x => { x with phase := .opened, service := false, pendClose := false }
  let s := (s.count (fnPage f) Ctr.fnStateOpens).raise (fnPage f) 1
  if close then s.enterClosing f else s

/-- FUNCTION_ENABLE (R535, R538): a write of FN_CTL with ENABLE at 1. -/
def execFunctionEnable (f : Nat) (s : State) : Result :=
  atFn s f <| s.fromFn 0 <| s.guarded (fnPage f) <|
    let x := s.fn f
    if f = 0 then s.refuse (fnPage f) 0x0100
    else if x.enable then s
    else if x.queues = 0 then s.refuse (fnPage f) 0x0101
    else s.onFn f fun x =>
      match x.phase with
      | .closed => { x with enable := true, phase := .opening }
      | .closing => { x with enable := true, pendOpen := true }
      | _ => { x with enable := true, pendClose := false }

/-- FUNCTION_DISABLE (R535, R538): a write of FN_CTL with ENABLE at 0. -/
def execFunctionDisable (f : Nat) (s : State) : Result :=
  atFn s f <| s.fromFn 0 <| s.guarded (fnPage f) <|
    let x := s.fn f
    if f = 0 then s.refuse (fnPage f) 0x0100
    else if !x.enable then s
    else
      let s := s.onFn f fun x => { x with enable := false }
      match x.phase with
      | .closed => s
      | .opening => s.onFn f fun x => { x with pendClose := true }
      | .opened => s.enterClosing f
      | .closing => s.onFn f fun x => { x with pendOpen := false }

/-- FN_HOLD (R541). -/
def execFnHold (f : Nat) (hold : Bool) (s : State) : Result :=
  atFn s f <| s.fromFn 0 <| s.guarded (fnPage f) <| s.onFn f fun x => { x with hold := hold }

/-- OPENING_COMPLETE (R535, R536). -/
def execOpeningComplete (f : Nat) (s : State) : Result :=
  atFn s f <| if (s.fn f).phase == .opening then s.reachOpen f else s

/-! ### Holdings (R528 to R534) -/

/-- Granules that belong to the PF at all times (R529). -/
def topGranule (g : Nat) : Bool := g == 63 || g == 127 || g == 191

/-- What a resource record gives a partition: Reckoners as die × 5 + number, granules as die × 192 + number, and the
counts and cap. -/
structure Holding where
  recks    : List Nat
  granules : List Nat
  queues   : Nat
  qps      : Nat
  handles  : Nat
  cap      : Nat
  deriving DecidableEq, Repr

/-- The LPDDR5X granules that can be divided, in the order of R533. -/
def lpddrGranules : List Nat := (List.range 63).map (64 + ·) ++ (List.range 63).map (128 + ·)

/-- The equal share of partition `p` of `n` (R533). -/
def equalShare (dies n p : Nat) : Holding :=
  let r := dies * 5 / n
  let h := 63 / n
  let l := 126 / n
  { recks := (List.range r).map ((p - 1) * r + ·)
    granules := (List.range dies).flatMap fun d =>
      ((List.range h).map ((p - 1) * h + ·) ++ (lpddrGranules.drop ((p - 1) * l)).take l).map (d * 192 + ·)
    queues := 61440 / n, qps := 245760 / n, handles := 120 / n, cap := 64 }

/-- A resource record at the length that its header names. -/
def fitRecord (t : List Byte) : List Byte := let n := le t 0x14 4; t.take n ++ zeros (n - t.length)

/-- The holding that a record of KIND EXPLICIT describes (R530). -/
def explicitShare (dies : Nat) (t : List Byte) : Holding :=
  let e (d : Nat) : List Byte := slice t (64 + 64 * d) 64
  { recks := (List.range dies).flatMap fun d => (bitsSet 5 (le (e d) 0 8)).map (d * 5 + ·)
    granules := (List.range dies).flatMap fun d => (bitsSet 192 (le (e d) 8 24)).map (d * 192 + ·)
    queues := le t 8 4, qps := le t 0x0C 4, handles := le t 0x10 1, cap := le t 0x11 1 }

/-- Whether a record keeps to R530 and R531, row 1. -/
def recordOk (dies : Nat) (t : List Byte) : Bool :=
  let w := le t 4 4
  let n := bits w 28 24
  let common := le t 0 4 == 0x54524150 && bits w 15 0 == 1 && bits w 23 18 == 0 && bits w 31 29 == 0 && le t 0x12 2 == 0 &&
    le t 0x18 4 == (crc32c (t.take 0x18 ++ zeros 4 ++ t.drop 0x1C)).toNat && allZero (slice t 0x1C 0x24)
  if bits w 17 16 = 0 then
    common && n == 0 && le t 0x14 4 == 64 + 64 * dies && decide (1 ≤ le t 8 4 ∧ le t 8 4 ≤ 65536) &&
    decide (le t 0x0C 4 ≤ 262144) && decide (le t 0x10 1 ≤ 128) && le t 0x11 1 != 0 &&
    (List.range dies).all (fun d =>
      let e := slice t (64 + 64 * d) 64
      decide (le e 0 8 < 32) && allZero (e.drop 0x20) && !(bitsSet 192 (le e 8 24)).any topGranule)
  else if bits w 17 16 = 1 then
    common && (n == 1 || n == 2 || n == 4 || n == 8 || n == 16) && le t 0x14 4 == 64 && allZero (slice t 8 12) &&
    decide (n ≤ dies * 5)
  else false

/-- The holding that a record gives partition `p`. -/
def holdingOf (dies p : Nat) (t : List Byte) : Holding :=
  let w := le t 4 4
  if bits w 17 16 = 1 then equalShare dies (bits w 28 24) p else explicitShare dies t

/-- What a function holds now. -/
def State.holding (s : State) (f : Nat) : Holding :=
  let x := s.fn f
  { recks := s.reckList.filter fun k => s.rkOwner[k]? == some f
    granules := (s.granules.filter fun g => g.2 == f).map Prod.fst
    queues := x.queues, qps := x.qps, handles := x.handles, cap := x.cap }

/-- A Reckoner that changes its holder (R532): what it holds goes, a recipe on it stops. -/
def State.moveReckoner (s : State) (k f : Nat) : State :=
  let d := k / 5
  let r := k % 5
  let s := s.failRun d r stRecipeAborted raNotResident
  let s := { s with rkOwner := s.rkOwner.set k f }
  let s := (List.range 8).foldl (fun s j => s.setReg ⟨d, .format, r⟩ (0x100 + 4 * j) (fmtSlotReset j)) s
  s.onReck d r fun x => { x with store := [], seqs := List.replicate 16 {} }

/-- A holding put in force (R532). -/
def State.setHolding (s : State) (f : Nat) (h : Holding) : State :=
  let old := s.holding f
  let lost := old.granules.any fun g => !h.granules.contains g
  let s := old.recks.foldl (fun s k => if h.recks.contains k then s else s.moveReckoner k 0) s
  let s := h.recks.foldl (fun s k => if old.recks.contains k then s else s.moveReckoner k f) s
  let s := { s with granules := h.granules.foldl (fun m g => FMap.set m g f) (s.granules.filter fun g => g.2 != f) }
  let s := if lost then s.dieList.foldl (fun s d => s.dropTranslations d (· == f)) s else s
  let s := s.onFn f fun x => { x with queues := h.queues, qps := h.qps, handles := h.handles, cap := h.cap }
  s.dieList.foldl (fun s d => s.setReg ⟨d, .rateCtl, 0⟩ (0x140 + 4 * f) h.cap) s

/-- Whether the PF would keep at least what it uses, if partition `p` held `h` (R531, row 3). -/
def State.pfKeeps (s : State) (p : Nat) (h : Holding) : Bool :=
  let others (g : Fn → Nat) : Nat := ((s.fns.zipIdx.filter fun x => x.2 != 0 && x.2 != p).map fun x => g x.1).sum
  decide (others Fn.queues + h.queues + s.queueCount 0 ≤ 65536) && decide (others Fn.qps + h.qps + s.qpCount 0 ≤ 262144) &&
  decide (others Fn.handles + h.handles + s.handleCount 0 ≤ 128)

/-- RESIZE_PARTITION with its record (R530 to R533). -/
def State.resizePartition (s : State) (f : Nat) (i : Word) (d record : List Byte) : State :=
  let t := fitRecord record
  let p := bits (arg2 d) 4 0
  let n := s.dies.length
  let s := s.emit (.hostRead f (BitVec.ofNat 64 (arg0 d)) t.length)
  if !recordOk n t then s.adminEnd f i stBadFormat
  else if p = 0 ∨ 16 < p ∨ (bits (le t 4 4) 17 16 = 1 ∧ bits (le t 4 4) 28 24 < p) then s.adminEnd f i stInvalidArgument
  else
    let h := holdingOf n p t
    let old := s.holding p
    let other (o : Nat) : Bool := o != 0 && o != p
    if (h.recks.any fun k => other ((s.rkOwner[k]?).getD 0) || (!old.recks.contains k && (s.reck (k / 5) (k % 5)).retired)) ||
        (h.granules.any fun g => other ((FMap.get? s.granules g).getD 0)) || !s.pfKeeps p h then
      s.adminEnd f i stNoResource
    else
      let less := (old.recks.any fun k => !h.recks.contains k) || (old.granules.any fun g => !h.granules.contains g) ||
        decide (h.queues < old.queues) || decide (h.qps < old.qps) || decide (h.handles < old.handles)
      if (less && !s.quiesced p) || decide (h.queues < s.queueCount p) || decide (h.qps < s.qpCount p) ||
          decide (h.handles < s.handleCount p) then
        s.adminEnd f i stBusy
      else (s.setHolding p h).adminEnd f i stSuccess

/-! ### Closing and destruction (R535, R543) -/

/-- The end of DESTROY_PARTITION, once its function is CLOSED (R543): roots and groups go, resources return to the PF, and
the command completes. -/
def State.destroyed (s : State) (p : Nat) : State :=
  let s := s.dieList.foldl (fun s d =>
    let s := s.onXlate d fun x => { x with roots := FMap.erase x.roots p }
    ((s.die d).groups.filter fun g => g.2.owner == p).foldl (fun s g => s.removeGroup d g.2.id) s) s
  let s := s.setHolding p { recks := [], granules := [], queues := 0, qps := 0, handles := 0, cap := 64 }
  let s := { s with keys := s.keys.filter fun k => k.1 / 65 != p }.onFn p fun x => { x with destroying := false }
  match s.execs.find? fun e => e.fn == 0 && e.q == 0 && dOpcode e.desc == 0x31 && bits (arg2 e.desc) 4 0 == p with
  | some e => s.adminEnd 0 e.index stSuccess
  | none => s

/-- Whether a collective operation of a function has still to reach a chunk boundary (R472, R536). -/
def State.leaving (s : State) (f : Nat) : Bool :=
  s.dies.any fun d => d.groups.any fun g => (g.2.op.map fun o => o.fn == f && o.leaving).getD false

/-- CLOSING_COMPLETE (R535, R536, R543). -/
def execClosingComplete (f : Nat) (s : State) : Result :=
  atFn s f <|
    if (s.fn f).phase != .closing || s.leaving f then s else
    let s := s.onFn f fun x => { x with phase := .closed, flr := false }
    let s := (s.count (fnPage f) Ctr.fnStateCloses).raise (fnPage f) 2
    let s := if (s.fn f).destroying then s.destroyed f else s
    if (s.fn f).pendOpen then s.onFn f fun x => { x with phase := .opening, pendOpen := false } else s

/-- DESTROY_PARTITION (R543). -/
def State.destroyPartition (s : State) (f : Nat) (i : Word) (d : List Byte) : State :=
  let p := bits (arg2 d) 4 0
  let h := s.holding p
  if p = 0 ∨ 16 < p then s.adminEnd f i stInvalidArgument
  else if !s.quiesced p then s.adminEnd f i stBusy
  else if h.recks.isEmpty && h.granules.isEmpty && h.queues == 0 && h.qps == 0 && h.handles == 0 &&
      (s.fn p).phase == .closed then s.adminEnd f i stNoSuchObject
  else
    let ph := (s.fn p).phase
    let s := s.onFn p fun x => { x with enable := false, pendOpen := false, destroying := true }
    match ph with
    | .closed => s.destroyed p
    | .closing => s
    | _ => s.enterClosing p

/-! ### Function Level Reset (R68, R71, R535) -/

/-- FUNCTION_LEVEL_RESET (R535, R539, R552). -/
def execFunctionLevelReset (f : Nat) (s : State) : Result :=
  atFn s f <|
    if !s.ready then s else
    let s := s.count (fnPage f) Ctr.fnStateFlrs
    let x := s.fn f
    match x.phase with
    | .closed => s
    | .closing => s.onFn f fun x => { x with flr := true, pendOpen := x.pendOpen || x.enable }
    | _ => (s.onFn f fun x => { x with flr := true, pendOpen := x.enable }).enterClosing f

/-- VF_ENABLE_CLEAR (R71, R535, R552): every VF closes; one that was OPENING passes through OPEN. -/
def execVfEnableClear (s : State) : Result :=
  .next <|
    (List.range 16).foldl (fun s j =>
      let f := j + 1
      let ph := (s.fn f).phase
      let s := s.onFn f fun x => { x with enable := false, pendOpen := false, flr := ph != .closed }
      match ph with
      | .opened => s.enterClosing f
      | .opening => (s.onFn f fun x => { x with pendClose := true }).reachOpen f
      | _ => s) s

/-! ### Dirty log registers (R546, R551) -/

/-- A write of DIRTY_CTL: OVERFLOW is cleared by a 1, an ENABLE of 0 to 1 starts the log afresh, and an ENABLE with a size
out of range is refused. -/
def State.writeDirtyCtl (s : State) (f value : Nat) : State :=
  let p := fnPage f
  let old := s.reg p 0x148
  if bit value 31 && !decide (8 ≤ bits value 4 0 ∧ bits value 4 0 ≤ 20) then s.refuse p 0x0102
  else
    let stays := bit old 30 && !bit value 30
    let s := s.setReg p 0x148 (b2n (bit value 31) * 0x80000000 + b2n stays * 0x40000000 + bits value 4 0)
    if bit value 31 && !bit old 31 then
      ((s.setReg p 0x14C 0).setReg p 0x150 0).onFn f fun x => { x with dirty := [] }
    else s

/-- DIRTY_LOG_ENABLE (R544 to R546): a write of DIRTY_CTL with ENABLE at 1 where it was 0. -/
def execDirtyLogEnable (f : Nat) (value : Word) (s : State) : Result :=
  atFn s f <| s.fromFn 0 <| s.guarded (fnPage f) <|
    if !bit value.toNat 31 || bit (s.reg (fnPage f) 0x148) 31 then s else s.writeDirtyCtl f value.toNat

/-- A write of DIRTY_HEAD (R546, R551). -/
def State.writeDirtyHead (s : State) (f : Nat) (value : Word) : State :=
  let p := fnPage f
  if 2 ^ bits (s.reg p 0x148) 4 0 < (BitVec.ofNat 32 (s.reg p 0x14C) - value).toNat then s.refuse p 0x0102
  else s.setReg p 0x150 value.toNat

/-- DIRTY_HEAD_WRITE (R546, R551). -/
def execDirtyHeadWrite (f : Nat) (value : Word) (s : State) : Result :=
  atFn s f <| s.fromFn 0 <| s.guarded (fnPage f) (s.writeDirtyHead f value)

end Sys2Proof.Machine
end

