-- ==== Sys2Proof/Machine/MemEvents.lean ====
section
/-!
DEFINITION. Events of the memories and of translation (R324 to R326, R334 to R347, R360): patrol scrub, walks, range
invalidation, access windows.
-/

namespace Sys2Proof.Machine

/-! ### Memory controllers (R324 to R326) -/

/-- Page of memory `m` of a die: the HBM3E stack, then LPDDR5X 0 and 1 (R14). -/
def memCtlPage (d m : Nat) : Page := if m = 0 then ⟨d, .hbm, 0⟩ else ⟨d, .lpddr, m - 1⟩

/-- A memory controller of a die changed. -/
def State.onMem (s : State) (d m : Nat) (f : MemCtl → MemCtl) : State :=
  s.onDie d fun x => { x with mems := modifyAt x.mems m f }

/-- What ECC reports on a read of a block at a die physical address (R324, R325). -/
def State.eccReport (s : State) (d m pa : Nat) : EccSeverity → State
  | .clean => s
  | .corrected => s.count (memCtlPage d m) Ctr.memCtlEccCorrected
  | .uncorrected =>
    ((s.setPoison d pa true).count (memCtlPage d m) Ctr.memCtlEccUncorrected).error (memCtlPage d m) 0x0100 0 pa

/-- PATROL_SCRUB (R326): one block read, and the pass counted once every block has been. -/
def execPatrolScrub (d m block : Nat) (severity : EccSeverity) (s : State) : Result :=
  atUnit s d (decide (m < 3 ∧ block < 2 ^ 24)) <|
    if !bit (s.reg (memCtlPage d m) 0x100) 31 then s else
    let s := s.eccReport d m (m * 2 ^ 36 + block * 4096) severity
    if (((s.die d).mems[m]?).map MemCtl.scrubbed).getD 0 + 1 = 2 ^ 24 then
      (s.onMem d m fun x => { x with scrubbed := 0 }).count (memCtlPage d m) Ctr.memCtlScrubPasses
    else s.onMem d m fun x => { x with scrubbed := x.scrubbed + 1 }

/-! ### Walks (R334, R338, R340) -/

/-- WALK_COMPLETE (R334, R340): a committed walk gives a translation, a fault record or a denial; one of a prefetch that
finds no translation is discarded. -/
def execWalkComplete (d e f offset : Nat) (isWrite prefetch : Bool) (s : State) : Result :=
  atUnit s d (decide (e < 10 ∧ f < s.fns.length ∧ offset < 2 ^ 46)) <|
    if (s.die d).computeReset then s
    else if prefetch then
      let w := s.walk d f offset isWrite
      match w.1 with
      | .found t => (s.installWalk d w.2.2).install d e t
      | _ => s
    else
      match s.demandWalk d e f offset isWrite with
      | (.fault k, s) => s.fault d e f offset k isWrite none s.now
      | (_, s) => s

/-! ### Range invalidation (R342 to R347) -/

/-- The acknowledgement of every engine of a die (R147). -/
def allEngines : Nat := 0x3FF

/-- Engines that acknowledge at once (R346): every one while the die's islands are off or under compute reset, and retired
Reckoners. -/
def State.idleEngines (s : State) (d : Nat) : Nat :=
  if (s.die d).computeReset || decide (2 ≤ (s.die d).power.state) then allEngines
  else maskOf ((List.range 5).filter fun r => (s.reck d r).retired)

/-- Whether two ranges meet. -/
def rangesMeet (a n b m : Nat) : Bool := decide (a < b + m ∧ b < a + n)

/-- Walk-cache entries of a function that cover any part of a range dropped (R343). -/
def State.dropWalks (s : State) (d f base len : Nat) : State :=
  s.onXlate d fun x => { x with walks := x.walks.filter fun w =>
    !(w.fn == f && rangesMeet (w.tag * 2 ^ pageLog2 w.level) (2 ^ pageLog2 w.level) base len) }

/-- The invalidation ends once every engine of every die has acknowledged (R347): the command completes. -/
def State.endInvalidation (s : State) : State :=
  if s.dies.all fun x => (x.xlate.inval.map fun v => v.acked == allEngines).getD false then
    let s := s.dieList.foldl (fun s d => s.onXlate d fun x => { x with inval := none }) s
    match s.execs.find? fun e => e.fn == 0 && e.q == 0 && dOpcode e.desc == 0x20 && e.phase == .running with
    | some e => s.adminEnd 0 e.index stSuccess 0x03FF03FF03FF03FF 0x03FF03FF03FF03FF
    | none => s
  else s

/-- INVALIDATE_RANGE begins (R342, R343): each translation unit takes it. -/
def State.invalidateRange (s : State) (f : Nat) (i : Word) (d : List Byte) : State :=
  let base := arg0 d
  let len := arg1 d
  let g := bits (arg2 d) 4 0
  if f ≠ 0 then s.adminEnd f i stNotPermitted
  else if 2 ^ 46 ≤ base ∨ len = 0 ∨ 2 ^ 46 < base + len ∨ 16 < g then s.adminEnd f i stInvalidArgument
  else
    (s.dieList.foldl (fun s d =>
      let a := s.idleEngines d
      let s := (s.dropWalks d g base len).onXlate d fun x =>
        { x with inval := some { fn := g, base := base, len := len, points := a, acked := a } }
      s.count (xlatePage d) Ctr.xlateInvalidations) s).endInvalidation

/-- INVALIDATION_POINT (R343, R344): an engine drops its cached and prefetched translations in the range. -/
def execInvalidationPoint (d e : Nat) (s : State) : Result :=
  atUnit s d (decide (e < 10)) <|
    match (s.die d).xlate.inval with
    | none => s
    | some v =>
      let s := s.onXlate d fun x => { x with
        inval := some { v with points := v.points ||| 2 ^ e }
        caches := modifyAt x.caches e fun c => c.filter fun t => !(t.fn == v.fn && rangesMeet t.base (2 ^ t.log2) v.base v.len) }
      if e < 5 then s.dropTiles d e v.fn v.base v.len else s

/-- INVALIDATION_ACK (R344, R347): an engine that has reached its point acknowledges. -/
def execInvalidationAck (d e : Nat) (s : State) : Result :=
  atUnit s d (decide (e < 10)) <|
    match (s.die d).xlate.inval with
    | none => s
    | some v =>
      if bit v.points e then
        (s.onXlate d fun x => { x with inval := some { v with acked := v.acked ||| 2 ^ e } }).endInvalidation
      else s

/-- INVALIDATION_RESEND (R347): a die that has not acknowledged receives the invalidation again. -/
def execInvalidationResend (d : Nat) (s : State) : Result :=
  atDie s d <|
    match (s.die d).xlate.inval with
    | none => s
    | some v =>
      let a := v.acked ||| s.idleEngines d
      ((s.dropWalks d v.fn v.base v.len).onXlate d fun x =>
        { x with inval := some { v with points := v.points ||| a, acked := a } }).endInvalidation

/-- Every engine of a die acknowledges a pending invalidation at once (R346, R348). -/
def State.ackDie (s : State) (d : Nat) : State :=
  (s.onXlate d fun x => { x with inval := x.inval.map fun v => { v with points := allEngines, acked := allEngines } }).endInvalidation

/-! ### Access counters (R360) -/

/-- DOG_EAR_WINDOW_END (R360): every access counter is cleared. -/
def execDogEarWindowEnd (d : Nat) (s : State) : Result := atDie s d <| s.onXlate d fun x => { x with counts := [] }

end Sys2Proof.Machine
end

