-- ==== Sys2Proof/Machine/Resets.lean ====
section
/-!
DEFINITION. The reset domains (R625, R675, R289): what each clears and what it keeps.
-/

namespace Sys2Proof.Machine

/-- RWS counters, which only a package cold reset clears: WATCHDOG_RESETS and CHECKSUM_RESETS, TRIPS, PLL_LOCK_LOSSES. -/
def Page.rws (p : Page) : List Nat :=
  match p.kind with
  | .mailbox => [Ctr.mailboxWatchdogResets, Ctr.mailboxChecksumResets]
  | .power => [Ctr.powerTrips]
  | .clock => [Ctr.clockPllLockLosses]
  | _ => []

/-- Whether a register at an address keeps its value through a reset of the pages that `p` names. -/
def keepsThrough (p : Page → Bool) (a : Nat) : Bool :=
  match pageOfAddr a with
  | some q => !p q || q.rws.any fun k => a == q.ctr k
  | none => true

/-- Registers, counters, capture totals, shadows, held halves and capture logic of the pages that `p` names back at reset. -/
def State.clearPages (s : State) (p : Page → Bool) : State :=
  let keep (d off : Nat) : Bool := match pageAt d off with
    | some q => !p q
    | none => true
  let clear (x : Die × Nat) : Die := { x.1 with captures := x.1.captures.filter (fun c => keep x.2 c.1) }
  { s with
    regs := s.regs.filter (fun e => keepsThrough p e.1)
    totals := s.totals.filter (fun e => keepsThrough p e.1)
    shadows := s.shadows.filter (fun e => keepsThrough p e.2.1)
    lowHalves := s.lowHalves.filter (fun e => keepsThrough p e.2.1)
    dies := s.dies.zipIdx.map clear }

/-! ### Die compute reset (R625, R675, R22, R527) -/

/-- A router without what only the die-compute islands gave it: packets of local sources that wait, and packets delivered
to consumers, the latter counted in LOCAL_RESET_DISCARDS (R22, R288). -/
def State.dropLocal (s : State) (d : Nat) : State :=
  let r := (s.die d).router
  let mine := r.held.filter fun h => h.inPort == 7
  let gone := (r.fifos[8]?).getD [] ++ r.arrived
  let s := s.onRouter d fun r => { r with held := r.held.filter (fun h => h.inPort != 7), fifos := r.fifos.set 8 [], arrived := [] }
  let s := mine.foldl (fun s h => s.editionCount d h.pkt.edition (· - 1)) s
  (gone.foldl (fun s f => (s.freeUnits d f.port f.vc f.units f.origin).count (routerPage d) Ctr.router0LocalResetDiscards)
    s).noteOccupancy d

/-- Every queue that a die owns destroyed without completions (R625). -/
def State.dropQueues (s : State) (d : Nat) : State :=
  let mine := (s.queues.filter fun e => e.2.owner == d).map Prod.fst
  let own (f q : Nat) : Bool := mine.contains (qKey f q)
  let s := s.reckList.foldl (fun s k =>
    if ((s.runAt (k / 5) (k % 5)).map fun x => own x.fn x.q).getD false then s.clearRun (k / 5) (k % 5) else s) s
  let s := { s with execs := s.execs.filter fun e => !own e.fn e.q }
  mine.foldl (fun s k => s.removeQueue (k / 65536) (k % 65536)) s

/-- A link without the reads that die-compute engines made on it. -/
def Link.withoutReads (l : Link) : Link := { l with reads := [], fetched := [] }

/-- A Reckoner after a reset of its island: the binding record keeps its retirement (R398). -/
def Reckoner.cleared (r : Reckoner) : Reckoner := { retired := r.retired }

/-- A die compute reset from its first step (R675): work in flight is abandoned and the state that R625 lists is cleared;
the domain is in reset. -/
def State.enterComputeReset (s : State) (d : Nat) : State :=
  let s := (s.dropLocal d).closeEarly d fun p => p.kind.domain == .compute
  let s := s.retract d fun _ => true
  let s := s.dropQueues d
  let s := (List.range 5).foldl (fun s r => s.failRun d r stRecipeAborted raNotResident) s
  let s := ((s.qps.filter fun x => s.qpDie x.1 == d).map Prod.fst).foldl State.removeQp s
  let s := (s.integ d).records.foldl (fun s c => s.abandonCheck d c.1 c.2) s
  let away (r : Nat × Recipe) : Nat × Recipe := (r.1, { r.2 with dies := r.2.dies.filter (· != d) })
  let s := { s with recipes := s.recipes.map away, arrivals := s.arrivals.filter (fun a => a.1 != d) }
  let paused := (s.execs.filter fun e => (e.paused.map Prod.fst) == some d)
  let s := s.reckList.foldl (fun s k => s.onRun (k / 5) (k % 5) fun x =>
    if (x.paused.map Prod.fst) == some d then { x with paused := none } else x) s
  let s := s.clearPages fun p => p.die == d && p.kind.domain == .compute
  let s := { s with stops := s.stops.filter (fun e => e.1 / 0x800000 != d)
                    stopsLost := s.stopsLost.filter (fun a => a / 0x800000 != d) }
  let s := s.onDie d fun x => { x with
    computeReset := true, tx := {}, groups := [], entropy := {}
    xlate := { roots := x.xlate.roots, inval := x.xlate.inval }
    links := x.links.map Link.withoutReads, recks := x.recks.map Reckoner.cleared, integ := { key := x.integ.key } }
  (paused.foldl (fun s e => s.onExec e.fn e.q e.index fun e => { e with paused := none }) (s.ackDie d)).refreshGroups d

/-- The islands leave reset (R675, R623). -/
def State.leaveComputeReset (s : State) (d : Nat) : State :=
  let s := s.onDie d fun x => { x with computeReset := false, cmdBusy := false }
  (s.execs.filter fun e => e.isCopy && e.q != 0).foldl
    (fun s e => if e.phase == .running && e.paused.isNone then s.runCopy e.fn e.q e.index else s) s

/-- A PLL out of lock holds the die-compute domain in reset (R622, R623). -/
def Clocks.holdsCompute (c : Clocks) : Bool := c.unlocked.contains .cpll || c.unlocked.contains .dpll

/-- DIE_RESET_RAMP_DOWN_DONE (R675): RESET_ACTIVE and CMD_BUSY clear together, unless a PLL still holds the domain. -/
def execDieResetRampDownDone (d : Nat) (s : State) : Result :=
  atDie s d <|
    if !(s.die d).cmdBusy then s
    else if (s.die d).clocks.holdsCompute then s.onDie d fun x => { x with cmdBusy := false }
    else s.leaveComputeReset d

/-! ### Forwarding-plane reset (R289) -/

/-- Registers of a die's forwarding plane that the Spine writes again from its copies: ENDPOINT_ID, EDITION_CTL, ROUTE_CTL,
credit grants and port controls (R289, step 4). -/
def rewritten (p : Page) (off : Nat) : Bool :=
  match p.kind with
  | .router0 => off == 0x100 || off == 0x104 || off == 0x110
  | .alram | .quire => off == 0x100 || decide (0x140 ≤ off ∧ off < 0x16C)
  | .ethPort => off == 0x100
  | _ => false

/-- A link after its plane's reset: it trains where it is wired and enabled (R289, step 5). -/
def State.retrain (s : State) (d l : Nat) : State := if s.wired d l && s.linkEnabled d l then s.linkTrain d l else s

/-- A forwarding plane at its reset values, with what the Spine writes again; its ports are down, and the reads on its Alram
ports end (R258). -/
def State.clearForwarding (s : State) (d : Nat) : State :=
  let s := (s.failReads d).closeEarly d fun p => p.kind.domain == .forwarding
  let kept := s.regs.filter fun e => match pageOfAddr e.1 with
    | some p => p.die == d && p.kind.domain == .forwarding && rewritten p (e.1 - p.addr)
    | none => false
  let s := s.clearPages fun p => p.die == d && p.kind.domain == .forwarding
  let s := { s with regs := kept.foldl (fun m (e : Nat × Word64) => FMap.set m e.1 e.2) s.regs }
  s.onDie d fun x => { x with
    scheds := Die.reset.scheds, links := Die.reset.links, eth := Die.reset.eth
    router := { Die.reset.router with routes := x.router.routes, nextId := x.router.nextId } }

/-- Enabled ports of a die begin training (R289, R298). -/
def State.trainPorts (s : State) (d : Nat) : State :=
  let s := (List.range 6).foldl (fun s l => s.retrain d l) s
  (List.range 4).foldl (fun s k =>
    if bit (s.reg ⟨d, .ethPort, k⟩ 0x100) 31 then
      s.onDie d fun x => { x with eth := modifyAt x.eth k fun e => { e with state := .training } }
    else s) s

/-- A forwarding-plane reset of a die (R289). -/
def State.forwardingReset (s : State) (d : Nat) : State := (s.clearForwarding d).trainPorts d

/-- FORWARDING_PLANE_RESET (R289): the Spine's RESET of the forwarding plane group page. -/
def execForwardingPlaneReset (d : Nat) (s : State) : Result := atDie s d (s.forwardingReset d)

/-! ### Package resets (R625) -/

/-- A die after a package warm reset: its forwarding plane, its fabric time, and the retirements stay. -/
def Die.warm (brake : Bool) (x : Die) : Die :=
  { Die.reset with
    scheds := x.scheds, router := x.router, eth := x.eth, captures := x.captures, clocks := x.clocks
    links := x.links.map Link.withoutReads
    fwdReset := x.fwdReset
    time := { x.time with ptpLocked := false, synced := false, epochOffset := 0 }
    power := { brake := brake }
    recks := x.recks.map Reckoner.cleared }

/-- The Spine at a new start: OTP and flash stay (R625), with the slots and the binding record in it. -/
def Spine.restart (x : Spine) (phase : StartPhase) (cold : Bool) : Spine :=
  { phase := phase, cold := cold, otp := x.otp, flash := x.flash, flashBad := x.flashBad, slots := x.slots
    certs := x.certs, copy := x.copy, sequence := x.sequence, formats := x.formats, unlocked := x.unlocked && !cold }

/-- The part after a package warm reset: the start of R557 runs next. -/
def State.warmReset (s : State) : State :=
  let s := s.dieList.foldl (fun s d => (s.dropLocal d).closeEarly d fun p => p.kind.domain != .forwarding) s
  let s := s.clearPages fun p => p.kind.domain != .forwarding
  { part := s.part, pending := s.pending, now := s.now, free := s.free, mem := s.mem, regs := s.regs, totals := s.totals
    shadows := s.shadows, lowHalves := s.lowHalves, dies := s.dies.map (Die.warm s.brakePin)
    fns := s.fns.map (fun _ => ({} : Fn)), rkOwner := s.rkOwner.map (fun _ => 0), brakePin := s.brakePin
    spine := s.spine.restart (if s.board.strapTest || s.board.perst then .held else .rom) false
    board := { i3cAddr := s.board.i3cAddr, strapTest := s.board.strapTest, perst := s.board.perst, link := s.board.link
               waking := s.board.waking }
    outbox := s.outbox }

/-- The part after a package cold reset, with PERST_N asserted: OTP and flash stay. -/
def State.coldReset (s : State) : State :=
  { part := s.part, pending := s.pending, now := s.now, free := s.free
    dies := s.dies.map (fun x => { Die.reset with recks := x.recks.map Reckoner.cleared })
    fns := s.fns.map (fun _ => ({} : Fn)), rkOwner := s.rkOwner.map (fun _ => 0), brakePin := s.brakePin
    spine := s.spine.restart .held true, outbox := s.outbox }

/-- PERST_N_ASSERT (R625, R668). -/
def execPerstNAssert (s : State) : Result := .next s.coldReset

/-- RAIL_FAULT (R674): a rail of groups 1 to 4 out of tolerance while PERST_N is deasserted is a power loss. -/
def execRailFault (rail : Nat) (s : State) : Result :=
  .next (if s.board.perst || rail = 0 then s else s.coldReset)

/-- The PCI Express link trains with the partner that the host offers (R65): FLIT_MODE, RATE and WIDTH are free values that
keep R65. -/
def State.trainPcie (s : State) : State :=
  let v := s.takeFree
  let rate := v.1.toNat % 7
  let width := ([1, 2, 4][v.1.toNat / 8 % 3]?).getD 4
  { v.2 with board := { v.2.board with link := some (decide (5 ≤ rate) || bit v.1.toNat 8, rate, width) } }

/-- POWER_BRAKE_N taken as asserted on every die (R618, R629). -/
def State.brakeDies (s : State) : State :=
  s.dieList.foldl (fun s d =>
    let p : Page := ⟨d, .power, 0⟩
    ((s.onDie d fun x => { x with power := { x.power with brake := true } }).count p Ctr.powerBrakeEvents).raise p 2) s

/-- PERST_N_DEASSERT (R626, R667): the straps are latched, die 0 is released and the link trains. -/
def execPerstNDeassert (i3cAddr : BitVec 3) (strapTest : Bool) (s : State) : Result :=
  .next <|
    if !s.board.perst then s else
    let s := { s with board := { s.board with perst := false, i3cAddr := i3cAddr, strapTest := strapTest } }
    let s := if s.brakePin then s.brakeDies else s
    if strapTest then s else { s with spine := { s.spine with phase := .rom } }.trainPcie

/-- A package warm reset (R625): the PCI Express link goes down and trains again. -/
def State.packageWarm (s : State) : State :=
  if s.spine.phase == .held then s else s.warmReset.trainPcie

end Sys2Proof.Machine
end

