-- ==== Sys2Proof/Machine/Cipher.lean ====
section
/-!
DEFINITION. The cipher engine and the key slots (R578 to R587): CIPHER descriptors, the entropy source, and the key
commands of the user pages.
-/

namespace Sys2Proof.Machine

/-- Page 0 of a die's cipher engine, and its user page of function `f` (R586). -/
abbrev cipherPage (d : Nat) : Page := ⟨d, .cipher, 0⟩
abbrev cipherUserPage (d f : Nat) : Page := ⟨d, .cipherUser, f⟩

/-! ### CIPHER descriptors (R583 to R585) -/

/-- MODE (0 GCM, 1 XTS, 2 CBC, 3 CMAC), DIRECTION (true to decrypt or verify) and AAD_LENGTH of a CIPHER descriptor. -/
def cMode (d : List Byte) : Nat := bits (le d 0x30 4) 1 0
def cBack (d : List Byte) : Bool := bit (le d 0x30 4) 2
def cAad (d : List Byte) : Nat := le d 0x34 4

/-- The key slot that a CIPHER descriptor may use: loaded, with the USAGE bit of its MODE (R583). -/
def State.cipherKey (s : State) (f : Nat) (d : List Byte) : Option KeySlot :=
  match s.keySlot f (dTarget d % 128) with
  | some k => if bit k.usage (1 + cMode d) then some k else none
  | none => none

/-- Form of a CIPHER descriptor (R127, R583, R584). -/
def State.formCipher (s : State) (f : Nat) (d : List Byte) : Option Nat :=
  let m := cMode d
  let n := dLength d
  firstOffence [headForm d false (if m = 1 then 16777216 else 0x80000000) false,
    offence (dTarget d / 128 != 0 || (s.cipherKey f d).isNone) 4,
    offence (m == 3 && dDst d != 0) 0x10,
    offence (decide (m = 1 ∧ n < 16) || (m == 2 && cBack d && n % 16 != 0)) 0x18,
    offence (bits (le d 0x30 4) 31 3 != 0) 0x30,
    offence (if m = 0 then decide (65536 < cAad d) else cAad d != 0) 0x34,
    offence (!allZero (slice d 0x38 8)) 0x38]

/-- What a CIPHER descriptor computes: the bytes for DST_ADDR, the tag that it writes, and the DETAIL of a failed check
(R584, R585). -/
structure CipherOut where
  out    : List Byte
  tag    : List Byte := []
  failed : Nat := 0
  deriving DecidableEq, Repr

/-- PKCS#7 padding of the last block of a CBC text: its length where it is valid. -/
def pkcs7 (bs : List Byte) : Option Nat :=
  let n := ((bs.getLast?).getD 0).toNat
  if 1 ≤ n ∧ n ≤ 16 ∧ n ≤ bs.length ∧ (bs.drop (bs.length - n)).all (·.toNat == n) then some n else none

/-- A CIPHER descriptor's result from its key, parameter block, additional data and input (R584). -/
def cipherCompute (mode : Nat) (back : Bool) (k : KeySlot) (iv tag aad text : List Byte) : CipherOut :=
  match mode with
  | 0 =>
    let out := gcmCrypt k.key (iv.take 12) text
    if back then ⟨out, [], if gcmTag k.key (iv.take 12) aad text == tag then 0 else 1⟩
    else ⟨out, gcmTag k.key (iv.take 12) aad out, 0⟩
  | 1 => ⟨xtsCrypt (!back) k.key k.second iv text, [], 0⟩
  | 2 =>
    if back then
      let p := cbcDecrypt k.key iv text
      match pkcs7 p with
      | some n => ⟨p.take (p.length - n), [], 0⟩
      | none => ⟨p.take (p.length - 16), [], 2⟩
    else
      let n := 16 - text.length % 16
      ⟨cbcEncrypt k.key iv (text ++ List.replicate n (BitVec.ofNat 8 n)), [], 0⟩
  | _ =>
    let t := cmac k.key text
    if back then ⟨[], [], if t == tag then 0 else 1⟩ else ⟨[], t, 0⟩

/-- Length of what a CIPHER descriptor writes, where its key has not the form of its MODE: then the bytes are free values,
since no rule gives them. -/
def cipherFree (mode : Nat) (back : Bool) (n : Nat) (s : State) : CipherOut × State :=
  let len := if mode = 2 && !back then (n / 16 + 1) * 16 else if mode = 3 then 0 else n
  let a := State.takeFreeBytes len s
  let t := if back || decide (mode = 1 ∨ mode = 2) then ([], a.2) else State.takeFreeBytes 16 a.2
  (⟨a.1, t.1, 0⟩, t.2)

/-- The reads of a CIPHER descriptor in order: address and length of the IV or tweak, the tag to compare, the additional
data, and the input; a length of 0 for what the MODE does not use. -/
def cipherReads (d : List Byte) : List (Word64 × Nat) :=
  let o := dOperand d
  let m := cMode d
  [(o, if m = 3 then 0 else 16), (o + 16, if cBack d && (m == 0 || m == 3) then 16 else 0), (o + 32, cAad d), (dSrc d, dLength d)]

/-- Reads by the cipher engine of a die for a function, in order, to the first that fails. -/
def State.cipherFetch (d f : Nat) : List (Word64 × Nat) → State → MemOut × List (List Byte) × State
  | [], s => (.ok [], [], s)
  | (a, n) :: l, s =>
    if n = 0 then
      match State.cipherFetch d f l s with
      | (m, bs, s) => (m, [] :: bs, s)
    else if gaEndpoint a != s.endpoint d then (.denied, [], s)
    else
      match s.read d 9 f (gaOffset a) n with
      | (.ok b, s) =>
        match State.cipherFetch d f l s with
        | (m, bs, s) => (m, b :: bs, s)
      | (m, s) => (m, [], s)

/-- Writes by the cipher engine from byte `moved` of its output on: the bytes moved, and the first failure. -/
def State.cipherPut (d f : Nat) (dst tagAt : Word64) (out tag : List Byte) : Nat → Nat → State → CopyOut × State
  | 0, moved, s => (.done moved, s)
  | fuel + 1, moved, s =>
    let n := out.length
    if n + tag.length ≤ moved then (.done moved, s) else
    let a := if moved < n then dst + BitVec.ofNat 64 moved else tagAt + BitVec.ofNat 64 (moved - n)
    let k := if moved < n then pieceLen (gaOffset a) 0 (n - moved) else pieceLen (gaOffset a) 0 (n + tag.length - moved)
    if gaEndpoint a != s.endpoint d then (.stop stAccessDenied, s) else
    match s.write d 9 f (gaOffset a) (slice (out ++ tag) moved k) with
    | (.ok _, s) => State.cipherPut d f dst tagAt out tag fuel (moved + k) s
    | (m, s) => (copyStop m moved d true, s)

/-- The output of a CIPHER descriptor put in its place, from where it stands: its end, or a pause on a fault. -/
def State.cipherWrite (s : State) (f q : Nat) (i : Word) (owner : Nat) : State :=
  match s.exec? f q i with
  | none => s
  | some e =>
    let d := e.desc
    let n := e.data.length - (if cMode d = 0 ∨ cMode d = 3 then (if cBack d then 0 else 16) else 0)
    match State.cipherPut owner f (dDst d) (dOperand d + 16) (e.data.take n) (e.data.drop n) (e.data.length / 1024 + 8) e.moved s with
    | (.fault m die k o w, s) =>
      (s.onExec f q i fun e => { e with moved := m, paused := some (die, o / 2 ^ 25) }).fault die 9 f o k w none s.now
    | (.stop st, s) => s.finish f q i st dtLocal 0 0
    | (.done _, s) =>
      let p := cipherUserPage owner f
      let s := (s.count p Ctr.cipherUserCipherOps).count p Ctr.cipherUserCipherBytes (dLength d)
      if e.detail = 0 then s.finish f q i stSuccess 0 n 0
      else (s.count p Ctr.cipherUserAuthFailures).finish f q i stCipherAuth e.detail n 0

/-- A CIPHER descriptor in execution: it reads its whole input and then writes its output (DESIGN CHOICE: no rule orders
the two). -/
def State.runCipher (s : State) (f q : Nat) (i : Word) : State :=
  match s.exec? f q i, s.queue f q with
  | some e, some x =>
    let d := e.desc
    let owner := x.owner
    if !s.hasEndpoint owner then s.finish f q i stAccessDenied dtLocal 0 0
    else if !e.data.isEmpty then s.cipherWrite f q i owner
    else
      match State.cipherFetch owner f (cipherReads d) s with
      | (.ok _, [iv, tag, aad, text], s) =>
        let r := match s.cipherKey f d with
          | some k =>
            if k.second.isEmpty != (cMode d == 1) then (cipherCompute (cMode d) (cBack d) k iv tag aad text, s)
            else cipherFree (cMode d) (cBack d) (dLength d) s
          | none => cipherFree (cMode d) (cBack d) (dLength d) s
        (r.2.onExec f q i fun e => { e with data := r.1.out ++ r.1.tag, detail := r.1.failed }).cipherWrite f q i owner
      | (.fault k o, _, s) =>
        (s.onExec f q i fun e => { e with paused := some (owner, o / 2 ^ 25) }).fault owner 9 f o k false none s.now
      | (.poisoned, _, s) => s.finish f q i stPoisoned dtLocal 0 0
      | (.tallyFailed, _, s) => s.finish f q i stTallyFailed dtLocal 0 0
      | (_, _, s) => s.finish f q i stAccessDenied dtLocal 0 0
  | _, _ => s

/-- CIPHER descriptors that wait on a page key of a function on a die. -/
def State.ciphersPaused (s : State) (d f key : Nat) : List Exec :=
  s.execs.filter fun e => dOpcode e.desc == 0x30 && e.q != 0 && e.fn == f && e.paused == some (d, key)

/-- They run on (R353). -/
def State.retryCiphers (s : State) (d f key : Nat) : State :=
  (s.ciphersPaused d f key).foldl
    (fun s e => (s.onExec e.fn e.q e.index fun e => { e with paused := none }).runCipher e.fn e.q e.index) s

/-- They end (R354, R366). -/
def State.abortCiphers (s : State) (d f key : Nat) : State :=
  (s.ciphersPaused d f key).foldl (fun s e => s.finish e.fn e.q e.index stTranslationFault dtLocal 0 0) s

/-! ### The entropy source (R582) -/

/-- Whether the cipher engine of a die begins no descriptor: its DRBG is not seeded, or a reseed fell due while a health
failure stood. -/
def State.cipherHeld (s : State) (d : Nat) : Bool := !(s.die d).entropy.seeded || (s.die d).entropy.blocked

/-- ENTROPY_HEALTH_FAILURE (R582). -/
def execEntropyHealthFailure (d : Nat) (s : State) : Result :=
  atDie s d <|
    if (s.die d).computeReset then s else
    ((s.onDie d fun x => { x with entropy := { x.entropy with ok := false } }).count (cipherPage d)
      Ctr.cipherHealthFailures).error (cipherPage d) 0x0100

/-- ENTROPY_HEALTH_PASS (R582): the source passes, and the DRBG is seeded again. -/
def execEntropyHealthPass (d : Nat) (s : State) : Result :=
  atDie s d <|
    if (s.die d).computeReset then s else
    let again := (s.die d).entropy.seeded
    let s := s.onDie d fun x => { x with entropy := { ok := true, seeded := true, blocked := false } }
    if again then s.count (cipherPage d) Ctr.cipherReseeds else s

/-- DRBG_RESEED (R582): a reseed falls due. -/
def execDrbgReseed (d : Nat) (s : State) : Result :=
  atDie s d <|
    if (s.die d).computeReset then s
    else if (s.die d).entropy.ok then
      (s.onDie d fun x => { x with entropy := { x.entropy with seeded := true } }).count (cipherPage d) Ctr.cipherReseeds
    else s.onDie d fun x => { x with entropy := { x.entropy with blocked := true } }

/-! ### Key commands (R578 to R581, R587) -/

/-- Results of a key command (KEY_STAT.RESULT). -/
def krOk : Nat := 0
def krBadFormat : Nat := 1
def krAuthFailed : Nat := 2
def krWrongFunction : Nat := 3
def krInUse : Nat := 4
def krDebugUnlocked : Nat := 5
def krReadFailed : Nat := 6

/-- Whether a queue pair, a sequence entry or a descriptor of a function names a handle (R587). -/
def State.keyInUse (s : State) (f h : Nat) : Bool :=
  let names (bs : List Byte) : Bool := dOpcode bs == 0x30 && dTarget bs % 128 == h
  (s.qps.any fun x => x.2.fn == f && x.2.gcm && x.2.key == h) ||
  ((s.heldReckoners f).any fun r => (s.reck r.1 r.2).seqs.any fun e => e.state != 0 && e.key == h) ||
  (s.execs.any fun e => e.fn == f && e.q != 0 && names e.desc) ||
  s.queues.any fun x => x.1 / 65536 == f && x.1 % 65536 != 0 && x.2.slots.any fun t => t.kind == .current && names t.bytes

/-- KIND of a blob. -/
def blobKind (b : List Byte) : Nat := bits (le b 4 4) 19 16

/-- Whether a blob's fields are as R580 says, but for KIND, FUNCTION and HANDLE. -/
def State.blobOk (s : State) (b : List Byte) : Bool :=
  let w := le b 4 4
  b.length == 208 && le b 0 4 == 0x504B4C52 && bits w 15 0 == 1 && bits w 23 20 == 0 && bits w 31 30 == 0 &&
  bits (le b 8 4) 7 5 == 0 && bits (le b 8 4) 31 15 == 0 && le b 0x0C 4 == 0 && le b 0x10 8 == s.spine.otp.serial.toNat &&
  allZero (slice b 0x79 7)

/-- The key of a blob (R581): none where EPHEMERAL is no point of the curve or the GCM tag fails. -/
def State.unwrap (s : State) (b : List Byte) : Option (List Byte) :=
  match pointOf (slice b 0x18 97) with
  | none => none
  | some g =>
    match ecMul (Config.agreementScalar s.spine.otp.secret) g with
    | none => none
    | some z =>
      let k := hkdf (toBE 48 z.1) (slice b 0x10 8) (([0x52, 0x4C, 0x4B, 0x57] : List Byte) ++ b.take 0x10) 32
      let w := slice b 0x80 64
      if gcmTag k (zeros 12) (b.take 0x80) w == slice b 0xC0 16 then some (gcmCrypt k (zeros 12) w) else none

/-- A loaded key slot put in force on every die, its connection counters at 0. -/
def State.putKey (s : State) (f h : Nat) (key : List Byte) (kind usage : Nat) : State :=
  let slot : KeySlot := { key := key.take 32, second := if kind = 1 then key.drop 32 else [], usage := usage,
                          counters := List.replicate s.dies.length 0 }
  { s with keys := FMap.set s.keys (f * 65 + h) slot }

/-- What a load gives (R587), and the key it loads. -/
def State.loadResult (s : State) (f h : Nat) : Nat × List Byte × State :=
  let a : Word64 := BitVec.ofNat 64 (s.reg (cipherUserPage 0 f) 0x100)
  if s.spine.unlocked then (krDebugUnlocked, [], s)
  else if gaEndpoint a != s.endpoint 0 || !s.hasEndpoint 0 then (krReadFailed, [], s)
  else
    match s.read 0 10 f (gaOffset a) 208 with
    | (.ok b, s) =>
      if !s.blobOk b || decide (1 < blobKind b) || bits (le b 8 4) 14 8 != h || h == 0 || decide (64 < h) then (krBadFormat, [], s)
      else if bits (le b 8 4) 4 0 != f then (krWrongFunction, [], s)
      else
        match s.unwrap b with
        | none => (krAuthFailed, [], s)
        | some k =>
          if (s.keySlot f h).isSome && s.keyInUse f h then (krInUse, [], s)
          else (krOk, k, s.putKey f h k (blobKind b) (bits (le b 4 4) 31 24))
    | (_, s) => (krReadFailed, [], s)

/-- A key command ends (R586, R587): KEY_STAT shows it, and INT_RAW bit 0 of the user page is set. -/
def State.keyEnd (s : State) (f h result : Nat) : State :=
  let p := cipherUserPage 0 f
  (s.setReg p 0x10C (h % 128 * 2 ^ 24 + result)).raise p 1

/-- KEY_LOAD (R587): KEY_CMD with GO at 1 and ERASE at 0. -/
def execKeyLoad (f : Nat) (value : Word) (s : State) : Result :=
  atFn s f <| s.fromFn f <| s.guarded (cipherUserPage 0 f) <|
    let v := value.toNat
    if !bit v 31 || bit v 30 then s else
    let h := bits v 6 0
    let r := s.loadResult f h
    let p := cipherUserPage 0 f
    (r.2.2.count p (if r.1 = 0 then Ctr.cipherUserKeyLoads else Ctr.cipherUserKeyLoadFailures)).keyEnd f h r.1

/-- KEY_ERASE (R587): KEY_CMD with GO and ERASE at 1. -/
def execKeyErase (f : Nat) (value : Word) (s : State) : Result :=
  atFn s f <| s.fromFn f <| s.guarded (cipherUserPage 0 f) <|
    let v := value.toNat
    if !bit v 31 || !bit v 30 then s else
    let h := bits v 6 0
    if s.keyInUse f h then s.keyEnd f h krInUse
    else
      let s := { s with keys := FMap.erase s.keys (f * 65 + h) }
      s.keyEnd f h krOk

end Sys2Proof.Machine
end

