-- ==== Sys2Proof/Machine/Spine.lean ====
section
/-!
DEFINITION. The Spine: start (R557 to R559), images and their delivery (R560 to R566), Quire slots and the binding record
(R567 to R570), Spine update (R571, R572), and the guards of R555.
-/

namespace Sys2Proof.Machine

/-- The Spine changed. -/
def State.onSpine (s : State) (f : Spine → Spine) : State := { s with spine := f s.spine }

/-- The Spine mailbox page. -/
abbrev mailboxPage : Page := ⟨0, .mailbox, 0⟩

/-! ### Images (R561, R562) -/

/-- Fields of an image header. -/
def hType (h : List Byte) : Nat := le h 5 1
def hVersion (h : List Byte) : Nat := le h 0x0C 4
def hSecurity (h : List Byte) : Nat := le h 0x10 4
def hLength (h : List Byte) : Nat := le h 0x14 4
def hFormat (h : List Byte) : Nat := le h 0x1C 2

/-- The bit of this part in PARTS. -/
def partBit : Part → Nat
  | .rf2 => 0
  | .rf4 => 1
  | .rf8 => 2

/-- Check 1 of R562. -/
def headerOk (h : List Byte) : Bool :=
  let w := le h 4 4
  h.length == 256 && le h 0 4 == 0x49565243 && bits w 7 0 == 1 && (hType h == 1 || hType h == 2) && bits w 31 19 == 0 &&
  le h 0x1F 1 == 0 && allZero (slice h 0x50 0x40) && allZero (slice h 0xF0 16) &&
  decide (1 ≤ hLength h ∧ hLength h ≤ if hType h = 1 then 524288 else 16776960)

/-- Checks 1 to 6 of R562 on a header: the code of the first that fails, 0 for none. -/
def State.checkHeader (s : State) (h : List Byte) : Nat :=
  let o := s.spine.otp
  let key := (o.imageKeys[le h 0x1E 1]?).getD none
  if !headerOk h then 1
  else if le h 8 2 ≠ 0x0A51 ∨ !bit (le h 4 4) (16 + partBit s.part) then 2
  else if !bit (le h 0x0A 2) Config.stepping then 3
  else if key.isNone ∨ o.imageRevoked.contains (le h 0x1E 1) then 4
  else if !ecdsaVerify (key.getD (0, 0)) (sha384 (h.take 0x90)) (slice h 0x90 96) then 5
  else if hSecurity h < (if hType h = 1 then o.minSpine else o.minQuire) then 6
  else 0

/-- Whether an image passes the checks of a start: its header, its length and its body's digest. -/
def State.imageOk (s : State) (i : Image) : Bool :=
  s.checkHeader i.header == 0 && i.body.length == hLength i.header && sha384 i.body == slice i.header 0x20 48

/-! ### Quire slots and the binding record (R567 to R570) -/

/-- Quire slot `k` of the Spine. -/
def Spine.slot (x : Spine) (k : Nat) : QuireSlot := (x.slots[k]?).getD {}

/-- The number of the slot in a state. -/
def Spine.slotIn (x : Spine) (v : SlotState) : Option Nat := lowestBelow 2 fun k => (x.slot k).state == v

/-- A Quire slot changed, and a new binding record written into the other copy (R569). -/
def Spine.onSlot (x : Spine) (k : Nat) (f : QuireSlot → QuireSlot) : Spine :=
  { x with slots := modifyAt x.slots k f, copy := 1 - x.copy, sequence := x.sequence + 1 }

/-- A Quire slot erased (R566, R567): nothing is left in it. -/
def Spine.eraseSlot (x : Spine) (k : Nat) : Spine := x.onSlot k fun _ => {}

/-- The image that runs on the quire cores. -/
def Spine.quire (x : Spine) : Image := (x.slot x.inUse).image

/-- QUIRE_TRIAL: the running Quire image is in TRIAL. -/
def Spine.trial (x : Spine) : Bool := (x.slot x.inUse).state == .trial

/-- A Quire image finds or builds the section of its format (R570): the record holds it from then on. -/
def Spine.takeSection (x : Spine) : Spine :=
  let n := hFormat x.quire.header
  if x.formats.1 = n ∨ x.formats.2 = n then x
  else { x with formats := if x.formats.1 = 0 then (n, x.formats.2) else (x.formats.1, n)
                copy := 1 - x.copy, sequence := x.sequence + 1 }

/-! ### Start (R557, R558, R568) -/

/-- BOOT_ROM_START (R557 steps 1 and 2, R558): the Spine image is verified and started, or the boot ROM stops. -/
def execBootRomStart (s : State) : Result :=
  .next <|
    if s.spine.phase != .rom then s else
    let s := (s.dieList.drop 1).foldl (fun s d => s.onDie d fun x => { x with computeReset := true }) s
    let i := s.spine.flash
    if !s.spine.flashBad && hType i.header == 1 && s.imageOk i then
      s.onSpine fun x => { x with phase := .spine, image := i }
    else s.onSpine fun x => { x with phase := .dead }

/-- The PF opens (R538, R557 step 7), and a Spine that opens it for the first time raises the minimum (R571). -/
def State.openPf (s : State) : State :=
  let s := s.onSpine fun x =>
    { x with opened := true, otp := { x.otp with minSpine := max x.otp.minSpine (min 64 (hSecurity x.image.header)) } }
  let s := { s with ready := true }
  (s.onFn 0 fun x => { x with enable := true, phase := .opening }).reachOpen 0

/-- QUIRE_FAILED (R568): the PF opens with every die's compute domain held in reset. -/
def State.failQuire (s : State) : State :=
  let s := s.dieList.foldl (fun s d => s.onDie d fun x => { x with computeReset := true }) s
  (s.onSpine fun x => { x with phase := .failed, quireFailed := true }).openPf

/-- A Quire slot loaded onto the quire cores of every die (R557 step 5, R567). -/
def State.loadSlot (s : State) (k : Nat) : State :=
  s.onSpine fun x =>
    let x := if (x.slot k).state == .trial then x.onSlot k fun q => { q with tried := true } else x
    { x with phase := .loading, inUse := k, reports := [], misses := List.replicate 8 0 }

/-- The ACTIVE slot loaded, or QUIRE_FAILED where there is none that passes its checks (R568). -/
def State.loadActive (s : State) : State :=
  match s.spine.slotIn .active with
  | some k => if s.imageOk (s.spine.slot k).image then s.loadSlot k else s.failQuire
  | none => s.failQuire

/-- The Quire slot of a start chosen and loaded (R567, R568): a TRIAL image that has not been tried, else the ACTIVE one. -/
def State.chooseQuire (s : State) : State :=
  match s.spine.slotIn .trial with
  | none => s.loadActive
  | some k =>
    if !(s.spine.slot k).tried && s.imageOk (s.spine.slot k).image then s.loadSlot k
    else (s.onSpine fun x => x.onSlot k fun q => { q with state := .rejected, tried := true }).loadActive

/-- The selection key of a die drawn from the DRBG (R494). -/
def State.drawKey (s : State) (d : Nat) : State :=
  let k := State.takeFreeBytes 32 s
  k.2.onInteg d fun x => { x with key := k.1 }

/-- SPINE_START (R557 steps 3 to 5): keys, policy tables, the dies, and the Quire image. -/
def execSpineStart (s : State) : Result :=
  .next <|
    if s.spine.phase != .spine then s else
    let s := s.dieList.foldl (fun s d =>
      (s.onDie d fun x => { x with computeReset := false, entropy := { ok := true, seeded := true } }).drawKey d) s
    let s := if s.spine.cold then
        s.dieList.foldl (fun s d => (List.range 4).foldl (fun s k => s.retrain d (k + 2)) s) s
      else s
    s.chooseQuire

/-- The default curves of R236, entry `i` of an ECN or a delay curve. -/
def defaultCurve (ecn : Bool) (i : Nat) : Nat :=
  if ecn then (if i = 0 then 34816 else 32768 - 512 * i) else (if i < 2 then 34816 else 32768 - 512 * (i - 1))

/-- What Quire firmware does on a die before it reports ready (R557 step 6): memories train, ports that are not UP train,
the default curves are written into both banks of every class. -/
def State.quireStart (s : State) (d : Nat) : State :=
  let s := s.onDie d fun x => { x with mems := x.mems.map fun m => { m with trained := true, selfRefresh := false } }
  let s := [0, 1].foldl (fun s l => if s.linkState d l == .up then s else s.retrain d l) s
  let s := (List.range 4).foldl (fun s k =>
    if bit (s.reg ⟨d, .ethPort, k⟩ 0x100) 31 && ((s.die d).eth[k]?.map EthPort.state) != some .up then
      s.onDie d fun x => { x with eth := modifyAt x.eth k fun e => { e with state := .training } }
    else s) s
  (List.range 8).foldl (fun s c => (List.range 64).foldl (fun s j =>
    let ecn := decide (16 ≤ j % 32)
    let i := 2 * (j % 16)
    s.setReg ⟨d, .curve, c⟩ (0x200 + 4 * j) (defaultCurve ecn i + 65536 * defaultCurve ecn (i + 1))) s) s

/-- QUIRE_READY (R557 steps 6 and 7): after the last report the PF opens. -/
def execQuireReady (d : Nat) (s : State) : Result :=
  atDie s d <|
    if s.spine.phase != .loading || s.spine.reports.contains d then s else
    let s := (s.quireStart d).onSpine fun x => { x with reports := d :: x.reports }
    if s.spine.reports.length = s.dies.length then (s.onSpine fun x => { x.takeSection with phase := .running }).openPf
    else s

/-- QUIRE_READY_TIMEOUT (R567, R568). -/
def execQuireReadyTimeout (s : State) : Result :=
  .next <|
    if s.spine.phase != .loading then s
    else if s.spine.trial then
      (s.onSpine fun x => x.onSlot x.inUse fun q => { q with state := .rejected }).loadActive
    else s.failQuire

/-- QUIRE_HEARTBEAT (R559). -/
def execQuireHeartbeat (d : Nat) (s : State) : Result :=
  atDie s d <| s.onSpine fun x => { x with misses := x.misses.set d 0 }

/-- HEARTBEAT_MISS (R559, R605): the third heartbeat missed in a row has the die's quire cores reset and reloaded. -/
def execHeartbeatMiss (d : Nat) (s : State) : Result :=
  atDie s d <|
    if s.spine.phase != .running || decide (3 ≤ s.powerReq) then s else
    let n := (s.spine.misses[d]?).getD 0 + 1
    if n < 3 then s.onSpine fun x => { x with misses := x.misses.set d n }
    else (s.onSpine fun x => { x with misses := x.misses.set d 0 }).count mailboxPage Ctr.mailboxQuireReloads

/-! ### Guards (R555) -/

/-- Whether the Spine runs. -/
def Spine.alive (x : Spine) : Bool :=
  match x.phase with
  | .spine | .loading | .running | .failed => true
  | _ => false

/-- WATCHDOG_EXPIRY (R555). -/
def execWatchdogExpiry (s : State) : Result :=
  .next (if s.spine.alive then (s.count mailboxPage Ctr.mailboxWatchdogResets).packageWarm else s)

/-- STATE_CHECKSUM (R555). -/
def execStateChecksum (same : Bool) (s : State) : Result :=
  .next (if s.spine.alive && !same then (s.count mailboxPage Ctr.mailboxChecksumResets).packageWarm else s)

/-- SPINE_ECC_ERROR (R555). -/
def execSpineEccError (corrected : Bool) (s : State) : Result :=
  .next <|
    if !s.spine.alive then s
    else if corrected then s.count mailboxPage Ctr.mailboxSpineEccCorrected
    else s.packageWarm

/-! ### GET_STATUS (R593, R594) -/

/-- The state of a slot as a number. -/
def SlotState.code : SlotState → Nat
  | .empty => 0
  | .trial => 1
  | .active => 2
  | .rejected => 3

/-- SPINE_STAT. -/
def State.spineStat (s : State) : Nat :=
  let x := s.spine
  b2n x.opened * 2 ^ 31 + b2n x.unlocked * 2 ^ 30 + b2n x.trial * 2 ^ 29 + b2n x.corrupt * 2 ^ 28 +
    b2n x.quireFailed * 2 ^ 27 + x.inUse * 2 ^ 26

/-- A byte list at a length: cut, or filled with zeros. -/
def fitTo (n : Nat) (bs : List Byte) : List Byte := bs.take n ++ zeros (n - bs.length)

/-- The GET_STATUS response: its values, in a layout that the spec does not give. -/
def State.statusResponse (s : State) : List Byte :=
  let x := s.spine
  let slot (k : Nat) : List Nat :=
    let h := (x.slot k).image.header
    [(x.slot k).state.code, hVersion h, hSecurity h, hFormat h]
  fitTo 64 (Config.statusBytes ([s.spineStat] ++ slot 0 ++ slot 1 ++ [x.otp.minSpine, x.otp.minQuire, hVersion x.image.header]))

/-! ### Delivery over the service port (R563 to R566) -/

/-- KIND of a message of the delivery protocol. -/
def dkAccept : Nat := 2
def dkRefuse : Nat := 3
def dkBlockAck : Nat := 5
def dkDone : Nat := 6
def dkStatus : Nat := 8

/-- A frame sent on the service port: header, payload and CRC-32C (R563). -/
def State.serviceSend (s : State) (kind code : Nat) (session : BitVec 16) (sequence : Nat) (payload : List Byte) : State :=
  let m := toBE 1 kind ++ toBE 1 code ++ toBE 2 session.toNat ++ toBE 4 sequence ++ toBE 2 payload.length ++ zeros 6 ++ payload
  s.emit (.service (m ++ toBE 4 (crc32c m).toNat))

/-- A frame as the part's state allows (R558): nothing before the boot ROM has run, STATUS DEAD once it has stopped. -/
def State.served (s : State) (session : BitVec 16) (r : State) : State :=
  if s.spine.phase == .dead then s.serviceSend dkStatus 1 session 0 s.statusResponse
  else if s.spine.alive then r else s

/-- The Quire slot that a delivery writes: the one that is not ACTIVE (R566). -/
def Spine.spare (x : Spine) : Nat := if (x.slot 0).state == .active then 1 else 0

/-- The refusal of an OFFER: all ten checks of R562, after R564. -/
def State.offerCode (s : State) (h : List Byte) : Nat :=
  let x := s.spine
  let quire := hType h == 2
  let code := s.checkHeader h
  let act := x.slotIn .active
  let ah := ((act.map x.slot).getD {}).image.header
  if x.delivery.isSome then 11
  else if code ≠ 0 then code
  else if quire && act.isSome && hFormat h != hFormat ah && hFormat h != hFormat ah + 1 then 7
  else if quire && act.isSome && hVersion h == hVersion ah then 8
  else if (x.slotIn .trial).isSome then 9
  else if x.unlocked then 10
  else 0

/-- OFFER (R562, R564, R566): a session starts, and the Quire slot to be written is erased. -/
def execOffer (session : BitVec 16) (header : List Byte) (s : State) : Result :=
  .next <| s.served session <|
    let code := s.offerCode header
    if code ≠ 0 then s.serviceSend dkRefuse code session 0 []
    else
      let s := s.onSpine fun x =>
        let x := if hType header = 2 then x.eraseSlot x.spare else x
        { x with delivery := some { session := session, header := header } }
      s.serviceSend dkAccept 0 session 0 []

/-- A body that has all arrived (R566, R567, R571, R572): the DONE code, and what flash holds then. -/
def Spine.deliver (x : Spine) (v : Delivery) (flashOk : Bool) : Nat × Spine :=
  let x := { x with delivery := none }
  let good := sha384 v.body == slice v.header 0x20 48
  if hType v.header = 2 then
    if !good then (1, x)
    else if !flashOk then (2, x)
    else
      let st : SlotState := if (x.slotIn .active).isSome then .trial else .active
      (0, x.onSlot x.spare fun _ => { state := st, tried := false, image := ⟨v.header, v.body⟩ })
  else if !good then (1, x)
  else if x.corrupt then (3, x)
  else if flashOk then (0, { x with flash := ⟨v.header, v.body⟩ })
  else (3, { x with flashBad := true, corrupt := true })

/-- BLOCK (R565, R566): accepted in order and acknowledged; the last one ends the delivery. -/
def execBlock (session : BitVec 16) (sequence : Word) (payload : List Byte) (flashOk : Bool) (s : State) : Result :=
  .next <| s.served session <|
    match s.spine.delivery with
    | none => s
    | some v =>
      if v.session != session then s else
      let left := hLength v.header - v.body.length
      if sequence.toNat ≠ v.next ∨ payload.length ≠ min 1024 left then s.serviceSend dkBlockAck 0 session v.next []
      else
        let ack := decide (v.since + 1 = 16)
        let v := { v with body := v.body ++ payload, next := v.next + 1, since := if ack then 0 else v.since + 1 }
        let s := s.onSpine fun x => { x with delivery := some v }
        let s := if ack then s.serviceSend dkBlockAck 0 session v.next [] else s
        if v.body.length = hLength v.header then
          let r := s.spine.deliver v flashOk
          (s.onSpine fun _ => r.2).serviceSend dkDone r.1 session 0 []
        else s

/-- STATUS_REQUEST (R563). -/
def execStatusRequest (session : BitVec 16) (s : State) : Result :=
  .next <| s.served session (s.serviceSend dkStatus 0 session 0 s.statusResponse)

/-- DELIVERY_ABORT (R565): the session ends; a Quire slot being written is EMPTY. -/
def execDeliveryAbort (session : BitVec 16) (s : State) : Result :=
  .next <| s.served session <|
    if (s.spine.delivery.map Delivery.session) = some session then s.onSpine fun x => { x with delivery := none } else s

/-- SESSION_TIMEOUT (R565). -/
def execSessionTimeout (s : State) : Result := .next (s.onSpine fun x => { x with delivery := none })

end Sys2Proof.Machine
end

