-- ==== Sys2Proof/Machine/Attest.lean ====
section
/-!
DEFINITION. What the part says of itself: the DOE mailbox of the PF (R77, R78), the SPDM requests that it carries (R575,
R576), and the ATTEST report (R577). An answer is held by its contents; the nonce of a signature and SPDM's transcript
digest are free values (notes/assumptions/3.md).
-/

namespace Sys2Proof.Machine

/-! ### Measurements (R576, R577) -/

/-- FLAGS of R577. -/
def State.attestFlags (s : State) : Nat :=
  b2n s.spine.unlocked + 2 * b2n s.spine.trial + 4 * b2n s.spine.corrupt + 8 * b2n s.spine.quireFailed

/-- The digest of an image, header and body. -/
def Image.digest (i : Image) : List Byte := sha384 (i.header ++ i.body)

/-- The key-agreement public key, an uncompressed point (R574). -/
def State.agreementKey (s : State) : List Byte := pointBytes (ecMul (Config.agreementScalar s.spine.otp.secret) bpG)

/-- VERSION and SECURITY_VERSION of the Spine and Quire images. -/
def State.imageVersions (s : State) : List Byte :=
  let a := s.spine.image.header
  let b := s.spine.quire.header
  toLE 4 (hVersion a) ++ toLE 4 (hSecurity a) ++ toLE 4 (hVersion b) ++ toLE 4 (hSecurity b)

/-- The measurement blocks of R576: index, DMTF value type and value. -/
def State.measurements (s : State) : List (Nat × Nat × List Byte) :=
  [(1, 0, Config.romDigest), (2, 1, s.spine.image.digest), (3, 1, s.spine.quire.digest),
    (4, 3, s.imageVersions ++ toLE 4 s.spine.otp.minSpine ++ toLE 4 s.spine.otp.minQuire),
    (5, 4, toLE 4 s.attestFlags), (6, 4, s.agreementKey)]

/-- A signature with the identity key over a digest, its per-signature number a free value (R575). -/
def State.identitySign (s : State) (digest : List Byte) : List Byte × State :=
  let k := State.takeFreeBytes 48 s
  (ecdsaSign k.2.spine.otp.identity (fromBE k.1) digest, k.2)

/-! ### Data Object Exchange (R77, R78) -/

/-- What the PF's DOE mailbox answers: the configuration space answers once the PF has been opened (R67). -/
def State.onDoe (s : State) (r : State) : State := if s.ready then r else s

/-- DOE_DISCOVERY (R77): the object types by index; an index past the last one names no type. -/
def execDoeDiscovery (index : Nat) (s : State) : Result :=
  .next <| s.onDoe <| s.emit <|
    if index = 0 then .doeDiscovery 1 0 1 else if index = 1 then .doeDiscovery 1 1 0 else .doeDiscovery 0xFFFF 0 0

/-- DOE_UNSUPPORTED_OBJECT (R78). -/
def execDoeUnsupportedObject (vendor objType dwords : Nat) (s : State) : Result :=
  .next <| s.onDoe <|
    if vendor = 1 ∧ objType ≤ 1 ∧ dwords ≤ 1024 then s else { s with board := { s.board with doeError := true } }

/-- DOE_ABORT (R78): both directions are emptied. -/
def execDoeAbort (s : State) : Result := .next <| s.onDoe { s with board := { s.board with doeError := false } }

/-! ### SPDM (R575, R576) -/

/-- An SPDM response on the mailbox. -/
def State.spdm (s : State) (r : SpdmReply) : State := s.onDoe (s.emit (.spdm r))

/-- GET_VERSION (R575): version 1.2 only. The exchange begins anew. -/
def execGetVersion (s : State) : Result :=
  .next (s.onDoe ({ s with board := { s.board with extAsym := false } }.spdm (.version [(1, 2)])))

/-- GET_CAPABILITIES (R575). -/
def execGetCapabilities (s : State) : Result := .next (s.spdm (.capabilities 15 true true true))

/-- NEGOTIATE_ALGORITHMS (R575): what the requester offers among SHA-384 and the ExtAsym entry is selected. -/
def execNegotiateAlgorithms (sha extAsym : Bool) (s : State) : Result :=
  .next <| s.onDoe ({ s with board := { s.board with extAsym := sha && extAsym } }.spdm (.algorithms sha extAsym))

/-- GET_DIGESTS (R575): slot 0 only. -/
def execGetDigests (s : State) : Result := .next (s.spdm (.digests 1 (sha384 s.spine.certs)))

/-- GET_CERTIFICATE (R575): a portion of the chain of slot 0. -/
def execGetCertificate (slot offset length : Nat) (s : State) : Result :=
  .next <| s.spdm <|
    if slot ≠ 0 then .unsupportedRequest
    else .certificate 0 (slice s.spine.certs offset length) (s.spine.certs.length - (offset + length))

/-- A signature over a transcript whose digest the model leaves free. -/
def State.signTranscript (s : State) : List Byte × State :=
  let t := State.takeFreeBytes 48 s
  t.2.identitySign t.1

/-- CHALLENGE (R575): signed with the identity key, once the requester has selected the ExtAsym entry. -/
def execChallenge (slot : Nat) (_nonce : List Byte) (s : State) : Result :=
  .next <| s.onDoe <|
    if slot ≠ 0 || !s.board.extAsym then s.spdm .unsupportedRequest
    else
      let n := State.takeFreeBytes 32 s
      let g := n.2.signTranscript
      g.2.spdm (.challengeAuth 0 (sha384 s.spine.certs) n.1 g.1)

/-- GET_MEASUREMENTS (R576): every block, one of them, or their number. -/
def execGetMeasurements (index : Nat) (signed : Bool) (_nonce : List Byte) (s : State) : Result :=
  .next <| s.onDoe <|
    if (6 < index ∧ index ≠ 0xFF) ∨ (signed && !s.board.extAsym) then s.spdm .unsupportedRequest
    else
      let l := s.measurements.filter fun b => index == 0xFF || b.1 == index
      let n := State.takeFreeBytes 32 s
      if signed then
        let g := n.2.signTranscript
        g.2.spdm (.measurements 6 l n.1 (some g.1))
      else n.2.spdm (.measurements 6 l n.1 none)

/-- SPDM_UNSUPPORTED_REQUEST (R575). -/
def execSpdmUnsupportedRequest (_code : Byte) (s : State) : Result := .next (s.spdm .unsupportedRequest)

/-! ### ATTEST (R577) -/

/-- Bytes 0x000 to 0x13F of an ATTEST report. -/
def State.attestBody (s : State) (nonce : List Byte) : List Byte :=
  toLE 4 0x54535441 ++ toLE 2 1 ++ toLE 2 s.attestFlags ++ toLE 8 s.spine.otp.serial.toNat ++ fitTo 32 nonce ++
  toLE 8 (s.time 0).toNat ++ fitTo 48 s.spine.image.digest ++ fitTo 48 s.spine.quire.digest ++ fitTo 48 Config.romDigest ++
  s.imageVersions ++ fitTo 97 s.agreementKey ++ zeros 7

/-- An ATTEST report. -/
def State.attestReport (s : State) (nonce : List Byte) : List Byte × State :=
  let b := s.attestBody nonce
  let g := s.identitySign (sha384 b)
  (b ++ fitTo 96 g.1, g.2)

end Sys2Proof.Machine
end

