-- ==== Sys2Proof/Machine/Colophon.lean ====
section
/-!
DEFINITION. Colophon captures (R632 to R642) and the package's fabric time (R650 to R656): triggers, markers, channel
timeouts, arming, and the alignment of the dies.
-/

namespace Sys2Proof.Machine

/-! ### Triggers (R632 to R634) -/

/-- CAP_CMD_GO (R632). -/
def execCapCmdGo (d : Nat) (s : State) : Result := atDie s d (s.fromFn 0 (s.guarded (colophonPage d) (s.trigger d true)))

/-- Whether fabric time has reached CAP_TIME under TIME_EN. -/
def State.timeDue (s : State) (d : Nat) : Bool :=
  bit (s.reg (colophonPage d) 0x100) 30 && decide (s.reg (colophonPage d) 0x110 ≤ (s.time d).toNat)

/-- A capture that fabric time triggers, where it is due: TIME_EN is cleared (R632). -/
def State.fireDue (s : State) (d : Nat) : State :=
  if s.timeDue d then (s.setReg (colophonPage d) 0x100 (setBits (s.reg (colophonPage d) 0x100) 30 30 0)).trigger d true
  else s

/-- CAP_TIME_MATCH (R632). -/
def execCapTimeMatch (d : Nat) (s : State) : Result := atDie s d (s.fireDue d)

/-- COLOPHON_IN (R632, R674). -/
def execColophonIn (s : State) : Result :=
  .next (if bit (s.reg (colophonPage 0) 0x100) 28 && !s.board.perst then s.trigger 0 false else s)

/-- COLOPHON_OUT_RELEASE (R634). -/
def execColophonOutRelease (s : State) : Result := .next { s with colophonOut := false }

/-! ### Markers (R635, R636, R641) -/

/-- The link whose adapter a page is. -/
def Page.link (p : Page) : Option Nat :=
  match p.kind with
  | .alram => some p.inst
  | .quire => some (p.inst + 2)
  | _ => none

/-- A page sends a marker on, once for each number (R635): on a link for an adapter. What the other pages send on stays
inside the die, where MARKER_ARRIVAL names each arrival. -/
def State.sendOn (s : State) (p : Page) (n : Word) : State :=
  let c := s.cap p
  if (c.seen.map fun m => before m n).getD true then
    let s := s.setCap p { c with seen := some n, vcs := [] }
    match p.link with
    | some l => s.sendMarkers p.die l n
    | none => s
  else s

/-- A marker of number `n` reaches a page: counted as stale, or the page latches and sends it on (R635, R636). -/
def State.markerAt (s : State) (p : Page) (n : Word) : State :=
  let c := s.cap p
  if c.any && before n c.last.number then s.count (colophonPage p.die) Ctr.colophonMarkersStale
  else
    let s := if c.armed && (!c.any || before c.last.number n) then s.latch p n else s
    s.sendOn p n

/-- A channel of a page closed by a marker of number `n`, in that capture and in every earlier one (R636). -/
def State.closeBy (s : State) (p : Page) (src : Nat) (n : Word) : State :=
  let f (b : Bank) : Bank := if b.number == n || before b.number n then b.close src 1 else b
  let c := s.cap p
  if c.any then (s.setCap p (c.onBanks f)).refreshGroups p.die else s

/-- MARKER_ARRIVAL (R635, R636): `page` is the page's offset >> 12, `channel` the SOURCE of the channel; a page that is in
reset or power-gated takes no marker. -/
def execMarkerArrival (d page channel : Nat) (number : Word) (s : State) : Result :=
  match pageAt d (page * 4096) with
  | some p =>
    atDie s d <|
      if s.inReset p || s.gated p then s
      else
        let stale := (s.cap p).any && before number (s.cap p).last.number
        let s := s.markerAt p number
        if stale then s else s.closeBy p channel number
  | none => atUnit s d false s

/-- A marker packet taken from the link's input FIFO, or from where the router has delivered it. -/
def State.takeMarker (s : State) (d port : Nat) (p : Packet) : State :=
  match (((s.die d).router.fifos[port]?).getD []).find? fun f => f.pkt == p with
  | some f =>
    let s := s.onRouter d fun r => { r with fifos := modifyAt r.fifos port (·.erase f) }
    ((s.freeUnits d f.port f.vc f.units f.origin).editionCount d p.edition (· - 1)).noteOccupancy d
  | none => s.takeLocal d p

/-- The virtual channel whose marker is delivered to the far colophon block: VC 10 of a quire link, the lowest granted one
of an Alram port (R641). -/
def State.triggerVc (s : State) (d l : Nat) : Option Nat := if 2 ≤ l then some 10 else (s.markerVcs d l).head?

/-- A marker's number starts a capture at a die's colophon block, where it is after LAST_NUMBER (R632, R633). -/
def State.markerTrigger (s : State) (d : Nat) (n : Word) (origin : Nat) (at_ : Word64) : State :=
  if before (BitVec.ofNat 32 (s.reg (colophonPage d) 0x10C)) n then
    (s.capture d n origin at_ false).setReg (colophonPage d) 0x108 (n + 1).toNat
  else s

/-- COLOPHON_MARKER (R641, R642): a marker on a virtual channel of a link. The adapter latches at the first; its wire
channel closes once one has arrived on every virtual channel that carries them. -/
def execColophonMarker (d port vc : Nat) (p : Packet) (s : State) : Result :=
  atLink s d port fun l =>
    let s := s.takeMarker d port p
    let pg := linkPage d l
    if l < 2 && !bit (s.reg pg 0x100) 29 then s.opDrop d l
    else if p.body.length ≠ 16 then s
    else
      let n : Word := BitVec.ofNat 32 (be p.body 0 4)
      let s := if s.triggerVc d l == some vc then
          s.markerTrigger d n (bits (be p.body 4 4) 17 0) (BitVec.ofNat 64 (be p.body 8 8))
        else s
      let old := (s.cap pg).any && before n (s.cap pg).last.number
      let s := s.markerAt pg n
      if old then s else
      let c := s.cap pg
      if c.seen != some n then s else
      let vcs := if c.vcs.contains vc then c.vcs else vc :: c.vcs
      let s := s.setCap pg { c with vcs := vcs }
      if (s.markerVcs d l).all vcs.contains then s.closeBy pg srcWire n else s

/-! ### Channel timeouts (R639) -/

/-- CHANNEL_TIMEOUT (R639): the channel closes in the older capture in which it is open. -/
def execChannelTimeout (d page channel : Nat) (s : State) : Result :=
  match pageAt d (page * 4096) with
  | some p =>
    atDie s d <|
      let c := s.cap p
      let older := if c.lastB then c.bankA else c.bankB
      let inOlder := older.latched && older.hasOpen channel
      if inOlder || c.last.hasOpen channel then
        let useB := if inOlder then !c.lastB else c.lastB
        let c := if useB then { c with bankB := c.bankB.close channel 3 } else { c with bankA := c.bankA.close channel 3 }
        (((s.setCap p c).refreshGroups d).count (colophonPage d) Ctr.colophonChannelsTimedOut).raise (colophonPage d) 2
      else s
  | none => atUnit s d false s

/-! ### Arming (R45, R643) -/

/-- The pages of a leaf page's block (R41), itself included; a per-function page stands for itself. -/
def Page.block (p : Page) : List Page :=
  let fns (k : PageKind) : List Page := (List.range 17).map fun f => ⟨p.die, k, f⟩
  if p.kind.perFn then [p] else
  let h := p.home
  h :: match h.kind with
    | .reckoner => [⟨h.die, .recipeCtl, h.inst⟩, ⟨h.die, .format, h.inst⟩]
    | .rateCtl => (List.range 8).map (fun c => (⟨h.die, .curve, c⟩ : Page)) ++ fns .rate
    | .xlate => (⟨h.die, .fault, 0⟩ : Page) :: fns .xlateFn
    | .router0 => [⟨h.die, .router1, 0⟩]
    | .integrity => (⟨h.die, .collation, 0⟩ : Page) :: fns .integrityFn
    | .tx => fns .qpPage
    | .cipher => fns .cipherUser
    | .qm => fns .queuePage
    | _ => []

/-- A page and every page below it (R44, R45). -/
def State.below : Nat → State → Page → List Page
  | 0, _, p => [p]
  | k + 1, s, p =>
    if p.kind.isGroup then p :: (s.children p).flatten.flatMap (State.below k s) else p.block

/-- The pages that a BLK_CTL command reaches: on a leaf page those that share its BLK_CTL (R41). One in reset or power-gated
records nothing. -/
def State.reached (s : State) (p : Page) : List Page :=
  (if p.kind.isGroup then s.below 5 p else p.block.filter fun q => q == p || !q.kind.perFn).filter fun q =>
    !s.inReset q && !s.gated q

/-- COLOPHON_ARM or COLOPHON_DISARM on a page (R45). -/
def State.arm (s : State) (p : Page) (v : Bool) : State :=
  (s.reached p).foldl (fun s q => if q.kind.isGroup then s else s.setCap q { s.cap q with armed := v }) s

/-- CLEAR_ERRORS on a page (R45): FE_STATUS, FE_TIME and FE_DATA, not FE_COUNT. -/
def State.clearErrors (s : State) (p : Page) : State :=
  (s.reached p).foldl (fun s q =>
    let s := (s.setReg q 0x40 0).setReg q 0x48 0
    (List.range 44).foldl (fun s j => s.setReg q (0x50 + 4 * j) 0) s) s

/-! ### Fabric time (R651 to R656) -/

/-- The fabric time of a die changed. -/
def State.onTime (s : State) (d : Nat) (f : FabricTime → FabricTime) : State :=
  s.onDie d fun x => { x with time := f x.time }

/-- Fabric time of every die set to a value (R651). -/
def State.setTimes (s : State) (ns : Word64) : State :=
  s.dieList.foldl (fun s d => s.onTime d fun t => { t with ns := ns, frac := 0, slew := 0, timeSet := true }) s

/-- PACKAGE_TIME_SYNC (R654): die 0's fabric time reaches a die, which holds its own to it and shows PACKAGE_SYNCED. -/
def execPackageTimeSync (d : Nat) (s : State) : Result :=
  atDie s d <|
    if d = 0 then s else
    let t := (s.die 0).time
    s.onTime d fun x => { x with ns := t.ns, frac := t.frac, ppb := t.ppb, slew := t.slew, synced := true }

/-- PTP_SYNC_LOSS (R656): PTP_LOCKED clears on the die that runs PTP, and fabric time runs on at the last rate. -/
def execPtpSyncLoss (s : State) : Result :=
  .next <|
    let d := bits (s.reg (colophonPage 0) 0x12C) 30 28
    if (s.die d).time.ptpLocked then
      let s := s.dieList.foldl (fun s d => s.onTime d fun x => { x with ptpLocked := false }) s
      (s.count (colophonPage d) Ctr.colophonPtpSyncLosses).raise (colophonPage d) 4
    else s

end Sys2Proof.Machine
end

