-- ==== Sys2Proof/Machine/Clock.lean ====
section
/-!
DEFINITION. The passing of time: what one period of the 25 MHz reference, 40 ns, changes where no command waits. Fabric
time and its rate (R650, R652), the token counts (R217), the counters of ns, and the PTP frames that Quire firmware takes
(R655). Nothing else is driven by time alone: every timer and expiry is a command.
-/

namespace Sys2Proof.Machine

/-! ### Fabric time (R650, R652) -/

/-- An integer kept within ± a bound. -/
def clampInt (b x : Int) : Int := max (-b) (min b x)

/-- One period of 40 ns in units of 2^-16 ns. -/
def periodUnits : Int := 2621440

/-- Fabric time one period of the reference later: the period at the combined rate, which never exceeds ±500 ppm, with as
much of the offset still to be slewed as that leaves room for (R652). -/
def FabricTime.tick (t : FabricTime) : FabricTime :=
  let rate := clampInt 500000 (t.ppb + t.servo)
  let a := rate * periodUnits + t.carry
  let room (r : Int) : Int := r * periodUnits / 1000000000
  let step := max (-(room (500000 + rate))) (min (room (500000 - rate)) t.slew)
  let n := t.ns.toNat * 65536 + t.frac + (periodUnits + a / 1000000000 + step).toNat
  { t with ns := BitVec.ofNat 64 (n / 65536), frac := n % 65536, slew := t.slew - step, carry := a % 1000000000 }

/-! ### Tokens (R217 to R219) -/

/-- The token counts of a die's egress schedulers one period later: a shaped class gains RATE_MBPS × 40 ns, which is
RATE_MBPS units of 1/200 byte, up to CLASS_BURST. -/
def State.tickTokens (s : State) (d : Nat) : State :=
  (List.range 80).foldl (fun s j =>
    let i := j / 8
    let c := j % 8
    if bit (s.classReg d i c 0x140) 31 then
      s.onClass d i c fun k => { k with
        tokens := min ((s.classReg d i c 0x148 : Int) * 200) (k.tokens + bits (s.classReg d i c 0x144) 23 0) }
    else s) s

/-! ### Counters of ns -/

/-- 40 ns counted where a condition holds. -/
def State.countNs (s : State) (on : Bool) (p : Page) (k : Nat) : State := if on then s.count p k 40 else s

/-- Counters of ns of a Reckoner's recipe page and of its die's integrity page. -/
def State.tickRun (s : State) (d r : Nat) : State :=
  match (s.reck d r).run with
  | none => s
  | some x =>
    let p := recipePage d r
    (((s.countNs x.waiting p Ctr.recipeCtlWaitNs).countNs x.paused.isSome p Ctr.recipeCtlFaultPauseNs).countNs x.held p
      Ctr.recipeCtlReleaseHeldNs).countNs (!x.records.isEmpty) (integrityPage d) Ctr.integrityCheckBufferWaitNs

/-- Counters of ns of a die. -/
def State.tickCounters (s : State) (d : Nat) : State :=
  let s := (List.range 32).foldl (fun s j =>
    s.countNs ((((s.ethPort d (j / 8)).rxPause[j % 8]?).getD 0) != 0) (schedPage d (2 + j / 8))
      (Ctr.schedPausedNsClass + j % 8)) s
  let s := (List.range 5).foldl (fun s r => s.tickRun d r) s
  let s := s.countNs (decide (logSize ≤ (s.integ d).log.length)) (integrityPage d) Ctr.integrityLogFullNs
  let x := (s.die d).power
  let p : Page := ⟨d, .power, 0⟩
  let s := (((s.countNs (bit x.cause 0) p Ctr.powerRampLimitedNs).countNs (bit x.cause 1) p Ctr.powerBudgetLimitedNs).countNs
    (bit x.cause 2) p Ctr.powerThermalLimitedNs).countNs x.brake p Ctr.powerBrakeNs
  (s.countNs (x.state == 1) p Ctr.powerCreasedNs).countNs (x.state == 2) p Ctr.powerFoldedNs

/-! ### PTP (R655, R656) -/

/-- The offset of the PTP message in a PTP frame (R316): after the MAC header, or after IPv6 and UDP. -/
def ptpOffset (fr : List Byte) : Nat := if be fr 12 2 = 0x88F7 then 14 else 62

/-- Whether a PTP frame is a Sync of a domain. -/
def isSync (fr : List Byte) (domain : Nat) : Bool :=
  be fr (ptpOffset fr) 1 % 16 == 0 && be fr (ptpOffset fr + 4) 1 == domain

/-- Quire firmware takes the oldest PTP frame of a port. A Sync of DOMAIN on the port that PTP runs on gives a new offset
and servo rate, and may lock: the spec gives the servo's bounds and not its values, so they are free (R652, R655). -/
def State.takePtpFrame (s : State) (d k : Nat) : State :=
  match (s.ethPort d k).ptp with
  | [] => s
  | fr :: rest =>
    let s := s.onEth d k fun x => { x with ptp := rest }
    let ctl := s.reg (colophonPage d) 0x12C
    if bit ctl 31 && bits ctl 30 28 == d && bits ctl 27 26 == k && isSync fr.1 (bits ctl 22 16) then
      let offset := s.takeFree
      let rate := offset.2.takeFree
      let lock := rate.2.takeFree
      s.dieList.foldl (fun s e =>
        (s.setReg (colophonPage e) 0x130 (offset.1.toNat % 2 ^ 32)).onTime e fun t =>
          { t with servo := clampInt 500000 rate.1.toInt, ptpLocked := t.ptpLocked || lock.1.getLsbD 0 }) lock.2
    else s

/-! ### The period -/

/-- A die one period later. Its fabric time stands while PERST_N is asserted and in Shelved (R650). -/
def State.tickDie (s : State) (d : Nat) : State :=
  let s := if s.board.perst || (s.die d).power.state == 5 then s else s.onTime d FabricTime.tick
  let s := (s.tickTokens d).tickCounters d
  if s.ready then (List.range 4).foldl (fun s k => s.takePtpFrame d k) s else s

/-- One period of 40 ns. -/
def State.tick (s : State) : State :=
  let s := s.dieList.foldl (fun s d => s.tickDie d) { s with now := s.now + 40 }
  (List.range s.fns.length).foldl (fun s f => s.countNs (s.fn f).hold (fnPage f) Ctr.fnStateHoldNs) s

end Sys2Proof.Machine
end

