-- ==== Sys2Proof/Machine/Power.lean ====
section
/-!
DEFINITION. Power: the ladder and the moves on it (R596 to R605), the I3C target (R666), the ramp governor, the budget, the
brake and the thermal table (R606 to R621), and the PLLs (R622, R623).
-/

namespace Sys2Proof.Machine

/-- The power unit page, the clock unit page and the package group page. -/
abbrev powerPage (d : Nat) : Page := ⟨d, .power, 0⟩
abbrev clockPage (d : Nat) : Page := ⟨d, .clock, 0⟩
abbrev packagePage : Page := ⟨0, .packageGroup, 0⟩

/-- The power unit of a die changed. -/
def State.onPower (s : State) (d : Nat) (f : Power → Power) : State := s.onDie d fun x => { x with power := f x.power }

/-! ### States of a die (R596, R602 to R604) -/

/-- STATE of a die set: a change raises bit 0 and is counted (R629). -/
def State.setPower (s : State) (d v : Nat) : State :=
  if (s.die d).power.state = v then s
  else ((s.onPower d fun x => { x with state := v }).count (powerPage d) Ctr.powerStateChanges).raise (powerPage d) 1

/-- The memories of a die in self-refresh, or out of it. -/
def State.selfRefresh (s : State) (d : Nat) (v : Bool) : State :=
  s.onDie d fun x => { x with mems := x.mems.map fun m => { m with selfRefresh := v } }

/-- Memories `a` to `b` of a die lose their contents, and every bit of their poison bitmaps is set (R604). -/
def State.loseMemory (s : State) (d a b : Nat) : State :=
  { s with mem := s.mem.filter fun c => !decide (memKey d 0 + a * 2 ^ 36 ≤ c.1 ∧ c.1 < memKey d 0 + (b + 1) * 2 ^ 36) }

/-- What Pressed does not keep (R602): the stage stores, the translation and walk caches, the context cache, whose changed
contexts are written back; open capture channels close (R660). -/
def State.enterPressed (s : State) (d : Nat) : State :=
  let s := s.closeEarly d fun p => p.kind.domain == .compute
  let s := (s.die d).tx.cache.foldl (fun s e =>
    if e.changed then (s.count ⟨d, .tx, 0⟩ Ctr.txCtxWritebacks).count (memPage d 0) Ctr.memCtlWriteBytes 256 else s) s
  let s := s.onDie d fun x => { x with
    tx := { x.tx with cache := [] }
    xlate := { x.xlate with caches := List.replicate 10 [], walks := [] }
    recks := x.recks.map fun r => { r with store := [] } }
  s.selfRefresh d true

/-- What Boarded does not keep (R596, R603): the die-compute islands, the page-table roots, HBM3E, and the forwarding
plane, which is off. -/
def State.enterBoarded (s : State) (d : Nat) : State :=
  let s := (s.enterComputeReset d).onDie d fun x => { x with computeReset := false, xlate := { x.xlate with roots := [] } }
  ((s.clearForwarding d).loseMemory d 0 0).selfRefresh d true

/-- What Shelved does not keep beyond that: every memory, and what the Spine would write back into the forwarding plane. -/
def State.enterShelved (s : State) (d : Nat) : State :=
  let s := (s.enterBoarded d).clearPages fun p => p.die == d && p.kind.domain == .forwarding
  (s.loseMemory d 0 2).onDie d fun x =>
    { x with router := { x.router with routes := [] }, mems := x.mems.map fun m => { m with trained := false } }

/-- A die enters one of the states that are held. -/
def State.enterState (s : State) (d r : Nat) : State :=
  let s := if r = 3 then s.enterPressed d else if r = 4 then s.enterBoarded d else if r = 5 then s.enterShelved d else s
  s.setPower d r

/-- Every die of the package changed in turn. -/
def State.eachDie (s : State) (f : State → Nat → State) : State := s.dieList.foldl f s

/-- The exit from Shelved (R603, R651): the start of R557 runs as after a package warm reset, the link trains again, and
fabric time starts anew. -/
def State.leaveShelved (s : State) : State :=
  (s.packageWarm.eachDie fun s d => s.onTime d fun _ => {}).eachDie fun s d =>
    (List.range 4).foldl (fun s k => s.retrain d (k + 2)) s

/-- The part completes a move to state `r` (R602, R603). -/
def State.moveTo (s : State) (r : Nat) : State :=
  let cur := (s.die 0).power.state
  if cur = 5 ∧ r < 5 then s.leaveShelved
  else
    let s := if cur = 4 ∧ r < 4 then s.eachDie fun s d => s.trainPorts d else s
    if r < 3 then s.eachDie fun s d => (s.selfRefresh d false).setPower d 0
    else
      let s := if r = 5 then { s with board := { s.board with link := none } } else s
      s.eachDie fun s d => s.enterState d r

/-! ### Requests (R601, R631) -/

/-- A request of `r` is refused (R291, R601). -/
def State.refusesPower (s : State) (r : Nat) : Bool :=
  (decide (3 ≤ r) && !((List.range s.fns.length).all fun f => s.quiesced f)) ||
  (decide (4 ≤ r) &&
    (s.dieList.any (fun d => bit (s.reg (routerPage d) 0x104) 8) ||
      (s.fns.drop 1).any (fun x => x.phase != .closed) ||
      s.queues.any (fun q => decide (0 < q.1 ∧ q.1 < 65536)) || s.qps.any (fun x => x.2.fn == 0) ||
      s.dies.any (fun x => !x.groups.isEmpty) || s.recipes.any fun x => x.2.fn == 0))

/-- A request decided by the power unit (R599, R601, R605). -/
def State.applyPower (s : State) (r : Nat) : State :=
  let s := { s with powerRefused := false }
  if s.refusesPower r then { s.reject packagePage 0x0003 with powerRefused := true }
  else
    let cur := (s.die 0).power.state
    let s := s.eachDie fun s d => s.onPower d fun x => { x with target := r }
    let s := { s with powerReq := r }
    if (3 ≤ r ∨ 3 ≤ cur) ∧ cur ≠ r then { s with powerMove := some r }
    else s.eachDie fun s d =>
      if (s.die d).power.state < 3 ∧ r < (s.die d).power.state then (s.selfRefresh d false).setPower d 0 else s

/-- A POWER_REQ write (R601, R631): during a transition the new request waits. A write of a reserved encoding is refused
and changes nothing (R42). -/
def State.requestPower (s : State) (r : Nat) : State :=
  if 5 < r then s.reject packagePage 0x0003
  else if s.powerMove.isSome then { s with powerNext := some r, powerRefused := false } else s.applyPower r

/-- POWER_REQ (R45, R601): a write of the field on the package group page. -/
def execPowerReq (f off : Nat) (request : BitVec 3) (s : State) : Result :=
  .next (if f = 0 ∧ off = packagePage.addr + 8 then (if s.ready then s.requestPower request.toNat else s.emit (.unsupported 0)) else s)

/-! ### The I3C target (R666) -/

/-- The answer to an MCTP control request, by its command code. -/
def State.mctpAnswer (s : State) (request : List Byte) : State :=
  let code := le request 2 1
  if code = 1 then
    let e : Byte := BitVec.ofNat 8 (le request 4 1)
    { s with board := { s.board with eid := e } }.emit (.mctp (.setEndpointId e))
  else if code = 2 then s.emit (.mctp (.endpointId s.board.eid))
  else if code = 4 then
    let v := s.takeFree
    v.2.emit (.mctp (.versions (v.1.setWidth 32)))
  else if code = 5 then s.emit (.mctp (.messageTypes [0]))
  else s.emit (.mctp .unsupportedCmd)

/-- An MCTP control request that reaches the target: answered, or in Shelved the wake message, answered after the part has
left Shelved (R605, R666). -/
def State.mctpRequest (s : State) (request : List Byte) : State :=
  if s.board.perst then s
  else if (s.die 0).power.state = 5 then
    { s with board := { s.board with waking := some request }, powerReq := 0, powerMove := some 0 }
  else s.mctpAnswer request

/-- MCTP_WAKE (R605): a control request addressed to the part's endpoint. -/
def execMctpWake (eid : Byte) (request : List Byte) (s : State) : Result :=
  .next (if eid == s.board.eid || eid == 0 then s.mctpRequest request else s)

/-- A control request of a command code. -/
def mctpBytes (code : Nat) (data : List Byte) : List Byte := toLE 1 0 ++ toLE 1 0x80 ++ toLE 1 code ++ toLE 1 0 ++ data

/-- MCTP_SET_ENDPOINT_ID (R666). -/
def execMctpSetEndpointId (eid : Byte) (s : State) : Result := .next (s.mctpRequest (mctpBytes 1 [eid]))

/-- MCTP_GET_ENDPOINT_ID (R666). -/
def execMctpGetEndpointId (s : State) : Result := .next (s.mctpRequest (mctpBytes 2 []))

/-- MCTP_GET_VERSION_SUPPORT (R666). -/
def execMctpGetVersionSupport (msgType : Byte) (s : State) : Result := .next (s.mctpRequest (mctpBytes 4 [msgType]))

/-- MCTP_GET_MESSAGE_TYPE_SUPPORT (R666). -/
def execMctpGetMessageTypeSupport (s : State) : Result := .next (s.mctpRequest (mctpBytes 5 []))

/-- MCTP_UNSUPPORTED_MESSAGE (R666): refused, and never one of the four codes that are supported. -/
def execMctpUnsupportedMessage (code : Byte) (s : State) : Result :=
  .next <|
    if (s.die 0).power.state = 5 ∧ s.board.perst = false then s.mctpRequest (mctpBytes code.toNat [])
    else if s.board.perst then s else s.emit (.mctp .unsupportedCmd)

/-- POWER_TRANSITION_DONE (R602, R603, R631): the move completes, a request that woke the part is answered, and a request
that waited is applied. -/
def execPowerTransitionDone (s : State) : Result :=
  .next <|
    match s.powerMove with
    | none => s
    | some r =>
      let wait := s.powerNext
      let woke := s.board.waking
      let s := { s.moveTo r with powerMove := none, powerNext := none }
      let s := { s with board := { s.board with waking := none } }
      let s := match woke with
        | some m => s.mctpAnswer m
        | none => s
      match wait with
      | some n => s.applyPower n
      | none => s

/-! ### Floors (R599, R600) -/

/-- A Reckoner of a die runs a recipe other than one in FAULT_PAUSED. -/
def State.running (s : State) (d : Nat) : Bool :=
  (s.die d).recks.any fun r => match r.run with
    | some x => x.paused.isNone
    | none => false

/-- A descriptor whose recipe runs on at least one Reckoner and is in FAULT_PAUSED on each. -/
def State.allPaused (s : State) (e : Exec) : Bool :=
  let l := (s.dies.flatMap fun x => x.recks.filterMap Reckoner.run).filter fun x => x.fn == e.fn && x.q == e.q && x.index == e.index
  !l.isEmpty && l.all fun x => x.paused.isSome

/-- Whether a die counts as idle for Folded (R600). -/
def State.foldIdle (s : State) (d : Nat) : Bool :=
  !s.running d &&
  !(s.execs.any fun e => ((s.queue e.fn e.q).map Queue.owner) == some d && !s.allPaused e) &&
  !(s.qps.any fun x => s.qpDie x.1 == d && x.2.sent.any fun k => !k.acked)

/-- A die that may drop to a floor: it is in Open, out of reset, and no move is under way. -/
def State.mayDrop (s : State) (d : Nat) : Bool :=
  (s.die d).power.state == 0 && s.powerMove.isNone && !(s.die d).computeReset

/-- CREASE_IDLE (R599). -/
def execCreaseIdle (d : Nat) (s : State) : Result :=
  atDie s d (if s.powerReq = 1 ∧ s.mayDrop d ∧ !s.running d then s.setPower d 1 else s)

/-- FOLD_IDLE (R600): the die-compute islands are power-gated and the memories refresh themselves. -/
def execFoldIdle (d : Nat) (s : State) : Result :=
  atDie s d <|
    if s.powerReq = 2 ∧ s.mayDrop d ∧ s.foldIdle d then
      ((s.closeEarly d fun p => p.kind.domain == .compute).selfRefresh d true).setPower d 2
    else s

/-- WAKE_EVENT (R599, R631): the die returns to Open. A reset that a PLL caused in Folded takes effect now. -/
def execWakeEvent (d : Nat) (_cause : WakeCause) (s : State) : Result :=
  atDie s d <|
    if (s.die d).power.state = 1 then s.setPower d 0
    else if (s.die d).power.state = 2 then
      let s := (s.selfRefresh d false).setPower d 0
      if (s.die d).clocks.holdsCompute then s.enterComputeReset d else s
    else s

/-! ### The ramp governor (R606 to R612, R616) -/

/-- Entry `j` of a ramp table of a rail: WINDOW in 40 ns periods and DELTA in mA (R611). -/
def State.ramp (s : State) (d rail : Nat) (down : Bool) (j : Nat) : Nat × Nat :=
  let e := s.reg (powerPage d) (0x400 + 0x100 * rail + (if down then 0x80 else 0) + 4 * j)
  (bits e 31 19, bits e 18 0)

/-- The current of a rail `w` periods before the present one, in mA. -/
def Power.past (x : Power) (rail w : Nat) : Nat := ((x.history[w - 1]?).getD [])[rail]?.getD 0

/-- The currents keep every entry of the up tables (R607). -/
def State.upOk (s : State) (d : Nat) (cur : List Nat) : Bool :=
  (List.range 3).all fun r => (List.range 32).all fun j =>
    let e := s.ramp d r false j
    decide (cur[r]?.getD 0 ≤ (s.die d).power.past r e.1 + e.2)

/-- The currents keep every entry of the down tables (R607). -/
def State.downOk (s : State) (d : Nat) (cur : List Nat) : Bool :=
  (List.range 3).all fun r => (List.range 32).all fun j =>
    let e := s.ramp d r true j
    decide ((s.die d).power.past r e.1 ≤ cur[r]?.getD 0 + e.2)

/-- Voltages of the governed rails in 10 mV (R606, R669). -/
def railVolts : List Nat := [75, 80, 110]

/-- Power of three rail currents in 10 µW. -/
def railPower (cur : List Nat) : Nat := (List.zipWith (· * ·) cur railVolts).sum

/-- Units of ENERGY_UJ: 10 µW for 40 ns is 0.4 pJ, of which a µJ holds 2,500,000. -/
def microJoule : Nat := 2500000

/-- Reckoner cycles in one period of 40 ns (R21). -/
def periodCycles : Nat := 84

/-- GOVERNOR_PERIOD (R607, R608, R616): `fixed` is the current of everything but the Reckoners and `perPercent` that of one
per cent of their issue, by rail in mA; `wanted` is the issue that their work asks for. -/
def State.govern (s : State) (d : Nat) (fixed perPercent : List Nat) (wanted : Nat) : State :=
  let p := powerPage d
  let x := (s.die d).power
  let draw (i : Nat) : List Nat := (List.range 3).map fun r => fixed[r]?.getD 0 + perPercent[r]?.getD 0 * i
  let highest (ok : Nat → Bool) : Nat := ((List.range 101).reverse.find? ok).getD 0
  let rampCap := highest fun i => s.upOk d (draw i)
  let floor := (lowestBelow 101 fun i => s.downOk d (draw i)).getD 100
  let budget := highest fun i => decide (railPower (draw i) ≤ bits (s.reg p 0x108) 15 0 * 100000)
  let thermal := if x.trip then 0 else x.thermal
  let brake := if x.brake then bits (s.reg p 0x104) 31 24 else 100
  let cap := min (min rampCap budget) (min thermal brake)
  let allowed := if cap < floor then max cap (min floor rampCap) else cap
  let cause :=
    if allowed = 100 then 0
    else if allowed ≠ cap then 1
    else b2n (rampCap == cap) + 2 * b2n (budget == cap) + 4 * b2n (thermal == cap) + 8 * b2n (brake == cap)
  let actual := min wanted allowed
  let ballast := (lowestBelow (101 - actual) fun b => s.downOk d (draw (actual + b))).getD (100 - actual)
  let cur := draw (actual + ballast)
  let energy := x.energy + railPower cur
  let burnt := x.ballast + (railPower cur - railPower (draw actual))
  let s := s.onPower d fun x => { x with
    issue := allowed, cause := cause, history := (cur :: x.history).take 8191
    energy := energy % microJoule, ballast := burnt % microJoule }
  let s := (s.count p Ctr.powerEnergyUj (energy / microJoule)).count p Ctr.powerBallastUj (burnt / microJoule)
  let s := if ballast = 0 then s else s.count p Ctr.powerBallastCycles periodCycles
  (List.range 5).foldl (fun s r =>
    if (((s.die d).recks[r]?).bind Reckoner.run).isSome then
      s.count (reckonerPage d r) Ctr.reckonerThrottleCycles (periodCycles * (wanted - actual) / 100)
    else s) s

/-- GOVERNOR_PERIOD (R607). -/
def execGovernorPeriod (d : Nat) (fixed perPercent : List Nat) (wanted : Nat) (s : State) : Result :=
  atDie s d (s.govern d fixed perPercent (min wanted 100))

/-! ### Budget, brake and temperature (R613, R618 to R621, R630) -/

/-- Budgets that R613 admits: within the package limit, and no less than 130 W for a die whose Reckoners issue. -/
def State.budgetsOk (s : State) (watts : List Nat) : Bool :=
  watts.length == s.dies.length && decide (watts.sum ≤ bits (s.reg (powerPage 0) 0x110) 15 0) &&
  watts.zipIdx.all fun w => decide (w.1 < 65536) && (decide (130 ≤ w.1) || !s.running w.2)

/-- BUDGET_UPDATE (R613, R631): the Spine's budgets for the next millisecond; ones that R613 does not admit are none. -/
def execBudgetUpdate (watts : List Nat) (s : State) : Result :=
  .next <|
    if s.budgetsOk watts then
      watts.zipIdx.foldl (fun s (w : Nat × Nat) => s.setReg (powerPage w.2) 0x108 w.1) s
    else s

/-- BRAKE_ASSERT (R618, R674): the pin, and the brake of every die unless the part is held in reset. -/
def execBrakeAssert (s : State) : Result :=
  .next <|
    if s.brakePin then s
    else if s.board.perst then { s with brakePin := true }
    else { s with brakePin := true }.brakeDies

/-- BRAKE_DEASSERT (R618). -/
def execBrakeDeassert (s : State) : Result :=
  .next ({ s with brakePin := false }.eachDie fun s d => s.onPower d fun x => { x with brake := false })

/-- ALERT_C and TRIP_C of a die. -/
def State.alertC (s : State) (d : Nat) : Nat := bits (s.reg (powerPage d) 0x104) 23 16
def State.tripC (s : State) (d : Nat) : Nat := bits (s.reg (powerPage d) 0x104) 15 8

/-- THERM_ALERT_N as R620 has it; released while PERST_N is asserted (R668). -/
def State.alertNow (s : State) : State :=
  { s with thermAlert := !s.board.perst &&
      s.dieList.any fun d => decide (s.alertC d ≤ (s.die d).power.tj) || (s.die d).power.trip }

/-- Entry `j` of the thermal table: TEMP_C and ISSUE_PERCENT. -/
def State.therm (s : State) (d j : Nat) : Nat × Nat :=
  let e := s.reg (powerPage d) (0x140 + 4 * j)
  (bits e 15 8, bits e 6 0)

/-- The last entry at or below a temperature (R619). -/
def State.thermEntry (s : State) (d tj : Nat) : Option Nat :=
  (List.range 8).reverse.find? fun j => decide ((s.therm d j).1 ≤ tj)

/-- The thermal cap after a reading (R619): it rises again only 2 °C below the entry that set it. -/
def State.thermalCap (s : State) (d tj : Nat) : State :=
  let x := (s.die d).power
  let e := s.thermEntry d tj
  let keeps := match x.thermEntry with
    | some j => (e.map fun k => decide (k < j)).getD true && decide ((s.therm d j).1 < tj + 2)
    | none => false
  let e := if keeps then x.thermEntry else e
  let cap := (e.map fun j => (s.therm d j).2).getD 100
  s.onPower d fun x => { x with thermEntry := e, thermal := if 105 ≤ tj then 0 else cap }

/-- THERMAL_SAMPLE (R619 to R621). -/
def execThermalSample (d tj : Nat) (s : State) : Result :=
  atDie s d <|
    let t := min tj 255
    let s := (s.onPower d fun x => { x with tj := t }).thermalCap d t
    let s := if s.tripC d ≤ t ∧ (s.die d).power.trip = false then
        ((s.onPower d fun x => { x with trip := true }).count (powerPage d) Ctr.powerTrips).raise (powerPage d) 4
      else s
    s.alertNow

/-- TRIP_CLEAR (R621, R629). -/
def State.clearTrip (s : State) (d : Nat) : State :=
  if !(s.die d).power.trip then s
  else if s.alertC d < (s.die d).power.tj then s.refuse (powerPage d) 0x0100
  else (s.onPower d fun x => { x with trip := false }).alertNow

/-- TRIP_CLEAR (R621): a W1C write of TRIP. -/
def execTripClear (d : Nat) (s : State) : Result := atDie s d (s.fromFn 0 (s.guarded (powerPage d) (s.clearTrip d)))

/-- A thermal table that R630 admits. -/
def thermOk (t : List (Nat × Nat)) : Bool :=
  t.all (fun e => decide (e.1 ≤ 105 ∧ e.2 ≤ 100)) &&
  (List.zip t (t.drop 1)).all fun e => decide (e.1.1 < e.2.1 ∧ e.2.2 ≤ e.1.2)

/-- A write of THERM_TABLE entry `j` (R630). -/
def State.writeTherm (s : State) (d j : Nat) (value : Nat) : State :=
  let v := value &&& 0xFF7F
  let t := ((List.range 8).map fun k => if k = j then (bits v 15 8, bits v 6 0) else s.therm d k)
  if thermOk t then s.setReg (powerPage d) (0x140 + 4 * j) v else s.refuse (powerPage d) 0x0100

/-- THERM_TABLE_WRITE (R630). -/
def execThermTableWrite (d j : Nat) (value : Word) (s : State) : Result :=
  atUnit s d (decide (j < 8)) (s.fromFn 0 (s.guarded (powerPage d) (s.writeTherm d j value.toNat)))

/-! ### Ramp records (R614, R615) -/

/-- Entry `j` of table `t` of a ramp record: rail 0 up, rail 0 down, rail 1 up and so on. -/
def recordEntry (r : List Byte) (t j : Nat) : Nat × Nat :=
  let e := le r (64 + 128 * t + 4 * j) 4
  (bits e 31 19, bits e 18 0)

/-- The rules of R615 on table `t` of a record. -/
def rampTableOk (r : List Byte) (t : Nat) : Bool :=
  let e := recordEntry r t
  let full := railFull (t / 2)
  (List.range 32).all (fun j =>
    decide (1 ≤ (e j).1) && decide ((e j).2 * 500 ≤ full * (e j).1) &&
    (t % 2 == 0 || decide (full * (e j).1 ≤ (e j).2 * 25000))) &&
  (List.range 31).all fun j =>
    decide ((e j).1 ≤ (e (j + 1)).1 ∧ (e j).2 ≤ (e (j + 1)).2 ∧ (e (j + 1)).2 * (e j).1 ≤ (e j).2 * (e (j + 1)).1)

/-- The header of a ramp record, but for its limit (R614). -/
def rampHeaderOk (r : List Byte) : Bool :=
  r.length == 832 && le r 0 4 == 0x504D4152 && le r 4 2 == 1 && le r 6 2 == 0 && le r 10 2 == 0 &&
  (crc32c (r.take 12 ++ zeros 4 ++ r.drop 16)).toNat == le r 12 4 && allZero (slice r 16 48)

/-- What the policy checker asks of a ramp record (R614, R615): its limit and its six tables. -/
def rampRecordOk (part : Part) (r : List Byte) : Bool :=
  decide (130 * part.dies ≤ le r 8 2 ∧ le r 8 2 ≤ part.powerLimit) && (List.range 6).all (rampTableOk r)

/-- A ramp record that the policy checker accepts, applied on every die (R615). -/
def State.applyRecord (s : State) (r : List Byte) : State :=
  s.eachDie fun s d =>
    let s := (List.range 6).foldl (fun s t => (List.range 32).foldl (fun s j =>
      s.setReg (powerPage d) (0x400 + 0x80 * t + 4 * j) (le r (64 + 128 * t + 4 * j) 4)) s) s
    s.setReg (powerPage d) 0x110 (le r 8 2)

/-! ### PLLs (R622, R623) -/

/-- A die's compute domain may leave a reset that a PLL caused. -/
def State.mayRun (s : State) (d : Nat) : Bool :=
  !(s.die d).clocks.holdsCompute && !(s.die d).cmdBusy && (s.spine.phase == .running || s.spine.phase == .loading)

/-- The link behind a SerDes PLL goes DOWN: Alram port `k` for `k` below 2, Ethernet port `k` − 2 above (R252, R298). -/
def State.serdesDown (s : State) (d k : Nat) : State :=
  if k < 2 then (if s.linkState d k == .disabled then s else s.linkDrop d k (s.linkEnabled d k))
  else if (s.ethPort d (k - 2)).state == .disabled then s else s.ethDrop d (k - 2) false (s.ethEnabled d (k - 2))

/-- The reset domain of a PLL enters reset (R622, R631). -/
def State.pllReset (s : State) (d : Nat) (pll : Pll) : State :=
  match pll with
  | .cpll | .dpll => if (s.die d).power.state = 2 || (s.die d).computeReset then s else s.enterComputeReset d
  | .rpll => (s.clearForwarding d).onDie d fun x => { x with fwdReset := true }
  | .mpll | .gpll =>
    if s.spine.phase == .held then s
    else (s.warmReset).onSpine fun x => { x with phase := .held }
  | .serdes k => s.serdesDown d k
  | .pcie => if d = 0 then { s with board := { s.board with link := none } } else s

/-- PLL_LOCK_LOSS (R623): counted and reported, unless the PLL is already out of lock. -/
def execPllLockLoss (d : Nat) (pll : Pll) (s : State) : Result :=
  atDie s d <|
    if (s.die d).clocks.unlocked.contains pll then s
    else
      let s := s.pllReset d pll
      ((s.onDie d fun x => { x with clocks := { unlocked := pll :: x.clocks.unlocked } }).count (clockPage d)
        Ctr.clockPllLockLosses).raise (clockPage d) 1

/-- No MPLL or GPLL of the package is out of lock. -/
def State.packageLocked (s : State) : Bool :=
  s.dies.all fun x => !x.clocks.unlocked.contains .mpll && !x.clocks.unlocked.contains .gpll

/-- PLL_RELOCK (R623): the islands leave reset once no other PLL holds them. -/
def execPllRelock (d : Nat) (pll : Pll) (s : State) : Result :=
  atDie s d <|
    if !(s.die d).clocks.unlocked.contains pll then s
    else
      let s := s.onDie d fun x => { x with clocks := { unlocked := x.clocks.unlocked.filter (· != pll) } }
      match pll with
      | .cpll | .dpll => if (s.die d).computeReset && s.mayRun d then s.leaveComputeReset d else s
      | .rpll => (s.onDie d fun x => { x with fwdReset := false }).trainPorts d
      | .mpll | .gpll =>
        if s.packageLocked && s.spine.phase == .held && !s.board.perst && !s.board.strapTest then
          (s.onSpine fun x => { x with phase := .rom }).trainPcie
        else s
      | .serdes _ => s
      | .pcie => if d = 0 && s.board.link.isNone && !s.board.perst && !s.board.strapTest then s.trainPcie else s

end Sys2Proof.Machine
end

