-- ==== Sys2Proof/Machine/PageState.lean ====
section
/-!
DEFINITION. What pages shown (R34 to R64 and the field tables of the chapters): the maps of the PF and of a VF, BLK_STAT, the
child tables, and the value of every register that shows state held elsewhere.
-/

namespace Sys2Proof.Machine

/-! ### Maps (R34 to R39) -/

/-- Where an access of a function's BAR0 lands. -/
inductive Target where
  | page (p : Page) (off : Nat)
  /-- Word `w` of the MSI-X entry of vector `v`, and word `w` of the pending bit array (R72). -/
  | msix (v w : Nat)
  | pending (w : Nat)
  /-- A window of a die that the part does not have (R34). -/
  | absent
  | unmapped
  deriving DecidableEq, Repr

/-- A page of a VF's window by its offset (R37, R38, R139, R207, R240, R367, R526, R586). -/
def State.vfPage (s : State) (f off : Nat) : Option Page :=
  let n := off % 0x10000 / 0x1000
  let onDie (k : PageKind) (d : Nat) : Option Page := if d < s.dies.length then some ⟨d, k, f⟩ else none
  let slot (k : Nat) : Option Page := ((s.heldReckoners f)[k]?).map fun r => ⟨r.1, .recipeCtl, r.2⟩
  match off / 0x10000 with
  | 0x0 => if n = 0 then some ⟨0, .partGroup, f - 1⟩ else if n = 1 then some ⟨0, .fnState, f⟩ else none
  | 0x1 => onDie .queuePage n
  | 0x2 => if n < 8 then onDie .qpPage n else onDie .rate (n - 8)
  | 0x3 => if n = 0 then some ⟨0, .cipherUser, f⟩ else none
  | 0x8 => onDie .integrityFn n
  | 0xC => onDie .xlateFn n
  | 0x4 | 0x5 =>
    let m := (off - 0x40000) / 0x1000
    if m = 0 then some ⟨0, .slotA, f - 1⟩ else if m ≤ 20 then slot (m - 1) else none
  | 0x6 | 0x7 =>
    let m := (off - 0x60000) / 0x1000
    if m = 0 then some ⟨0, .slotB, f - 1⟩ else if m ≤ 20 then slot (m + 19) else none
  | _ => none

/-- Where an offset of a function's BAR0 lands. -/
def State.target (s : State) (f off : Nat) : Target :=
  if f = 0 then
    let d := off / 0x800000
    let o := off % 0x800000
    if s.dies.length ≤ d then .absent
    else if d = 0 ∧ 0xC0000 ≤ o ∧ o < 0xC8000 then .msix ((o - 0xC0000) / 16) (o % 16 / 4)
    else if d = 0 ∧ 0xD0000 ≤ o ∧ o < 0xD1000 then .pending ((o - 0xD0000) / 4)
    else match pageAt d o with
      | some p => .page p (o % 0x1000)
      | none => .unmapped
  else if 0xF0000 ≤ off ∧ off < 0xF0800 then .msix ((off - 0xF0000) / 16) (off % 16 / 4)
  else if 0xF8000 ≤ off ∧ off < 0xF9000 then .pending ((off - 0xF8000) / 4)
  else match s.vfPage f off with
    | some p => .page p (off % 0x1000)
    | none => .unmapped

/-- The page that counts a function's accesses to unmapped addresses of a die window (R36, R38). -/
def unmappedPage (f off : Nat) : Page := if f = 0 then ⟨off / 0x800000, .dieGroup, 0⟩ else ⟨0, .partGroup, f - 1⟩

/-! ### BLK_STAT (R40 to R45) -/

/-- The first page of a page's block (R41). -/
def Page.first (p : Page) : Page :=
  match p.kind with
  | .recipeCtl => ⟨p.die, .reckoner, p.inst⟩
  | .qpPage => ⟨p.die, .tx, 0⟩
  | .rate => ⟨p.die, .rateCtl, 0⟩
  | .xlateFn => ⟨p.die, .xlate, 0⟩
  | .cipherUser => ⟨p.die, .cipher, 0⟩
  | .queuePage => ⟨p.die, .qm, 0⟩
  | .integrityFn => ⟨p.die, .integrity, 0⟩
  | _ => p.home

/-- The scheduler of an Alram port, quire link or Ethernet port holds packets or has flows with something to send. -/
def State.schedBusy (s : State) (d i : Nat) : Bool :=
  (s.die d).router.held.any (fun h => s.heldAt d i h) || !(s.qpsAt d i).isEmpty

/-- A descriptor in execution on a queue that a die owns, one that `op` admits and of a function that `f` admits. -/
def State.execsOf (s : State) (d : Nat) (op : Exec → Bool) (f : Nat → Bool) : Bool :=
  s.execs.any fun e => op e && f e.fn && ((s.queue e.fn e.q).map Queue.owner) == some d

/-- Queue pairs of a die with something outstanding, of a function that `f` admits. -/
def State.qpsBusy (s : State) (d : Nat) (f : Nat → Bool) : Bool :=
  s.qps.any fun x => s.qpDie x.1 == d && f x.2.fn &&
    (!x.2.ops.isEmpty || x.2.sent.any (fun k => !k.acked) || !x.2.owed.isEmpty || s.qpOutstanding x.1 x.2)

/-- Queues of a die with fetches, fetched slots or executing descriptors, of a function that `f` admits. -/
def State.queuesBusy (s : State) (d : Nat) (f : Nat → Bool) : Bool :=
  s.queues.any (fun e => e.2.owner == d && f (e.1 / 65536) &&
    (!e.2.fetching.isEmpty || !e.2.slots.isEmpty || e.2.stale.isSome || e.2.held.isSome)) || s.execsOf d (fun _ => true) f

/-- BUSY of a leaf page: work in flight in its block, or on a per-function page the function's part of it (R41). -/
def State.leafBusy (s : State) (p : Page) : Bool :=
  let x := s.die p.die
  let all (_ : Nat) : Bool := true
  let mine (f : Nat) : Bool := f == p.inst
  match p.kind with
  | .reckoner | .recipeCtl | .format =>
    ((x.recks[p.inst]?).map fun r => r.run.isSome || r.known).getD false || s.checking (p.die * 5 + p.inst)
  | .staging => s.execs.any fun e => e.q != 0 &&
      ((dOpcode e.desc == 0x10 && s.dieOf (gaEndpoint (dDst e.desc)) == some p.die) ||
      (dOpcode e.desc == 0x11 && s.dieOf (gaEndpoint (dSrc e.desc)) == some p.die))
  | .tx => s.qpsBusy p.die all || !x.tx.fetches.isEmpty
  | .qpPage => s.qpsBusy p.die mine
  | .rx => !x.tx.misses.isEmpty
  | .sched => s.schedBusy p.die p.inst
  | .collective => x.groups.any fun g => g.2.op.isSome
  | .xlate | .fault => !x.xlate.faults.isEmpty || !x.xlate.waiting.isEmpty || x.xlate.inval.isSome
  | .xlateFn => x.xlate.faults.any fun r => r.2.fn == p.inst
  | .router0 | .router1 => x.router.fifos.any (fun l => !l.isEmpty) || !x.router.held.isEmpty || !x.router.arrived.isEmpty
  | .pktBuf => x.occupancy != 0
  | .alram => (x.link p.inst).state != .disabled
  | .quire => (x.link (p.inst + 2)).state != .disabled
  | .ethPort => (s.ethPort p.die p.inst).state != .disabled
  | .cipher => s.execsOf p.die (fun e => e.q != 0 && dOpcode e.desc == 0x30) all
  | .cipherUser => s.execsOf p.die (fun e => e.q != 0 && dOpcode e.desc == 0x30) mine
  | .qm => s.queuesBusy p.die all
  | .queuePage => s.queuesBusy p.die mine
  | .fnState => (s.fn p.inst).phase == .opening || (s.fn p.inst).phase == .closing
  | .integrity => !x.integ.records.isEmpty || !x.integ.log.isEmpty || !x.integ.notices.isEmpty
  | .collation => x.integ.collations.any fun c => !c.2.due.isEmpty || !c.2.unacked.isEmpty
  | .integrityFn => x.integ.log.any fun e => e.fn == p.inst
  | .pcie => !s.doorbells.isEmpty || s.fns.any fun f => f.ledgers.any fun l => !l.isEmpty
  | .intAgg => !s.requests.isEmpty
  | .power => s.powerMove.isSome
  | _ => false

/-- BLK_STAT. The first argument bounds the depth of group pages. POWER_STATE is the state of the die that holds the page. -/
def State.blkStatTo : Nat → State → Page → Nat
  | 0, _, _ => 0
  | k + 1, s, p =>
    if p.kind.isGroup then
      let cs := (s.children p).flatten.map (State.blkStatTo k s)
      let any (n : Nat) : Bool := cs.any fun c => bit c n
      b2n (any 31) * 2 ^ 31 + b2n (any 30 || s.feValid p) * 2 ^ 30 + b2n (cs.all fun c => bit c 29) * 2 ^ 29 +
      b2n (any 28) * 2 ^ 28 + b2n (any 27) * 2 ^ 27 +
      b2n (any 26 || (p.kind == .dieGroup && (s.die p.die).cmdBusy)) * 2 ^ 26 +
      b2n (p.kind == .packageGroup && s.powerRefused) * 2 ^ 25 + b2n (cs.all fun c => bit c 24) * 2 ^ 24 +
      (cs.map fun c => bits c 23 21).foldl min (if cs.isEmpty then (s.die p.die).power.state else 7) * 2 ^ 21
    else
      let q := p.home
      b2n (s.leafBusy q) * 2 ^ 31 + b2n (s.feValid q) * 2 ^ 30 + b2n (s.leafAbsent q.first) * 2 ^ 29 +
      b2n ((q.kind == .reckoner || q.kind == .recipeCtl) && s.leafAbsent q.first) * 2 ^ 28 + b2n (s.inReset q) * 2 ^ 27 +
      b2n (s.armed q) * 2 ^ 24 + (s.die p.die).power.state % 8 * 2 ^ 21

/-- BLK_STAT of a page. -/
def State.blkStat (s : State) (p : Page) : Nat := s.blkStatTo 5 p

/-- BUSY of a page (R62). -/
def State.busy (s : State) (p : Page) : Bool := if p.kind.isGroup then bit (s.blkStat p) 31 else s.leafBusy p.home

/-- BLK_ID (R41, R42). -/
def Page.blkId (p : Page) : Nat := p.kind.type * 2 ^ 20 + 2 ^ 16 + p.instNo

/-- BLK_CAP (R41): every page has snapshot banks, and a Reckoner's BLOCK_CAP gives 8 format slots and 16 MiB (R400). -/
def Page.blkCap (p : Page) : Nat :=
  let q := p.first
  b2n q.kind.isGroup * 2 ^ 31 + 2 ^ 30 + q.kind.pages * 2 ^ 24 + q.kind.counters * 2 ^ 16 +
    (if q.kind == .reckoner then 0x0810 else 0)

/-! ### Children (R49 to R52) -/

/-- CHILD_STRIDE of a group page (R50). -/
def PageKind.childStride : PageKind → Nat
  | .packageGroup => 0x800
  | .clusterGroup => 0x10
  | .ethGroup => 1
  | _ => 0

/-- CHILD_BASE of a group page. -/
def Page.childBase (p : Page) : Nat :=
  match p.kind with
  | .clusterGroup => p.die * 0x800000 + 0x100000
  | .ethGroup => p.die * 0x800000 + 0x481000
  | _ => 0

/-- Entry `n` of a child table as function `f` reads it: the BAR offset of child `n` (R37, R50). -/
def State.childEntry (s : State) (f : Nat) (p : Page) (n : Nat) : Nat :=
  if p.kind.childStride != 0 then 0 else
  match (s.children p)[n]? with
  | none => 0
  | some l =>
    if f = 0 then ((l.head?).map Page.addr).getD 0
    else match p.kind with
      | .slotA => 0x41000 + n * 0x1000
      | .slotB => 0x61000 + n * 0x1000
      | _ => ([0x1000, 0x10000, 0x20000, 0x30000, 0x40000, 0x60000, 0x80000, 0xC0000][n]?).getD 0

/-! ### Snapshot banks (R644) -/

/-- BANK_STAT of a bank. -/
def State.bankStat (s : State) (p : Page) (b : Bank) : Nat :=
  b2n b.latched * 2 ^ 31 + b2n (s.bankComplete p b) * 2 ^ 30 + b2n b.superseded * 2 ^ 29 +
  b2n (b.channels.any fun c => decide (2 ≤ c.close)) * 2 ^ 28 + (if b.latched then p.latched else 0) * 2 ^ 16 +
  maskOf ((b.channels.zipIdx.filter fun c => c.1.isOpen).map Prod.snd)

/-- The register at an offset of a bank; a 64-bit one whole. -/
def State.bankReg (s : State) (p : Page) (b : Bank) (off : Nat) : Nat :=
  if off = 0 then b.number.toNat
  else if off = 4 then s.bankStat p b
  else if off = 8 then b.time.toNat
  else if off = 0x10 then b.done
  else if off = 0x14 then b.skipped
  else if 0x40 ≤ off ∧ off < 0xC0 then
    match b.channels[(off - 0x40) / 8]? with
    | some c => c.count % 2 ^ 32 * 2 ^ 32 + c.close % 4 * 2 ^ 30 + b2n c.boundary * 2 ^ 29 + 2 ^ 28 + c.source % 2 ^ 16
    | none => 0
  else if 0xC0 ≤ off then ((b.totals[(off - 0xC0) / 8]?).map BitVec.toNat).getD 0
  else 0

/-! ### Codes of states -/

/-- LINK_STATE of an Alram or quire page, and of an Ethernet port page (R298). -/
def LinkState.code : LinkState → Nat
  | .disabled => 0
  | .training => 1
  | .align => 2
  | .creditInit => 3
  | .up => 4
  | .down => 5
def LinkState.ethCode : LinkState → Nat
  | .disabled => 0
  | .training => 1
  | .align | .creditInit => 2
  | .up => 3
  | .down => 4

/-- QUEUE_STATE.STATE of a state. -/
def QueueState.code : QueueState → Nat
  | .running => 1
  | .error => 2
  | .disabling => 3
  | .disabled => 4

/-- PORT_STATE as a number. -/
def PortState.code : PortState → Nat
  | .absent => 0
  | .up => 1
  | .hold => 2
  | .discard => 3

/-- FN_STATE.STATE of a phase. -/
def FnPhase.code : FnPhase → Nat
  | .closed => 0
  | .opening => 1
  | .opened => 2
  | .closing => 3

/-- RECIPE_STAT.STATE of a run. -/
def Run.code (r : Run) : Nat := if r.paused.isSome then 2 else if r.waiting then 3 else if r.held then 4 else 1

/-! ### Block-specific registers -/

/-- The place of the route entry that TABLE_SELECT names. -/
def tableIndex (sel : Nat) : Nat := routeIndex (bit sel 30) (bit sel 29) (bits sel 13 0)

/-- Registers of a queue page (R140 to R142); the admin registers exist on die 0. -/
def State.queueReg (s : State) (p : Page) (off : Nat) : Nat :=
  let sel := bits (s.reg p 0x110) 15 0
  let q := match s.queue p.inst sel with
    | some x => if x.owner = p.die then some x else none
    | none => none
  match off with
  | 0x10C =>
    if p.die ≠ 0 then 0 else
    match s.queue p.inst 0 with
    | some x => x.state.code * 2 ^ 29 + x.head.toNat % 2 ^ 16
    | none => 0
  | 0x114 =>
    (q.map fun x => x.state.code * 2 ^ 29 + b2n x.arrival * 2 ^ 28 + b2n x.isLocal * 2 ^ 27 + b2n x.ledger.isSome * 2 ^ 26 +
      x.ledger.getD 0 * 2 ^ 24 + x.log2 * 2 ^ 16).getD 0
  | 0x118 => (q.map fun x => x.head.toNat).getD 0
  | 0x11C => (q.map fun x => if x.arrival then x.tail.toNat else (x.recorded.getD x.tail).toNat).getD 0
  | 0x120 => (q.map fun x => x.detail % 256 * 2 ^ 16 + x.cause).getD 0
  | 0x124 => (q.map fun x => x.errIndex.toNat).getD 0
  | 0x134 => b2n (s.fn p.inst).service
  | 0x110 => sel
  | _ => if p.die = 0 then s.reg p off else 0

/-- Registers of a queue-pair page (R208). -/
def State.qpReg (s : State) (p : Page) (off : Nat) : Nat :=
  let sel := bits (s.reg p 0x100) 17 0
  let q := s.shownQp p.die p.inst sel
  let cached := (s.die p.die).tx.cache.any fun e => e.qp == sel
  let shown (g : Qp → Nat) : Nat := (q.map g).getD 0
  match off with
  | 0x104 => shown fun x => x.state.code * 2 ^ 29 + b2n x.gcm * 2 ^ 28 + x.tclass % 8 * 2 ^ 25 + b2n cached * 2 ^ 24 +
      x.log2Win % 16 * 2 ^ 20 + x.peerPart % 16 * 2 ^ 16 + b2n x.peerMgr * 2 ^ 15
  | 0x108 => shown fun x => x.aq * 2 ^ 16 + x.sq
  | 0x10C => shown Qp.peer
  | 0x110 => shown Qp.peerQp
  | 0x114 => shown fun x => x.sndUna.toNat
  | 0x118 => shown fun x => x.sndNxt.toNat
  | 0x11C => shown fun x => x.rcvNxt.toNat
  | 0x120 => shown fun x => min (x.rto / 1000) 0xFFFF * 2 ^ 16 + x.retries % 16 * 2 ^ 12 + x.retryLimit % 16 * 2 ^ 8 +
      x.reorder % 16 * 2 ^ 4
  | 0x124 => shown fun x => x.errDetail % 256 * 2 ^ 16 + x.errStatus
  | _ => s.reg p off

/-- Registers of a rate page (R242). -/
def State.rateReg (s : State) (p : Page) (off : Nat) : Nat :=
  let q := s.shownQp p.die p.inst (bits (s.reg p 0x100) 17 0)
  match off with
  | 0x104 => (q.map Qp.weight).getD 0
  | 0x108 => (q.map fun x => if x.state == .rts || x.state == .faultWait then
      (if s.ccOn p.die x.tclass then x.rate / 1024 else s.reg (curvePage p.die x.tclass) 0x114) else 0).getD 0
  | _ => s.reg p off

/-- Registers of a scheduler page (R240). -/
def State.schedReg (s : State) (p : Page) (off : Nat) : Nat :=
  if off = 0x108 then
    maskOf ((List.range 8).filter fun c => s.classPaused p.die p.inst c) * 2 ^ 8 +
      (((s.die p.die).scheds[p.inst]?).map Sched.eligible).getD 0 % 256
  else if 0x1C0 ≤ off ∧ off < 0x1E0 then
    let c := (off - 0x1C0) / 4
    if bit (s.classReg p.die p.inst c 0x140) 31 then
      (BitVec.ofInt 32 ((s.schedClass p.die p.inst c).tokens / 200)).toNat else 0
  else s.reg p off

/-- Registers of an Alram port or quire-link page (R292). -/
def State.linkReg (s : State) (p : Page) (l off : Nat) : Nat :=
  let x := (s.die p.die).link l
  match off with
  | 0x104 => x.state.code * 2 ^ 29 + b2n x.reversed * 2 ^ 28 + x.lanes % 256
  | 0x108 => x.peer
  | _ => s.reg p off

/-- Registers of an Ethernet port page. -/
def State.ethReg (s : State) (p : Page) (off : Nat) : Nat :=
  let x := s.ethPort p.die p.inst
  if off = 0x104 then x.state.ethCode * 2 ^ 29 + b2n x.remoteFault * 2 ^ 28 + b2n x.reversed * 2 ^ 27 + x.lanes % 256
  else if 0x1C0 ≤ off ∧ off < 0x1E0 then (x.usage[(off - 0x1C0) / 4]?).getD 0
  else if off = 0x1E0 then
    x.pausing % 256 * 2 ^ 8 + maskOf ((x.rxPause.zipIdx.filter fun t => t.1 != 0).map Prod.snd)
  else s.reg p off

/-- Registers of the translation unit's pages (R367). -/
def State.xlateReg (s : State) (p : Page) (off : Nat) : Nat :=
  let x := (s.die p.die).xlate
  match off with
  | 0x10C => (x.inval.map fun i => 2 ^ 31 + i.acked % 2 ^ 10).getD 0
  | 0x110 => x.faults.length * 2 ^ 16
  | 0x118 => (FMap.get? x.roots (bits (s.reg p 0x114) 4 0)).getD 0
  | 0x120 => s.part.hbmRegionMiB
  | _ => s.reg p off
def State.faultReg (s : State) (p : Page) (off : Nat) : Nat :=
  let r := FMap.get? (s.die p.die).xlate.faults (bits (s.reg p 0x100) 11 0)
  match off with
  | 0x104 => (r.map fun x => 2 ^ 31 + x.kind % 8 * 2 ^ 28 + b2n x.anyWrite * 2 ^ 27 + x.fn * 2 ^ 16 + x.waiters % 2 ^ 10).getD 0
  | 0x108 => (r.map fun x => x.addr.toNat).getD 0
  | 0x110 => (r.map fun x => x.time.toNat).getD 0
  | _ => s.reg p off
def State.xlateFnReg (s : State) (p : Page) (off : Nat) : Nat :=
  let x := (s.die p.die).xlate
  if off = 0x100 then b2n (FMap.get? x.roots p.inst).isSome * 2 ^ 31 + (x.faults.filter fun r => r.2.fn == p.inst).length else 0

/-- Registers of a memory controller page (R324, R367). -/
def State.memReg (s : State) (p : Page) (m off : Nat) : Nat :=
  if off = 0x104 then
    (((s.die p.die).mems[m]?).map fun x => b2n x.trained * 2 ^ 31 + b2n x.selfRefresh * 2 ^ 30 + x.temp % 256).getD 0
  else s.reg p off

/-- Registers of a Reckoner page (R400). -/
def State.reckonerReg (s : State) (p : Page) (off : Nat) : Nat :=
  let x := s.reck p.die p.inst
  if off = 0x100 then
    b2n x.run.isSome * 2 ^ 31 + b2n (s.checking (p.die * 5 + p.inst)) * 2 ^ 30 + b2n x.known * 2 ^ 29 + x.cls % 4 * 2 ^ 24 +
      (s.die p.die).power.issue % 256 * 2 ^ 16 + s.reckonerFn p.die p.inst
  else s.reg p off

/-- Registers of a recipe-control page (R437). -/
def State.recipeReg (s : State) (p : Page) (off : Nat) : Nat :=
  let x := s.reck p.die p.inst
  let q : Sequence := (x.seqs[bits (s.reg p 0x108) 3 0]?).getD {}
  match off with
  | 0x100 => (x.run.map Run.code).getD 0 * 2 ^ 29 + b2n x.early * 2 ^ 28 + x.handle % 128 * 2 ^ 16 + x.stage % 256 * 2 ^ 8 +
      (x.seqs.filter fun q => q.state == 1).length
  | 0x104 => x.abort
  | 0x10C => q.state % 4 * 2 ^ 30 + q.topK % 512
  | 0x110 => q.id.toNat
  | 0x114 => q.position.toNat
  | 0x118 => (q.last.map fun t => 2 ^ 31 + t).getD 0
  | _ => s.reg p off

/-- Registers of the collective page (R480). -/
def State.collReg (s : State) (p : Page) (off : Nat) : Nat :=
  let gs := (s.die p.die).groups
  let shown (g : Group → Nat) : Nat := ((FMap.get? gs (bits (s.reg p 0x108) 11 0)).map g).getD 0
  match off with
  | 0x104 => (gs.filter fun g => g.2.op.isSome).length * 2 ^ 27 + gs.length
  | 0x10C => shown fun g => 2 ^ 31 + b2n g.isRoot * 2 ^ 30 + b2n g.op.isSome * 2 ^ 29 +
      (childrenOf g.table g.root g.member).length * 2 ^ 25 + g.owner * 2 ^ 16 + g.id
  | 0x110 => shown fun g => g.tclass % 8 * 2 ^ 16 + g.gen
  | 0x114 => shown fun g => g.member * 2 ^ 16 + (g.table.length - 1)
  | 0x118 => shown fun g => g.endpointOf (if g.isRoot then g.member else g.parentOf)
  | 0x11C => shown fun g => g.nextOp.toNat
  | 0x120 => shown fun g => (g.op.map fun o => o.base * 2 ^ 16 + o.chunkCount % 2 ^ 16).getD 0
  | 0x124 => shown Group.timeout
  | _ => s.reg p off

/-- Registers of the integrity pages (R526). -/
def State.integrityReg (s : State) (p : Page) (off : Nat) : Nat :=
  let x := s.integ p.die
  let mark (g : Reckoner → Bool) : Nat := maskOf (((s.die p.die).recks.zipIdx.filter fun r => g r.1).map Prod.snd)
  match off with
  | 0x104 => x.records.length * 2 ^ 29 + mark Reckoner.candidate * 2 ^ 5 + mark Reckoner.retired
  | 0x10C => x.log.length
  | 0x110 => x.nextSeq.toNat
  | _ => s.reg p off
def State.collationReg (s : State) (p : Page) (off : Nat) : Nat :=
  let shown (g : Collation → Nat) : Nat := ((FMap.get? (s.integ p.die).collations (bits (s.reg p 0x100) 4 0)).map g).getD 0
  match off with
  | 0x104 => shown fun c => 2 ^ 31 + b2n (s.hasEndpoint p.die && c.root == s.endpoint p.die) * 2 ^ 30 + c.replica * 2 ^ 24 +
      c.part * 2 ^ 16 + c.id
  | 0x108 => shown Collation.steps
  | 0x10C => shown Collation.result
  | _ => s.reg p off

/-- Registers of a function state page (R551). -/
def State.fnReg (s : State) (p : Page) (off : Nat) : Nat :=
  let f := p.inst
  let x := s.fn f
  let granules := if f = 0 then 192 * s.dies.length - s.granules.length else (s.granules.filter fun g => g.2 == f).length
  match off with
  | 0x100 => b2n x.enable * 2 ^ 31 + b2n x.hold * 2 ^ 30
  | 0x104 => x.phase.code * 2 ^ 29 + b2n x.pendOpen * 2 ^ 28 + b2n x.pendClose * 2 ^ 27 + b2n (s.quiesced f) * 2 ^ 26 +
      b2n x.hold * 2 ^ 25 + b2n x.service * 2 ^ 24 + maskOf ((x.ledgers.zipIdx.filter fun l => !l.1.isEmpty).map Prod.snd)
  | 0x108 => (s.heldReckoners f).length * 2 ^ 26 + granules
  | 0x10C => s.share f 65536 Fn.queues
  | 0x110 => s.share f 262144 Fn.qps
  | 0x114 => x.cap % 256 * 2 ^ 8 + s.share f 128 Fn.handles
  | _ => s.reg p off

/-- KEY_VALID of a function (R586). -/
def State.keyValid (s : State) (f : Nat) : Nat := maskOf (((List.range 64).filter fun h => (s.keySlot f (h + 1)).isSome))

/-- Registers of the cipher pages (R586); on dies other than 0 a user page has KEY_VALID alone. -/
def State.cipherReg (s : State) (p : Page) (off : Nat) : Nat :=
  if off = 0x100 then b2n (s.die p.die).entropy.ok * 2 ^ 31 + b2n (s.die p.die).entropy.seeded * 2 ^ 30 else 0
def State.keyReg (s : State) (p : Page) (off : Nat) : Nat :=
  if off = 0x110 then s.keyValid p.inst
  else if p.die ≠ 0 then 0
  else if off = 0x11C then
    ((s.keySlot p.inst (bits (s.reg p 0x118) 6 0)).map fun k => b2n (!k.second.isEmpty) * 2 ^ 8 + k.usage % 256).getD 0
  else s.reg p off

/-- Registers of the power, clock and colophon pages (R629, R630, R658). -/
def State.powerReg (s : State) (p : Page) (off : Nat) : Nat :=
  let x := (s.die p.die).power
  if off = 0x100 then
    x.state % 8 * 2 ^ 29 + x.target % 8 * 2 ^ 26 + b2n x.brake * 2 ^ 25 + b2n x.trip * 2 ^ 24 + x.issue % 128 * 2 ^ 16 +
      x.tj % 256 * 2 ^ 8 + x.cause % 16
  else s.reg p off
def State.clockReg (s : State) (p : Page) (off : Nat) : Nat :=
  let lost := (s.die p.die).clocks.unlocked
  let lock (x : Pll) (n : Nat) : Nat := b2n (!lost.contains x) * 2 ^ n
  if off = 0x100 then
    lock .cpll 31 + lock .dpll 30 + lock .rpll 29 + lock .mpll 28 + lock .gpll 27 + (if p.die = 0 then lock .pcie 26 else 0)
  else 0
def State.colophonReg (s : State) (p : Page) (off : Nat) : Nat :=
  let t := (s.die p.die).time
  let g : Page := ⟨p.die, .dieGroup, 0⟩
  let b := (s.cap g).last
  match off with
  | 0x11C => b2n (b.latched && b.number.toNat == s.reg p 0x10C && !s.bankComplete g b) * 2 ^ 31
  | 0x120 => t.ns.toNat
  | 0x128 => b2n t.timeSet * 2 ^ 31 + b2n t.ptpLocked * 2 ^ 30 + b2n (t.synced || p.die == 0) * 2 ^ 29
  | _ => s.reg p off

/-- Registers of the PCI Express page. -/
def State.pcieReg (s : State) (off : Nat) : Nat :=
  match off with
  | 0x100 => (s.board.link.map fun l => 2 ^ 31 + b2n l.1 * 2 ^ 30 + l.2.1 % 8 * 2 ^ 27 + l.2.2 % 8 * 2 ^ 24).getD 0
  | 0x104 => maskOf ((List.range 16).filter fun k => !((((s.fn (k / 4)).ledgers[k % 4]?).getD []).isEmpty))
  | _ => 0

/-- Registers of the router pages (R292). -/
def State.router0Reg (s : State) (d off : Nat) : Nat :=
  let r := (s.die d).router
  match off with
  | 0x108 => (r.counts[0]?).getD 0 % 2 ^ 32
  | 0x10C => (r.counts[1]?).getD 0 % 2 ^ 32
  | 0x114 => (r.ports.zipIdx.map fun k => k.1.code * 4 ^ k.2).sum
  | _ => s.reg (routerPage d) off
def State.router1Reg (s : State) (d off : Nat) : Nat :=
  if off = 0x104 then ((FMap.get? (s.die d).router.routes (tableIndex (s.reg (router1Page d) 0x100))).getD 0).toNat
  else s.reg (router1Page d) off

/-- A block-specific register of a page, whole; a register that no field table names reads 0 (R10). -/
def State.blockReg (s : State) (p : Page) (off : Nat) : Nat :=
  match p.kind with
  | .queuePage => s.queueReg p off
  | .qpPage => s.qpReg p off
  | .rate => s.rateReg p off
  | .sched => s.schedReg p off
  | .router0 => s.router0Reg p.die off
  | .router1 => s.router1Reg p.die off
  | .alram => s.linkReg p p.inst off
  | .quire => s.linkReg p (p.inst + 2) off
  | .ethPort => s.ethReg p off
  | .xlate => s.xlateReg p off
  | .fault => s.faultReg p off
  | .xlateFn => s.xlateFnReg p off
  | .hbm => s.memReg p 0 off
  | .lpddr => s.memReg p (p.inst + 1) off
  | .reckoner => s.reckonerReg p off
  | .recipeCtl => s.recipeReg p off
  | .collective => s.collReg p off
  | .integrity => s.integrityReg p off
  | .collation => s.collationReg p off
  | .integrityFn =>
    if off = 0x100 then ((s.integ p.die).log.filter fun e => e.fn == p.inst).length else 0
  | .fnState => s.fnReg p off
  | .cipher => s.cipherReg p off
  | .cipherUser => s.keyReg p off
  | .mailbox => if off = 0x118 then s.spineStat else s.reg p off
  | .power => s.powerReg p off
  | .clock => s.clockReg p off
  | .colophon => s.colophonReg p off
  | .pcie => s.pcieReg off
  | _ => s.reg p off

/-! ### Registers of every page (R40) -/

/-- INT_VEC of a page: on a page of a VF, FUNCTION reads the VF's number (R41). -/
def State.intVec (s : State) (p : Page) : Nat :=
  let v := s.reg p.home 0x28
  if s.pageFn p.home = 0 then v else setBits v 28 24 (s.pageFn p.home)

/-- Whether the 8 bytes at an offset of a page are one 64-bit register. -/
def PageKind.isWide (k : PageKind) (b : Nat) : Bool :=
  b == 0x48 || decide (0xC00 ≤ b) || (decide (0x800 ≤ b ∧ b < 0xC00) && (b % 0x200 == 8 || decide (0x40 ≤ b % 0x200))) ||
  ((regDefAt k b).map RegDef.wide).getD false ||
  (match k with
    | .xlate => b == 0x118
    | .fault => b == 0x108 || b == 0x110
    | .cipherUser => b == 0x110
    | .colophon => b == 0x120
    | _ => false)

/-- The register at an offset of a page as function `f` reads it, whole, without the effects of the read. -/
def State.regValue (s : State) (f : Nat) (p : Page) (off : Nat) : Nat :=
  if !s.readable p && off != 0 && off != 0xC then 0
  else if off < 0x40 then
    match off with
    | 0x00 => p.blkId
    | 0x04 => p.blkCap
    | 0x08 => if p.kind == .packageGroup then s.powerReq % 8 * 2 ^ 8 else if p.kind.isGroup then 0 else s.reg p.home 0x08
    | 0x0C => s.blkStat p
    | 0x10 => s.intRaw p
    | 0x14 => s.reg p.home 0x14
    | 0x18 => s.intStat p
    | 0x20 => if p.kind.isGroup then p.kind.childStride * 2 ^ 8 + (s.children p).length else 0
    | 0x24 => if p.kind.isGroup then p.childBase else 0
    | 0x28 => s.intVec p
    | _ => 0
  else if off < 0x50 then s.reg p off
  else if off < 0x100 then s.reg p (off / 8 * 8) / 2 ^ (off % 8 * 8) % 2 ^ 32
  else if off < 0x800 then
    if p.kind.isGroup && (off - 0x100) / 4 < 32 && p.kind != .ethGroup then s.childEntry f p ((off - 0x100) / 4)
    else if f != 0 && p.kind == .fnState && decide (0x140 ≤ off ∧ off < 0x200) then 0
    else s.blockReg p off
  else if off < 0xC00 then s.bankReg p (if off < 0xA00 then (s.cap p).bankA else (s.cap p).bankB) (off % 0x200)
  else if (off - 0xC00) / 8 < p.kind.counters then (s.ctr p ((off - 0xC00) / 8)).toNat
  else 0

end Sys2Proof.Machine
end

