-- ==== Sys2Proof/Machine/RegRead.lean ====
section
/-!
DEFINITION. Register reads (R28, R30, R32, R57): whole registers, halves and shadows, and what a read clears.
-/

namespace Sys2Proof.Machine

/-- Whether live counter `k` of a page is RC: all but ACCESS_REJECTS, the level OCCUPANCY, and the RWS ones. -/
def Page.rcCounter (p : Page) (k : Nat) : Bool :=
  k != 0 && decide (k < p.kind.counters) && !(p.kind == .pktBuf && k == Ctr.pktBufOccupancy) && !p.rws.contains k

/-- A live counter after a read that clears it: 0, or the present level where it holds a highest level. Its capture total
stays (R645). -/
def State.clearCtr (s : State) (p : Page) (k : Nat) : State :=
  if p.kind == .pktBuf && k == Ctr.pktBufPeakOccupancy then s.setLevel p k (s.die p.die).occupancy
  else if p.kind == .integrity && k == Ctr.integrityLogHighWater then s.setLevel p k (s.integ p.die).log.length
  else { s with regs := FMap.erase s.regs (p.ctr k) }

/-- A read of a register of a page, whole, with what the read clears (R11, R30, R142). -/
def State.readReg (s : State) (f : Nat) (p : Page) (off : Nat) : Nat × State :=
  if !s.readable p then (s.regValue f p off, s)
  else if p.kind == .queuePage && off == 0x130 then s.popStop p
  else
    let v := s.regValue f p off
    if off = 0x44 then (v, s.setReg p 0x44 0)
    else if 0xC00 ≤ off then (v, if p.rcCounter ((off - 0xC00) / 8) then s.clearCtr p ((off - 0xC00) / 8) else s)
    else if ((regDefAt p.kind off).map RegDef.access) == some .rc then (v, s.setReg p off 0)
    else (v, s)

/-- A 4-byte read of a page (R30): the low half of a 64-bit register fills the function's shadow of its high half, and the
next read of the high half takes it. -/
def State.readHalf (s : State) (f : Nat) (p : Page) (off : Nat) : Nat × State :=
  let b := off / 8 * 8
  let a := p.addr + b
  if !p.kind.isWide b then s.readReg f p off
  else
    let rest (s : State) : List (Nat × Nat × Word) := s.shadows.filter fun e => !(e.1 == f && e.2.1 == a)
    if off = b then
      let r := s.readReg f p b
      (r.1 % 2 ^ 32, { r.2 with shadows := (f, a, BitVec.ofNat 32 (r.1 / 2 ^ 32)) :: rest r.2 })
    else
      match s.shadows.find? fun e => e.1 == f && e.2.1 == a with
      | some e => (e.2.2.toNat, { s with shadows := rest s })
      | none => (s.regValue f p b / 2 ^ 32, s)

/-- Word `w` of the MSI-X entry of vector `v` of a function: address low, address high, data, vector control (R72). -/
def State.msixWord (s : State) (f v w : Nat) : Nat :=
  if vectorCount f ≤ v then 0 else
  let e := s.msixEntry f v
  match w with
  | 0 => e.addr.toNat % 2 ^ 32
  | 1 => e.addr.toNat / 2 ^ 32
  | 2 => e.data.toNat
  | _ => b2n e.masked

/-- Word `w` of the pending bit array of a function. -/
def State.pendingWord (s : State) (f w : Nat) : Nat :=
  maskOf ((List.range 32).filter fun k => decide (32 * w + k < vectorCount f) && (s.msixEntry f (32 * w + k)).pending)

/-- A 4-byte read at an offset of a function's BAR0, aligned to 4. -/
def State.readWord (s : State) (f off : Nat) : Nat × State :=
  match s.target f off with
  | .page p o => s.readHalf f p o
  | .msix v w => (s.msixWord f v w, s)
  | .pending w => (s.pendingWord f w, s)
  | .absent | .unmapped => (0, s)

/-- An 8-byte read, aligned to 8: a 64-bit register whole, or two registers. -/
def State.readPair (s : State) (f off : Nat) : Nat × State :=
  let two : Nat × State :=
    let a := s.readWord f off
    let b := a.2.readWord f (off + 4)
    (a.1 + b.1 * 2 ^ 32, b.2)
  match s.target f off with
  | .page p o => if p.kind.isWide o then s.readReg f p o else two
  | _ => two

/-- The die that a request of a function's BAR0 addresses. -/
def State.dieAt (s : State) (f off : Nat) : Nat :=
  if f = 0 then off / 0x800000
  else match s.target f off with
    | .page p _ => p.die
    | _ => 0

/-- Whether a request of a function's BAR0 finds no way to its die (R290); a die that the part does not have is not meant. -/
def State.cutOff (s : State) (f off : Nat) : Bool := decide (s.dieAt f off < s.dies.length) && !s.answers (s.dieAt f off)

/-- RC_REGISTER_READ (R28, R30, R67, R68, R290): a read of BAR0. One with partial byte enables is a read of the half or the
unit that holds them. -/
def execRcRegisterRead (f off size : Nat) (_partialBE : Bool) (s : State) : Result :=
  atFn s f <| s.fromFn f <|
    if size = 0 || off / 8 != (off + size - 1) / 8 then s.emit (.unsupported f)
    else if s.cutOff f off then (s.reject ⟨0, .dieGroup, 0⟩ 0x0006).emit (.readData f 0)
    else if (s.fn f).flr then s.emit (.readData f 0)
    else
      let half := decide (off % 8 + size ≤ 4 ∨ 4 ≤ off % 8)
      let r := if half then s.readWord f (off / 4 * 4) else s.readPair f (off / 8 * 8)
      let v := r.1 / 2 ^ (8 * (if half then off % 4 else off % 8)) % 2 ^ (8 * size)
      r.2.emit (.readData f (BitVec.ofNat 64 v))

end Sys2Proof.Machine
end

