-- ==== Sys2Proof/Machine/Fabric.lean ====
section
/-!
DEFINITION. Fabric management (R588 to R590, R657): the authenticated messages, what each command does, and the writes of
the routing tables that only the Spine makes (R280, R281, R292).
-/

namespace Sys2Proof.Machine

/-! ### Writes of the router pages (R280, R281, R284, R292) -/

/-- What a write that the Spine makes leaves: the code with which it was refused, 0 for none. -/
abbrev Written := Nat × State

/-- A write refused with a code, which the page captures. -/
def State.refusedWith (s : State) (p : Page) (code : Nat) : Written := (code, s.refuse p code)

/-- TABLE_SELECT written (R292): a member index above 15 is refused. -/
def State.writeTableSelect (s : State) (d v : Nat) : Written :=
  if bit v 29 && decide (15 < bits v 13 0) then s.refusedWith (router1Page d) 0x0104
  else (0, s.setReg (router1Page d) 0x100 (v &&& 0xE0003FFF))

/-- A route entry that is refused whatever the state (R281, R292). -/
def badRoute (v : Nat) : Bool :=
  bits v 30 19 != 0 || bits v 7 1 != 0 || bits v 18 16 == 2 || bits v 18 16 == 7 || bit v 15

/-- TABLE_ENTRY written at the place that TABLE_SELECT names (R280, R281). FORCE applies to this write alone. -/
def State.writeTableEntry (s : State) (d v : Nat) : Written :=
  let sel := s.reg (router1Page d) 0x100
  let force := bit sel 31
  let e := b2n (bit sel 30)
  let s := s.setReg (router1Page d) 0x100 (sel % 2 ^ 31)
  if badRoute v then s.refusedWith (router1Page d) 0x0102
  else if !force && (((s.die d).router.counts[e]?).getD 0 != 0 || b2n (s.injectEdition d) == e) then
    s.refusedWith (router1Page d) 0x0101
  else
    let s := if force then s.count (routerPage d) Ctr.router0ForceWrites else s
    let set (r : Router) : Router :=
      { r with routes := if v = 0 then FMap.erase r.routes (tableIndex sel)
                         else FMap.set r.routes (tableIndex sel) (BitVec.ofNat 32 v) }
    (0, s.onRouter d set)

/-- Whether the link behind a router port is UP; port 2 stands for the Ethernet ports. -/
def State.portLinkUp (s : State) (d port : Nat) : Bool :=
  match linkOfPort port with
  | some l => s.linkState d l == .up
  | none => port == 2 && !(s.ethUpPorts d).isEmpty

/-- EDITION_CTL written (R284): a write of INJECT_EDITION returns to use every port in DISCARD whose link is UP. -/
def State.writeEditionCtl (s : State) (d v : Nat) : State :=
  let s := s.setReg (routerPage d) 0x104 (v &&& 0x101)
  (List.range 7).foldl (fun s k =>
    if s.portState d k == .discard && s.portLinkUp d k then (s.setPort d k .up).reoffer d else s) s

/-- ENDPOINT_ID written: it is static (R62, R292). -/
def State.writeEndpointId (s : State) (d v : Nat) : Written :=
  let v := v &&& 0x8003FFFF
  if s.busy (routerPage d) && v != s.reg (routerPage d) 0x100 then (0x0002, s.reject (routerPage d) 0x0002)
  else (0, s.setReg (routerPage d) 0x100 v)

/-- ROUTE_CTL written: an ESCAPE_WAIT_NS below 64 is refused. -/
def State.writeRouteCtl (s : State) (d v : Nat) : Written :=
  if bits v 15 0 < 64 then s.refusedWith (routerPage d) 0x0104
  else (0, s.setReg (routerPage d) 0x110 (v &&& 0xFF00FFFF))

/-! ### The commands (R590, R657) -/

/-- The outcome of a command: STATUS, the value that it returns, none where it returns none, and the state. -/
structure MgmtOut where
  status : Nat
  value  : Option Nat
  after  : State

/-- The outcome of a write. -/
def Written.out (w : Written) : MgmtOut := ⟨w.1, none, w.2⟩

/-- A signed number of `n` bits. -/
def signedInt (n v : Nat) : Int := if v < 2 ^ (n - 1) then (v : Int) else (v : Int) - (2 ^ n : Nat)

/-- A command of R590 or R657 on die `d`. -/
def State.mgmt (s : State) (d code arg0 arg1 : Nat) : MgmtOut :=
  match code with
  | 0x01 =>
    if arg0 < 0x2000 ∧ arg0 % 4 = 0 then
      let r := s.readWord 0 ((routerPage d).addr + arg0)
      ⟨0, some r.1, r.2⟩
    else ⟨0x0104, some 0, s⟩
  | 0x02 =>
    let w := s.writeTableSelect d (arg0 % 2 ^ 32)
    if w.1 = 0 then (w.2.writeTableEntry d (arg1 % 2 ^ 32)).out else w.out
  | 0x03 => ⟨0, none, s.writeEditionCtl d (setBits (s.reg (routerPage d) 0x104) 0 0 arg0)⟩
  | 0x04 => ⟨0, none, s.setReg (routerPage d) 0x104 (setBits (s.reg (routerPage d) 0x104) 8 8 arg0)⟩
  | 0x05 => (s.writeEndpointId d (arg0 % 2 ^ 32)).out
  | 0x06 => (s.writeRouteCtl d (arg0 % 2 ^ 32)).out
  | 0x07 => ⟨0, none, s⟩
  | 0x20 =>
    let now := (s.time 0).toNat
    if (s.die 0).time.timeSet ∧ arg0 < now then (s.refusedWith (colophonPage 0) 0x0102).out
    else
      let step := decide ((s.die 0).time.timeSet = true ∧ now < arg0)
      let s := s.setTimes (BitVec.ofNat 64 arg0)
      ⟨0, none, if step then s.eachDie fun s d => s.count (colophonPage d) Ctr.colophonTimeSteps else s⟩
  | 0x21 =>
    let rate := signedInt 32 (arg1 % 2 ^ 32)
    if rate < -500000 ∨ 500000 < rate then (s.refusedWith (colophonPage 0) 0x0100).out
    else ⟨0, none, s.eachDie fun s d => s.onTime d fun t => { t with ppb := rate, slew := t.slew + signedInt 64 arg0 * 65536 }⟩
  | 0x22 =>
    if s.dies.length ≤ bits arg0 10 8 then (s.refusedWith (colophonPage 0) 0x0100).out
    else
      let v := b2n (bit arg0 0) * 2 ^ 31 + bits arg0 10 8 * 2 ^ 28 + bits arg0 13 12 * 2 ^ 26 + bits arg0 22 16 * 2 ^ 16
      ⟨0, none, s.eachDie fun s d =>
        (s.setReg (colophonPage d) 0x12C v).onTime d fun t => { t with epochOffset := signedInt 64 arg1 }⟩
  | 0x23 =>
    ⟨0, none, s.eachDie fun s d =>
      let p := colophonPage d
      (((s.setReg p 0x108 (arg0 % 2 ^ 32)).setReg p 0x110 arg1).setReg p 0x100 (setBits (s.reg p 0x100) 30 30 1)).fireDue d⟩
  | 0x24 => ⟨0, none, (s.setReg (colophonPage 0) 0x108 (arg0 % 2 ^ 32)).trigger 0 true⟩
  | 0x25 => ⟨0, some (s.time 0).toNat, s⟩
  | _ => ⟨0xFFFF, none, s⟩

/-! ### Messages (R588, R589) -/

/-- Bytes 0 to 31 of a message. -/
def mgmtHead (m : MgmtMessage) (code : Nat) : List Byte :=
  toBE 1 code ++ [m.flags] ++ toBE 2 m.status.toNat ++ toBE 4 m.reserved.toNat ++ toBE 8 m.sequence.toNat ++
  toBE 8 m.arg0.toNat ++ toBE 8 m.arg1.toNat

/-- What the CMAC covers: the endpoints of the network header, 4 bytes each, and bytes 0 to 31. -/
def mgmtCovered (source dest : Nat) (head : List Byte) : List Byte := toBE 4 source ++ toBE 4 dest ++ head

/-- Whether the Spine carries out a request (R588, R589). -/
def State.mgmtOk (s : State) (m : MgmtMessage) (code : Nat) : Bool :=
  match s.spine.fabricKey with
  | none => false
  | some k => cmac k (mgmtCovered m.source.toNat m.dest.toNat (mgmtHead m code)) == toBE 16 m.cmac.toNat &&
      decide (s.spine.fabricSeq < m.sequence.toNat) && m.flags == 0

/-- A request dropped (R589). -/
def State.mgmtDrop (s : State) : State := s.count mailboxPage Ctr.mailboxFabricAuthDrops

/-- A response of 48 bytes (R588): RESPONSE, the request's SEQUENCE, ARG1 the value read. What the response holds in ARG0,
and in ARG1 where nothing was read, is free. -/
def State.mgmtResponse (s : State) (m : MgmtMessage) (code status : Nat) (value : Option Nat) (source dest : Nat) :
    List Byte × State :=
  let a := s.takeFree
  let b := a.2.takeFree
  let arg1 := value.getD b.1.toNat
  let s := if value.isSome then a.2 else b.2
  let r : MgmtMessage := { m with flags := 1, status := .ofNat 16 status, reserved := 0, arg0 := a.1, arg1 := .ofNat 64 arg1 }
  let h := mgmtHead r code
  (h ++ cmac (s.spine.fabricKey.getD []) (mgmtCovered source dest h), s)

/-- A request that the Spine carries out (R589): its SEQUENCE is the last one accepted, and each is answered. -/
def State.mgmtRun (s : State) (d code : Nat) (m : MgmtMessage) : MgmtOut :=
  let s := s.onSpine fun x => { x with fabricSeq := m.sequence.toNat }
  s.mgmt d code m.arg0.toNat m.arg1.toNat

/-- A FABRIC_MGMT packet that has reached die `d`'s local port and holds a message. -/
def State.mgmtPacket (s : State) (d code : Nat) (m : MgmtMessage) : Option Packet :=
  ((s.die d).router.arrived.map FifoPacket.pkt).find? fun p =>
    p.ptype == ptFabricMgmt && p.source == m.source && p.dest == m.dest && p.body.length == 52 &&
    p.body.take 48 == mgmtHead m code ++ toBE 16 m.cmac.toNat

/-- A message that a FABRIC_MGMT packet carries to die `d` (R588 to R590): taken, checked, carried out and answered with a
packet to its source. A tally that fails drops it. -/
def State.mgmtFrom (s : State) (d code : Nat) (m : MgmtMessage) : State :=
  let tallied := ((s.mgmtPacket d code m).map fun p => tallies 0 (p.body.take 48) == p.body.drop 48).getD true
  let tc := ((s.mgmtPacket d code m).map fun p => p.tclass.toNat).getD 0
  let s := match s.mgmtPacket d code m with
    | some p => s.takeLocal d p
    | none => s
  if !s.spine.alive then s
  else if !tallied || !s.mgmtOk m code then s.mgmtDrop
  else
    let o := s.mgmtRun d code m
    let r := o.after.mgmtResponse m code o.status o.value (o.after.endpoint d) m.source.toNat
    let body := r.1 ++ tallies 0 r.1
    let s := r.2.inject d (ownPacket (r.2.endpoint d) m.source.toNat tc ptFabricMgmt body) flowLocal
    if code = 7 then s.forwardingReset d else s


/-! ### The messages as packets carry them -/

/-- READ_ROUTER (R590). -/
def execReadRouter (d : Nat) (m : MgmtMessage) (s : State) : Result := atDie s d (s.mgmtFrom d 1 m)

/-- WRITE_TABLE_ENTRY (R280, R281, R590). -/
def execWriteTableEntry (d : Nat) (m : MgmtMessage) (s : State) : Result := atDie s d (s.mgmtFrom d 2 m)

/-- SET_INJECT_EDITION (R284, R590). -/
def execSetInjectEdition (d : Nat) (m : MgmtMessage) (s : State) : Result := atDie s d (s.mgmtFrom d 3 m)

/-- SET_RELAY_REQUIRED (R291, R590). -/
def execSetRelayRequired (d : Nat) (m : MgmtMessage) (s : State) : Result := atDie s d (s.mgmtFrom d 4 m)

/-- SET_ENDPOINT_ID (R274, R590). -/
def execSetEndpointId (d : Nat) (m : MgmtMessage) (s : State) : Result := atDie s d (s.mgmtFrom d 5 m)

/-- SET_ROUTE_CTL (R590). -/
def execSetRouteCtl (d : Nat) (m : MgmtMessage) (s : State) : Result := atDie s d (s.mgmtFrom d 6 m)

/-- RESET_FORWARDING_PLANE (R289, R590). -/
def execResetForwardingPlane (d : Nat) (m : MgmtMessage) (s : State) : Result := atDie s d (s.mgmtFrom d 7 m)

/-- SET_FABRIC_TIME (R651, R657). -/
def execSetFabricTime (d : Nat) (m : MgmtMessage) (s : State) : Result := atDie s d (s.mgmtFrom d 0x20 m)

/-- ADJUST_FABRIC_TIME (R652, R657). -/
def execAdjustFabricTime (d : Nat) (m : MgmtMessage) (s : State) : Result := atDie s d (s.mgmtFrom d 0x21 m)

/-- SET_PTP (R655, R657). -/
def execSetPtp (d : Nat) (m : MgmtMessage) (s : State) : Result := atDie s d (s.mgmtFrom d 0x22 m)

/-- ARM_CAPTURE_AT (R648, R657). -/
def execArmCaptureAt (d : Nat) (m : MgmtMessage) (s : State) : Result := atDie s d (s.mgmtFrom d 0x23 m)

/-- TRIGGER_CAPTURE (R657). -/
def execTriggerCapture (d : Nat) (m : MgmtMessage) (s : State) : Result := atDie s d (s.mgmtFrom d 0x24 m)

/-- READ_FABRIC_TIME (R657). -/
def execReadFabricTime (d : Nat) (m : MgmtMessage) (s : State) : Result := atDie s d (s.mgmtFrom d 0x25 m)

end Sys2Proof.Machine
end

