-- ==== Sys2Proof/Machine/Mailbox.lean ====
section
/-!
DEFINITION. The Spine mailbox (R593, R594): its commands, run whole, with their results and responses. A command's request is
an operand: what host memory holds at MBX_REQ_ADDR.
-/

namespace Sys2Proof.Machine

/-- Results of a mailbox command (MBX_STAT.RESULT). -/
def mrOk : Nat := 0
def mrBadCommand : Nat := 1
def mrBadFormat : Nat := 2
def mrAuthFailed : Nat := 3
def mrNotPermitted : Nat := 4
def mrRefused : Nat := 5

/-- A command ends (R593): its response goes to MBX_RSP_ADDR, MBX_STAT shows it, and bit 0 of INT_RAW is set. -/
def State.mbxEnd (s : State) (command result : Nat) (response : List Byte := []) : State :=
  let a : Word64 := BitVec.ofNat 64 (s.reg mailboxPage 0x108)
  let s := if response.isEmpty then s else s.issueHost 0 { addr := a, data := response, logged := false }
  (s.setReg mailboxPage 0x114 (response.length * 2 ^ 16 + command * 2 ^ 8 + result)).raise mailboxPage 1

/-! ### What each command does -/

/-- GET_STATUS. -/
def State.mbxStatus (s : State) : State := s.mbxEnd 1 mrOk s.statusResponse

/-- ATTEST (R577). -/
def State.mbxAttest (s : State) (request : List Byte) : State :=
  if request.length ≠ 32 then s.mbxEnd 2 mrBadFormat
  else
    let r := s.attestReport request
    r.2.mbxEnd 2 mrOk r.1

/-- LOAD_FABRIC_KEY (R580, R581, R589): a blob of KIND FABRIC with FUNCTION 0; the sequence starts at zero. -/
def State.mbxFabricKey (s : State) (b : List Byte) : State :=
  if s.spine.unlocked then s.mbxEnd 3 mrNotPermitted
  else if !s.blobOk b || blobKind b != 2 || bits (le b 8 4) 4 0 != 0 || bits (le b 8 4) 14 8 != 0 then s.mbxEnd 3 mrBadFormat
  else
    match s.unwrap b with
    | none => s.mbxEnd 3 mrAuthFailed
    | some k => (s.onSpine fun x => { x with fabricKey := some (k.take 32), fabricSeq := 0 }).mbxEnd 3 mrOk

/-- The message of a FABRIC_CMD request (R588): its endpoints count as zero. -/
def mailboxMessage (r : List Byte) : MgmtMessage where
  source := 0
  dest := 0
  flags := BitVec.ofNat 8 (be r 1 1)
  status := BitVec.ofNat 16 (be r 2 2)
  reserved := BitVec.ofNat 32 (be r 4 4)
  sequence := BitVec.ofNat 64 (be r 8 8)
  arg0 := BitVec.ofNat 64 (be r 16 8)
  arg1 := BitVec.ofNat 64 (be r 24 8)
  cmac := BitVec.ofNat 128 (be r 32 16)

/-- FABRIC_CMD on die `d` (R588 to R590): a request that is dropped has no response. -/
def State.mbxFabric (s : State) (d : Nat) (r : List Byte) : State :=
  if r.length ≠ 48 then s.mbxEnd 4 mrBadFormat
  else
    let m := mailboxMessage r
    let code := be r 0 1
    if !s.mgmtOk m code then s.mgmtDrop.mbxEnd 4 mrAuthFailed
    else
      let o := s.mgmtRun d code m
      let x := o.after.mgmtResponse m code o.status o.value 0 0
      let s := x.2.mbxEnd 4 mrOk x.1
      if code = 7 then s.forwardingReset d else s

/-- What CONFIRM_QUIRE leaves (R567, R570): the running image is ACTIVE, the other slot EMPTY, sections of other formats are
dropped, and the minimum rises. -/
def Spine.confirm (x : Spine) : Spine :=
  let h := x.quire.header
  let keep (n : Nat) : Nat := if n = hFormat h then n else 0
  { x with
    slots := modifyAt (modifyAt x.slots x.inUse fun q => { q with state := .active }) (1 - x.inUse) fun _ => {}
    formats := (keep x.formats.1, keep x.formats.2), copy := 1 - x.copy, sequence := x.sequence + 1
    otp := { x.otp with minQuire := max x.otp.minQuire (min 64 (hSecurity h)) } }

/-- CONFIRM_QUIRE (R567, R570, R594). -/
def State.mbxConfirm (s : State) : State :=
  if s.spine.trial && s.spine.phase == .running then (s.onSpine Spine.confirm).mbxEnd 5 mrOk else s.mbxEnd 5 mrNotPermitted

/-- DEBUG_CHALLENGE (R592, R594): the serial number and a nonce, a free value. -/
def State.mbxChallenge (s : State) : State :=
  let n := State.takeFreeBytes 32 s
  (n.2.onSpine fun x => { x with nonce := some n.1 }).mbxEnd 6 mrOk (toLE 8 s.spine.otp.serial.toNat ++ n.1)

/-- The form of a debug token (R592). -/
def tokenForm (t : List Byte) : Bool :=
  t.length == 160 && le t 0 4 == 0x4B4F5444 && bits (le t 4 4) 15 0 == 1 && bits (le t 4 4) 23 18 == 0 &&
  allZero (slice t 0x30 16)

/-- Whether the Spine accepts a debug token (R592). -/
def Spine.tokenOk (x : Spine) (t : List Byte) : Bool :=
  let k := le t 7 1
  match (x.otp.debugKeys[k]?).getD none with
  | none => false
  | some key =>
    !x.otp.debugRevoked.contains k && le t 8 8 == x.otp.serial.toNat && x.nonce == some (slice t 0x10 32) &&
    ecdsaVerify key (sha384 (t.take 0x40)) (slice t 0x40 96)

/-- What an accepted debug token leaves (R592): every key slot, the selection keys and the fabric key are erased. -/
def State.unlock (s : State) : State :=
  let s := { s with keys := [] }
  let s := s.eachDie fun s d => s.onDie d fun x => { x with integ := { x.integ with key := zeros 32 } }
  s.onSpine fun x => { x with unlocked := true, nonce := none, fabricKey := none }

/-- DEBUG_UNLOCK (R592). -/
def State.mbxUnlock (s : State) (t : List Byte) : State :=
  if !tokenForm t then s.mbxEnd 7 mrBadFormat
  else if !s.spine.tokenOk t then s.mbxEnd 7 mrAuthFailed
  else s.unlock.mbxEnd 7 mrOk

/-- A write of the Spine that the policy checker refuses (R555, R593). -/
def State.policyViolation (s : State) : State :=
  ((s.count mailboxPage Ctr.mailboxPolicyViolations).refuse mailboxPage 0x0100).raise mailboxPage 2

/-- APPROVE_RAMP_TABLE (R594, R614, R615). -/
def State.mbxRamp (s : State) (r : List Byte) : State :=
  if !rampHeaderOk r then s.mbxEnd 8 mrBadFormat
  else if !rampRecordOk s.part r then s.policyViolation.mbxEnd 8 mrRefused
  else (s.applyRecord r).mbxEnd 8 mrOk

/-- A write of MBX_CMD by itself (R593, R594): the request, whose bytes no operand gives, is free. -/
def State.mbxCommand (s : State) (v : Nat) : State :=
  let code := bits v 7 0
  let r := State.takeFreeBytes (bits v 23 8) s
  match code with
  | 1 => s.mbxStatus
  | 2 => r.2.mbxAttest r.1
  | 3 => r.2.mbxFabricKey r.1
  | 4 => r.2.mbxFabric 0 r.1
  | 5 => s.mbxConfirm
  | 6 => s.mbxChallenge
  | 7 => r.2.mbxUnlock r.1
  | 8 => r.2.mbxRamp r.1
  | _ => s.mbxEnd code mrBadCommand

/-! ### The commands -/

/-- GET_STATUS (R594). -/
def execGetStatus (s : State) : Result := .next (s.fromFn 0 s.mbxStatus)

/-- ATTEST (R577, R594). -/
def execAttest (request : List Byte) (s : State) : Result := .next (s.fromFn 0 (s.mbxAttest request))

/-- LOAD_FABRIC_KEY (R589, R594). -/
def execLoadFabricKey (request : List Byte) (s : State) : Result := .next (s.fromFn 0 (s.mbxFabricKey request))

/-- FABRIC_CMD (R588, R594). -/
def execFabricCmd (d : Nat) (request : List Byte) (s : State) : Result := atDie s d (s.fromFn 0 (s.mbxFabric d request))

/-- CONFIRM_QUIRE (R570, R594). -/
def execConfirmQuire (s : State) : Result := .next (s.fromFn 0 s.mbxConfirm)

/-- DEBUG_CHALLENGE (R592, R594). -/
def execDebugChallenge (s : State) : Result := .next (s.fromFn 0 s.mbxChallenge)

/-- DEBUG_UNLOCK (R592, R594). -/
def execDebugUnlock (request : List Byte) (s : State) : Result := .next (s.fromFn 0 (s.mbxUnlock request))

/-- APPROVE_RAMP_TABLE (R594, R615). -/
def execApproveRampTable (request : List Byte) (s : State) : Result := .next (s.fromFn 0 (s.mbxRamp request))

end Sys2Proof.Machine
end

