-- ==== Sys2Proof/Machine/RegWrite.lean ====
section
/-!
DEFINITION. Register writes (R10, R11, R28 to R31, R36, R43 to R48, R53, R58 to R60, R62, and the field tables): how a write
of BAR0 lands, what it may change, and why it is refused. A register that has a row of its own takes the meaning of that row.
-/

namespace Sys2Proof.Machine

/-- The state that a meaning leaves, where it gives one. -/
def afterOf (r : Result) (s : State) : State :=
  match r with
  | .next t => t
  | _ => s

/-- A write denied with a code: a common code counts in ACCESS_REJECTS (R55), a block-specific one is captured alone. -/
def State.deny (s : State) (p : Page) (code : Nat) : State := if code < 0x100 then s.reject p code else s.refuse p code

/-! ### The common page (R43 to R48, R53, R58, R59) -/

/-- The RESET command of a page (R44). Without a Quire image that runs, a die stays in reset (R568). -/
def State.resetPage (s : State) (f : Nat) (p : Page) : State :=
  match p.kind with
  | .packageGroup => if f = 0 then s.packageWarm else s.reject p 0x0003
  | .dieGroup =>
    if f = 0 && s.spine.phase != .failed then
      (s.enterComputeReset p.die).onDie p.die fun x => { x with cmdBusy := true }
    else s.reject p 0x0003
  | _ => s.reject p 0x0003

/-- BLK_CTL written (R43 to R45): a POWER_REQ field, then BLOCK_CTL of a leaf page, which no block gives a meaning, and the
command. -/
def State.writeBlkCtl (s : State) (f : Nat) (p : Page) (v : Nat) : State :=
  let cmd := bits v 15 12
  if cmd != 0 && bits v 31 24 != 0xC3 then s.reject p 0x0004
  else if cmd != 0 && bit (s.blkStat p) 26 then s.reject p 0x0003
  else if 4 < cmd then s.reject p 0x0003
  else
    let asks := p.kind == .packageGroup
    let s := if asks then s.requestPower (bits v 10 8) else s
    if asks && decide (5 < bits v 10 8) then s
    else
      let s := if p.kind.isGroup || cmd == 1 then s else s.setReg p.home 0x08 (bits v 7 0)
      match cmd with
      | 1 => s.resetPage f p
      | 2 => s.arm p true
      | 3 => s.arm p false
      | 4 => s.clearErrors p
      | _ => s

/-- INT_RAW written (R46, R48, R59): on a group page the bits stay. -/
def State.clearRaw (s : State) (p : Page) (v : Nat) : State :=
  let s := if p.kind.isGroup then s else s.setReg p.home 0x10 (s.reg p.home 0x10 &&& (2 ^ 32 - 1 - v % 2 ^ 32))
  s.furtherMessages p

/-- INT_EN written (R59). -/
def State.writeEnable (s : State) (p : Page) (v : Nat) : State := (s.setReg p.home 0x14 (v % 2 ^ 32)).furtherMessages p

/-- INT_SET written (R46, R48). -/
def State.setRaw (s : State) (p : Page) (v : Nat) : State := if p.kind.isGroup then s else s.raise p (v % 2 ^ 32)

/-- INT_VEC written (R41, R58): on a page of a VF, FUNCTION is fixed. -/
def State.writeIntVec (s : State) (p : Page) (v : Nat) : State :=
  let own := s.pageFn p.home
  let v := setBits (v &&& 0x9F0007FF) 28 24 (if own = 0 then bits v 28 24 else own)
  if 16 < bits v 28 24 ∨ vectorCount (bits v 28 24) ≤ bits v 10 0 then s.reject p 0x0009
  else s.setReg p.home 0x28 v

/-- FE_STATUS written (R53): a 1 to VALID clears VALID, FE_TIME and FE_DATA, and a 1 to OVERFLOW clears it. -/
def State.clearFe (s : State) (p : Page) (v : Nat) : State :=
  let s := if bit v 30 then s.setReg p 0x40 (setBits (s.reg p 0x40) 30 30 0) else s
  if bit v 31 then
    let s := (s.setReg p 0x40 (setBits (s.reg p 0x40) 31 31 0)).setReg p 0x48 0
    (List.range 44).foldl (fun s j => s.setReg p (0x50 + 4 * j) 0) s
  else s

/-- A register of the common page written. -/
def State.writeCommon (s : State) (f : Nat) (p : Page) (off v : Nat) : State :=
  match off with
  | 0x08 => s.writeBlkCtl f p v
  | 0x10 => s.clearRaw p v
  | 0x14 => s.writeEnable p v
  | 0x1C => s.setRaw p v
  | 0x28 => s.writeIntVec p v
  | 0x40 => s.clearFe p v
  | _ => s

/-! ### Values that the field tables refuse -/

/-- Scheduler pages (R240, R241). -/
def schedDenied (off v : Nat) : Nat :=
  if off = 0x104 then (if 20 < bits v 12 8 ∨ 16 < bits v 4 0 then 0x0102 else 0)
  else if 0x140 ≤ off ∧ off < 0x1C0 then
    match (off - 0x140) % 0x10 with
    | 0 => if bits v 23 16 = 0 ∨ bits v 15 8 = 0 then 0x0102 else 0
    | 4 => if v = 0 then 0x0102 else 0
    | 8 => if v < 64 ∨ 16777216 < v then 0x0102 else 0
    | _ => 0
  else 0

/-- The curve pages of a die: a bank in force is not written (R236), and the three rates stay in order (R241). -/
def State.curveDenied (s : State) (p : Page) (off v : Nat) : Nat :=
  if off = 0x108 then (if v = 0 then 0x0102 else 0)
  else if 0x10C ≤ off ∧ off ≤ 0x114 then
    let r (o : Nat) : Nat := if off = o then v else s.reg p o
    if r 0x10C = 0 ∨ r 0x110 < r 0x10C ∨ r 0x114 < r 0x110 then 0x0102 else 0
  else if 0x200 ≤ off ∧ off < 0x300 ∧ (off - 0x200) / 0x80 = s.reg p 0x100 then 0x0100
  else 0

/-- The reservation of a die as a write would leave it exceeds the pool (R311). -/
def State.overReserved (s : State) (d : Nat) (p : Page) (off v : Nat) : Bool :=
  let s' := s.setReg p off v
  decide (s'.ethPool d < reservation (s'.ethPorts d) (s'.reserve d))

/-- Ethernet pages (R294, R311 and the field tables). -/
def State.ethDenied (s : State) (p : Page) (off v : Nat) : Nat :=
  let group := p.kind == .ethGroup
  let bad : Bool :=
    if group then
      (off == 0x100 && v == 3) || (off == 0x104 && (decide (v < 1024) || decide (16384 < v))) ||
      (off == 0x108 && (v == 0 || v == 319 || v == 320)) || (off == 0x10C && v == 0)
    else
      (off == 0x108 && (decide (v < 8338) || decide (9216 < v))) ||
      (decide (0x120 ≤ off ∧ off < 0x160) && bit v 40) || (decide (0x160 ≤ off ∧ off < 0x180) && !bit v 40) ||
      (decide (0x180 ≤ off ∧ off < 0x1C0) && off % 8 == 0 && decide (bits v 15 0 < bits v 31 16))
  let touches := if group then off == 0x100 || off == 0x104 else decide (0x180 ≤ off ∧ off < 0x1C0)
  if bad then 0x0100 else if touches && s.overReserved p.die p off v then 0x0101 else 0

/-- A CREDIT_GRANT of link `l` that R264 does not allow. -/
def State.grantDenied (s : State) (p : Page) (l off v : Nat) : Bool :=
  let n := v % 65536
  let s' := s.setReg p off v
  let sum := ((List.range 6).flatMap fun k => (List.range (linkVcs k)).map fun vc => s'.creditGrant p.die k vc).sum
  decide (0x140 ≤ off ∧ off < 0x140 + 4 * linkVcs l) &&
    (decide (n = 0 ∧ 0x160 ≤ off) || decide (1 ≤ n ∧ n < 130) || decide (16384 < n) || decide (196608 < sum))

/-- The code with which a value is refused at a register of a page, 0 for none. -/
def State.denied (s : State) (p : Page) (off v : Nat) : Nat :=
  match p.kind with
  | .tx => if off = 0x104 ∧ v = 0 then 0x0002 else 0
  | .sched => schedDenied off v
  | .rateCtl => if (if off = 0x100 then bits v 3 0 else v) = 0 then 0x0102 else 0
  | .curve => s.curveDenied p off v
  | .alram =>
    if (off = 0x100 ∧ 16 < bits v 20 16) ∨ (off = 0x10C ∧ bits v 31 16 = 0) || s.grantDenied p p.inst off v then 0x0104 else 0
  | .quire => if s.grantDenied p (p.inst + 2) off v then 0x0104 else 0
  | .ethGroup | .ethPort => s.ethDenied p off v
  | .xlate => if (off ≤ 0x104 ∧ v = 0) ∨ (off = 0x114 ∧ 16 < v) then 0x0100 else 0
  | .hbm | .lpddr => if bits v 15 0 = 0 then 0x0101 else 0
  | .format => if slotValid v then 0 else 0x0100
  | .collective => if off = 0x100 ∧ (bits v 31 16 = 0 ∨ bits v 15 0 = 0) then 0x0101 else 0
  | .integrity =>
    let bad := match off with
      | 0x100 => bits v 15 8 == 0 || bits v 3 0 == 1 || bits v 3 0 == 2 || decide (11 ≤ bits v 3 0)
      | 0x114 => bits v 15 8 == 0 || bits v 7 0 == 0
      | _ => bits v 31 16 == 0 || bits v 15 0 == 0
    if bad then 0x0100 else 0
  | .power =>
    let bad := if off = 0x104 then
        decide (100 < bits v 31 24 ∨ bits v 23 16 < 60 ∨ 105 < bits v 23 16 ∨ bits v 15 8 ≤ bits v 23 16 ∨ 115 < bits v 15 8)
      else decide (bits v 31 16 = 0 ∨ bits v 15 0 < 100)
    if bad then 0x0100 else 0
  | .colophon =>
    if off = 0x12C then 0x0101
    else if (off = 0x100 ∧ bits v 15 0 = 0) ∨ (off = 0x118 ∧ (s.children ⟨p.die, .dieGroup, 0⟩).length ≤ bits v 20 16) then
      0x0100
    else 0
  | .router0 | .router1 => 0x0100
  | _ => 0

/-! ### Registers with an effect of their own -/

/-- ADMIN_CTL written (R137, R140, R141). -/
def State.writeAdminCtl (s : State) (p : Page) (v : Nat) : State :=
  let on := bit (s.reg p 0x108) 31
  let w : Word := BitVec.ofNat 32 v
  if !on && bit v 31 then afterOf (execAdminQueueEnable p.inst w s) s
  else if on && !bit v 31 then afterOf (execAdminQueueDisable p.inst w s) s
  else if on && (decide (bits v 20 16 < 4) || decide (8 < bits v 20 16)) then s.refuse p 0x0100
  else if vectorCount p.inst ≤ bits v 10 0 then s.reject p 0x0009
  else s.setReg p 0x108 (v &&& 0xC01F07FF)

/-- A queue page's registers (R133, R134, R140). -/
def State.writeQueuePage (s : State) (p : Page) (off v : Nat) : State :=
  let w : Word := BitVec.ofNat 32 v
  match off with
  | 0x100 => if p.die ≠ 0 then s else if bit (s.reg p 0x108) 31 then s.reject p 0x0002 else s.setReg p 0x100 v
  | 0x108 => if p.die ≠ 0 then s else s.writeAdminCtl p v
  | 0x110 => s.setReg p 0x110 (v % 2 ^ 16)
  | 0x128 => afterOf (execQueueDisable p.inst p.die w s) s
  | 0x12C => afterOf (execQueueEnable p.inst p.die w s) s
  | _ => s

/-- FN_CTL written (R535, R538, R541). -/
def State.writeFnCtl (s : State) (f v : Nat) : State :=
  if f = 0 ∧ !bit v 31 then s.refuse (fnPage f) 0x0100
  else if bit v 31 && !(s.fn f).enable && (s.fn f).queues == 0 then s.refuse (fnPage f) 0x0101
  else
    let s := s.onFn f fun x => { x with hold := bit v 30 }
    if f = 0 then s else if bit v 31 then afterOf (execFunctionEnable f s) s else afterOf (execFunctionDisable f s) s

/-- A function state page's registers. -/
def State.writeFnPage (s : State) (p : Page) (off v : Nat) : State :=
  match off with
  | 0x100 => s.writeFnCtl p.inst v
  | 0x140 => if bit (s.reg p 0x148) 31 then s.reject p 0x0002 else s.setReg p 0x140 v
  | 0x148 => s.writeDirtyCtl p.inst v
  | 0x150 => s.writeDirtyHead p.inst (BitVec.ofNat 32 v)
  | _ => s

/-- ENABLE of a link written (R252): training starts, or the link goes DISABLED. -/
def State.enableLink (s : State) (d l : Nat) (v : Bool) : State :=
  let p := linkPage d l
  let s' := s.setReg p 0x100 (setBits (s.reg p 0x100) 31 31 (b2n v))
  let off := s.linkState d l == .disabled
  if v then (if off && s.wired d l then s'.linkTrain d l else s') else if off then s' else s'.linkDrop d l false

/-- LINK_ENABLE (R252). -/
def execLinkEnable (d port : Nat) (s : State) : Result :=
  atLink s d port fun l => s.fromFn 0 (s.guarded (linkPage d l) (s.enableLink d l true))

/-- LINK_DISABLE (R252). -/
def execLinkDisable (d port : Nat) (s : State) : Result :=
  atLink s d port fun l => s.fromFn 0 (s.guarded (linkPage d l) (s.enableLink d l false))

/-- KEY_CMD written (R587): on die 0 only. -/
def State.writeKeyCmd (s : State) (p : Page) (v : Nat) : State :=
  let w : Word := BitVec.ofNat 32 v
  if p.die ≠ 0 then s
  else if bit v 30 then afterOf (execKeyErase p.inst w s) s else afterOf (execKeyLoad p.inst w s) s

/-- A stored register after a write that nothing denies, with what follows from it. -/
def State.settled (s : State) (p : Page) (off v : Nat) : State :=
  let s' := s.setReg p off v
  match p.kind with
  | .sched =>
    if 0x140 ≤ off ∧ off < 0x1C0 ∧ (off - 0x140) % 0x10 = 8 then
      s'.onClass p.die p.inst ((off - 0x140) / 0x10) fun c => { c with tokens := min c.tokens ((v : Int) * 200) }
    else s'
  | .rateCtl =>
    if off = 0x100 then
      { s' with qps := s'.qps.map fun e =>
          if s'.qpDie e.1 == p.die && !s'.ccOn p.die e.2.tclass then
            (e.1, { e.2 with rate := s'.reg (curvePage p.die e.2.tclass) 0x114 * 1024 })
          else e }
    else s'
  | .alram => if off = 0x100 then s'.enableLink p.die p.inst (bit v 31) else s'
  | .quire => if off = 0x100 then s'.enableLink p.die (p.inst + 2) (bit v 31) else s'
  | .ethPort => if off = 0x100 then s'.enableEth p.die p.inst (bit v 31) else s'
  | .colophon => if off = 0x100 ∨ off = 0x110 then s'.fireDue p.die else s'
  | _ => s'

/-- A block-specific RW register written (R10, R62). -/
def State.writeStored (s : State) (p : Page) (off v : Nat) : State :=
  match regDefAt p.kind off with
  | none => s
  | some r =>
    if r.access != .rw || (p.kind == .cipherUser && p.die != 0) then s else
    let v := v &&& (if p.kind == .colophon && off == 0x100 && p.die != 0 then r.wmask &&& 0xEFFFFFFF else r.wmask)
    if r.smask != 0 && (v ^^^ s.reg p off) &&& r.smask != 0 && s.busy p then s.reject p 0x0002
    else
      let code := s.denied p off v
      if code ≠ 0 then s.deny p code else s.settled p off v

/-- A block-specific register written. -/
def State.writeOwn (s : State) (p : Page) (off v : Nat) : State :=
  match p.kind with
  | .queuePage => s.writeQueuePage p off v
  | .fnState => s.writeFnPage p off v
  | .rate => if off = 0x104 then afterOf (execQpWeightWrite p.inst p.die (BitVec.ofNat 32 v) s) s else s.writeStored p off v
  | .ethPort => if off = 0x10C then s.writePfc p.die p.inst v else s.writeStored p off v
  | .router1 => if off = 0x104 then s.refuse p 0x0100 else s.writeStored p off v
  | .power =>
    if off = 0x100 then (if bit v 24 then s.clearTrip p.die else s)
    else if 0x140 ≤ off ∧ off < 0x160 then s.writeTherm p.die ((off - 0x140) / 4) v
    else s.writeStored p off v
  | .colophon => if off = 0x104 then (if bit v 31 then s.trigger p.die true else s) else s.writeStored p off v
  | .cipherUser => if off = 0x108 then s.writeKeyCmd p v else s.writeStored p off v
  | .mailbox => if off = 0x110 then s.mbxCommand v else s.writeStored p off v
  | _ => s.writeStored p off v

/-! ### A write where it lands -/

/-- A register of a page written whole. Through its alias a function state page is not written (R551), and only RWS counters
are (R11). -/
def State.writeReg (s : State) (f : Nat) (p : Page) (off v : Nat) : State :=
  if f ≠ 0 ∧ p.kind = .fnState then s.refuse p 0x0100
  else if off < 0x100 then s.writeCommon f p off v
  else if off < 0x800 then s.writeOwn p off v
  else if off < 0xC00 then s
  else if p.rws.contains ((off - 0xC00) / 8) then
    { s with regs := setOr0 s.regs (p.ctr ((off - 0xC00) / 8)) (BitVec.ofNat 64 v) }
  else s

/-- A 4-byte write of a page (R31): the low half of a 64-bit register is held until the high half is written. -/
def State.writeHalf (s : State) (f : Nat) (p : Page) (off v : Nat) : State :=
  let b := off / 8 * 8
  let a := p.addr + b
  if !p.kind.isWide b then s.writeReg f p off v
  else
    let rest := s.lowHalves.filter fun e => !(e.1 == f && e.2.1 == a)
    if off = b then { s with lowHalves := (f, a, BitVec.ofNat 32 v) :: rest }
    else
      let low := match s.lowHalves.find? fun e => e.1 == f && e.2.1 == a with
        | some e => e.2.2.toNat
        | none => s.regValue f p b % 2 ^ 32
      ({ s with lowHalves := rest }).writeReg f p b (v % 2 ^ 32 * 2 ^ 32 + low)

/-- A vector unmasked (R60): a pending message goes out. -/
def State.unmask (s : State) (f v : Nat) : State :=
  let e := s.msixEntry f v
  let s' := s.setMsix f v { e with masked := false, pending := false }
  if e.pending then s'.emit (.msix f v e.addr e.data) else s'

/-- Word `w` of the MSI-X entry of vector `v` of a function written (R60, R72). -/
def State.writeMsix (s : State) (f v w value : Nat) : State :=
  if vectorCount f ≤ v then s else
  let e := s.msixEntry f v
  match w with
  | 0 => s.setMsix f v { e with addr := BitVec.ofNat 64 (e.addr.toNat / 2 ^ 32 * 2 ^ 32 + value % 2 ^ 32) }
  | 1 => s.setMsix f v { e with addr := BitVec.ofNat 64 (e.addr.toNat % 2 ^ 32 + value % 2 ^ 32 * 2 ^ 32) }
  | 2 => s.setMsix f v { e with data := BitVec.ofNat 32 value }
  | _ => if bit value 0 then s.setMsix f v { e with masked := true } else s.unmask f v

/-- A write of 4 or 8 bytes at an aligned offset of a function's BAR0 (R34, R36). -/
def State.writeAt (s : State) (f off size v : Nat) : State :=
  match s.target f off with
  | .page p o =>
    s.guarded p <|
      if size = 4 then s.writeHalf f p o v
      else if p.kind.isWide o then s.writeReg f p o v
      else (s.writeReg f p o (v % 2 ^ 32)).writeReg f p (o + 4) (v / 2 ^ 32)
  | .msix e w =>
    let s := s.writeMsix f e w (v % 2 ^ 32)
    if size = 4 then s else s.writeMsix f e (w + 1) (v / 2 ^ 32)
  | .unmapped => s.reject (unmappedPage f off) 0x0001
  | .pending _ | .absent => s

/-- A write with partial byte enables (R29), or one that is no aligned unit of 4 or 8 bytes. -/
def State.writePartial (s : State) (f off : Nat) : State :=
  match s.target f off with
  | .page p _ => s.guarded p (s.reject p 0x0005)
  | .unmapped => s.reject (unmappedPage f off) 0x0001
  | _ => s

/-- A memory write of a function that finds its die (R67, R68, R290). -/
def State.landed (s : State) (f off : Nat) (r : State) : State :=
  s.fromFn f <|
    if s.cutOff f off then s.reject ⟨0, .dieGroup, 0⟩ 0x0006 else if (s.fn f).flr then s else r

/-- REGISTER_WRITE (R10, R28 to R31, R62). -/
def execRegisterWrite (f off size : Nat) (value : Word64) (partialBE : Bool) (s : State) : Result :=
  atFn s f <| s.landed f off <|
    if partialBE || !((size == 4 && off % 4 == 0) || (size == 8 && off % 8 == 0)) then s.writePartial f off
    else s.writeAt f off size (if size = 4 then value.toNat % 2 ^ 32 else value.toNat)

/-! ### Rows of the common page -/

/-- A 4-byte write of the register at `reg` of the page that an offset lands in; an offset of another register is none of
the row's. -/
def State.writeRow (s : State) (f off reg v : Nat) : State :=
  match s.target f off with
  | .page _ o => if o = reg then s.landed f off (s.writeAt f off 4 v) else s
  | _ => s

/-- INT_RAW_CLEAR (R46, R48, R59). -/
def execIntRawClear (f off : Nat) (bits : Word) (s : State) : Result := atFn s f (s.writeRow f off 0x10 bits.toNat)

/-- INT_EN_WRITE (R59). -/
def execIntEnWrite (f off : Nat) (value : Word) (s : State) : Result := atFn s f (s.writeRow f off 0x14 value.toNat)

/-- INT_SET (R46). -/
def execIntSet (f off : Nat) (bits : Word) (s : State) : Result := atFn s f (s.writeRow f off 0x1C bits.toNat)

/-- FE_STATUS_CLEAR (R53): 1 written to VALID. -/
def execFeStatusClear (f off : Nat) (s : State) : Result := atFn s f (s.writeRow f off 0x40 0x80000000)

/-- The value of a BLK_CTL write: its key, its command and bits 10 to 0. -/
def blkCtl (key : Byte) (cmd : Nat) (ctl : BitVec 11) : Nat := key.toNat * 2 ^ 24 + cmd * 2 ^ 12 + ctl.toNat

/-- RESET (R43, R44). -/
def execReset (f off : Nat) (key : Byte) (ctl : BitVec 11) (s : State) : Result :=
  atFn s f (s.writeRow f off 0x08 (blkCtl key 1 ctl))

/-- COLOPHON_ARM (R43, R45). -/
def execColophonArm (f off : Nat) (key : Byte) (ctl : BitVec 11) (s : State) : Result :=
  atFn s f (s.writeRow f off 0x08 (blkCtl key 2 ctl))

/-- COLOPHON_DISARM (R43, R45). -/
def execColophonDisarm (f off : Nat) (key : Byte) (ctl : BitVec 11) (s : State) : Result :=
  atFn s f (s.writeRow f off 0x08 (blkCtl key 3 ctl))

/-- CLEAR_ERRORS (R43, R45). -/
def execClearErrors (f off : Nat) (key : Byte) (ctl : BitVec 11) (s : State) : Result :=
  atFn s f (s.writeRow f off 0x08 (blkCtl key 4 ctl))

/-- MSIX_UNMASK (R60). -/
def execMsixUnmask (f v : Nat) (s : State) : Result :=
  atFn s f <| s.fromFn f <| if vectorCount f ≤ v || (s.fn f).flr then s else s.unmask f v

/-- POISONED_BAR_WRITE (R73, R75): a write is dropped and reported, a read request is an Unsupported Request. -/
def execPoisonedBarWrite (f : Nat) (isRead : Bool) (s : State) : Result :=
  atFn s f <|
    if s.board.link.isNone then s
    else if isRead then s.emit (.unsupported f) else s.emit (.aer f .poisonedTlp)

end Sys2Proof.Machine
end

