-- ==== Sys2Proof/Machine/FaultExec.lean ====
section
/-!
DEFINITION. Fault records resolved and aborted (R353, R354), and page-table roots (R330, R331, R341, R356).
-/

namespace Sys2Proof.Machine

/-- Every waiter of a record that has been freed on a die walks again (R353). -/
def State.tellWaiters (s : State) (d : Nat) (r : FaultRec) : State :=
  ((((s.qpResolve r.key r).retryCopies d r.fn r.key).retryRuns d r.fn r.key).retryColl d r.fn r.key).retryCiphers d r.fn r.key

/-- Every waiter of a record ends its operation with TRANSLATION_FAULT (R354). -/
def State.failWaiters (s : State) (d : Nat) (r : FaultRec) : State :=
  ((((s.qpAbort r.key r).abortCopies d r.fn r.key).abortRuns d r.fn r.key).abortColl d r.fn r.key).abortCiphers d r.fn r.key

/-- RESOLVE_FAULT (R145, R353). -/
def State.resolveFault (s : State) (f : Nat) (i : Word) (d : List Byte) : State :=
  let n := bits (arg1 d) 11 0
  let die := bits (arg1 d) 18 16
  if f ≠ 0 then s.adminEnd f i stNotPermitted
  else if s.dies.length ≤ die then s.adminEnd f i stInvalidArgument
  else
    match FMap.get? (s.die die).xlate.faults n with
    | none => s.adminEnd f i stNoSuchObject
    | some r =>
      (((s.count (xlatePage die) Ctr.xlateFaultsResolved).freeFault die n).tellWaiters die r).adminEnd f i stSuccess

/-- FAULT_ABORT (R351, R354): the record is freed, the FAULT entry of its abort is written, and its waiters end. -/
def execFaultAbort (d record : Nat) (s : State) : Result :=
  atDie s d <|
    match FMap.get? (s.die d).xlate.faults record with
    | none => s
    | some r =>
      let s := s.onXlate d fun x => { x with faults := FMap.erase x.faults record }
      (((s.faultEntry d record r 1).count (xlatePage d) Ctr.xlateFaultsAborted).failWaiters d r).admitHeldFaults d

/-- A function's root on a die set, or removed for 0: its translations and the tiles that it has fetched ahead are dropped,
and its records are freed, so that what waited on them walks again (R330, R341, R356). -/
def State.setRoot (s : State) (d f root : Nat) : State :=
  let s := s.dropTranslations d (· == f)
  let s := (List.range 5).foldl (fun s r => s.dropTiles d r f 0 (2 ^ 46)) s
  let old := ((s.die d).xlate.faults.filter fun r => r.2.fn == f).map Prod.snd
  let s := s.onXlate d fun x => { x with roots := if root = 0 then FMap.erase x.roots f else FMap.set x.roots f root }
  old.foldl (fun s r => s.tellWaiters d r) ((s.dropFaults d (· == f)).admitHeldFaults d)

/-- SET_PAGE_TABLE_ROOT (R330, R331). -/
def State.setPageTableRoot (s : State) (f : Nat) (i : Word) (d : List Byte) : State :=
  let a : Word64 := BitVec.ofNat 64 (arg0 d)
  let root := gaOffset a
  let g := bits (arg2 d) 4 0
  if f ≠ 0 then s.adminEnd f i stNotPermitted
  else
    match s.dieOf (gaEndpoint a) with
    | none => s.adminEnd f i stInvalidArgument
    | some die =>
      if 16 < g ∨ root % 32768 ≠ 0 then s.adminEnd f i stInvalidArgument
      else if root ≠ 0 ∧ (3 * 2 ^ 36 ≤ root ∨ inDeviceRegion s.part root 32768 ∨ !s.owns die 0 root 32768) then
        s.adminEnd f i stAccessDenied
      else (s.setRoot die g root).adminEnd f i stSuccess

end Sys2Proof.Machine
end

