-- ==== Sys2Proof/Machine/Forwarding.lean ====
section
/-!
DEFINITION. The routing of the packet at the front of a router input FIFO (R247, R274 to R287).
-/

namespace Sys2Proof.Machine

/-- A CHUNK packet to be replicated, its own edition count ended (R279, R286, R287): a miss, a failed tally of which the
collective engine is told, or a copy for each child and for the local port. -/
def State.routeReplicated (s : State) (d port : Nat) (x : FifoPacket) : State :=
  match s.replEntry d x.pkt with
  | none => s.discard d x.pkt x.port x.vc x.units Ctr.router0ReplicateMisses
  | some e =>
    if ((chunkIn x.pkt.body).map ChunkIn.good).getD false then
      (s.editionCount d x.pkt.edition (· - 1)).replicate d x.pkt e (flowRelay port) x.port x.vc x.units
    else (s.discard d x.pkt x.port x.vc x.units Ctr.router0ReplicateTallyDiscards).routerTally d x.pkt

/-- A packet that has left a router input FIFO: discarded for its header, replicated, or routed. -/
def State.routeOne (s : State) (d port : Nat) (x : FifoPacket) : State :=
  let p := x.pkt
  if s.badHeader d port p then s.discard d p x.port x.vc x.units Ctr.router0HeaderDiscards
  else if isPackageType p.ptype then s.forwardPackage d p (flowRelay port) x.port x.vc x.units
  else if p.replicate && s.hasEndpoint d && p.dest.toNat == s.endpoint d then s.routeReplicated d port x
  else s.forward d p (flowRelay port) x.port x.vc x.units

/-- ROUTE_PACKET (R274): the packet at the front of the FIFO of an input port of a die. -/
def execRoutePacket (d port : Nat) (s : State) : Result :=
  atUnit s d (decide (port < 7)) <|
    match (s.die d).router.fifos[port]? with
    | some (x :: rest) =>
      let s := s.onRouter d fun r => { r with fifos := r.fifos.set port rest }
      (s.routeOne d port x).noteOccupancy d
    | _ => s

end Sys2Proof.Machine
end

