-- ==== Sys2Proof/Machine/Descriptors.lean ====
section
/-!
DEFINITION. Descriptors and admin commands as they begin (R92, R93, R112 to R114, R124 to R130, R143 to R147), and the
read-backs of FLUSH.
-/

namespace Sys2Proof.Machine

/-! ### Form and beginning (R113, R124, R127) -/

/-- The offset of the first field by which a current slot of a queue is malformed (R113, R127, R143); none where it is well
formed. -/
def State.formOf (s : State) (f q : Nat) (x : Queue) (d : List Byte) : Option Nat :=
  if q = 0 then formAdminEntry d else
  match dOpcode d with
  | 0x01 | 0x02 | 0x03 | 0x04 | 0x05 => s.formTransport f q d
  | 0x10 | 0x11 => formStage d
  | 0x12 => formCopy d
  | 0x20 => s.formRunRecipe f d
  | 0x28 | 0x29 => s.formColl f x.owner d
  | 0x30 => s.formCipher f d
  | 0x3F => formNop d
  | _ => some 0

/-- A queue whose next slot to begin is malformed stops (R127, R130). -/
def State.settle (s : State) (f q : Nat) : State :=
  match s.queue f q with
  | none => s
  | some x =>
    if x.arrival || x.state != .running || (s.fn f).phase != .opened then s else
    match x.slots.find? fun t => t.index == x.next with
    | none => s
    | some t =>
      match t.kind with
      | .stale => s
      | .malformed o => s.stopQueue f q causeMalformed o t.index
      | .current =>
        match s.formOf f q x t.bytes with
        | some o => s.stopQueue f q causeMalformed o t.index
        | none => s

/-- The next descriptor of a queue begins where it is one that `mine` names and `free` lets begin; a malformed one stops
the queue (R124, R127). `act` is its effect from then on. -/
def State.beginAs (s : State) (f q : Nat) (mine : List Byte → Bool) (free : Queue → List Byte → Bool)
    (act : State → Queue → Word → List Byte → State) : State :=
  match s.nextSlot f q with
  | none => s
  | some (x, t) =>
    if !mine t.bytes then s else
    match s.formOf f q x t.bytes with
    | some o => s.stopQueue f q causeMalformed o t.index
    | none => if free x t.bytes then (act (s.beginSlot f q x t) x t.index t.bytes).settle f q else s

/-- DESCRIPTOR_FETCH_RETURN (R125, R127, R129). -/
def execDescriptorFetchReturn (f q : Nat) (index : Word) (slot : List Byte) (s : State) : Result :=
  atFn s f <| (s.fetchReturn f q index (fitTo 64 slot)).settle f q

/-! ### Transport opcodes (R154 to R162, R198) -/

/-- A transport descriptor of an opcode begins, from a queue that is no admin queue; one whose queue pair has
no context waits while 64 fetches are outstanding, and starts its own fetch when it begins (R198). -/
def State.beginQp (s : State) (f q op : Nat) : State :=
  s.beginAs f q (fun d => q != 0 && dOpcode d == op)
    (fun _ d =>
      let n := dTarget d
      let die := s.qpDie n
      s.ctxCached die n || s.ctxFetching die n || decide ((s.die die).tx.fetches.length < 64))
    fun s _ i d =>
      let n := dTarget d
      let die := s.qpDie n
      (if s.ctxCached die n then s else s.ctxFetch die n false).beginTransport f q i d

/-- WRITE (R156, R168). -/
def execWrite (f q : Nat) (s : State) : Result := atFn s f <| s.beginQp f q 0x01

/-- READ (R156, R168). -/
def execRead (f q : Nat) (s : State) : Result := atFn s f <| s.beginQp f q 0x02

/-- SEND (R156, R171). -/
def execSend (f q : Nat) (s : State) : Result := atFn s f <| s.beginQp f q 0x03

/-- WRITE_NOTIFY (R156, R168). -/
def execWriteNotify (f q : Nat) (s : State) : Result := atFn s f <| s.beginQp f q 0x04

/-- ATOMIC_ADD (R156, R170). -/
def execAtomicAdd (f q : Nat) (s : State) : Result := atFn s f <| s.beginQp f q 0x05

/-! ### Staging, copies, and NOP (R114, R364) -/

/-- STAGE_IN (R114): the data that the host's memory holds at SRC_ADDR. -/
def execStageIn (f q : Nat) (data : List Byte) (s : State) : Result :=
  atFn s f <| s.beginAs f q (fun d => q != 0 && dOpcode d == 0x10) (fun _ _ => true) fun s _ i d =>
    let n := dLength d
    ((s.emit (.hostRead f (dSrc d) n)).onExec f q i fun e =>
      { e with data := fitTo n data }).runCopy f q i

/-- STAGE_OUT (R90, R114). -/
def execStageOut (f q : Nat) (s : State) : Result :=
  atFn s f <| s.beginAs f q (fun d => q != 0 && dOpcode d == 0x11) (fun _ _ => true) fun s _ i _ => s.runCopy f q i

/-- LOCAL_COPY (R364): at most four in execution on a die. -/
def execLocalCopy (f q : Nat) (s : State) : Result :=
  atFn s f <| s.beginAs f q (fun d => q != 0 && dOpcode d == 0x12) (fun x _ => decide (s.copiesOn x.owner < 4))
    fun s _ i _ => s.runCopy f q i

/-- NOP (R114). -/
def execNop (f q : Nat) (s : State) : Result :=
  atFn s f <| s.beginAs f q (fun d => q != 0 && dOpcode d == 0x3F) (fun _ _ => true)
    fun s _ i _ => s.finish f q i stSuccess 0 0 0

/-! ### Recipes, collectives and the cipher engine -/

/-- RUN_RECIPE (R422, R423): it waits until every Reckoner that it names can take it. -/
def execRunRecipe (f q : Nat) (s : State) : Result :=
  atFn s f <| s.beginAs f q (fun d => q != 0 && dOpcode d == 0x20) (fun _ d => !s.runWaits f d)
    fun s _ i d => s.runRecipe f q i d

/-- A collective descriptor of an opcode begins where its die and group have room (R448). -/
def State.beginCollAs (s : State) (f q op : Nat) : State :=
  s.beginAs f q (fun d => q != 0 && dOpcode d == op) (fun x d => !s.collWaits x.owner d) fun s _ i d => s.beginColl f q i d

/-- REDUCE (R445 to R448, R461). -/
def execReduce (f q : Nat) (s : State) : Result := atFn s f <| s.beginCollAs f q 0x28

/-- BROADCAST (R445 to R448, R464). -/
def execBroadcast (f q : Nat) (s : State) : Result := atFn s f <| s.beginCollAs f q 0x29

/-- CIPHER (R582 to R585): it waits while the engine's generator may not be used. -/
def execCipher (f q : Nat) (s : State) : Result :=
  atFn s f <| s.beginAs f q (fun d => q != 0 && dOpcode d == 0x30) (fun x _ => !s.cipherHeld x.owner)
    fun s _ i _ => s.runCipher f q i

/-! ### Admin commands (R143 to R146) -/

/-- The next admin command of a function begins where it is one that `mine` names (R144). -/
def State.beginAdmin (s : State) (f : Nat) (mine : List Byte → Bool) (act : State → Word → List Byte → State) : State :=
  s.beginAs f 0 mine (fun _ _ => true) fun s _ i d => act s i d

/-- A command that only the PF may give: a VF's completes with NOT_PERMITTED (R145). -/
def State.pfOnly (s : State) (f : Nat) (i : Word) (act : State) : State :=
  if f = 0 then act else s.adminEnd f i stNotPermitted

/-- CREATE_QUEUE (R145, R148). -/
def execCreateQueue (f : Nat) (s : State) : Result :=
  atFn s f <| s.beginAdmin f (fun d => dOpcode d == 0x01) fun s i d => s.createQueue f i d

/-- DESTROY_QUEUE (R145, R149). -/
def execDestroyQueue (f : Nat) (s : State) : Result :=
  atFn s f <| s.beginAdmin f (fun d => dOpcode d == 0x02) fun s i d => s.destroyQueue f i d

/-- SET_ARRIVAL_ROUTE (R120, R145). -/
def execSetArrivalRoute (f : Nat) (s : State) : Result :=
  atFn s f <| s.beginAdmin f (fun d => dOpcode d == 0x03) fun s i d => s.setArrivalRoute f i d

/-- SET_FUNCTION_MODE (R136, R145). -/
def execSetFunctionMode (f : Nat) (s : State) : Result :=
  atFn s f <| s.beginAdmin f (fun d => dOpcode d == 0x08) fun s i d => s.setFunctionMode f i d

/-- CREATE_QP (R157, R158). -/
def execCreateQp (f : Nat) (s : State) : Result :=
  atFn s f <| s.beginAdmin f (fun d => dOpcode d == 0x10) fun s i d => s.createQp f i d

/-- OP of a MODIFY_QP (R159). -/
def modifyOp (d : List Byte) : Nat := bits (arg1 d) 23 20

/-- A MODIFY_QP of one OP begins; an OP outside the table of R159, which no command names, ends with INVALID_ARGUMENT by any
of them. -/
def State.beginModify (s : State) (f op : Nat) (act : State → Word → List Byte → State) : State :=
  s.beginAdmin f (fun d => dOpcode d == 0x11 && (modifyOp d == op || modifyOp d == 0 || decide (5 < modifyOp d)))
    fun s i d => if modifyOp d = op then act s i d else s.adminEnd f i stInvalidArgument

/-- MODIFY_QP TO_RTR (R159, R160). -/
def execToRtr (f : Nat) (s : State) : Result := atFn s f <| s.beginModify f 1 fun s i d => s.toRtr f i d

/-- MODIFY_QP TO_RTS (R159, R160). -/
def execToRts (f : Nat) (s : State) : Result := atFn s f <| s.beginModify f 2 fun s i d => s.toRts f i d

/-- MODIFY_QP TO_ERROR (R159, R160). -/
def execToError (f : Nat) (s : State) : Result := atFn s f <| s.beginModify f 3 fun s i d => s.toError f i d

/-- MODIFY_QP TO_INIT (R159 to R161). -/
def execToInit (f : Nat) (s : State) : Result := atFn s f <| s.beginModify f 4 fun s i d => s.toInit f i d

/-- MODIFY_QP SET_LIMITS (R159, R160). -/
def execSetLimits (f : Nat) (s : State) : Result := atFn s f <| s.beginModify f 5 fun s i d => s.setLimits f i d

/-- DESTROY_QP (R160, R161). -/
def execDestroyQp (f : Nat) (s : State) : Result :=
  atFn s f <| s.beginAdmin f (fun d => dOpcode d == 0x12) fun s i d => s.destroyQp f i d

/-- LOAD_RECIPE (R145, R404, R405). -/
def execLoadRecipe (f : Nat) (bundle : List Byte) (s : State) : Result :=
  atFn s f <| s.beginAdmin f (fun d => dOpcode d == 0x18) fun s i d =>
    let n := bits (arg1 d) 31 0
    if 1048576 < n then s.adminEnd f i stInvalidArgument
    else (s.emit (.hostRead f (BitVec.ofNat 64 (arg0 d)) n)).loadRecipe f i (fitTo n bundle)

/-- UNLOAD_RECIPE (R145, R406, R438). -/
def execUnloadRecipe (f : Nat) (s : State) : Result :=
  atFn s f <| s.beginAdmin f (fun d => dOpcode d == 0x19) fun s i d => s.unloadRecipe f i d

/-- A LOAD_TABLE of one TABLE_ID begins; a TABLE_ID outside the table of R146 ends with INVALID_ARGUMENT by any of the
three commands, as does a length above 1,048,576. -/
def State.beginTable (s : State) (f id : Nat) (tenant : Bool) (table : List Byte)
    (act : State → Word → Nat → List Byte → State) : State :=
  let idOf (d : List Byte) : Nat := bits (arg1 d) 7 0
  s.beginAdmin f (fun d => dOpcode d == 0x1A && (idOf d == id || !([0x10, 0x11, 0x20].contains (idOf d)))) fun s i d =>
    let n := bits (arg1 d) 63 32
    if idOf d ≠ id ∨ 1048576 < n then s.adminEnd f i stInvalidArgument
    else if f ≠ 0 ∧ !tenant then s.adminEnd f i stNotPermitted
    else act (s.emit (.hostRead f (BitVec.ofNat 64 (arg0 d)) n)) i (bits (arg1 d) 15 8) (fitTo n table)

/-- LOAD_TABLE FORMAT_TABLE (R146, R380). -/
def execFormatTable (f : Nat) (table : List Byte) (s : State) : Result :=
  atFn s f <| s.beginTable f 0x10 true table fun s i inst t => s.formatTable f i inst t

/-- LOAD_TABLE SEQUENCE_TABLE (R146, R429). -/
def execSequenceTable (f : Nat) (table : List Byte) (s : State) : Result :=
  atFn s f <| s.beginTable f 0x11 true table fun s i inst t => s.sequenceTable f i inst t

/-- LOAD_TABLE COLLATION_TABLE (R146, R519). -/
def execCollationTable (f : Nat) (table : List Byte) (s : State) : Result :=
  atFn s f <| s.beginTable f 0x20 false table fun s i inst t => s.collationTable f i inst t

/-- INVALIDATE_RANGE (R145, R147, R342). -/
def execInvalidateRange (f : Nat) (s : State) : Result :=
  atFn s f <| s.beginAdmin f (fun d => dOpcode d == 0x20) fun s i d => s.invalidateRange f i d

/-- RESOLVE_FAULT (R145, R353). -/
def execResolveFault (f : Nat) (s : State) : Result :=
  atFn s f <| s.beginAdmin f (fun d => dOpcode d == 0x21) fun s i d => s.resolveFault f i d

/-- SET_PAGE_TABLE_ROOT (R145, R330, R331). -/
def execSetPageTableRoot (f : Nat) (s : State) : Result :=
  atFn s f <| s.beginAdmin f (fun d => dOpcode d == 0x22) fun s i d => s.setPageTableRoot f i d

/-- RESIZE_PARTITION (R145, R530 to R533). -/
def execResizePartition (f : Nat) (record : List Byte) (s : State) : Result :=
  atFn s f <| s.beginAdmin f (fun d => dOpcode d == 0x30) fun s i d => s.pfOnly f i (s.resizePartition f i d record)

/-- DESTROY_PARTITION (R145, R543). -/
def execDestroyPartition (f : Nat) (s : State) : Result :=
  atFn s f <| s.beginAdmin f (fun d => dOpcode d == 0x31) fun s i d => s.pfOnly f i (s.destroyPartition f i d)

/-- CREATE_GROUP (R145, R441). -/
def execCreateGroup (f : Nat) (table : List Byte) (s : State) : Result :=
  atFn s f <| s.beginAdmin f (fun d => dOpcode d == 0x38) fun s i d => s.pfOnly f i (s.createGroup f i d table)

/-- REFORM_GROUP (R145, R443). -/
def execReformGroup (f : Nat) (table : List Byte) (s : State) : Result :=
  atFn s f <| s.beginAdmin f (fun d => dOpcode d == 0x39) fun s i d => s.pfOnly f i (s.reformGroup f i d table)

/-- DESTROY_GROUP (R145, R444). -/
def execDestroyGroup (f : Nat) (s : State) : Result :=
  atFn s f <| s.beginAdmin f (fun d => dOpcode d == 0x3A) fun s i d => s.pfOnly f i (s.destroyGroup f i d)

/-! ### Read-backs (R92, R93) -/

/-- The first read-back of a descriptor that has not been issued is marked issued. -/
def State.issueReadBack (s : State) (f q : Nat) (i : Word) (r : ReadBack) : State :=
  s.onExec f q i fun e => { e with readBacks := e.readBacks.map fun b => if b == r then { b with issued := true } else b }

/-- READ_BACK (R92, R93): once the descriptor's operation has ended, a read on the path that it wrote; on the PCI Express
path only when the queue's ledger channel holds nothing more, and a READ on the same queue pair for a transport path. -/
def execReadBack (f q : Nat) (index : Word) (s : State) : Result :=
  atFn s f <|
    match s.exec? f q index, s.queue f q with
    | some e, some x =>
      if e.phase != .flushing then s else
      match e.readBacks.find? fun r => !r.issued with
      | none => s
      | some r =>
        let t := s.issueReadBack f q index r
        match r.path with
        | .pcie =>
          let waits := match x.ledger with
            | some c => !(((s.fn f).ledgers[c]?).getD []).isEmpty
            | none => false
          if waits then s else (t.count pciePage Ctr.pcieFlushReadbacks).emit (.hostRead f r.addr 64)
        | .alram l => (t.alramRead x.owner l f 0 r.addr 64 (.flush f q index)).getD s
        | .queuePair =>
          let n := dTarget e.desc
          match s.qp n with
          | none => t.flushReturn f q index false
          | some y =>
            if y.fn ≠ f ∨ y.sq ≠ q ∨ !(y.state == .rts || y.state == .faultWait) then t.flushReturn f q index false
            else
              t.setQp n { y with ops := y.ops ++ [({
                index := index, opcode := opReadBack, src := r.addr
                dst := BitVec.ofNat 64 (s.endpoint (s.qpDie n) * 2 ^ 46), length := 64, imm := 0, operand := 0
                flush := false, readBack := true } : QpOp)] }
    | _, _ => s

end Sys2Proof.Machine
end

