-- ==== Sys2Proof/Machine/Dispatch.lean ====
section
/-!
DEFINITION. What each command does to the state: one arm for each row of spec/opcode_table.json.
-/

namespace Sys2Proof.Machine

def exec (i : Instr) (s : State) : Host.Outcome State Fault Refusal :=
  match i with
  | .registerWrite f off size value partialBE => Sys2Proof.Machine.execRegisterWrite f off size value partialBE s
  | .rcRegisterRead f off size partialBE => Sys2Proof.Machine.execRcRegisterRead f off size partialBE s
  | .intRawClear f off bits => Sys2Proof.Machine.execIntRawClear f off bits s
  | .intEnWrite f off value => Sys2Proof.Machine.execIntEnWrite f off value s
  | .intSet f off bits => Sys2Proof.Machine.execIntSet f off bits s
  | .feStatusClear f off => Sys2Proof.Machine.execFeStatusClear f off s
  | .msixMessage k => Sys2Proof.Machine.execMsixMessage k s
  | .msixUnmask f v => Sys2Proof.Machine.execMsixUnmask f v s
  | .reset f off key ctl => Sys2Proof.Machine.execReset f off key ctl s
  | .colophonArm f off key ctl => Sys2Proof.Machine.execColophonArm f off key ctl s
  | .colophonDisarm f off key ctl => Sys2Proof.Machine.execColophonDisarm f off key ctl s
  | .clearErrors f off key ctl => Sys2Proof.Machine.execClearErrors f off key ctl s
  | .dieResetRampDownDone d => Sys2Proof.Machine.execDieResetRampDownDone d s
  | .forwardingPlaneReset d => Sys2Proof.Machine.execForwardingPlaneReset d s
  | .perstNAssert => Sys2Proof.Machine.execPerstNAssert s
  | .perstNDeassert i3cAddr strapTest => Sys2Proof.Machine.execPerstNDeassert i3cAddr strapTest s
  | .railFault rail => Sys2Proof.Machine.execRailFault rail s
  | .functionLevelReset f => Sys2Proof.Machine.execFunctionLevelReset f s
  | .vfEnableClear => Sys2Proof.Machine.execVfEnableClear s
  | .hostReadError f q index cause => Sys2Proof.Machine.execHostReadError f q index cause s
  | .poisonedBarWrite f isRead => Sys2Proof.Machine.execPoisonedBarWrite f isRead s
  | .doeDiscovery index => Sys2Proof.Machine.execDoeDiscovery index s
  | .doeUnsupportedObject vendor objType dwords => Sys2Proof.Machine.execDoeUnsupportedObject vendor objType dwords s
  | .doeAbort => Sys2Proof.Machine.execDoeAbort s
  | .getVersion => Sys2Proof.Machine.execGetVersion s
  | .getCapabilities => Sys2Proof.Machine.execGetCapabilities s
  | .negotiateAlgorithms sha384 extAsym => Sys2Proof.Machine.execNegotiateAlgorithms sha384 extAsym s
  | .getDigests => Sys2Proof.Machine.execGetDigests s
  | .getCertificate slot offset length => Sys2Proof.Machine.execGetCertificate slot offset length s
  | .challenge slot nonce => Sys2Proof.Machine.execChallenge slot nonce s
  | .getMeasurements index signed nonce => Sys2Proof.Machine.execGetMeasurements index signed nonce s
  | .spdmUnsupportedRequest code => Sys2Proof.Machine.execSpdmUnsupportedRequest code s
  | .doorbellWrite f off size value => Sys2Proof.Machine.execDoorbellWrite f off size value s
  | .doorbellAdmission f q => Sys2Proof.Machine.execDoorbellAdmission f q s
  | .alramDoorbell d k p => Sys2Proof.Machine.execAlramDoorbell d k p s
  | .ledgerIssue f c => Sys2Proof.Machine.execLedgerIssue f c s
  | .readBack f q index => Sys2Proof.Machine.execReadBack f q index s
  | .readBackReturn f q index ok => Sys2Proof.Machine.execReadBackReturn f q index ok s
  | .descriptorFetch f q => Sys2Proof.Machine.execDescriptorFetch f q s
  | .descriptorFetchReturn f q index slot => Sys2Proof.Machine.execDescriptorFetchReturn f q index slot s
  | .staleRefetch f q k => Sys2Proof.Machine.execStaleRefetch f q k s
  | .completionWrite f q index => Sys2Proof.Machine.execCompletionWrite f q index s
  | .arrivalEntryWrite f q => Sys2Proof.Machine.execArrivalEntryWrite f q s
  | .arrivalWaitExpiry f q => Sys2Proof.Machine.execArrivalWaitExpiry f q s
  | .queueDisable f d value => Sys2Proof.Machine.execQueueDisable f d value s
  | .queueDisabled f q => Sys2Proof.Machine.execQueueDisabled f q s
  | .queueEnable f d value => Sys2Proof.Machine.execQueueEnable f d value s
  | .stopFifoRead f d => Sys2Proof.Machine.execStopFifoRead f d s
  | .adminQueueEnable f value => Sys2Proof.Machine.execAdminQueueEnable f value s
  | .adminQueueDisable f value => Sys2Proof.Machine.execAdminQueueDisable f value s
  | .createQueue f => Sys2Proof.Machine.execCreateQueue f s
  | .destroyQueue f => Sys2Proof.Machine.execDestroyQueue f s
  | .setArrivalRoute f => Sys2Proof.Machine.execSetArrivalRoute f s
  | .setFunctionMode f => Sys2Proof.Machine.execSetFunctionMode f s
  | .createQp f => Sys2Proof.Machine.execCreateQp f s
  | .toRtr f => Sys2Proof.Machine.execToRtr f s
  | .toRts f => Sys2Proof.Machine.execToRts f s
  | .toError f => Sys2Proof.Machine.execToError f s
  | .toInit f => Sys2Proof.Machine.execToInit f s
  | .setLimits f => Sys2Proof.Machine.execSetLimits f s
  | .destroyQp f => Sys2Proof.Machine.execDestroyQp f s
  | .loadRecipe f bundle => Sys2Proof.Machine.execLoadRecipe f bundle s
  | .unloadRecipe f => Sys2Proof.Machine.execUnloadRecipe f s
  | .formatTable f table => Sys2Proof.Machine.execFormatTable f table s
  | .sequenceTable f table => Sys2Proof.Machine.execSequenceTable f table s
  | .collationTable f table => Sys2Proof.Machine.execCollationTable f table s
  | .invalidateRange f => Sys2Proof.Machine.execInvalidateRange f s
  | .resolveFault f => Sys2Proof.Machine.execResolveFault f s
  | .setPageTableRoot f => Sys2Proof.Machine.execSetPageTableRoot f s
  | .resizePartition f record => Sys2Proof.Machine.execResizePartition f record s
  | .destroyPartition f => Sys2Proof.Machine.execDestroyPartition f s
  | .createGroup f table => Sys2Proof.Machine.execCreateGroup f table s
  | .reformGroup f table => Sys2Proof.Machine.execReformGroup f table s
  | .destroyGroup f => Sys2Proof.Machine.execDestroyGroup f s
  | .write f q => Sys2Proof.Machine.execWrite f q s
  | .read f q => Sys2Proof.Machine.execRead f q s
  | .send f q => Sys2Proof.Machine.execSend f q s
  | .writeNotify f q => Sys2Proof.Machine.execWriteNotify f q s
  | .atomicAdd f q => Sys2Proof.Machine.execAtomicAdd f q s
  | .stageIn f q data => Sys2Proof.Machine.execStageIn f q data s
  | .stageOut f q => Sys2Proof.Machine.execStageOut f q s
  | .localCopy f q => Sys2Proof.Machine.execLocalCopy f q s
  | .runRecipe f q => Sys2Proof.Machine.execRunRecipe f q s
  | .reduce f q => Sys2Proof.Machine.execReduce f q s
  | .broadcast f q => Sys2Proof.Machine.execBroadcast f q s
  | .cipher f q => Sys2Proof.Machine.execCipher f q s
  | .nop f q => Sys2Proof.Machine.execNop f q s
  | .writePacket d p => Sys2Proof.Machine.execWritePacket d p s
  | .writeNotifyPacket d p => Sys2Proof.Machine.execWriteNotifyPacket d p s
  | .sendPacket d p => Sys2Proof.Machine.execSendPacket d p s
  | .readRequest d p => Sys2Proof.Machine.execReadRequest d p s
  | .readResponse d p => Sys2Proof.Machine.execReadResponse d p s
  | .atomicRequest d p => Sys2Proof.Machine.execAtomicRequest d p s
  | .atomicResponse d p => Sys2Proof.Machine.execAtomicResponse d p s
  | .msgAbort d p => Sys2Proof.Machine.execMsgAbort d p s
  | .ack d p => Sys2Proof.Machine.execAck d p s
  | .nakRnr d p => Sys2Proof.Machine.execNakRnr d p s
  | .nakFaultWait d p => Sys2Proof.Machine.execNakFaultWait d p s
  | .nakAccessDenied d p => Sys2Proof.Machine.execNakAccessDenied d p s
  | .nakPoisoned d p => Sys2Proof.Machine.execNakPoisoned d p s
  | .nakTallyFailed d p => Sys2Proof.Machine.execNakTallyFailed d p s
  | .nakQpError d p => Sys2Proof.Machine.execNakQpError d p s
  | .nakInvalidRequest d p => Sys2Proof.Machine.execNakInvalidRequest d p s
  | .ackTimer qp => Sys2Proof.Machine.execAckTimer qp s
  | .rtoExpiry qp => Sys2Proof.Machine.execRtoExpiry qp s
  | .faultWaitProbe qp => Sys2Proof.Machine.execFaultWaitProbe qp s
  | .faultWaitLimit qp => Sys2Proof.Machine.execFaultWaitLimit qp s
  | .contextFetchDone qp => Sys2Proof.Machine.execContextFetchDone qp s
  | .contextPrefetch qp => Sys2Proof.Machine.execContextPrefetch qp s
  | .schedulerSelection d k => Sys2Proof.Machine.execSchedulerSelection d k s
  | .depthDelaySample d k => Sys2Proof.Machine.execDepthDelaySample d k s
  | .qpWeightWrite f d value => Sys2Proof.Machine.execQpWeightWrite f d value s
  | .alramTrainingDone d k reversed => Sys2Proof.Machine.execAlramTrainingDone d k reversed s
  | .alramAlignLock d k => Sys2Proof.Machine.execAlramAlignLock d k s
  | .init d port vc endpoint grant => Sys2Proof.Machine.execInit d port vc endpoint grant s
  | .alramLinkDown d k => Sys2Proof.Machine.execAlramLinkDown d k s
  | .linkEnable d port => Sys2Proof.Machine.execLinkEnable d port s
  | .linkDisable d port => Sys2Proof.Machine.execLinkDisable d port s
  | .frameReceive d port vc p crc intact => Sys2Proof.Machine.execFrameReceive d port vc p crc intact s
  | .credit d port vc freed => Sys2Proof.Machine.execCredit d port vc freed s
  | .sync d port vc sent => Sys2Proof.Machine.execSync d port vc sent s
  | .creditReportTimer d port => Sys2Proof.Machine.execCreditReportTimer d port s
  | .syncTimer d port => Sys2Proof.Machine.execSyncTimer d port s
  | .alramWrite d k p => Sys2Proof.Machine.execAlramWrite d k p s
  | .alramReadRequest d k p => Sys2Proof.Machine.execAlramReadRequest d k p s
  | .alramReadResponse d k p => Sys2Proof.Machine.execAlramReadResponse d k p s
  | .alramReadTimeout d k tag => Sys2Proof.Machine.execAlramReadTimeout d k tag s
  | .routePacket d port => Sys2Proof.Machine.execRoutePacket d port s
  | .escapeWaitExpiry d port n => Sys2Proof.Machine.execEscapeWaitExpiry d port n s
  | .holdExpiry d port => Sys2Proof.Machine.execHoldExpiry d port s
  | .editionCountRelease d edition => Sys2Proof.Machine.execEditionCountRelease d edition s
  | .fifoPointerMismatch d fifo => Sys2Proof.Machine.execFifoPointerMismatch d fifo s
  | .dropRest d fifo => Sys2Proof.Machine.execDropRest d fifo s
  | .quireLinkDown d k => Sys2Proof.Machine.execQuireLinkDown d k s
  | .quireLinkUp d k => Sys2Proof.Machine.execQuireLinkUp d k s
  | .quireRetrainTimeout d k => Sys2Proof.Machine.execQuireRetrainTimeout d k s
  | .ethFrameReceive d k frame fcs intact => Sys2Proof.Machine.execEthFrameReceive d k frame fcs intact s
  | .pfcRepeat d k p => Sys2Proof.Machine.execPfcRepeat d k p s
  | .pfcFrame d k vector times => Sys2Proof.Machine.execPfcFrame d k vector times s
  | .pauseTimerExpiry d k p => Sys2Proof.Machine.execPauseTimerExpiry d k p s
  | .pfcCtlWrite d k value => Sys2Proof.Machine.execPfcCtlWrite d k value s
  | .ptpFrame d k frame stamp => Sys2Proof.Machine.execPtpFrame d k frame stamp s
  | .ethTrainingDone d k reversed => Sys2Proof.Machine.execEthTrainingDone d k reversed s
  | .ethTrainingTimeout d k => Sys2Proof.Machine.execEthTrainingTimeout d k s
  | .ethAlignLock d k => Sys2Proof.Machine.execEthAlignLock d k s
  | .ethLinkDown d k remoteFault => Sys2Proof.Machine.execEthLinkDown d k remoteFault s
  | .portEnable d k enable => Sys2Proof.Machine.execPortEnable d k enable s
  | .patrolScrub d m block severity => Sys2Proof.Machine.execPatrolScrub d m block severity s
  | .walkComplete d e f offset isWrite prefetch => Sys2Proof.Machine.execWalkComplete d e f offset isWrite prefetch s
  | .faultAbort d record => Sys2Proof.Machine.execFaultAbort d record s
  | .invalidationPoint d e => Sys2Proof.Machine.execInvalidationPoint d e s
  | .invalidationAck d e => Sys2Proof.Machine.execInvalidationAck d e s
  | .invalidationResend d => Sys2Proof.Machine.execInvalidationResend d s
  | .dogEarWindowEnd d => Sys2Proof.Machine.execDogEarWindowEnd d s
  | .tilePrefetch d r => Sys2Proof.Machine.execTilePrefetch d r s
  | .tileArrival d r => Sys2Proof.Machine.execTileArrival d r s
  | .load d r ecc => Sys2Proof.Machine.execLoad d r ecc s
  | .matmul d r ecc => Sys2Proof.Machine.execMatmul d r ecc s
  | .vector d r ecc => Sys2Proof.Machine.execVector d r ecc s
  | .store d r ecc => Sys2Proof.Machine.execStore d r ecc s
  | .candidate d r ecc => Sys2Proof.Machine.execCandidate d r ecc s
  | .draw d r ecc => Sys2Proof.Machine.execDraw d r ecc s
  | .signal d r => Sys2Proof.Machine.execSignal d r s
  | .wait d r => Sys2Proof.Machine.execWait d r s
  | .waitSatisfied d r => Sys2Proof.Machine.execWaitSatisfied d r s
  | .waitTimeout d r => Sys2Proof.Machine.execWaitTimeout d r s
  | .checkExecution d check result => Sys2Proof.Machine.execCheckExecution d check result s
  | .checkReexecution d check o2 t c2 => Sys2Proof.Machine.execCheckReexecution d check o2 t c2 s
  | .knownAnswerRun d r => Sys2Proof.Machine.execKnownAnswerRun d r s
  | .karDeferExpiry d r => Sys2Proof.Machine.execKarDeferExpiry d r s
  | .knownAnswerDone d r failures => Sys2Proof.Machine.execKnownAnswerDone d r failures s
  | .tallyReread d f pa address => Sys2Proof.Machine.execTallyReread d f pa address s
  | .notice d p => Sys2Proof.Machine.execNotice d p s
  | .noticeAck d p => Sys2Proof.Machine.execNoticeAck d p s
  | .noticeRepeat d sequence => Sys2Proof.Machine.execNoticeRepeat d sequence s
  | .digestFormed d entry => Sys2Proof.Machine.execDigestFormed d entry s
  | .digest d p => Sys2Proof.Machine.execDigest d p s
  | .digestAck d p => Sys2Proof.Machine.execDigestAck d p s
  | .digestRepeat d entry => Sys2Proof.Machine.execDigestRepeat d entry s
  | .collationTimeout d entry part => Sys2Proof.Machine.execCollationTimeout d entry part s
  | .data d p => Sys2Proof.Machine.execData d p s
  | .frames d p glitch => Sys2Proof.Machine.execFrames d p glitch s
  | .grant d p => Sys2Proof.Machine.execGrant d p s
  | .receipt d p => Sys2Proof.Machine.execReceipt d p s
  | .resend d p => Sys2Proof.Machine.execResend d p s
  | .failure d p => Sys2Proof.Machine.execFailure d p s
  | .retract d p => Sys2Proof.Machine.execRetract d p s
  | .finish d p => Sys2Proof.Machine.execFinish d p s
  | .chunkAbort d p => Sys2Proof.Machine.execChunkAbort d p s
  | .repeatTimer d group => Sys2Proof.Machine.execRepeatTimer d group s
  | .resendTimer d group => Sys2Proof.Machine.execResendTimer d group s
  | .childTimeout d group child => Sys2Proof.Machine.execChildTimeout d group child s
  | .parentTimeout d group => Sys2Proof.Machine.execParentTimeout d group s
  | .memberLeft d group => Sys2Proof.Machine.execMemberLeft d group s
  | .functionEnable f => Sys2Proof.Machine.execFunctionEnable f s
  | .functionDisable f => Sys2Proof.Machine.execFunctionDisable f s
  | .fnHold f hold => Sys2Proof.Machine.execFnHold f hold s
  | .openingComplete f => Sys2Proof.Machine.execOpeningComplete f s
  | .closingComplete f => Sys2Proof.Machine.execClosingComplete f s
  | .dirtyLogEnable f value => Sys2Proof.Machine.execDirtyLogEnable f value s
  | .dirtyHeadWrite f value => Sys2Proof.Machine.execDirtyHeadWrite f value s
  | .bootRomStart => Sys2Proof.Machine.execBootRomStart s
  | .spineStart => Sys2Proof.Machine.execSpineStart s
  | .quireReady d => Sys2Proof.Machine.execQuireReady d s
  | .quireReadyTimeout => Sys2Proof.Machine.execQuireReadyTimeout s
  | .quireHeartbeat d => Sys2Proof.Machine.execQuireHeartbeat d s
  | .heartbeatMiss d => Sys2Proof.Machine.execHeartbeatMiss d s
  | .watchdogExpiry => Sys2Proof.Machine.execWatchdogExpiry s
  | .stateChecksum same => Sys2Proof.Machine.execStateChecksum same s
  | .spineEccError corrected => Sys2Proof.Machine.execSpineEccError corrected s
  | .offer session header => Sys2Proof.Machine.execOffer session header s
  | .block session sequence payload flashOk => Sys2Proof.Machine.execBlock session sequence payload flashOk s
  | .statusRequest session => Sys2Proof.Machine.execStatusRequest session s
  | .deliveryAbort session => Sys2Proof.Machine.execDeliveryAbort session s
  | .sessionTimeout => Sys2Proof.Machine.execSessionTimeout s
  | .getStatus => Sys2Proof.Machine.execGetStatus s
  | .attest request => Sys2Proof.Machine.execAttest request s
  | .loadFabricKey request => Sys2Proof.Machine.execLoadFabricKey request s
  | .fabricCmd d request => Sys2Proof.Machine.execFabricCmd d request s
  | .confirmQuire => Sys2Proof.Machine.execConfirmQuire s
  | .debugChallenge => Sys2Proof.Machine.execDebugChallenge s
  | .debugUnlock request => Sys2Proof.Machine.execDebugUnlock request s
  | .approveRampTable request => Sys2Proof.Machine.execApproveRampTable request s
  | .keyLoad f value => Sys2Proof.Machine.execKeyLoad f value s
  | .keyErase f value => Sys2Proof.Machine.execKeyErase f value s
  | .entropyHealthFailure d => Sys2Proof.Machine.execEntropyHealthFailure d s
  | .drbgReseed d => Sys2Proof.Machine.execDrbgReseed d s
  | .readRouter d m => Sys2Proof.Machine.execReadRouter d m s
  | .writeTableEntry d m => Sys2Proof.Machine.execWriteTableEntry d m s
  | .setInjectEdition d m => Sys2Proof.Machine.execSetInjectEdition d m s
  | .setRelayRequired d m => Sys2Proof.Machine.execSetRelayRequired d m s
  | .setEndpointId d m => Sys2Proof.Machine.execSetEndpointId d m s
  | .setRouteCtl d m => Sys2Proof.Machine.execSetRouteCtl d m s
  | .resetForwardingPlane d m => Sys2Proof.Machine.execResetForwardingPlane d m s
  | .setFabricTime d m => Sys2Proof.Machine.execSetFabricTime d m s
  | .adjustFabricTime d m => Sys2Proof.Machine.execAdjustFabricTime d m s
  | .setPtp d m => Sys2Proof.Machine.execSetPtp d m s
  | .armCaptureAt d m => Sys2Proof.Machine.execArmCaptureAt d m s
  | .triggerCapture d m => Sys2Proof.Machine.execTriggerCapture d m s
  | .readFabricTime d m => Sys2Proof.Machine.execReadFabricTime d m s
  | .powerReq f off request => Sys2Proof.Machine.execPowerReq f off request s
  | .creaseIdle d => Sys2Proof.Machine.execCreaseIdle d s
  | .foldIdle d => Sys2Proof.Machine.execFoldIdle d s
  | .wakeEvent d cause => Sys2Proof.Machine.execWakeEvent d cause s
  | .powerTransitionDone => Sys2Proof.Machine.execPowerTransitionDone s
  | .mctpWake eid request => Sys2Proof.Machine.execMctpWake eid request s
  | .mctpSetEndpointId eid => Sys2Proof.Machine.execMctpSetEndpointId eid s
  | .mctpGetEndpointId => Sys2Proof.Machine.execMctpGetEndpointId s
  | .mctpGetVersionSupport msgType => Sys2Proof.Machine.execMctpGetVersionSupport msgType s
  | .mctpGetMessageTypeSupport => Sys2Proof.Machine.execMctpGetMessageTypeSupport s
  | .mctpUnsupportedMessage code => Sys2Proof.Machine.execMctpUnsupportedMessage code s
  | .governorPeriod d fixed perPercent wanted => Sys2Proof.Machine.execGovernorPeriod d fixed perPercent wanted s
  | .budgetUpdate watts => Sys2Proof.Machine.execBudgetUpdate watts s
  | .brakeAssert => Sys2Proof.Machine.execBrakeAssert s
  | .brakeDeassert => Sys2Proof.Machine.execBrakeDeassert s
  | .thermalSample d tj => Sys2Proof.Machine.execThermalSample d tj s
  | .tripClear d => Sys2Proof.Machine.execTripClear d s
  | .thermTableWrite d j value => Sys2Proof.Machine.execThermTableWrite d j value s
  | .pllLockLoss d pll => Sys2Proof.Machine.execPllLockLoss d pll s
  | .pllRelock d pll => Sys2Proof.Machine.execPllRelock d pll s
  | .capCmdGo d => Sys2Proof.Machine.execCapCmdGo d s
  | .capTimeMatch d => Sys2Proof.Machine.execCapTimeMatch d s
  | .colophonIn => Sys2Proof.Machine.execColophonIn s
  | .colophonOutRelease => Sys2Proof.Machine.execColophonOutRelease s
  | .markerArrival d page channel number => Sys2Proof.Machine.execMarkerArrival d page channel number s
  | .colophonMarker d port vc p => Sys2Proof.Machine.execColophonMarker d port vc p s
  | .channelTimeout d page channel => Sys2Proof.Machine.execChannelTimeout d page channel s
  | .packageTimeSync d => Sys2Proof.Machine.execPackageTimeSync d s
  | .ptpSyncLoss => Sys2Proof.Machine.execPtpSyncLoss s
  | .ethAlignTimeout d k => Sys2Proof.Machine.execEthAlignTimeout d k s
  | .entropyHealthPass d => Sys2Proof.Machine.execEntropyHealthPass d s

end Sys2Proof.Machine
end

