-- ==== Sys2Proof/Safety.lean ====
section
/-!
DEFINITION. What a safe run is; the areas of the state that frames are stated over; the canonical form of the state's maps
and the number of its units, which every command keeps.
-/

namespace Sys2Proof

/-- A run of `n` steps that neither faults nor is refused. -/
def Safe (n : Nat) (s : Machine.State) : Prop :=
  match n with
  | 0 => True
  | n + 1 =>
    match Machine.step s with
    | .next t => Safe n t
    | .fault _ => False
    | .refused _ => False

end Sys2Proof

namespace Sys2Proof.Machine

/-- The areas of the state: each names fields of `State`, of its dies, or of its Spine. -/
inductive Area where
  /-- Every byte of memory (R319). -/
  | memory
  /-- Registers at offsets 0x100 to 0xBFF of their pages, those at 0x000 to 0x0FF (R35 to R54), and live counters with their
  capture totals (R56, R645). -/
  | ownRegs | commonRegs | counters
  /-- Shadows and held halves of 64-bit accesses (R30, R31). -/
  | halves
  /-- Functions, and who holds Reckoners and memory granules (R528, R529). -/
  | functions | holdings
  /-- Queues with their stop records, queue pairs, descriptors in execution, arrival entries not yet written. -/
  | queues | qps | descriptors | arrivals
  /-- Doorbells and interrupt requests on their way. -/
  | doorbells | requests
  /-- COLOPHON_OUT, THERM_ALERT_N, POWER_BRAKE_N. -/
  | pins
  | keys
  /-- Whether configuration and memory requests are answered (R67). -/
  | ready
  | recipes
  /-- The model's own counts: free values used and check records formed. -/
  | model
  /-- The Spine, and the OTP array in it (R573). -/
  | spine | otp
  /-- Straps, PERST_N, PCI Express link, mailbox and I3C target of die 0. -/
  | board
  /-- POWER_REQ and the move between power states (R601, R602). -/
  | powerState
  /-- What the block has sent. -/
  | outbox
  /-- Of every die: reset flags, transport, schedulers, router, links, translation, memory controllers, power unit, PLLs, fabric
  time, capture logic, Ethernet ports, Reckoners, groups, integrity unit, entropy source. -/
  | resets | transport | schedulers | router | links | translation | controllers | power | clocks | time | captures
  | ethernet | reckoners | groups | integrity | entropy
  deriving DecidableEq, Repr

/-- Registers at addresses that `p` admits by their offset in the page read the same. -/
def sameRegs (p : Nat → Bool) (s t : State) : Prop := ∀ a, p (a % 4096) = true → FMap.get? t.regs a = FMap.get? s.regs a

/-- An area is the same in two states. -/
def Area.same (s t : State) : Area → Prop
  | .memory => t.mem = s.mem
  | .ownRegs => sameRegs (fun o => decide (0x100 ≤ o) && decide (o < 0xC00)) s t
  | .commonRegs => sameRegs (fun o => decide (o < 0x100)) s t
  | .counters => sameRegs (fun o => decide (0xC00 ≤ o)) s t ∧ t.totals = s.totals
  | .halves => t.shadows = s.shadows ∧ t.lowHalves = s.lowHalves
  | .functions => t.fns = s.fns
  | .holdings => t.rkOwner = s.rkOwner ∧ t.granules = s.granules
  | .queues => t.queues = s.queues ∧ t.stops = s.stops ∧ t.stopsLost = s.stopsLost
  | .qps => t.qps = s.qps
  | .descriptors => t.execs = s.execs
  | .arrivals => t.arrivals = s.arrivals
  | .doorbells => t.doorbells = s.doorbells
  | .requests => t.requests = s.requests
  | .pins => t.colophonOut = s.colophonOut ∧ t.thermAlert = s.thermAlert ∧ t.brakePin = s.brakePin
  | .keys => t.keys = s.keys
  | .ready => t.ready = s.ready
  | .recipes => t.recipes = s.recipes
  | .model => t.free = s.free ∧ t.checks = s.checks
  | .spine => t.spine = s.spine
  | .otp => t.spine.otp = s.spine.otp
  | .board => t.board = s.board
  | .powerState =>
    t.powerReq = s.powerReq ∧ t.powerRefused = s.powerRefused ∧ t.powerMove = s.powerMove ∧ t.powerNext = s.powerNext
  | .outbox => t.outbox = s.outbox
  | .resets =>
    t.dies.map (fun x => (x.computeReset, x.fwdReset, x.cmdBusy)) = s.dies.map fun x => (x.computeReset, x.fwdReset, x.cmdBusy)
  | .transport => t.dies.map Die.tx = s.dies.map Die.tx
  | .schedulers => t.dies.map Die.scheds = s.dies.map Die.scheds
  | .router => t.dies.map Die.router = s.dies.map Die.router
  | .links => t.dies.map Die.links = s.dies.map Die.links
  | .translation => t.dies.map Die.xlate = s.dies.map Die.xlate
  | .controllers => t.dies.map Die.mems = s.dies.map Die.mems
  | .power => t.dies.map Die.power = s.dies.map Die.power
  | .clocks => t.dies.map Die.clocks = s.dies.map Die.clocks
  | .time => t.dies.map Die.time = s.dies.map Die.time
  | .captures =>
    t.dies.map (fun x => (x.captures, x.capOrigin, x.capTrigger)) = s.dies.map fun x => (x.captures, x.capOrigin, x.capTrigger)
  | .ethernet => t.dies.map Die.eth = s.dies.map Die.eth
  | .reckoners => t.dies.map Die.recks = s.dies.map Die.recks
  | .groups => t.dies.map Die.groups = s.dies.map Die.groups
  | .integrity => t.dies.map Die.integ = s.dies.map Die.integ
  | .entropy => t.dies.map Die.entropy = s.dies.map Die.entropy

/-- The maps that hold memory, registers and capture totals are in canonical form. -/
abbrev State.canonical (s : State) : Prop :=
  Memory.wf s.mem = true ∧ FMap.wf s.regs = true ∧ FMap.wf s.totals = true

/-- The numbers of units of a die: schedulers, router FIFOs and output ports, links, memory controllers, Ethernet ports,
Reckoners. -/
def Die.units (x : Die) : List Nat :=
  [x.scheds.length, x.router.fifos.length, x.router.ports.length, x.links.length, x.mems.length, x.eth.length, x.recks.length]

/-- The numbers of units of the package: of each die, functions, entries of the table of Reckoner holders, Quire slots. -/
def State.units (s : State) : List (List Nat) × Nat × Nat × Nat :=
  (s.dies.map Die.units, s.fns.length, s.rkOwner.length, s.spine.slots.length)

/-- The units that a part has (R13, R14, R70, R528, R560). -/
def partUnits (p : Part) : List (List Nat) × Nat × Nat × Nat :=
  (List.replicate p.dies [10, 9, 8, 6, 3, 4, 5], 17, 5 * p.dies, 2)

/-- What holds of every state that the block can reach: canonical maps, and exactly the units of the part. -/
abbrev State.sound (s : State) : Prop := s.canonical ∧ s.units = partUnits s.part

/-- One-time-programmable memory after a command against before it (R573): what was programmed stays, keys once revoked stay
revoked, and neither security-version minimum falls. -/
def OtpKept (x y : Otp) : Prop :=
  y.identity = x.identity ∧ y.secret = x.secret ∧ y.serial = x.serial ∧ y.serviceMac = x.serviceMac ∧
  y.imageKeys = x.imageKeys ∧ y.debugKeys = x.debugKeys ∧
  (∀ k ∈ x.imageRevoked, k ∈ y.imageRevoked) ∧ (∀ k ∈ x.debugRevoked, k ∈ y.debugRevoked) ∧
  x.minSpine ≤ y.minSpine ∧ x.minQuire ≤ y.minQuire

/-! ### What claims are stated with -/

/-- A command completes: it answers a next state, of which `P` holds. -/
def Completes (c : Instr) (s : State) (P : State → Prop) : Prop := ∃ t, exec c s = .next t ∧ P t

/-- The part answers requests of the host (R67): the link is up and the Spine has opened the functions. -/
abbrev State.hostReady (s : State) : Prop := s.board.link.isSome = true ∧ s.ready = true

/-- A page takes writes: its die is reached (R290), its domain is not in reset (R63), its island is not gated (R64) and its
function is OPEN (R537). -/
abbrev State.takes (s : State) (p : Page) : Prop :=
  s.answers p.die = true ∧ s.inReset p = false ∧ s.gated p = false ∧ s.closedPage p = false

/-- A register of a page as 64 bits. -/
def State.word (s : State) (p : Page) (off : Nat) : Word64 := BitVec.ofNat 64 (s.reg p off)

/-- Counter `k` of a page counts `n` from `s` to `t`, and its capture total with it (R645). -/
abbrev Counted (p : Page) (k n : Nat) (s t : State) : Prop :=
  t.ctr p k = s.ctr p k + BitVec.ofNat 64 n ∧ t.total p k = s.total p k + BitVec.ofNat 64 n

/-- The next slot of a queue may begin and is well formed (R123, R124, R127), and no descriptor of its index is in
execution. -/
abbrev State.begins (s : State) (f q : Nat) (x : Queue) (t : Slot) : Prop :=
  s.nextSlot f q = some (x, t) ∧ s.formOf f q x t.bytes = none ∧ s.exec? f q t.index = none

/-- The descriptor at an index of a queue has ended with a status and results (R115). -/
def State.ended (s : State) (f q : Nat) (i : Word) (status r0 r1 : Nat) : Prop :=
  ∃ e, s.exec? f q i = some e ∧ e.phase = .finished ∧ e.status = status ∧ e.result0 = r0 ∧ e.result1 = r1

/-- An access of `n` bytes within one 4 KiB block finds a translation (R334), to a die physical address in memory that holds
no tallies and no poison bits (R321). -/
def State.reaches (s : State) (d e f off n : Nat) (w : Bool) (pa : Nat) : Prop :=
  0 < n ∧ off % 4096 + n ≤ 4096 ∧ (∃ t, (s.translate d e f off w).1 = .found t ∧ pa = t.pa off) ∧ pa < 3 * 2 ^ 36 ∧
  memOffset pa + n + regionBytes s.part pa ≤ 2 ^ 36

/-- A read within one block reaches it, and the block is not poisoned and keeps its tally (R487): it reads `bs`. -/
def State.readsAs (s : State) (d e f off : Nat) (bs : List Byte) : Prop :=
  ∃ pa, s.reaches d e f off bs.length false pa ∧ s.poisoned d pa = false ∧ s.tallyOk d pa = true ∧ s.bytes d pa bs.length = bs

/-- A protected queue pair whose EPOCH is not about to pass 22 bits (R206). -/
abbrev Qp.epochLeft (x : Qp) : Prop := x.gcm = true → x.epoch + x.sndWraps + x.rcvWraps + x.ackWraps + 2 < 2 ^ 22

/-- A packet of a queue pair `x` that transport RX takes whole (R165, R195, R203, R209): header `h`, payload `bs` with its
tallies, opened where the queue pair is protected. -/
abbrev State.takesPacket (s : State) (d : Nat) (p : Packet) (h : BfIn) (x : Qp) (bs : List Byte) : Prop :=
  d < s.dies.length ∧ bfIn p = some h ∧ h.reserved = false ∧ s.qp h.dest = some x ∧ s.qpDie h.dest = d ∧
  s.ctxCached d h.dest = true ∧ x.admitsFrom p h = true ∧ h.gcm = x.gcm ∧ x.epochLeft ∧
  24 + (if x.gcm then 16 else 0) ≤ p.body.length ∧
  bfPayload h (p.body.length - 24 - if x.gcm then 16 else 0) = some bs.length ∧
  if x.gcm then (s.openPacket x p h).map Prod.fst = some (bs ++ tallies (tallyBase h.op h.addr) bs)
  else p.body.drop 24 = bs ++ tallies (tallyBase h.op h.addr) bs

/-- A descriptor is in execution and has not ended. -/
def State.inExecution (s : State) (f q : Nat) (i : Word) : Prop := ∃ e, s.exec? f q i = some e ∧ e.phase ≠ .finished

/-- The descriptor at an index of a queue has ended with a status and DETAIL (R115). -/
def State.endedWith (s : State) (f q : Nat) (i : Word) (status detail : Nat) : Prop :=
  ∃ e, s.exec? f q i = some e ∧ e.phase = .finished ∧ e.status = status ∧ e.detail = detail

/-- A chunk packet `p` of a kind, with header `h`, that belongs to the operation `o` in execution of group `g`, entry `e` of a
die's group list (R459). -/
abbrev State.takesChunk (s : State) (d : Nat) (p : Packet) (kind e : Nat) (g : Group) (o : CollOp) (h : ChunkIn) : Prop :=
  d < s.dies.length ∧ chunkIn p.body = some h ∧ h.kind = kind ∧ s.groupOf d h.group = some (e, g) ∧
  s.collOp d e = some (g, o) ∧ h.ggen = g.gen ∧ h.seq = o.seq ∧ g.senderOk o h p.replicate = true ∧
  (chunkKind kind = true → ((o.chunk? h.chunk).map Chunk.gen).getD 0 ≤ h.gen)

/-- The Spine carries out a fabric management message for a die (R588, R589): it runs, the message's CMAC and SEQUENCE hold,
and a packet that carries it keeps its tally. -/
def State.takesMgmt (s : State) (d code : Nat) (m : MgmtMessage) : Prop :=
  d < s.dies.length ∧ s.spine.alive = true ∧ s.mgmtOk m code = true ∧
  ∀ p, s.mgmtPacket d code m = some p → tallies 0 (p.body.take 48) = p.body.drop 48

/-! ### What each command may change -/

/-- What an error or an event leaves on a page: its counters, FE_STATUS with what stands above it, interrupt requests. -/
def noted : List Area := [.commonRegs, .counters, .requests]

/-- What a capture of the colophon or a pin may leave. -/
def raised : List Area := [.ownRegs, .pins, .captures]

/-- What a packet sent leaves. -/
def sent : List Area := [.outbox, .router, .links, .ethernet]

/-- Queues and the work on them. -/
def work : List Area := [.queues, .qps, .descriptors, .arrivals]

/-- Every area but some. -/
def but (l : List Area) : List Area :=
  [Area.memory, .ownRegs, .commonRegs, .counters, .halves, .functions, .holdings, .queues, .qps, .descriptors, .arrivals,
    .doorbells, .requests, .pins, .keys, .ready, .recipes, .model, .spine, .otp, .board, .powerState, .outbox, .resets,
    .transport, .schedulers, .router, .links, .translation, .controllers, .power, .clocks, .time, .captures, .ethernet,
    .reckoners, .groups, .integrity, .entropy].filter fun a => !l.contains a

/-- The areas that a command may change, whatever its operands; every other area is the same after it. -/
def touches : Instr → List Area
  | .registerWrite .. | .intRawClear .. | .intEnWrite .. | .intSet .. | .feStatusClear .. | .reset .. | .colophonArm ..
  | .colophonDisarm .. | .clearErrors .. => but [.clocks]
  | .rcRegisterRead .. => noted ++ raised ++ [.halves, .queues, .outbox]
  | .msixMessage .. => [.functions, .requests, .outbox]
  | .msixUnmask .. => [.functions, .outbox]
  | .dieResetRampDownDone .. =>
    noted ++ raised ++ [.memory, .functions, .descriptors, .arrivals, .outbox, .resets, .translation]
  | .forwardingPlaneReset .. =>
    noted ++ [.ownRegs, .halves, .qps, .descriptors, .schedulers, .router, .links, .captures, .ethernet]
  | .perstNAssert .. | .railFault .. | .pllLockLoss .. => but [.otp]
  | .perstNDeassert .. => noted ++ [.model, .spine, .board, .power]
  | .functionLevelReset .. | .vfEnableClear .. | .openingComplete .. =>
    noted ++ raised ++ work ++ [.memory, .functions, .doorbells, .recipes, .model, .transport, .links, .translation,
      .reckoners, .groups, .integrity]
  | .hostReadError .. => [.counters, .queues, .descriptors, .arrivals, .outbox]
  | .poisonedBarWrite .. | .doeDiscovery .. | .getCapabilities .. | .getDigests .. | .getCertificate ..
  | .spdmUnsupportedRequest .. | .creditReportTimer .. | .syncTimer .. | .statusRequest .. => [.outbox]
  | .doeUnsupportedObject .. | .doeAbort .. => [.board]
  | .getVersion .. | .negotiateAlgorithms .. => [.board, .outbox]
  | .challenge .. | .getMeasurements .. => [.model, .outbox]
  | .doorbellWrite .. => [.counters, .doorbells, .outbox]
  | .doorbellAdmission .. => [.counters, .queues, .qps, .arrivals, .doorbells]
  | .alramDoorbell .. => sent ++ [.counters, .doorbells]
  | .ledgerIssue .. | .getStatus .. => noted ++ [.ownRegs, .functions, .outbox]
  | .readBack .. => [.counters, .qps, .descriptors, .outbox, .router, .links]
  | .readBackReturn .. => [.descriptors]
  | .descriptorFetch .. => [.queues, .outbox]
  | .descriptorFetchReturn .. => [.counters, .queues, .arrivals, .translation]
  | .staleRefetch .. => [.counters, .queues, .outbox]
  | .completionWrite .. =>
    noted ++ [.memory, .ownRegs, .functions, .queues, .descriptors, .arrivals, .outbox, .translation, .integrity]
  | .arrivalEntryWrite .. => noted ++ [.memory, .ownRegs, .functions, .queues, .qps, .arrivals, .outbox, .translation]
  | .arrivalWaitExpiry .. => [.counters, .queues, .qps]
  | .queueDisable .. | .stopFifoRead .. | .adminQueueEnable .. | .adminQueueDisable .. =>
    noted ++ raised ++ [.queues, .outbox]
  | .queueDisabled .. => [.queues]
  | .queueEnable .. => noted ++ raised ++ [.queues, .qps, .arrivals, .outbox]
  | .createQueue .. | .nop .. => [.counters, .queues, .descriptors, .arrivals]
  | .destroyQueue .. | .toRtr .. | .toRts .. | .toError .. | .setLimits .. => work ++ [.counters]
  | .setArrivalRoute .. | .setFunctionMode .. => [.counters, .functions, .queues, .descriptors, .arrivals]
  | .createQp .. | .toInit .. => work ++ [.counters, .keys]
  | .destroyQp .. => work ++ [.counters, .transport, .links]
  | .loadRecipe .. => [.counters, .queues, .descriptors, .arrivals, .recipes, .outbox, .reckoners]
  | .unloadRecipe .. => [.counters, .queues, .descriptors, .arrivals, .recipes]
  | .formatTable .. => [.ownRegs, .counters, .queues, .descriptors, .arrivals, .outbox]
  | .sequenceTable .. => [.counters, .queues, .descriptors, .arrivals, .outbox, .reckoners]
  | .collationTable .. => [.counters, .queues, .descriptors, .arrivals, .outbox, .integrity]
  | .invalidateRange .. => [.counters, .queues, .descriptors, .arrivals, .translation]
  | .resolveFault .. | .setPageTableRoot .. =>
    noted ++ raised ++ sent ++ work ++ [.memory, .functions, .model, .translation, .reckoners, .groups, .integrity]
  | .resizePartition .. =>
    noted ++ [.ownRegs, .functions, .holdings, .queues, .descriptors, .arrivals, .outbox, .translation, .reckoners,
      .integrity]
  | .destroyPartition .. =>
    noted ++ raised ++ work ++ [.memory, .functions, .holdings, .doorbells, .keys, .recipes, .model, .transport, .router,
      .links, .translation, .reckoners, .groups, .integrity]
  | .createGroup .. => [.counters, .queues, .descriptors, .arrivals, .outbox, .router, .groups]
  | .reformGroup .. => [.counters, .queues, .descriptors, .arrivals, .outbox, .router, .groups, .integrity]
  | .destroyGroup .. => [.counters, .queues, .descriptors, .arrivals, .router, .groups]
  | .write .. | .read .. | .send .. | .writeNotify .. | .atomicAdd .. => work ++ [.counters, .transport]
  | .stageIn .. | .stageOut .. | .localCopy .. =>
    noted ++ raised ++ [.memory, .functions, .queues, .descriptors, .arrivals, .outbox, .translation]
  | .runRecipe .. => noted ++ raised ++ [.memory, .queues, .descriptors, .arrivals, .translation, .reckoners, .integrity]
  | .reduce .. | .broadcast .. =>
    noted ++ raised ++ sent ++ [.memory, .queues, .descriptors, .arrivals, .translation, .groups, .integrity]
  | .cipher .. => noted ++ raised ++ [.memory, .queues, .descriptors, .arrivals, .model, .translation]
  | .writePacket .. | .writeNotifyPacket .. | .sendPacket .. | .readRequest .. | .readResponse .. | .atomicRequest ..
  | .atomicResponse .. | .msgAbort .. | .ack .. | .nakRnr .. | .nakFaultWait .. | .nakAccessDenied .. | .nakPoisoned ..
  | .nakTallyFailed .. | .nakQpError .. | .nakInvalidRequest .. | .contextFetchDone .. =>
    sent ++ [.memory, .counters, .qps, .descriptors, .arrivals, .keys, .transport, .translation, .captures]
  | .ackTimer .. => sent ++ [.counters, .qps, .descriptors, .keys, .captures]
  | .rtoExpiry .. | .faultWaitProbe .. | .faultWaitLimit .. => [.counters, .qps, .descriptors]
  | .contextPrefetch .. => [.counters, .transport]
  | .schedulerSelection .. =>
    noted ++ raised ++ sent ++ [.memory, .qps, .descriptors, .arrivals, .keys, .transport, .schedulers, .translation]
  | .depthDelaySample .. => [.ownRegs, .commonRegs, .counters, .qps, .schedulers]
  | .qpWeightWrite .. => noted ++ raised ++ [.qps, .outbox]
  | .alramTrainingDone .. | .quireRetrainTimeout .. => [.links]
  | .alramAlignLock .. => [.outbox, .links]
  | .init .. | .quireLinkUp .. | .ethAlignLock .. | .ethLinkDown .. | .ethAlignTimeout .. => noted ++ sent
  | .alramLinkDown .. | .quireLinkDown .. => noted ++ sent ++ [.captures]
  | .linkEnable .. | .linkDisable .. | .fifoPointerMismatch .. | .portEnable .. | .colophonMarker .. =>
    noted ++ raised ++ sent
  | .frameReceive .. => sent ++ [.counters, .captures]
  | .credit .. => [.counters, .outbox, .links, .captures]
  | .sync .. => [.counters, .links]
  | .alramWrite .. => sent ++ [.memory, .counters, .arrivals, .translation]
  | .alramReadRequest .. => noted ++ raised ++ sent ++ [.memory, .arrivals, .translation]
  | .alramReadResponse .. => sent ++ [.counters, .qps, .descriptors]
  | .alramReadTimeout .. => [.counters, .qps, .descriptors, .router, .links]
  | .routePacket .. | .data .. | .frames .. | .failure .. =>
    noted ++ raised ++ sent ++ [.memory, .descriptors, .arrivals, .model, .translation, .groups, .integrity]
  | .escapeWaitExpiry .. => sent ++ [.counters, .qps]
  | .holdExpiry .. | .dropRest .. => sent ++ [.counters]
  | .editionCountRelease .. => [.router]
  | .ethFrameReceive .. => noted ++ [.outbox, .router, .ethernet]
  | .pfcRepeat .. => [.counters, .outbox]
  | .pfcFrame .. => [.counters, .ethernet]
  | .pauseTimerExpiry .. | .ethTrainingDone .. | .ethTrainingTimeout .. => [.ethernet]
  | .pfcCtlWrite .. => noted ++ raised ++ [.outbox, .ethernet]
  | .ptpFrame .. => noted ++ [.ethernet]
  | .patrolScrub .. => noted ++ raised ++ [.memory, .controllers]
  | .walkComplete .. => [.counters, .arrivals, .translation]
  | .faultAbort .. => noted ++ [.qps, .descriptors, .arrivals, .translation, .reckoners, .groups, .integrity]
  | .invalidationPoint .. => [.translation, .reckoners]
  | .invalidationAck .. | .invalidationResend .. => [.descriptors, .translation]
  | .dogEarWindowEnd .. => [.translation]
  | .tilePrefetch .. | .tileArrival .. | .knownAnswerRun .. | .karDeferExpiry .. => [.reckoners]
  | .load .. | .store .. | .signal .. | .waitSatisfied .. | .waitTimeout .. =>
    noted ++ raised ++ [.memory, .descriptors, .arrivals, .translation, .reckoners, .integrity]
  | .matmul .. | .vector .. | .candidate .. | .draw .. =>
    noted ++ raised ++ [.memory, .descriptors, .arrivals, .model, .translation, .reckoners, .integrity]
  | .wait .. => [.counters, .reckoners]
  | .checkExecution .. | .checkReexecution .. | .knownAnswerDone .. =>
    noted ++ raised ++ sent ++ [.memory, .descriptors, .arrivals, .model, .translation, .reckoners, .integrity]
  | .tallyReread .. => noted ++ raised ++ [.memory, .arrivals]
  | .notice .. => sent ++ [.memory, .counters, .arrivals, .model, .translation, .captures]
  | .noticeAck .. | .digestAck .. => sent ++ [.counters, .integrity]
  | .noticeRepeat .. => noted ++ sent ++ [.arrivals, .model, .captures, .integrity]
  | .digestFormed .. | .digestRepeat .. => sent ++ [.counters, .model, .captures, .integrity]
  | .digest .. => noted ++ sent ++ [.memory, .arrivals, .model, .translation, .captures, .integrity]
  | .collationTimeout .. => noted ++ [.arrivals, .integrity]
  | .grant .. | .receipt .. | .resend .. =>
    noted ++ raised ++ sent ++ [.memory, .descriptors, .arrivals, .translation, .groups, .integrity]
  | .retract .. => sent ++ [.memory, .counters, .descriptors, .arrivals, .model, .translation, .captures, .groups, .integrity]
  | .finish .. | .chunkAbort .. => sent ++ [.counters, .descriptors, .arrivals, .captures, .groups, .integrity]
  | .repeatTimer .. | .resendTimer .. => sent ++ [.counters, .captures, .groups]
  | .childTimeout .. | .parentTimeout .. => noted ++ sent ++ [.descriptors, .arrivals, .captures, .groups, .integrity]
  | .memberLeft .. => sent ++ [.counters, .descriptors, .arrivals, .captures, .groups]
  | .functionEnable .. | .fnHold .. | .dirtyLogEnable .. | .approveRampTable .. => noted ++ raised ++ [.functions, .outbox]
  | .functionDisable .. =>
    noted ++ raised ++ work ++ [.memory, .functions, .doorbells, .recipes, .model, .outbox, .transport, .links,
      .translation, .reckoners, .groups, .integrity]
  | .closingComplete .. =>
    noted ++ [.ownRegs, .functions, .holdings, .descriptors, .keys, .router, .translation, .reckoners, .groups, .integrity]
  | .dirtyHeadWrite .. | .thermTableWrite .. | .capCmdGo .. => noted ++ raised ++ [.outbox]
  | .bootRomStart .. => [.spine, .resets]
  | .spineStart .. =>
    noted ++ raised ++ work ++ [.memory, .functions, .doorbells, .ready, .recipes, .model, .spine, .otp, .resets,
      .transport, .links, .translation, .reckoners, .groups, .integrity, .entropy]
  | .quireReady .. =>
    noted ++ raised ++ work ++ [.memory, .functions, .doorbells, .ready, .recipes, .model, .spine, .otp, .transport,
      .links, .translation, .controllers, .ethernet, .reckoners, .groups, .integrity]
  | .quireReadyTimeout .. =>
    noted ++ raised ++ work ++ [.memory, .functions, .doorbells, .ready, .recipes, .model, .spine, .otp, .resets,
      .transport, .links, .translation, .reckoners, .groups, .integrity]
  | .quireHeartbeat .. | .sessionTimeout .. => [.spine]
  | .heartbeatMiss .. => [.counters, .spine]
  | .watchdogExpiry .. | .stateChecksum .. | .spineEccError .. => but [.memory, .otp, .schedulers, .clocks]
  | .offer .. | .block .. | .deliveryAbort .. => [.spine, .outbox]
  | .attest .. => noted ++ [.ownRegs, .functions, .model, .outbox]
  | .loadFabricKey .. => noted ++ [.ownRegs, .functions, .spine, .outbox]
  | .fabricCmd .. =>
    noted ++ raised ++ sent ++ [.halves, .functions, .queues, .qps, .descriptors, .model, .spine, .schedulers, .time]
  | .confirmQuire .. => noted ++ [.ownRegs, .functions, .spine, .otp, .outbox]
  | .debugChallenge .. => noted ++ [.ownRegs, .functions, .model, .spine, .outbox]
  | .debugUnlock .. => noted ++ [.ownRegs, .functions, .keys, .spine, .outbox, .integrity]
  | .keyLoad .. => noted ++ raised ++ [.memory, .arrivals, .keys, .outbox, .translation]
  | .keyErase .. => noted ++ raised ++ [.keys, .outbox]
  | .entropyHealthFailure .. => noted ++ raised ++ [.entropy]
  | .drbgReseed .. | .entropyHealthPass .. => [.counters, .entropy]
  | .readRouter .. | .writeTableEntry .. | .setInjectEdition .. | .setRelayRequired .. | .setEndpointId .. | .setRouteCtl ..
  | .resetForwardingPlane .. | .setFabricTime .. | .adjustFabricTime .. | .setPtp .. | .armCaptureAt .. | .triggerCapture ..
  | .readFabricTime .. =>
    noted ++ raised ++ sent ++ [.halves, .queues, .qps, .descriptors, .model, .spine, .schedulers, .time]
  | .powerReq .. => noted ++ raised ++ [.powerState, .outbox, .controllers, .power]
  | .creaseIdle .. => noted ++ [.power]
  | .foldIdle .. => noted ++ [.controllers, .power, .captures]
  | .wakeEvent .. =>
    noted ++ raised ++ sent ++ work ++ [.memory, .halves, .recipes, .model, .resets, .transport, .translation,
      .controllers, .power, .reckoners, .groups, .integrity, .entropy]
  | .powerTransitionDone .. => but [.otp, .clocks]
  | .mctpWake .. | .mctpSetEndpointId .. | .mctpGetEndpointId .. | .mctpGetVersionSupport .. | .mctpGetMessageTypeSupport ..
  | .mctpUnsupportedMessage .. => [.model, .board, .powerState, .outbox]
  | .governorPeriod .. => [.counters, .power]
  | .budgetUpdate .. => [.ownRegs]
  | .brakeAssert .. | .thermalSample .. => noted ++ [.pins, .power]
  | .brakeDeassert .. => [.pins, .power]
  | .tripClear .. => noted ++ raised ++ [.outbox, .power]
  | .pllRelock .. =>
    noted ++ raised ++ [.memory, .functions, .descriptors, .arrivals, .model, .spine, .board, .outbox, .resets, .links,
      .translation, .clocks, .ethernet]
  | .capTimeMatch .. | .colophonIn .. => raised ++ [.counters]
  | .colophonOutRelease .. => [.pins]
  | .markerArrival .. => noted ++ [.outbox, .links, .captures]
  | .channelTimeout .. => noted ++ [.captures]
  | .packageTimeSync .. => [.time]
  | .ptpSyncLoss .. => noted ++ [.time]

end Sys2Proof.Machine
end

