-- ==== Sys2Proof/Certificates/Slice0/Obligations.lean ====
section
/-!
DEFINITION. The statements for the provers. Every statement holds for every state unless its premises say otherwise; where a
statement's docstring says that it is the model's choice, the log entry named there says which.
-/

open Sys2Proof
open Sys2Proof.Machine

/-! ### Registers, interrupts and resets (chapters 2 and 16) -/

/-- A write of an interrupt register of a page that takes writes, by its row: INT_RAW clears the bits written as 1 and INT_SET
sets them on a leaf page, and neither changes a group page's (R46, R48); INT_EN takes the value; 1 written to VALID clears it
with FE_TIME (R53). A message for a masked vector sets its pending bit instead; unmasking sends what is pending (R60). -/
def Obligations.InterruptsAreRegisteredAndSent : Prop :=
  (∀ (s : State) (f off o : Nat) (p : Page) (v : Word), s.canonical → s.hostReady → f < s.fns.length → (s.fn f).flr = false →
      s.cutOff f off = false → s.target f off = .page p o → s.takes p → (f = 0 ∨ p.kind ≠ .fnState) →
      (o = 0x10 → Completes (.intRawClear f off v) s fun t =>
        t.word p.home 0x10 = if p.kind.isGroup then s.word p.home 0x10 else s.word p.home 0x10 &&& (~~~v).setWidth 64) ∧
      (o = 0x14 → Completes (.intEnWrite f off v) s fun t => t.word p.home 0x14 = v.setWidth 64) ∧
      (o = 0x1C → Completes (.intSet f off v) s fun t =>
        t.word p.home 0x10 = if p.kind.isGroup then s.word p.home 0x10 else s.word p.home 0x10 ||| v.setWidth 64) ∧
      (o = 0x40 → Completes (.feStatusClear f off) s fun t => (t.word p 0x40).getLsbD 31 = false ∧ t.word p 0x48 = 0)) ∧
  ((∀ (s : State) (k : Nat) (r : IntRequest), s.requests[k]? = some r → r.fn < s.fns.length →
      Completes (.msixMessage k) s fun t =>
        t.requests = s.requests.eraseIdx k ∧
        if (s.msixEntry r.fn r.vector).masked then
          (t.msixEntry r.fn r.vector).pending = true ∧ t.outbox = s.outbox
        else t.outbox = .msix r.fn r.vector (s.msixEntry r.fn r.vector).addr (s.msixEntry r.fn r.vector).data :: s.outbox) ∧
    (∀ (s : State) (f v : Nat), s.hostReady → f < s.fns.length → v < vectorCount f → (s.fn f).flr = false →
      Completes (.msixUnmask f v) s fun t =>
        (t.msixEntry f v).masked = false ∧ (t.msixEntry f v).pending = false ∧
        t.outbox = if (s.msixEntry f v).pending then .msix f v (s.msixEntry f v).addr (s.msixEntry f v).data :: s.outbox
          else s.outbox))

/-- A 4-byte write of a live RW register that has no effect of its own sets the bits that its field table makes writable (R10,
R62), and outside the scheduler and rate-controller pages changes nothing else; a read of an RC counter returns it and clears
it (R11), and leaves its capture total (R645) and every other register. -/
def Obligations.RegistersAreWrittenAndRead : Prop :=
  (∀ (s : State) (f off o : Nat) (p : Page) (r : RegDef) (v : Word64), s.canonical → s.hostReady → f < s.fns.length →
    (s.fn f).flr = false → s.cutOff f off = false → off % 4 = 0 → s.target f off = .page p o → s.takes p → 0x100 ≤ o →
    o < 0x800 → regDefAt p.kind o = some r → r.access = .rw → r.wide = false → p.kind.isWide (o / 8 * 8) = false → r.smask = 0 →
    p.kind ∉ [PageKind.queuePage, .fnState, .rate, .ethPort, .router1, .power, .colophon, .cipherUser, .mailbox, .alram, .quire] →
    s.denied p o (v.toNat % 2 ^ 32 &&& r.wmask) = 0 →
    Completes (.registerWrite f off 4 v false) s fun t => t.word p o = BitVec.ofNat 64 (v.toNat % 2 ^ 32 &&& r.wmask) ∧
      (p.kind ≠ .sched → p.kind ≠ .rateCtl → t = s.setReg p o (v.toNat % 2 ^ 32 &&& r.wmask))) ∧
  (∀ (s : State) (f off k : Nat) (p : Page), s.canonical → s.hostReady → f < s.fns.length → (s.fn f).flr = false →
    s.cutOff f off = false → off % 8 = 0 → k < 128 → s.target f off = .page p (0xC00 + 8 * k) → s.readable p = true →
    p.rcCounter k = true → ¬ (p.kind = .pktBuf ∧ k = Ctr.pktBufPeakOccupancy) →
    ¬ (p.kind = .integrity ∧ k = Ctr.integrityLogHighWater) →
    Completes (.rcRegisterRead f off 8 false) s fun t =>
      t.outbox = .readData f (BitVec.ofNat 64 (s.regValue f p (0xC00 + 8 * k))) :: s.outbox ∧ t.ctr p k = 0 ∧ t.totals = s.totals ∧
        ∀ a, a ≠ p.addr + 0xC00 + 8 * k → FMap.get? t.regs a = FMap.get? s.regs a)

/-- The commands of BLK_CTL with the key 0xC3 on a page whose CMD_BUSY is 0 (R43 to R45): RESET of a die group page begins a
die compute reset, COLOPHON_ARM and COLOPHON_DISARM reach the capture logic of the pages meant, CLEAR_ERRORS their FE_STATUS.
-/
def Obligations.BlockCommandsAct : Prop :=
  ∀ (s : State) (f off : Nat) (p : Page) (ctl : BitVec 11), s.canonical → s.hostReady → f < s.fns.length →
    (s.fn f).flr = false → s.cutOff f off = false → s.target f off = .page p 0x08 → s.takes p → (f = 0 ∨ p.kind ≠ .fnState) →
    bit (s.blkStat p) 26 = false → p.kind ≠ .packageGroup →
    (f = 0 → p.kind = .dieGroup → s.spine.phase ≠ .failed → p.die < s.dies.length →
      Completes (.reset f off 0xC3 ctl) s fun t => (t.die p.die).computeReset = true ∧ (t.die p.die).cmdBusy = true) ∧
    Completes (.colophonArm f off 0xC3 ctl) s (fun t =>
      ∀ q ∈ s.reached p, q.kind.isGroup = false → q.die < s.dies.length → (t.cap q).armed = true) ∧
    Completes (.colophonDisarm f off 0xC3 ctl) s (fun t =>
      ∀ q ∈ s.reached p, q.kind.isGroup = false → q.die < s.dies.length → FMap.wf (s.die q.die).captures = true →
        (t.cap q).armed = false) ∧
    Completes (.clearErrors f off 0xC3 ctl) s (fun t => ∀ q ∈ s.reached p, t.word q 0x40 = 0 ∧ t.word q 0x48 = 0)

/-- Package cold reset (R625, R668) by PERST_N or by the loss of a rail (R674): memory is lost, OTP and flash stay. PERST_N
deasserted with STRAP_TEST low starts the boot ROM and the link trains (R626, R667). -/
def Obligations.ColdResetAndItsEnd : Prop :=
  ∀ s : State,
    Completes .perstNAssert s (fun t => t.board.perst = true ∧ t.ready = false ∧ t.mem = [] ∧ t.regs = [] ∧
      t.spine.otp = s.spine.otp ∧ t.spine.flash = s.spine.flash ∧ t.spine.slots = s.spine.slots) ∧
    (∀ rail, s.board.perst = false → rail ≠ 0 → Completes (.railFault rail) s fun t => t.board.perst = true ∧
      t.ready = false ∧ t.mem = [] ∧ t.regs = [] ∧ t.spine.otp = s.spine.otp ∧ t.spine.flash = s.spine.flash ∧
      t.spine.slots = s.spine.slots) ∧
    (∀ addr, s.board.perst = true → Completes (.perstNDeassert addr false) s fun t => t.board.perst = false ∧
      t.board.i3cAddr = addr ∧ t.board.strapTest = false ∧ t.spine.phase = .rom ∧ t.board.link.isSome = true) ∧
    (∀ addr, s.board.perst = true → Completes (.perstNDeassert addr true) s fun t => t.board.strapTest = true ∧
      t.spine.phase = s.spine.phase ∧ t.board.link = s.board.link)

/-- The end of a die compute reset clears RESET_ACTIVE and CMD_BUSY together (R675); a forwarding-plane reset empties the
packet lists of the die's router (R289); a Function Level Reset of an OPEN function closes it (R535, R539), and VF Enable
cleared closes every VF (R71). -/
def Obligations.ResetsOfDiesAndFunctions : Prop :=
  ∀ s : State, s.sound →
    (∀ d, d < s.dies.length → (s.die d).cmdBusy = true → (s.die d).clocks.holdsCompute = false →
      Completes (.dieResetRampDownDone d) s fun t => (t.die d).computeReset = false ∧ (t.die d).cmdBusy = false) ∧
    (∀ d, d < s.dies.length → Completes (.forwardingPlaneReset d) s fun t =>
      (t.die d).router.held = [] ∧ (t.die d).router.fifos = List.replicate 9 []) ∧
    (∀ f, f < s.fns.length → s.ready = true → (s.fn f).phase = .opened →
      Completes (.functionLevelReset f) s fun t => (t.fn f).phase = .closing ∧ (t.fn f).flr = true) ∧
    Completes .vfEnableClear s (fun t => ∀ f, 1 ≤ f → f ≤ 16 → (t.fn f).enable = false ∧ (t.fn f).phase ≠ .opened ∧
      (t.fn f).phase ≠ .opening)


/-! ### The host control path and attestation (chapters 3 and 15) -/

/-- A failed host-memory read for a queue stops that queue and no other (R74) and is reported by its kind (R73); a poisoned
write to a BAR is dropped and reported, and a poisoned read request is completed with Unsupported Request (R75). -/
def Obligations.HostErrorsAreReported : Prop :=
  (∀ (s : State) (f q : Nat) (x : Queue) (i : Word) (c : HostReadFault), f < s.fns.length → q < 65536 →
    s.queue f q = some x → x.state ≠ .error → (s.fn f).routes = [] →
    Completes (.hostReadError f q i c) s fun t =>
      t.queue f q = some { x with state := .error, cause := 4, detail := 0, errIndex := i, slots := [], fetching := [], stale := none } ∧
      t.exec? f q i = none ∧ (∀ g r, r < 65536 → (g, r) ≠ (f, q) → t.queue g r = s.queue g r) ∧
      t.outbox = (match c with
        | .poisoned => [Output.aer f .poisonedTlp]
        | .timeout => [Output.aer f .completionTimeout]
        | .errorCompletion => []) ++ s.outbox) ∧
  (∀ (s : State) (f : Nat), s.board.link.isSome = true → f < s.fns.length →
    exec (.poisonedBarWrite f false) s = .next { s with outbox := .aer f .poisonedTlp :: s.outbox } ∧
    exec (.poisonedBarWrite f true) s = .next { s with outbox := .unsupported f :: s.outbox })

/-- The SPDM 1.2 subset of R575 and the measurements of R576, and ERROR UnsupportedRequest for every other request; a request
to sign before the ExtAsym entry is selected is answered with the latter, by the model's choice (notes/assumptions/22.md). DOE
Discovery names the object types and an object outside them or above 1,024 DWORDs sets DOE Error (R77, R78); what Discovery
answers beyond index 1, and that DOE Abort clears DOE Error, are the model's choice (notes/assumptions/23.md). -/
def Obligations.TheDoeMailboxIsAnswered : Prop :=
  ∀ s : State, s.ready = true →
    (Completes .getVersion s fun t => t.outbox = .spdm (.version [(1, 2)]) :: s.outbox) ∧
    (Completes .getCapabilities s fun t => t.outbox = .spdm (.capabilities 15 true true true) :: s.outbox) ∧
    (∀ a b, Completes (.negotiateAlgorithms a b) s fun t =>
      t.board.extAsym = (a && b) ∧ t.outbox = .spdm (.algorithms a b) :: s.outbox) ∧
    (Completes .getDigests s fun t => t.outbox = .spdm (.digests 1 (sha384 s.spine.certs)) :: s.outbox) ∧
    (∀ o n, o + n ≤ s.spine.certs.length → Completes (.getCertificate 0 o n) s fun t =>
      t.outbox = .spdm (.certificate 0 (slice s.spine.certs o n) (s.spine.certs.length - (o + n))) :: s.outbox) ∧
    (∀ n, s.board.extAsym = true → Completes (.challenge 0 n) s fun t => ∃ nonce sig,
      nonce.length = 32 ∧ t.outbox = .spdm (.challengeAuth 0 (sha384 s.spine.certs) nonce sig) :: s.outbox) ∧
    (∀ i n, 1 ≤ i → i ≤ 6 → Completes (.getMeasurements i false n) s fun t => ∃ kind value nonce,
      (i, kind, value) ∈ s.measurements ∧ t.outbox = .spdm (.measurements 6 [(i, kind, value)] nonce none) :: s.outbox) ∧
    (∀ n, s.board.extAsym = true → Completes (.getMeasurements 0xFF true n) s fun t => ∃ nonce sig,
      t.outbox = .spdm (.measurements 6 s.measurements nonce (some sig)) :: s.outbox) ∧
    (∀ c, Completes (.spdmUnsupportedRequest c) s fun t => t.outbox = .spdm .unsupportedRequest :: s.outbox) ∧
    (∀ i, Completes (.doeDiscovery i) s fun t => t.outbox = (if i = 0 then Output.doeDiscovery 1 0 1
      else if i = 1 then .doeDiscovery 1 1 0 else .doeDiscovery 0xFFFF 0 0) :: s.outbox) ∧
    (∀ v o n, Completes (.doeUnsupportedObject v o n) s fun t =>
      t.board.doeError = (s.board.doeError || !(v == 1 && decide (o ≤ 1) && decide (n ≤ 1024))) ∧ t.outbox = s.outbox) ∧
    Completes .doeAbort s fun t => t.board.doeError = false ∧ t.outbox = s.outbox

/-! ### Queues (chapters 3 and 4) -/

/-- A doorbell write of 4 bytes at 8 times the queue's number reaches the queue's manager in order (R80, R82), as does an
Alram doorbell of the function that its port is bound to (R256); any other write is dropped and counted (R68). At the manager
a submission queue's tail, or an arrival queue's head, becomes the value where it is legal (R84, R111); a queue that is not
RUNNING records it (R134). -/
def Obligations.DoorbellsReachTheirQueues : Prop :=
  (∀ (s : State) (f off size : Nat) (v : Word), s.hostReady → f < s.fns.length →
    Completes (.doorbellWrite f off size v) s fun t =>
      if size = 4 ∧ off % 8 = 0 ∧ off < 524288 ∧ (s.fn f).phase = .opened ∧ (s.queue f (off / 8)).isSome = true then
        t.doorbells = s.doorbells ++ [⟨f, off / 8, v⟩]
      else t.doorbells = s.doorbells ∧ (FMap.wf s.regs = true → FMap.wf s.totals = true →
        Counted pciePage Ctr.pcieDoorbellDrops 1 s t)) ∧
  (∀ (s : State) (f q : Nat) (b : Doorbell) (x : Queue), f < s.fns.length → q < 65536 →
    s.doorbells.find? (fun b => b.fn == f && b.q == q) = some b → s.queue f q = some x →
    Completes (.doorbellAdmission f q) s fun t => t.doorbells = s.doorbells.erase b ∧
      (x.state = .running → x.arrival = false → (b.index - x.head).toNat ≤ 2 ^ x.log2 →
        (x.tail - x.head).toNat ≤ (b.index - x.head).toNat → t.queue f q = some { x with tail := b.index }) ∧
      (x.state = .running → x.arrival = true → (b.index - x.head).toNat ≤ (x.tail - x.head).toNat →
        (t.queue f q).map Queue.head = some b.index) ∧
      (x.state ≠ .running → t.queue f q = some { x with recorded := some b.index })) ∧
  (∀ (s : State) (d k : Nat) (p : Packet) (x : Queue), s.canonical → d < s.dies.length → k < 2 → alramBad p false = false →
    s.alramBound d k p = true → s.queue (s.portPartition d k) (aTag p) = some x → x.isLocal = true → x.owner = d →
    Completes (.alramDoorbell d k p) s fun t =>
      t.doorbells = s.doorbells ++ [⟨s.portPartition d k, aTag p, BitVec.ofNat 32 (aArg p)⟩])

/-- A ledger channel issues its oldest write, then that write's message (R90, R98); a FLUSH read-back is issued once, on the
PCI Express path only behind an empty channel (R92, R93), and when the last one returns the completion may be written (R92),
with FLUSH_FAILED where it failed (R95). -/
def Obligations.LedgersAndReadBacks : Prop :=
  (∀ (s : State) (f c : Nat) (w : HostWrite) (ws : List HostWrite), f < s.fns.length → (s.fn f).ledgers[c]? = some (w :: ws) →
    w.logged = false → w.vector = none → w.data ≠ [] → Completes (.ledgerIssue f c) s fun t =>
      (t.fn f).ledgers[c]? = some ws ∧ t.outbox = .hostWrite f w.addr w.data :: s.outbox) ∧
  (∀ (s : State) (f q : Nat) (i : Word) (e : Exec) (x : Queue) (a : Word64), f < s.fns.length → s.exec? f q i = some e →
    s.queue f q = some x → e.phase = .flushing → e.readBacks = [⟨.pcie, a, false⟩] →
    (∀ c, x.ledger = some c → (s.fn f).ledgers[c]? = some []) →
    Completes (.readBack f q i) s fun t => t.outbox = .hostRead f a 64 :: s.outbox ∧
      (t.exec? f q i).map Exec.readBacks = some [⟨.pcie, a, true⟩]) ∧
  (∀ (s : State) (f q : Nat) (i : Word) (e : Exec) (r : ReadBack), f < s.fns.length → s.exec? f q i = some e →
    e.phase = .flushing → e.readBacks = [r] → r.issued = true →
    (Completes (.readBackReturn f q i true) s fun t =>
      t.exec? f q i = some { e with phase := .finished, readBacks := [] }) ∧
    (Completes (.readBackReturn f q i false) s fun t =>
      t.exec? f q i = some { e with phase := .finished, status := stFlushFailed, detail := 0, readBacks := [] }))

/-- The queue manager fetches the lowest slot not yet fetched of at most 32 ahead (R123), keeps what returns by the generation
and form that it reads (R125), and refetches a stale slot up to 8 times (R126). -/
def Obligations.DescriptorsAreFetched : Prop :=
  ∀ (s : State) (f q : Nat) (x : Queue), f < s.fns.length → q < 65536 → s.queue f q = some x → x.arrival = false →
    x.isLocal = false → x.state = .running → (s.fn f).phase = .opened →
    (∀ i, x.fetchIndex = some i → Completes (.descriptorFetch f q) s fun t =>
      t.outbox = .hostRead f (x.base + BitVec.ofNat 64 (ringOffset x.log2 i)) 64 :: s.outbox ∧
      t.queue f q = some { x with fetching := x.fetching ++ [i], slots := x.slots.filter fun u => u.index != i }) ∧
    (∀ i bs, x.fetching.contains i = true → bs.length = 64 → judge x i bs = .current → i ≠ x.next → x.stale = none →
      x.slots = [] → Completes (.descriptorFetchReturn f q i bs) s fun t =>
        t.queue f q = some { x with fetching := x.fetching.erase i, slots := [⟨i, bs, .current⟩] }) ∧
    (∀ r, x.stale = some r → r.issued < 8 → Completes (.staleRefetch f q (r.issued + 1)) s fun t =>
      t.outbox = .hostRead f (x.base + BitVec.ofNat 64 (ringOffset x.log2 r.index)) 64 :: s.outbox ∧
      t.queue f q = some { x with stale := some { r with issued := r.issued + 1 }, fetching := x.fetching ++ [r.index] })

/-- A finished descriptor's completion on a queue bound to a ledger channel is written to its slot through that channel (R90,
R115, R116) and head passes every index completed in a row (R109); an arrival entry is written at tail where there is space
(R118), and one held past its wait is dropped, the next entry carrying LOST (R121). -/
def Obligations.CompletionsAndArrivalsAreWritten : Prop :=
  (∀ (s : State) (f q : Nat) (i : Word) (e : Exec) (x : Queue) (c : Nat), f < s.fns.length → q < 65536 →
    s.exec? f q i = some e → s.queue f q = some x → e.phase = .finished → x.isLocal = false → x.ledger = some c → c < 4 →
    (s.fn f).ledgers.length = 4 → dIrq e.desc = false → Completes (.completionWrite f q i) s fun t =>
      t.exec? f q i = none ∧ (t.queue f q).map Queue.head = some (headAfter 65536 x.head (i :: x.done)) ∧
      (t.fn f).ledgers[c]? = some (((s.fn f).ledgers[c]?).getD [] ++
        [⟨x.base + BitVec.ofNat 64 (ringOffset x.log2 i + 4), (completionBytes e (s.time x.owner)).drop 4, none, true⟩,
          ⟨x.base + BitVec.ofNat 64 (ringOffset x.log2 i), (completionBytes e (s.time x.owner)).take 4, none, true⟩])) ∧
  (∀ (s : State) (f q d : Nat) (e : ArrivalEntry) (x : Queue), f < s.fns.length → q < 65536 → s.queue f q = some x →
    x.arrival = true → x.isLocal = false → x.state = .running → x.held = none → x.hasSpace = true →
    s.arrivals.find? (fun a => a.2.1 == f && a.2.2.1 == q) = some (d, f, q, e) → Completes (.arrivalEntryWrite f q) s fun t =>
      t.arrivals = s.arrivals.erase (d, f, q, e) ∧
      (t.queue f q).map (fun y => (y.tail, y.lost, y.dropping)) = some (x.tail + 1, false, false)) ∧
  (∀ (s : State) (f q : Nat) (e : ArrivalEntry) (x : Queue), f < s.fns.length → q < 65536 → s.queue f q = some x →
    x.held = some e → x.hasSpace = false → x.wait ≠ 0xFFFF → Completes (.arrivalWaitExpiry f q) s fun t =>
      t.queue f q = some { x with held := none, dropping := true, lost := true })

/-- DISABLE stops a RUNNING queue, which is DISABLED once nothing executes (R133); ENABLE starts an ERROR or DISABLED one at
its published head (R133, R134); a read of STOP_FIFO takes the oldest record (R142); ADMIN_CTL creates the admin queue and,
when it is idle, removes it (R137, R141). -/
def Obligations.QueuesStopAndStart : Prop :=
  ∀ (s : State) (f : Nat), s.canonical → s.hostReady → f < s.fns.length →
    (∀ d q x (v : Word), d < s.dies.length → s.takes (queuePage d f) → s.queue f q = some x → 0 < q → q < 65536 →
      v.toNat % 65536 = q → x.owner = d → (s.fn f).service = false →
      (x.state = .running → Completes (.queueDisable f d v) s fun t => t.queue f q =
        some { x with state := .disabling, slots := [], fetching := [], stale := none }) ∧
      (x.state = .error ∨ x.state = .disabled → s.executing f q = false → x.recorded = none →
        Completes (.queueEnable f d v) s fun t => t.queue f q = some { x with
          state := .running, next := x.head, slots := [], fetching := [], done := [], stale := none, cause := 0, detail := 0,
          errIndex := 0 })) ∧
    (∀ q x, s.queue f q = some x → x.state = .disabling → s.executing f q = false →
      Completes (.queueDisabled f q) s fun t => t.queue f q = some { x with state := .disabled }) ∧
    (∀ d r rs, d < s.dies.length → s.answers d = true → s.readable (queuePage d f) = true →
      FMap.get? s.stops (queuePage d f).addr = some (r :: rs) → s.stopsLost = [] → FMap.wf s.stops = true →
      Completes (.stopFifoRead f d) s fun t => (FMap.get? t.stops (queuePage d f).addr).getD [] = rs ∧
        t.outbox = .readData f (BitVec.ofNat 64 (2 ^ 31 + r.toNat)) :: s.outbox) ∧
    (∀ n, 4 ≤ n → n ≤ 8 → s.takes (queuePage 0 f) → bit (s.reg (queuePage 0 f) 0x108) 31 = false →
      Completes (.adminQueueEnable f (BitVec.ofNat 32 (2 ^ 31 + n * 65536))) s fun t => t.queue f 0 = some
        { arrival := false, isLocal := false, owner := 0, ledger := none, log2 := n
          base := s.word (queuePage 0 f) 0x100, vector := 0, intEn := false, wait := 0xFFFF }) ∧
    (∀ x, s.takes (queuePage 0 f) → s.queue f 0 = some x → x.head = x.tail → s.executing f 0 = false → FMap.wf s.queues = true →
      Completes (.adminQueueDisable f 0) s fun t => t.queue f 0 = none ∧ bit (t.reg (queuePage 0 f) 0x108) 31 = false)

/-- What an admin entry that is next to begin does: CREATE_QUEUE makes the queue that its arguments describe and refuses a
local queue bound to a ledger channel (R91, R148), DESTROY_QUEUE removes an idle one (R149), SET_ARRIVAL_ROUTE routes an
arrival type (R120), SET_FUNCTION_MODE sets service mode (R136). -/
def Obligations.QueueAdminCommands : Prop :=
  ∀ (s : State) (f : Nat) (x : Queue) (u : Slot), s.canonical → f < s.fns.length → s.begins f 0 x u →
    (∀ q owner n : Nat, dOpcode u.bytes = 0x01 → q = bits (arg1 u.bytes) 15 0 → owner = bits (arg1 u.bytes) 18 16 →
      n = bits (arg1 u.bytes) 24 20 → 0 < q → 4 ≤ n → n ≤ 16 → owner < s.dies.length →
      bits (arg1 u.bytes) 42 32 < vectorCount f → s.queue f q = none → arg0 u.bytes % min 4096 (64 * 2 ^ n) = 0 →
      if bit (arg1 u.bytes) 26 = true then bit (arg1 u.bytes) 27 = true → Completes (.createQueue f) s fun t =>
        t.ended f 0 u.index stLedgerNotHost 0 0 ∧ t.queue f q = none
      else s.queueCount f < s.share f 65536 Fn.queues → Completes (.createQueue f) s fun t =>
        t.ended f 0 u.index stSuccess 0 0 ∧ t.queue f q = some
          { arrival := bit (arg1 u.bytes) 25, isLocal := false, owner := owner,
            ledger := if bit (arg1 u.bytes) 27 then some (bits (arg1 u.bytes) 29 28) else none, log2 := n,
            base := BitVec.ofNat 64 (arg0 u.bytes), vector := bits (arg1 u.bytes) 42 32, intEn := bit (arg1 u.bytes) 43,
            wait := bits (arg2 u.bytes) 15 0 }) ∧
    (∀ q y, dOpcode u.bytes = 0x02 → q = bits (arg1 u.bytes) 15 0 → 0 < q → s.queue f q = some y → y.state = .disabled →
      y.receipts = [] → FMap.wf s.queues = true → Completes (.destroyQueue f) s fun t =>
        t.ended f 0 u.index stSuccess 0 0 ∧ t.queue f q = none) ∧
    (∀ k q y, dOpcode u.bytes = 0x03 → k = bits (arg1 u.bytes) 7 0 → q = bits (arg1 u.bytes) 31 16 → 3 ≤ k → k ≤ 7 → 0 < q →
      s.queue f q = some y → y.arrival = true → Completes (.setArrivalRoute f) s fun t =>
        t.ended f 0 u.index stSuccess 0 0 ∧ FMap.get? (t.fn f).routes k = some q) ∧
    (∀ g, dOpcode u.bytes = 0x08 → f = 0 → g = bits (arg1 u.bytes) 4 0 → g ≤ 16 → g < s.fns.length → s.fnBusy g = false →
      Completes (.setFunctionMode f) s fun t =>
        t.ended f 0 u.index stSuccess 0 0 ∧ (t.fn g).service = bit (arg1 u.bytes) 8)

/-- CREATE_QP takes the lowest free queue-pair number of the die that owns its feeding queue and starts in INIT with the next
SEND_EPOCH of its key (R157, R158, R206); DESTROY_QP leaves the number ABSENT (R161). -/
def Obligations.QueuePairsAreCreatedAndDestroyed : Prop :=
  ∀ (s : State) (f : Nat) (x : Queue) (u : Slot), s.canonical → f < s.fns.length → s.begins f 0 x u →
    (∀ (sq aq win slots slot key k : Nat) (gcm : Bool) (base : Nat) (y : Queue), dOpcode u.bytes = 0x10 →
      sq = bits (arg1 u.bytes) 15 0 → aq = bits (arg1 u.bytes) 31 16 → gcm = bit (arg1 u.bytes) 35 →
      win = bits (arg1 u.bytes) 39 36 → slots = bits (arg2 u.bytes) 12 0 → slot = bits (arg2 u.bytes) 20 16 →
      key = bits (arg3 u.bytes) 15 0 → base = arg0 u.bytes → 0 < sq → s.queue f sq = some y → y.arrival = false →
      (aq = 0 ∨ ∃ z, s.queue f aq = some z ∧ z.arrival = true ∧ z.owner = y.owner) → 6 ≤ win → win ≤ 12 →
      (slots = 0 ∧ base = 0 ∨ (∃ j, j ≤ 12 ∧ slots = 2 ^ j) ∧ 12 ≤ slot ∧ slot ≤ 20 ∧ base % 2 ^ slot = 0 ∧
        s.hasEndpoint y.owner = true ∧ base / 2 ^ 46 = s.endpoint y.owner ∧
        s.mapped y.owner f (base % 2 ^ 46) (slots * 2 ^ slot) = true) →
      (if gcm then (s.keySlot f key).isSome = true ∧ s.keyCounter f key y.owner < 2 ^ 22 else key = 0) →
      (List.range s.part.qpsPerDie).find? (fun k => (s.qp (y.owner * s.part.qpsPerDie + k)).isNone) = some k →
      s.qpCount f < s.share f 262144 Fn.qps →
      Completes (.createQp f) s fun t => ∃ e, (gcm = true → e = s.keyCounter f key y.owner) ∧ (gcm = false → e = 0) ∧
        t.ended f 0 u.index stSuccess (y.owner * s.part.qpsPerDie + k) e ∧
        t.qp (y.owner * s.part.qpsPerDie + k) = some
          { fn := f, sq := sq, aq := aq, tclass := bits (arg1 u.bytes) 34 32, gcm := gcm, key := key, log2Win := win
            recvBase := BitVec.ofNat 64 base, recvSlots := slots, log2Slot := slot, epoch := e, state := .init }) ∧
    (∀ n y, dOpcode u.bytes = 0x12 → n = bits (arg1 u.bytes) 17 0 → s.qp n = some y → y.fn = f →
      s.qpOutstanding n y = false → y.sq ≠ 0 → FMap.wf s.qps = true →
      Completes (.destroyQp f) s fun t => t.ended f 0 u.index stSuccess 0 0 ∧ t.qp n = none)

/-- MODIFY_QP of each OP, in a state from which R160 allows it, and the state it leads to (R159, R160). -/
def Obligations.QueuePairsAreModified : Prop :=
  ∀ (s : State) (f n : Nat) (x : Queue) (u : Slot) (y : Qp), s.canonical → f < s.fns.length → s.begins f 0 x u → dOpcode u.bytes = 0x11 →
    n = bits (arg1 u.bytes) 17 0 → s.qp n = some y → y.fn = f → y.sq ≠ 0 →
    (modifyOp u.bytes = 1 → y.state = .init → Completes (.toRtr f) s fun t => t.ended f 0 u.index stSuccess 3 0 ∧
      t.qp n = some { y with
        state := .rtr, peer := bits (arg2 u.bytes) 17 0, peerQp := bits (arg2 u.bytes) 35 18
        peerPart := bits (arg2 u.bytes) 39 36, peerMgr := bit (arg2 u.bytes) 40, rcvNxt := BitVec.ofNat 32 (arg3 u.bytes)
        peerEpoch := bits (arg3 u.bytes) 53 32, rcvMsg := 0 }) ∧
    (modifyOp u.bytes = 2 → y.state = .rtr → Completes (.toRts f) s fun t => t.ended f 0 u.index stSuccess 4 0 ∧
      (t.qp n).map (fun z => (z.state, z.sndUna, z.sndNxt, z.sndMsg, z.retryLimit, z.reorder)) =
        some (.rts, BitVec.ofNat 32 (arg3 u.bytes), BitVec.ofNat 32 (arg3 u.bytes), 0,
          if bits (arg4 u.bytes) 3 0 = 0 then 7 else bits (arg4 u.bytes) 3 0,
          if bits (arg4 u.bytes) 7 4 = 0 then 3 else bits (arg4 u.bytes) 7 4)) ∧
    (modifyOp u.bytes = 3 → y.state ≠ .error → Completes (.toError f) s fun t => t.ended f 0 u.index stSuccess 6 0 ∧
      (t.qp n).map (fun z => (z.state, z.ops, z.sent)) = some (.error, [], []) ∧
      ∀ o ∈ y.ops, ∀ e, s.exec? f y.sq o.index = some e → o.readBack = false →
        (y.ops.filter fun p => p.index == o.index) = [o] → e.phase = .running →
        (t.exec? f y.sq o.index).map (fun e => (e.phase, e.status)) = some (.finished, stQpError)) ∧
    (modifyOp u.bytes = 4 → y.state = .error → s.qpOutstanding n y = false →
      (y.gcm = true → s.keyCounter f y.key (s.qpDie n) < 2 ^ 22) → Completes (.toInit f) s fun t => ∃ e,
        e = (if y.gcm then s.keyCounter f y.key (s.qpDie n) else 0) ∧ t.ended f 0 u.index stSuccess 2 e ∧
        t.qp n = some { fn := y.fn, sq := y.sq, aq := y.aq, tclass := y.tclass, gcm := y.gcm, key := y.key
                        log2Win := y.log2Win, recvBase := y.recvBase, recvSlots := y.recvSlots, log2Slot := y.log2Slot
                        epoch := e, state := .init }) ∧
    (modifyOp u.bytes = 5 → y.state = .rts ∨ y.state = .faultWait → Completes (.setLimits f) s fun t =>
      t.ended f 0 u.index stSuccess y.state.code 0 ∧
      t.qp n = some { y with retryLimit := (limitsOf (arg4 u.bytes)).1, reorder := (limitsOf (arg4 u.bytes)).2 })

/-- LOAD_RECIPE reads its bundle, checks it and gives it a handle, and UNLOAD_RECIPE frees one that nothing uses (R404 to
R406); LOAD_TABLE checks a table whole and loads it into the Reckoner or die that its instance names (R380, R429, R519). -/
def Obligations.RecipesAndTablesAreLoaded : Prop :=
  ∀ (s : State) (f : Nat) (x : Queue) (u : Slot), s.canonical → f < s.fns.length → s.begins f 0 x u →
    (∀ n h bundle, dOpcode u.bytes = 0x18 → n = bits (arg1 u.bytes) 31 0 → n ≤ 1048576 → bundle.length = n →
      bundleOk bundle = true → lowestBelow 128 (fun h => (FMap.get? s.recipes h).isNone) = some h →
      s.handleCount f < s.share f 128 Fn.handles → Completes (.loadRecipe f bundle) s fun t =>
        t.ended f 0 u.index stSuccess h 0 ∧ FMap.get? t.recipes h = some { fn := f, bundle := bundle, dies := s.dieList } ∧
        t.outbox = .hostRead f (BitVec.ofNat 64 (arg0 u.bytes)) n :: s.outbox) ∧
    (∀ h, dOpcode u.bytes = 0x19 → h = bits (arg1 u.bytes) 15 0 → (FMap.get? s.recipes h).map Recipe.fn = some f →
      (∀ k ∈ s.reckList, (s.runAt (k / 5) (k % 5)).map Run.handle ≠ some h) → s.handleWaits h = false →
      FMap.wf s.recipes = true → Completes (.unloadRecipe f) s fun t =>
        t.ended f 0 u.index stSuccess 0 0 ∧ FMap.get? t.recipes h = none) ∧
    (∀ table inst k, dOpcode u.bytes = 0x1A → bits (arg1 u.bytes) 63 32 = table.length → inst = bits (arg1 u.bytes) 15 8 →
      inst < 40 → s.namedReckoner f inst = some k → s.runAt (k / 5) (k % 5) = none → k / 5 < s.dies.length → k % 5 < 5 →
      (bits (arg1 u.bytes) 7 0 = 0x10 → table.length = 32 → (∀ j < 8, slotValid (le table (4 * j) 4) = true) →
        Completes (.formatTable f table) s fun t => t.ended f 0 u.index stSuccess 0 0 ∧
          ∀ j < 8, t.reg ⟨k / 5, .format, k % 5⟩ (0x100 + 4 * j) = le table (4 * j) 4) ∧
      (bits (arg1 u.bytes) 7 0 = 0x11 → table.length = 1024 → (s.die (k / 5)).recks.length = 5 →
        (∀ e ∈ pieces 64 table, bits (le e 0 4) 1 0 ≠ 0 → seqOk (s.endpoint (k / 5)) e = true ∧
          (le e 0x28 2 = 0 ∨ (s.keySlot f (le e 0x28 2)).isSome = true)) →
        Completes (.sequenceTable f table) s fun t => t.ended f 0 u.index stSuccess 0 0 ∧
          (t.reck (k / 5) (k % 5)).seqs = (pieces 64 table).map fun e => if bits (le e 0 4) 1 0 = 0 then {} else seqOf e)) ∧
    (∀ table inst, dOpcode u.bytes = 0x1A → bits (arg1 u.bytes) 7 0 = 0x20 → bits (arg1 u.bytes) 63 32 = table.length →
      table.length ≤ 1048576 → inst = bits (arg1 u.bytes) 15 8 → f = 0 → inst / 32 < s.dies.length →
      s.collationOk (inst / 32) table = true → (collationOf table).ranges ≠ [] → Completes (.collationTable f table) s fun t =>
        t.ended f 0 u.index stSuccess 0 0 ∧
        FMap.get? (t.die (inst / 32)).integ.collations (inst % 32) = some (collationOf table))

/-- The PF's commands over translation: INVALIDATE_RANGE starts on every die (R342, R343), RESOLVE_FAULT frees the record that
it names (R353), SET_PAGE_TABLE_ROOT sets a root in memory that the PF holds (R330, R331). -/
def Obligations.TranslationAdminCommands : Prop :=
  ∀ (s : State) (x : Queue) (u : Slot), s.canonical → 0 < s.fns.length → s.begins 0 0 x u →
    (∀ base len g, dOpcode u.bytes = 0x20 → base = arg0 u.bytes → len = arg1 u.bytes → g = bits (arg2 u.bytes) 4 0 → 0 < len →
      base + len ≤ 2 ^ 46 → g ≤ 16 → (∃ d, d < s.dies.length ∧ s.idleEngines d ≠ allEngines) →
      Completes (.invalidateRange 0) s fun t =>
        (t.exec? 0 0 u.index).map Exec.phase = some .running ∧ ∀ d < s.dies.length, (t.die d).xlate.inval =
          some { fn := g, base := base, len := len, points := s.idleEngines d, acked := s.idleEngines d }) ∧
    (∀ n d r, dOpcode u.bytes = 0x21 → n = bits (arg1 u.bytes) 11 0 → d = bits (arg1 u.bytes) 18 16 → d < s.dies.length →
      FMap.get? (s.die d).xlate.faults n = some r → r.tx = [] → r.rx = [] → (∀ e ∈ s.execs, e.paused ≠ some (d, r.key)) →
      s.runsPaused d r.fn r.key = [] → s.collPaused d r.fn r.key = [] → (s.die d).xlate.waiting = [] →
      FMap.wf (s.die d).xlate.faults = true → Completes (.resolveFault 0) s fun t =>
        t.ended 0 0 u.index stSuccess 0 0 ∧ FMap.get? (t.die d).xlate.faults n = none) ∧
    (∀ d g root, dOpcode u.bytes = 0x22 → root = gaOffset (BitVec.ofNat 64 (arg0 u.bytes)) →
      s.dieOf (gaEndpoint (BitVec.ofNat 64 (arg0 u.bytes))) = some d → g = bits (arg2 u.bytes) 4 0 → g ≤ 16 → 0 < root →
      root % 32768 = 0 → root < 3 * 2 ^ 36 → inDeviceRegion s.part root 32768 = false → s.owns d 0 root 32768 = true →
      d < s.dies.length → (∀ r ∈ (s.die d).xlate.faults, r.2.fn ≠ g) → (s.die d).xlate.waiting = [] →
      Completes (.setPageTableRoot 0) s fun t =>
        t.ended 0 0 u.index stSuccess 0 0 ∧ FMap.get? (t.die d).xlate.roots g = some root)

/-- The PF's commands over partitions and groups: RESIZE_PARTITION puts a whole record in force for a partition that holds
nothing (R530 to R532), DESTROY_PARTITION takes everything from a quiesced one (R543), CREATE_GROUP installs a group on every
die that its table names (R441), REFORM_GROUP replaces it with the next generation (R443), DESTROY_GROUP removes it (R444). -/
def Obligations.PartitionAndGroupAdminCommands : Prop :=
  ∀ (s : State) (x : Queue) (u : Slot), s.sound → s.begins 0 0 x u →
    (∀ p n t, dOpcode u.bytes = 0x30 → p = bits (arg2 u.bytes) 4 0 → n = s.dies.length → t.length = le t 0x14 4 →
      recordOk n t = true → 1 ≤ p → p ≤ 16 → (bits (le t 4 4) 17 16 = 1 → p ≤ bits (le t 4 4) 28 24) → s.holding p =
        { recks := [], granules := [], queues := 0, qps := 0, handles := 0, cap := (s.fn p).cap } →
      (∀ k ∈ (holdingOf n p t).recks, s.rkOwner[k]? = some 0 ∧ (s.reck (k / 5) (k % 5)).retired = false ∧
        s.runAt (k / 5) (k % 5) = none) →
      (∀ g ∈ (holdingOf n p t).granules, FMap.get? s.granules g = none) → s.pfKeeps p (holdingOf n p t) = true →
      s.queueCount p = 0 → s.qpCount p = 0 → s.handleCount p = 0 → Completes (.resizePartition 0 t) s fun t' =>
        t'.ended 0 0 u.index stSuccess 0 0 ∧ (t'.fn p).queues = (holdingOf n p t).queues ∧
        (t'.fn p).qps = (holdingOf n p t).qps ∧ (t'.fn p).handles = (holdingOf n p t).handles ∧
        (t'.fn p).cap = (holdingOf n p t).cap ∧ (∀ k ∈ (holdingOf n p t).recks, t'.rkOwner[k]? = some p) ∧
        ∀ g ∈ (holdingOf n p t).granules, FMap.get? t'.granules g = some p) ∧
    (∀ p, dOpcode u.bytes = 0x31 → p = bits (arg2 u.bytes) 4 0 → 1 ≤ p → p ≤ 16 → s.quiesced p = true →
      (s.fn p).phase = .closed → (s.fn p).queues ≠ 0 → (∀ k ∈ (s.holding p).recks, s.runAt (k / 5) (k % 5) = none) → Completes (.destroyPartition 0) s fun t =>
        t.ended 0 0 u.index stSuccess 0 0 ∧ (t.fn p).queues = 0 ∧ (t.fn p).qps = 0 ∧ (t.fn p).handles = 0 ∧
        p ∉ t.rkOwner ∧ ∀ g ∈ t.granules, g.2 ≠ p) ∧
    (∀ id t, id = bits (arg1 u.bytes) 15 0 → t.length = le t 0x14 4 → groupTableOk t id = true → s.groupsFull t id = false →
      (dOpcode u.bytes = 0x38 → s.holders id = [] → Completes (.createGroup 0 t) s fun t' =>
        t'.ended 0 0 u.index stSuccess (le t 8 2) 0 ∧
        ∀ n ∈ s.namedDies t, (t'.groupOf n.1 id).map Prod.snd = some (groupOfTable t n.2)) ∧
      (dOpcode u.bytes = 0x39 → (∀ d < s.dies.length, FMap.wf (s.die d).groups = true) → s.holders id ≠ [] → (∀ h ∈ s.holders id, ((s.groupOf h id).map fun g => g.2.op) = some none) →
        (∀ h ∈ s.holders id, ((s.groupOf h id).map fun g => (g.2.gen + 1) % 65536) = some (le t 8 2)) →
        Completes (.reformGroup 0 t) s fun t' => t'.ended 0 0 u.index stSuccess (le t 8 2) 0 ∧
          ∀ n ∈ s.namedDies t, (t'.groupOf n.1 id).map Prod.snd = some (groupOfTable t n.2))) ∧
    (∀ id, dOpcode u.bytes = 0x3A → id = bits (arg1 u.bytes) 15 0 → s.holders id ≠ [] →
      (∀ h ∈ s.holders id, ((s.groupOf h id).map fun g => g.2.op) = some none) → Completes (.destroyGroup 0) s fun t =>
        t.ended 0 0 u.index stSuccess 0 0 ∧ t.holders id = [])

/-! ### Descriptors (chapters 4, 5, 9, 11, 12 and 15) -/

/-- A transport descriptor that begins on a queue pair in RTS or FAULT_WAIT joins its outstanding operations with the fields
that its opcode has (R156, R168); on one in INIT, RTR or ERROR it ends with QP_ERROR (R160). -/
def Obligations.TransportDescriptorsJoinTheirQueuePair : Prop :=
  ∀ (s : State) (f q n : Nat) (x : Queue) (u : Slot) (y : Qp) (c : Instr) (op : Nat), s.canonical → f < s.fns.length → q ≠ 0 →
    s.begins f q x u → (c, op) ∈ [(Instr.write f q, 1), (.read f q, 2), (.send f q, 3), (.writeNotify f q, 4),
      (.atomicAdd f q, 5)] → dOpcode u.bytes = op → n = dTarget u.bytes → s.qp n = some y →
    (s.die (s.qpDie n)).tx.fetches.length < 64 →
    (y.state = .rts ∨ y.state = .faultWait → s.transportAddresses (s.qpDie n) y u.bytes = true → Completes c s fun t =>
      (t.exec? f q u.index).map Exec.phase = some .running ∧ (t.qp n).map Qp.ops = some (y.ops ++
        [({ index := u.index, opcode := op, src := dSrc u.bytes, dst := dDst u.bytes, length := dLength u.bytes
            imm := dImm u.bytes, operand := dOperand u.bytes, flush := dFlush u.bytes } : QpOp)])) ∧
    (y.state = .init ∨ y.state = .rtr → Completes c s fun t => t.ended f q u.index stQpError 0 0) ∧
    (y.state = .error → Completes c s fun t => t.ended f q u.index stQpError 0 0)

/-- The copies of R114 and R364: where every access of the copy succeeds, the descriptor ends with SUCCESS and the number of
bytes moved, memory holding what the copy left; with FLUSH a STAGE_OUT first waits for its read-back (R92). NOP ends at once.
-/
def Obligations.CopiesMoveTheirBytes : Prop :=
  ∀ (s : State) (f q d : Nat) (x : Queue) (u : Slot), s.canonical → f < s.fns.length → q ≠ 0 → s.begins f q x u →
    (∀ data m s2, dOpcode u.bytes = 0x10 → s.dieOf (gaEndpoint (dDst u.bytes)) = some d → data.length = dLength u.bytes →
      State.copyIn d f (gaOffset (dDst u.bytes)) data (data.length / 1024 + 4) 0
        (((s.beginSlot f q x u).emit (.hostRead f (dSrc u.bytes) data.length)).onExec f q u.index fun e =>
          { e with data := data }) = (.done m, s2) →
      Completes (.stageIn f q data) s fun t => t.ended f q u.index stSuccess m 0 ∧ t.mem = s2.mem) ∧
    (∀ m s2, dOpcode u.bytes = 0x11 → s.dieOf (gaEndpoint (dSrc u.bytes)) = some d →
      State.copyOut d f (gaOffset (dSrc u.bytes)) x.ledger (dDst u.bytes) (dLength u.bytes) (dLength u.bytes / 1024 + 4) 0
        (s.beginSlot f q x u) = (.done m, s2) → Completes (.stageOut f q) s fun t => t.outbox = s2.outbox ∧
          if dFlush u.bytes = true then (t.exec? f q u.index).map Exec.phase = some .flushing
          else t.ended f q u.index stSuccess m 0) ∧
    (∀ m s2, dOpcode u.bytes = 0x12 → s.copiesOn x.owner < 4 → s.hasEndpoint x.owner = true →
      s.endpoint x.owner = gaEndpoint (dSrc u.bytes) → s.endpoint x.owner = gaEndpoint (dDst u.bytes) →
      State.copyLocal x.owner f (gaOffset (dSrc u.bytes)) (gaOffset (dDst u.bytes)) (dLength u.bytes)
        (dLength u.bytes / 1024 + 4) 0 (s.beginSlot f q x u) = (.done m, s2) →
      Completes (.localCopy f q) s fun t => t.ended f q u.index stSuccess m 0 ∧ t.mem = s2.mem) ∧
    (dOpcode u.bytes = 0x3F → Completes (.nop f q) s fun t => t.ended f q u.index stSuccess 0 0 ∧ t.mem = s.mem)

/-- A copy that ends has moved every byte of its length, and what a write stores is what its bytes say: the byte at each
address of a write within one 4 KiB block, every other byte outside the tallies and poison bits as before (R322, R366, R484).
-/
def Obligations.WritesStoreTheirBytes : Prop :=
  (∀ (s t : State) (d f dst m : Nat) (data : List Byte),
    State.copyIn d f dst data (data.length / 1024 + 4) 0 s = (.done m, t) → m = data.length) ∧
  (∀ (s : State) (d e f off pa : Nat) (bs : List Byte), s.canonical → s.reaches d e f off bs.length true pa → ∃ t,
    s.write d e f off bs = (.ok [], t) ∧ (∀ i < bs.length, t.byte d (pa + i) = bs.getD i 0) ∧
    ∀ d' a, a < 2 ^ 38 → (d' ≠ d ∨ a < pa ∨ pa + bs.length ≤ a) → memOffset a + regionBytes s.part a < 2 ^ 36 →
      t.byte d' a = s.byte d' a)

/-- A RUN_RECIPE whose Reckoners are free and have the formats of its recipe takes every Reckoner that it names; a recipe
without an argument block starts there at once, with the next EPOCH of its handle, and is counted (R422, R423, R434, R493). -/
def Obligations.RecipesStartOnTheirReckoners : Prop :=
  ∀ (s : State) (f q : Nat) (x : Queue) (u : Slot) (p : Recipe), s.canonical → f < s.fns.length → q ≠ 0 → s.begins f q x u →
    dOpcode u.bytes = 0x20 → s.runRefusal f u.bytes = none → s.runWaits f u.bytes = false →
    s.runsOf f q u.index = [] → FMap.get? s.recipes (dTarget u.bytes % 128) = some p →
    (∀ k ∈ s.named f u.bytes, formatsOk p.bundle (s.snapshot p.bundle k.2) = true ∧ k.2 / 5 < s.dies.length ∧
      k.2 % 5 < (s.die (k.2 / 5)).recks.length) → Completes (.runRecipe f q) s fun t =>
      ∀ k ∈ s.named f u.bytes, (t.reck (k.2 / 5) (k.2 % 5)).handle = dTarget u.bytes % 128 ∧
        (t.reck (k.2 / 5) (k.2 % 5)).early = (bRelease p.bundle == 2 || (bRelease p.bundle == 0 && dEarly u.bytes)) ∧
        (bArgs p.bundle = 0 → Counted ⟨k.2 / 5, .recipeCtl, k.2 % 5⟩ Ctr.recipeCtlRecipesRun 1 s t ∧
          (t.reck (k.2 / 5) (k.2 % 5)).epoch (dTarget u.bytes % 128) =
            ((s.reck (k.2 / 5) (k.2 % 5)).epoch (dTarget u.bytes % 128) + 1) % 2 ^ 32)

/-- A collective descriptor of the group's generation and next OP_SEQ, with a good argument block, takes its place: the
group's NEXT_OP_SEQ advances (R447, R448). -/
def Obligations.CollectivesTakeTheirSequence : Prop :=
  ∀ (s : State) (f q e : Nat) (x : Queue) (u : Slot) (g : Group) (args : List Byte) (c : Instr) (op : Nat), s.canonical →
    f < s.fns.length → q ≠ 0 → s.begins f q x u → (c, op) ∈ [(Instr.reduce f q, 0x28), (.broadcast f q, 0x29)] →
    dOpcode u.bytes = op → s.collWaits x.owner u.bytes = false → s.collGroup x.owner u.bytes = some (e, g) → x.owner < s.dies.length →
    FMap.get? (s.die x.owner).groups e = some g → s.hasEndpoint x.owner = true →
    gaEndpoint (dOperand u.bytes) = s.endpoint x.owner →
    s.readsAs x.owner 7 f (gaOffset (dOperand u.bytes)) args → args.length = 32 →
    (collOpOf f q u.index u.bytes g args).badArgs g.isRoot args = false → le u.bytes 0x34 2 = g.gen →
    (collOpOf f q u.index u.bytes g args).seq = g.nextOp →
    (op = 0x28 → gaEndpoint (collOpOf f q u.index u.bytes g args).replay = s.endpoint x.owner ∧
      s.mappedHbm x.owner f (gaOffset (collOpOf f q u.index u.bytes g args).replay)
        (collOpOf f q u.index u.bytes g args).replayLen = true) →
    Completes c s fun t => ∃ h, FMap.get? (t.die x.owner).groups e = some h ∧ h.id = g.id ∧ h.nextOp = g.nextOp + 1

/-- A CIPHER descriptor: where its reads and its writes succeed, its output and tag are those of its MODE under its key, and
it ends with SUCCESS, or with CIPHER_AUTH where a tag or a padding does not verify (R583 to R585). That it reads its input
whole before it writes is the model's choice (notes/assumptions/21.md). -/
def Obligations.CipherDescriptorsEnd : Prop :=
  ∀ (s : State) (f q m : Nat) (x : Queue) (u : Slot) (k : KeySlot) (bs iv tag aad text : List Byte) (s1 s2 : State) (o : CipherOut),
    s.canonical → f < s.fns.length → q ≠ 0 → s.begins f q x u → dOpcode u.bytes = 0x30 → s.cipherHeld x.owner = false →
    s.hasEndpoint x.owner = true → State.cipherFetch x.owner f (cipherReads u.bytes) (s.beginSlot f q x u) =
      (.ok bs, [iv, tag, aad, text], s1) →
    s.cipherKey f u.bytes = some k → k.second.isEmpty ≠ (cMode u.bytes == 1) →
    o = cipherCompute (cMode u.bytes) (cBack u.bytes) k iv tag aad text →
    State.cipherPut x.owner f (dDst u.bytes) (dOperand u.bytes + 16) o.out o.tag ((o.out ++ o.tag).length / 1024 + 8) 0
      (s1.onExec f q u.index fun e => { e with data := o.out ++ o.tag, detail := o.failed }) = (.done m, s2) →
    Completes (.cipher f q) s fun t => t.mem = s2.mem ∧
      if o.failed = 0 then t.ended f q u.index stSuccess o.out.length 0 else t.ended f q u.index stCipherAuth o.out.length 0

/-! ### Packets of transport (chapter 5) -/

/-- Data packets that stand at RCV_NXT and are placed: their bytes are stored, RCV_NXT passes them, and a whole message of
WRITE_NOTIFY or SEND writes its arrival entry (R168, R171, R173, R176). -/
def Obligations.DataPacketsArePlaced : Prop :=
  ∀ (s : State) (d pa : Nat) (p : Packet) (h : BfIn) (x : Qp) (bs : List Byte), s.canonical → s.takesPacket d p h x bs →
    h.psn = x.rcvNxt → x.accepted = [] → x.state ≠ .error →
    (h.op = 1 → gaEndpoint h.addr = s.endpoint d → s.reaches d 6 x.fn (gaOffset h.addr) bs.length true pa →
      Completes (.writePacket d p) s fun t => (t.qp h.dest).map Qp.rcvNxt = some (x.rcvNxt + 1) ∧
        ∀ i < bs.length, t.byte d (pa + i) = bs.getD i 0) ∧
    (h.op = 2 → gaEndpoint h.addr = s.endpoint d → s.reaches d 6 x.fn (gaOffset h.addr) bs.length true pa →
      h.first = true → h.last = true → x.aq ≠ 0 → Completes (.writeNotifyPacket d p) s fun t =>
        (t.qp h.dest).map Qp.rcvNxt = some (x.rcvNxt + 1) ∧ (∀ i < bs.length, t.byte d (pa + i) = bs.getD i 0) ∧
        (d, x.fn, x.aq, { kind := 2, body := messageBody h.dest 0 bs.length h.aux h.addr }) ∈ t.arrivals) ∧
    (h.op = 3 → x.recvSlots ≠ 0 → x.slotsHeld = [] → h.addr.toNat % 2 ^ 32 = 0 → bs.length ≤ 2 ^ x.log2Slot →
      gaEndpoint (x.slotAddr (BitVec.ofNat 32 (h.addr.toNat / 2 ^ 32))) = s.endpoint d →
      s.reaches d 6 x.fn (gaOffset (x.slotAddr (BitVec.ofNat 32 (h.addr.toNat / 2 ^ 32)))) bs.length true pa →
      h.last = true → x.aq ≠ 0 → Completes (.sendPacket d p) s fun t =>
        (t.qp h.dest).map (fun y => (y.rcvNxt, y.rcvMsg, y.slotsHeld)) = some (x.rcvNxt + 1,
          BitVec.ofNat 32 (h.addr.toNat / 2 ^ 32) + 1, [BitVec.ofNat 32 (h.addr.toNat / 2 ^ 32)]) ∧
        (∀ i < bs.length, t.byte d (pa + i) = bs.getD i 0) ∧
        (d, x.fn, x.aq, { kind := 1, body := messageBody h.dest (BitVec.ofNat 32 (h.addr.toNat / 2 ^ 32)) bs.length h.aux
                            (x.slotAddr (BitVec.ofNat 32 (h.addr.toNat / 2 ^ 32))), slot := some (h.dest,
                            BitVec.ofNat 32 (h.addr.toNat / 2 ^ 32)) }) ∈ t.arrivals) ∧
    (h.op = 8 → Completes (.msgAbort d p) s fun t => (t.qp h.dest).map Qp.rcvNxt = some (x.rcvNxt + 1) ∧ t.mem = s.mem)

/-- A READ_REQUEST at RCV_NXT whose source translates owes its responses and uses their PSNs; an ATOMIC_REQUEST adds, and owes
the value before (R168, R176, R191). -/
def Obligations.RequestsAreAccepted : Prop :=
  ∀ (s : State) (d pa : Nat) (p : Packet) (h : BfIn) (x : Qp) (bs : List Byte), s.canonical → s.takesPacket d p h x bs →
    h.psn = x.rcvNxt → x.accepted = [] → x.state ≠ .error → gaEndpoint h.addr = s.endpoint d →
    (h.op = 4 → s.reaches d 5 x.fn (gaOffset h.addr) h.aux.toNat false pa → Completes (.readRequest d p) s fun t =>
      (t.qp h.dest).map (fun y => (y.rcvNxt, y.owed)) = some
        (x.rcvNxt + BitVec.ofNat 32 (segments (BitVec.ofNat 64 (fromBE bs) : Word64).toNat h.aux.toNat), x.owed ++
          [{ psn := h.psn, txCount := h.tx, atomic := false, src := h.addr, dst := BitVec.ofNat 64 (fromBE bs)
             length := h.aux.toNat }])) ∧
    (h.op = 6 → h.addr.toNat % 8 = 0 → s.reaches d 6 x.fn (gaOffset h.addr) 8 true pa → s.poisoned d pa = false →
      Completes (.atomicRequest d p) s fun t =>
        (t.qp h.dest).map (fun y => (y.rcvNxt, y.owed.map OwedReply.value)) = some (x.rcvNxt + 1,
          x.owed.map OwedReply.value ++ [BitVec.ofNat 64 (fromLE (s.bytes d pa 8))]) ∧
        fromLE (t.bytes d pa 8) = (fromLE (s.bytes d pa 8) + fromBE bs) % 2 ^ 64)

/-- A READ_RESPONSE places its data and an ATOMIC_RESPONSE its value, and each acknowledges its PSN (R168). -/
def Obligations.ResponsesAreTaken : Prop :=
  ∀ (s : State) (d pa : Nat) (p : Packet) (h : BfIn) (x : Qp) (bs : List Byte) (r : SentPsn), s.canonical →
    s.takesPacket d p h x bs → x.state = .rts ∨ x.state = .faultWait → r ∈ x.sent → r.psn = h.psn →
    r.acked = false → (∀ o ∈ x.sent, o.psn = h.psn → o = r) → r.flush = false →
    (h.op = 5 → r.kind = .readRequest ∨ r.kind = .readResponse → gaEndpoint h.addr = s.endpoint d →
      s.reaches d 6 x.fn (gaOffset h.addr) bs.length true pa → Completes (.readResponse d p) s fun t =>
        (∀ i < bs.length, t.byte d (pa + i) = bs.getD i 0) ∧
        ∃ y, t.qp h.dest = some y ∧ ∀ o ∈ y.sent, o.psn = h.psn → o.acked = true) ∧
    (h.op = 7 → r.kind = .atomic → Completes (.atomicResponse d p) s fun t =>
      ∃ y, t.qp h.dest = some y ∧ (∀ o ∈ y.sent, o.psn = h.psn → o.acked = true) ∧
        ∀ o ∈ y.ops, o.index = r.op → o.readBack = false → o.value = BitVec.ofNat 64 (fromBE bs))

/-- An ACK acknowledges every data packet before its PSN (R181). A NAK RNR counts as an expiry for its PSN and doubles the
RTO, NAK FAULT_WAIT puts the queue pair in FAULT_WAIT, NAK POISONED and TALLY_FAILED answer their request, and NAK
ACCESS_DENIED, QP_ERROR and INVALID_REQUEST put the queue pair in ERROR (R187, R190). -/
def Obligations.AcknowledgementsAct : Prop :=
  ∀ (s : State) (d : Nat) (p : Packet) (h : BfIn) (x : Qp) (bs : List Byte), s.canonical → s.takesPacket d p h x bs →
    x.state = .rts ∨ x.state = .faultWait →
    (∀ v q l, x.gcm = true → x.peerAckSeq = some q → s.openPacket x p h = some (v, l) → before q l = true) →
    (h.op = 0x10 → (h.psn - x.sndUna).toNat ≤ (x.sndNxt - x.sndUna).toNat → Completes (.ack d p) s fun t =>
      ∃ y, t.qp h.dest = some y ∧
        ∀ o ∈ y.sent, o.kind = .data ∨ o.kind = .abort → before o.psn h.psn = true → o.acked = true) ∧
    (∀ r, h.op = 0x11 → x.sent.find? (fun r => r.psn == h.psn && !r.acked) = some r →
      (h.aux.toNat % 256 = 1 → x.fault.remote = none → x.retries < x.retryLimit → r.txCount < 15 →
        (∀ o ∈ x.sent, o.psn = h.psn → o = r) → Completes (.nakRnr d p) s fun t => (t.qp h.dest).map (fun y =>
          (y.retries, y.rto)) = some (x.retries + 1, min 8000000 (2 * x.rto))) ∧
      (h.aux.toNat % 256 = 2 → x.fault.remote = none → Completes (.nakFaultWait d p) s fun t =>
        (t.qp h.dest).map (fun y => (y.state, y.fault.remote, y.timer)) =
          some (.faultWait, some (r.request, s.now), false)) ∧
      (h.aux.toNat % 256 = 3 → Completes (.nakAccessDenied d p) s fun t =>
        (t.qp h.dest).map (fun y => (y.state, y.errStatus, y.errDetail)) = some (.error, stAccessDenied, dtRemote)) ∧
      (h.aux.toNat % 256 = 4 → Completes (.nakPoisoned d p) s fun t =>
        ∃ y, t.qp h.dest = some y ∧ ∀ o ∈ y.sent, o.request = r.request → o.acked = true) ∧
      (h.aux.toNat % 256 = 5 → Completes (.nakTallyFailed d p) s fun t =>
        ∃ y, t.qp h.dest = some y ∧ ∀ o ∈ y.sent, o.request = r.request → o.acked = true) ∧
      (h.aux.toNat % 256 = 6 → Completes (.nakQpError d p) s fun t =>
        (t.qp h.dest).map (fun y => (y.state, y.errStatus)) = some (.error, stQpError)) ∧
      (h.aux.toNat % 256 = 7 → Completes (.nakInvalidRequest d p) s fun t =>
        (t.qp h.dest).map (fun y => (y.state, y.errStatus)) = some (.error, stQpError)))

/-- The timers of a queue pair: the 2 µs ACK timer sends an ACK (R177), an expiry of the RTO doubles it and makes every
unacknowledged PSN due again (R182), a probe makes the PSN of a NAK FAULT_WAIT due again, and the limit on that wait puts the
queue pair in ERROR (R190). A context that has been fetched is cached, and a prefetch starts a fetch (R197, R200). -/
def Obligations.QueuePairTimersAct : Prop :=
  ∀ (s : State) (n : Nat) (x : Qp), s.sound → n < 262144 → s.qpDie n < s.dies.length → s.qp n = some x →
    (x.ackTimer = true → x.epochLeft → Completes (.ackTimer n) s fun t =>
      (t.qp n).map (fun y => (y.ackSeq, y.dataCount, y.ceCount, y.ackTimer)) = some (x.ackSeq + 1, 0, 0, false)) ∧
    (x.timer = true → x.fault.remote = none → x.state = .rts ∨ x.state = .faultWait → (∃ o ∈ x.sent, o.acked = false) →
      x.retries < x.retryLimit → (∀ o ∈ x.sent, o.txCount < 15) → Completes (.rtoExpiry n) s fun t =>
        (t.qp n).map (fun y => (y.retries, y.rto)) = some (x.retries + 1, min 8000000 (2 * x.rto)) ∧
        ∀ y, t.qp n = some y → ∀ o ∈ y.sent, o.acked = false → o.kind = .data → o.due = true) ∧
    (∀ m since, x.fault.remote = some (m, since) → (∀ o ∈ x.sent, o.txCount < 15) → Completes (.faultWaitProbe n) s fun t =>
      ∀ y, t.qp n = some y → ∀ o ∈ y.sent, o.acked = false → o.kind = .data → o.request = m → o.due = true) ∧
    (x.fault.remote.isSome = true → x.state ≠ .error → Completes (.faultWaitLimit n) s fun t =>
      (t.qp n).map (fun y => (y.state, y.errStatus, y.errDetail)) = some (.error, stTranslationFault, dtRemote)) ∧
    (∀ w, (s.die (s.qpDie n)).tx.fetches.find? (·.qp == n) = some w → (s.die (s.qpDie n)).tx.misses = [] →
      Completes (.contextFetchDone n) s fun t => t.ctxCached (s.qpDie n) n = true ∧ t.ctxFetching (s.qpDie n) n = false) ∧
    (s.ctxCached (s.qpDie n) n = false → s.ctxFetching (s.qpDie n) n = false → (s.die (s.qpDie n)).tx.fetches.length < 64 →
      s.ctxVictim (s.qpDie n) n true ≠ none → Completes (.contextPrefetch n) s fun t =>
      t.ctxFetching (s.qpDie n) n = true)

/-! ### Scheduling (chapter 6) -/

/-- A selection at an egress port, where no packet of a higher class waits, sends an ACK or NAK that holds credit before every
flow of its own and the lower classes, on the wire of a link port (R215, R261). -/
def Obligations.SchedulersSendAcknowledgementsFirst : Prop :=
  ∀ (s : State) (d i l c : Nat) (h : HeldPacket), s.sound → d < s.dies.length → i < 10 → linkOfPort (schedPort i) = some l →
    (s.die d).fwdReset = false → s.portState d (schedPort i) = .up → s.qpsAt d i = [] → c < 8 → s.ackAt d i c = some h → h.inPort = 7 →
    s.classTokens d i c = true → (∀ g ∈ (s.die d).router.held, g.pkt.tclass.toNat ≤ c) →
    Completes (.schedulerSelection d i) s fun t => (∀ g ∈ (t.die d).router.held, g.id ≠ h.id) ∧
      ∃ p, p.body = h.pkt.body ∧ p.dest = h.pkt.dest ∧
        t.outbox = .frame d (schedPort i) (packetVc p) p (linkCrc p) :: s.outbox

/-- A depth and delay sample counts in one bin of each histogram of each class (R238, R239); a write of QP_WEIGHT sets the
weight of the queue pair shown, within its function's WEIGHT_CAP (R242). -/
def Obligations.SamplesAndWeights : Prop :=
  (∀ (s : State) (d i c : Nat), s.sound → d < s.dies.length → i < 10 → c < 8 → bit (s.reg ⟨d, .sched, i⟩ 0x104) 31 = true →
    (s.die d).fwdReset = false → s.qpsAt d i = [] → Completes (.depthDelaySample d i) s fun t =>
      t.reg ⟨d, .sched, i⟩ (0x400 + 0x40 * c + 4 * histBin (s.depth d i c) (bits (s.reg ⟨d, .sched, i⟩ 0x104) 4 0)) =
        min (s.reg ⟨d, .sched, i⟩
          (0x400 + 0x40 * c + 4 * histBin (s.depth d i c) (bits (s.reg ⟨d, .sched, i⟩ 0x104) 4 0)) + 1) 0xFFFFFFFF ∧
      Counted ⟨d, .sched, i⟩ Ctr.schedSamples 1 s t) ∧
  (∀ (s : State) (f d n : Nat) (v : Word) (x : Qp), s.hostReady → f < s.fns.length → d < s.dies.length →
    s.takes ⟨d, .rate, f⟩ → 1 ≤ v.toNat % 256 → v.toNat % 256 ≤ bits (s.reg ⟨d, .rateCtl, 0⟩ (0x140 + 4 * f)) 7 0 →
    n = bits (s.reg ⟨d, .rate, f⟩ 0x100) 17 0 → s.qp n = some x → x.fn = f → s.qpDie n = d →
    Completes (.qpWeightWrite f d v) s fun t => t.qp n = some { x with weight := v.toNat % 256 })

/-! ### Links and the router (chapter 7) -/

/-- The states of an Alram port (R252): training done, alignment, CREDIT_INIT with an INIT word out for every virtual channel
(R261), UP once every INIT word is in, DOWN and training again when the link is lost, ENABLE and its loss. A quire link trains
to UP with credit for every virtual channel, and goes DOWN and trains again when it is lost (R261, R266). -/
def Obligations.LinksTrain : Prop :=
  (∀ (s : State) (d k : Nat), s.sound → d < s.dies.length → k < 2 →
      (∀ r, s.linkState d k = .training → Completes (.alramTrainingDone d k r) s fun t =>
        t.linkState d k = .align ∧ ((t.die d).link k).reversed = r) ∧
      (s.linkState d k = .align → Completes (.alramAlignLock d k) s fun t => t.linkState d k = .creditInit ∧
        ((t.die d).link k).vcs.length = 10 ∧ t.outbox.length = s.outbox.length + 10) ∧
      (∀ vc (e : BitVec 18) (g : BitVec 16), s.linkState d k = .creditInit → vc < ((s.die d).link k).vcs.length →
        Completes (.init d k vc e g) s fun t => ((t.die d).link k).peer = e.toNat ∧
          ((((t.die d).link k).vcs[vc]?).map fun c => (c.granted, c.initIn)) = some (g.toNat, true) ∧
          ((∀ j c, ((s.die d).link k).vcs[j]? = some c → j ≠ vc → c.initIn = true) → t.linkState d k = .up)) ∧
      (s.linkState d k ≠ .disabled → s.linkEnabled d k = true → Completes (.alramLinkDown d k) s fun t =>
        t.linkState d k = .training ∧ (s.linkState d k = .up → t.portState d k ≠ .up)) ∧
      (s.hostReady → s.takes ⟨d, .alram, k⟩ →
        (s.linkState d k = .disabled → Completes (.linkEnable d k) s fun t => t.linkEnabled d k = true ∧ t.linkState d k = .training) ∧
        Completes (.linkDisable d k) s fun t => t.linkEnabled d k = false ∧ t.linkState d k = .disabled)) ∧
  (∀ (s : State) (d k : Nat), s.sound → d < s.dies.length → k < 4 → s.wired d (k + 2) = true →
      (s.linkState d (k + 2) = .training → s.linkEnabled d (k + 2) = true → Completes (.quireLinkUp d k) s fun t =>
        t.linkState d (k + 2) = .up ∧ ((t.die d).link (k + 2)).vcs.length = 11 ∧
        ∀ c ∈ ((t.die d).link (k + 2)).vcs, c.initIn = true) ∧
      (s.linkState d (k + 2) = .up → Completes (.quireLinkDown d k) s fun t => t.portState d (k + 3) ≠ .up ∧
        t.linkState d (k + 2) = if s.linkEnabled d (k + 2) then .training else .disabled) ∧
      (s.linkState d (k + 2) ≠ .up → s.linkState d (k + 2) ≠ .disabled → Completes (.quireRetrainTimeout d k) s fun t =>
        t.linkState d (k + 2) = .training))

/-- Frames and words on a link that is UP (R250, R251, R261 to R263): a good frame enters the port's FIFO and its units are
seen, a bad one is discarded, counted and its units freed; CREDIT renews what the peer has freed; SYNC frees units that were
lost; the timers send a CREDIT word for each total that is nonzero and a SYNC word for every channel. -/
def Obligations.LinkWordsKeepCredit : Prop :=
  ∀ (s : State) (d port l vc : Nat) (c : VcCredit), s.sound → d < s.dies.length → linkOfPort port = some l →
    s.wired d l = true → s.linkState d l = .up → vc < linkVcs l → ((s.die d).link l).vcs[vc]? = some c →
    (∀ p, bit (s.reg (linkPage d l) 0x100) 30 = false → Completes (.frameReceive d port vc p (linkCrc p) true) s fun t =>
      (t.die d).router.fifos[port]? = ((s.die d).router.fifos[port]?).map (· ++ [⟨p, port, vc, frameUnits p, none⟩]) ∧
      (((t.die d).link l).vcs[vc]?).map VcCredit.seen = some (c.seen + BitVec.ofNat 32 (frameUnits p))) ∧
    (∀ p crc, Completes (.frameReceive d port vc p crc false) s fun t => (t.die d).router = (s.die d).router ∧
      (((t.die d).link l).vcs[vc]?).map (fun c => (c.seen, c.freed)) =
        some (c.seen + BitVec.ofNat 32 (frameUnits p), c.freed + BitVec.ofNat 32 (frameUnits p))) ∧
    (∀ w, (s.cap (linkPage d l)).waiting = [] → Completes (.credit d port vc w) s fun t =>
      ((t.die d).link l).vcs[vc]? = some { c with peerFreed := w }) ∧
    (∀ w, before c.seen w = true → Completes (.sync d port vc w) s fun t =>
      ((t.die d).link l).vcs[vc]? = some { c with freed := c.freed + (w - c.seen), seen := w }) ∧
    (c.freed ≠ 0 → Completes (.creditReportTimer d port) s fun t =>
      .control d port (controlWord 3 vc c.freed.toNat) ∈ t.outbox) ∧
    (Completes (.syncTimer d port) s fun t => .control d port (controlWord 4 vc c.sent.toNat) ∈ t.outbox)

/-- Operations of an attached endpoint on memory, through the function that its port is bound to (R253 to R255): a write
within one block stores its bytes, a read answers with them. A response is matched by its tag, and a read that times out is
issued again until its retries are spent (R257, R258). -/
def Obligations.AlramOperationsReachMemory : Prop :=
  ∀ (s : State) (d k pa : Nat) (p : Packet) (bs : List Byte), s.sound → d < s.dies.length → k < 2 →
    (alramBad p false = false → s.alramBound d k p = true → gaEndpoint (aAddress p) = s.endpoint d →
      (alramData p = some bs → alramRange (aAddress p).toNat bs.length = true →
        s.reaches d 10 (s.portPartition d k) (gaOffset (aAddress p)) bs.length true pa →
        Completes (.alramWrite d k p) s fun t => ∀ i < bs.length, t.byte d (pa + i) = bs.getD i 0) ∧
      (aTag p ≤ 255 → 0 < aArg p → alramRange (aAddress p).toNat (aArg p) = true → aArg p = bs.length →
        s.readsAs d 10 (s.portPartition d k) (gaOffset (aAddress p)) bs → s.portState d k = .up →
        Completes (.alramReadRequest d k p) s fun t => ∃ h ∈ (t.die d).router.held, h.port = k ∧
          h.pkt.ptype = ptAlramReadResponse ∧ h.pkt.dest = p.source ∧
          h.pkt.body.drop 16 = bs ++ tallies (aAddress p).toNat bs)) ∧
    (∀ r f q i e, alramBad p true = false → ((s.die d).link k).reads.find? (fun r => r.tag == aTag p) = some r →
      aStatus p = 0 → alramData p = some bs → bs.length = r.len → r.use = .flush f q i → s.exec? f q i = some e →
      e.phase = .flushing → (∃ b ∈ e.readBacks, b.issued = true) → Completes (.alramReadResponse d k p) s fun t =>
        (∀ x ∈ ((t.die d).link k).reads, x.tag ≠ r.tag) ∧
        (t.exec? f q i).map (fun e => e.readBacks.length) = some (e.readBacks.length - 1)) ∧
    (∀ r tag, ((s.die d).link k).reads.find? (fun r => r.tag == tag) = some r → s.portState d k = .up →
      r.retries < bits (s.reg (linkPage d k) 0x10C) 3 0 → Completes (.alramReadTimeout d k tag) s fun t =>
        (((t.die d).link k).reads.find? fun r => r.tag == tag) = some { r with retries := r.retries + 1 } ∧
        Counted (linkPage d k) Ctr.alramReadTimeouts 1 s t)

/-- The router takes the packet at the front of a FIFO: one for this die goes to the local port, one for another die waits for
the output port that its route chooses (R274, R276). A FIFO whose pointers disagree is emptied and counted (R272), DROP_REST
takes the packet being read (R270), a held port discards once its HOLD expires (R283), and a packet that has left counts in
its edition for its time only (R279). A packet that has waited ESCAPE_WAIT_NS without credit on any port of its primary set
moves to its escape channel, where it has credit (R275). -/
def Obligations.RouterMovesPackets : Prop :=
  (∀ (s : State) (d : Nat), s.sound → d < s.dies.length →
      (∀ port x rest, port < 7 → (s.die d).router.fifos[port]? = some (x :: rest) → s.badHeader d port x.pkt = false →
        isPackageType x.pkt.ptype = false → x.pkt.replicate = false →
        (s.choose d x.pkt = .localPort → x.pkt.ptype ≠ ptBrevefold → (s.die d).computeReset = false →
          (s.die d).power.state ≠ 3 → Completes (.routePacket d port) s fun t =>
            (t.die d).router.fifos[port]? = some rest ∧
            (t.die d).router.arrived = (s.die d).router.arrived ++ [⟨x.pkt, x.port, x.vc, x.units, none⟩]) ∧
        (∀ k mask esc, s.choose d x.pkt = .port k mask esc → x.pkt.hops.toNat ≠ 31 → Completes (.routePacket d port) s fun t =>
            (t.die d).router.fifos[port]? = some rest ∧ ∃ h ∈ (t.die d).router.held, h.pkt = x.pkt ∧ h.port = k ∧ h.drain = false)) ∧
      (∀ i l, i < 9 → (s.die d).router.fifos[i]? = some l →
        (Completes (.fifoPointerMismatch d i) s fun t => (t.die d).router.fifos[i]? = some [] ∧
          Counted ⟨d, .router0, 0⟩ Ctr.router0FifoResets 1 s t) ∧
        (Completes (.dropRest d i) s fun t => (t.die d).router.fifos[i]? = some (l.drop 1))) ∧
      (∀ port, port < 8 → s.portState d port = .hold → Completes (.holdExpiry d port) s fun t => t.portState d port = .discard) ∧
      (∀ (e : Bool) n, (s.die d).router.leaving[b2n e]? = some (n + 1) → Completes (.editionCountRelease d e) s fun t =>
        (t.die d).router.leaving[b2n e]? = some n ∧
        (t.die d).router.counts[b2n e]? = ((s.die d).router.counts[b2n e]?).map (· - 1))) ∧
  (∀ (s : State) (d port k : Nat) (h : HeldPacket), d < s.dies.length → port < 8 → h ∈ (s.die d).router.held →
      (∀ g ∈ (s.die d).router.held, g.id = h.id → g = h) → h.port = port → h.escape = some k → h.pkt.escape = false →
      h.drain = false → isPackageType h.pkt.ptype = false →
      (∀ j ∈ s.usable d h.mask, s.hasCredit d j (packetVc h.pkt) h.pkt = false) → s.portState d k = .up →
      s.hasCredit d k (packetVc { h.pkt with escape := true }) { h.pkt with escape := true } = true →
      Completes (.escapeWaitExpiry d port (2 ^ 18 + h.id)) s fun t =>
        { h with pkt := { h.pkt with escape := true }, port := k, mask := 2 ^ k } ∈ (t.die d).router.held)

/-! ### Ethernet ports (chapter 8) -/

/-- The states of an Ethernet port (R298): ENABLE, training and its restart, alignment, UP, and DOWN when the link is lost. -/
def Obligations.EthernetPortsTrain : Prop :=
  ∀ (s : State) (d k : Nat), s.sound → d < s.dies.length → k < 4 → k < s.ethPorts d →
    (∀ r, (s.ethPort d k).state = .training → Completes (.ethTrainingDone d k r) s fun t =>
      (t.ethPort d k).state = .align ∧ (t.ethPort d k).reversed = r) ∧
    ((s.ethPort d k).state = .training → Completes (.ethTrainingTimeout d k) s fun t =>
      (t.ethPort d k).state = .training ∧ (t.ethPort d k).reversed = false ∧ (t.ethPort d k).lanes = 0) ∧
    ((s.ethPort d k).state = .align → Completes (.ethAlignLock d k) s fun t =>
      (t.ethPort d k).state = .up ∧ (t.ethPort d k).lanes = s.ethLanes d k) ∧
    ((s.ethPort d k).state = .align → Completes (.ethAlignTimeout d k) s fun t =>
      (t.ethPort d k).state = if s.ethEnabled d k then .training else .disabled) ∧
    (∀ fault, (s.ethPort d k).state = .up → Completes (.ethLinkDown d k fault) s fun t =>
      (t.ethPort d k).state = (if s.ethEnabled d k then .training else .disabled) ∧ (t.ethPort d k).remoteFault = fault ∧
      (t.ethPort d k).pausing = 0) ∧
    (s.hostReady → s.takes ⟨d, .ethPort, k⟩ →
      ((s.ethPort d k).state = .disabled → Completes (.portEnable d k true) s fun t =>
        t.ethEnabled d k = true ∧ (t.ethPort d k).state = .training) ∧
      Completes (.portEnable d k false) s fun t => t.ethEnabled d k = false ∧ (t.ethPort d k).state = .disabled)

/-- A frame that arrives on a port that is UP with an FCS error is dropped and counted there, and one that passes the checks
of R307 and is admitted enters the router's FIFO (R307 to R310); a PTP frame goes to the timestamp path while PTP_EN is 1
(R316). Priority flow control: a port repeats its pause while its usage stays above XON (R312), a PFC frame received pauses
each lossless priority of its vector for its time (R314), the pause ends when its timer does (R314), and PFC_CTL takes a value
that leaves room for every reservation (R311). -/
def Obligations.EthernetFramesAndPauses : Prop :=
  (∀ (s : State) (d k : Nat) (fr : List Byte), s.sound → d < s.dies.length → k < s.ethPorts d → k < 4 → s.ethUp d k = true →
      (∀ fcs, Completes (.ethFrameReceive d k fr fcs false) s fun t => t.dies = s.dies ∧
        Counted ⟨d, .ethPort, k⟩ Ctr.ethPortRxFcsErrors 1 s t) ∧
      (60 ≤ fr.length → fr.length + 4 ≤ bits (s.reg ⟨d, .ethPort, k⟩ 0x108) 13 0 → isPtp fr = false →
        (s.filterHit d k 0x120 8 (be fr 0 6) = true ∨ s.filterHit d k 0x160 4 (be fr 0 6) = true) → s.ethCheck d fr = none →
        s.admits d k (s.dscpPriority d (bits (be fr 14 4) 27 22)) (fr.length + 4) = true →
        Completes (.ethFrameReceive d k fr (crc32 fr) true) s fun t => Counted ⟨d, .ethPort, k⟩ Ctr.ethPortRxFramesOk 1 s t ∧
          ((t.die d).router.fifos[2]?).map List.length = ((s.die d).router.fifos[2]?).map (·.length + 1)) ∧
      (∀ stamp, isPtp fr = true → bit (s.reg ⟨d, .ethPort, k⟩ 0x100) 29 = true → (s.ethPort d k).ptp.length < 64 →
        Completes (.ptpFrame d k fr stamp) s fun t => (t.ethPort d k).ptp =
          (s.ethPort d k).ptp ++ [(fr, if isPtpEvent fr then some stamp else none)])) ∧
  (∀ (s : State) (d k p : Nat), s.sound → d < s.dies.length → k < s.ethPorts d → k < 4 → p < 8 →
      (s.ethUp d k = true → s.pausing d k p = true → s.lossless d k p = true → s.xon d k p < s.usage d k p →
        Completes (.pfcRepeat d k p) s fun t => Counted ⟨d, .ethPort, k⟩ Ctr.ethPortTxPfcFrames 1 s t ∧
          ∃ fr fcs, t.outbox = .ethFrame d k fr fcs :: s.outbox) ∧
      (∀ (v : Byte) (times : List (BitVec 16)), s.ethUp d k = true → s.lossless d k p = true → bit v.toNat p = true →
        (s.ethPort d k).rxPause.length = 8 → Completes (.pfcFrame d k v times) s fun t =>
          (t.ethPort d k).rxPause[p]? = some (((times.map BitVec.toNat)[p]?).getD 0)) ∧
      (p < (s.ethPort d k).rxPause.length → Completes (.pauseTimerExpiry d k p) s fun t => (t.ethPort d k).rxPause[p]? = some 0) ∧
      (∀ v : Word, s.hostReady → s.takes ⟨d, .ethPort, k⟩ → 2 ≤ bits v.toNat 31 16 →
        reservation (s.ethPorts d) (fun j q => if j = k then (bit (v.toNat &&& 0xFFFF00FF) q, (s.reserve d j q).2)
          else s.reserve d j q) ≤ s.ethPool d → Completes (.pfcCtlWrite d k v) s fun t =>
          t.reg ⟨d, .ethPort, k⟩ 0x10C = v.toNat &&& 0xFFFF00FF))


/-! ### Memory and translation (chapters 9 and 13) -/

/-- Patrol scrub reads block by block, and an uncorrectable error poisons its block (R324 to R326); a walk that completes
gives its engine a translation, or a fault its record (R334, R340, R350); the second read of a block that failed its tally
passes and is counted, or poisons the block (R488); the end of a dog-ear window clears the access counters (R360). -/
def Obligations.MemoryEventsAct : Prop :=
  ∀ (s : State) (d : Nat), s.sound → d < s.dies.length →
    (∀ m block x, m < 3 → block < 2 ^ 24 → (s.die d).mems[m]? = some x →
      bit (s.reg (memCtlPage d m) 0x100) 31 = true → x.scrubbed + 1 < 2 ^ 24 →
      (Completes (.patrolScrub d m block .clean) s fun t =>
        ((t.die d).mems[m]?).map MemCtl.scrubbed = some (x.scrubbed + 1) ∧ t.mem = s.mem) ∧
      (Completes (.patrolScrub d m block .uncorrected) s fun t =>
        ((t.die d).mems[m]?).map MemCtl.scrubbed = some (x.scrubbed + 1) ∧ t.poisoned d (m * 2 ^ 36 + block * 4096) = true)) ∧
    (∀ e f offset w, e < 10 → f < s.fns.length → offset < 2 ^ 46 → (s.die d).computeReset = false →
      e < (s.die d).xlate.caches.length →
      (∀ x, (s.walk d f offset w).1 = .found x → (Completes (.walkComplete d e f offset w false) s fun t =>
        t.cached d e f offset = some x) ∧ Completes (.walkComplete d e f offset w true) s fun t =>
        t.cached d e f offset = some x) ∧
      (∀ k n, (s.walk d f offset w).1 = .fault k →
        (s.die d).xlate.faults.find? (fun r => r.2.fn == f && r.2.key == offset / 2 ^ 25) = none →
        lowestBelow 4096 (fun n => (FMap.get? (s.die d).xlate.faults n).isNone) = some n →
        Completes (.walkComplete d e f offset w false) s fun t =>
          (FMap.get? (t.die d).xlate.faults n).map (fun r => (r.fn, r.key, r.kind, r.anyWrite, r.waiters)) =
            some (f, offset / 2 ^ 25, k, w, 2 ^ e))) ∧
    (∀ f pa a, f < s.fns.length → pa < 3 * 2 ^ 36 → Completes (.tallyReread d f pa a) s fun t =>
      if s.tallyOk d pa = true then t.mem = s.mem ∧ Counted ⟨d, .integrity, 0⟩ Ctr.integrityTallyRereadPasses 1 s t
      else t.poisoned d pa = true ∧ Counted ⟨d, .integrity, 0⟩ Ctr.integrityTallyPoisons 1 s t) ∧
    Completes (.dogEarWindowEnd d) s fun t => (t.die d).xlate.counts = []

/-- A fault record that nothing waits on is freed when it aborts, and counted (R354). An engine at its invalidation point
holds no translation in the range (R343, R344), it acknowledges, and the last acknowledgement completes the command with both
result words (R347); a die that has not acknowledged receives the invalidation again (R347). -/
def Obligations.FaultsAbortAndInvalidationsEnd : Prop :=
  ∀ (s : State) (d : Nat), s.sound → d < s.dies.length →
    (∀ n r, FMap.get? (s.die d).xlate.faults n = some r → r.tx = [] → r.rx = [] →
      (∀ e ∈ s.execs, e.paused ≠ some (d, r.key)) → s.runsPaused d r.fn r.key = [] → s.collPaused d r.fn r.key = [] →
      (s.die d).xlate.waiting = [] → FMap.wf (s.die d).xlate.faults = true → Completes (.faultAbort d n) s fun t =>
        FMap.get? (t.die d).xlate.faults n = none ∧ Counted ⟨d, .xlate, 0⟩ Ctr.xlateFaultsAborted 1 s t) ∧
    (∀ e v, e < 10 → (s.die d).xlate.inval = some v →
      (Completes (.invalidationPoint d e) s fun t =>
        (t.die d).xlate.inval = some { v with points := v.points ||| 2 ^ e } ∧
        ∀ c, (t.die d).xlate.caches[e]? = some c → ∀ x ∈ c, x.fn = v.fn → rangesMeet x.base (2 ^ x.log2) v.base v.len = false) ∧
      (bit v.points e = true → (v.acked ||| 2 ^ e) ≠ allEngines → Completes (.invalidationAck d e) s fun t =>
        (t.die d).xlate.inval = some { v with acked := v.acked ||| 2 ^ e }) ∧
      (∀ x, bit v.points e = true → v.acked ||| 2 ^ e = allEngines →
        (∀ k < s.dies.length, k ≠ d → ((s.die k).xlate.inval).map Inval.acked = some allEngines) →
        s.execs.find? (fun e => e.fn == 0 && e.q == 0 && dOpcode e.desc == 0x20 && e.phase == .running) = some x →
        s.exec? 0 0 x.index = some x → x.readBacks = [] → Completes (.invalidationAck d e) s fun t =>
          (∀ k < s.dies.length, (t.die k).xlate.inval = none) ∧
          t.ended 0 0 x.index stSuccess 0x03FF03FF03FF03FF 0x03FF03FF03FF03FF)) ∧
    (∀ v, (s.die d).xlate.inval = some v → (v.acked ||| s.idleEngines d) ≠ allEngines → Completes (.invalidationResend d) s fun t =>
      (t.die d).xlate.inval =
        some { v with points := v.points ||| (v.acked ||| s.idleEngines d), acked := v.acked ||| s.idleEngines d })

/-! ### Recipes (chapters 10 and 11) -/

/-- A stage of each kind that does its work without a halt leaves memory and the stage store as its work left them, and the
run goes on to the next stage of R408, or ends where there is none and no check is outstanding (R415 to R420, R425, R430 to
R435). An uncorrectable stage-store error ends the run (R387). -/
def Obligations.RecipesRunTheirStages : Prop :=
  (∀ (s : State) (d r : Nat) (w : Work) (c : Instr) (sel : Stage → Bool) (act : Work → RM Unit) (s2 : State) (y : Run)
    (p : Recipe), s.sound → d < s.dies.length → r < 5 → s.workAt d r = some w →
    (c, sel, act) ∈ [(Instr.load d r .clean, fun st => st.kind == kLoad, stageLoad),
      (.matmul d r .clean, fun st => st.kind == kMatmul, stageMatmul), (.vector d r .clean, fun st => st.kind == kVector, stageVector),
      (.store d r .clean, fun st => st.kind == kStore, stageStore),
      (.candidate d r .clean, fun st => st.kind == kSample && !st.draw, stageCandidate),
      (.draw d r .clean, fun st => st.kind == kSample && st.draw, stageDraw),
      (.signal d r, fun st => st.kind == kSignal, stageSignal)] →
    sel w.st = true → act w (s.beginStage w) = (.ok (), s2) → s2.runAt d r = some y → y.stopping = false →
    FMap.get? s2.recipes y.handle = some p → (s2.die d).recks.length = 5 → d < s2.dies.length →
    Completes c s fun t => t.mem = s2.mem ∧ (t.reck d r).store = (s2.reck d r).store ∧
      ((y.next p.bundle (s2.reck d r).seqs).stage.isSome = true →
        t.runAt d r = some (y.next p.bundle (s2.reck d r).seqs)) ∧
      ((y.next p.bundle (s2.reck d r).seqs).stage = none → (y.next p.bundle (s2.reck d r).seqs).records = [] →
        s2.outstanding (d * 5 + r) = [] → y.records = [] → t.runAt d r = none)) ∧
  (∀ (s : State) (d r a : Nat) (w : Work), s.sound → d < s.dies.length → r < 5 → s.workAt d r = some w → w.st.kind = kLoad →
    Completes (.load d r (.uncorrectable a)) s fun t => t.runAt d r = none ∧
      Counted ⟨d, .reckoner, r⟩ Ctr.reckonerStageEccUncorrected 1 s t)

/-- A WAIT begins to watch its flag, and the run goes on once it has reached its target (R420), or stops with RECIPE_ABORTED,
TIMEOUT when its limit expires first (R438). The sequencer fetches the next tile of the stage order, at most two ahead on each
tier queue, and takes its blocks when they arrive (R426, R427). -/
def Obligations.RecipesWaitAndFetchAhead : Prop :=
  ∀ (s : State) (d r : Nat) (x : Run) (p : Recipe), s.sound → d < s.dies.length → r < 5 → s.runAt d r = some x →
    FMap.get? s.recipes x.handle = some p →
    (∀ w, s.workAt d r = some w → w.st.kind = kWait → Completes (.wait d r) s fun t =>
      (t.runAt d r).map Run.waiting = some true) ∧
    (∀ i s2, x.waiting = true → x.paused = none → x.stage = some i → x.stopping = false →
      (rmFlag { d := d, r := r, run := x, b := p.bundle, st := bStage p.bundle i } s = (.ok true, s2) → s2.runAt d r = some x →
        FMap.get? s2.recipes x.handle = some p → (s2.die d).recks.length = 5 → d < s2.dies.length →
        (x.next p.bundle (s2.reck d r).seqs).stage.isSome = true → Completes (.waitSatisfied d r) s fun t =>
          t.runAt d r = some (x.next p.bundle (s2.reck d r).seqs)) ∧
      (rmFlag { d := d, r := r, run := x, b := p.bundle, st := bStage p.bundle i } s = (.ok false, s2) → s2.runAt d r = some x →
        (s2.die d).recks.length = 5 → d < s2.dies.length → x.limit ≠ 0 → ∀ e, s2.exec? x.fn x.q x.index = some e → e.status = 0 →
        Completes (.waitTimeout d r) s fun t => t.runAt d r = none ∧
          (t.exec? x.fn x.q x.index).map (fun e => (e.status, e.detail)) = some (stRecipeAborted, raTimeout))) ∧
    (∀ i y u, x.stage = some i → x.args.isSome = true → x.stopping = false →
      nextTile p.bundle (s.reck d r).seqs (x.ahead.map fun t => (t.stage, t.counters)) 4096
        (if x.begun then x.next p.bundle (s.reck d r).seqs else x) = some y →
      s.tileAhead { d := d, r := r, run := y, b := p.bundle, st := bStage p.bundle (y.stage.getD 0) } = some u →
      (x.ahead.filter fun v => v.tier == u.tier).length < 2 → Completes (.tilePrefetch d r) s fun t =>
        (t.runAt d r).map Run.ahead = some (x.ahead ++ [u])) ∧
    (∀ u, x.ahead = [u] → u.data = none → (∀ k ∈ u.blocks, (s.peekBlock x.fn k).isSome = true) →
      Completes (.tileArrival d r) s fun t => (t.runAt d r).map (fun y => y.ahead.map AheadTile.data) =
        some [some (u.blocks.map fun k => (k, (s.peekBlock x.fn k).getD []))])

/-! ### Result integrity (chapter 13) -/

/-- A check whose checker's result is the original's passes, and one that differs is disputed and names a third Reckoner
(R497, R498). A disputed check is classified by the table of R499: a permanent fault retires its Reckoner, a transient one is
counted, and one that nothing explains makes both Reckoners candidates (R499, R501, R508). The known-answer set starts on an
idle Reckoner, or is due at the next descriptor boundary of a busy one (R506). At its end a candidate that passes is none any
more, a candidate that fails is retired, and another Reckoner that fails becomes a candidate (R501, R507, R508). -/
def Obligations.ChecksAndKnownAnswers : Prop :=
  (∀ (s : State) (d n : Nat) (c : Check), s.sound → d < s.dies.length → FMap.get? (s.integ d).records n = some c →
      c.original / 5 < s.dies.length → c.checker / 5 < s.dies.length →
      (c.disputed = none → (Completes (.checkExecution d n c.result) s fun t =>
          Counted ⟨c.original / 5, .integrity, 0⟩ Ctr.integrityChecksPassed 1 s t) ∧
        ∀ v k, v ≠ c.result → (s.reck (c.original / 5) (c.original % 5)).retired = false →
          (s.pickReckoner (c.original / 5) [c.original, c.checker]).1 = some k → Completes (.checkExecution d n v) s fun t =>
            FMap.get? (t.integ d).records n = some { c with third := some k, disputed := some v }) ∧
      (∀ v, c.disputed = some v → v ≠ c.result → (s.reck (c.original / 5) (c.original % 5)).retired = false →
        (∀ o, Completes (.checkReexecution d n c.result v o) s fun t =>
          (t.reck (c.original / 5) (c.original % 5)).retired = true ∧
          Counted ⟨c.original / 5, .integrity, 0⟩ Ctr.integrityClassPermanent 1 s t) ∧
        (∀ o, Completes (.checkReexecution d n v v o) s fun t =>
          Counted ⟨c.original / 5, .integrity, 0⟩ Ctr.integrityClassTransient 1 s t) ∧
        (Completes (.checkReexecution d n c.result c.result v) s fun t =>
          (t.reck (c.checker / 5) (c.checker % 5)).retired = true ∧
          Counted ⟨c.original / 5, .integrity, 0⟩ Ctr.integrityClassPermanent 1 s t) ∧
        (Completes (.checkReexecution d n c.result c.result c.result) s fun t =>
          Counted ⟨c.original / 5, .integrity, 0⟩ Ctr.integrityClassTransient 1 s t) ∧
        (∀ o u w, o ≠ c.result → o ≠ v → Completes (.checkReexecution d n o u w) s fun t =>
          (t.reck (c.original / 5) (c.original % 5)).candidate = true ∧ (t.reck (c.checker / 5) (c.checker % 5)).candidate = true ∧
          Counted ⟨c.original / 5, .integrity, 0⟩ Ctr.integrityClassUnresolved 1 s t))) ∧
  (∀ (s : State) (d r : Nat), s.sound → d < s.dies.length → r < 5 →
      ((s.reck d r).run = none → (s.reck d r).known = false → (s.reck d r).retired = false → s.checking (d * 5 + r) = false →
        (s.die d).computeReset = false → Completes (.knownAnswerRun d r) s fun t => (t.reck d r).known = true) ∧
      ((s.reck d r).run.isSome = true → Completes (.karDeferExpiry d r) s fun t => (t.reck d r).knownDue = true) ∧
      (∀ n, (s.reck d r).known = true → Completes (.knownAnswerDone d r n) s fun t =>
        (t.reck d r).known = false ∧ (t.reck d r).knownDue = false ∧ (t.reck d r).knownAt = s.now ∧
        Counted ⟨d, .integrity, 0⟩ Ctr.integrityKarRuns 64 s t ∧
        (n = 0 → (t.reck d r).candidate = false) ∧
        (n ≠ 0 → (s.reck d r).candidate = true → (t.reck d r).retired = true) ∧
        (n ≠ 0 → (s.reck d r).candidate = false → (t.reck d r).candidate = true)))

/-- A NOTICE is counted and poisons the blocks that it names (R516); its acknowledgement frees the log entries behind it, and
without one it is repeated up to LIMIT times before it is given up (R515). A due round's digest is formed and sent until it is
acknowledged (R520, R522); the root holds a replica's digest, and decides a round at its timeout with what it holds (R523). -/
def Obligations.NoticesAndDigests : Prop :=
  (∀ (s : State) (d : Nat), s.sound → d < s.dies.length →
      (∀ p h body, integrityParts p = some (h, body) → bits (be h 0 4) 31 28 = 1 → bits (be h 0 4) 27 16 = 1 → body.length = 8 →
        ∀ pa, s.reaches d 10 (integrityFn h) (fromBE body % 2 ^ 46) 1 true pa → fromBE body / 2 ^ 46 = s.endpoint d →
        s.hasEndpoint d = true → Completes (.notice d p) s fun t => t.poisoned d pa = true ∧
          Counted ⟨d, .integrity, 0⟩ Ctr.integrityNoticesReceived 1 s t) ∧
      (∀ p h body n, integrityParts p = some (h, body) → bits (be h 0 4) 31 28 = 2 →
        (s.integ d).notices.find? (fun n => n.seq.toNat == be h 4 4 && n.dest == p.source.toNat) = some n →
        Completes (.noticeAck d p) s fun t => n ∉ (t.integ d).notices ∧
          ∀ e ∈ (t.integ d).log, ¬(e.retracting = true ∧ e.dest = n.dest ∧ e.fn = n.fn ∧ e.gen = n.gen ∧ e.block ∈ n.blocks)) ∧
      (∀ q n, (s.integ d).notices.find? (fun n => n.seq == q) = some n →
        if n.repeats < bits (s.reg ⟨d, .integrity, 0⟩ 0x118) 31 16 then Completes (.noticeRepeat d q) s fun t =>
          { n with repeats := n.repeats + 1 } ∈ (t.integ d).notices ∧
          Counted ⟨d, .integrity, 0⟩ Ctr.integrityNoticeRepeats 1 s t
        else Completes (.noticeRepeat d q) s fun t => n ∉ (t.integ d).notices ∧
          Counted ⟨d, .integrity, 0⟩ Ctr.integrityNoticesUnacked 1 s t)) ∧
  (∀ (s : State) (d n : Nat) (c : Collation), s.sound → d < s.dies.length → n < 32 →
      FMap.get? (s.integ d).collations n = some c →
      (∀ r due, c.due = r :: due → Completes (.digestFormed d n) s fun t => ∃ bs,
        (s.collationDigest d c = none ∧ bs.length = 48 ∨ s.collationDigest d c = some bs) ∧
        FMap.get? (t.integ d).collations n = some { c with
          due := due, unacked := c.unacked ++ [(r, s.collationDigest d c, bs, 0)] } ∧
        Counted ⟨d, .collation, 0⟩ Ctr.collationDigestsFormed 1 s t) ∧
      (∀ p h body, integrityParts p = some (h, body) → bits (be h 0 4) 31 28 = 3 → body.length = 48 → bit (be h 0 4) 10 = false →
        s.collationRoot d (bits (be h 8 4) 31 16) = some (n, c) → bits (be h 8 4) 7 2 ≤ c.last → c.held = [] → c.decided = [] →
        1 ≤ c.last → Completes (.digest d p) s fun t => (FMap.get? (t.integ d).collations n).map Collation.held =
          some [{ round := be h 4 4, part := bits (be h 8 4) 15 8, replica := bits (be h 8 4) 7 2, digest := some body }]) ∧
      (∀ p h body, integrityParts p = some (h, body) → bits (be h 0 4) 31 28 = 4 → c.root = p.source.toNat →
        collationWord c.id c.part c.replica = be h 8 4 → Completes (.digestAck d p) s fun t =>
          FMap.get? (t.integ d).collations n = some { c with unacked := c.unacked.filter fun u => u.1 != be h 4 4 }) ∧
      (∀ r g bs k l, c.unacked = (r, g, bs, k) :: l → (k + 1) * 100 < c.timeout → Completes (.digestRepeat d n) s fun t =>
        FMap.get? (t.integ d).collations n = some { c with unacked := (r, g, bs, k + 1) :: l } ∧
        Counted ⟨d, .collation, 0⟩ Ctr.collationDigestRepeats 1 s t) ∧
      (∀ x, c.held = [x] → Completes (.collationTimeout d n x.part) s fun t => ∃ y,
        FMap.get? (t.integ d).collations n = some y ∧ y.held = [] ∧ FMap.get? y.decided x.part = some x.round))


/-! ### Collective operations (chapter 12) -/

/-- A chunk packet that belongs to no operation in execution is dropped and counted (R459). A GRANT opens its chunks (R461); a
RECEIPT is kept for its child (R463, R465); FINISH is kept, and ends the operation of a member without children (R477); ABORT
ends it (R469, R470); a RETRACT moves its chunk to the next generation and poisons the block written of it (R475). -/
def Obligations.ChunkControlPacketsAct : Prop :=
  ∀ (s : State) (d : Nat) (p : Packet), s.sound → d < s.dies.length →
    (∀ h c, (c, h.kind) ∈ [(Instr.data d p, ckData), (.frames d p 0, ckFrames), (.grant d p, ckGrant), (.receipt d p, ckReceipt),
        (.resend d p, ckResend), (.failure d p, ckFailure), (.retract d p, ckRetract), (.finish d p, ckFinish),
        (.chunkAbort d p, ckAbort)] → chunkIn p.body = some h →
      (s.groupOf d h.group = none ∨ ∃ e g o, s.groupOf d h.group = some (e, g) ∧ g.op = some o ∧ (h.ggen ≠ g.gen ∨ h.seq ≠ o.seq)) →
      Completes c s fun t => t.mem = s.mem ∧ (t.die d).groups = (s.die d).groups ∧
        Counted ⟨d, .collective, 0⟩ Ctr.collectiveStaleDrops 1 s t) ∧
    (∀ e g o h, s.takesChunk d p ckGrant e g o h → o.broadcast = false → o.granted < min h.arg o.chunkCount →
      Completes (.grant d p) s fun t => ∀ g' o', t.collOp d e = some (g', o') → o'.granted = min h.arg o.chunkCount) ∧
    (∀ e g o h, s.takesChunk d p ckReceipt e g o h → Completes (.receipt d p) s fun t =>
      ∀ g' o', t.collOp d e = some (g', o') → ∀ c ∈ o'.children, c.member = h.sender →
        c.receipt = some (bit h.arg 31, bits h.arg 30 0)) ∧
    (∀ e g o h, s.takesChunk d p ckFinish e g o h → o.early = false →
      (Completes (.finish d p) s fun t => ∀ g' o', t.collOp d e = some (g', o') → o'.finish = some (bits h.arg 15 0, bits h.arg 31 16)) ∧
      (o.children = [] → o.completed = false → s.inExecution o.fn o.q o.index → bits h.arg 15 0 ≠ 0 → Completes (.finish d p) s fun t =>
        t.collOp d e = none ∧ t.endedWith o.fn o.q o.index (bits h.arg 15 0) (bits h.arg 31 16))) ∧
    (∀ e g o h, s.takesChunk d p ckAbort e g o h → o.completed = false → s.inExecution o.fn o.q o.index → bits h.arg 15 0 ≠ 0 →
      Completes (.chunkAbort d p) s fun t => t.collOp d e = none ∧
        t.endedWith o.fn o.q o.index (bits h.arg 15 0) (o.abortDetail (bits h.arg 15 0) (bits h.arg 31 16))) ∧
    (∀ e g o h c a pa, s.takesChunk d p ckRetract e g o h → o.chunk? h.chunk = some c → c.written = [a] →
      s.reaches d 7 o.fn (gaOffset a) 1 true pa → Completes (.retract d p) s fun t => t.poisoned d pa = true ∧
        ∀ g' o', t.collOp d e = some (g', o') → (o'.chunk? h.chunk).map Chunk.gen = some (h.gen + 1))

/-- The rows and data of a chunk that are whole are stored, and counted once stored, one that fails its tally is counted
(R458, R463, R464, R467), a repeat is dropped and counted (R467); RESEND is served from what the member holds and counted as
served (R466); a FAILURE ends the root's operation with the status of its cause, or begins the retraction of its chunk (R470,
R474, R476). -/
def Obligations.ChunkDataPacketsAct : Prop :=
  ∀ (s : State) (d : Nat) (p : Packet), s.sound → d < s.dies.length →
    (∀ e g o h c glitch, s.takesChunk d p ckFrames e g o h → o.chunk? h.chunk = some c → o.broadcast = false →
      h.row < o.rows h.chunk → o.paused = none →
      (h.good = false → Completes (.frames d p glitch) s fun t => Counted ⟨d, .collective, 0⟩ Ctr.collectiveTallyFailures 1 s t) ∧
      (h.good = true → c.added.contains (partRow ((o.children.map ChildState.member).idxOf h.sender + 1) h.row) = true →
        Completes (.frames d p glitch) s fun t => t.mem = s.mem ∧ Counted ⟨d, .collective, 0⟩ Ctr.collectiveDuplicatesDropped 1 s t) ∧
      (∀ fs u, h.good = true → c.added.contains (partRow ((o.children.map ChildState.member).idxOf h.sender + 1) h.row) = false →
        h.frames = some (fs, false) →
        (cmStorePart d o h.chunk ((o.children.map ChildState.member).idxOf h.sender + 1) h.row fs).run (s.takeLocal d p) =
          (.ok (), u) → Completes (.frames d p glitch) s fun t => Counted ⟨d, .collective, 0⟩ Ctr.collectiveRowsReceived 1 s t)) ∧
    (∀ e g o h, s.takesChunk d p ckData e g o h → o.writes false = true → h.chunk < o.chunkCount →
      (o.broadcast = true ∨ h.chunk < o.granted) →
      (h.chunk < o.base → Completes (.data d p) s fun t => t.mem = s.mem ∧ t.collOp d e = some (g, o) ∧
        Counted ⟨d, .collective, 0⟩ Ctr.collectiveDuplicatesDropped 1 s t) ∧
      (o.base ≤ h.chunk → o.paused.isSome = true → Completes (.data d p) s fun t =>
        t.collOp d e = some ({ g with op := some { o with held := o.held ++ [p] } }, { o with held := o.held ++ [p] })) ∧
      (o.base ≤ h.chunk → o.paused = none → h.good = false → Completes (.data d p) s fun t =>
        Counted ⟨d, .collective, 0⟩ Ctr.collectiveTallyFailures 1 s t) ∧
      (∀ c u, o.base ≤ h.chunk → o.paused = none → h.good = true → o.chunk? h.chunk = some c → c.gen = h.gen →
        c.data.contains h.row = false → h.row < o.packets h.chunk →
        h.payload.length = min 8192 (o.elemBytes h.chunk + o.scaleBytes h.chunk - h.row * 8192) →
        (cmOutput d e h.chunk (h.row * 8192) h.payload).run ((s.takeLocal d p).onOp d e fun _ => o) = (.ok (), u) →
        Completes (.data d p) s fun t => Counted ⟨d, .collective, 0⟩ Ctr.collectiveDataReceived 1 s t)) ∧
    (∀ e g o h, s.takesChunk d p ckResend e g o h → o.paused = none →
      (g.isRoot = true → o.broadcast = true → h.chunk < o.granted → Completes (.resend d p) s fun t =>
        Counted ⟨d, .collective, 0⟩ Ctr.collectiveResendsServed 1 s t) ∧
      (∀ c u, g.isRoot = false → o.broadcast = false → o.chunk? h.chunk = some c → c.own = true → c.gen = h.gen → c.wanted = true →
        (cmResend d e h.chunk).run (s.takeLocal d p) = (.ok (), u) → Completes (.resend d p) s fun t =>
          Counted ⟨d, .collective, 0⟩ Ctr.collectiveResendsServed 1 s t)) ∧
    (∀ e g o h, s.takesChunk d p ckFailure e g o h →
      (∀ st dt, (bits h.arg 7 0, st, dt) ∈ [(3, stReplayLost, 1), (4, stGroupTimeout, gtAborted), (5, stGroupTimeout, gtAborted),
          (6, stPoisoned, dtRemote), (7, stTallyFailed, dtRemote)] → o.completed = false → s.inExecution o.fn o.q o.index →
        Completes (.failure d p) s fun t => t.collOp d e = none ∧ t.endedWith o.fn o.q o.index st dt) ∧
      (∀ c, (bits h.arg 7 0 = 1 ∨ bits h.arg 7 0 = 2) → o.broadcast = false → o.chunk? h.chunk = some c → c.gen = h.gen → c.gen < 3 →
        o.reforms.contains (h.chunk, h.gen + 1) = false → Completes (.failure d p) s fun t =>
          Counted ⟨d, .collective, 0⟩ Ctr.collectiveRetractions 1 s t))

/-- The repeat timer changes nothing of the operation (R465); a RESEND is asked for and counted the first time (R466, R467); a
child that is late is counted, and ends the operation at the root or is reported to it (R468); a parent that is late ends the
member's operation (R469); a member that leaves takes its operation from the die (R472). -/
def Obligations.CollectiveTimersAct : Prop :=
  ∀ (s : State) (d e : Nat) (g : Group) (o : CollOp), s.sound → d < s.dies.length → e < 4096 → s.collOp d e = some (g, o) →
    (g.isRoot = false → Completes (.repeatTimer d e) s fun t => t.collOp d e = some (g, o) ∧ t.mem = s.mem) ∧
    (∀ k gen, g.isRoot = false → o.broadcast = true → k = o.holds false → k < o.chunkCount →
      gen = ((o.chunk? k).map Chunk.gen).getD 0 → o.asked.contains (g.root, k, gen) = false → Completes (.resendTimer d e) s fun t =>
        (t.collOp d e).map (fun x => x.2.asked) = some ((g.root, k, gen) :: o.asked) ∧
        Counted ⟨d, .collective, 0⟩ Ctr.collectiveResendsRequested 1 s t) ∧
    (∀ n c, o.children[n]? = some c → c.receipt = none →
      (g.isRoot = true → o.completed = false → s.inExecution o.fn o.q o.index → Completes (.childTimeout d e n) s fun t =>
        t.collOp d e = none ∧ t.endedWith o.fn o.q o.index stGroupTimeout gtMemberTimeout ∧
        Counted ⟨d, .collective, 0⟩ Ctr.collectiveGroupTimeouts 1 s t) ∧
      (g.isRoot = false → Completes (.childTimeout d e n) s fun t =>
        Counted ⟨d, .collective, 0⟩ Ctr.collectiveGroupTimeouts 1 s t ∧ ∃ o', (t.collOp d e).map Prod.snd = some o' ∧
          ∃ f ∈ o'.failures, f.2.2 = (4, c.endpoint))) ∧
    (g.isRoot = false → o.completed = false → s.inExecution o.fn o.q o.index → Completes (.parentTimeout d e) s fun t =>
      t.collOp d e = none ∧ t.endedWith o.fn o.q o.index stGroupTimeout gtParentTimeout ∧
      Counted ⟨d, .collective, 0⟩ Ctr.collectiveGroupTimeouts 1 s t) ∧
    (o.leaving = true → o.atBoundary g.isRoot = true → Completes (.memberLeft d e) s fun t =>
      t.collOp d e = none ∧ t.exec? o.fn o.q o.index = none)

/-! ### Functions (chapter 14) -/

/-- A write of FN_CTL moves its function, or waits as PENDING_OPEN or PENDING_CLOSE (R535, R538); the PF is never enabled or
disabled by one. At the end of OPENING a function is OPEN in MAINTENANCE, unless a close is pending; at the end of CLOSING it
is CLOSED, unless an open is pending (R535, R536). Enabling the dirty log starts it afresh, and DIRTY_HEAD is taken only where
it is no further than the log's size behind the tail (R544, R546). -/
def Obligations.FunctionsOpenAndClose : Prop :=
  ∀ (s : State) (f : Nat), s.sound → f < s.fns.length →
    (s.hostReady → s.takes ⟨0, .fnState, f⟩ → (f ≠ 0 → (s.fn f).enable = false → (s.fn f).queues ≠ 0 →
        ((s.fn f).phase = .closed → Completes (.functionEnable f) s fun t => t.fn f = { s.fn f with enable := true, phase := .opening }) ∧
        ((s.fn f).phase = .closing → Completes (.functionEnable f) s fun t =>
          t.fn f = { s.fn f with enable := true, pendOpen := true })) ∧
      (f ≠ 0 → (s.fn f).enable = true →
        ((s.fn f).phase = .opening → Completes (.functionDisable f) s fun t =>
          t.fn f = { s.fn f with enable := false, pendClose := true }) ∧
        ((s.fn f).phase = .closing → Completes (.functionDisable f) s fun t =>
          t.fn f = { s.fn f with enable := false, pendOpen := false }) ∧
        ((s.fn f).phase = .opened → Completes (.functionDisable f) s fun t => (t.fn f).phase = .closing ∧ (t.fn f).enable = false)) ∧
      (f = 0 → (Completes (.functionEnable f) s fun t => t.fn f = s.fn f) ∧ Completes (.functionDisable f) s fun t => t.fn f = s.fn f) ∧
      (∀ h, Completes (.fnHold f h) s fun t => t.fn f = { s.fn f with hold := h }) ∧
      (∀ v : Word, bit v.toNat 31 = true → 8 ≤ bits v.toNat 4 0 → bits v.toNat 4 0 ≤ 20 → bit (s.reg ⟨0, .fnState, f⟩ 0x148) 31 = false →
        Completes (.dirtyLogEnable f v) s fun t => t.word ⟨0, .fnState, f⟩ 0x14C = 0 ∧ t.word ⟨0, .fnState, f⟩ 0x150 = 0 ∧
          bit (t.reg ⟨0, .fnState, f⟩ 0x148) 31 = true ∧ bits (t.reg ⟨0, .fnState, f⟩ 0x148) 4 0 = bits v.toNat 4 0 ∧
          (t.fn f).dirty = []) ∧
      (∀ v : Word, Completes (.dirtyHeadWrite f v) s fun t => t.reg ⟨0, .fnState, f⟩ 0x150 =
        if (BitVec.ofNat 32 (s.reg ⟨0, .fnState, f⟩ 0x14C) - v).toNat ≤ 2 ^ bits (s.reg ⟨0, .fnState, f⟩ 0x148) 4 0 then v.toNat
        else s.reg ⟨0, .fnState, f⟩ 0x150)) ∧
    ((s.fn f).phase = .opening →
      ((s.fn f).pendClose = false → Completes (.openingComplete f) s fun t =>
        t.fn f = { s.fn f with phase := .opened, service := false, pendClose := false } ∧
        Counted ⟨0, .fnState, f⟩ Ctr.fnStateOpens 1 s t) ∧
      ((s.fn f).pendClose = true → Completes (.openingComplete f) s fun t => (t.fn f).phase = .closing)) ∧
    ((s.fn f).phase = .closing → s.leaving f = false → Completes (.closingComplete f) s fun t =>
      (t.fn f).phase = (if (s.fn f).pendOpen then .opening else .closed) ∧ (t.fn f).flr = false ∧ (t.fn f).pendOpen = false ∧
      Counted ⟨0, .fnState, f⟩ Ctr.fnStateCloses 1 s t)

/-! ### The start of the part and its images (chapter 15) -/

/-- The boot ROM starts the Spine from an image that verifies, and stops otherwise (R557, R558); the Spine seeds every die's
random source and takes up a Quire image for loading, or the start fails (R557, R582); the last die that reports ready opens
the PF (R557, R538); a start that times out rejects an image on trial, or fails (R567, R568). A heartbeat clears the count of
missed ones, the third one missed in a row counts a reload, and the watchdog, a wrong checksum and an uncorrected error of the
Spine's memory do what R555 and R559 say. -/
def Obligations.ThePartStarts : Prop :=
  ∀ (s : State), s.sound →
    (s.spine.phase = .rom → Completes .bootRomStart s fun t =>
      if s.spine.flashBad = false ∧ hType s.spine.flash.header = 1 ∧ s.imageOk s.spine.flash = true then
        t.spine.phase = .spine ∧ t.spine.image = s.spine.flash
      else t.spine.phase = .dead) ∧
    (s.spine.phase = .spine → Completes .spineStart s fun t =>
      (t.spine.phase = .loading ∨ t.spine.phase = .failed ∧ t.ready = true) ∧
      ∀ d < s.dies.length, (t.die d).entropy = { ok := true, seeded := true, blocked := false }) ∧
    (∀ d, d < s.dies.length → s.spine.phase = .loading → s.spine.reports.contains d = false →
      Completes (.quireReady d) s fun t => t.spine.reports = d :: s.spine.reports ∧
        (s.spine.reports.length + 1 = s.dies.length → (s.fn 0).pendClose = false →
          t.spine.phase = .running ∧ t.ready = true ∧ (t.fn 0).phase = .opened)) ∧
    (s.spine.phase = .loading → s.spine.inUse < 2 →
      (s.spine.trial = false → Completes .quireReadyTimeout s fun t =>
        t.spine.phase = .failed ∧ t.spine.quireFailed = true ∧ t.ready = true ∧ ∀ d < s.dies.length, (t.die d).computeReset = true) ∧
      (s.spine.trial = true → Completes .quireReadyTimeout s fun t =>
        ((t.spine.slots[s.spine.inUse]?).map QuireSlot.state) = some .rejected)) ∧
    (∀ d, d < s.dies.length → s.spine.misses.length = 8 → s.dies.length ≤ 8 →
      (Completes (.quireHeartbeat d) s fun t => t.spine.misses[d]? = some 0) ∧
      (∀ n, s.spine.phase = .running → s.powerReq < 3 → s.spine.misses[d]? = some n → Completes (.heartbeatMiss d) s fun t =>
        t.spine.misses[d]? = some (if n < 2 then n + 1 else 0) ∧
        (2 ≤ n → Counted ⟨0, .mailbox, 0⟩ Ctr.mailboxQuireReloads 1 s t))) ∧
    (s.spine.alive = true → (Completes .watchdogExpiry s fun t => t.ready = false ∧ t.queues = [] ∧ t.qps = []) ∧
      (Completes (.stateChecksum false) s fun t => t.ready = false ∧ t.queues = [] ∧ t.qps = []) ∧
      (Completes (.stateChecksum true) s fun t => t = s) ∧
      (Completes (.spineEccError true) s fun t => Counted ⟨0, .mailbox, 0⟩ Ctr.mailboxSpineEccCorrected 1 s t) ∧
      Completes (.spineEccError false) s fun t => t.ready = false ∧ t.queues = [] ∧ t.qps = [])

/-- An OFFER that the rules admit starts a session and erases the spare Quire slot, and one that is refused leaves the Spine
as it is (R562, R564, R566). Blocks are taken in order (R565), and a body that is whole ends the delivery (R566, R567, R571);
a session also ends on ABORT or when it expires (R565), and STATUS is answered (R563). -/
def Obligations.ImagesAreDelivered : Prop :=
  ∀ (s : State) (n : BitVec 16), s.spine.alive = true → s.spine.slots.length = 2 →
    (∀ h, (s.offerCode h = 0 → Completes (.offer n h) s fun t =>
        t.spine.delivery = some { session := n, header := h } ∧
        (hType h = 2 → (t.spine.slots[s.spine.spare]?).map QuireSlot.state = some .empty)) ∧
      (s.offerCode h ≠ 0 → Completes (.offer n h) s fun t => t.spine = s.spine)) ∧
    (∀ v q (bs : List Byte) ok, s.spine.delivery = some v → v.session = n →
      (q.toNat ≠ v.next → Completes (.block n q bs ok) s fun t => t.spine = s.spine) ∧
      (q.toNat = v.next → bs.length = min 1024 (hLength v.header - v.body.length) →
        (v.body.length + bs.length < hLength v.header → Completes (.block n q bs ok) s fun t => ∃ w, t.spine.delivery = some w ∧
          w.session = n ∧ w.header = v.header ∧ w.body = v.body ++ bs ∧ w.next = v.next + 1) ∧
        (v.body.length + bs.length = hLength v.header → Completes (.block n q bs ok) s fun t => t.spine.delivery = none ∧
          (hType v.header = 2 → ok = true → sha384 (v.body ++ bs) = slice v.header 0x20 48 →
            (t.spine.slots[s.spine.spare]?).map QuireSlot.image = some ⟨v.header, v.body ++ bs⟩) ∧
          (hType v.header ≠ 2 → ok = true → sha384 (v.body ++ bs) = slice v.header 0x20 48 → s.spine.corrupt = false →
            t.spine.flash = ⟨v.header, v.body ++ bs⟩)))) ∧
    (Completes (.statusRequest n) s fun t => t.spine = s.spine ∧ t.outbox.length = s.outbox.length + 1) ∧
    (∀ v, s.spine.delivery = some v → v.session = n → Completes (.deliveryAbort n) s fun t => t.spine.delivery = none) ∧
    Completes .sessionTimeout s fun t => t.spine.delivery = none

/-! ### Mailbox commands and keys (chapter 15) -/

/-- Each mailbox command leaves its code, its RESULT and the length of its response in MBX_STAT (R593, R594), and what it does
of its own: a fabric key starts its sequence at zero (R589), a confirmed Quire image is ACTIVE (R567, R570), a challenge is
kept until it is answered and an accepted token unlocks the part and erases its keys (R592), a ramp record is judged by the
policy checker (R614, R615). -/
def Obligations.MailboxCommandsAct : Prop :=
  ∀ (s : State), s.sound → s.hostReady →
    (Completes .getStatus s fun t => t.word ⟨0, .mailbox, 0⟩ 0x114 = 0x00400100) ∧
    (∀ r, Completes (.attest r) s fun t => t.word ⟨0, .mailbox, 0⟩ 0x114 =
      if r.length = 32 then BitVec.ofNat 64 ((s.attestReport r).1.length * 65536 + 0x200) else 0x202) ∧
    (∀ b, (s.spine.unlocked = true → Completes (.loadFabricKey b) s fun t => t.word ⟨0, .mailbox, 0⟩ 0x114 = 0x304) ∧
      (∀ k, s.spine.unlocked = false → s.blobOk b = true → blobKind b = 2 → bits (le b 8 4) 4 0 = 0 → bits (le b 8 4) 14 8 = 0 →
        s.unwrap b = some k → Completes (.loadFabricKey b) s fun t => t.word ⟨0, .mailbox, 0⟩ 0x114 = 0x300 ∧
          t.spine.fabricKey = some (k.take 32) ∧ t.spine.fabricSeq = 0)) ∧
    (∀ d r, d < s.dies.length → (r.length ≠ 48 → Completes (.fabricCmd d r) s fun t => t.word ⟨0, .mailbox, 0⟩ 0x114 = 0x402) ∧
      (r.length = 48 → s.mgmtOk (mailboxMessage r) (be r 0 1) = false → Completes (.fabricCmd d r) s fun t =>
        t.word ⟨0, .mailbox, 0⟩ 0x114 = 0x403 ∧ Counted ⟨0, .mailbox, 0⟩ Ctr.mailboxFabricAuthDrops 1 s t) ∧
      (r.length = 48 → s.mgmtOk (mailboxMessage r) (be r 0 1) = true → be r 0 1 = 3 → Completes (.fabricCmd d r) s fun t =>
        t.word ⟨0, .mailbox, 0⟩ 0x114 = 0x00300400 ∧ t.spine.fabricSeq = be r 8 8)) ∧
    (s.spine.inUse < 2 → Completes .confirmQuire s fun t =>
      if s.spine.trial = true ∧ s.spine.phase = .running then
        t.word ⟨0, .mailbox, 0⟩ 0x114 = 0x500 ∧ (t.spine.slots[s.spine.inUse]?).map QuireSlot.state = some .active
      else t.word ⟨0, .mailbox, 0⟩ 0x114 = 0x504 ∧ t.spine = s.spine) ∧
    (Completes .debugChallenge s fun t => t.word ⟨0, .mailbox, 0⟩ 0x114 = 0x00280600 ∧
      ∃ n, t.spine.nonce = some n ∧ n.length = 32) ∧
    (∀ b, Completes (.debugUnlock b) s fun t =>
      if tokenForm b = true ∧ s.spine.tokenOk b = true then
        t.word ⟨0, .mailbox, 0⟩ 0x114 = 0x700 ∧ t.spine.unlocked = true ∧ t.keys = [] ∧ t.spine.fabricKey = none ∧
        t.spine.nonce = none ∧ ∀ d < s.dies.length, (t.integ d).key = zeros 32
      else t.spine = s.spine ∧ t.word ⟨0, .mailbox, 0⟩ 0x114 = if tokenForm b = true then 0x703 else 0x702) ∧
    (∀ r, Completes (.approveRampTable r) s fun t => t.word ⟨0, .mailbox, 0⟩ 0x114 =
      if rampHeaderOk r = true then if rampRecordOk s.part r = true then 0x800 else 0x805 else 0x802)

/-- A key command shows its result in KEY_STAT: a key erased that nothing names is gone, one that something names stays
(R587), and after a debug unlock nothing is loaded (R592). A health failure of a die's random source is counted and blocks the
reseed that falls due, and the source works again once it passes (R582). -/
def Obligations.KeysAndEntropyAct : Prop :=
  (∀ (s : State) (f : Nat) (v : Word), s.sound → s.hostReady → f < s.fns.length → (s.fn f).phase = .opened → s.takes ⟨0, .cipherUser, f⟩ →
    bit v.toNat 31 = true →
    (bit v.toNat 30 = true → FMap.wf s.keys = true → Completes (.keyErase f v) s fun t =>
      if s.keyInUse f (bits v.toNat 6 0) = true then
        t.keys = s.keys ∧ t.reg ⟨0, .cipherUser, f⟩ 0x10C = bits v.toNat 6 0 * 2 ^ 24 + krInUse
      else t.keySlot f (bits v.toNat 6 0) = none ∧ t.reg ⟨0, .cipherUser, f⟩ 0x10C = bits v.toNat 6 0 * 2 ^ 24 + krOk) ∧
    (bit v.toNat 30 = false →
      (s.spine.unlocked = true → Completes (.keyLoad f v) s fun t => t.keys = s.keys ∧
        Counted ⟨0, .cipherUser, f⟩ Ctr.cipherUserKeyLoadFailures 1 s t) ∧
      (∀ k u, s.loadResult f (bits v.toNat 6 0) = (krOk, k, u) → Completes (.keyLoad f v) s fun t => t.keys = u.keys ∧
        (t.keySlot f (bits v.toNat 6 0)).isSome = true ∧
        t.reg ⟨0, .cipherUser, f⟩ 0x10C = bits v.toNat 6 0 * 2 ^ 24 + krOk))) ∧
  (∀ (s : State) (d : Nat), s.sound → d < s.dies.length → (s.die d).computeReset = false →
    (Completes (.entropyHealthFailure d) s fun t => (t.die d).entropy = { (s.die d).entropy with ok := false } ∧
      Counted ⟨d, .cipher, 0⟩ Ctr.cipherHealthFailures 1 s t) ∧
    (Completes (.entropyHealthPass d) s fun t => (t.die d).entropy = { ok := true, seeded := true, blocked := false } ∧
      ((s.die d).entropy.seeded = true → Counted ⟨d, .cipher, 0⟩ Ctr.cipherReseeds 1 s t)) ∧
    Completes (.drbgReseed d) s fun t =>
      if (s.die d).entropy.ok = true then (t.die d).entropy.seeded = true ∧ Counted ⟨d, .cipher, 0⟩ Ctr.cipherReseeds 1 s t
      else (t.die d).entropy = { (s.die d).entropy with blocked := true })

/-! ### Fabric management (chapters 15 and 17) -/

/-- A fabric management message whose CMAC, SEQUENCE or flags do not hold is dropped and counted, and leaves the Spine as it
is; one that holds leaves its SEQUENCE (R588, R589). The commands write the registers, routes and times that R590 and R657
give. -/
def Obligations.FabricManagementActs : Prop :=
  ∀ (s : State) (d : Nat) (m : MgmtMessage), s.sound → d < s.dies.length → s.spine.alive = true →
    (∀ c code, (c, code) ∈ [(Instr.readRouter d m, 1), (.writeTableEntry d m, 2), (.setInjectEdition d m, 3), (.setRelayRequired d m, 4),
        (.setEndpointId d m, 5), (.setRouteCtl d m, 6), (.resetForwardingPlane d m, 7), (.setFabricTime d m, 0x20),
        (.adjustFabricTime d m, 0x21), (.setPtp d m, 0x22), (.armCaptureAt d m, 0x23), (.triggerCapture d m, 0x24),
        (.readFabricTime d m, 0x25)] →
      (s.mgmtOk m code = false → Completes c s fun t => t.spine = s.spine ∧ Counted ⟨0, .mailbox, 0⟩ Ctr.mailboxFabricAuthDrops 1 s t) ∧
      (s.takesMgmt d code m → Completes c s fun t => t.spine.fabricSeq = m.sequence.toNat)) ∧
    (∀ v, s.takesMgmt d 2 m → (bit m.arg0.toNat 29 = false ∨ bits m.arg0.toNat 13 0 ≤ 15) → v = m.arg1.toNat % 2 ^ 32 → v ≠ 0 →
      badRoute v = false → bit m.arg0.toNat 31 = true → Completes (.writeTableEntry d m) s fun t =>
        FMap.get? (t.die d).router.routes (routeIndex (bit m.arg0.toNat 30) (bit m.arg0.toNat 29) (bits m.arg0.toNat 13 0)) =
          some (BitVec.ofNat 32 v)) ∧
    (s.takesMgmt d 3 m → Completes (.setInjectEdition d m) s fun t =>
      bits (t.reg ⟨d, .router0, 0⟩ 0x104) 0 0 = bits m.arg0.toNat 0 0) ∧
    (s.takesMgmt d 4 m → Completes (.setRelayRequired d m) s fun t =>
      bits (t.reg ⟨d, .router0, 0⟩ 0x104) 8 8 = bits m.arg0.toNat 0 0) ∧
    (s.takesMgmt d 5 m → s.busy ⟨d, .router0, 0⟩ = false → Completes (.setEndpointId d m) s fun t =>
      t.reg ⟨d, .router0, 0⟩ 0x100 = m.arg0.toNat % 2 ^ 32 &&& 0x8003FFFF) ∧
    (s.takesMgmt d 6 m → Completes (.setRouteCtl d m) s fun t => t.reg ⟨d, .router0, 0⟩ 0x110 =
      if bits m.arg0.toNat 15 0 < 64 then s.reg ⟨d, .router0, 0⟩ 0x110 else m.arg0.toNat % 2 ^ 32 &&& 0xFF00FFFF) ∧
    (s.takesMgmt d 7 m → Completes (.resetForwardingPlane d m) s fun t =>
      (t.die d).router.routes = (s.die d).router.routes ∧ (t.die d).router.fifos = Die.reset.router.fifos) ∧
    (s.takesMgmt d 0x20 m → ((s.die 0).time.timeSet = false ∨ (s.time 0).toNat ≤ m.arg0.toNat) →
      Completes (.setFabricTime d m) s fun t => ∀ k < s.dies.length, t.time k = m.arg0 ∧ (t.die k).time.timeSet = true) ∧
    (s.takesMgmt d 0x21 m → -500000 ≤ signedInt 32 (m.arg1.toNat % 2 ^ 32) → signedInt 32 (m.arg1.toNat % 2 ^ 32) ≤ 500000 →
      Completes (.adjustFabricTime d m) s fun t => ∀ k < s.dies.length,
        (t.die k).time.ppb = signedInt 32 (m.arg1.toNat % 2 ^ 32) ∧
        (t.die k).time.slew = (s.die k).time.slew + signedInt 64 m.arg0.toNat * 65536) ∧
    (s.takesMgmt d 0x22 m → bits m.arg0.toNat 10 8 < s.dies.length → Completes (.setPtp d m) s fun t => ∀ k < s.dies.length,
      bits (t.reg ⟨k, .colophon, 0⟩ 0x12C) 30 28 = bits m.arg0.toNat 10 8 ∧
      bit (t.reg ⟨k, .colophon, 0⟩ 0x12C) 31 = bit m.arg0.toNat 0 ∧ (t.die k).time.epochOffset = signedInt 64 m.arg1.toNat) ∧
    (s.takesMgmt d 0x23 m → Completes (.armCaptureAt d m) s fun t => ∀ k < s.dies.length,
      t.reg ⟨k, .colophon, 0⟩ 0x110 = m.arg1.toNat) ∧
    (s.takesMgmt d 0x24 m → before (BitVec.ofNat 32 (s.reg ⟨0, .colophon, 0⟩ 0x10C)) (BitVec.ofNat 32 m.arg0.toNat) = true →
      Completes (.triggerCapture d m) s fun t => t.reg ⟨0, .colophon, 0⟩ 0x10C = m.arg0.toNat % 2 ^ 32 ∧ t.colophonOut = true) ∧
    (s.takesMgmt d 0x25 m → Completes (.readFabricTime d m) s fun t => ∀ k < s.dies.length, t.time k = s.time k)

/-! ### Power, clocks and temperature (chapter 16) -/

/-- A request of POWER_REQ is refused, waits for the move under way, or becomes every die's target, and moves the part where
it names or leaves a state that is held (R601). A die drops to Creased or Folded when it is idle, and wakes to Open (R599,
R600). A move that completes leaves every die in the state requested (R602), and a part that leaves Shelved in Open (R603).
MCTP control requests are answered outside Shelved (R666), and one that reaches the part in Shelved begins its wake (R605). -/
def Obligations.PowerStatesAndMctp : Prop :=
  (∀ (s : State), s.sound →
      (∀ r : BitVec 3, s.ready = true →
        (5 < r.toNat → Completes (.powerReq 0 0x80008 r) s fun t => t.powerReq = s.powerReq ∧ t.powerMove = s.powerMove) ∧
        (r.toNat ≤ 5 → s.powerMove.isSome = true → Completes (.powerReq 0 0x80008 r) s fun t =>
          t.powerNext = some r.toNat ∧ t.powerMove = s.powerMove) ∧
        (r.toNat ≤ 5 → s.powerMove = none → s.refusesPower r.toNat = true → Completes (.powerReq 0 0x80008 r) s fun t =>
          t.powerRefused = true ∧ t.powerReq = s.powerReq ∧ t.powerMove = none) ∧
        (r.toNat ≤ 5 → s.powerMove = none → s.refusesPower r.toNat = false → Completes (.powerReq 0 0x80008 r) s fun t =>
          t.powerReq = r.toNat ∧ (∀ d < s.dies.length, (t.die d).power.target = r.toNat) ∧
          t.powerMove = if (3 ≤ r.toNat ∨ 3 ≤ (s.die 0).power.state) ∧ (s.die 0).power.state ≠ r.toNat then some r.toNat else none)) ∧
      (∀ d, d < s.dies.length →
        (s.powerReq = 1 → s.mayDrop d = true → s.running d = false → Completes (.creaseIdle d) s fun t =>
          (t.die d).power.state = 1 ∧ Counted ⟨d, .power, 0⟩ Ctr.powerStateChanges 1 s t) ∧
        (s.powerReq = 2 → s.mayDrop d = true → s.foldIdle d = true → Completes (.foldIdle d) s fun t =>
          (t.die d).power.state = 2 ∧ ∀ x ∈ (t.die d).mems, x.selfRefresh = true) ∧
        (∀ w, ((s.die d).power.state = 1 ∨ (s.die d).power.state = 2) → Completes (.wakeEvent d w) s fun t => (t.die d).power.state = 0)) ∧
      (∀ r, s.powerMove = some r → s.powerNext = none → r ≤ 5 → Completes .powerTransitionDone s fun t =>
        t.powerMove = none ∧ t.board.waking = none ∧
        (¬((s.die 0).power.state = 5 ∧ r < 5) → ∀ d < s.dies.length, (t.die d).power.state = if r < 3 then 0 else r) ∧
        ((s.die 0).power.state = 5 → r < 5 → s.spine.phase ≠ .held → ∀ d < s.dies.length, (t.die d).power.state = 0))) ∧
  (∀ (s : State), s.board.perst = false →
      (∀ c r, (c, r) ∈ [(Instr.mctpGetEndpointId, mctpBytes 2 []), (.mctpGetMessageTypeSupport, mctpBytes 5 []),
          (.mctpWake s.board.eid (mctpBytes 2 []), mctpBytes 2 [])] → (s.die 0).power.state = 5 →
        Completes c s fun t => t.powerMove = some 0 ∧ t.powerReq = 0 ∧ t.board.waking = some r ∧ t.outbox = s.outbox) ∧
      (∀ e, (s.die 0).power.state = 5 →
        (Completes (.mctpSetEndpointId e) s fun t => t.powerMove = some 0 ∧ t.board.eid = s.board.eid) ∧
        (Completes (.mctpGetVersionSupport e) s fun t => t.powerMove = some 0) ∧
        Completes (.mctpUnsupportedMessage e) s fun t => t.powerMove = some 0) ∧
      ((s.die 0).power.state ≠ 5 →
        (∀ e, Completes (.mctpSetEndpointId e) s fun t => t.board.eid = e ∧ t.outbox = .mctp (.setEndpointId e) :: s.outbox) ∧
        (Completes .mctpGetEndpointId s fun t => t.outbox = .mctp (.endpointId s.board.eid) :: s.outbox) ∧
        (∀ e, Completes (.mctpGetVersionSupport e) s fun t => ∃ v, t.outbox = .mctp (.versions v) :: s.outbox) ∧
        (Completes .mctpGetMessageTypeSupport s fun t => t.outbox = .mctp (.messageTypes [0]) :: s.outbox) ∧
        (∀ code, Completes (.mctpUnsupportedMessage code) s fun t => t.outbox = .mctp .unsupportedCmd :: s.outbox) ∧
        Completes (.mctpWake s.board.eid (mctpBytes 2 [])) s fun t => t.outbox = .mctp (.endpointId s.board.eid) :: s.outbox))

/-- The governor's issue is at most the thermal cap, the brake's and that of the budget, where the ramp tables admit so quick
a fall (R607, R608, R618, R619). The Spine's budgets are taken whole or not at all (R613). The brake acts on every die (R618).
A temperature is kept, at TRIP_C it trips, and from 105 °C on nothing is issued (R619 to R621); TRIP clears once the die is no
hotter than ALERT_C (R621). A table entry is taken only in a table that R630 admits. A PLL that loses lock is out of lock
until it relocks (R623), and its reset domain is in reset (R622): the die's compute domain, its forwarding plane, or the
package. -/
def Obligations.GovernorAndPlls : Prop :=
  (∀ (s : State), s.sound →
      (∀ d fixed perPercent wanted, d < s.dies.length →
        s.downOk d ((List.range 3).map fun r => fixed[r]?.getD 0 + perPercent[r]?.getD 0 * 0) = true →
        Completes (.governorPeriod d fixed perPercent wanted) s fun t => (t.die d).power.issue ≤ 100 ∧
          (t.die d).power.issue ≤ (if (s.die d).power.trip then 0 else (s.die d).power.thermal) ∧
          ((s.die d).power.brake = true → (t.die d).power.issue ≤ bits (s.reg ⟨d, .power, 0⟩ 0x104) 31 24) ∧
          (0 < (t.die d).power.issue → railPower ((List.range 3).map fun r =>
            fixed[r]?.getD 0 + perPercent[r]?.getD 0 * (t.die d).power.issue) ≤ bits (s.reg ⟨d, .power, 0⟩ 0x108) 15 0 * 100000)) ∧
      (∀ w, Completes (.budgetUpdate w) s fun t =>
        if s.budgetsOk w = true then ∀ d < s.dies.length, some (t.reg ⟨d, .power, 0⟩ 0x108) = w[d]? else t = s) ∧
      (s.brakePin = false → s.board.perst = false → Completes .brakeAssert s fun t => t.brakePin = true ∧ ∀ d < s.dies.length,
        (t.die d).power.brake = true ∧ Counted ⟨d, .power, 0⟩ Ctr.powerBrakeEvents 1 s t) ∧
      (Completes .brakeDeassert s fun t => t.brakePin = false ∧ ∀ d < s.dies.length, (t.die d).power.brake = false) ∧
      (∀ d j, d < s.dies.length → Completes (.thermalSample d j) s fun t => (t.die d).power.tj = min j 255 ∧
        (s.tripC d ≤ min j 255 → (t.die d).power.trip = true) ∧
        (s.tripC d ≤ min j 255 → (s.die d).power.trip = false → Counted ⟨d, .power, 0⟩ Ctr.powerTrips 1 s t) ∧
        (105 ≤ j → (t.die d).power.thermal = 0) ∧ (s.board.perst = false → s.alertC d ≤ min j 255 → t.thermAlert = true)) ∧
      (∀ d, d < s.dies.length → s.hostReady → s.takes ⟨d, .power, 0⟩ →
        ((s.die d).power.trip = true → Completes (.tripClear d) s fun t =>
          (t.die d).power.trip = decide (s.alertC d < (s.die d).power.tj)) ∧
        ∀ j (v : Word), j < 8 → Completes (.thermTableWrite d j v) s fun t => t.reg ⟨d, .power, 0⟩ (0x140 + 4 * j) =
          if thermOk ((List.range 8).map fun k => if k = j then (bits v.toNat 15 8, bits v.toNat 6 0) else s.therm d k) = true then
            v.toNat &&& 0xFF7F
          else s.reg ⟨d, .power, 0⟩ (0x140 + 4 * j))) ∧
  (∀ (s : State) (d : Nat) (p : Pll), s.sound → d < s.dies.length →
      (p ∉ (s.die d).clocks.unlocked → Completes (.pllLockLoss d p) s fun t => p ∈ (t.die d).clocks.unlocked ∧
        ((p = .cpll ∨ p = .dpll) → (s.die d).power.state ≠ 2 → (t.die d).computeReset = true) ∧
        (p = .rpll → (t.die d).fwdReset = true) ∧ ((p = .mpll ∨ p = .gpll) → t.spine.phase = .held) ∧
        (p = .pcie → d = 0 → t.board.link = none)) ∧
      (p ∈ (s.die d).clocks.unlocked → Completes (.pllRelock d p) s fun t => p ∉ (t.die d).clocks.unlocked ∧
        (p = .rpll → (t.die d).fwdReset = false)))

/-! ### Captures and fabric time (chapter 17) -/

/-- A trigger starts a capture of number NEXT_NUMBER, if that is after LAST_NUMBER, and NEXT_NUMBER advances (R632, R633); a
page that is armed latches at the marker, and one whose number is not new is counted (R635, R636); a marker on a quire link
starts the far die's capture (R641); an input channel without a marker closes at its timeout (R639). Fabric time follows die
0's (R654), and PTP_LOCKED clears at a loss of Sync (R656). -/
def Obligations.CapturesAndFabricTimeAct : Prop :=
  ∀ (s : State) (d : Nat), s.sound → d < s.dies.length →
    (∀ n : Word, n = BitVec.ofNat 32 (s.reg ⟨d, .colophon, 0⟩ 0x108) →
      (s.hostReady → s.takes ⟨d, .colophon, 0⟩ → Completes (.capCmdGo d) s fun t =>
        t.reg ⟨d, .colophon, 0⟩ 0x108 = (n + 1).toNat ∧
        if before (BitVec.ofNat 32 (s.reg ⟨d, .colophon, 0⟩ 0x10C)) n = true then
          t.reg ⟨d, .colophon, 0⟩ 0x10C = n.toNat ∧ (d = 0 → t.colophonOut = true)
        else Counted ⟨d, .colophon, 0⟩ Ctr.colophonTriggersDropped 1 s t) ∧
      (s.timeDue d = true → Completes (.capTimeMatch d) s fun t => bit (t.reg ⟨d, .colophon, 0⟩ 0x100) 30 = false ∧
        t.reg ⟨d, .colophon, 0⟩ 0x108 = (n + 1).toNat) ∧
      (d = 0 → bit (s.reg ⟨0, .colophon, 0⟩ 0x100) 28 = true → s.board.perst = false → Completes .colophonIn s fun t =>
        t.reg ⟨0, .colophon, 0⟩ 0x108 = (n + 1).toNat ∧ t.colophonOut = s.colophonOut)) ∧
    (Completes .colophonOutRelease s fun t => t = { s with colophonOut := false }) ∧
    (∀ page channel n p, pageAt d (page * 4096) = some p → p.kind.isGroup = false → s.inReset p = false → s.gated p = false →
      ((s.cap p).any = false → (s.cap p).armed = true → Completes (.markerArrival d page channel n) s fun t =>
        (t.cap p).last.number = n ∧ (t.cap p).last.latched = true) ∧
      ((s.cap p).any = true → before n (s.cap p).last.number = true → Completes (.markerArrival d page channel n) s fun t =>
        (t.cap p).last = (s.cap p).last ∧ Counted ⟨d, .colophon, 0⟩ Ctr.colophonMarkersStale 1 s t) ∧
      ((s.cap p).last.hasOpen channel = true → Completes (.channelTimeout d page channel) s fun t => Counted ⟨d, .colophon, 0⟩ Ctr.colophonChannelsTimedOut 1 s t)) ∧
    (∀ port l p n, linkOfPort port = some l → s.wired d l = true → 2 ≤ l → p.body.length = 16 → n = BitVec.ofNat 32 (be p.body 0 4) →
      before (BitVec.ofNat 32 (s.reg ⟨d, .colophon, 0⟩ 0x10C)) n = true → Completes (.colophonMarker d port 10 p) s fun t =>
        t.reg ⟨d, .colophon, 0⟩ 0x10C = n.toNat) ∧
    (d ≠ 0 → Completes (.packageTimeSync d) s fun t => t.time d = s.time 0 ∧ (t.die d).time.ppb = (s.die 0).time.ppb ∧
      (t.die d).time.synced = true) ∧
    (d = bits (s.reg ⟨0, .colophon, 0⟩ 0x12C) 30 28 → (s.die d).time.ptpLocked = true → Completes .ptpSyncLoss s fun t =>
      (∀ k < s.dies.length, (t.die k).time.ptpLocked = false) ∧ Counted ⟨d, .colophon, 0⟩ Ctr.colophonPtpSyncLosses 1 s t)

/-! ### Every command -/

/-- A step with a command at the front of the queue is that command on the state with the queue's rest. With no command
waiting it is one tick of the clock, and no word spells a command, since the opcode table gives no row any bits: these two are
the model's choice (notes/assumptions/1.md and notes/assumptions/2.md). -/
def Obligations.StepRunsTheFrontCommand : Prop :=
  (∀ (s : State) (c : Instr) (cs : List Instr), step { s with pending := c :: cs } = exec c { s with pending := cs }) ∧
  (∀ (s : State), s.pending = [] → step s = .next s.tick ∧ s.tick.pending = []) ∧
  (∀ (s : State) (nbits w : Nat), decodeTableWord nbits w = none ∧ s.withFetchWord nbits w = s)

/-- The state after reset is sound; PERST_N is asserted, nothing answers the host, no function is open, no queue, queue pair,
descriptor or message waits, no memory is listed and fabric time is zero. -/
def Obligations.ResetStateIsSound : Prop :=
  State.reset.sound ∧ State.reset.board.perst = true ∧ State.reset.ready = false ∧ State.reset.pending = [] ∧
  State.reset.queues = [] ∧ State.reset.qps = [] ∧ State.reset.execs = [] ∧ State.reset.requests = [] ∧ State.reset.outbox = [] ∧
  State.reset.mem = [] ∧ (∀ f, (State.reset.fn f).phase = .closed) ∧ ∀ d, State.reset.time d = 0

/-- Every step keeps the state sound: memory, registers and capture totals stay in canonical form, and the part keeps exactly
its dies, schedulers, FIFOs, ports, links, memory controllers, Reckoners, functions and Quire slots. -/
def Obligations.StepsKeepTheStateSound : Prop :=
  ∀ (s t : State), s.sound → step s = .next t → t.sound ∧ t.part = s.part

/-- No step changes what is programmed in OTP, brings back a key that was revoked, or lowers a security-version minimum
(R573). -/
def Obligations.StepsKeepOtp : Prop :=
  ∀ (s t : State), step s = .next t → OtpKept s.spine.otp t.spine.otp

/-- A command that gives a next state changes only the areas that `touches` lists for it, whatever its operands: the part, the
queue of commands and the count of ticks stay, and every byte of memory, every register, queue, queue pair, link, function,
key and every other unit outside those areas is the same. -/
def Obligations.CommandsChangeOnlyTheirAreas : Prop :=
  ∀ (s t : State) (c : Instr), s.canonical → exec c s = .next t →
    t.part = s.part ∧ t.pending = s.pending ∧ t.now = s.now ∧ ∀ a, a ∉ touches c → a.same s t
end

