-- ==== Sys2Proof/Laws/Maps.lean ====
section
/-!
SUPPORT. Laws of maps by key, of memory and of lists changed at one place.
-/

namespace Sys2Proof.Machine

/-! ### Maps -/

theorem FMap.get?_set_self {α : Type} (m : List (Nat × α)) (k : Nat) (v : α) : FMap.get? (FMap.set m k v) k = some v := by
  induction m with
  | nil => simp [FMap.set, FMap.get?]
  | cons c m ih =>
    obtain ⟨c, w⟩ := c
    simp only [FMap.set]
    split
    · simp [FMap.get?]
    · split
      · simp [FMap.get?]
      · simp [FMap.get?, *]

theorem FMap.get?_set_ne {α : Type} (m : List (Nat × α)) {k k' : Nat} (v : α) (h : k' ≠ k) :
    FMap.get? (FMap.set m k v) k' = FMap.get? m k' := by
  induction m with
  | nil =>
    simp only [FMap.set, FMap.get?]
    split
    · omega
    · split <;> rfl
  | cons c m ih =>
    obtain ⟨c, w⟩ := c
    simp only [FMap.set]
    split
    · subst c; simp only [FMap.get?, if_neg (Ne.symm h)]
    · split
      · simp only [FMap.get?, if_neg (Ne.symm h)]
        split
        · split
          · omega
          · split
            · rfl
            · omega
        · rfl
      · simp only [FMap.get?, ih]

theorem FMap.wfFrom_mono {α : Type} {b c : Nat} (h : b ≤ c) :
    ∀ {m : List (Nat × α)}, FMap.wfFrom c m = true → FMap.wfFrom b m = true
  | [], _ => rfl
  | (k, _) :: m, hw => by
    simp only [FMap.wfFrom, Bool.and_eq_true, decide_eq_true_eq] at hw ⊢
    exact ⟨by omega, hw.2⟩

theorem FMap.wfFrom_set {α : Type} {b k : Nat} (v : α) (hk : b ≤ k) :
    ∀ {m : List (Nat × α)}, FMap.wfFrom b m = true → FMap.wfFrom b (FMap.set m k v) = true
  | [], _ => by simp [FMap.set, FMap.wfFrom, hk]
  | (c, w) :: m, h => by
    simp only [FMap.wfFrom, Bool.and_eq_true, decide_eq_true_eq] at h
    simp only [FMap.set]
    split
    · subst c; simp [FMap.wfFrom, hk, h.2]
    · split
      · simp only [FMap.wfFrom, Bool.and_eq_true, decide_eq_true_eq]
        exact ⟨hk, by omega, h.2⟩
      · simp only [FMap.wfFrom, Bool.and_eq_true, decide_eq_true_eq]
        exact ⟨h.1, FMap.wfFrom_set v (by omega) h.2⟩

theorem FMap.wf_set {α : Type} {m : List (Nat × α)} (k : Nat) (v : α) (h : FMap.wf m = true) : FMap.wf (FMap.set m k v) = true :=
  FMap.wfFrom_set v (Nat.zero_le k) h

theorem FMap.wfFrom_erase {α : Type} {k : Nat} :
    ∀ {b : Nat} {m : List (Nat × α)}, FMap.wfFrom b m = true → FMap.wfFrom b (FMap.erase m k) = true
  | _, [], _ => rfl
  | b, (c, w) :: m, h => by
    simp only [FMap.wfFrom, Bool.and_eq_true, decide_eq_true_eq] at h
    simp only [FMap.erase]
    split
    · exact FMap.wfFrom_mono (by omega) h.2
    · split
      · simp only [FMap.wfFrom, Bool.and_eq_true, decide_eq_true_eq]; exact h
      · simp only [FMap.wfFrom, Bool.and_eq_true, decide_eq_true_eq]; exact ⟨h.1, FMap.wfFrom_erase h.2⟩

theorem FMap.wf_erase {α : Type} {m : List (Nat × α)} (k : Nat) (h : FMap.wf m = true) : FMap.wf (FMap.erase m k) = true :=
  FMap.wfFrom_erase h

theorem FMap.get?_below {α : Type} {b k : Nat} (h : k < b) :
    ∀ {m : List (Nat × α)}, FMap.wfFrom b m = true → FMap.get? m k = none
  | [], _ => rfl
  | (c, w) :: m, hw => by
    simp only [FMap.wfFrom, Bool.and_eq_true, decide_eq_true_eq] at hw
    simp only [FMap.get?]
    rw [if_neg (by omega), if_pos (by omega)]

theorem FMap.get?_erase {α : Type} {k : Nat} (k' : Nat) :
    ∀ {b : Nat} {m : List (Nat × α)}, FMap.wfFrom b m = true →
      FMap.get? (FMap.erase m k) k' = if k' = k then none else FMap.get? m k'
  | _, [], _ => by simp [FMap.erase, FMap.get?]
  | b, (c, w) :: m, h => by
    simp only [FMap.wfFrom, Bool.and_eq_true, decide_eq_true_eq] at h
    simp only [FMap.erase]
    split
    · next e =>
      subst e
      split
      · next e => subst e; exact FMap.get?_below (by omega) h.2
      · next e =>
        simp only [FMap.get?]
        rw [if_neg (Ne.symm e)]
        split
        · exact FMap.get?_below (by omega) h.2
        · rfl
    · next e =>
      split
      · next l =>
        simp only [FMap.get?]
        split
        · next e2 => rw [if_neg (by omega)]
        · split
          · split <;> rfl
          · next l2 =>
            split
            · next e3 => subst e3; exact absurd l (by omega)
            · rfl
      · simp only [FMap.get?]
        split
        · rw [if_neg (by omega)]
        · split
          · split <;> rfl
          · rw [FMap.get?_erase k' h.2]

theorem FMap.wfFrom_map {α : Type} {f : Nat × α → Nat × α} (hf : ∀ x, (f x).1 = x.1) :
    ∀ {b : Nat} {m : List (Nat × α)}, FMap.wfFrom b m = true → FMap.wfFrom b (m.map f) = true
  | _, [], _ => rfl
  | b, c :: m, h => by
    obtain ⟨c, w⟩ := c
    simp only [FMap.wfFrom, Bool.and_eq_true, decide_eq_true_eq] at h
    have e := hf (c, w)
    rw [List.map_cons]
    rcases hx : f (c, w) with ⟨c', w'⟩
    rw [hx] at e
    simp only at e
    subst e
    simp only [FMap.wfFrom, Bool.and_eq_true, decide_eq_true_eq]
    exact ⟨h.1, FMap.wfFrom_map hf h.2⟩

theorem FMap.wfFrom_filter {α : Type} (p : Nat × α → Bool) :
    ∀ {b : Nat} {m : List (Nat × α)}, FMap.wfFrom b m = true → FMap.wfFrom b (m.filter p) = true
  | _, [], _ => rfl
  | b, (c, w) :: m, h => by
    simp only [FMap.wfFrom, Bool.and_eq_true, decide_eq_true_eq] at h
    simp only [List.filter]
    split
    · simp only [FMap.wfFrom, Bool.and_eq_true, decide_eq_true_eq]; exact ⟨h.1, FMap.wfFrom_filter p h.2⟩
    · exact FMap.wfFrom_mono (by omega) (FMap.wfFrom_filter p h.2)

theorem FMap.wf_filter {α : Type} {m : List (Nat × α)} (p : Nat × α → Bool) (h : FMap.wf m = true) : FMap.wf (m.filter p) = true :=
  FMap.wfFrom_filter p h

theorem setOr0_wf {m : List (Nat × Word64)} (k : Nat) (v : Word64) (h : FMap.wf m = true) : FMap.wf (setOr0 m k v) = true := by
  unfold setOr0
  split
  · exact FMap.wf_erase k h
  · exact FMap.wf_set k v h

theorem setOr0_ne {m : List (Nat × Word64)} {k k' : Nat} (v : Word64) (h : FMap.wf m = true) (hk : k' ≠ k) :
    FMap.get? (setOr0 m k v) k' = FMap.get? m k' := by
  unfold setOr0
  split
  · rw [FMap.get?_erase k' h, if_neg hk]
  · exact FMap.get?_set_ne m v hk

/-- A map entry set, or removed at 0, reads as what was put. -/
theorem setOr0_self {m : List (Nat × Word64)} (k : Nat) (v : Word64) (h : FMap.wf m = true) :
    (FMap.get? (setOr0 m k v) k).getD 0 = v := by
  unfold setOr0
  split
  · next e => rw [FMap.get?_erase k h, if_pos rfl, e]; rfl
  · rw [FMap.get?_set_self]; rfl

/-! ### Lists changed at one place -/

@[simp] theorem length_modifyAt {α : Type} (l : List α) (i : Nat) (f : α → α) : (modifyAt l i f).length = l.length := by
  unfold modifyAt
  split <;> simp

theorem getElem?_modifyAt {α : Type} (l : List α) (i j : Nat) (f : α → α) :
    (modifyAt l i f)[j]? = if j = i then l[j]?.map f else l[j]? := by
  unfold modifyAt
  split
  · next x hx =>
    rw [List.getElem?_set]
    split
    · next e => subst e; rw [if_pos rfl, hx]; simp [(List.getElem?_eq_some_iff.mp hx).1]
    · next e => rw [if_neg (Ne.symm e)]
  · next hx =>
    split
    · next e => subst e; rw [hx]; rfl
    · rfl

/-- A projection that the change keeps is the same list over the entries. -/
theorem map_modifyAt {α β : Type} (l : List α) (i : Nat) (f : α → α) (g : α → β) (h : ∀ x, g (f x) = g x) :
    (modifyAt l i f).map g = l.map g := by
  apply List.ext_getElem?
  intro j
  rw [List.getElem?_map, List.getElem?_map, getElem?_modifyAt]
  split
  · cases l[j]? <;> simp [h]
  · rfl

/-! ### Memory -/

/-- No entry equal to what an unlisted address reads as. -/
abbrev memListed (m : List Host.Cell) : Prop := ∀ c ∈ m, c.2 ≠ memDefault c.1

theorem memory_wf_iff {m : List Host.Cell} : Memory.wf m = true ↔ FMap.wf m = true ∧ memListed m := by
  simp only [Memory.wf, Bool.and_eq_true, List.all_eq_true, Bool.not_eq_true', beq_eq_false_iff_ne, memListed]

theorem memory_wf_filter {m : List Host.Cell} (p : Host.Cell → Bool) (h : Memory.wf m = true) :
    Memory.wf (m.filter p) = true := by
  rw [memory_wf_iff] at h ⊢
  exact ⟨FMap.wf_filter p h.1, fun c hc => h.2 c (List.mem_filter.mp hc).1⟩

theorem memCells_listed (k : Nat) (bs : List Byte) : memListed (memCells k bs) := by
  induction bs generalizing k with
  | nil => intro c hc; cases hc
  | cons b bs ih =>
    simp only [memCells]
    split
    · exact ih (k + 1)
    · next h =>
      intro c hc
      rcases List.mem_cons.mp hc with e | hc
      · subst e; exact h
      · exact ih (k + 1) c hc

theorem memFrom_listed {k : Nat} {m : List Host.Cell} (h : memListed m) : memListed (memFrom k m) := by
  induction m with
  | nil => exact h
  | cons c m ih =>
    simp only [memFrom]
    split
    · exact ih fun d hd => h d (List.mem_cons_of_mem _ hd)
    · exact h

theorem memFrom_wfFrom {k b : Nat} : ∀ {m : List Host.Cell}, FMap.wfFrom b m = true → FMap.wfFrom (max b k) (memFrom k m) = true
  | [], _ => rfl
  | (c, w) :: m, h => by
    simp only [FMap.wfFrom, Bool.and_eq_true, decide_eq_true_eq] at h
    simp only [memFrom]
    split
    · exact FMap.wfFrom_mono (by omega) (memFrom_wfFrom (k := k) h.2)
    · simp only [FMap.wfFrom, Bool.and_eq_true, decide_eq_true_eq]; exact ⟨by omega, h.2⟩

theorem memCells_append_wfFrom (bs : List Byte) {k b : Nat} {m : List Host.Cell} (hb : b ≤ k)
    (h : FMap.wfFrom (k + bs.length) m = true) : FMap.wfFrom b (memCells k bs ++ m) = true := by
  induction bs generalizing k b with
  | nil => exact FMap.wfFrom_mono hb h
  | cons x bs ih =>
    have h' : FMap.wfFrom (k + 1 + bs.length) m = true := by
      rw [List.length_cons] at h
      rwa [show k + 1 + bs.length = k + (bs.length + 1) by omega]
    simp only [memCells]
    split
    · exact ih (by omega) h'
    · simp only [List.cons_append, FMap.wfFrom, Bool.and_eq_true, decide_eq_true_eq]
      exact ⟨hb, ih (Nat.le_refl _) h'⟩

theorem memPut_wfFrom (bs : List Byte) {k : Nat} : ∀ {b : Nat} {m : List Host.Cell}, b ≤ k → FMap.wfFrom b m = true →
    FMap.wfFrom b (memPut k bs m) = true
  | b, [], hb, _ => by
    have := memCells_append_wfFrom bs (m := []) hb rfl
    rw [List.append_nil] at this
    exact this
  | b, (c, w) :: m, hb, h => by
    simp only [memPut]
    split
    · next hc =>
      simp only [FMap.wfFrom, Bool.and_eq_true, decide_eq_true_eq] at h ⊢
      exact ⟨h.1, memPut_wfFrom bs (by omega) h.2⟩
    · exact memCells_append_wfFrom bs hb (FMap.wfFrom_mono (by omega) (memFrom_wfFrom (k := k + bs.length) h))

theorem memPut_listed (bs : List Byte) {k : Nat} : ∀ {m : List Host.Cell}, memListed m → memListed (memPut k bs m)
  | [], _ => memCells_listed k bs
  | c :: m, h => by
    simp only [memPut]
    split
    · intro d hd
      rcases List.mem_cons.mp hd with e | hd
      · subst e; exact h d List.mem_cons_self
      · exact memPut_listed bs (fun e he => h e (List.mem_cons_of_mem _ he)) d hd
    · intro d hd
      rcases List.mem_append.mp hd with hd | hd
      · exact memCells_listed k bs d hd
      · exact memFrom_listed h d hd

/-- Writing bytes keeps the canonical form of memory. -/
theorem memPut_wf {m : List Host.Cell} (k : Nat) (bs : List Byte) (h : Memory.wf m = true) : Memory.wf (memPut k bs m) = true := by
  rw [memory_wf_iff] at h ⊢
  exact ⟨memPut_wfFrom bs (Nat.zero_le k) h.1, memPut_listed bs h.2⟩

theorem memSet_wf {m : List Host.Cell} (k : Nat) (b : Byte) (h : Memory.wf m = true) : Memory.wf (memSet m k b) = true :=
  memPut_wf k [b] h

end Sys2Proof.Machine
end

