-- ==== Sys2Proof/Laws/Within.lean ====
section
/-!
SUPPORT. `Within W s t`: from `s` to `t` nothing has changed but the areas whose bits `W` has, the part, the queue of commands
and the model's clock are the same, every unit is still there, the maps keep their canonical form, and nothing programmed in
OTP is lost. Each operation of the model has one lemma of this form; a chain of operations has the one of its parts.
-/

namespace Sys2Proof.Machine

/-- The bit of an area: its place in the declaration. -/
abbrev Area.bit (a : Area) : Nat := a.ctorIdx

/-- An area may differ only where the mask has its bit; the registers' areas are read under canonical maps. -/
structure Within (W : Nat) (s t : State) : Prop where
  part      : t.part = s.part
  pending   : t.pending = s.pending
  now       : t.now = s.now
  units     : s.units = partUnits s.part → t.units = partUnits s.part
  canonical : s.canonical → t.canonical
  otp       : OtpKept s.spine.otp t.spine.otp
  areas     : ∀ a : Area, W.testBit a.bit = false → s.canonical → a.same s t

theorem OtpKept.refl (x : Otp) : OtpKept x x :=
  ⟨rfl, rfl, rfl, rfl, rfl, rfl, fun _ h => h, fun _ h => h, Nat.le_refl _, Nat.le_refl _⟩

theorem OtpKept.trans {x y z : Otp} (h : OtpKept x y) (k : OtpKept y z) : OtpKept x z := by
  obtain ⟨a1, a2, a3, a4, a5, a6, a7, a8, a9, a10⟩ := h
  obtain ⟨b1, b2, b3, b4, b5, b6, b7, b8, b9, b10⟩ := k
  exact ⟨b1.trans a1, b2.trans a2, b3.trans a3, b4.trans a4, b5.trans a5, b6.trans a6, fun k h => b7 k (a7 k h),
    fun k h => b8 k (a8 k h), Nat.le_trans a9 b9, Nat.le_trans a10 b10⟩

theorem sameRegs.refl (p : Nat → Bool) (s : State) : sameRegs p s s := fun _ _ => rfl

theorem sameRegs.trans {p : Nat → Bool} {s t u : State} (h : sameRegs p s t) (k : sameRegs p t u) : sameRegs p s u :=
  fun a ha => (k a ha).trans (h a ha)

theorem Area.same_refl (s : State) (a : Area) : a.same s s := by
  cases a <;> simp [Area.same, sameRegs]

theorem Area.same_trans {s t u : State} (a : Area) (h : a.same s t) (k : a.same t u) : a.same s u := by
  cases a <;> simp only [Area.same, sameRegs] at h k ⊢
  case ownRegs => exact fun a ha => (k a ha).trans (h a ha)
  case commonRegs => exact fun a ha => (k a ha).trans (h a ha)
  case counters => exact ⟨fun a ha => (k.1 a ha).trans (h.1 a ha), k.2.trans h.2⟩
  all_goals first
    | exact k.trans h
    | exact ⟨k.1.trans h.1, k.2.trans h.2⟩
    | exact ⟨k.1.trans h.1, k.2.1.trans h.2.1, k.2.2.trans h.2.2⟩
    | exact ⟨k.1.trans h.1, k.2.1.trans h.2.1, k.2.2.1.trans h.2.2.1, k.2.2.2.trans h.2.2.2⟩

theorem and_trans {U V W : Nat} (h : U &&& V = U) (k : V &&& W = V) : U &&& W = U := by
  rw [← h, Nat.and_assoc, k]

theorem Within.refl (W : Nat) (s : State) : Within W s s :=
  ⟨rfl, rfl, rfl, id, id, OtpKept.refl _, fun a _ _ => Area.same_refl s a⟩

theorem testBit_sub {V W i : Nat} (h : V &&& W = V) (hi : W.testBit i = false) : V.testBit i = false := by
  rw [← h, Nat.testBit_and, hi, Bool.and_false]

/-- One operation after others, whose areas the mask has. -/
theorem Within.step {V W : Nat} {s t u : State} (k : Within V t u) (h : V &&& W = V) (g : Within W s t) : Within W s u :=
  ⟨k.part.trans g.part, k.pending.trans g.pending, k.now.trans g.now, fun e => (k.units (g.part ▸ g.units e)).trans (g.part ▸ rfl), fun c => k.canonical (g.canonical c),
    g.otp.trans k.otp, fun a ha c => Area.same_trans a (g.areas a ha c) (k.areas a (testBit_sub h ha) (g.canonical c))⟩

theorem Within.mono {V W : Nat} {s t : State} (k : Within V s t) (h : V &&& W = V) : Within W s t :=
  k.step h (Within.refl W s)

/-- A state and another one that came out of an operation with it. -/
theorem Within.pair {α : Type} {V W : Nat} {x : α × State} {y : α} {s s' t : State} (e : x = (y, t)) (k : Within V s' x.2)
    (h : V &&& W = V) (g : Within W s s') : Within W s t := by
  subst e
  exact Within.step k h g

theorem Within.ofPair {α : Type} {W : Nat} {x : α × State} {y : α} {s t : State} (e : x = (y, t)) (h : Within W s x.2) :
    Within W s t := by
  subst e; exact h

theorem Within.getD {W : Nat} {o : Option State} {s t : State} (h : ∀ u, o = some u → Within W s u) (k : Within W s t) :
    Within W s (o.getD t) := by
  cases o with
  | none => exact k
  | some u => exact h u rfl

theorem Within.foldl {α : Type} {W : Nat} {s : State} {f : State → α → State} (hf : ∀ t x, Within W s t → Within W s (f t x))
    {l : List α} {t : State} (h : Within W s t) : Within W s (l.foldl f t) := by
  induction l generalizing t with
  | nil => exact h
  | cons x l ih => exact ih (hf t x h)

theorem Within.foldl_mem {α : Type} {W : Nat} {s : State} {f : State → α → State} :
    ∀ {l : List α} {t : State}, (∀ t x, x ∈ l → Within W s t → Within W s (f t x)) → Within W s t → Within W s (l.foldl f t)
  | [], _, _, h => h
  | x :: l, t, hf, h =>
    Within.foldl_mem (l := l) (fun t y hy => hf t y (List.mem_cons_of_mem x hy)) (hf t x List.mem_cons_self h)

/-- A fold with something beside the state. -/
theorem Within.foldl_snd {α β : Type} {W : Nat} {s : State} {f : β × State → α → β × State}
    (hf : ∀ t x, Within W s t.2 → Within W s (f t x).2) {l : List α} {t : β × State} (h : Within W s t.2) :
    Within W s (l.foldl f t).2 := by
  induction l generalizing t with
  | nil => exact h
  | cons x l ih => exact ih (hf t x h)
theorem Within.foldl_fst {α β : Type} {W : Nat} {s : State} {f : State × β → α → State × β}
    (hf : ∀ t x, Within W s t.1 → Within W s (f t x).1) {l : List α} {t : State × β} (h : Within W s t.1) :
    Within W s (l.foldl f t).1 := by
  induction l generalizing t with
  | nil => exact h
  | cons x l ih => exact ih (hf t x h)

theorem Within.ite {W : Nat} {c : Prop} [Decidable c] {s t u : State} (h : c → Within W s t) (k : ¬ c → Within W s u) :
    Within W s (if c then t else u) := by
  split
  · exact h ‹_›
  · exact k ‹_›

/-- `Within` of a state written out by its fields. -/
def WithinMk (W : Nat) (s t : State) : Prop := Within W s t

theorem Within.mk_iff {W : Nat} {s : State}
    {part pending now free mem regs totals shadows lowHalves dies fns rkOwner granules queues qps execs doorbells requests
    stops stopsLost arrivals colophonOut thermAlert brakePin keys ready recipes checks spine board powerReq powerRefused
    powerMove powerNext outbox} :
    Within W s (State.mk
      part pending now free mem regs totals shadows lowHalves dies fns rkOwner granules queues qps execs doorbells requests
      stops stopsLost arrivals colophonOut thermAlert brakePin keys ready recipes checks spine board powerReq powerRefused
      powerMove powerNext outbox) ↔
    WithinMk W s (State.mk
      part pending now free mem regs totals shadows lowHalves dies fns rkOwner granules queues qps execs doorbells requests
      stops stopsLost arrivals colophonOut thermAlert brakePin keys ready recipes checks spine board powerReq powerRefused
      powerMove powerNext outbox) := Iff.rfl

/-- Fields replaced beside memory, registers and dies: those whose areas the mask has, the units kept, OTP kept. -/
theorem WithinMk.put {W : Nat} {s t : State} {free shadows lowHalves fns rkOwner granules queues qps execs doorbells requests stops stopsLost arrivals colophonOut thermAlert brakePin keys ready recipes checks spine board powerReq powerRefused powerMove powerNext outbox}
    (h :
    (W.testBit 17 = true ∨ free = t.free) ∧ (W.testBit 4 = true ∨ shadows = t.shadows) ∧
    (W.testBit 4 = true ∨ lowHalves = t.lowHalves) ∧ (W.testBit 5 = true ∨ fns = t.fns) ∧
    (W.testBit 6 = true ∨ rkOwner = t.rkOwner) ∧ (W.testBit 6 = true ∨ granules = t.granules) ∧
    (W.testBit 7 = true ∨ queues = t.queues) ∧ (W.testBit 8 = true ∨ qps = t.qps) ∧ (W.testBit 9 = true ∨ execs = t.execs) ∧
    (W.testBit 11 = true ∨ doorbells = t.doorbells) ∧ (W.testBit 12 = true ∨ requests = t.requests) ∧
    (W.testBit 7 = true ∨ stops = t.stops) ∧ (W.testBit 7 = true ∨ stopsLost = t.stopsLost) ∧
    (W.testBit 10 = true ∨ arrivals = t.arrivals) ∧ (W.testBit 13 = true ∨ colophonOut = t.colophonOut) ∧
    (W.testBit 13 = true ∨ thermAlert = t.thermAlert) ∧ (W.testBit 13 = true ∨ brakePin = t.brakePin) ∧
    (W.testBit 14 = true ∨ keys = t.keys) ∧ (W.testBit 15 = true ∨ ready = t.ready) ∧
    (W.testBit 16 = true ∨ recipes = t.recipes) ∧ (W.testBit 17 = true ∨ checks = t.checks) ∧
    (W.testBit 18 = true ∨ spine = t.spine) ∧ (W.testBit 20 = true ∨ board = t.board) ∧
    (W.testBit 21 = true ∨ powerReq = t.powerReq) ∧ (W.testBit 21 = true ∨ powerRefused = t.powerRefused) ∧
    (W.testBit 21 = true ∨ powerMove = t.powerMove) ∧ (W.testBit 21 = true ∨ powerNext = t.powerNext) ∧
    (W.testBit 22 = true ∨ outbox = t.outbox) ∧ fns.length = t.fns.length ∧ rkOwner.length = t.rkOwner.length ∧
    spine.slots.length = t.spine.slots.length ∧ OtpKept t.spine.otp spine.otp ∧
    (W.testBit 19 = true ∨ spine.otp = t.spine.otp))
    (g : Within W s t) :
    WithinMk W s (State.mk t.part t.pending t.now free t.mem t.regs t.totals shadows lowHalves t.dies fns rkOwner granules queues qps execs doorbells requests stops stopsLost arrivals colophonOut thermAlert brakePin keys ready recipes checks spine board powerReq powerRefused powerMove powerNext outbox) := by
  unfold WithinMk
  obtain ⟨c_free, c_shadows, c_lowHalves, c_fns, c_rkOwner, c_granules, c_queues, c_qps, c_execs, c_doorbells, c_requests, c_stops, c_stopsLost, c_arrivals, c_colophonOut, c_thermAlert, c_brakePin, c_keys, c_ready, c_recipes, c_checks, c_spine, c_board, c_powerReq, c_powerRefused, c_powerMove, c_powerNext, c_outbox, l1, l2, l3, ok, c_otp⟩ := h
  refine Within.step (V := W) ?_ (Nat.and_self W) g
  refine ⟨rfl, rfl, rfl, ?_, fun c => c, ok, ?_⟩
  · exact fun e => .trans (by simp only [State.units, l1, l2, l3]) e
  · intro a ha _
    cases a <;> simp only [Area.same, sameRegs, implies_true, and_self]
    case halves => exact ⟨c_shadows.resolve_left (by simp_all [Area.bit, Area.ctorIdx]), c_lowHalves.resolve_left (by simp_all [Area.bit, Area.ctorIdx])⟩
    case functions => exact c_fns.resolve_left (by simp_all [Area.bit, Area.ctorIdx])
    case holdings => exact ⟨c_rkOwner.resolve_left (by simp_all [Area.bit, Area.ctorIdx]), c_granules.resolve_left (by simp_all [Area.bit, Area.ctorIdx])⟩
    case queues => exact ⟨c_queues.resolve_left (by simp_all [Area.bit, Area.ctorIdx]), c_stops.resolve_left (by simp_all [Area.bit, Area.ctorIdx]), c_stopsLost.resolve_left (by simp_all [Area.bit, Area.ctorIdx])⟩
    case qps => exact c_qps.resolve_left (by simp_all [Area.bit, Area.ctorIdx])
    case descriptors => exact c_execs.resolve_left (by simp_all [Area.bit, Area.ctorIdx])
    case arrivals => exact c_arrivals.resolve_left (by simp_all [Area.bit, Area.ctorIdx])
    case doorbells => exact c_doorbells.resolve_left (by simp_all [Area.bit, Area.ctorIdx])
    case requests => exact c_requests.resolve_left (by simp_all [Area.bit, Area.ctorIdx])
    case pins => exact ⟨c_colophonOut.resolve_left (by simp_all [Area.bit, Area.ctorIdx]), c_thermAlert.resolve_left (by simp_all [Area.bit, Area.ctorIdx]), c_brakePin.resolve_left (by simp_all [Area.bit, Area.ctorIdx])⟩
    case keys => exact c_keys.resolve_left (by simp_all [Area.bit, Area.ctorIdx])
    case ready => exact c_ready.resolve_left (by simp_all [Area.bit, Area.ctorIdx])
    case recipes => exact c_recipes.resolve_left (by simp_all [Area.bit, Area.ctorIdx])
    case model => exact ⟨c_free.resolve_left (by simp_all [Area.bit, Area.ctorIdx]), c_checks.resolve_left (by simp_all [Area.bit, Area.ctorIdx])⟩
    case spine => exact c_spine.resolve_left (by simp_all [Area.bit, Area.ctorIdx])
    case otp => exact c_otp.resolve_left (by simp_all [Area.bit, Area.ctorIdx])
    case board => exact c_board.resolve_left (by simp_all [Area.bit, Area.ctorIdx])
    case powerState => exact ⟨c_powerReq.resolve_left (by simp_all [Area.bit, Area.ctorIdx]), c_powerRefused.resolve_left (by simp_all [Area.bit, Area.ctorIdx]), c_powerMove.resolve_left (by simp_all [Area.bit, Area.ctorIdx]), c_powerNext.resolve_left (by simp_all [Area.bit, Area.ctorIdx])⟩
    case outbox => exact c_outbox.resolve_left (by simp_all [Area.bit, Area.ctorIdx])

theorem Within.pair2 {α β : Type} {V W : Nat} {x : α × β × State} {y : α} {z : β} {s s' t : State} (e : x = (y, z, t))
    (k : Within V s' x.2.2) (h : V &&& W = V) (g : Within W s s') : Within W s t := by
  subst e
  exact Within.step k h g

theorem Within.ofSome {V W : Nat} {x : Option State} {s s' t : State} (e : x = some t) (k : ∀ t, x = some t → Within V s' t)
    (h : V &&& W = V) (g : Within W s s') : Within W s t := (k t e).step h g

/-! ### Outcomes -/

/-- A command's next state lies within a mask. -/
def RWithin (W : Nat) (s : State) (r : Result) : Prop := ∀ t, r = .next t → Within W s t

theorem RWithin.next {W : Nat} {s t : State} (h : Within W s t) : RWithin W s (.next t) := by
  intro u e
  cases e
  exact h
theorem RWithin.fault {W : Nat} {s : State} {f : Fault} : RWithin W s (.fault f) := by intro u e; cases e
theorem RWithin.mono {V W : Nat} {s : State} {r : Result} (k : RWithin V s r) (h : V &&& W = V) : RWithin W s r :=
  fun t e => (k t e).mono h
theorem RWithin.step {V W : Nat} {s t : State} {r : Result} (k : RWithin V t r) (h : V &&& W = V) (g : Within W s t) :
    RWithin W s r := fun u e => (k u e).step h g
theorem RWithin.ite {W : Nat} {c : Prop} [Decidable c] {s : State} {r q : Result} (h : c → RWithin W s r)
    (k : ¬ c → RWithin W s q) : RWithin W s (if c then r else q) := by
  split
  · exact h ‹_›
  · exact k ‹_›
theorem RWithin.atDie {W d : Nat} {s s' t : State} (h : Within W s t) : RWithin W s (atDie s' d t) :=
  RWithin.ite (fun _ => RWithin.next h) fun _ => RWithin.fault
theorem RWithin.atUnit {W d : Nat} {ok : Bool} {s s' t : State} (h : Within W s t) : RWithin W s (atUnit s' d ok t) :=
  RWithin.ite (fun _ => RWithin.ite (fun _ => RWithin.next h) fun _ => RWithin.fault) fun _ => RWithin.fault
theorem RWithin.atFn {W f : Nat} {s s' t : State} (h : Within W s t) : RWithin W s (atFn s' f t) :=
  RWithin.ite (fun _ => RWithin.next h) fun _ => RWithin.fault
theorem Within.next {V W : Nat} {r : Result} {s s' t : State} (e : r = .next t) (k : RWithin V s' r) (h : V &&& W = V)
    (g : Within W s s') : Within W s t := (k t e).step h g

/-! ### Work that may halt -/

/-- Every run of a piece of work ends within a mask. -/
def MWithin {ε α : Type} (W : Nat) (act : ExceptT ε (StateM State) α) : Prop := ∀ s : State, Within W s (act.run s).2

theorem MWithin.pure {ε α : Type} {W : Nat} {a : α} : MWithin W (Pure.pure a : ExceptT ε (StateM State) α) :=
  fun s => Within.refl W s
theorem MWithin.throw {ε α : Type} {W : Nat} {e : ε} : MWithin W (throw e : ExceptT ε (StateM State) α) :=
  fun s => Within.refl W s
theorem MWithin.get {ε : Type} {W : Nat} : MWithin W (get : ExceptT ε (StateM State) State) := fun s => Within.refl W s
theorem MWithin.modify {ε : Type} {W : Nat} {f : State → State} (h : ∀ s, Within W s (f s)) :
    MWithin W (modify f : ExceptT ε (StateM State) PUnit) := fun s => h s
theorem MWithin.modifyGet {ε α : Type} {W : Nat} {f : State → α × State} (h : ∀ s, Within W s (f s).2) :
    MWithin W (modifyGet f : ExceptT ε (StateM State) α) := fun s => h s
theorem MWithin.mono {ε α : Type} {V W : Nat} {act : ExceptT ε (StateM State) α} (k : MWithin V act) (h : V &&& W = V) :
    MWithin W act := fun s => (k s).mono h
theorem MWithin.bind {ε α β : Type} {W : Nat} {x : ExceptT ε (StateM State) α} {f : α → ExceptT ε (StateM State) β}
    (h : MWithin W x) (k : ∀ a, MWithin W (f a)) : MWithin W (x >>= f) := by
  intro s
  have hx := h s
  have e : (x >>= f).run s = (ExceptT.bindCont f (x.run s).1).run (x.run s).2 := rfl
  rw [e]
  revert hx
  generalize x.run s = p
  obtain ⟨r, t⟩ := p
  intro hx
  cases r with
  | ok a => exact Within.step (k a t) (Nat.and_self W) hx
  | error c => exact hx
theorem MWithin.ite {ε α : Type} {W : Nat} {c : Prop} [Decidable c] {x y : ExceptT ε (StateM State) α} (h : c → MWithin W x)
    (k : ¬ c → MWithin W y) : MWithin W (if c then x else y) := by
  split
  · exact h ‹_›
  · exact k ‹_›
theorem MWithin.tryCatch {ε α : Type} {W : Nat} {x : ExceptT ε (StateM State) α} {f : ε → ExceptT ε (StateM State) α}
    (h : MWithin W x) (k : ∀ e, MWithin W (f e)) : MWithin W (MonadExcept.tryCatch x f) := by
  intro s
  have hx := h s
  have e : (MonadExcept.tryCatch x f).run s =
      (match (x.run s).1 with | Except.ok a => (Pure.pure (Except.ok a) : StateM State (Except ε α)) | Except.error c => f c)
        (x.run s).2 := rfl
  rw [e]
  revert hx
  generalize x.run s = p
  obtain ⟨r, t⟩ := p
  intro hx
  cases r with
  | ok a => exact hx
  | error c => exact Within.step (k c t) (Nat.and_self W) hx
theorem MWithin.forIn {ε α β : Type} {W : Nat} {l : List α} {b : β} {f : α → β → ExceptT ε (StateM State) (ForInStep β)}
    (h : ∀ a b, MWithin W (f a b)) : MWithin W (forIn l b f) := by
  induction l generalizing b with
  | nil => exact MWithin.pure
  | cons a l ih =>
    rw [List.forIn_cons]
    refine MWithin.bind (h a b) fun r => ?_
    cases r with
    | done b => exact MWithin.pure
    | yield b => exact ih
theorem MWithin.mapM {ε α β : Type} {W : Nat} {l : List α} {f : α → ExceptT ε (StateM State) β}
    (h : ∀ a, MWithin W (f a)) : MWithin W (l.mapM f) := by
  rw [← List.mapM'_eq_mapM]
  induction l with
  | nil => exact MWithin.pure
  | cons a l ih =>
    rw [List.mapM'_cons]
    exact MWithin.bind (h a) fun _ => MWithin.bind ih fun _ => MWithin.pure
/-- A piece of work run, with what came out of it. -/
theorem Within.run {ε α : Type} {V W : Nat} {act : ExceptT ε (StateM State) α} {s s' : State} (k : MWithin V act)
    (h : V &&& W = V) (g : Within W s s') : Within W s (act.run s').2 := (k s').step h g
theorem Within.app {ε α : Type} {V W : Nat} {act : ExceptT ε (StateM State) α} {s s' : State} (k : MWithin V act)
    (h : V &&& W = V) (g : Within W s s') : Within W s (act s').2 :=
  (k s').step h g

theorem Within.runPair {ε α : Type} {V W : Nat} {act : ExceptT ε (StateM State) α} {r : Except ε α} {s s' t : State}
    (e : act.run s' = (r, t)) (k : MWithin V act) (h : V &&& W = V) (g : Within W s s') : Within W s t :=
  Within.pair e (k s') h g

/-! ### Dies -/

/-- The units of a die, as `Die.units` lists them. -/
abbrev dieUnits : List Nat := [10, 9, 8, 6, 3, 4, 5]

/-- What an area that lies in the dies holds of one die. -/
structure DieWithin (W : Nat) (x y : Die) : Prop where
  units : x.units = dieUnits → y.units = dieUnits
  resets : W.testBit Area.resets.bit = false → y.computeReset = x.computeReset ∧ y.fwdReset = x.fwdReset ∧ y.cmdBusy = x.cmdBusy
  tx : W.testBit Area.transport.bit = false → y.tx = x.tx
  scheds : W.testBit Area.schedulers.bit = false → y.scheds = x.scheds
  router : W.testBit Area.router.bit = false → y.router = x.router
  links : W.testBit Area.links.bit = false → y.links = x.links
  xlate : W.testBit Area.translation.bit = false → y.xlate = x.xlate
  mems : W.testBit Area.controllers.bit = false → y.mems = x.mems
  power : W.testBit Area.power.bit = false → y.power = x.power
  clocks : W.testBit Area.clocks.bit = false → y.clocks = x.clocks
  time : W.testBit Area.time.bit = false → y.time = x.time
  captures : W.testBit Area.captures.bit = false →
    y.captures = x.captures ∧ y.capOrigin = x.capOrigin ∧ y.capTrigger = x.capTrigger
  eth : W.testBit Area.ethernet.bit = false → y.eth = x.eth
  recks : W.testBit Area.reckoners.bit = false → y.recks = x.recks
  groups : W.testBit Area.groups.bit = false → y.groups = x.groups
  integ : W.testBit Area.integrity.bit = false → y.integ = x.integ
  entropy : W.testBit Area.entropy.bit = false → y.entropy = x.entropy

theorem DieWithin.refl (W : Nat) (x : Die) : DieWithin W x x :=
  ⟨id, fun _ => ⟨rfl, rfl, rfl⟩, fun _ => rfl, fun _ => rfl, fun _ => rfl, fun _ => rfl, fun _ => rfl, fun _ => rfl, fun _ => rfl,
    fun _ => rfl, fun _ => rfl, fun _ => ⟨rfl, rfl, rfl⟩, fun _ => rfl, fun _ => rfl, fun _ => rfl, fun _ => rfl, fun _ => rfl⟩

theorem DieWithin.step {V W : Nat} {x y z : Die} (k : DieWithin V y z) (h : V &&& W = V) (g : DieWithin W x y) : DieWithin W x z := by
  constructor
  · exact fun e => k.units (g.units e)
  · exact fun e => ⟨(k.resets (testBit_sub h e)).1.trans (g.resets e).1, (k.resets (testBit_sub h e)).2.1.trans (g.resets e).2.1,
      (k.resets (testBit_sub h e)).2.2.trans (g.resets e).2.2⟩
  · exact fun e => (k.tx (testBit_sub h e)).trans (g.tx e)
  · exact fun e => (k.scheds (testBit_sub h e)).trans (g.scheds e)
  · exact fun e => (k.router (testBit_sub h e)).trans (g.router e)
  · exact fun e => (k.links (testBit_sub h e)).trans (g.links e)
  · exact fun e => (k.xlate (testBit_sub h e)).trans (g.xlate e)
  · exact fun e => (k.mems (testBit_sub h e)).trans (g.mems e)
  · exact fun e => (k.power (testBit_sub h e)).trans (g.power e)
  · exact fun e => (k.clocks (testBit_sub h e)).trans (g.clocks e)
  · exact fun e => (k.time (testBit_sub h e)).trans (g.time e)
  · exact fun e => ⟨(k.captures (testBit_sub h e)).1.trans (g.captures e).1,
      (k.captures (testBit_sub h e)).2.1.trans (g.captures e).2.1, (k.captures (testBit_sub h e)).2.2.trans (g.captures e).2.2⟩
  · exact fun e => (k.eth (testBit_sub h e)).trans (g.eth e)
  · exact fun e => (k.recks (testBit_sub h e)).trans (g.recks e)
  · exact fun e => (k.groups (testBit_sub h e)).trans (g.groups e)
  · exact fun e => (k.integ (testBit_sub h e)).trans (g.integ e)
  · exact fun e => (k.entropy (testBit_sub h e)).trans (g.entropy e)

theorem map_congr_of {α β : Type} {l l' : List α} {g : α → β} (hl : l'.length = l.length)
    (h : ∀ (j : Nat) (x y : α), l[j]? = some x → l'[j]? = some y → g y = g x) : l'.map g = l.map g := by
  apply List.ext_getElem?
  intro j
  rw [List.getElem?_map, List.getElem?_map]
  rcases hx : l[j]? with _ | x <;> rcases hy : l'[j]? with _ | y
  · rfl
  · rw [List.getElem?_eq_none_iff] at hx
    have := (List.getElem?_eq_some_iff.mp hy).1
    omega
  · rw [List.getElem?_eq_none_iff] at hy
    have := (List.getElem?_eq_some_iff.mp hx).1
    omega
  · rw [Option.map_some, Option.map_some, h j x y hx hy]

/-- Dies replaced, each within a mask of what it was. -/
theorem Within.dies {W : Nat} {s t : State} {l : List Die} (hl : l.length = t.dies.length)
    (h : ∀ (j : Nat) (x y : Die), t.dies[j]? = some x → l[j]? = some y → DieWithin W x y) (g : Within W s t) :
    Within W s { t with dies := l } := by
  refine Within.step (V := W) ?_ (Nat.and_self W) g
  refine ⟨rfl, rfl, rfl, ?_, id, OtpKept.refl _, ?_⟩
  · intro e
    have whole : ∀ (j : Nat) (x : Die), t.dies[j]? = some x → x.units = dieUnits := by
      intro j x hx
      have m : x.units ∈ t.dies.map Die.units := List.mem_map_of_mem (List.mem_of_getElem? hx)
      have e' : t.dies.map Die.units = List.replicate t.part.dies dieUnits := congrArg Prod.fst e
      rw [e'] at m
      exact (List.mem_replicate.mp m).2
    refine .trans ?_ e
    simp only [State.units]
    rw [map_congr_of hl fun j x y hx hy => ((h j x y hx hy).units (whole j x hx)).trans (whole j x hx).symm]
  · intro a ha _
    have key {β : Type} (g : Die → β) (hg : ∀ x y, DieWithin W x y → g y = g x) : l.map g = t.dies.map g :=
      map_congr_of hl fun j x y hx hy => hg x y (h j x y hx hy)
    cases a <;> simp only [Area.same, sameRegs, implies_true, and_self]
    case resets => exact key _ fun x y d => by simp [d.resets ha]
    case transport => exact key _ fun x y d => d.tx ha
    case schedulers => exact key _ fun x y d => d.scheds ha
    case router => exact key _ fun x y d => d.router ha
    case links => exact key _ fun x y d => d.links ha
    case translation => exact key _ fun x y d => d.xlate ha
    case controllers => exact key _ fun x y d => d.mems ha
    case power => exact key _ fun x y d => d.power ha
    case clocks => exact key _ fun x y d => d.clocks ha
    case time => exact key _ fun x y d => d.time ha
    case captures => exact key _ fun x y d => by simp [d.captures ha]
    case ethernet => exact key _ fun x y d => d.eth ha
    case reckoners => exact key _ fun x y d => d.recks ha
    case groups => exact key _ fun x y d => d.groups ha
    case integrity => exact key _ fun x y d => d.integ ha
    case entropy => exact key _ fun x y d => d.entropy ha

theorem Within.onDie {W : Nat} {s t : State} {d : Nat} {f : Die → Die} (h : ∀ x, DieWithin W x (f x)) (g : Within W s t) :
    Within W s (t.onDie d f) := by
  refine Within.dies (length_modifyAt _ _ _) ?_ g
  intro j x y hx hy
  rw [getElem?_modifyAt] at hy
  split at hy
  · rw [hx, Option.map_some, Option.some.injEq] at hy
    exact hy ▸ h x
  · rw [hx, Option.some.injEq] at hy
    exact hy ▸ DieWithin.refl W x

theorem Within.mapDies {W : Nat} {s t : State} {f : Die → Die} (h : ∀ x, DieWithin W x (f x)) (g : Within W s t) :
    Within W s { t with dies := t.dies.map f } := by
  refine Within.dies (List.length_map f) ?_ g
  intro j x y hx hy
  rw [List.getElem?_map, hx, Option.map_some, Option.some.injEq] at hy
  exact hy ▸ h x

theorem Within.onFn {W : Nat} {s t : State} {f : Nat} {h : Fn → Fn} (hW : W.testBit Area.functions.bit = true) (g : Within W s t) :
    Within W s (t.onFn f h) := by
  refine Within.step (V := W) ?_ (Nat.and_self W) g
  refine ⟨rfl, rfl, rfl, ?_, id, OtpKept.refl _, ?_⟩
  · exact fun e => .trans (by simp only [State.units, State.onFn, length_modifyAt]) e
  · intro a ha _
    cases a <;> simp only [Area.same, sameRegs, State.onFn, implies_true, and_self]
    case functions => simp [hW] at ha

theorem State.onRouter_step {W d : Nat} {s t : State} {f : Router → Router}
    (hW : W.testBit Area.router.bit = true)
    (hf : ∀ x, (f x).fifos.length = x.fifos.length ∧ (f x).ports.length = x.ports.length) (g : Within W s t) :
    Within W s (t.onRouter d f) := by
  refine Within.onDie (fun x => ?_) g
  refine ⟨?_, fun _ => ⟨rfl, rfl, rfl⟩, fun _ => rfl, fun _ => rfl, fun e => absurd (hW.symm.trans e) (by decide), fun _ => rfl,
    fun _ => rfl, fun _ => rfl, fun _ => rfl, fun _ => rfl, fun _ => rfl, fun _ => ⟨rfl, rfl, rfl⟩, fun _ => rfl, fun _ => rfl,
    fun _ => rfl, fun _ => rfl, fun _ => rfl⟩
  exact fun e => .trans (by simp only [Die.units, (hf x.router).1, (hf x.router).2]) e

/-- A Spine replaced: OTP kept, and the same where the mask lacks it; the slots are still two. -/
structure SpineWithin (W : Nat) (x y : Spine) : Prop where
  kept  : OtpKept x.otp y.otp
  slots : y.slots.length = x.slots.length
  otp   : W.testBit Area.otp.bit = true ∨ y.otp = x.otp

theorem SpineWithin.refl (W : Nat) (x : Spine) : SpineWithin W x x := ⟨OtpKept.refl _, rfl, Or.inr rfl⟩

theorem SpineWithin.step {V W : Nat} {x y z : Spine} (k : SpineWithin V y z) (h : V &&& W = V) (g : SpineWithin W x y) :
    SpineWithin W x z := by
  refine ⟨g.kept.trans k.kept, k.slots.trans g.slots, ?_⟩
  rcases e : W.testBit Area.otp.bit
  · refine Or.inr (.trans (k.otp.resolve_left ?_) (g.otp.resolve_left ?_))
    · rw [testBit_sub h e]; decide
    · rw [e]; decide
  · exact Or.inl rfl

theorem SpineWithin.ite {W : Nat} {c : Prop} [Decidable c] {x y z : Spine} (h : c → SpineWithin W x y)
    (k : ¬ c → SpineWithin W x z) : SpineWithin W x (if c then y else z) := by
  split
  · exact h ‹_›
  · exact k ‹_›

/-- `SpineWithin` of a Spine written out by its fields. -/
def SpineWithinMk (W : Nat) (x y : Spine) : Prop := SpineWithin W x y

theorem SpineWithin.mk_iff {W : Nat} {x : Spine} {phase cold otp flash flashBad slots certs copy sequence formats image inUse
    opened reports misses corrupt quireFailed unlocked nonce fabricKey fabricSeq delivery} :
    SpineWithin W x (Spine.mk phase cold otp flash flashBad slots certs copy sequence formats image inUse opened reports
      misses corrupt quireFailed unlocked nonce fabricKey fabricSeq delivery) ↔
    SpineWithinMk W x (Spine.mk phase cold otp flash flashBad slots certs copy sequence formats image inUse opened reports
      misses corrupt quireFailed unlocked nonce fabricKey fabricSeq delivery) := Iff.rfl

/-- Fields of a Spine replaced beside the slots and OTP. -/
theorem SpineWithin.put {W : Nat} {x y : Spine} {phase cold flash flashBad certs copy sequence formats image inUse opened
    reports misses corrupt quireFailed unlocked nonce fabricKey fabricSeq delivery} (g : SpineWithin W x y) :
    SpineWithinMk W x (Spine.mk phase cold y.otp flash flashBad y.slots certs copy sequence formats image inUse opened
      reports misses corrupt quireFailed unlocked nonce fabricKey fabricSeq delivery) := ⟨g.1, g.2, g.3⟩

/-- Slots and OTP replaced as well. -/
theorem SpineWithin.put2 {W : Nat} {x y : Spine} {phase cold otp flash flashBad slots certs copy sequence formats image inUse
    opened reports misses corrupt quireFailed unlocked nonce fabricKey fabricSeq delivery} (g : SpineWithin W x y)
    (l : slots.length = y.slots.length) (k : OtpKept y.otp otp) (c : W.testBit Area.otp.bit = true ∨ otp = y.otp) :
    SpineWithinMk W x (Spine.mk phase cold otp flash flashBad slots certs copy sequence formats image inUse opened reports
      misses corrupt quireFailed unlocked nonce fabricKey fabricSeq delivery) := by
  refine ⟨g.1.trans k, l.trans g.2, ?_⟩
  rcases c with c | c
  · exact Or.inl c
  · exact g.3.imp id fun e => c.trans e

theorem State.onSpine_at {W : Nat} {s t : State} {f : Spine → Spine} (hW : W.testBit Area.spine.bit = true)
    (k : SpineWithin W t.spine (f t.spine)) (g : Within W s t) : Within W s (t.onSpine f) := by
  refine Within.step (V := W) ?_ (Nat.and_self W) g
  refine ⟨rfl, rfl, rfl, ?_, id, k.kept, ?_⟩
  · exact fun e => .trans (by simp only [State.units, State.onSpine, k.slots]) e
  · intro a ha _
    cases a <;> simp only [Area.same, sameRegs, State.onSpine, implies_true, and_self]
    case spine => exact absurd (hW.symm.trans ha) (by decide)
    case otp => exact k.otp.resolve_left (by rw [ha]; decide)

theorem State.onSpine_step {W : Nat} {s t : State} {f : Spine → Spine} (hW : W.testBit Area.spine.bit = true)
    (hf : ∀ x, SpineWithin W x (f x)) (g : Within W s t) : Within W s (t.onSpine f) := State.onSpine_at hW (hf t.spine) g

theorem DieWithin.ite {W : Nat} {c : Prop} [Decidable c] {x y z : Die} (h : c → DieWithin W x y)
    (k : ¬ c → DieWithin W x z) : DieWithin W x (if c then y else z) := by
  split
  · exact h ‹_›
  · exact k ‹_›

/-! ### Registers, memory, free values, outputs -/

theorem Page.addr_mod (p : Page) : p.addr % 4096 = 0 := by
  obtain ⟨d, k, i⟩ := p
  cases k <;> simp only [Page.addr, Page.off, PageKind.place] <;> omega

/-- A register set where only one of the areas of registers has its offset. -/
theorem State.setReg_within {V : Nat} (p : Page) (off v : Nat) (s : State)
    (h : ∀ a : Area, V.testBit a.bit = false →
      (a = .ownRegs → ¬ (0x100 ≤ off % 4096 ∧ off % 4096 < 0xC00)) ∧ (a = .commonRegs → ¬ off % 4096 < 0x100) ∧
        (a = .counters → ¬ 0xC00 ≤ off % 4096)) : Within V s (s.setReg p off v) := by
  have key (q : Nat → Bool) (hq : q (off % 4096) = false) (c : s.canonical) : sameRegs q s (s.setReg p off v) := by
    intro a ha
    have hm := p.addr_mod
    have ne : a ≠ p.addr + off := by
      intro e
      have : a % 4096 = off % 4096 := by omega
      rw [this, hq] at ha
      cases ha
    simp only [State.setReg]
    split
    · rw [FMap.get?_erase a c.2.1, if_neg ne]
    · exact FMap.get?_set_ne _ _ ne
  refine ⟨rfl, rfl, rfl, id, ?_, OtpKept.refl _, ?_⟩
  · intro c
    refine ⟨c.1, ?_, c.2.2⟩
    simp only [State.setReg]
    split
    · exact FMap.wf_erase _ c.2.1
    · exact FMap.wf_set _ _ c.2.1
  · intro a ha c
    cases a <;> simp only [Area.same, State.setReg, and_self]
    case ownRegs =>
      refine key _ ?_ c
      have := (h _ ha).1 rfl
      simp only [Bool.and_eq_false_iff, decide_eq_false_iff_not]
      omega
    case commonRegs =>
      refine key _ ?_ c
      have := (h _ ha).2.1 rfl
      simpa using this
    case counters =>
      refine ⟨key _ ?_ c, trivial⟩
      have := (h _ ha).2.2 rfl
      simpa using this

theorem State.setReg_common {p : Page} {off v : Nat} {s : State} (h : off < 0x100) : Within 4 s (s.setReg p off v) := by
  refine State.setReg_within p off v s fun a ha => ⟨?_, ?_, ?_⟩
  · rintro rfl; omega
  · rintro rfl; exact absurd ha (by decide)
  · rintro rfl; omega

theorem State.setReg_own {p : Page} {off v : Nat} {s : State} (h : 0x100 ≤ off) (h' : off < 0xC00) : Within 2 s (s.setReg p off v) := by
  refine State.setReg_within p off v s fun a ha => ⟨?_, ?_, ?_⟩
  · rintro rfl; exact absurd ha (by decide)
  · rintro rfl; omega
  · rintro rfl; omega

theorem State.setReg_any {p : Page} {off v : Nat} {s : State} : Within 14 s (s.setReg p off v) := by
  refine State.setReg_within p off v s fun a ha => ⟨?_, ?_, ?_⟩ <;> (rintro rfl; exact absurd ha (by decide))

theorem Page.ctr_mod (p : Page) (k : Nat) : 0xC00 ≤ p.ctr k % 4096 := by
  have := p.addr_mod
  simp only [Page.ctr]
  omega

/-- Counters set in both maps. -/
theorem State.counters_within {s : State} (p : Page) (k : Nat) (v w : Word64) :
    Within 8 s { s with regs := setOr0 s.regs (p.ctr k) v, totals := setOr0 s.totals (p.ctr k) w } := by
  refine ⟨rfl, rfl, rfl, id, fun c => ⟨c.1, setOr0_wf _ _ c.2.1, setOr0_wf _ _ c.2.2⟩, OtpKept.refl _, ?_⟩
  intro a ha c
  have hc := p.ctr_mod k
  cases a <;> simp only [Area.same, sameRegs, and_self]
  case counters => exact absurd ha (by decide)
  case ownRegs =>
    intro a h
    refine setOr0_ne v c.2.1 ?_
    simp only [Bool.and_eq_true, decide_eq_true_eq] at h
    rintro rfl
    omega
  case commonRegs =>
    intro a h
    refine setOr0_ne v c.2.1 ?_
    simp only [decide_eq_true_eq] at h
    rintro rfl
    omega

theorem State.ctrReg_within {s : State} (p : Page) (k : Nat) (v : Word64) :
    Within 8 s { s with regs := setOr0 s.regs (p.ctr k) v } := by
  refine ⟨rfl, rfl, rfl, id, fun c => ⟨c.1, setOr0_wf _ _ c.2.1, c.2.2⟩, OtpKept.refl _, ?_⟩
  intro a ha c
  have hc := p.ctr_mod k
  have ne : ∀ q : Nat → Bool, q (p.ctr k % 4096) = false → sameRegs q s { s with regs := setOr0 s.regs (p.ctr k) v } := by
    intro q hq b hb
    refine setOr0_ne v c.2.1 ?_
    intro e
    rw [e, hq] at hb
    exact absurd hb (by decide)
  cases a <;> simp only [Area.same, implies_true, and_self]
  case counters => exact absurd ha (by decide)
  case ownRegs => exact ne _ (by simp only [Bool.and_eq_false_iff, decide_eq_false_iff_not]; omega)
  case commonRegs => exact ne _ (by simp only [decide_eq_false_iff_not]; omega)

theorem State.count_within {p : Page} {k n : Nat} {s : State} : Within 8 s (s.count p k n) := State.counters_within p k _ _
theorem State.setLevel_within {p : Page} {k n : Nat} {s : State} : Within 8 s (s.setLevel p k n) := State.counters_within p k _ _

theorem State.emit_within {o : Output} {s : State} : Within 4194304 s (s.emit o) := by
  refine ⟨rfl, rfl, rfl, id, id, OtpKept.refl _, ?_⟩
  intro a ha _
  cases a <;> first
    | exact absurd ha (by decide)
    | simp only [Area.same, sameRegs, State.emit, implies_true, and_self]

theorem State.takeFree_within {s : State} : Within 131072 s s.takeFree.2 := by
  refine ⟨rfl, rfl, rfl, id, id, OtpKept.refl _, ?_⟩
  intro a ha _
  cases a <;> first
    | exact absurd ha (by decide)
    | simp only [Area.same, sameRegs, State.takeFree, implies_true, and_self]

theorem State.takeFreeBytes_within {n : Nat} {s : State} : Within 131072 s (State.takeFreeBytes n s).2 := by
  induction n generalizing s with
  | zero => exact Within.refl _ s
  | succ n ih =>
    simp only [State.takeFreeBytes]
    refine Within.step ih rfl ?_
    exact State.takeFree_within

theorem State.setBytes_within {d pa : Nat} {bs : List Byte} {s : State} : Within 1 s (s.setBytes d pa bs) := by
  refine ⟨rfl, rfl, rfl, id, fun c => ⟨memPut_wf _ _ c.1, c.2⟩, OtpKept.refl _, ?_⟩
  intro a ha _
  cases a <;> first
    | exact absurd ha (by decide)
    | simp only [Area.same, sameRegs, State.setBytes, implies_true, and_self]

theorem State.setByte_within {d pa : Nat} {b : Byte} {s : State} : Within 1 s (s.setByte d pa b) := by
  refine ⟨rfl, rfl, rfl, id, fun c => ⟨memSet_wf _ _ c.1, c.2⟩, OtpKept.refl _, ?_⟩
  intro a ha _
  cases a <;> first
    | exact absurd ha (by decide)
    | simp only [Area.same, sameRegs, State.setByte, implies_true, and_self]

end Sys2Proof.Machine
end

