-- ==== Sys2Proof/Laws/Interrupts.lean ====
section
/-!
SUPPORT. What each operation of Machine/Interrupts.lean can change, as a mask of the areas of Safety.lean: bit n of the mask is the
area that the declaration of `Area` lists as its n-th, from 0.
-/

set_option linter.unusedSimpArgs false
set_option linter.unusedVariables false

namespace Sys2Proof.Machine

theorem State.request_within {s l p} : Within 4096 s (State.request s l p) := by
  unfold State.request
  repeat' (first
      | (simp only [Within.mk_iff]; with_reducible apply WithinMk.put; (repeat' (first | (with_reducible exact OtpKept.refl _) | (with_reducible apply And.intro) | exact Or.inl (by decide) | exact Or.inr rfl | (with_reducible rfl) | (simp only [List.length_map, List.length_set, length_modifyAt]; done))))
      | with_reducible apply Within.refl)

theorem State.risen_within {s0 s p} : Within 4096 s (State.risen s0 s p) := by
  unfold State.risen
  repeat' (first
      | with_reducible apply Within.refl
      | (with_reducible apply Within.step; apply State.request_within; decide))

theorem State.raise_within {s p mask} : Within 4100 s (State.raise s p mask) := by
  unfold State.raise
  repeat' (first
      | with_reducible apply Within.refl
      | (with_reducible apply Within.step; (with_reducible apply State.setReg_common); (first | decide | omega); decide)
      | (with_reducible apply Within.step; apply State.risen_within; decide))

theorem State.furtherMessages_within {s p} : Within 4096 s (State.furtherMessages s p) := by
  unfold State.furtherMessages
  repeat' (first
      | with_reducible apply Within.refl
      | (with_reducible apply Within.step; apply State.request_within; decide))

theorem State.setMsix_within {s f v e} : Within 32 s (State.setMsix s f v e) := by
  unfold State.setMsix
  repeat' (first
      | with_reducible apply Within.refl
      | (with_reducible apply Within.onFn; decide))

theorem State.sendMsix_within {s f v} : Within 4194336 s (State.sendMsix s f v) := by
  unfold State.sendMsix
  repeat' (first
      | with_reducible intro _
      | with_reducible apply Within.refl
      | with_reducible apply Within.ite
      | (with_reducible apply Within.step; apply State.setMsix_within; decide)
      | (with_reducible apply Within.step; apply State.emit_within; decide))

theorem State.capture_within {s d n origin at_ out} : Within 8589942794 s (State.capture s d n origin at_ out) := by
  unfold State.capture
  repeat' (first
      | with_reducible intro _
      | (simp only [Within.mk_iff]; with_reducible apply WithinMk.put; (repeat' (first | (with_reducible exact OtpKept.refl _) | (with_reducible apply And.intro) | exact Or.inl (by decide) | exact Or.inr rfl | (with_reducible rfl) | (simp only [List.length_map, List.length_set, length_modifyAt]; done))))
      | (with_reducible apply DieWithin.mk <;> (first | exact fun e => absurd e (by decide) | exact fun _ => rfl | exact fun _ => ⟨rfl, rfl, rfl⟩ | exact fun e => e | exact fun e => .trans (by simp only [Die.units, List.length_map, List.length_set, length_modifyAt]) e))
      | with_reducible apply Within.refl
      | with_reducible apply Within.ite
      | (with_reducible apply Within.step; (with_reducible apply State.setReg_own); (first | decide | omega); (first | decide | omega); decide)
      | (with_reducible apply Within.step; apply State.count_within; decide)
      | with_reducible apply Within.onDie)

theorem State.trigger_within {s d out} : Within 8589942794 s (State.trigger s d out) := by
  unfold State.trigger
  repeat' (first
      | with_reducible apply Within.refl
      | (with_reducible apply Within.step; (with_reducible apply State.setReg_own); (first | decide | omega); (first | decide | omega); decide)
      | (with_reducible apply Within.step; apply State.capture_within; decide))

theorem State.feRecord_within {s p code source data} : Within 4 s (State.feRecord s p code source data) := by
  unfold State.feRecord
  repeat' (first
      | with_reducible intro _
      | with_reducible apply Within.refl
      | with_reducible apply Within.ite
      | (with_reducible apply Within.step; (with_reducible apply State.setReg_common); (first | decide | omega); decide))

theorem State.errorTrigger_within {s d child code} : Within 8589942794 s (State.errorTrigger s d child code) := by
  unfold State.errorTrigger
  repeat' (first
      | with_reducible intro _
      | with_reducible apply Within.refl
      | with_reducible apply Within.ite
      | (with_reducible apply Within.step; apply State.trigger_within; decide))

theorem State.feGroups_within {a0 a1 a2} : Within 4 a1 (State.feGroups a0 a1 a2) := by
  unfold State.feGroups
  repeat' (first
      | with_reducible intro _
      | with_reducible apply Within.refl
      | with_reducible apply Within.ite
      | (with_reducible apply Within.step; apply State.feRecord_within; decide)
      | (with_reducible apply Within.step; apply State.feGroups_within; decide)
      | dsimp only
      | split)

theorem State.error_within {s p code source data} : Within 8589946894 s (State.error s p code source data) := by
  unfold State.error
  repeat' (first
      | with_reducible intro _
      | with_reducible apply Within.refl
      | with_reducible apply Within.ite
      | (with_reducible apply Within.step; apply State.feGroups_within; decide)
      | (with_reducible apply Within.step; apply State.feRecord_within; decide)
      | (with_reducible apply Within.step; apply State.errorTrigger_within; decide)
      | (with_reducible apply Within.step; apply State.raise_within; decide)
      | dsimp only
      | split)

theorem State.reject_within {s p code} : Within 8589946894 s (State.reject s p code) := by
  unfold State.reject
  repeat' (first
      | with_reducible apply Within.refl
      | (with_reducible apply Within.step; apply State.error_within; decide)
      | (with_reducible apply Within.step; apply State.count_within; decide))

theorem State.refuse_within {s p code} : Within 8589946894 s (State.refuse s p code) := by
  unfold State.refuse
  repeat' (first
      | with_reducible apply Within.refl
      | (with_reducible apply Within.step; apply State.error_within; decide))

end Sys2Proof.Machine
end

