-- ==== Sys2Proof/Laws/Captures.lean ====
section
/-!
SUPPORT. What each operation of Machine/Captures.lean can change, as a mask of the areas of Safety.lean: bit n of the mask is the
area that the declaration of `Area` lists as its n-th, from 0.
-/

set_option linter.unusedSimpArgs false
set_option linter.unusedVariables false

namespace Sys2Proof.Machine

theorem State.setCap_within {s p c} : Within 8589934592 s (State.setCap s p c) := by
  unfold State.setCap
  repeat' (first
      | with_reducible intro _
      | (with_reducible apply DieWithin.mk <;> (first | exact fun e => absurd e (by decide) | exact fun _ => rfl | exact fun _ => ⟨rfl, rfl, rfl⟩ | exact fun e => e | exact fun e => .trans (by simp only [Die.units, List.length_map, List.length_set, length_modifyAt]) e))
      | with_reducible apply Within.refl
      | with_reducible apply Within.onDie)

theorem State.item_within {s p src} : Within 8589934592 s (State.item s p src) := by
  unfold State.item
  repeat' (first
      | with_reducible intro _
      | with_reducible apply Within.refl
      | with_reducible apply Within.ite
      | (with_reducible apply Within.step; apply State.setCap_within; decide))

theorem State.guarded_step {W s t p r} (hW : 8589946894 &&& W = 8589946894)
    (hr : Within W s r) (h : Within W s t) :
    Within W s (State.guarded t p r) := by
  unfold State.guarded
  repeat' (first
      | with_reducible intro _
      | with_reducible assumption
      | with_reducible apply Within.ite
      | (with_reducible apply Within.step; (with_reducible apply State.reject_within); exact and_trans (by decide) hW))

theorem State.fromFn_step {W s t f r} (hW : 4194304 &&& W = 4194304)
    (hr : Within W s r) (h : Within W s t) :
    Within W s (State.fromFn t f r) := by
  unfold State.fromFn
  repeat' (first
      | with_reducible intro _
      | with_reducible assumption
      | with_reducible apply Within.ite
      | (with_reducible apply Within.step; (with_reducible apply State.emit_within); exact and_trans (by decide) hW))

theorem State.refreshGroup_within {s p} : Within 8589938692 s (State.refreshGroup s p) := by
  unfold State.refreshGroup
  repeat' (first
      | with_reducible intro _
      | with_reducible apply Within.refl
      | with_reducible apply Within.ite
      | (with_reducible apply Within.step; apply State.setCap_within; decide)
      | (with_reducible apply Within.step; apply State.raise_within; decide))

theorem State.refreshGroups_within {s d} : Within 8589938692 s (State.refreshGroups s d) := by
  unfold State.refreshGroups
  repeat' (first
      | with_reducible intro _
      | with_reducible apply Within.refl
      | with_reducible assumption
      | (with_reducible apply Within.step; apply State.refreshGroup_within; decide)
      | with_reducible apply Within.foldl)

theorem State.latchGroups_within {a0 a1 a2 a3} : Within 8589934592 a1 (State.latchGroups a0 a1 a2 a3) := by
  unfold State.latchGroups
  repeat' (first
      | with_reducible intro _
      | with_reducible apply Within.refl
      | with_reducible assumption
      | with_reducible apply Within.ite
      | (with_reducible apply Within.step; apply State.setCap_within; decide)
      | (with_reducible apply Within.step; apply State.latchGroups_within; decide)
      | with_reducible apply Within.foldl
      | dsimp only
      | split)

theorem State.latch_within {s p n} : Within 8589934592 s (State.latch s p n) := by
  unfold State.latch
  repeat' (first
      | with_reducible apply Within.refl
      | (with_reducible apply Within.step; apply State.setCap_within; decide)
      | (with_reducible apply Within.step; apply State.latchGroups_within; decide))

theorem State.closeEarly_within {s d q} : Within 8589938692 s (State.closeEarly s d q) := by
  unfold State.closeEarly
  repeat' (first
      | with_reducible intro _
      | (with_reducible apply DieWithin.mk <;> (first | exact fun e => absurd e (by decide) | exact fun _ => rfl | exact fun _ => ⟨rfl, rfl, rfl⟩ | exact fun e => e | exact fun e => .trans (by simp only [Die.units, List.length_map, List.length_set, length_modifyAt]) e))
      | with_reducible apply Within.refl
      | with_reducible apply Within.ite
      | (with_reducible apply Within.step; apply State.refreshGroups_within; decide)
      | with_reducible apply Within.onDie)

theorem State.closeWire_within {s p} : Within 8589938692 s (State.closeWire s p) := by
  unfold State.closeWire
  repeat' (first
      | with_reducible intro _
      | with_reducible apply Within.refl
      | with_reducible apply Within.ite
      | (with_reducible apply Within.step; apply State.setCap_within; decide)
      | (with_reducible apply Within.step; apply State.refreshGroups_within; decide))

end Sys2Proof.Machine
end

