-- ==== Sys2Proof/Laws/Memory.lean ====
section
/-!
SUPPORT. What each operation of Machine/Memory.lean can change, as a mask of the areas of Safety.lean: bit n of the mask is the
area that the declaration of `Area` lists as its n-th, from 0.
-/

set_option linter.unusedSimpArgs false
set_option linter.unusedVariables false

namespace Sys2Proof.Machine

theorem State.arrive_within {s d f kind body} : Within 1032 s (State.arrive s d f kind body) := by
  unfold State.arrive
  repeat' (first
      | (simp only [Within.mk_iff]; with_reducible apply WithinMk.put; (repeat' (first | (with_reducible exact OtpKept.refl _) | (with_reducible apply And.intro) | exact Or.inl (by decide) | exact Or.inr rfl | (with_reducible rfl) | (simp only [List.length_map, List.length_set, length_modifyAt]; done))))
      | with_reducible apply Within.refl
      | (with_reducible apply Within.step; apply State.count_within; decide)
      | split)

theorem State.integrityEvent_within {s d f event index count endpoint seq addr} : Within 1032 s (State.integrityEvent s d f event index count endpoint seq addr) := by
  unfold State.integrityEvent
  repeat' (first
      | with_reducible apply Within.refl
      | (with_reducible apply Within.step; apply State.arrive_within; decide))

theorem State.setPoison_within {s d pa v} : Within 1 s (State.setPoison s d pa v) := by
  unfold State.setPoison
  repeat' (first
      | with_reducible apply Within.refl
      | (with_reducible apply Within.step; apply State.setByte_within; decide))

theorem State.setTally_within {s d pa t} : Within 1 s (State.setTally s d pa t) := by
  unfold State.setTally
  repeat' (first
      | with_reducible apply Within.refl
      | (with_reducible apply Within.step; apply State.setBytes_within; decide))

theorem State.writeBlock_within {s d pa bs} : Within 1 s (State.writeBlock s d pa bs) := by
  unfold State.writeBlock
  repeat' (first
      | with_reducible intro _
      | with_reducible apply Within.refl
      | with_reducible apply Within.ite
      | (with_reducible apply Within.step; apply State.setPoison_within; decide)
      | (with_reducible apply Within.step; apply State.setTally_within; decide)
      | (with_reducible apply Within.step; apply State.setBytes_within; decide))

theorem State.tallyReread_within {s d f pa ga} : Within 8589947919 s (State.tallyReread s d f pa ga) := by
  unfold State.tallyReread
  repeat' (first
      | with_reducible intro _
      | with_reducible apply Within.refl
      | with_reducible apply Within.ite
      | (with_reducible apply Within.step; apply State.setPoison_within; decide)
      | (with_reducible apply Within.step; apply State.integrityEvent_within; decide)
      | (with_reducible apply Within.step; apply State.error_within; decide)
      | (with_reducible apply Within.step; apply State.count_within; decide))

theorem State.onXlate_within {s d f} : Within 268435456 s (State.onXlate s d f) := by
  unfold State.onXlate
  repeat' (first
      | with_reducible intro _
      | (with_reducible apply DieWithin.mk <;> (first | exact fun e => absurd e (by decide) | exact fun _ => rfl | exact fun _ => ⟨rfl, rfl, rfl⟩ | exact fun e => e | exact fun e => .trans (by simp only [Die.units, List.length_map, List.length_set, length_modifyAt]) e))
      | with_reducible apply Within.refl
      | with_reducible apply Within.onDie)

theorem State.install_within {s d e t} : Within 268435456 s (State.install s d e t) := by
  unfold State.install
  repeat' (first
      | with_reducible apply Within.refl
      | (with_reducible apply Within.step; apply State.onXlate_within; decide))

theorem State.installWalk_within {s d ps} : Within 268435456 s (State.installWalk s d ps) := by
  unfold State.installWalk
  repeat' (first
      | with_reducible apply Within.refl
      | (with_reducible apply Within.step; apply State.onXlate_within; decide))

theorem State.demandWalk_within {s d e f offset isWrite} : Within 268435464 s (State.demandWalk s d e f offset isWrite).2 := by
  unfold State.demandWalk
  repeat' (first
      | with_reducible intro _
      | with_reducible apply Within.refl
      | with_reducible apply Within.ite
      | (with_reducible apply Within.step; apply State.installWalk_within; decide)
      | (with_reducible apply Within.step; apply State.install_within; decide)
      | (with_reducible apply Within.step; apply State.count_within; decide)
      | dsimp only
      | split)

theorem State.translate_within {s d e f offset isWrite} : Within 268435464 s (State.translate s d e f offset isWrite).2 := by
  unfold State.translate
  repeat' (first
      | with_reducible apply Within.refl
      | (with_reducible apply Within.step; apply State.demandWalk_within; decide)
      | (with_reducible apply Within.step; apply State.install_within; decide)
      | split)

theorem State.access_within {s d offset t} : Within 268436488 s (State.access s d offset t) := by
  unfold State.access
  repeat' (first
      | with_reducible intro _
      | with_reducible apply Within.refl
      | with_reducible apply Within.ite
      | (with_reducible apply Within.step; apply State.onXlate_within; decide)
      | (with_reducible apply Within.step; apply State.arrive_within; decide)
      | (with_reducible apply Within.step; apply State.count_within; decide))

theorem State.faultEntry_within {s d n r event} : Within 1032 s (State.faultEntry s d n r event) := by
  unfold State.faultEntry
  repeat' (first
      | with_reducible apply Within.refl
      | (with_reducible apply Within.step; apply State.arrive_within; decide))

theorem State.fault_within {s d e f offset kind isWrite qp since} : Within 268436488 s (State.fault s d e f offset kind isWrite qp since) := by
  unfold State.fault
  repeat' (first
      | with_reducible intro _
      | with_reducible apply Within.refl
      | with_reducible apply Within.ite
      | (with_reducible apply Within.step; apply State.onXlate_within; decide)
      | (with_reducible apply Within.step; apply State.faultEntry_within; decide)
      | (with_reducible apply Within.step; apply State.count_within; decide)
      | dsimp only
      | split)

theorem State.admitHeldFaults_within {s d} : Within 268436488 s (State.admitHeldFaults s d) := by
  unfold State.admitHeldFaults
  repeat' (first
      | with_reducible intro _
      | with_reducible apply Within.refl
      | with_reducible assumption
      | (with_reducible apply Within.step; apply State.fault_within; decide)
      | (with_reducible apply Within.step; apply State.onXlate_within; decide)
      | with_reducible apply Within.foldl)

theorem State.freeFault_within {s d n} : Within 268436488 s (State.freeFault s d n) := by
  unfold State.freeFault
  repeat' (first
      | with_reducible apply Within.refl
      | (with_reducible apply Within.step; apply State.admitHeldFaults_within; decide)
      | (with_reducible apply Within.step; apply State.onXlate_within; decide))

theorem State.dropFaults_within {s d p} : Within 268435456 s (State.dropFaults s d p) := by
  unfold State.dropFaults
  repeat' (first
      | with_reducible apply Within.refl
      | (with_reducible apply Within.step; apply State.onXlate_within; decide))

theorem State.dropTranslations_within {s d p} : Within 268435456 s (State.dropTranslations s d p) := by
  unfold State.dropTranslations
  repeat' (first
      | with_reducible apply Within.refl
      | (with_reducible apply Within.step; apply State.onXlate_within; decide))

theorem State.readPart_within {s d e f offset n} : Within 8858383375 s (State.readPart s d e f offset n).2 := by
  unfold State.readPart
  repeat' (first
      | with_reducible apply Within.refl
      | (with_reducible apply Within.pair; (with_reducible assumption); apply State.translate_within; decide)
      | (with_reducible apply Within.step; apply State.tallyReread_within; decide)
      | (with_reducible apply Within.step; apply State.access_within; decide)
      | (with_reducible apply Within.step; apply State.count_within; decide)
      | dsimp only
      | split)

theorem State.readParts_within {d e f offset a4 a5} : Within 8858383375 a5 (State.readParts d e f offset a4 a5).2 := by
  unfold State.readParts
  repeat' (first
      | with_reducible apply Within.refl
      | (with_reducible apply Within.step; apply State.readPart_within; decide)
      | (with_reducible apply Within.pair; (with_reducible assumption); apply State.readPart_within; decide)
      | (with_reducible apply Within.step; apply State.readParts_within; decide)
      | (with_reducible apply Within.pair; (with_reducible assumption); apply State.readParts_within; decide)
      | split)

theorem State.read_within {s d e f offset n} : Within 8858383375 s (State.read s d e f offset n).2 := by
  unfold State.read
  repeat' (first
      | with_reducible apply Within.refl
      | (with_reducible apply Within.step; apply State.readParts_within; decide))

theorem State.translateParts_within {d e f offset isWrite a5 a6} : Within 268435464 a6 (State.translateParts d e f offset isWrite a5 a6).2 := by
  unfold State.translateParts
  repeat' (first
      | with_reducible apply Within.refl
      | (with_reducible apply Within.pair; (with_reducible assumption); apply State.translate_within; decide)
      | (with_reducible apply Within.step; apply State.translateParts_within; decide)
      | dsimp only
      | split)

theorem State.writePart_within {s d offset t bs} : Within 268436489 s (State.writePart s d offset t bs) := by
  unfold State.writePart
  repeat' (first
      | with_reducible apply Within.refl
      | (with_reducible apply Within.step; apply State.writeBlock_within; decide)
      | (with_reducible apply Within.step; apply State.access_within; decide)
      | (with_reducible apply Within.step; apply State.count_within; decide))

theorem State.writeParts_within {d e f offset bs a5 a6} : Within 268436489 a6 (State.writeParts d e f offset bs a5 a6).2 := by
  unfold State.writeParts
  repeat' (first
      | with_reducible apply Within.refl
      | (with_reducible apply Within.pair; (with_reducible assumption); apply State.translate_within; decide)
      | (with_reducible apply Within.step; apply State.writePart_within; decide)
      | (with_reducible apply Within.step; apply State.writeParts_within; decide)
      | split)

theorem State.write_within {s d e f offset bs} : Within 268436489 s (State.write s d e f offset bs).2 := by
  unfold State.write
  repeat' (first
      | with_reducible apply Within.refl
      | (with_reducible apply Within.step; apply State.writeParts_within; decide))

theorem State.writeWhole_within {s d e f offset bs} : Within 268436489 s (State.writeWhole s d e f offset bs).2 := by
  unfold State.writeWhole
  repeat' (first
      | with_reducible apply Within.refl
      | (with_reducible apply Within.step; apply State.write_within; decide)
      | (with_reducible apply Within.pair; (with_reducible assumption); apply State.translateParts_within; decide)
      | split)

theorem State.readRing_within {s d f offset n} : Within 268436488 s (State.readRing s d f offset n).2 := by
  unfold State.readRing
  repeat' (first
      | with_reducible apply Within.refl
      | (with_reducible apply Within.pair; (with_reducible assumption); apply State.translate_within; decide)
      | (with_reducible apply Within.step; apply State.access_within; decide)
      | (with_reducible apply Within.step; apply State.count_within; decide)
      | split)

end Sys2Proof.Machine
end

