-- ==== Sys2Proof/Laws/QueueCore.lean ====
section
/-!
SUPPORT. What each operation of Machine/QueueCore.lean can change, as a mask of the areas of Safety.lean: bit n of the mask is the
area that the declaration of `Area` lists as its n-th, from 0.
-/

set_option linter.unusedSimpArgs false
set_option linter.unusedVariables false

namespace Sys2Proof.Machine

theorem State.setQueue_within {s f q x} : Within 128 s (State.setQueue s f q x) := by
  unfold State.setQueue
  repeat' (first
      | (simp only [Within.mk_iff]; with_reducible apply WithinMk.put; (repeat' (first | (with_reducible exact OtpKept.refl _) | (with_reducible apply And.intro) | exact Or.inl (by decide) | exact Or.inr rfl | (with_reducible rfl) | (simp only [List.length_map, List.length_set, length_modifyAt]; done))))
      | with_reducible apply Within.refl)

theorem State.onQueue_within {s f q g} : Within 128 s (State.onQueue s f q g) := by
  unfold State.onQueue
  repeat' (first
      | with_reducible apply Within.refl
      | (with_reducible apply Within.step; apply State.setQueue_within; decide)
      | split)

theorem State.dirtyPage_within {s f pg} : Within 4198446 s (State.dirtyPage s f pg) := by
  unfold State.dirtyPage
  repeat' (first
      | with_reducible intro _
      | with_reducible apply Within.refl
      | with_reducible apply Within.ite
      | (with_reducible apply Within.step; (with_reducible apply State.setReg_own); (first | decide | omega); (first | decide | omega); decide)
      | (with_reducible apply Within.step; apply State.raise_within; decide)
      | (with_reducible apply Within.step; apply State.count_within; decide)
      | (with_reducible apply Within.step; apply State.emit_within; decide)
      | (with_reducible apply Within.onFn; decide))

theorem State.logDirty_within {s f a n} : Within 4198446 s (State.logDirty s f a n) := by
  unfold State.logDirty
  repeat' (first
      | with_reducible intro _
      | with_reducible apply Within.refl
      | with_reducible assumption
      | with_reducible apply Within.ite
      | (with_reducible apply Within.step; apply State.dirtyPage_within; decide)
      | with_reducible apply Within.foldl)

theorem State.issueHost_within {s f w} : Within 4198446 s (State.issueHost s f w) := by
  unfold State.issueHost
  repeat' (first
      | with_reducible intro _
      | with_reducible apply Within.refl
      | with_reducible apply Within.ite
      | (with_reducible apply Within.step; apply State.logDirty_within; decide)
      | (with_reducible apply Within.step; apply State.sendMsix_within; decide)
      | (with_reducible apply Within.step; apply State.emit_within; decide)
      | dsimp only
      | split)

theorem State.hostWrite_within {s f ledger w} : Within 4198446 s (State.hostWrite s f ledger w) := by
  unfold State.hostWrite
  repeat' (first
      | with_reducible apply Within.refl
      | (with_reducible apply Within.step; apply State.issueHost_within; decide)
      | (with_reducible apply Within.onFn; decide)
      | split)

theorem State.pushStop_within {s p rec_} : Within 128 s (State.pushStop s p rec_) := by
  unfold State.pushStop
  repeat' (first
      | with_reducible intro _
      | (simp only [Within.mk_iff]; with_reducible apply WithinMk.put; (repeat' (first | (with_reducible exact OtpKept.refl _) | (with_reducible apply And.intro) | exact Or.inl (by decide) | exact Or.inr rfl | (with_reducible rfl) | (simp only [List.length_map, List.length_set, length_modifyAt]; done))))
      | with_reducible apply Within.refl
      | with_reducible apply Within.ite)

theorem State.stopQueue_within {s f q cause detail index} : Within 1160 s (State.stopQueue s f q cause detail index) := by
  unfold State.stopQueue
  repeat' (first
      | (simp only [Within.mk_iff]; with_reducible apply WithinMk.put; (repeat' (first | (with_reducible exact OtpKept.refl _) | (with_reducible apply And.intro) | exact Or.inl (by decide) | exact Or.inr rfl | (with_reducible rfl) | (simp only [List.length_map, List.length_set, length_modifyAt]; done))))
      | with_reducible apply Within.refl
      | (with_reducible apply Within.step; apply State.setQueue_within; decide)
      | (with_reducible apply Within.step; apply State.pushStop_within; decide)
      | (with_reducible apply Within.step; apply State.count_within; decide)
      | dsimp only
      | split)

theorem State.writeRing_within {s d f offset bs} : Within 268436489 s (State.writeRing s d f offset bs).2 := by
  unfold State.writeRing
  repeat' (first
      | with_reducible apply Within.refl
      | (with_reducible apply Within.step; apply State.write_within; decide)
      | (with_reducible apply Within.pair; (with_reducible assumption); apply State.translateParts_within; decide)
      | dsimp only
      | split)

theorem State.writeEntry_within {s f q x i bs vector} : Within 272635055 s (State.writeEntry s f q x i bs vector).2 := by
  unfold State.writeEntry
  repeat' (first
      | with_reducible apply Within.refl
      | (with_reducible apply Within.step; apply State.stopQueue_within; decide)
      | (with_reducible apply Within.pair; (with_reducible assumption); apply State.writeRing_within; decide)
      | (with_reducible apply Within.step; apply State.hostWrite_within; decide)
      | (with_reducible apply Within.step; apply State.sendMsix_within; decide)
      | dsimp only
      | split)

theorem State.setQp_within {s n x} : Within 256 s (State.setQp s n x) := by
  unfold State.setQp
  repeat' (first
      | (simp only [Within.mk_iff]; with_reducible apply WithinMk.put; (repeat' (first | (with_reducible exact OtpKept.refl _) | (with_reducible apply And.intro) | exact Or.inl (by decide) | exact Or.inr rfl | (with_reducible rfl) | (simp only [List.length_map, List.length_set, length_modifyAt]; done))))
      | with_reducible apply Within.refl)

theorem State.onQp_within {s n g} : Within 256 s (State.onQp s n g) := by
  unfold State.onQp
  repeat' (first
      | with_reducible apply Within.refl
      | (with_reducible apply Within.step; apply State.setQp_within; decide)
      | split)

theorem State.releaseSlot_within {s slot} : Within 256 s (State.releaseSlot s slot) := by
  unfold State.releaseSlot
  repeat' (first
      | with_reducible apply Within.refl
      | (with_reducible apply Within.step; apply State.onQp_within; decide)
      | split)

theorem State.dropArrival_within {s d f q e} : Within 392 s (State.dropArrival s d f q e) := by
  unfold State.dropArrival
  repeat' (first
      | with_reducible apply Within.refl
      | (with_reducible apply Within.step; apply State.releaseSlot_within; decide)
      | (with_reducible apply Within.step; apply State.onQueue_within; decide)
      | (with_reducible apply Within.step; apply State.count_within; decide))

theorem State.putArrival_within {s f q x e} : Within 272635311 s (State.putArrival s f q x e) := by
  unfold State.putArrival
  repeat' (first
      | with_reducible apply Within.refl
      | (with_reducible apply Within.pair; (with_reducible assumption); apply State.writeEntry_within; decide)
      | (with_reducible apply Within.step; apply State.dropArrival_within; decide)
      | (with_reducible apply Within.step; apply State.onQueue_within; decide)
      | (with_reducible apply Within.step; apply State.count_within; decide)
      | dsimp only
      | split)

theorem State.deliverArrival_within {s f q} : Within 272635311 s (State.deliverArrival s f q) := by
  unfold State.deliverArrival
  repeat' (first
      | with_reducible intro _
      | (simp only [Within.mk_iff]; with_reducible apply WithinMk.put; (repeat' (first | (with_reducible exact OtpKept.refl _) | (with_reducible apply And.intro) | exact Or.inl (by decide) | exact Or.inr rfl | (with_reducible rfl) | (simp only [List.length_map, List.length_set, length_modifyAt]; done))))
      | with_reducible apply Within.refl
      | with_reducible apply Within.ite
      | (with_reducible apply Within.step; apply State.putArrival_within; decide)
      | (with_reducible apply Within.step; apply State.setQueue_within; decide)
      | (with_reducible apply Within.step; apply State.dropArrival_within; decide)
      | dsimp only
      | split)

theorem State.arriveAt_within {s d f q e} : Within 1280 s (State.arriveAt s d f q e) := by
  unfold State.arriveAt
  repeat' (first
      | with_reducible intro _
      | (simp only [Within.mk_iff]; with_reducible apply WithinMk.put; (repeat' (first | (with_reducible exact OtpKept.refl _) | (with_reducible apply And.intro) | exact Or.inl (by decide) | exact Or.inr rfl | (with_reducible rfl) | (simp only [List.length_map, List.length_set, length_modifyAt]; done))))
      | with_reducible apply Within.refl
      | with_reducible apply Within.ite
      | (with_reducible apply Within.step; apply State.releaseSlot_within; decide))

theorem State.onExec_within {s f q i g} : Within 512 s (State.onExec s f q i g) := by
  unfold State.onExec
  repeat' (first
      | (simp only [Within.mk_iff]; with_reducible apply WithinMk.put; (repeat' (first | (with_reducible exact OtpKept.refl _) | (with_reducible apply And.intro) | exact Or.inl (by decide) | exact Or.inr rfl | (with_reducible rfl) | (simp only [List.length_map, List.length_set, length_modifyAt]; done))))
      | with_reducible apply Within.refl)

theorem State.finish_within {s f q i status detail result0 result1} : Within 512 s (State.finish s f q i status detail result0 result1) := by
  unfold State.finish
  repeat' (first
      | with_reducible apply Within.refl
      | (with_reducible apply Within.step; apply State.onExec_within; decide))

theorem State.countSteps_within {s d e} : Within 137438953472 s (State.countSteps s d e) := by
  unfold State.countSteps
  repeat' (first
      | with_reducible intro _
      | (with_reducible apply DieWithin.mk <;> (first | exact fun e => absurd e (by decide) | exact fun _ => rfl | exact fun _ => ⟨rfl, rfl, rfl⟩ | exact fun e => e | exact fun e => .trans (by simp only [Die.units, List.length_map, List.length_set, length_modifyAt]) e))
      | with_reducible apply Within.refl
      | with_reducible apply Within.ite
      | with_reducible apply Within.onDie)

end Sys2Proof.Machine
end

