-- ==== Sys2Proof/Laws/EthernetPause.lean ====
section
/-!
SUPPORT. What each operation of Machine/EthernetPause.lean can change, as a mask of the areas of Safety.lean: bit n of the mask is the
area that the declaration of `Area` lists as its n-th, from 0.
-/

set_option linter.unusedSimpArgs false
set_option linter.unusedVariables false

namespace Sys2Proof.Machine

theorem State.onEth_within {s d k f} : Within 17179869184 s (State.onEth s d k f) := by
  unfold State.onEth
  repeat' (first
      | with_reducible intro _
      | (with_reducible apply DieWithin.mk <;> (first | exact fun e => absurd e (by decide) | exact fun _ => rfl | exact fun _ => ⟨rfl, rfl, rfl⟩ | exact fun e => e | exact fun e => .trans (by simp only [Die.units, List.length_map, List.length_set, length_modifyAt]) e))
      | with_reducible apply Within.refl
      | with_reducible apply Within.onDie)

theorem State.sendEth_within {s d k frame} : Within 4194312 s (State.sendEth s d k frame) := by
  unfold State.sendEth
  repeat' (first
      | with_reducible apply Within.refl
      | (with_reducible apply Within.step; apply State.count_within; decide)
      | (with_reducible apply Within.step; apply State.emit_within; decide))

theorem State.sendPfc_within {s d k p time} : Within 4194312 s (State.sendPfc s d k p time) := by
  unfold State.sendPfc
  repeat' (first
      | with_reducible intro _
      | with_reducible apply Within.refl
      | with_reducible apply Within.ite
      | (with_reducible apply Within.step; apply State.sendEth_within; decide)
      | (with_reducible apply Within.step; apply State.count_within; decide))

theorem State.setPausing_within {s d k p v} : Within 17179869184 s (State.setPausing s d k p v) := by
  unfold State.setPausing
  repeat' (first
      | with_reducible apply Within.refl
      | (with_reducible apply Within.step; apply State.onEth_within; decide))

theorem State.useAdd_within {s d k p n} : Within 17184063496 s (State.useAdd s d k p n) := by
  unfold State.useAdd
  repeat' (first
      | with_reducible intro _
      | with_reducible apply Within.refl
      | with_reducible apply Within.ite
      | (with_reducible apply Within.step; apply State.setPausing_within; decide)
      | (with_reducible apply Within.step; apply State.sendPfc_within; decide)
      | (with_reducible apply Within.step; apply State.onEth_within; decide))

theorem State.useSub_within {s d k p n} : Within 17184063496 s (State.useSub s d k p n) := by
  unfold State.useSub
  repeat' (first
      | with_reducible intro _
      | with_reducible apply Within.refl
      | with_reducible apply Within.ite
      | (with_reducible apply Within.step; apply State.setPausing_within; decide)
      | (with_reducible apply Within.step; apply State.sendPfc_within; decide)
      | (with_reducible apply Within.step; apply State.onEth_within; decide))

end Sys2Proof.Machine
end

