-- ==== Sys2Proof/Laws/Router.lean ====
section
/-!
SUPPORT. What each operation of Machine/Router.lean can change, as a mask of the areas of Safety.lean: bit n of the mask is the
area that the declaration of `Area` lists as its n-th, from 0.
-/

set_option linter.unusedSimpArgs false
set_option linter.unusedVariables false

namespace Sys2Proof.Machine

theorem State.onLink_within {s d l f} : Within 134217728 s (State.onLink s d l f) := by
  unfold State.onLink
  repeat' (first
      | with_reducible intro _
      | (with_reducible apply DieWithin.mk <;> (first | exact fun e => absurd e (by decide) | exact fun _ => rfl | exact fun _ => ⟨rfl, rfl, rfl⟩ | exact fun e => e | exact fun e => .trans (by simp only [Die.units, List.length_map, List.length_set, length_modifyAt]) e))
      | with_reducible apply Within.refl
      | with_reducible apply Within.onDie)

theorem State.onVc_within {s d l vc f} : Within 134217728 s (State.onVc s d l vc f) := by
  unfold State.onVc
  repeat' (first
      | with_reducible apply Within.refl
      | (with_reducible apply Within.step; apply State.onLink_within; decide))

theorem State.setPort_within {s d port v} : Within 67108864 s (State.setPort s d port v) := by
  unfold State.setPort
  repeat' (first
      | with_reducible intro _
      | with_reducible apply Within.refl
      | (with_reducible apply State.onRouter_step; decide)
      | exact ⟨by simp only [List.length_map, List.length_set, length_modifyAt], by simp only [List.length_map, List.length_set, length_modifyAt]⟩)

theorem State.freeUnits_within {s d port vc units origin} : Within 17318281224 s (State.freeUnits s d port vc units origin) := by
  unfold State.freeUnits
  repeat' (first
      | with_reducible intro _
      | with_reducible apply Within.refl
      | with_reducible apply Within.ite
      | (with_reducible apply Within.step; apply State.useSub_within; decide)
      | (with_reducible apply Within.step; apply State.onVc_within; decide)
      | split)

theorem State.editionCount_within {s d e f} : Within 67108864 s (State.editionCount s d e f) := by
  unfold State.editionCount
  repeat' (first
      | with_reducible intro _
      | with_reducible apply Within.refl
      | (with_reducible apply State.onRouter_step; decide)
      | exact ⟨by simp only [List.length_map, List.length_set, length_modifyAt], by simp only [List.length_map, List.length_set, length_modifyAt]⟩)

theorem State.discard_within {s d p port vc units ctr origin} : Within 17385390088 s (State.discard s d p port vc units ctr origin) := by
  unfold State.discard
  repeat' (first
      | with_reducible apply Within.refl
      | (with_reducible apply Within.step; apply State.freeUnits_within; decide)
      | (with_reducible apply Within.step; apply State.editionCount_within; decide)
      | (with_reducible apply Within.step; apply State.count_within; decide))

theorem State.noteOccupancy_within {s d} : Within 8 s (State.noteOccupancy s d) := by
  unfold State.noteOccupancy
  repeat' (first
      | with_reducible apply Within.refl
      | (with_reducible apply Within.step; apply State.setLevel_within; decide))

theorem State.holdPacket_within {s d a2} : Within 67108872 s (State.holdPacket s d a2) := by
  unfold State.holdPacket
  repeat' (first
      | with_reducible intro _
      | with_reducible apply Within.refl
      | (with_reducible apply Within.step; apply State.noteOccupancy_within; decide)
      | (with_reducible apply State.onRouter_step; decide)
      | exact ⟨by simp only [List.length_map, List.length_set, length_modifyAt], by simp only [List.length_map, List.length_set, length_modifyAt]⟩)

theorem State.forward_within {s d p flow inPort vcIn units origin} : Within 25975324680 s (State.forward s d p flow inPort vcIn units origin) := by
  unfold State.forward
  repeat' (first
      | with_reducible intro _
      | with_reducible apply Within.refl
      | with_reducible apply Within.ite
      | (with_reducible apply Within.step; apply State.noteOccupancy_within; decide)
      | (with_reducible apply Within.step; apply State.holdPacket_within; decide)
      | (with_reducible apply Within.step; apply State.editionCount_within; decide)
      | (with_reducible apply Within.step; apply State.discard_within; decide)
      | (with_reducible apply State.onRouter_step; decide)
      | exact ⟨by simp only [List.length_map, List.length_set, length_modifyAt], by simp only [List.length_map, List.length_set, length_modifyAt]⟩
      | (with_reducible apply Within.step; apply State.item_within; decide)
      | dsimp only
      | split)

theorem State.forwardPackage_within {s d p flow inPort vcIn units} : Within 17385390088 s (State.forwardPackage s d p flow inPort vcIn units) := by
  unfold State.forwardPackage
  repeat' (first
      | with_reducible intro _
      | with_reducible apply Within.refl
      | with_reducible apply Within.ite
      | (with_reducible apply Within.step; apply State.freeUnits_within; decide)
      | (with_reducible apply Within.step; apply State.noteOccupancy_within; decide)
      | (with_reducible apply Within.step; apply State.holdPacket_within; decide)
      | (with_reducible apply Within.step; apply State.editionCount_within; decide)
      | (with_reducible apply Within.step; apply State.discard_within; decide)
      | split)

theorem State.inject_within {s d p flow} : Within 25975324680 s (State.inject s d p flow) := by
  unfold State.inject
  repeat' (first
      | with_reducible intro _
      | with_reducible apply Within.refl
      | with_reducible apply Within.ite
      | (with_reducible apply Within.step; apply State.editionCount_within; decide)
      | (with_reducible apply Within.step; apply State.forward_within; decide)
      | (with_reducible apply Within.step; apply State.item_within; decide))

theorem State.takeLocal_within {s d p} : Within 17385390088 s (State.takeLocal s d p) := by
  unfold State.takeLocal
  repeat' (first
      | with_reducible intro _
      | with_reducible apply Within.refl
      | (with_reducible apply Within.step; apply State.freeUnits_within; decide)
      | (with_reducible apply Within.step; apply State.noteOccupancy_within; decide)
      | (with_reducible apply State.onRouter_step; decide)
      | exact ⟨by simp only [List.length_map, List.length_set, length_modifyAt], by simp only [List.length_map, List.length_set, length_modifyAt]⟩
      | dsimp only
      | split)

theorem State.sendFrame_within {s d l vc p} : Within 138412040 s (State.sendFrame s d l vc p) := by
  unfold State.sendFrame
  repeat' (first
      | with_reducible apply Within.refl
      | (with_reducible apply Within.step; apply State.count_within; decide)
      | (with_reducible apply Within.step; apply State.emit_within; decide)
      | (with_reducible apply Within.step; apply State.onVc_within; decide))

theorem State.sendOnLink_within {s d l p} : Within 67108872 s (State.sendOnLink s d l p) := by
  unfold State.sendOnLink
  repeat' (first
      | with_reducible intro _
      | with_reducible apply Within.refl
      | with_reducible apply Within.ite
      | (with_reducible apply Within.step; apply State.holdPacket_within; decide)
      | (with_reducible apply Within.step; apply State.editionCount_within; decide))

theorem State.sendControl_within {s d l kind vc value} : Within 4194304 s (State.sendControl s d l kind vc value) := by
  unfold State.sendControl
  repeat' (first
      | with_reducible apply Within.refl
      | (with_reducible apply Within.step; apply State.emit_within; decide))

theorem State.departed_within {s d p inPort vcIn units origin} : Within 17385390088 s (State.departed s d p inPort vcIn units origin) := by
  unfold State.departed
  repeat' (first
      | with_reducible intro _
      | with_reducible apply Within.refl
      | (with_reducible apply Within.step; apply State.freeUnits_within; decide)
      | (with_reducible apply State.onRouter_step; decide)
      | exact ⟨by simp only [List.length_map, List.length_set, length_modifyAt], by simp only [List.length_map, List.length_set, length_modifyAt]⟩
      | (with_reducible apply Within.step; apply State.count_within; decide))

end Sys2Proof.Machine
end

