-- ==== Sys2Proof/Laws/Links.lean ====
section
/-!
SUPPORT. What each operation of Machine/Links.lean can change, as a mask of the areas of Safety.lean: bit n of the mask is the
area that the declaration of `Area` lists as its n-th, from 0.
-/

set_option linter.unusedSimpArgs false
set_option linter.unusedVariables false

namespace Sys2Proof.Machine

theorem State.reoffer_within {s d} : Within 17385390088 s (State.reoffer s d) := by
  unfold State.reoffer
  repeat' (first
      | with_reducible intro _
      | with_reducible apply Within.refl
      | with_reducible assumption
      | (with_reducible apply Within.step; apply State.noteOccupancy_within; decide)
      | (with_reducible apply Within.step; apply State.discard_within; decide)
      | (with_reducible apply State.onRouter_step; decide)
      | exact ⟨by simp only [List.length_map, List.length_set, length_modifyAt], by simp only [List.length_map, List.length_set, length_modifyAt]⟩
      | with_reducible apply Within.foldl)

theorem State.portDown_within {s d port} : Within 17385390088 s (State.portDown s d port) := by
  unfold State.portDown
  repeat' (first
      | with_reducible intro _
      | with_reducible apply Within.refl
      | with_reducible apply Within.ite
      | (with_reducible apply Within.step; apply State.setPort_within; decide)
      | (with_reducible apply Within.step; apply State.reoffer_within; decide))

theorem State.portUp_within {s d port} : Within 17385390088 s (State.portUp s d port) := by
  unfold State.portUp
  repeat' (first
      | with_reducible intro _
      | with_reducible apply Within.refl
      | with_reducible apply Within.ite
      | (with_reducible apply Within.step; apply State.setPort_within; decide)
      | (with_reducible apply Within.step; apply State.reoffer_within; decide))

theorem State.linkTrain_within {s d l} : Within 134217728 s (State.linkTrain s d l) := by
  unfold State.linkTrain
  repeat' (first
      | with_reducible apply Within.refl
      | (with_reducible apply Within.step; apply State.onLink_within; decide))

theorem State.linkDrop_within {s d l enabled} : Within 25975328780 s (State.linkDrop s d l enabled) := by
  unfold State.linkDrop
  repeat' (first
      | with_reducible intro _
      | with_reducible apply Within.refl
      | with_reducible apply Within.ite
      | (with_reducible apply Within.step; apply State.portDown_within; decide)
      | (with_reducible apply Within.step; apply State.onLink_within; decide)
      | (with_reducible apply Within.step; apply State.closeWire_within; decide)
      | (with_reducible apply Within.step; apply State.raise_within; decide)
      | (with_reducible apply Within.step; apply State.count_within; decide))

theorem State.linkReach_within {s d l} : Within 17385394188 s (State.linkReach s d l) := by
  unfold State.linkReach
  repeat' (first
      | with_reducible apply Within.refl
      | (with_reducible apply Within.step; apply State.portUp_within; decide)
      | (with_reducible apply Within.step; apply State.onLink_within; decide)
      | (with_reducible apply Within.step; apply State.raise_within; decide))

theorem State.creditInit_within {s d l} : Within 138412032 s (State.creditInit s d l) := by
  unfold State.creditInit
  repeat' (first
      | with_reducible intro _
      | with_reducible apply Within.refl
      | with_reducible assumption
      | (with_reducible apply Within.step; apply State.sendControl_within; decide)
      | (with_reducible apply Within.step; apply State.onLink_within; decide)
      | with_reducible apply Within.foldl)

theorem atAlram_step {W s t d k r} (hW : 0 &&& W = 0)
    (hr : Within W s r) :
    RWithin W s (atAlram t d k r) := by
  unfold atAlram
  repeat' (first
      | with_reducible assumption
      | with_reducible apply RWithin.atUnit)

theorem atQuire_step {W s t d k r} (hW : 0 &&& W = 0)
    (hr : Within W s r) :
    RWithin W s (atQuire t d k r) := by
  unfold atQuire
  repeat' (first
      | with_reducible assumption
      | with_reducible apply RWithin.atUnit)

theorem atLink_step {W s t d p r} (hW : 0 &&& W = 0)
    (hr : ∀ l, Within W s (r l)) (h : Within W s t) :
    RWithin W s (atLink t d p r) := by
  unfold atLink
  repeat' (first
      | with_reducible assumption
      | with_reducible apply hr
      | with_reducible apply RWithin.atUnit
      | split)

theorem execAlramTrainingDone_within {d k reversed s} : RWithin 134217728 s (execAlramTrainingDone d k reversed s) := by
  unfold execAlramTrainingDone
  repeat' (first
      | with_reducible intro _
      | with_reducible apply Within.refl
      | with_reducible apply Within.ite
      | (with_reducible apply atAlram_step; decide)
      | (with_reducible apply Within.step; apply State.onLink_within; decide))

theorem execAlramAlignLock_within {d k s} : RWithin 138412032 s (execAlramAlignLock d k s) := by
  unfold execAlramAlignLock
  repeat' (first
      | with_reducible intro _
      | with_reducible apply Within.refl
      | with_reducible apply Within.ite
      | (with_reducible apply atAlram_step; decide)
      | (with_reducible apply Within.step; apply State.creditInit_within; decide))

theorem execInit_within {d port vc endpoint grant s} : RWithin 17385394188 s (execInit d port vc endpoint grant s) := by
  unfold execInit
  repeat' (first
      | with_reducible intro _
      | with_reducible apply Within.refl
      | with_reducible apply Within.ite
      | (with_reducible apply Within.step; apply State.linkReach_within; decide)
      | (with_reducible apply atLink_step; decide)
      | (with_reducible apply Within.step; apply State.onLink_within; decide)
      | (with_reducible apply Within.step; apply State.onVc_within; decide))

theorem execAlramLinkDown_within {d k s} : RWithin 25975328780 s (execAlramLinkDown d k s) := by
  unfold execAlramLinkDown
  repeat' (first
      | with_reducible intro _
      | with_reducible apply Within.refl
      | with_reducible apply Within.ite
      | (with_reducible apply atAlram_step; decide)
      | (with_reducible apply Within.step; apply State.linkDrop_within; decide))

theorem execQuireLinkDown_within {d k s} : RWithin 25975328780 s (execQuireLinkDown d k s) := by
  unfold execQuireLinkDown
  repeat' (first
      | with_reducible intro _
      | with_reducible apply Within.refl
      | with_reducible apply Within.ite
      | (with_reducible apply atQuire_step; decide)
      | (with_reducible apply Within.step; apply State.linkDrop_within; decide))

theorem execQuireLinkUp_within {d k s} : RWithin 17385394188 s (execQuireLinkUp d k s) := by
  unfold execQuireLinkUp
  repeat' (first
      | with_reducible intro _
      | with_reducible apply Within.refl
      | with_reducible apply Within.ite
      | (with_reducible apply Within.step; apply State.linkReach_within; decide)
      | (with_reducible apply atQuire_step; decide)
      | (with_reducible apply Within.step; apply State.onLink_within; decide))

theorem execQuireRetrainTimeout_within {d k s} : RWithin 134217728 s (execQuireRetrainTimeout d k s) := by
  unfold execQuireRetrainTimeout
  repeat' (first
      | with_reducible intro _
      | with_reducible apply Within.refl
      | with_reducible apply Within.ite
      | (with_reducible apply atQuire_step; decide)
      | (with_reducible apply Within.step; apply State.linkTrain_within; decide))

theorem State.frameIn_within {s d l port vc p crc intact} : Within 25975324680 s (State.frameIn s d l port vc p crc intact) := by
  unfold State.frameIn
  repeat' (first
      | with_reducible intro _
      | with_reducible apply Within.refl
      | with_reducible apply Within.ite
      | (with_reducible apply Within.step; apply State.freeUnits_within; decide)
      | (with_reducible apply Within.step; apply State.noteOccupancy_within; decide)
      | (with_reducible apply Within.step; apply State.editionCount_within; decide)
      | (with_reducible apply State.onRouter_step; decide)
      | exact ⟨by simp only [List.length_map, List.length_set, length_modifyAt], by simp only [List.length_map, List.length_set, length_modifyAt]⟩
      | (with_reducible apply Within.step; apply State.count_within; decide)
      | (with_reducible apply Within.step; apply State.item_within; decide)
      | (with_reducible apply Within.step; apply State.onVc_within; decide))

theorem execFrameReceive_within {d port vc p crc intact s} : RWithin 25975324680 s (execFrameReceive d port vc p crc intact s) := by
  unfold execFrameReceive
  repeat' (first
      | with_reducible intro _
      | with_reducible apply Within.refl
      | with_reducible apply Within.ite
      | (with_reducible apply atLink_step; decide)
      | (with_reducible apply Within.step; apply State.frameIn_within; decide))

theorem State.flushMarkers_within {s d l} : Within 8728346632 s (State.flushMarkers s d l) := by
  unfold State.flushMarkers
  repeat' (first
      | with_reducible intro _
      | with_reducible apply Within.refl
      | with_reducible assumption
      | with_reducible apply Within.ite
      | (with_reducible apply Within.step; apply State.setCap_within; decide)
      | (with_reducible apply Within.step; apply State.sendFrame_within; decide)
      | with_reducible apply Within.foldl)

theorem State.sendMarkers_within {s d l n} : Within 8728346632 s (State.sendMarkers s d l n) := by
  unfold State.sendMarkers
  repeat' (first
      | with_reducible intro _
      | with_reducible apply Within.refl
      | with_reducible apply Within.ite
      | (with_reducible apply Within.step; apply State.setCap_within; decide)
      | (with_reducible apply Within.step; apply State.flushMarkers_within; decide))

theorem execCredit_within {d port vc freed s} : RWithin 8728346632 s (execCredit d port vc freed s) := by
  unfold execCredit
  repeat' (first
      | with_reducible intro _
      | with_reducible apply Within.refl
      | with_reducible apply Within.ite
      | (with_reducible apply atLink_step; decide)
      | (with_reducible apply Within.step; apply State.flushMarkers_within; decide)
      | (with_reducible apply Within.step; apply State.onVc_within; decide))

theorem execSync_within {d port vc sent s} : RWithin 134217736 s (execSync d port vc sent s) := by
  unfold execSync
  repeat' (first
      | with_reducible intro _
      | with_reducible apply Within.refl
      | with_reducible apply Within.ite
      | (with_reducible apply atLink_step; decide)
      | (with_reducible apply Within.step; apply State.count_within; decide)
      | (with_reducible apply Within.step; apply State.onVc_within; decide)
      | split)

theorem execCreditReportTimer_within {d port s} : RWithin 4194304 s (execCreditReportTimer d port s) := by
  unfold execCreditReportTimer
  repeat' (first
      | with_reducible intro _
      | with_reducible apply Within.refl
      | with_reducible assumption
      | with_reducible apply Within.ite
      | (with_reducible apply atLink_step; decide)
      | (with_reducible apply Within.step; apply State.sendControl_within; decide)
      | with_reducible apply Within.foldl)

theorem execSyncTimer_within {d port s} : RWithin 4194304 s (execSyncTimer d port s) := by
  unfold execSyncTimer
  repeat' (first
      | with_reducible intro _
      | with_reducible apply Within.refl
      | with_reducible assumption
      | with_reducible apply Within.ite
      | (with_reducible apply atLink_step; decide)
      | (with_reducible apply Within.step; apply State.sendControl_within; decide)
      | with_reducible apply Within.foldl)

theorem State.opDrop_within {s d k} : Within 8 s (State.opDrop s d k) := by
  unfold State.opDrop
  repeat' (first
      | with_reducible apply Within.refl
      | (with_reducible apply Within.step; apply State.count_within; decide))

theorem execAlramWrite_within {d k p s} : RWithin 17653826569 s (execAlramWrite d k p s) := by
  unfold execAlramWrite
  repeat' (first
      | with_reducible intro _
      | with_reducible apply Within.refl
      | with_reducible apply Within.ite
      | (with_reducible apply Within.step; apply State.takeLocal_within; decide)
      | (with_reducible apply atAlram_step; decide)
      | (with_reducible apply Within.step; apply State.opDrop_within; decide)
      | (with_reducible apply Within.pair; (with_reducible assumption); apply State.writeWhole_within; decide)
      | split)

theorem State.alramAnswer_within {s d k p status data} : Within 67108872 s (State.alramAnswer s d k p status data) := by
  unfold State.alramAnswer
  repeat' (first
      | with_reducible apply Within.refl
      | (with_reducible apply Within.step; apply State.sendOnLink_within; decide))

theorem execAlramReadRequest_within {d k p s} : RWithin 26243773455 s (execAlramReadRequest d k p s) := by
  unfold execAlramReadRequest
  repeat' (first
      | with_reducible intro _
      | with_reducible apply Within.refl
      | with_reducible apply Within.ite
      | (with_reducible apply Within.step; apply State.takeLocal_within; decide)
      | (with_reducible apply atAlram_step; decide)
      | (with_reducible apply Within.step; apply State.alramAnswer_within; decide)
      | (with_reducible apply Within.step; apply State.opDrop_within; decide)
      | (with_reducible apply Within.pair; (with_reducible assumption); apply State.read_within; decide)
      | split)

theorem execAlramDoorbell_within {d k p s} : RWithin 17385392136 s (execAlramDoorbell d k p s) := by
  unfold execAlramDoorbell
  repeat' (first
      | with_reducible intro _
      | (simp only [Within.mk_iff]; with_reducible apply WithinMk.put; (repeat' (first | (with_reducible exact OtpKept.refl _) | (with_reducible apply And.intro) | exact Or.inl (by decide) | exact Or.inr rfl | (with_reducible rfl) | (simp only [List.length_map, List.length_set, length_modifyAt]; done))))
      | with_reducible apply Within.refl
      | with_reducible apply Within.ite
      | (with_reducible apply Within.step; apply State.takeLocal_within; decide)
      | (with_reducible apply atAlram_step; decide)
      | (with_reducible apply Within.step; apply State.opDrop_within; decide)
      | split)

theorem execHoldExpiry_within {d port s} : RWithin 17385390088 s (execHoldExpiry d port s) := by
  unfold execHoldExpiry
  repeat' (first
      | with_reducible intro _
      | with_reducible apply Within.refl
      | with_reducible apply Within.ite
      | with_reducible apply RWithin.atUnit
      | (with_reducible apply Within.step; apply State.setPort_within; decide)
      | (with_reducible apply Within.step; apply State.reoffer_within; decide))

theorem execEditionCountRelease_within {d edition s} : RWithin 67108864 s (execEditionCountRelease d edition s) := by
  unfold execEditionCountRelease
  repeat' (first
      | with_reducible intro _
      | with_reducible apply Within.refl
      | with_reducible apply Within.ite
      | with_reducible apply RWithin.atDie
      | (with_reducible apply Within.step; apply State.editionCount_within; decide)
      | (with_reducible apply State.onRouter_step; decide)
      | exact ⟨by simp only [List.length_map, List.length_set, length_modifyAt], by simp only [List.length_map, List.length_set, length_modifyAt]⟩)

theorem State.fifoGone_within {s d i l} : Within 17385390088 s (State.fifoGone s d i l) := by
  unfold State.fifoGone
  repeat' (first
      | with_reducible intro _
      | with_reducible apply Within.refl
      | with_reducible assumption
      | with_reducible apply Within.ite
      | (with_reducible apply Within.step; apply State.freeUnits_within; decide)
      | (with_reducible apply Within.step; apply State.noteOccupancy_within; decide)
      | (with_reducible apply Within.step; apply State.editionCount_within; decide)
      | with_reducible apply Within.foldl)

theorem execFifoPointerMismatch_within {d fifo s} : RWithin 25975336974 s (execFifoPointerMismatch d fifo s) := by
  unfold execFifoPointerMismatch
  repeat' (first
      | with_reducible intro _
      | with_reducible apply Within.refl
      | with_reducible apply RWithin.atUnit
      | (with_reducible apply Within.step; apply State.fifoGone_within; decide)
      | (with_reducible apply Within.step; apply State.error_within; decide)
      | (with_reducible apply State.onRouter_step; decide)
      | exact ⟨by simp only [List.length_map, List.length_set, length_modifyAt], by simp only [List.length_map, List.length_set, length_modifyAt]⟩
      | (with_reducible apply Within.step; apply State.count_within; decide))

theorem execDropRest_within {d fifo s} : RWithin 17385390088 s (execDropRest d fifo s) := by
  unfold execDropRest
  repeat' (first
      | with_reducible intro _
      | with_reducible apply Within.refl
      | with_reducible apply RWithin.atUnit
      | (with_reducible apply Within.step; apply State.fifoGone_within; decide)
      | (with_reducible apply State.onRouter_step; decide)
      | exact ⟨by simp only [List.length_map, List.length_set, length_modifyAt], by simp only [List.length_map, List.length_set, length_modifyAt]⟩)

end Sys2Proof.Machine
end

