-- ==== Sys2Proof/Laws/Ethernet.lean ====
section
/-!
SUPPORT. What each operation of Machine/Ethernet.lean can change, as a mask of the areas of Safety.lean: bit n of the mask is the
area that the declaration of `Area` lists as its n-th, from 0.
-/

set_option linter.unusedSimpArgs false
set_option linter.unusedVariables false

namespace Sys2Proof.Machine

theorem atEth_step {W s t d k r} (hW : 0 &&& W = 0)
    (hr : Within W s r) :
    RWithin W s (atEth t d k r) := by
  unfold atEth
  repeat' (first
      | with_reducible assumption
      | with_reducible apply RWithin.atUnit)

theorem State.ethTrain_within {s d k} : Within 17179869184 s (State.ethTrain s d k) := by
  unfold State.ethTrain
  repeat' (first
      | with_reducible apply Within.refl
      | (with_reducible apply Within.step; apply State.onEth_within; decide))

theorem State.ethDrop_within {s d k fault enabled} : Within 17385394188 s (State.ethDrop s d k fault enabled) := by
  unfold State.ethDrop
  repeat' (first
      | with_reducible intro _
      | with_reducible apply Within.refl
      | with_reducible apply Within.ite
      | (with_reducible apply Within.step; apply State.portDown_within; decide)
      | (with_reducible apply Within.step; apply State.raise_within; decide)
      | (with_reducible apply Within.step; apply State.onEth_within; decide)
      | (with_reducible apply Within.step; apply State.count_within; decide))

theorem execEthTrainingDone_within {d k reversed s} : RWithin 17179869184 s (execEthTrainingDone d k reversed s) := by
  unfold execEthTrainingDone
  repeat' (first
      | with_reducible intro _
      | with_reducible apply Within.refl
      | with_reducible apply Within.ite
      | (with_reducible apply atEth_step; decide)
      | (with_reducible apply Within.step; apply State.onEth_within; decide))

theorem execEthTrainingTimeout_within {d k s} : RWithin 17179869184 s (execEthTrainingTimeout d k s) := by
  unfold execEthTrainingTimeout
  repeat' (first
      | with_reducible intro _
      | with_reducible apply Within.refl
      | with_reducible apply Within.ite
      | (with_reducible apply atEth_step; decide)
      | (with_reducible apply Within.step; apply State.ethTrain_within; decide))

theorem execEthAlignTimeout_within {d k s} : RWithin 17385394188 s (execEthAlignTimeout d k s) := by
  unfold execEthAlignTimeout
  repeat' (first
      | with_reducible intro _
      | with_reducible apply Within.refl
      | with_reducible apply Within.ite
      | (with_reducible apply Within.step; apply State.ethDrop_within; decide)
      | (with_reducible apply atEth_step; decide))

theorem execEthAlignLock_within {d k s} : RWithin 17385394188 s (execEthAlignLock d k s) := by
  unfold execEthAlignLock
  repeat' (first
      | with_reducible intro _
      | with_reducible apply Within.refl
      | with_reducible apply Within.ite
      | (with_reducible apply Within.step; apply State.portUp_within; decide)
      | (with_reducible apply atEth_step; decide)
      | (with_reducible apply Within.step; apply State.raise_within; decide)
      | (with_reducible apply Within.step; apply State.onEth_within; decide))

theorem execEthLinkDown_within {d k remoteFault s} : RWithin 17385394188 s (execEthLinkDown d k remoteFault s) := by
  unfold execEthLinkDown
  repeat' (first
      | with_reducible intro _
      | with_reducible apply Within.refl
      | with_reducible apply Within.ite
      | (with_reducible apply Within.step; apply State.ethDrop_within; decide)
      | (with_reducible apply atEth_step; decide))

theorem State.enableEth_within {s d k enable} : Within 17385394190 s (State.enableEth s d k enable) := by
  unfold State.enableEth
  repeat' (first
      | with_reducible intro _
      | with_reducible apply Within.refl
      | with_reducible apply Within.ite
      | (with_reducible apply Within.step; (with_reducible apply State.setReg_own); (first | decide | omega); (first | decide | omega); decide)
      | (with_reducible apply Within.step; apply State.ethDrop_within; decide)
      | (with_reducible apply Within.step; apply State.ethTrain_within; decide))

theorem execPortEnable_within {d k enable s} : RWithin 25975336974 s (execPortEnable d k enable s) := by
  unfold execPortEnable
  repeat' (first
      | with_reducible apply Within.refl
      | (with_reducible apply atEth_step; decide)
      | (with_reducible apply State.fromFn_step; decide)
      | (with_reducible apply State.guarded_step; decide)
      | (with_reducible apply Within.step; apply State.enableEth_within; decide))

theorem execPfcRepeat_within {d k p s} : RWithin 4194312 s (execPfcRepeat d k p s) := by
  unfold execPfcRepeat
  repeat' (first
      | with_reducible intro _
      | with_reducible apply Within.refl
      | with_reducible apply Within.ite
      | with_reducible apply RWithin.atUnit
      | (with_reducible apply Within.step; apply State.sendPfc_within; decide))

theorem State.takePfc_within {s d k vector times} : Within 17179869192 s (State.takePfc s d k vector times) := by
  unfold State.takePfc
  repeat' (first
      | with_reducible apply Within.refl
      | (with_reducible apply Within.step; apply State.onEth_within; decide)
      | (with_reducible apply Within.step; apply State.count_within; decide))

theorem execPfcFrame_within {d k vector times s} : RWithin 17179869192 s (execPfcFrame d k vector times s) := by
  unfold execPfcFrame
  repeat' (first
      | with_reducible intro _
      | with_reducible apply Within.refl
      | with_reducible apply Within.ite
      | (with_reducible apply Within.step; apply State.takePfc_within; decide)
      | (with_reducible apply atEth_step; decide))

theorem execPauseTimerExpiry_within {d k p s} : RWithin 17179869184 s (execPauseTimerExpiry d k p s) := by
  unfold execPauseTimerExpiry
  repeat' (first
      | with_reducible apply Within.refl
      | with_reducible apply RWithin.atUnit
      | (with_reducible apply Within.step; apply State.onEth_within; decide))

theorem State.writePfc_within {s d k value} : Within 25774010382 s (State.writePfc s d k value) := by
  unfold State.writePfc
  repeat' (first
      | with_reducible intro _
      | with_reducible apply Within.refl
      | with_reducible assumption
      | with_reducible apply Within.ite
      | (with_reducible apply Within.step; (with_reducible apply State.setReg_own); (first | decide | omega); (first | decide | omega); decide)
      | (with_reducible apply Within.step; apply State.refuse_within; decide)
      | (with_reducible apply Within.step; apply State.setPausing_within; decide)
      | (with_reducible apply Within.step; apply State.sendPfc_within; decide)
      | with_reducible apply Within.foldl)

theorem execPfcCtlWrite_within {d k value s} : RWithin 25774010382 s (execPfcCtlWrite d k value s) := by
  unfold execPfcCtlWrite
  repeat' (first
      | with_reducible apply Within.refl
      | (with_reducible apply atEth_step; decide)
      | (with_reducible apply State.fromFn_step; decide)
      | (with_reducible apply Within.step; apply State.writePfc_within; decide)
      | (with_reducible apply State.guarded_step; decide))

theorem State.takePtp_within {s d k fr stamp} : Within 17179873292 s (State.takePtp s d k fr stamp) := by
  unfold State.takePtp
  repeat' (first
      | with_reducible intro _
      | with_reducible apply Within.refl
      | with_reducible apply Within.ite
      | (with_reducible apply Within.step; apply State.raise_within; decide)
      | (with_reducible apply Within.step; apply State.onEth_within; decide)
      | (with_reducible apply Within.step; apply State.count_within; decide))

theorem execPtpFrame_within {d k frame stamp s} : RWithin 17179873292 s (execPtpFrame d k frame stamp s) := by
  unfold execPtpFrame
  repeat' (first
      | with_reducible intro _
      | with_reducible apply Within.refl
      | with_reducible apply Within.ite
      | (with_reducible apply atEth_step; decide)
      | (with_reducible apply Within.step; apply State.takePtp_within; decide))

theorem State.ethAdmit_within {s d k p fr} : Within 17251172360 s (State.ethAdmit s d k p fr) := by
  unfold State.ethAdmit
  repeat' (first
      | with_reducible intro _
      | with_reducible apply Within.refl
      | with_reducible apply Within.ite
      | (with_reducible apply Within.step; apply State.noteOccupancy_within; decide)
      | (with_reducible apply Within.step; apply State.editionCount_within; decide)
      | (with_reducible apply Within.step; apply State.useAdd_within; decide)
      | (with_reducible apply State.onRouter_step; decide)
      | exact ⟨by simp only [List.length_map, List.length_set, length_modifyAt], by simp only [List.length_map, List.length_set, length_modifyAt]⟩
      | (with_reducible apply Within.step; apply State.count_within; decide))

theorem execEthFrameReceive_within {d k frame fcs intact s} : RWithin 17251176460 s (execEthFrameReceive d k frame fcs intact s) := by
  unfold execEthFrameReceive
  repeat' (first
      | with_reducible intro _
      | with_reducible apply Within.refl
      | with_reducible apply Within.ite
      | (with_reducible apply Within.step; apply State.takePfc_within; decide)
      | (with_reducible apply atEth_step; decide)
      | (with_reducible apply Within.step; apply State.takePtp_within; decide)
      | (with_reducible apply Within.step; apply State.count_within; decide)
      | (with_reducible apply Within.step; apply State.ethAdmit_within; decide)
      | dsimp only
      | split)

end Sys2Proof.Machine
end

