-- ==== Sys2Proof/Laws/QueueExec.lean ====
section
/-!
SUPPORT. What each operation of Machine/QueueExec.lean can change, as a mask of the areas of Safety.lean: bit n of the mask is the
area that the declaration of `Area` lists as its n-th, from 0.
-/

set_option linter.unusedSimpArgs false
set_option linter.unusedVariables false

namespace Sys2Proof.Machine

theorem execDoorbellWrite_within {f off size value s} : RWithin 4196360 s (execDoorbellWrite f off size value s) := by
  unfold execDoorbellWrite
  repeat' (first
      | with_reducible intro _
      | (simp only [Within.mk_iff]; with_reducible apply WithinMk.put; (repeat' (first | (with_reducible exact OtpKept.refl _) | (with_reducible apply And.intro) | exact Or.inl (by decide) | exact Or.inr rfl | (with_reducible rfl) | (simp only [List.length_map, List.length_set, length_modifyAt]; done))))
      | with_reducible apply Within.refl
      | with_reducible apply Within.ite
      | with_reducible apply RWithin.atFn
      | (with_reducible apply State.fromFn_step; decide)
      | (with_reducible apply Within.step; apply State.count_within; decide))

theorem State.applyDoorbell_within {s f q x v} : Within 1416 s (State.applyDoorbell s f q x v) := by
  unfold State.applyDoorbell
  repeat' (first
      | with_reducible intro _
      | with_reducible apply Within.refl
      | with_reducible assumption
      | with_reducible apply Within.ite
      | (with_reducible apply Within.step; apply State.stopQueue_within; decide)
      | (with_reducible apply Within.step; apply State.setQueue_within; decide)
      | (with_reducible apply Within.step; apply State.releaseSlot_within; decide)
      | (with_reducible apply Within.step; apply State.count_within; decide)
      | with_reducible apply Within.foldl)

theorem execDoorbellAdmission_within {f q s} : RWithin 3464 s (execDoorbellAdmission f q s) := by
  unfold execDoorbellAdmission
  repeat' (first
      | with_reducible intro _
      | (simp only [Within.mk_iff]; with_reducible apply WithinMk.put; (repeat' (first | (with_reducible exact OtpKept.refl _) | (with_reducible apply And.intro) | exact Or.inl (by decide) | exact Or.inr rfl | (with_reducible rfl) | (simp only [List.length_map, List.length_set, length_modifyAt]; done))))
      | with_reducible apply Within.refl
      | with_reducible apply Within.ite
      | with_reducible apply RWithin.atFn
      | (with_reducible apply Within.step; apply State.applyDoorbell_within; decide)
      | (with_reducible apply Within.step; apply State.setQueue_within; decide)
      | (with_reducible apply Within.step; apply State.count_within; decide)
      | dsimp only
      | split)

theorem execDescriptorFetch_within {f q s} : RWithin 4194432 s (execDescriptorFetch f q s) := by
  unfold execDescriptorFetch
  repeat' (first
      | with_reducible intro _
      | with_reducible apply Within.refl
      | with_reducible apply Within.ite
      | with_reducible apply RWithin.atFn
      | (with_reducible apply Within.step; apply State.setQueue_within; decide)
      | (with_reducible apply Within.step; apply State.emit_within; decide)
      | dsimp only
      | split)

theorem State.slotRead_within {s f q x i bs} : Within 1160 s (State.slotRead s f q x i bs) := by
  unfold State.slotRead
  repeat' (first
      | with_reducible intro _
      | with_reducible apply Within.refl
      | with_reducible apply Within.ite
      | (with_reducible apply Within.step; apply State.stopQueue_within; decide)
      | (with_reducible apply Within.step; apply State.setQueue_within; decide)
      | dsimp only
      | split)

theorem State.fetchReturn_within {s f q i slot} : Within 268436616 s (State.fetchReturn s f q i slot) := by
  unfold State.fetchReturn
  repeat' (first
      | with_reducible intro _
      | with_reducible apply Within.refl
      | with_reducible apply Within.ite
      | (with_reducible apply Within.step; apply State.stopQueue_within; decide)
      | (with_reducible apply Within.step; apply State.slotRead_within; decide)
      | (with_reducible apply Within.pair; (with_reducible assumption); apply State.readRing_within; decide)
      | split)

theorem execStaleRefetch_within {f q k s} : RWithin 4194440 s (execStaleRefetch f q k s) := by
  unfold execStaleRefetch
  repeat' (first
      | with_reducible intro _
      | with_reducible apply Within.refl
      | with_reducible apply Within.ite
      | with_reducible apply RWithin.atFn
      | (with_reducible apply Within.step; apply State.setQueue_within; decide)
      | (with_reducible apply Within.step; apply State.count_within; decide)
      | (with_reducible apply Within.step; apply State.emit_within; decide)
      | dsimp only
      | split)

theorem execHostReadError_within {f q index cause s} : RWithin 4195976 s (execHostReadError f q index cause s) := by
  unfold execHostReadError
  repeat' (first
      | with_reducible intro _
      | (simp only [Within.mk_iff]; with_reducible apply WithinMk.put; (repeat' (first | (with_reducible exact OtpKept.refl _) | (with_reducible apply And.intro) | exact Or.inl (by decide) | exact Or.inr rfl | (with_reducible rfl) | (simp only [List.length_map, List.length_set, length_modifyAt]; done))))
      | with_reducible apply Within.refl
      | with_reducible apply Within.ite
      | with_reducible apply RWithin.atFn
      | (with_reducible apply Within.step; apply State.stopQueue_within; decide)
      | (with_reducible apply Within.step; apply State.count_within; decide)
      | (with_reducible apply Within.step; apply State.emit_within; decide)
      | dsimp only
      | split)

theorem State.beginSlot_within {s f q x t} : Within 648 s (State.beginSlot s f q x t) := by
  unfold State.beginSlot
  repeat' (first
      | (simp only [Within.mk_iff]; with_reducible apply WithinMk.put; (repeat' (first | (with_reducible exact OtpKept.refl _) | (with_reducible apply And.intro) | exact Or.inl (by decide) | exact Or.inr rfl | (with_reducible rfl) | (simp only [List.length_map, List.length_set, length_modifyAt]; done))))
      | with_reducible apply Within.refl
      | (with_reducible apply Within.step; apply State.setQueue_within; decide)
      | (with_reducible apply Within.step; apply State.count_within; decide))

theorem State.copyFrom_within {o d f src dst n a5 a6 a7} : Within 8858383375 a7 (State.copyFrom o d f src dst n a5 a6 a7).2 := by
  unfold State.copyFrom
  repeat' (first
      | with_reducible apply Within.refl
      | (with_reducible apply Within.pair; (with_reducible assumption); apply State.write_within; decide)
      | (with_reducible apply Within.pair; (with_reducible assumption); apply State.read_within; decide)
      | (with_reducible apply Within.step; apply State.copyFrom_within; decide)
      | dsimp only
      | split)

@[simp] theorem copied_false (src dst moved : Nat) (bs : List Byte) : copied false src dst moved bs = bs := rfl

theorem State.copyLocal_within {d f src dst n a5 a6 a7} : Within 8858383375 a7 (State.copyLocal d f src dst n a5 a6 a7).2 :=
  State.copyFrom_within

theorem State.copyIn_within {d f dst data a4 a5 a6} : Within 268436489 a6 (State.copyIn d f dst data a4 a5 a6).2 := by
  unfold State.copyIn
  repeat' (first
      | with_reducible apply Within.refl
      | (with_reducible apply Within.pair; (with_reducible assumption); apply State.write_within; decide)
      | (with_reducible apply Within.step; apply State.copyIn_within; decide)
      | dsimp only
      | split)

theorem State.copyOut_within {d f src ledger host n a6 a7 a8} : Within 8862577711 a8 (State.copyOut d f src ledger host n a6 a7 a8).2 := by
  unfold State.copyOut
  repeat' (first
      | with_reducible apply Within.refl
      | (with_reducible apply Within.step; apply State.hostWrite_within; decide)
      | (with_reducible apply Within.pair; (with_reducible assumption); apply State.read_within; decide)
      | (with_reducible apply Within.step; apply State.copyOut_within; decide)
      | dsimp only
      | split)

theorem State.runCopy_within {s f q i} : Within 8862578223 s (State.runCopy s f q i) := by
  unfold State.runCopy
  repeat' (first
      | with_reducible intro _
      | with_reducible apply Within.refl
      | with_reducible apply Within.ite
      | (with_reducible apply Within.step; apply State.fault_within; decide)
      | (with_reducible apply Within.step; apply State.onExec_within; decide)
      | (with_reducible apply Within.step; apply State.finish_within; decide)
      | (with_reducible apply Within.step; apply State.copyLocal_within; decide)
      | (with_reducible apply Within.step; apply State.copyOut_within; decide)
      | (with_reducible apply Within.step; apply State.copyIn_within; decide)
      | dsimp only
      | split
      | (with_reducible apply Within.ofPair; (with_reducible assumption)))

theorem State.retryCopies_within {s d f key} : Within 8862578223 s (State.retryCopies s d f key) := by
  unfold State.retryCopies
  repeat' (first
      | with_reducible intro _
      | with_reducible apply Within.refl
      | with_reducible assumption
      | (with_reducible apply Within.step; apply State.onExec_within; decide)
      | (with_reducible apply Within.step; apply State.runCopy_within; decide)
      | with_reducible apply Within.foldl)

theorem State.abortCopies_within {s d f key} : Within 512 s (State.abortCopies s d f key) := by
  unfold State.abortCopies
  repeat' (first
      | with_reducible intro _
      | with_reducible apply Within.refl
      | with_reducible assumption
      | (with_reducible apply Within.step; apply State.finish_within; decide)
      | with_reducible apply Within.foldl)

theorem execCompletionWrite_within {f q index s} : RWithin 137711589039 s (execCompletionWrite f q index s) := by
  unfold execCompletionWrite
  repeat' (first
      | with_reducible intro _
      | (simp only [Within.mk_iff]; with_reducible apply WithinMk.put; (repeat' (first | (with_reducible exact OtpKept.refl _) | (with_reducible apply And.intro) | exact Or.inl (by decide) | exact Or.inr rfl | (with_reducible rfl) | (simp only [List.length_map, List.length_set, length_modifyAt]; done))))
      | with_reducible apply Within.refl
      | with_reducible apply Within.ite
      | with_reducible apply RWithin.atFn
      | (with_reducible apply Within.pair; (with_reducible assumption); apply State.writeEntry_within; decide)
      | (with_reducible apply Within.step; apply State.countSteps_within; decide)
      | (with_reducible apply Within.step; apply State.onQueue_within; decide)
      | (with_reducible apply Within.step; apply State.count_within; decide)
      | dsimp only
      | split)

theorem execLedgerIssue_within {f c s} : RWithin 4198446 s (execLedgerIssue f c s) := by
  unfold execLedgerIssue
  repeat' (first
      | with_reducible apply Within.refl
      | with_reducible apply RWithin.atFn
      | (with_reducible apply Within.step; apply State.issueHost_within; decide)
      | (with_reducible apply Within.onFn; decide)
      | split)

theorem State.flushReturn_within {s f q i ok} : Within 512 s (State.flushReturn s f q i ok) := by
  unfold State.flushReturn
  repeat' (first
      | with_reducible apply Within.refl
      | (with_reducible apply Within.step; apply State.onExec_within; decide))

theorem execReadBackReturn_within {f q index ok s} : RWithin 512 s (execReadBackReturn f q index ok s) := by
  unfold execReadBackReturn
  repeat' (first
      | with_reducible apply Within.refl
      | with_reducible apply RWithin.atFn
      | (with_reducible apply Within.step; apply State.flushReturn_within; decide))

theorem execArrivalEntryWrite_within {f q s} : RWithin 272635311 s (execArrivalEntryWrite f q s) := by
  unfold execArrivalEntryWrite
  repeat' (first
      | with_reducible apply Within.refl
      | with_reducible apply RWithin.atFn
      | (with_reducible apply Within.step; apply State.deliverArrival_within; decide))

theorem execArrivalWaitExpiry_within {f q s} : RWithin 392 s (execArrivalWaitExpiry f q s) := by
  unfold execArrivalWaitExpiry
  repeat' (first
      | with_reducible intro _
      | with_reducible apply Within.refl
      | with_reducible apply Within.ite
      | with_reducible apply RWithin.atFn
      | (with_reducible apply Within.step; apply State.setQueue_within; decide)
      | (with_reducible apply Within.step; apply State.dropArrival_within; decide)
      | split)

theorem execMsixMessage_within {k s} : RWithin 4198432 s (execMsixMessage k s) := by
  unfold execMsixMessage
  repeat' (first
      | (simp only [Within.mk_iff]; with_reducible apply WithinMk.put; (repeat' (first | (with_reducible exact OtpKept.refl _) | (with_reducible apply And.intro) | exact Or.inl (by decide) | exact Or.inr rfl | (with_reducible rfl) | (simp only [List.length_map, List.length_set, length_modifyAt]; done))))
      | with_reducible apply Within.refl
      | with_reducible apply RWithin.next
      | (with_reducible apply Within.step; apply State.sendMsix_within; decide)
      | split)

theorem State.controlReject_within {s d f} : Within 8 s (State.controlReject s d f) := by
  unfold State.controlReject
  repeat' (first
      | with_reducible apply Within.refl
      | (with_reducible apply Within.step; apply State.count_within; decide))

theorem execQueueDisable_within {f d value s} : RWithin 8594141326 s (execQueueDisable f d value s) := by
  unfold execQueueDisable
  repeat' (first
      | with_reducible intro _
      | with_reducible apply Within.refl
      | with_reducible apply Within.ite
      | with_reducible apply RWithin.atDie
      | (with_reducible apply Within.step; apply State.setQueue_within; decide)
      | (with_reducible apply State.fromFn_step; decide)
      | (with_reducible apply Within.step; apply State.controlReject_within; decide)
      | (with_reducible apply State.guarded_step; decide)
      | dsimp only
      | split)

theorem execQueueDisabled_within {f q s} : RWithin 128 s (execQueueDisabled f q s) := by
  unfold execQueueDisabled
  repeat' (first
      | with_reducible intro _
      | with_reducible apply Within.refl
      | with_reducible apply Within.ite
      | with_reducible apply RWithin.atFn
      | (with_reducible apply Within.step; apply State.setQueue_within; decide)
      | split)

theorem execQueueEnable_within {f d value s} : RWithin 8594142606 s (execQueueEnable f d value s) := by
  unfold execQueueEnable
  repeat' (first
      | with_reducible intro _
      | with_reducible apply Within.refl
      | with_reducible apply Within.ite
      | with_reducible apply RWithin.atDie
      | (with_reducible apply Within.step; apply State.applyDoorbell_within; decide)
      | (with_reducible apply Within.step; apply State.setQueue_within; decide)
      | (with_reducible apply State.fromFn_step; decide)
      | (with_reducible apply Within.step; apply State.controlReject_within; decide)
      | (with_reducible apply State.guarded_step; decide)
      | dsimp only
      | split)

theorem State.popStop_within {s p} : Within 128 s (State.popStop s p).2 := by
  unfold State.popStop
  repeat' (first
      | (simp only [Within.mk_iff]; with_reducible apply WithinMk.put; (repeat' (first | (with_reducible exact OtpKept.refl _) | (with_reducible apply And.intro) | exact Or.inl (by decide) | exact Or.inr rfl | (with_reducible rfl) | (simp only [List.length_map, List.length_set, length_modifyAt]; done))))
      | with_reducible apply Within.refl
      | dsimp only
      | split)

theorem execStopFifoRead_within {f d s} : RWithin 8594141326 s (execStopFifoRead f d s) := by
  unfold execStopFifoRead
  repeat' (first
      | with_reducible intro _
      | with_reducible apply Within.refl
      | with_reducible apply Within.ite
      | with_reducible apply RWithin.atDie
      | (with_reducible apply Within.step; apply State.reject_within; decide)
      | (with_reducible apply State.fromFn_step; decide)
      | (with_reducible apply Within.step; apply State.popStop_within; decide)
      | (with_reducible apply Within.step; apply State.emit_within; decide))

theorem execAdminQueueEnable_within {f value s} : RWithin 8594141326 s (execAdminQueueEnable f value s) := by
  unfold execAdminQueueEnable
  repeat' (first
      | with_reducible intro _
      | with_reducible apply Within.refl
      | with_reducible apply Within.ite
      | with_reducible apply RWithin.atFn
      | (with_reducible apply Within.step; (with_reducible apply State.setReg_own); (first | decide | omega); (first | decide | omega); decide)
      | (with_reducible apply Within.step; apply State.setQueue_within; decide)
      | (with_reducible apply Within.step; apply State.refuse_within; decide)
      | (with_reducible apply Within.step; apply State.reject_within; decide)
      | (with_reducible apply State.fromFn_step; decide)
      | (with_reducible apply State.guarded_step; decide))

theorem execAdminQueueDisable_within {f value s} : RWithin 8594141326 s (execAdminQueueDisable f value s) := by
  unfold execAdminQueueDisable
  repeat' (first
      | with_reducible intro _
      | (simp only [Within.mk_iff]; with_reducible apply WithinMk.put; (repeat' (first | (with_reducible exact OtpKept.refl _) | (with_reducible apply And.intro) | exact Or.inl (by decide) | exact Or.inr rfl | (with_reducible rfl) | (simp only [List.length_map, List.length_set, length_modifyAt]; done))))
      | with_reducible apply Within.refl
      | with_reducible apply Within.ite
      | with_reducible apply RWithin.atFn
      | (with_reducible apply Within.step; (with_reducible apply State.setReg_own); (first | decide | omega); (first | decide | omega); decide)
      | (with_reducible apply Within.step; apply State.reject_within; decide)
      | (with_reducible apply State.fromFn_step; decide)
      | (with_reducible apply State.guarded_step; decide)
      | dsimp only
      | split)

end Sys2Proof.Machine
end

