-- ==== Sys2Proof/Laws/Transport.lean ====
section
/-!
SUPPORT. What each operation of Machine/Transport.lean can change, as a mask of the areas of Safety.lean: bit n of the mask is the
area that the declaration of `Area` lists as its n-th, from 0.
-/

set_option linter.unusedSimpArgs false
set_option linter.unusedVariables false

namespace Sys2Proof.Machine

theorem State.alramRead_within {a0 a1 a2 a3 a4 a5 a6 a7} : ∀ t, (State.alramRead a0 a1 a2 a3 a4 a5 a6 a7) = some t → Within 201326600 a0 t := by
  intro t h; unfold State.alramRead at h
  repeat' (first
      | with_reducible apply Within.refl
      | (with_reducible apply Within.step; apply State.onLink_within; decide)
      | (with_reducible apply Within.step; apply State.sendOnLink_within; decide)
      | (dsimp only at h; obtain ⟨_, _, e⟩ := Option.map_eq_some_iff.mp h; clear h; subst e))

theorem State.pullSource_within {s d n x a4} : Within 201326600 s (State.pullSource s d n x a4) := by
  unfold State.pullSource
  repeat' (first
      | with_reducible intro _
      | with_reducible apply Within.refl
      | with_reducible assumption
      | with_reducible apply Within.ite
      | (with_reducible apply Within.ofSome; (with_reducible assumption); apply State.alramRead_within; decide)
      | with_reducible apply Within.foldl
      | with_reducible apply Within.getD
      | dsimp only
      | split)

theorem State.sourceRead_within {s d n x a k} : Within 8992601103 s (State.sourceRead s d n x a k).2 := by
  unfold State.sourceRead
  repeat' (first
      | with_reducible apply Within.refl
      | (with_reducible apply Within.step; apply State.onLink_within; decide)
      | (with_reducible apply Within.step; apply State.read_within; decide)
      | dsimp only
      | split)

theorem State.endOp_within {s x o} : Within 512 s (State.endOp s x o) := by
  unfold State.endOp
  repeat' (first
      | with_reducible intro _
      | with_reducible apply Within.refl
      | with_reducible apply Within.ite
      | (with_reducible apply Within.step; apply State.onExec_within; decide)
      | (with_reducible apply Within.step; apply State.flushReturn_within; decide)
      | (with_reducible apply Within.step; apply State.finish_within; decide))

theorem State.endOps_within {s n} : Within 768 s (State.endOps s n) := by
  unfold State.endOps
  repeat' (first
      | with_reducible intro _
      | with_reducible apply Within.refl
      | with_reducible assumption
      | (with_reducible apply Within.step; apply State.endOp_within; decide)
      | (with_reducible apply Within.step; apply State.setQp_within; decide)
      | with_reducible apply Within.foldl
      | dsimp only
      | split)

theorem State.qpError_within {s n status detail} : Within 776 s (State.qpError s n status detail) := by
  unfold State.qpError
  repeat' (first
      | with_reducible intro _
      | with_reducible apply Within.refl
      | with_reducible assumption
      | with_reducible apply Within.ite
      | (with_reducible apply Within.step; apply State.flushReturn_within; decide)
      | (with_reducible apply Within.step; apply State.finish_within; decide)
      | (with_reducible apply Within.step; apply State.setQp_within; decide)
      | (with_reducible apply Within.step; apply State.count_within; decide)
      | with_reducible apply Within.foldl
      | dsimp only
      | split)

theorem State.cutShort_within {s n o status detail} : Within 768 s (State.cutShort s n o status detail) := by
  unfold State.cutShort
  repeat' (first
      | with_reducible apply Within.refl
      | (with_reducible apply Within.step; apply State.endOps_within; decide)
      | (with_reducible apply Within.step; apply State.onQp_within; decide))

theorem State.qpFault_within {s n f} : Within 264 s (State.qpFault s n f) := by
  unfold State.qpFault
  repeat' (first
      | with_reducible intro _
      | with_reducible apply Within.refl
      | with_reducible apply Within.ite
      | (with_reducible apply Within.step; apply State.setQp_within; decide)
      | (with_reducible apply Within.step; apply State.count_within; decide)
      | dsimp only
      | split)

theorem State.abortPsn_within {s n r status} : Within 768 s (State.abortPsn s n r status) := by
  unfold State.abortPsn
  repeat' (first
      | with_reducible apply Within.refl
      | (with_reducible apply Within.step; apply State.endOps_within; decide)
      | (with_reducible apply Within.step; apply State.onQp_within; decide))

theorem State.noteEpoch_within {s d n} : Within 17160 s (State.noteEpoch s d n) := by
  unfold State.noteEpoch
  repeat' (first
      | with_reducible intro _
      | (simp only [Within.mk_iff]; with_reducible apply WithinMk.put; (repeat' (first | (with_reducible exact OtpKept.refl _) | (with_reducible apply And.intro) | exact Or.inl (by decide) | exact Or.inr rfl | (with_reducible rfl) | (simp only [List.length_map, List.length_set, length_modifyAt]; done))))
      | with_reducible apply Within.refl
      | with_reducible apply Within.ite
      | (with_reducible apply Within.step; apply State.qpError_within; decide)
      | dsimp only
      | split)

theorem State.sentFresh_within {s d n x payload} : Within 17160 s (State.sentFresh s d n x payload) := by
  unfold State.sentFresh
  repeat' (first
      | with_reducible apply Within.refl
      | (with_reducible apply Within.step; apply State.noteEpoch_within; decide)
      | (with_reducible apply Within.step; apply State.setQp_within; decide)
      | (with_reducible apply Within.step; apply State.count_within; decide))

theorem State.formFresh_within {s d n x o} : Within 8992618255 s (State.formFresh s d n x o).2 := by
  unfold State.formFresh
  repeat' (first
      | with_reducible apply Within.refl
      | (with_reducible apply Within.step; apply State.fault_within; decide)
      | (with_reducible apply Within.step; apply State.qpFault_within; decide)
      | (with_reducible apply Within.step; apply State.cutShort_within; decide)
      | (with_reducible apply Within.step; apply State.sentFresh_within; decide)
      | (with_reducible apply Within.pair; (with_reducible assumption); apply State.sourceRead_within; decide)
      | dsimp only
      | split)

theorem State.sentAgain_within {s d n r} : Within 264 s (State.sentAgain s d n r) := by
  unfold State.sentAgain
  repeat' (first
      | with_reducible apply Within.refl
      | (with_reducible apply Within.step; apply State.onQp_within; decide)
      | (with_reducible apply Within.step; apply State.count_within; decide))

theorem State.formAgain_within {s d n x r} : Within 8992601871 s (State.formAgain s d n x r).2 := by
  unfold State.formAgain
  repeat' (first
      | with_reducible apply Within.refl
      | (with_reducible apply Within.step; apply State.fault_within; decide)
      | (with_reducible apply Within.step; apply State.onQp_within; decide)
      | (with_reducible apply Within.step; apply State.qpFault_within; decide)
      | (with_reducible apply Within.step; apply State.abortPsn_within; decide)
      | (with_reducible apply Within.step; apply State.sentAgain_within; decide)
      | (with_reducible apply Within.pair; (with_reducible assumption); apply State.sourceRead_within; decide)
      | dsimp only
      | split)

theorem State.sendAck_within {s d p} : Within 25975324680 s (State.sendAck s d p) := by
  unfold State.sendAck
  repeat' (first
      | with_reducible apply Within.refl
      | (with_reducible apply Within.step; apply State.inject_within; decide))

theorem State.nak_within {s d n psn code} : Within 25975341832 s (State.nak s d n psn code) := by
  unfold State.nak
  repeat' (first
      | with_reducible apply Within.refl
      | (with_reducible apply Within.step; apply State.noteEpoch_within; decide)
      | (with_reducible apply Within.step; apply State.sendAck_within; decide)
      | (with_reducible apply Within.step; apply State.setQp_within; decide)
      | (with_reducible apply Within.step; apply State.count_within; decide)
      | dsimp only
      | split)

theorem State.formReply_within {s d n x o} : Within 26243790607 s (State.formReply s d n x o).2 := by
  unfold State.formReply
  repeat' (first
      | with_reducible apply Within.refl
      | (with_reducible apply Within.step; apply State.fault_within; decide)
      | (with_reducible apply Within.step; apply State.nak_within; decide)
      | (with_reducible apply Within.step; apply State.setQp_within; decide)
      | (with_reducible apply Within.pair; (with_reducible assumption); apply State.read_within; decide)
      | dsimp only
      | split)

theorem State.formHead_within {s d n x a4} : Within 26243790607 s (State.formHead s d n x a4).2 := by
  unfold State.formHead
  repeat' (first
      | with_reducible apply Within.refl
      | (with_reducible apply Within.step; apply State.formReply_within; decide)
      | (with_reducible apply Within.step; apply State.formFresh_within; decide)
      | (with_reducible apply Within.step; apply State.formAgain_within; decide)
      | split)

theorem State.beginTransport_within {s f q i d} : Within 768 s (State.beginTransport s f q i d) := by
  unfold State.beginTransport
  repeat' (first
      | with_reducible intro _
      | with_reducible apply Within.refl
      | with_reducible apply Within.ite
      | (with_reducible apply Within.step; apply State.finish_within; decide)
      | (with_reducible apply Within.step; apply State.setQp_within; decide)
      | split)

end Sys2Proof.Machine
end

