-- ==== Sys2Proof/Laws/TransportRx.lean ====
section
/-!
SUPPORT. What each operation of Machine/TransportRx.lean can change, as a mask of the areas of Safety.lean: bit n of the mask is the
area that the declaration of `Area` lists as its n-th, from 0.
-/

set_option linter.unusedSimpArgs false
set_option linter.unusedVariables false

namespace Sys2Proof.Machine

theorem State.onTx_within {s d f} : Within 16777216 s (State.onTx s d f) := by
  unfold State.onTx
  repeat' (first
      | with_reducible intro _
      | (with_reducible apply DieWithin.mk <;> (first | exact fun e => absurd e (by decide) | exact fun _ => rfl | exact fun _ => ⟨rfl, rfl, rfl⟩ | exact fun e => e | exact fun e => .trans (by simp only [Die.units, List.length_map, List.length_set, length_modifyAt]) e))
      | with_reducible apply Within.refl
      | with_reducible apply Within.onDie)

theorem State.ctxTouch_within {s d q} : Within 16777216 s (State.ctxTouch s d q) := by
  unfold State.ctxTouch
  repeat' (first
      | with_reducible apply Within.refl
      | (with_reducible apply Within.step; apply State.onTx_within; decide))

theorem State.ctxFetch_within {s d q prefetch} : Within 16777224 s (State.ctxFetch s d q prefetch) := by
  unfold State.ctxFetch
  repeat' (first
      | with_reducible intro _
      | with_reducible apply Within.refl
      | with_reducible apply Within.ite
      | (with_reducible apply Within.step; apply State.onTx_within; decide)
      | (with_reducible apply Within.step; apply State.count_within; decide)
      | dsimp only
      | split)

theorem State.ctxDrop_within {s d q} : Within 16777216 s (State.ctxDrop s d q) := by
  unfold State.ctxDrop
  repeat' (first
      | with_reducible apply Within.refl
      | (with_reducible apply Within.step; apply State.onTx_within; decide))

theorem State.ack_within {s d n} : Within 25975341832 s (State.ack s d n) := by
  unfold State.ack
  repeat' (first
      | with_reducible apply Within.refl
      | (with_reducible apply Within.step; apply State.noteEpoch_within; decide)
      | (with_reducible apply Within.step; apply State.sendAck_within; decide)
      | (with_reducible apply Within.step; apply State.setQp_within; decide)
      | (with_reducible apply Within.step; apply State.count_within; decide)
      | dsimp only
      | split)

theorem State.noteAccepted_within {s d n p a4} : Within 264 s (State.noteAccepted s d n p a4) := by
  unfold State.noteAccepted
  repeat' (first
      | with_reducible apply Within.refl
      | (with_reducible apply Within.step; apply State.onQp_within; decide)
      | (with_reducible apply Within.step; apply State.count_within; decide))

theorem State.ackAfter_within {s d n a3 inOrder} : Within 25975341832 s (State.ackAfter s d n a3 inOrder) := by
  unfold State.ackAfter
  repeat' (first
      | with_reducible intro _
      | with_reducible apply Within.refl
      | with_reducible apply Within.ite
      | (with_reducible apply Within.step; apply State.ack_within; decide)
      | (with_reducible apply Within.step; apply State.setQp_within; decide)
      | split)

theorem State.passed_within {s d n x a} : Within 1280 s (State.passed s d n x a) := by
  unfold State.passed
  repeat' (first
      | with_reducible intro _
      | with_reducible apply Within.refl
      | with_reducible apply Within.ite
      | (with_reducible apply Within.step; apply State.arriveAt_within; decide)
      | (with_reducible apply Within.step; apply State.setQp_within; decide))

theorem State.runUp_within {d n a2 a3} : Within 1280 a3 (State.runUp d n a2 a3) := by
  unfold State.runUp
  repeat' (first
      | with_reducible apply Within.refl
      | (with_reducible apply Within.step; apply State.setQp_within; decide)
      | (with_reducible apply Within.step; apply State.passed_within; decide)
      | (with_reducible apply Within.step; apply State.runUp_within; decide)
      | dsimp only
      | split)

theorem State.accept_within {s d n p a4 len} : Within 25975342856 s (State.accept s d n p a4 len) := by
  unfold State.accept
  repeat' (first
      | with_reducible apply Within.refl
      | (with_reducible apply Within.step; apply State.ackAfter_within; decide)
      | (with_reducible apply Within.step; apply State.noteEpoch_within; decide)
      | (with_reducible apply Within.step; apply State.runUp_within; decide)
      | (with_reducible apply Within.step; apply State.setQp_within; decide)
      | (with_reducible apply Within.step; apply State.noteAccepted_within; decide)
      | dsimp only
      | split)

theorem State.acceptRequest_within {s d n p a4 psns} : Within 25975342856 s (State.acceptRequest s d n p a4 psns) := by
  unfold State.acceptRequest
  repeat' (first
      | with_reducible apply Within.refl
      | (with_reducible apply Within.step; apply State.ackAfter_within; decide)
      | (with_reducible apply Within.step; apply State.noteEpoch_within; decide)
      | (with_reducible apply Within.step; apply State.runUp_within; decide)
      | (with_reducible apply Within.step; apply State.setQp_within; decide)
      | (with_reducible apply Within.step; apply State.noteAccepted_within; decide)
      | dsimp only
      | split)

theorem State.placeData_within {s d n x p a5 addr bs} : Within 26243778313 s (State.placeData s d n x p a5 addr bs) := by
  unfold State.placeData
  repeat' (first
      | with_reducible intro _
      | with_reducible apply Within.refl
      | with_reducible apply Within.ite
      | (with_reducible apply Within.step; apply State.fault_within; decide)
      | (with_reducible apply Within.step; apply State.nak_within; decide)
      | (with_reducible apply Within.step; apply State.count_within; decide)
      | (with_reducible apply Within.step; apply State.accept_within; decide)
      | (with_reducible apply Within.pair; (with_reducible assumption); apply State.writeWhole_within; decide)
      | split)

theorem State.rxWrite_within {s d n x p a5 bs} : Within 26243778313 s (State.rxWrite s d n x p a5 bs) := by
  unfold State.rxWrite
  repeat' (first
      | with_reducible apply Within.refl
      | (with_reducible apply Within.step; apply State.placeData_within; decide))

theorem State.rxSend_within {s d n x p a5 bs} : Within 26243778313 s (State.rxSend s d n x p a5 bs) := by
  unfold State.rxSend
  repeat' (first
      | with_reducible intro _
      | with_reducible apply Within.refl
      | with_reducible apply Within.ite
      | (with_reducible apply Within.step; apply State.nak_within; decide)
      | (with_reducible apply Within.step; apply State.placeData_within; decide))

theorem State.rxRead_within {s d n x p a5 dst duplicate} : Within 26243778312 s (State.rxRead s d n x p a5 dst duplicate) := by
  unfold State.rxRead
  repeat' (first
      | with_reducible intro _
      | with_reducible apply Within.refl
      | with_reducible apply Within.ite
      | (with_reducible apply Within.step; apply State.fault_within; decide)
      | (with_reducible apply Within.step; apply State.acceptRequest_within; decide)
      | (with_reducible apply Within.step; apply State.ack_within; decide)
      | (with_reducible apply Within.pair; (with_reducible assumption); apply State.translateParts_within; decide)
      | (with_reducible apply Within.step; apply State.onQp_within; decide)
      | (with_reducible apply Within.step; apply State.nak_within; decide)
      | dsimp only
      | split)

theorem State.rxAtomic_within {s d n x p a5 addend} : Within 26243778313 s (State.rxAtomic s d n x p a5 addend) := by
  unfold State.rxAtomic
  repeat' (first
      | with_reducible intro _
      | with_reducible apply Within.refl
      | with_reducible apply Within.ite
      | (with_reducible apply Within.step; apply State.fault_within; decide)
      | (with_reducible apply Within.step; apply State.acceptRequest_within; decide)
      | (with_reducible apply Within.step; apply State.write_within; decide)
      | (with_reducible apply Within.pair; (with_reducible assumption); apply State.translateParts_within; decide)
      | (with_reducible apply Within.step; apply State.onQp_within; decide)
      | (with_reducible apply Within.step; apply State.nak_within; decide)
      | (with_reducible apply Within.step; apply State.count_within; decide)
      | dsimp only
      | split)

theorem State.rxSequenced_within {s d n x p a5 bs} : Within 26243778313 s (State.rxSequenced s d n x p a5 bs) := by
  unfold State.rxSequenced
  repeat' (first
      | with_reducible intro _
      | with_reducible apply Within.refl
      | with_reducible apply Within.ite
      | (with_reducible apply Within.step; apply State.rxRead_within; decide)
      | (with_reducible apply Within.step; apply State.ack_within; decide)
      | (with_reducible apply Within.step; apply State.rxWrite_within; decide)
      | (with_reducible apply Within.step; apply State.rxAtomic_within; decide)
      | (with_reducible apply Within.step; apply State.onQp_within; decide)
      | (with_reducible apply Within.step; apply State.nak_within; decide)
      | (with_reducible apply Within.step; apply State.rxSend_within; decide)
      | (with_reducible apply Within.step; apply State.count_within; decide)
      | (with_reducible apply Within.step; apply State.accept_within; decide)
      | split)

theorem State.rateUpdate_within {s d n data ce} : Within 256 s (State.rateUpdate s d n data ce) := by
  unfold State.rateUpdate
  repeat' (first
      | with_reducible intro _
      | with_reducible apply Within.refl
      | with_reducible apply Within.ite
      | (with_reducible apply Within.step; apply State.setQp_within; decide)
      | dsimp only
      | split)

theorem State.rateCut_within {s d n} : Within 256 s (State.rateCut s d n) := by
  unfold State.rateCut
  repeat' (first
      | with_reducible intro _
      | with_reducible apply Within.refl
      | with_reducible apply Within.ite
      | (with_reducible apply Within.step; apply State.setQp_within; decide)
      | split)

theorem State.makeDue_within {s n timed psns} : Within 776 s (State.makeDue s n timed psns) := by
  unfold State.makeDue
  repeat' (first
      | with_reducible intro _
      | with_reducible apply Within.refl
      | with_reducible apply Within.ite
      | (with_reducible apply Within.step; apply State.qpError_within; decide)
      | (with_reducible apply Within.step; apply State.setQp_within; decide)
      | split)

theorem State.advance_within {s n} : Within 768 s (State.advance s n) := by
  unfold State.advance
  repeat' (first
      | with_reducible apply Within.refl
      | (with_reducible apply Within.step; apply State.endOps_within; decide)
      | (with_reducible apply Within.step; apply State.setQp_within; decide)
      | dsimp only
      | split)

theorem State.settleRemote_within {s n} : Within 256 s (State.settleRemote s n) := by
  unfold State.settleRemote
  repeat' (first
      | with_reducible apply Within.refl
      | (with_reducible apply Within.step; apply State.onQp_within; decide))

theorem State.rxAck_within {s d n x a4 bs} : Within 776 s (State.rxAck s d n x a4 bs) := by
  unfold State.rxAck
  repeat' (first
      | with_reducible intro _
      | with_reducible apply Within.refl
      | with_reducible apply Within.ite
      | (with_reducible apply Within.step; apply State.settleRemote_within; decide)
      | (with_reducible apply Within.step; apply State.rateUpdate_within; decide)
      | (with_reducible apply Within.step; apply State.setQp_within; decide)
      | (with_reducible apply Within.step; apply State.makeDue_within; decide)
      | (with_reducible apply Within.step; apply State.advance_within; decide)
      | dsimp only
      | split)

theorem State.expire_within {s d n x rnr psns} : Within 776 s (State.expire s d n x rnr psns) := by
  unfold State.expire
  repeat' (first
      | with_reducible intro _
      | with_reducible apply Within.refl
      | with_reducible apply Within.ite
      | (with_reducible apply Within.step; apply State.qpError_within; decide)
      | (with_reducible apply Within.step; apply State.rateCut_within; decide)
      | (with_reducible apply Within.step; apply State.setQp_within; decide)
      | (with_reducible apply Within.step; apply State.makeDue_within; decide)
      | (with_reducible apply Within.step; apply State.count_within; decide))

theorem State.answered_within {s n p op flush status detail} : Within 768 s (State.answered s n p op flush status detail) := by
  unfold State.answered
  repeat' (first
      | with_reducible apply Within.refl
      | (with_reducible apply Within.step; apply State.settleRemote_within; decide)
      | (with_reducible apply Within.step; apply State.onQp_within; decide)
      | (with_reducible apply Within.step; apply State.advance_within; decide))

theorem State.rxNak_within {s d n x a4} : Within 776 s (State.rxNak s d n x a4) := by
  unfold State.rxNak
  repeat' (first
      | with_reducible intro _
      | with_reducible apply Within.refl
      | with_reducible apply Within.ite
      | (with_reducible apply Within.step; apply State.expire_within; decide)
      | (with_reducible apply Within.step; apply State.rateUpdate_within; decide)
      | (with_reducible apply Within.step; apply State.qpError_within; decide)
      | (with_reducible apply Within.step; apply State.answered_within; decide)
      | (with_reducible apply Within.step; apply State.onQp_within; decide)
      | (with_reducible apply Within.step; apply State.makeDue_within; decide)
      | (with_reducible apply Within.step; apply State.qpFault_within; decide)
      | dsimp only
      | split)

theorem State.responded_within {s n psn} : Within 768 s (State.responded s n psn) := by
  unfold State.responded
  repeat' (first
      | with_reducible apply Within.refl
      | (with_reducible apply Within.step; apply State.settleRemote_within; decide)
      | (with_reducible apply Within.step; apply State.onQp_within; decide)
      | (with_reducible apply Within.step; apply State.advance_within; decide))

theorem State.rxResponse_within {s d n x a4 bs} : Within 268437257 s (State.rxResponse s d n x a4 bs) := by
  unfold State.rxResponse
  repeat' (first
      | with_reducible intro _
      | with_reducible apply Within.refl
      | with_reducible apply Within.ite
      | (with_reducible apply Within.step; apply State.fault_within; decide)
      | (with_reducible apply Within.step; apply State.answered_within; decide)
      | (with_reducible apply Within.step; apply State.responded_within; decide)
      | (with_reducible apply Within.step; apply State.onQp_within; decide)
      | (with_reducible apply Within.step; apply State.qpFault_within; decide)
      | (with_reducible apply Within.step; apply State.count_within; decide)
      | (with_reducible apply Within.pair; (with_reducible assumption); apply State.writeWhole_within; decide)
      | dsimp only
      | split)

theorem State.noteIdle_within {s n} : Within 256 s (State.noteIdle s n) := by
  unfold State.noteIdle
  repeat' (first
      | with_reducible apply Within.refl
      | (with_reducible apply Within.step; apply State.onQp_within; decide))

theorem State.mismatch_within {s d} : Within 8 s (State.mismatch s d) := by
  unfold State.mismatch
  repeat' (first
      | with_reducible apply Within.refl
      | (with_reducible apply Within.step; apply State.count_within; decide))

theorem State.rxChecked_within {s d p a3} : Within 26243778313 s (State.rxChecked s d p a3) := by
  unfold State.rxChecked
  repeat' (first
      | with_reducible intro _
      | with_reducible apply Within.refl
      | with_reducible apply Within.ite
      | (with_reducible apply Within.step; apply State.rxAck_within; decide)
      | (with_reducible apply Within.step; apply State.rxSequenced_within; decide)
      | (with_reducible apply Within.step; apply State.rxResponse_within; decide)
      | (with_reducible apply Within.step; apply State.rxNak_within; decide)
      | (with_reducible apply Within.step; apply State.setQp_within; decide)
      | (with_reducible apply Within.step; apply State.noteIdle_within; decide)
      | (with_reducible apply Within.step; apply State.mismatch_within; decide)
      | (with_reducible apply Within.step; apply State.count_within; decide)
      | dsimp only
      | split)

theorem State.rxPacket_within {s d p a3} : Within 26260555529 s (State.rxPacket s d p a3) := by
  unfold State.rxPacket
  repeat' (first
      | with_reducible intro _
      | with_reducible apply Within.refl
      | with_reducible apply Within.ite
      | (with_reducible apply Within.step; apply State.ctxTouch_within; decide)
      | (with_reducible apply Within.step; apply State.onTx_within; decide)
      | (with_reducible apply Within.step; apply State.ctxFetch_within; decide)
      | (with_reducible apply Within.step; apply State.mismatch_within; decide)
      | (with_reducible apply Within.step; apply State.rxChecked_within; decide)
      | (with_reducible apply Within.step; apply State.count_within; decide))

theorem State.receive_within {s d op code p} : RWithin 26260555529 s (State.receive s d op code p) := by
  unfold State.receive
  repeat' (first
      | with_reducible intro _
      | with_reducible apply Within.refl
      | with_reducible apply Within.ite
      | with_reducible apply RWithin.atDie
      | (with_reducible apply Within.step; apply State.takeLocal_within; decide)
      | (with_reducible apply Within.step; apply State.rxPacket_within; decide)
      | (with_reducible apply Within.step; apply State.mismatch_within; decide)
      | dsimp only
      | split)

theorem execWritePacket_within {d p s} : RWithin 26260555529 s (execWritePacket d p s) := by
  unfold execWritePacket
  repeat' (first
      | (with_reducible apply RWithin.mono; apply State.receive_within; decide))

theorem execWriteNotifyPacket_within {d p s} : RWithin 26260555529 s (execWriteNotifyPacket d p s) := by
  unfold execWriteNotifyPacket
  repeat' (first
      | (with_reducible apply RWithin.mono; apply State.receive_within; decide))

theorem execSendPacket_within {d p s} : RWithin 26260555529 s (execSendPacket d p s) := by
  unfold execSendPacket
  repeat' (first
      | (with_reducible apply RWithin.mono; apply State.receive_within; decide))

theorem execReadRequest_within {d p s} : RWithin 26260555529 s (execReadRequest d p s) := by
  unfold execReadRequest
  repeat' (first
      | (with_reducible apply RWithin.mono; apply State.receive_within; decide))

theorem execReadResponse_within {d p s} : RWithin 26260555529 s (execReadResponse d p s) := by
  unfold execReadResponse
  repeat' (first
      | (with_reducible apply RWithin.mono; apply State.receive_within; decide))

theorem execAtomicRequest_within {d p s} : RWithin 26260555529 s (execAtomicRequest d p s) := by
  unfold execAtomicRequest
  repeat' (first
      | (with_reducible apply RWithin.mono; apply State.receive_within; decide))

theorem execAtomicResponse_within {d p s} : RWithin 26260555529 s (execAtomicResponse d p s) := by
  unfold execAtomicResponse
  repeat' (first
      | (with_reducible apply RWithin.mono; apply State.receive_within; decide))

theorem execMsgAbort_within {d p s} : RWithin 26260555529 s (execMsgAbort d p s) := by
  unfold execMsgAbort
  repeat' (first
      | (with_reducible apply RWithin.mono; apply State.receive_within; decide))

theorem execAck_within {d p s} : RWithin 26260555529 s (execAck d p s) := by
  unfold execAck
  repeat' (first
      | (with_reducible apply RWithin.mono; apply State.receive_within; decide))

theorem execNakRnr_within {d p s} : RWithin 26260555529 s (execNakRnr d p s) := by
  unfold execNakRnr
  repeat' (first
      | (with_reducible apply RWithin.mono; apply State.receive_within; decide))

theorem execNakFaultWait_within {d p s} : RWithin 26260555529 s (execNakFaultWait d p s) := by
  unfold execNakFaultWait
  repeat' (first
      | (with_reducible apply RWithin.mono; apply State.receive_within; decide))

theorem execNakAccessDenied_within {d p s} : RWithin 26260555529 s (execNakAccessDenied d p s) := by
  unfold execNakAccessDenied
  repeat' (first
      | (with_reducible apply RWithin.mono; apply State.receive_within; decide))

theorem execNakPoisoned_within {d p s} : RWithin 26260555529 s (execNakPoisoned d p s) := by
  unfold execNakPoisoned
  repeat' (first
      | (with_reducible apply RWithin.mono; apply State.receive_within; decide))

theorem execNakTallyFailed_within {d p s} : RWithin 26260555529 s (execNakTallyFailed d p s) := by
  unfold execNakTallyFailed
  repeat' (first
      | (with_reducible apply RWithin.mono; apply State.receive_within; decide))

theorem execNakQpError_within {d p s} : RWithin 26260555529 s (execNakQpError d p s) := by
  unfold execNakQpError
  repeat' (first
      | (with_reducible apply RWithin.mono; apply State.receive_within; decide))

theorem execNakInvalidRequest_within {d p s} : RWithin 26260555529 s (execNakInvalidRequest d p s) := by
  unfold execNakInvalidRequest
  repeat' (first
      | (with_reducible apply RWithin.mono; apply State.receive_within; decide))

theorem atQp_step {W s t n f} (hW : 0 &&& W = 0)
    (hr : ∀ x, Within W s (f x)) (h : Within W s t) :
    RWithin W s (atQp t n f) := by
  unfold atQp
  repeat' (first
      | with_reducible intro _
      | with_reducible assumption
      | with_reducible apply hr
      | with_reducible apply RWithin.fault
      | with_reducible apply RWithin.next
      | with_reducible apply RWithin.ite
      | split)

theorem execAckTimer_within {qp s} : RWithin 25975341832 s (execAckTimer qp s) := by
  unfold execAckTimer
  repeat' (first
      | with_reducible intro _
      | with_reducible apply Within.refl
      | with_reducible apply Within.ite
      | (with_reducible apply Within.step; apply State.ack_within; decide)
      | (with_reducible apply atQp_step; decide))

theorem execRtoExpiry_within {qp s} : RWithin 776 s (execRtoExpiry qp s) := by
  unfold execRtoExpiry
  repeat' (first
      | with_reducible intro _
      | with_reducible apply Within.refl
      | with_reducible apply Within.ite
      | (with_reducible apply Within.step; apply State.expire_within; decide)
      | (with_reducible apply atQp_step; decide))

theorem execFaultWaitProbe_within {qp s} : RWithin 776 s (execFaultWaitProbe qp s) := by
  unfold execFaultWaitProbe
  repeat' (first
      | with_reducible intro _
      | with_reducible apply Within.refl
      | (with_reducible apply Within.step; apply State.makeDue_within; decide)
      | (with_reducible apply atQp_step; decide)
      | split)

theorem execFaultWaitLimit_within {qp s} : RWithin 776 s (execFaultWaitLimit qp s) := by
  unfold execFaultWaitLimit
  repeat' (first
      | with_reducible intro _
      | with_reducible apply Within.refl
      | with_reducible apply Within.ite
      | (with_reducible apply Within.step; apply State.qpError_within; decide)
      | (with_reducible apply atQp_step; decide))

theorem execContextFetchDone_within {qp s} : RWithin 26260555529 s (execContextFetchDone qp s) := by
  unfold execContextFetchDone
  repeat' (first
      | with_reducible intro _
      | with_reducible apply Within.refl
      | with_reducible assumption
      | with_reducible apply RWithin.fault
      | with_reducible apply RWithin.next
      | with_reducible apply RWithin.ite
      | (with_reducible apply Within.step; apply State.ctxTouch_within; decide)
      | (with_reducible apply Within.step; apply State.onTx_within; decide)
      | (with_reducible apply Within.step; apply State.ctxFetch_within; decide)
      | (with_reducible apply Within.step; apply State.rxChecked_within; decide)
      | with_reducible apply Within.foldl
      | dsimp only
      | split)

theorem execContextPrefetch_within {qp s} : RWithin 16777224 s (execContextPrefetch qp s) := by
  unfold execContextPrefetch
  repeat' (first
      | with_reducible intro _
      | with_reducible apply Within.refl
      | (with_reducible apply Within.step; apply State.ctxFetch_within; decide)
      | (with_reducible apply atQp_step; decide))

theorem State.qpResolve_within {s key r} : Within 776 s (State.qpResolve s key r) := by
  unfold State.qpResolve
  repeat' (first
      | with_reducible intro _
      | with_reducible apply Within.refl
      | with_reducible assumption
      | with_reducible apply Within.ite
      | (with_reducible apply Within.step; apply State.setQp_within; decide)
      | (with_reducible apply Within.step; apply State.makeDue_within; decide)
      | with_reducible apply Within.foldl
      | dsimp only
      | split)

theorem State.qpAbort_within {s key r} : Within 768 s (State.qpAbort s key r) := by
  unfold State.qpAbort
  repeat' (first
      | with_reducible intro _
      | with_reducible apply Within.refl
      | with_reducible assumption
      | with_reducible apply Within.ite
      | (with_reducible apply Within.step; apply State.answered_within; decide)
      | (with_reducible apply Within.step; apply State.setQp_within; decide)
      | (with_reducible apply Within.step; apply State.cutShort_within; decide)
      | (with_reducible apply Within.step; apply State.abortPsn_within; decide)
      | with_reducible apply Within.foldl
      | dsimp only
      | split)

end Sys2Proof.Machine
end

