-- ==== Sys2Proof/Laws/Scheduler.lean ====
section
/-!
SUPPORT. What each operation of Machine/Scheduler.lean can change, as a mask of the areas of Safety.lean: bit n of the mask is the
area that the declaration of `Area` lists as its n-th, from 0.
-/

set_option linter.unusedSimpArgs false
set_option linter.unusedVariables false

namespace Sys2Proof.Machine

theorem State.onClass_within {s d i c f} : Within 33554432 s (State.onClass s d i c f) := by
  unfold State.onClass
  repeat' (first
      | with_reducible intro _
      | (with_reducible apply DieWithin.mk <;> (first | exact fun e => absurd e (by decide) | exact fun _ => rfl | exact fun _ => ⟨rfl, rfl, rfl⟩ | exact fun e => e | exact fun e => .trans (by simp only [Die.units, List.length_map, List.length_set, length_modifyAt]) e))
      | with_reducible apply Within.refl
      | with_reducible apply Within.onDie)

theorem State.refreshFlows_within {s d i} : Within 33554688 s (State.refreshFlows s d i) := by
  unfold State.refreshFlows
  repeat' (first
      | with_reducible intro _
      | with_reducible apply Within.refl
      | with_reducible assumption
      | with_reducible apply Within.ite
      | (with_reducible apply Within.step; apply State.setQp_within; decide)
      | (with_reducible apply Within.step; apply State.onClass_within; decide)
      | with_reducible apply Within.foldl)

theorem State.firstFlow_within {d a1 a2} : Within 16777224 a2 (State.firstFlow d a1 a2).2 := by
  unfold State.firstFlow
  repeat' (first
      | with_reducible apply Within.refl
      | (with_reducible apply Within.step; apply State.ctxFetch_within; decide)
      | (with_reducible apply Within.step; apply State.firstFlow_within; decide)
      | split)

theorem State.sendBy_within {s d i c p deep} : Within 171966472 s (State.sendBy s d i c p deep) := by
  unfold State.sendBy
  repeat' (first
      | with_reducible intro _
      | with_reducible apply Within.refl
      | with_reducible apply Within.ite
      | (with_reducible apply Within.step; apply State.sendFrame_within; decide)
      | (with_reducible apply Within.step; apply State.sendEth_within; decide)
      | (with_reducible apply Within.step; apply State.count_within; decide)
      | (with_reducible apply Within.step; apply State.onClass_within; decide)
      | split)

theorem State.chargeFlow_within {s d i c tag} : Within 33554432 s (State.chargeFlow s d i c tag) := by
  unfold State.chargeFlow
  repeat' (first
      | with_reducible apply Within.refl
      | (with_reducible apply Within.step; apply State.onClass_within; decide))

theorem State.sendHeld_within {s d i c tag a5} : Within 17418944520 s (State.sendHeld s d i c tag a5) := by
  unfold State.sendHeld
  repeat' (first
      | with_reducible intro _
      | with_reducible apply Within.refl
      | (with_reducible apply Within.step; apply State.noteOccupancy_within; decide)
      | (with_reducible apply Within.step; apply State.departed_within; decide)
      | (with_reducible apply Within.step; apply State.chargeFlow_within; decide)
      | (with_reducible apply Within.step; apply State.sendBy_within; decide)
      | (with_reducible apply State.onRouter_step; decide)
      | exact ⟨by simp only [List.length_map, List.length_set, length_modifyAt], by simp only [List.length_map, List.length_set, length_modifyAt]⟩
      | (with_reducible apply Within.step; apply State.onClass_within; decide)
      | split)

theorem State.sentQp_within {s d n tag weight ch} : Within 256 s (State.sentQp s d n tag weight ch) := by
  unfold State.sentQp
  repeat' (first
      | with_reducible apply Within.refl
      | (with_reducible apply Within.step; apply State.onQp_within; decide)
      | (with_reducible apply Within.step; apply State.noteIdle_within; decide))

theorem State.sendQp_within {s d i c tag n x a7} : Within 26294122255 s (State.sendQp s d i c tag n x a7) := by
  unfold State.sendQp
  repeat' (first
      | with_reducible apply Within.refl
      | (with_reducible apply Within.step; apply State.sentQp_within; decide)
      | (with_reducible apply Within.step; apply State.ctxTouch_within; decide)
      | (with_reducible apply Within.step; apply State.departed_within; decide)
      | (with_reducible apply Within.step; apply State.chargeFlow_within; decide)
      | (with_reducible apply Within.step; apply State.editionCount_within; decide)
      | (with_reducible apply Within.step; apply State.sendBy_within; decide)
      | (with_reducible apply Within.step; apply State.setQp_within; decide)
      | (with_reducible apply Within.step; apply State.noteIdle_within; decide)
      | (with_reducible apply Within.pair; (with_reducible assumption); apply State.formHead_within; decide)
      | (with_reducible apply Within.step; apply State.count_within; decide)
      | dsimp only
      | split)

theorem State.select_within {s d i} : Within 26294122255 s (State.select s d i) := by
  unfold State.select
  repeat' (first
      | with_reducible intro _
      | (with_reducible apply DieWithin.mk <;> (first | exact fun e => absurd e (by decide) | exact fun _ => rfl | exact fun _ => ⟨rfl, rfl, rfl⟩ | exact fun e => e | exact fun e => .trans (by simp only [Die.units, List.length_map, List.length_set, length_modifyAt]) e))
      | with_reducible apply Within.refl
      | with_reducible assumption
      | (with_reducible apply Within.step; apply State.sendHeld_within; decide)
      | (with_reducible apply Within.step; apply State.sendQp_within; decide)
      | (with_reducible apply Within.step; apply State.refreshFlows_within; decide)
      | (with_reducible apply Within.step; apply State.pullSource_within; decide)
      | (with_reducible apply Within.pair; (with_reducible assumption); apply State.firstFlow_within; decide)
      | with_reducible apply Within.foldl
      | with_reducible apply Within.foldl_snd
      | with_reducible apply Within.onDie
      | split)

theorem State.selectLocal_within {s d} : Within 26260567823 s (State.selectLocal s d) := by
  unfold State.selectLocal
  repeat' (first
      | with_reducible intro _
      | with_reducible apply Within.refl
      | with_reducible assumption
      | with_reducible apply Within.ite
      | (with_reducible apply Within.step; apply State.sentQp_within; decide)
      | (with_reducible apply Within.step; apply State.ctxTouch_within; decide)
      | (with_reducible apply Within.step; apply State.inject_within; decide)
      | (with_reducible apply Within.step; apply State.ctxFetch_within; decide)
      | (with_reducible apply Within.step; apply State.setQp_within; decide)
      | (with_reducible apply Within.step; apply State.noteIdle_within; decide)
      | (with_reducible apply Within.pair; (with_reducible assumption); apply State.formHead_within; decide)
      | (with_reducible apply Within.step; apply State.pullSource_within; decide)
      | (with_reducible apply Within.step; apply State.count_within; decide)
      | with_reducible apply Within.foldl
      | dsimp only
      | split)

theorem execSchedulerSelection_within {d i s} : RWithin 26294122255 s (execSchedulerSelection d i s) := by
  unfold execSchedulerSelection
  repeat' (first
      | with_reducible intro _
      | with_reducible apply Within.refl
      | with_reducible apply Within.ite
      | with_reducible apply RWithin.atUnit
      | (with_reducible apply Within.step; apply State.selectLocal_within; decide)
      | (with_reducible apply Within.step; apply State.select_within; decide))

theorem execEscapeWaitExpiry_within {d port n s} : RWithin 17385390344 s (execEscapeWaitExpiry d port n s) := by
  unfold execEscapeWaitExpiry
  repeat' (first
      | with_reducible intro _
      | with_reducible apply Within.refl
      | with_reducible apply Within.ite
      | with_reducible apply RWithin.atUnit
      | (with_reducible apply Within.step; apply State.discard_within; decide)
      | (with_reducible apply Within.step; apply State.setQp_within; decide)
      | (with_reducible apply State.onRouter_step; decide)
      | exact ⟨by simp only [List.length_map, List.length_set, length_modifyAt], by simp only [List.length_map, List.length_set, length_modifyAt]⟩
      | (with_reducible apply Within.step; apply State.count_within; decide)
      | dsimp only
      | split)

theorem State.bump_within {s p off} : Within 14 s (State.bump s p off) := by
  unfold State.bump
  repeat' (first
      | with_reducible apply Within.refl
      | (with_reducible apply Within.step; apply State.setReg_any; decide))

theorem execDepthDelaySample_within {d i s} : RWithin 33554702 s (execDepthDelaySample d i s) := by
  unfold execDepthDelaySample
  repeat' (first
      | with_reducible intro _
      | with_reducible apply Within.refl
      | with_reducible assumption
      | with_reducible apply Within.ite
      | with_reducible apply RWithin.atUnit
      | (with_reducible apply Within.step; apply State.bump_within; decide)
      | (with_reducible apply Within.step; apply State.refreshFlows_within; decide)
      | (with_reducible apply Within.step; apply State.count_within; decide)
      | with_reducible apply Within.foldl)

theorem execQpWeightWrite_within {f d value s} : RWithin 8594141454 s (execQpWeightWrite f d value s) := by
  unfold execQpWeightWrite
  repeat' (first
      | with_reducible intro _
      | with_reducible apply Within.refl
      | with_reducible apply Within.ite
      | with_reducible apply RWithin.atUnit
      | (with_reducible apply Within.step; apply State.refuse_within; decide)
      | (with_reducible apply State.fromFn_step; decide)
      | (with_reducible apply State.guarded_step; decide)
      | (with_reducible apply Within.step; apply State.setQp_within; decide)
      | split)

end Sys2Proof.Machine
end

