-- ==== Sys2Proof/Laws/Admin.lean ====
section
/-!
SUPPORT. What each operation of Machine/Admin.lean can change, as a mask of the areas of Safety.lean: bit n of the mask is the
area that the declaration of `Area` lists as its n-th, from 0.
-/

set_option linter.unusedSimpArgs false
set_option linter.unusedVariables false

namespace Sys2Proof.Machine

theorem State.adminEnd_within {s f i status r0 r1} : Within 512 s (State.adminEnd s f i status r0 r1) := by
  unfold State.adminEnd
  repeat' (first
      | with_reducible apply Within.refl
      | (with_reducible apply Within.step; apply State.finish_within; decide))

theorem State.createQueue_within {s f i d} : Within 640 s (State.createQueue s f i d) := by
  unfold State.createQueue
  repeat' (first
      | with_reducible intro _
      | with_reducible apply Within.refl
      | with_reducible apply Within.ite
      | (with_reducible apply Within.step; apply State.setQueue_within; decide)
      | (with_reducible apply Within.step; apply State.adminEnd_within; decide))

theorem State.removeQueue_within {s f q} : Within 384 s (State.removeQueue s f q) := by
  unfold State.removeQueue
  repeat' (first
      | with_reducible intro _
      | (simp only [Within.mk_iff]; with_reducible apply WithinMk.put; (repeat' (first | (with_reducible exact OtpKept.refl _) | (with_reducible apply And.intro) | exact Or.inl (by decide) | exact Or.inr rfl | (with_reducible rfl) | (simp only [List.length_map, List.length_set, length_modifyAt]; done))))
      | with_reducible apply Within.refl
      | with_reducible assumption
      | (with_reducible apply Within.step; apply State.releaseSlot_within; decide)
      | with_reducible apply Within.foldl
      | split)

theorem State.destroyQueue_within {s f i d} : Within 896 s (State.destroyQueue s f i d) := by
  unfold State.destroyQueue
  repeat' (first
      | with_reducible intro _
      | with_reducible apply Within.refl
      | with_reducible apply Within.ite
      | (with_reducible apply Within.step; apply State.adminEnd_within; decide)
      | (with_reducible apply Within.step; apply State.removeQueue_within; decide)
      | dsimp only
      | split)

theorem State.setArrivalRoute_within {s f i d} : Within 544 s (State.setArrivalRoute s f i d) := by
  unfold State.setArrivalRoute
  repeat' (first
      | with_reducible intro _
      | with_reducible apply Within.refl
      | with_reducible apply Within.ite
      | (with_reducible apply Within.step; apply State.adminEnd_within; decide)
      | (with_reducible apply Within.onFn; decide))

theorem State.setFunctionMode_within {s f i d} : Within 544 s (State.setFunctionMode s f i d) := by
  unfold State.setFunctionMode
  repeat' (first
      | with_reducible intro _
      | with_reducible apply Within.refl
      | with_reducible apply Within.ite
      | (with_reducible apply Within.step; apply State.adminEnd_within; decide)
      | (with_reducible apply Within.onFn; decide))

theorem State.takeEpoch_within {s f a2 d} : Within 16384 s (State.takeEpoch s f a2 d) := by
  unfold State.takeEpoch
  repeat' (first
      | (simp only [Within.mk_iff]; with_reducible apply WithinMk.put; (repeat' (first | (with_reducible exact OtpKept.refl _) | (with_reducible apply And.intro) | exact Or.inl (by decide) | exact Or.inr rfl | (with_reducible rfl) | (simp only [List.length_map, List.length_set, length_modifyAt]; done))))
      | with_reducible apply Within.refl)

theorem State.createQp_within {s f i d} : Within 17152 s (State.createQp s f i d) := by
  unfold State.createQp
  repeat' (first
      | with_reducible intro _
      | with_reducible apply Within.refl
      | with_reducible apply Within.ite
      | (with_reducible apply Within.step; apply State.takeEpoch_within; decide)
      | (with_reducible apply Within.step; apply State.adminEnd_within; decide)
      | (with_reducible apply Within.step; apply State.setQp_within; decide)
      | dsimp only
      | split)

theorem State.modifyQp_step {W s t f i d act} (hW : 512 &&& W = 512)
    (hact : ∀ n x, Within W s (act n x)) (h : Within W s t) :
    Within W s (State.modifyQp t f i d act) := by
  unfold State.modifyQp
  repeat' (first
      | with_reducible intro _
      | with_reducible assumption
      | with_reducible apply hact
      | with_reducible apply Within.ite
      | (with_reducible apply Within.step; (with_reducible apply State.adminEnd_within); exact and_trans (by decide) hW)
      | dsimp only
      | split)

theorem State.modified_within {s f i n x r1} : Within 768 s (State.modified s f i n x r1) := by
  unfold State.modified
  repeat' (first
      | with_reducible apply Within.refl
      | (with_reducible apply Within.step; apply State.adminEnd_within; decide)
      | (with_reducible apply Within.step; apply State.setQp_within; decide))

theorem State.toRtr_within {s f i d} : Within 768 s (State.toRtr s f i d) := by
  unfold State.toRtr
  repeat' (first
      | with_reducible intro _
      | with_reducible apply Within.refl
      | with_reducible apply Within.ite
      | (with_reducible apply Within.step; apply State.adminEnd_within; decide)
      | (with_reducible apply State.modifyQp_step; decide)
      | (with_reducible apply Within.step; apply State.modified_within; decide))

theorem State.toRts_within {s f i d} : Within 768 s (State.toRts s f i d) := by
  unfold State.toRts
  repeat' (first
      | with_reducible intro _
      | with_reducible apply Within.refl
      | with_reducible apply Within.ite
      | (with_reducible apply Within.step; apply State.adminEnd_within; decide)
      | (with_reducible apply State.modifyQp_step; decide)
      | (with_reducible apply Within.step; apply State.modified_within; decide))

theorem State.toError_within {s f i d} : Within 776 s (State.toError s f i d) := by
  unfold State.toError
  repeat' (first
      | with_reducible intro _
      | with_reducible apply Within.refl
      | with_reducible apply Within.ite
      | (with_reducible apply Within.step; apply State.qpError_within; decide)
      | (with_reducible apply Within.step; apply State.adminEnd_within; decide)
      | (with_reducible apply State.modifyQp_step; decide))

theorem State.toInit_within {s f i d} : Within 17152 s (State.toInit s f i d) := by
  unfold State.toInit
  repeat' (first
      | with_reducible intro _
      | with_reducible apply Within.refl
      | with_reducible apply Within.ite
      | (with_reducible apply Within.step; apply State.takeEpoch_within; decide)
      | (with_reducible apply Within.step; apply State.adminEnd_within; decide)
      | (with_reducible apply State.modifyQp_step; decide)
      | (with_reducible apply Within.step; apply State.modified_within; decide))

theorem State.setLimits_within {s f i d} : Within 768 s (State.setLimits s f i d) := by
  unfold State.setLimits
  repeat' (first
      | with_reducible intro _
      | with_reducible apply Within.refl
      | with_reducible apply Within.ite
      | (with_reducible apply Within.step; apply State.adminEnd_within; decide)
      | (with_reducible apply State.modifyQp_step; decide)
      | (with_reducible apply Within.step; apply State.modified_within; decide))

theorem State.removeQp_within {s n} : Within 150995200 s (State.removeQp s n) := by
  unfold State.removeQp
  repeat' (first
      | with_reducible intro _
      | (simp only [Within.mk_iff]; with_reducible apply WithinMk.put; (repeat' (first | (with_reducible exact OtpKept.refl _) | (with_reducible apply And.intro) | exact Or.inl (by decide) | exact Or.inr rfl | (with_reducible rfl) | (simp only [List.length_map, List.length_set, length_modifyAt]; done))))
      | with_reducible apply Within.refl
      | with_reducible assumption
      | (with_reducible apply Within.step; apply State.ctxDrop_within; decide)
      | (with_reducible apply Within.step; apply State.onLink_within; decide)
      | with_reducible apply Within.foldl)

theorem State.destroyQp_within {s f i d} : Within 150995712 s (State.destroyQp s f i d) := by
  unfold State.destroyQp
  repeat' (first
      | with_reducible intro _
      | with_reducible apply Within.refl
      | with_reducible apply Within.ite
      | (with_reducible apply Within.step; apply State.adminEnd_within; decide)
      | (with_reducible apply Within.step; apply State.removeQp_within; decide)
      | (with_reducible apply State.modifyQp_step; decide))

end Sys2Proof.Machine
end

