-- ==== Sys2Proof/Laws/AlramReads.lean ====
section
/-!
SUPPORT. What each operation of Machine/AlramReads.lean can change, as a mask of the areas of Safety.lean: bit n of the mask is the
area that the declaration of `Area` lists as its n-th, from 0.
-/

set_option linter.unusedSimpArgs false
set_option linter.unusedVariables false

namespace Sys2Proof.Machine

theorem State.cutSource_within {s n a status} : Within 768 s (State.cutSource s n a status) := by
  unfold State.cutSource
  repeat' (first
      | with_reducible apply Within.refl
      | (with_reducible apply Within.step; apply State.cutShort_within; decide)
      | (with_reducible apply Within.step; apply State.abortPsn_within; decide)
      | split)

theorem State.closeRead_within {s d k r} : Within 134217728 s (State.closeRead s d k r) := by
  unfold State.closeRead
  repeat' (first
      | with_reducible apply Within.refl
      | (with_reducible apply Within.step; apply State.onLink_within; decide))

theorem State.failRead_within {s d k r status} : Within 134218496 s (State.failRead s d k r status) := by
  unfold State.failRead
  repeat' (first
      | with_reducible apply Within.refl
      | (with_reducible apply Within.step; apply State.flushReturn_within; decide)
      | (with_reducible apply Within.step; apply State.closeRead_within; decide)
      | (with_reducible apply Within.step; apply State.cutSource_within; decide)
      | dsimp only
      | split)

theorem execAlramReadResponse_within {d k p s} : RWithin 17385390856 s (execAlramReadResponse d k p s) := by
  unfold execAlramReadResponse
  repeat' (first
      | with_reducible intro _
      | with_reducible apply Within.refl
      | with_reducible apply Within.ite
      | (with_reducible apply Within.step; apply State.takeLocal_within; decide)
      | (with_reducible apply Within.step; apply State.failRead_within; decide)
      | (with_reducible apply Within.step; apply State.flushReturn_within; decide)
      | (with_reducible apply atAlram_step; decide)
      | (with_reducible apply Within.step; apply State.closeRead_within; decide)
      | (with_reducible apply Within.step; apply State.onLink_within; decide)
      | (with_reducible apply Within.step; apply State.opDrop_within; decide)
      | dsimp only
      | split)

theorem execAlramReadTimeout_within {d k tag s} : RWithin 201327368 s (execAlramReadTimeout d k tag s) := by
  unfold execAlramReadTimeout
  repeat' (first
      | with_reducible intro _
      | with_reducible apply Within.refl
      | with_reducible apply Within.ite
      | (with_reducible apply Within.step; apply State.failRead_within; decide)
      | (with_reducible apply atAlram_step; decide)
      | (with_reducible apply Within.step; apply State.onLink_within; decide)
      | (with_reducible apply Within.step; apply State.sendOnLink_within; decide)
      | (with_reducible apply Within.step; apply State.count_within; decide)
      | dsimp only
      | split)

theorem State.failReads_within {s d} : Within 134218496 s (State.failReads s d) := by
  unfold State.failReads
  repeat' (first
      | with_reducible intro _
      | with_reducible apply Within.refl
      | with_reducible assumption
      | (with_reducible apply Within.step; apply State.failRead_within; decide)
      | with_reducible apply Within.foldl)

end Sys2Proof.Machine
end

