-- ==== Sys2Proof/Laws/Integrity.lean ====
section
/-!
SUPPORT. What each operation of Machine/Integrity.lean can change, as a mask of the areas of Safety.lean: bit n of the mask is the
area that the declaration of `Area` lists as its n-th, from 0.
-/

set_option linter.unusedSimpArgs false
set_option linter.unusedVariables false

namespace Sys2Proof.Machine

theorem State.onReck_within {s d r f} : Within 34359738368 s (State.onReck s d r f) := by
  unfold State.onReck
  repeat' (first
      | with_reducible intro _
      | (with_reducible apply DieWithin.mk <;> (first | exact fun e => absurd e (by decide) | exact fun _ => rfl | exact fun _ => ⟨rfl, rfl, rfl⟩ | exact fun e => e | exact fun e => .trans (by simp only [Die.units, List.length_map, List.length_set, length_modifyAt]) e))
      | with_reducible apply Within.refl
      | with_reducible apply Within.onDie)

theorem State.onInteg_within {s d f} : Within 137438953472 s (State.onInteg s d f) := by
  unfold State.onInteg
  repeat' (first
      | with_reducible intro _
      | (with_reducible apply DieWithin.mk <;> (first | exact fun e => absurd e (by decide) | exact fun _ => rfl | exact fun _ => ⟨rfl, rfl, rfl⟩ | exact fun e => e | exact fun e => .trans (by simp only [Die.units, List.length_map, List.length_set, length_modifyAt]) e))
      | with_reducible apply Within.refl
      | with_reducible apply Within.onDie)

theorem State.pickReckoner_within {s d excl} : Within 137438953472 s (State.pickReckoner s d excl).2 := by
  unfold State.pickReckoner
  repeat' (first
      | with_reducible apply Within.refl
      | (with_reducible apply Within.step; apply State.onInteg_within; decide))

theorem State.placeRecord_within {a0 a1} : ∀ t, (State.placeRecord a0 a1) = some t → Within 137438953472 a0 t := by
  intro t h; unfold State.placeRecord at h
  repeat' (first
      | with_reducible apply Within.refl
      | (with_reducible apply Within.step; apply State.onInteg_within; decide)
      | (dsimp only at h; obtain ⟨_, _, e⟩ := Option.map_eq_some_iff.mp h; clear h; subst e))

theorem State.placeWaiting_within {s} : Within 171798691840 s (State.placeWaiting s) := by
  unfold State.placeWaiting
  repeat' (first
      | with_reducible intro _
      | with_reducible apply Within.refl
      | with_reducible assumption
      | (with_reducible apply Within.step; apply State.onReck_within; decide)
      | (with_reducible apply Within.ofSome; (with_reducible assumption); apply State.placeRecord_within; decide)
      | with_reducible apply Within.foldl
      | split)

theorem State.logBlock_within {s d block fn dest src gen} : Within 137438957580 s (State.logBlock s d block fn dest src gen).2 := by
  unfold State.logBlock
  repeat' (first
      | with_reducible intro _
      | with_reducible apply Within.refl
      | with_reducible apply Within.ite
      | (with_reducible apply Within.step; apply State.onInteg_within; decide)
      | (with_reducible apply Within.step; apply State.raise_within; decide)
      | (with_reducible apply Within.step; apply State.setLevel_within; decide)
      | (with_reducible apply Within.step; apply State.count_within; decide)
      | dsimp only
      | split)

theorem State.freeLog_within {s d p} : Within 137438953472 s (State.freeLog s d p) := by
  unfold State.freeLog
  repeat' (first
      | with_reducible apply Within.refl
      | (with_reducible apply Within.step; apply State.onInteg_within; decide))

theorem State.sendIntegrity_within {s d dest header payload} : Within 25975455752 s (State.sendIntegrity s d dest header payload) := by
  unfold State.sendIntegrity
  repeat' (first
      | with_reducible apply Within.refl
      | (with_reducible apply Within.step; apply State.inject_within; decide)
      | (with_reducible apply Within.step; apply State.takeFree_within; decide))

theorem State.noticeBlock_within {s d fn a} : Within 268435465 s (State.noticeBlock s d fn a).2 := by
  unfold State.noticeBlock
  repeat' (first
      | with_reducible apply Within.refl
      | (with_reducible apply Within.step; apply State.setPoison_within; decide)
      | (with_reducible apply Within.pair; (with_reducible assumption); apply State.demandWalk_within; decide)
      | (with_reducible apply Within.step; apply State.count_within; decide)
      | dsimp only
      | split)

theorem State.noticeBlocks_within {s d fn a3} : Within 268435465 s (State.noticeBlocks s d fn a3).2 := by
  unfold State.noticeBlocks
  repeat' (first
      | with_reducible apply Within.refl
      | (with_reducible apply Within.step; apply State.noticeBlock_within; decide)
      | (with_reducible apply Within.step; apply State.noticeBlocks_within; decide)
      | dsimp only
      | split)

theorem State.applyNotice_within {s d fn sender seq blocks} : Within 268436489 s (State.applyNotice s d fn sender seq blocks).2 := by
  unfold State.applyNotice
  repeat' (first
      | with_reducible intro _
      | with_reducible apply Within.refl
      | with_reducible apply Within.ite
      | (with_reducible apply Within.step; apply State.integrityEvent_within; decide)
      | (with_reducible apply Within.step; apply State.count_within; decide)
      | (with_reducible apply Within.step; apply State.noticeBlocks_within; decide))

theorem State.emitNotice_within {s d n} : Within 25975455752 s (State.emitNotice s d n) := by
  unfold State.emitNotice
  repeat' (first
      | with_reducible apply Within.refl
      | (with_reducible apply Within.step; apply State.sendIntegrity_within; decide))

theorem State.startNotice_within {s d n} : Within 163682845705 s (State.startNotice s d n) := by
  unfold State.startNotice
  repeat' (first
      | with_reducible intro _
      | with_reducible apply Within.refl
      | with_reducible apply Within.ite
      | (with_reducible apply Within.step; apply State.onInteg_within; decide)
      | (with_reducible apply Within.step; apply State.emitNotice_within; decide)
      | (with_reducible apply Within.step; apply State.applyNotice_within; decide)
      | (with_reducible apply Within.step; apply State.count_within; decide)
      | (with_reducible apply Within.step; apply State.freeLog_within; decide))

theorem State.retract_within {s d p} : Within 163682845705 s (State.retract s d p) := by
  unfold State.retract
  repeat' (first
      | with_reducible intro _
      | with_reducible apply Within.refl
      | with_reducible assumption
      | (with_reducible apply Within.step; apply State.onInteg_within; decide)
      | (with_reducible apply Within.step; apply State.startNotice_within; decide)
      | with_reducible apply Within.foldl)

theorem State.unlink_within {s d id} : Within 137438953472 s (State.unlink s d id) := by
  unfold State.unlink
  repeat' (first
      | with_reducible apply Within.refl
      | (with_reducible apply Within.step; apply State.onInteg_within; decide))

theorem execNotice_within {d p s} : RWithin 26243892233 s (execNotice d p s) := by
  unfold execNotice
  repeat' (first
      | with_reducible intro _
      | with_reducible apply Within.refl
      | with_reducible apply Within.ite
      | with_reducible apply RWithin.atDie
      | (with_reducible apply Within.step; apply State.takeLocal_within; decide)
      | (with_reducible apply Within.step; apply State.sendIntegrity_within; decide)
      | (with_reducible apply Within.step; apply State.applyNotice_within; decide)
      | dsimp only
      | split)

theorem execNoticeAck_within {d p s} : RWithin 154824343560 s (execNoticeAck d p s) := by
  unfold execNoticeAck
  repeat' (first
      | with_reducible intro _
      | with_reducible apply Within.refl
      | with_reducible apply Within.ite
      | with_reducible apply RWithin.atDie
      | (with_reducible apply Within.step; apply State.takeLocal_within; decide)
      | (with_reducible apply Within.step; apply State.onInteg_within; decide)
      | (with_reducible apply Within.step; apply State.freeLog_within; decide)
      | dsimp only
      | split)

theorem execNoticeRepeat_within {d sequence s} : RWithin 163414414348 s (execNoticeRepeat d sequence s) := by
  unfold execNoticeRepeat
  repeat' (first
      | with_reducible intro _
      | with_reducible apply Within.refl
      | with_reducible apply Within.ite
      | with_reducible apply RWithin.atDie
      | (with_reducible apply Within.step; apply State.integrityEvent_within; decide)
      | (with_reducible apply Within.step; apply State.onInteg_within; decide)
      | (with_reducible apply Within.step; apply State.emitNotice_within; decide)
      | (with_reducible apply Within.step; apply State.raise_within; decide)
      | (with_reducible apply Within.step; apply State.count_within; decide)
      | (with_reducible apply Within.step; apply State.freeLog_within; decide)
      | dsimp only
      | split)

theorem execTallyReread_within {d f pa address s} : RWithin 8589947919 s (execTallyReread d f pa address s) := by
  unfold execTallyReread
  repeat' (first
      | with_reducible apply Within.refl
      | with_reducible apply RWithin.atUnit
      | (with_reducible apply Within.step; apply State.tallyReread_within; decide))

end Sys2Proof.Machine
end

