-- ==== Sys2Proof/Laws/Stages.lean ====
section
/-!
SUPPORT. What each operation of Machine/Stages.lean can change, as a mask of the areas of Safety.lean: bit n of the mask is the
area that the declaration of `Area` lists as its n-th, from 0.
-/

set_option linter.unusedSimpArgs false
set_option linter.unusedVariables false

namespace Sys2Proof.Machine

theorem rmAbort_within {α detail} : MWithin 0 (@rmAbort α detail) := by
  unfold rmAbort
  repeat' (first
      | with_reducible apply MWithin.throw)

theorem rmNeed_within {ok a1} : MWithin 0 (rmNeed ok a1) := by
  unfold rmNeed
  repeat' (first
      | with_reducible intro _
      | with_reducible apply MWithin.pure
      | with_reducible apply MWithin.throw
      | with_reducible apply MWithin.ite)

theorem rmAccess_step {W d e f w act} (hW : 268436488 &&& W = 268436488)
    (hact : ∀ u, Within W u (act u).2) :
    MWithin W (rmAccess d e f w act) := by
  unfold rmAccess
  repeat' (first
      | with_reducible intro _
      | with_reducible apply Within.refl
      | with_reducible apply hact
      | with_reducible apply MWithin.pure
      | with_reducible apply MWithin.throw
      | with_reducible apply MWithin.modify
      | with_reducible apply MWithin.bind
      | with_reducible apply MWithin.modifyGet
      | (with_reducible apply Within.step; (with_reducible apply State.fault_within); exact and_trans (by decide) hW)
      | split)

theorem rmWhere_within {w a ownDie} : MWithin 0 (rmWhere w a ownDie) := by
  unfold rmWhere
  repeat' (first
      | with_reducible intro _
      | with_reducible apply MWithin.pure
      | with_reducible apply MWithin.throw
      | with_reducible apply MWithin.get
      | with_reducible apply MWithin.bind
      | with_reducible apply MWithin.ite
      | split)

theorem rmRead_within {w a n ownDie} : MWithin 8858383375 (rmRead w a n ownDie) := by
  unfold rmRead
  repeat' (first
      | with_reducible intro _
      | with_reducible apply Within.refl
      | with_reducible apply MWithin.bind
      | (with_reducible apply rmAccess_step; decide)
      | (with_reducible apply MWithin.mono; apply rmWhere_within; decide)
      | (with_reducible apply Within.step; apply State.read_within; decide))

theorem rmPlace_within {w k} : MWithin 43218121743 (rmPlace w k) := by
  unfold rmPlace
  repeat' (first
      | with_reducible intro _
      | with_reducible apply Within.refl
      | with_reducible apply MWithin.pure
      | with_reducible apply MWithin.get
      | with_reducible apply MWithin.modify
      | with_reducible apply MWithin.bind
      | with_reducible apply MWithin.ite
      | (with_reducible apply Within.step; apply State.onReck_within; decide)
      | (with_reducible apply MWithin.mono; apply rmRead_within; decide)
      | (with_reducible apply MWithin.mono; apply rmAbort_within; decide)
      | dsimp only
      | split)

theorem rmRange_within {a n} : MWithin 0 (rmRange a n) := by
  unfold rmRange
  repeat' (first
      | (with_reducible apply MWithin.mono; apply rmNeed_within; decide))

theorem rmAligned_within {a n} : MWithin 0 (rmAligned a n) := by
  unfold rmAligned
  repeat' (first
      | (with_reducible apply MWithin.mono; apply rmNeed_within; decide))

theorem rmStageRead_within {w a n} : MWithin 0 (rmStageRead w a n) := by
  unfold rmStageRead
  repeat' (first
      | with_reducible intro _
      | with_reducible apply MWithin.pure
      | with_reducible apply MWithin.get
      | with_reducible apply MWithin.bind
      | (with_reducible apply MWithin.mono; apply rmRange_within; decide))

theorem rmStageWrite_within {w a bs} : MWithin 34359738368 (rmStageWrite w a bs) := by
  unfold rmStageWrite
  repeat' (first
      | with_reducible intro _
      | with_reducible apply Within.refl
      | with_reducible apply MWithin.modify
      | with_reducible apply MWithin.bind
      | (with_reducible apply Within.step; apply State.onReck_within; decide)
      | (with_reducible apply MWithin.mono; apply rmRange_within; decide))

theorem rmStagePlace_within {w k} : MWithin 43218121743 (rmStagePlace w k) := by
  unfold rmStagePlace
  repeat' (first
      | with_reducible intro _
      | with_reducible apply MWithin.pure
      | with_reducible apply MWithin.throw
      | with_reducible apply MWithin.bind
      | (with_reducible apply MWithin.mono; apply rmPlace_within; decide)
      | split)

theorem rmFetch_within {w p off n} : MWithin 8858383375 (rmFetch w p off n) := by
  unfold rmFetch
  repeat' (first
      | with_reducible apply MWithin.pure
      | (with_reducible apply MWithin.mono; apply rmRead_within; decide)
      | (with_reducible apply MWithin.mono; apply rmStageRead_within; decide)
      | split)

theorem State.countTile_within {s w a tier} : Within 8 s (State.countTile s w a tier) := by
  unfold State.countTile
  repeat' (first
      | with_reducible intro _
      | with_reducible apply Within.refl
      | with_reducible apply Within.ite
      | (with_reducible apply Within.step; apply State.count_within; decide)
      | dsimp only
      | split)

theorem rmBlocks_within {w a1} : MWithin 8858383375 (rmBlocks w a1) := by
  unfold rmBlocks
  repeat' (first
      | with_reducible intro _
      | with_reducible apply MWithin.pure
      | with_reducible apply MWithin.bind
      | (with_reducible apply MWithin.mono; apply rmRead_within; decide)
      | (with_reducible apply MWithin.mono; apply rmBlocks_within; decide)
      | split)

theorem rmTile_within {w l} : MWithin 43218121743 (rmTile w l) := by
  unfold rmTile
  repeat' (first
      | with_reducible intro _
      | with_reducible apply Within.refl
      | with_reducible apply MWithin.pure
      | with_reducible apply MWithin.get
      | with_reducible apply MWithin.modify
      | with_reducible apply MWithin.bind
      | (with_reducible apply Within.step; apply State.onReck_within; decide)
      | (with_reducible apply MWithin.mono; apply rmBlocks_within; decide))

theorem State.onRun_within {s d r f} : Within 34359738368 s (State.onRun s d r f) := by
  unfold State.onRun
  repeat' (first
      | with_reducible apply Within.refl
      | (with_reducible apply Within.step; apply State.onReck_within; decide))

theorem State.tileDone_within {s w part operands result} : Within 171798822920 s (State.tileDone s w part operands result) := by
  unfold State.tileDone
  repeat' (first
      | with_reducible intro _
      | (simp only [Within.mk_iff]; with_reducible apply WithinMk.put; (repeat' (first | (with_reducible exact OtpKept.refl _) | (with_reducible apply And.intro) | exact Or.inl (by decide) | exact Or.inr rfl | (with_reducible rfl) | (simp only [List.length_map, List.length_set, length_modifyAt]; done))))
      | with_reducible apply Within.refl
      | with_reducible apply Within.ite
      | (with_reducible apply Within.ofSome; (with_reducible assumption); apply State.placeRecord_within; decide)
      | (with_reducible apply Within.step; apply State.pickReckoner_within; decide)
      | (with_reducible apply Within.step; apply State.onRun_within; decide)
      | (with_reducible apply Within.step; apply State.count_within; decide)
      | dsimp only
      | split)

theorem State.logRange_within {s w a n} : Within 171798695948 s (State.logRange s w a n) := by
  unfold State.logRange
  repeat' (first
      | with_reducible intro _
      | with_reducible apply Within.refl
      | with_reducible assumption
      | with_reducible apply Within.ite
      | (with_reducible apply Within.step; apply State.onInteg_within; decide)
      | (with_reducible apply Within.pair; (with_reducible assumption); apply State.logBlock_within; decide)
      | (with_reducible apply Within.step; apply State.onRun_within; decide)
      | (with_reducible apply Within.step; apply State.count_within; decide)
      | with_reducible apply Within.foldl
      | dsimp only
      | split)

theorem stageLoad_within {w} : MWithin 43218121743 (stageLoad w) := by
  unfold stageLoad
  repeat' (first
      | with_reducible intro _
      | with_reducible apply Within.refl
      | with_reducible apply MWithin.modify
      | with_reducible apply MWithin.bind
      | (with_reducible apply MWithin.mono; apply rmStagePlace_within; decide)
      | (with_reducible apply MWithin.mono; apply rmAligned_within; decide)
      | (with_reducible apply MWithin.mono; apply rmTile_within; decide)
      | (with_reducible apply Within.step; apply State.countTile_within; decide)
      | (with_reducible apply MWithin.mono; apply rmStageWrite_within; decide)
      | (with_reducible apply MWithin.mono; apply rmPlace_within; decide)
      | split)

theorem rmFmt_within {w k} : MWithin 0 (rmFmt w k) := by
  unfold rmFmt
  repeat' (first
      | with_reducible apply MWithin.pure
      | (with_reducible apply MWithin.mono; apply rmAbort_within; decide)
      | split)

theorem rmScalePlace_within {w f k} : MWithin 43218121743 (rmScalePlace w f k) := by
  unfold rmScalePlace
  repeat' (first
      | with_reducible intro _
      | with_reducible apply MWithin.pure
      | with_reducible apply MWithin.bind
      | with_reducible apply MWithin.ite
      | (with_reducible apply MWithin.mono; apply rmAbort_within; decide)
      | (with_reducible apply MWithin.mono; apply rmPlace_within; decide))

theorem rmFetchAll_within {w p n a3} : MWithin 8858383375 (rmFetchAll w p n a3) := by
  unfold rmFetchAll
  repeat' (first
      | with_reducible intro _
      | with_reducible apply MWithin.pure
      | with_reducible apply MWithin.bind
      | (with_reducible apply MWithin.mono; apply rmFetch_within; decide)
      | (with_reducible apply MWithin.mono; apply rmFetchAll_within; decide)
      | split)

theorem rmRowFits_within {w n} : MWithin 0 (rmRowFits w n) := by
  unfold rmRowFits
  repeat' (first
      | (with_reducible apply MWithin.mono; apply rmNeed_within; decide))

theorem rmRows_within {w a n stride} : MWithin 8858383375 (rmRows w a n stride) := by
  unfold rmRows
  repeat' (first
      | with_reducible intro _
      | with_reducible apply MWithin.bind
      | (with_reducible apply MWithin.mono; apply rmFetchAll_within; decide)
      | (with_reducible apply MWithin.mono; apply rmAligned_within; decide))

theorem rmWriteRows_within {w a stride a3 a4} : MWithin 34359738368 (rmWriteRows w a stride a3 a4) := by
  unfold rmWriteRows
  repeat' (first
      | with_reducible intro _
      | with_reducible apply MWithin.pure
      | with_reducible apply MWithin.bind
      | (with_reducible apply MWithin.mono; apply rmStageWrite_within; decide)
      | (with_reducible apply MWithin.mono; apply rmWriteRows_within; decide)
      | split)

theorem rmWeights_within {w f} : MWithin 43218121743 (rmWeights w f) := by
  unfold rmWeights
  repeat' (first
      | with_reducible intro _
      | with_reducible apply Within.refl
      | with_reducible apply MWithin.pure
      | with_reducible apply MWithin.modify
      | with_reducible apply MWithin.bind
      | (with_reducible apply MWithin.mono; apply rmFetchAll_within; decide)
      | (with_reducible apply MWithin.mono; apply rmAligned_within; decide)
      | (with_reducible apply MWithin.mono; apply rmTile_within; decide)
      | (with_reducible apply Within.step; apply State.countTile_within; decide)
      | (with_reducible apply MWithin.mono; apply rmScalePlace_within; decide)
      | (with_reducible apply MWithin.mono; apply rmPlace_within; decide)
      | dsimp only
      | split)

theorem rmAccumulators_within {w out} : MWithin 43218121743 (rmAccumulators w out) := by
  unfold rmAccumulators
  repeat' (first
      | with_reducible intro _
      | with_reducible apply MWithin.pure
      | with_reducible apply MWithin.bind
      | with_reducible apply MWithin.ite
      | (with_reducible apply MWithin.mono; apply rmStagePlace_within; decide)
      | (with_reducible apply MWithin.mono; apply rmFetchAll_within; decide)
      | (with_reducible apply MWithin.mono; apply rmAligned_within; decide))

theorem stageMatmul_within {w} : MWithin 180657206287 (stageMatmul w) := by
  unfold stageMatmul
  repeat' (first
      | with_reducible intro _
      | with_reducible apply Within.refl
      | with_reducible assumption
      | with_reducible apply MWithin.pure
      | with_reducible apply MWithin.modify
      | with_reducible apply MWithin.bind
      | (with_reducible apply Within.step; apply State.tileDone_within; decide)
      | (with_reducible apply MWithin.mono; apply rmStagePlace_within; decide)
      | (with_reducible apply MWithin.mono; apply rmFmt_within; decide)
      | (with_reducible apply Within.step; apply State.onReck_within; decide)
      | (with_reducible apply MWithin.mono; apply rmFetchAll_within; decide)
      | (with_reducible apply MWithin.mono; apply rmAligned_within; decide)
      | (with_reducible apply MWithin.mono; apply rmRowFits_within; decide)
      | (with_reducible apply MWithin.mono; apply rmWriteRows_within; decide)
      | (with_reducible apply MWithin.mono; apply rmScalePlace_within; decide)
      | (with_reducible apply MWithin.mono; apply rmNeed_within; decide)
      | (with_reducible apply MWithin.mono; apply rmRows_within; decide)
      | (with_reducible apply MWithin.mono; apply rmWeights_within; decide)
      | (with_reducible apply Within.step; apply State.count_within; decide)
      | (with_reducible apply MWithin.mono; apply rmAccumulators_within; decide)
      | with_reducible apply Within.foldl
      | dsimp only
      | split)

theorem rmVectorIn_within {w k slot scale} : MWithin 43218121743 (rmVectorIn w k slot scale) := by
  unfold rmVectorIn
  repeat' (first
      | with_reducible intro _
      | with_reducible apply MWithin.pure
      | with_reducible apply MWithin.bind
      | with_reducible apply MWithin.ite
      | (with_reducible apply MWithin.mono; apply rmStagePlace_within; decide)
      | (with_reducible apply MWithin.mono; apply rmFmt_within; decide)
      | (with_reducible apply MWithin.mono; apply rmFetchAll_within; decide)
      | (with_reducible apply MWithin.mono; apply rmRowFits_within; decide)
      | (with_reducible apply MWithin.mono; apply rmScalePlace_within; decide)
      | (with_reducible apply MWithin.mono; apply rmRows_within; decide)
      | dsimp only
      | split)

theorem stageVector_within {w} : MWithin 180657206287 (stageVector w) := by
  unfold stageVector
  repeat' (first
      | with_reducible intro _
      | (simp only [Within.mk_iff]; with_reducible apply WithinMk.put; (repeat' (first | (with_reducible exact OtpKept.refl _) | (with_reducible apply And.intro) | exact Or.inl (by decide) | exact Or.inr rfl | (with_reducible rfl) | (simp only [List.length_map, List.length_set, length_modifyAt]; done))))
      | with_reducible apply Within.refl
      | with_reducible assumption
      | with_reducible apply MWithin.throw
      | with_reducible apply MWithin.get
      | with_reducible apply MWithin.modify
      | with_reducible apply MWithin.bind
      | with_reducible apply MWithin.ite
      | (with_reducible apply Within.step; apply State.tileDone_within; decide)
      | (with_reducible apply MWithin.mono; apply rmStagePlace_within; decide)
      | (with_reducible apply MWithin.mono; apply rmAligned_within; decide)
      | (with_reducible apply MWithin.mono; apply rmRowFits_within; decide)
      | (with_reducible apply MWithin.mono; apply rmWriteRows_within; decide)
      | (with_reducible apply MWithin.mono; apply rmVectorIn_within; decide)
      | (with_reducible apply MWithin.mono; apply rmPlace_within; decide)
      | (with_reducible apply Within.step; apply State.count_within; decide)
      | with_reducible apply Within.foldl
      | dsimp only
      | split)

theorem storeParts_within {w a d e bs a5} : MWithin 172067132429 (storeParts w a d e bs a5) := by
  unfold storeParts
  repeat' (first
      | with_reducible intro _
      | with_reducible apply Within.refl
      | with_reducible apply MWithin.pure
      | with_reducible apply MWithin.modify
      | with_reducible apply MWithin.bind
      | (with_reducible apply rmAccess_step; decide)
      | (with_reducible apply Within.step; apply State.logRange_within; decide)
      | (with_reducible apply Within.step; apply State.write_within; decide)
      | (with_reducible apply Within.step; apply State.onRun_within; decide)
      | (with_reducible apply MWithin.mono; apply storeParts_within; decide)
      | split)

theorem stageStore_within {w} : MWithin 180657075215 (stageStore w) := by
  unfold stageStore
  repeat' (first
      | with_reducible intro _
      | with_reducible apply MWithin.pure
      | with_reducible apply MWithin.bind
      | (with_reducible apply MWithin.mono; apply rmStagePlace_within; decide)
      | (with_reducible apply MWithin.mono; apply rmAligned_within; decide)
      | (with_reducible apply MWithin.mono; apply rmWhere_within; decide)
      | (with_reducible apply MWithin.mono; apply storeParts_within; decide)
      | (with_reducible apply MWithin.mono; apply rmStageRead_within; decide)
      | (with_reducible apply MWithin.mono; apply rmPlace_within; decide)
      | split)

theorem stageCandidate_within {w} : MWithin 180657206287 (stageCandidate w) := by
  unfold stageCandidate
  repeat' (first
      | with_reducible intro _
      | with_reducible apply Within.refl
      | with_reducible assumption
      | with_reducible apply MWithin.modify
      | with_reducible apply MWithin.bind
      | (with_reducible apply Within.step; apply State.tileDone_within; decide)
      | (with_reducible apply MWithin.mono; apply rmStagePlace_within; decide)
      | (with_reducible apply MWithin.mono; apply rmAligned_within; decide)
      | (with_reducible apply MWithin.mono; apply rmRowFits_within; decide)
      | (with_reducible apply MWithin.mono; apply rmWriteRows_within; decide)
      | (with_reducible apply MWithin.mono; apply rmRows_within; decide)
      | (with_reducible apply MWithin.mono; apply rmAbort_within; decide)
      | (with_reducible apply Within.step; apply State.count_within; decide)
      | with_reducible apply Within.foldl
      | dsimp only
      | split)

theorem rmReleaseToken_within {w entry token} : MWithin 172067132429 (rmReleaseToken w entry token) := by
  unfold rmReleaseToken
  repeat' (first
      | with_reducible intro _
      | with_reducible apply Within.refl
      | with_reducible apply Within.ite
      | with_reducible apply MWithin.pure
      | with_reducible apply MWithin.get
      | with_reducible apply MWithin.modify
      | with_reducible apply MWithin.bind
      | (with_reducible apply Within.step; apply State.onReck_within; decide)
      | (with_reducible apply rmAccess_step; decide)
      | (with_reducible apply MWithin.mono; apply rmWhere_within; decide)
      | (with_reducible apply Within.step; apply State.logRange_within; decide)
      | (with_reducible apply Within.step; apply State.raise_within; decide)
      | (with_reducible apply Within.step; apply State.writeWhole_within; decide)
      | dsimp only
      | split)

theorem stageDraw_within {w} : MWithin 180657206799 (stageDraw w) := by
  unfold stageDraw
  repeat' (first
      | with_reducible intro _
      | with_reducible apply Within.refl
      | with_reducible apply MWithin.pure
      | with_reducible apply MWithin.get
      | with_reducible apply MWithin.modify
      | with_reducible apply MWithin.bind
      | with_reducible apply MWithin.modifyGet
      | (with_reducible apply Within.step; apply State.tileDone_within; decide)
      | (with_reducible apply MWithin.mono; apply rmStagePlace_within; decide)
      | (with_reducible apply MWithin.mono; apply rmAligned_within; decide)
      | (with_reducible apply Within.step; apply State.onExec_within; decide)
      | (with_reducible apply MWithin.mono; apply rmReleaseToken_within; decide)
      | (with_reducible apply Within.step; apply State.onRun_within; decide)
      | (with_reducible apply MWithin.mono; apply rmNeed_within; decide)
      | (with_reducible apply MWithin.mono; apply rmStageRead_within; decide)
      | (with_reducible apply Within.step; apply State.takeFree_within; decide)
      | (with_reducible apply Within.step; apply State.count_within; decide)
      | dsimp only
      | split)

theorem stageSignal_within {w} : MWithin 43218121743 (stageSignal w) := by
  unfold stageSignal
  repeat' (first
      | with_reducible intro _
      | with_reducible apply Within.refl
      | with_reducible apply MWithin.pure
      | with_reducible apply MWithin.get
      | with_reducible apply MWithin.bind
      | (with_reducible apply rmAccess_step; decide)
      | (with_reducible apply MWithin.mono; apply rmWhere_within; decide)
      | (with_reducible apply Within.step; apply State.write_within; decide)
      | (with_reducible apply Within.pair; (with_reducible assumption); apply State.translateParts_within; decide)
      | (with_reducible apply MWithin.mono; apply rmNeed_within; decide)
      | (with_reducible apply MWithin.mono; apply rmPlace_within; decide)
      | (with_reducible apply Within.step; apply State.read_within; decide)
      | split)

theorem rmFlag_within {w} : MWithin 43218121743 (rmFlag w) := by
  unfold rmFlag
  repeat' (first
      | with_reducible intro _
      | with_reducible apply MWithin.pure
      | with_reducible apply MWithin.bind
      | (with_reducible apply MWithin.mono; apply rmRead_within; decide)
      | (with_reducible apply MWithin.mono; apply rmPlace_within; decide)
      | split)

end Sys2Proof.Machine
end

