-- ==== Sys2Proof/Laws/RunRecipe.lean ====
section
/-!
SUPPORT. What each operation of Machine/RunRecipe.lean can change, as a mask of the areas of Safety.lean: bit n of the mask is the
area that the declaration of `Area` lists as its n-th, from 0.
-/

set_option linter.unusedSimpArgs false
set_option linter.unusedVariables false

namespace Sys2Proof.Machine

theorem State.endRecipe_within {s f q i} : Within 512 s (State.endRecipe s f q i) := by
  unfold State.endRecipe
  repeat' (first
      | with_reducible intro _
      | with_reducible apply Within.refl
      | with_reducible apply Within.ite
      | (with_reducible apply Within.step; apply State.finish_within; decide)
      | split)

theorem State.clearRun_within {s d r} : Within 171798691848 s (State.clearRun s d r) := by
  unfold State.clearRun
  repeat' (first
      | with_reducible intro _
      | with_reducible apply Within.refl
      | with_reducible assumption
      | (with_reducible apply Within.step; apply State.onReck_within; decide)
      | (with_reducible apply Within.step; apply State.unlink_within; decide)
      | (with_reducible apply Within.step; apply State.count_within; decide)
      | with_reducible apply Within.foldl)

theorem State.stopOne_within {s d r status detail} : Within 171798695948 s (State.stopOne s d r status detail) := by
  unfold State.stopOne
  repeat' (first
      | with_reducible apply Within.refl
      | (with_reducible apply Within.step; apply State.onReck_within; decide)
      | (with_reducible apply Within.step; apply State.raise_within; decide)
      | (with_reducible apply Within.step; apply State.count_within; decide)
      | (with_reducible apply Within.step; apply State.clearRun_within; decide))

theorem State.stopPeers_within {s f q i} : Within 171798695948 s (State.stopPeers s f q i) := by
  unfold State.stopPeers
  repeat' (first
      | with_reducible intro _
      | with_reducible apply Within.refl
      | with_reducible assumption
      | with_reducible apply Within.ite
      | (with_reducible apply Within.step; apply State.stopOne_within; decide)
      | (with_reducible apply Within.step; apply State.onRun_within; decide)
      | with_reducible apply Within.foldl)

theorem State.failRun_within {s d r status detail} : Within 171798696460 s (State.failRun s d r status detail) := by
  unfold State.failRun
  repeat' (first
      | with_reducible apply Within.refl
      | (with_reducible apply Within.step; apply State.onExec_within; decide)
      | (with_reducible apply Within.step; apply State.endRecipe_within; decide)
      | (with_reducible apply Within.step; apply State.stopOne_within; decide)
      | (with_reducible apply Within.step; apply State.stopPeers_within; decide)
      | dsimp only
      | split)

theorem State.tryFinish_within {s d r} : Within 171798692360 s (State.tryFinish s d r) := by
  unfold State.tryFinish
  repeat' (first
      | with_reducible intro _
      | with_reducible apply Within.refl
      | with_reducible apply Within.ite
      | (with_reducible apply Within.step; apply State.endRecipe_within; decide)
      | (with_reducible apply Within.step; apply State.onRun_within; decide)
      | (with_reducible apply Within.step; apply State.clearRun_within; decide)
      | split)

theorem State.stageDone_within {s d r} : Within 171798696460 s (State.stageDone s d r) := by
  unfold State.stageDone
  repeat' (first
      | with_reducible intro _
      | with_reducible apply Within.refl
      | with_reducible apply Within.ite
      | (with_reducible apply Within.step; apply State.onReck_within; decide)
      | (with_reducible apply Within.step; apply State.tryFinish_within; decide)
      | (with_reducible apply Within.step; apply State.endRecipe_within; decide)
      | (with_reducible apply Within.step; apply State.stopOne_within; decide)
      | dsimp only
      | split)

theorem State.stageEcc_within {s d r a} : Within 180388639246 s (State.stageEcc s d r a) := by
  unfold State.stageEcc
  repeat' (first
      | with_reducible apply Within.refl
      | (with_reducible apply Within.step; (with_reducible apply State.setReg_own); (first | decide | omega); (first | decide | omega); decide)
      | (with_reducible apply Within.step; apply State.raise_within; decide)
      | (with_reducible apply Within.step; apply State.failRun_within; decide)
      | (with_reducible apply Within.step; apply State.error_within; decide)
      | (with_reducible apply Within.step; apply State.count_within; decide))

theorem State.settleStage_step {W s d e x} (hW : 171798696460 &&& W = 171798696460)
    (h : Within W s x.2) :
    Within W s (State.settleStage d e x) := by
  unfold State.settleStage
  repeat' (first
      | with_reducible assumption
      | (with_reducible apply Within.step; (with_reducible apply State.stageDone_within); exact and_trans (by decide) hW)
      | (with_reducible apply Within.step; (with_reducible apply State.onRun_within); exact and_trans (by decide) hW)
      | (with_reducible apply Within.step; (with_reducible apply State.failRun_within); exact and_trans (by decide) hW)
      | split)

theorem State.beginStage_within {s w} : Within 34359738376 s (State.beginStage s w) := by
  unfold State.beginStage
  repeat' (first
      | with_reducible intro _
      | with_reducible apply Within.refl
      | with_reducible apply Within.ite
      | (with_reducible apply Within.step; apply State.onReck_within; decide)
      | (with_reducible apply Within.step; apply State.onRun_within; decide)
      | (with_reducible apply Within.step; apply State.count_within; decide))

theorem State.runStage_step {W s t d r f e act} (hW : 180388639246 &&& W = 180388639246)
    (hact : ∀ w, MWithin W (act w)) (h : Within W s t) :
    Within W s (State.runStage t d r f e act) := by
  unfold State.runStage
  repeat' (first
      | with_reducible intro _
      | with_reducible assumption
      | (refine Within.step (V := W) (hact _ _) (Nat.and_self W) ?_)
      | with_reducible apply Within.ite
      | (with_reducible apply Within.step; (with_reducible apply State.beginStage_within); exact and_trans (by decide) hW)
      | (with_reducible apply State.settleStage_step; exact and_trans (by decide) hW)
      | (with_reducible apply Within.step; (with_reducible apply State.stageEcc_within); exact and_trans (by decide) hW)
      | (with_reducible apply Within.step; (with_reducible apply State.count_within); exact and_trans (by decide) hW)
      | dsimp only
      | split)

theorem execLoad_within {d r ecc s} : RWithin 180657075727 s (execLoad d r ecc s) := by
  unfold execLoad
  repeat' (first
      | with_reducible intro _
      | with_reducible apply Within.refl
      | with_reducible apply RWithin.atUnit
      | (with_reducible apply MWithin.mono; apply stageLoad_within; decide)
      | (with_reducible apply State.runStage_step; decide))

theorem execMatmul_within {d r ecc s} : RWithin 180657206799 s (execMatmul d r ecc s) := by
  unfold execMatmul
  repeat' (first
      | with_reducible intro _
      | with_reducible apply Within.refl
      | with_reducible apply RWithin.atUnit
      | (with_reducible apply MWithin.mono; apply stageMatmul_within; decide)
      | (with_reducible apply State.runStage_step; decide))

theorem execVector_within {d r ecc s} : RWithin 180657206799 s (execVector d r ecc s) := by
  unfold execVector
  repeat' (first
      | with_reducible intro _
      | with_reducible apply Within.refl
      | with_reducible apply RWithin.atUnit
      | (with_reducible apply MWithin.mono; apply stageVector_within; decide)
      | (with_reducible apply State.runStage_step; decide))

theorem execStore_within {d r ecc s} : RWithin 180657075727 s (execStore d r ecc s) := by
  unfold execStore
  repeat' (first
      | with_reducible intro _
      | with_reducible apply Within.refl
      | with_reducible apply RWithin.atUnit
      | (with_reducible apply MWithin.mono; apply stageStore_within; decide)
      | (with_reducible apply State.runStage_step; decide))

theorem execCandidate_within {d r ecc s} : RWithin 180657206799 s (execCandidate d r ecc s) := by
  unfold execCandidate
  repeat' (first
      | with_reducible intro _
      | with_reducible apply Within.refl
      | with_reducible apply RWithin.atUnit
      | (with_reducible apply MWithin.mono; apply stageCandidate_within; decide)
      | (with_reducible apply State.runStage_step; decide))

theorem execDraw_within {d r ecc s} : RWithin 180657206799 s (execDraw d r ecc s) := by
  unfold execDraw
  repeat' (first
      | with_reducible intro _
      | with_reducible apply Within.refl
      | with_reducible apply RWithin.atUnit
      | (with_reducible apply MWithin.mono; apply stageDraw_within; decide)
      | (with_reducible apply State.runStage_step; decide))

theorem execSignal_within {d r s} : RWithin 180657075727 s (execSignal d r s) := by
  unfold execSignal
  repeat' (first
      | with_reducible intro _
      | with_reducible apply Within.refl
      | with_reducible apply RWithin.atUnit
      | (with_reducible apply MWithin.mono; apply stageSignal_within; decide)
      | (with_reducible apply State.runStage_step; decide))

theorem execWait_within {d r s} : RWithin 34359738376 s (execWait d r s) := by
  unfold execWait
  repeat' (first
      | with_reducible intro _
      | with_reducible apply Within.refl
      | with_reducible apply Within.ite
      | with_reducible apply RWithin.atUnit
      | (with_reducible apply Within.step; apply State.beginStage_within; decide)
      | (with_reducible apply Within.step; apply State.onRun_within; decide)
      | split)

theorem State.checkWait_within {s d r late} : Within 180657075727 s (State.checkWait s d r late) := by
  unfold State.checkWait
  repeat' (first
      | with_reducible intro _
      | with_reducible apply Within.refl
      | with_reducible apply Within.ite
      | (with_reducible apply Within.step; apply State.stageDone_within; decide)
      | (with_reducible apply Within.app rmFlag_within; decide)
      | (with_reducible apply Within.step; apply State.onRun_within; decide)
      | (with_reducible apply Within.step; apply State.failRun_within; decide)
      | split
      | (with_reducible apply Within.ofPair; (with_reducible assumption)))

theorem execWaitSatisfied_within {d r s} : RWithin 180657075727 s (execWaitSatisfied d r s) := by
  unfold execWaitSatisfied
  repeat' (first
      | with_reducible apply Within.refl
      | with_reducible apply RWithin.atUnit
      | (with_reducible apply Within.step; apply State.checkWait_within; decide))

theorem execWaitTimeout_within {d r s} : RWithin 180657075727 s (execWaitTimeout d r s) := by
  unfold execWaitTimeout
  repeat' (first
      | with_reducible apply Within.refl
      | with_reducible apply RWithin.atUnit
      | (with_reducible apply Within.step; apply State.checkWait_within; decide))

theorem State.resumeHeld_within {s k} : Within 180657206799 s (State.resumeHeld s k) := by
  unfold State.resumeHeld
  repeat' (first
      | with_reducible intro _
      | with_reducible apply Within.refl
      | with_reducible apply Within.ite
      | (with_reducible apply Within.step; apply State.tryFinish_within; decide)
      | (with_reducible apply Within.app stageDraw_within; decide)
      | (with_reducible apply Within.step; apply State.onRun_within; decide)
      | (with_reducible apply State.settleStage_step; decide)
      | dsimp only
      | split)

theorem State.startRun_within {s d r args} : Within 171798692360 s (State.startRun s d r args) := by
  unfold State.startRun
  repeat' (first
      | with_reducible apply Within.refl
      | (with_reducible apply Within.step; apply State.onReck_within; decide)
      | (with_reducible apply Within.step; apply State.tryFinish_within; decide)
      | (with_reducible apply Within.step; apply State.count_within; decide)
      | dsimp only
      | split)

theorem State.fetchArgs_within {s f q i} : Within 180657075727 s (State.fetchArgs s f q i) := by
  unfold State.fetchArgs
  repeat' (first
      | with_reducible intro _
      | with_reducible apply Within.refl
      | with_reducible assumption
      | with_reducible apply Within.ite
      | (with_reducible apply Within.step; apply State.startRun_within; decide)
      | (with_reducible apply Within.step; apply State.finish_within; decide)
      | (with_reducible apply Within.step; apply State.onRun_within; decide)
      | (with_reducible apply Within.step; apply State.clearRun_within; decide)
      | (with_reducible apply Within.app (V := 180657075727) (rmAccess_step (W := 180657075727) (by decide) (fun _ => by with_reducible apply Within.mono State.read_within; decide)); decide)
      | with_reducible apply Within.foldl
      | dsimp only
      | split
      | (with_reducible apply Within.ofPair; (with_reducible assumption)))

theorem State.retryRuns_within {s d f key} : Within 180657075727 s (State.retryRuns s d f key) := by
  unfold State.retryRuns
  repeat' (first
      | with_reducible intro _
      | with_reducible apply Within.refl
      | with_reducible assumption
      | with_reducible apply Within.ite
      | (with_reducible apply Within.step; apply State.fetchArgs_within; decide)
      | (with_reducible apply Within.step; apply State.onRun_within; decide)
      | with_reducible apply Within.foldl
      | dsimp only
      | split)

theorem State.abortRuns_within {s d f key} : Within 171798696460 s (State.abortRuns s d f key) := by
  unfold State.abortRuns
  repeat' (first
      | with_reducible intro _
      | with_reducible apply Within.refl
      | with_reducible assumption
      | with_reducible apply Within.ite
      | (with_reducible apply Within.step; apply State.finish_within; decide)
      | (with_reducible apply Within.step; apply State.failRun_within; decide)
      | (with_reducible apply Within.step; apply State.clearRun_within; decide)
      | with_reducible apply Within.foldl
      | split)

theorem State.runRecipe_within {s f q i d} : Within 180657075727 s (State.runRecipe s f q i d) := by
  unfold State.runRecipe
  repeat' (first
      | with_reducible intro _
      | with_reducible apply Within.refl
      | with_reducible assumption
      | with_reducible apply Within.ite
      | (with_reducible apply Within.step; apply State.onReck_within; decide)
      | (with_reducible apply Within.step; apply State.finish_within; decide)
      | (with_reducible apply Within.step; apply State.fetchArgs_within; decide)
      | with_reducible apply Within.foldl
      | dsimp only
      | split)

theorem execTilePrefetch_within {d r s} : RWithin 34359738368 s (execTilePrefetch d r s) := by
  unfold execTilePrefetch
  repeat' (first
      | with_reducible intro _
      | with_reducible apply Within.refl
      | with_reducible apply Within.ite
      | with_reducible apply RWithin.atUnit
      | (with_reducible apply Within.step; apply State.onRun_within; decide)
      | dsimp only
      | split)

theorem execTileArrival_within {d r s} : RWithin 34359738368 s (execTileArrival d r s) := by
  unfold execTileArrival
  repeat' (first
      | with_reducible intro _
      | with_reducible apply Within.refl
      | with_reducible apply Within.ite
      | with_reducible apply RWithin.atUnit
      | (with_reducible apply Within.step; apply State.onRun_within; decide)
      | dsimp only
      | split)

theorem State.dropTiles_within {s d r f base len} : Within 34359738368 s (State.dropTiles s d r f base len) := by
  unfold State.dropTiles
  repeat' (first
      | with_reducible apply Within.refl
      | (with_reducible apply Within.step; apply State.onRun_within; decide))

theorem State.loadRecipe_within {s f i bundle} : Within 34359804416 s (State.loadRecipe s f i bundle) := by
  unfold State.loadRecipe
  repeat' (first
      | with_reducible intro _
      | (simp only [Within.mk_iff]; with_reducible apply WithinMk.put; (repeat' (first | (with_reducible exact OtpKept.refl _) | (with_reducible apply And.intro) | exact Or.inl (by decide) | exact Or.inr rfl | (with_reducible rfl) | (simp only [List.length_map, List.length_set, length_modifyAt]; done))))
      | with_reducible apply Within.refl
      | with_reducible assumption
      | with_reducible apply Within.ite
      | (with_reducible apply Within.step; apply State.onReck_within; decide)
      | (with_reducible apply Within.step; apply State.adminEnd_within; decide)
      | with_reducible apply Within.foldl
      | dsimp only
      | split)

theorem State.unloadRecipe_within {s f i d} : Within 66048 s (State.unloadRecipe s f i d) := by
  unfold State.unloadRecipe
  repeat' (first
      | with_reducible intro _
      | (simp only [Within.mk_iff]; with_reducible apply WithinMk.put; (repeat' (first | (with_reducible exact OtpKept.refl _) | (with_reducible apply And.intro) | exact Or.inl (by decide) | exact Or.inr rfl | (with_reducible rfl) | (simp only [List.length_map, List.length_set, length_modifyAt]; done))))
      | with_reducible apply Within.refl
      | with_reducible apply Within.ite
      | (with_reducible apply Within.step; apply State.adminEnd_within; decide))

theorem State.formatTable_within {s f i inst table} : Within 514 s (State.formatTable s f i inst table) := by
  unfold State.formatTable
  repeat' (first
      | with_reducible intro _
      | with_reducible apply Within.refl
      | with_reducible assumption
      | with_reducible apply Within.ite
      | (with_reducible apply Within.step; apply State.adminEnd_within; decide)
      | with_reducible apply Within.foldl_mem
      | (with_reducible apply Within.step; (with_reducible apply State.setReg_own); (simp only [List.mem_range] at *; omega);(simp only [List.mem_range] at *; omega); decide))

theorem State.sequenceTable_within {s f i inst table} : Within 34359738880 s (State.sequenceTable s f i inst table) := by
  unfold State.sequenceTable
  repeat' (first
      | with_reducible intro _
      | with_reducible apply Within.refl
      | with_reducible apply Within.ite
      | (with_reducible apply Within.step; apply State.onReck_within; decide)
      | (with_reducible apply Within.step; apply State.adminEnd_within; decide)
      | dsimp only
      | split)

end Sys2Proof.Machine
end

