-- ==== Sys2Proof/Laws/Checks.lean ====
section
/-!
SUPPORT. What each operation of Machine/Checks.lean can change, as a mask of the areas of Safety.lean: bit n of the mask is the
area that the declaration of `Area` lists as its n-th, from 0.
-/

set_option linter.unusedSimpArgs false
set_option linter.unusedVariables false

namespace Sys2Proof.Machine

theorem State.dropRecord_within {s d slot} : Within 137438953472 s (State.dropRecord s d slot) := by
  unfold State.dropRecord
  repeat' (first
      | with_reducible apply Within.refl
      | (with_reducible apply Within.step; apply State.onInteg_within; decide))

theorem State.afterCheck_within {s} : Within 180657206799 s (State.afterCheck s) := by
  unfold State.afterCheck
  repeat' (first
      | with_reducible intro _
      | with_reducible apply Within.refl
      | with_reducible assumption
      | (with_reducible apply Within.step; apply State.resumeHeld_within; decide)
      | (with_reducible apply Within.step; apply State.placeWaiting_within; decide)
      | with_reducible apply Within.foldl)

theorem State.passCheck_within {s d slot c} : Within 180657206799 s (State.passCheck s d slot c) := by
  unfold State.passCheck
  repeat' (first
      | with_reducible apply Within.refl
      | (with_reducible apply Within.step; apply State.afterCheck_within; decide)
      | (with_reducible apply Within.step; apply State.dropRecord_within; decide)
      | (with_reducible apply Within.step; apply State.unlink_within; decide)
      | (with_reducible apply Within.step; apply State.count_within; decide))

theorem State.abandonCheck_within {s d slot c} : Within 180657206799 s (State.abandonCheck s d slot c) := by
  unfold State.abandonCheck
  repeat' (first
      | with_reducible apply Within.refl
      | (with_reducible apply Within.step; apply State.afterCheck_within; decide)
      | (with_reducible apply Within.step; apply State.dropRecord_within; decide)
      | (with_reducible apply Within.step; apply State.unlink_within; decide)
      | (with_reducible apply Within.step; apply State.count_within; decide))

theorem State.errorWords_within {s p code words} : Within 8589946894 s (State.errorWords s p code words) := by
  unfold State.errorWords
  repeat' (first
      | with_reducible intro _
      | with_reducible apply Within.refl
      | with_reducible assumption
      | with_reducible apply Within.ite
      | (with_reducible apply Within.step; apply State.setReg_any; decide)
      | (with_reducible apply Within.step; apply State.error_within; decide)
      | with_reducible apply Within.foldl)

theorem State.failCheck_within {s d slot c} : Within 198042596879 s (State.failCheck s d slot c) := by
  unfold State.failCheck
  repeat' (first
      | with_reducible intro _
      | with_reducible apply Within.refl
      | with_reducible apply Within.ite
      | (with_reducible apply Within.step; apply State.afterCheck_within; decide)
      | (with_reducible apply Within.step; apply State.integrityEvent_within; decide)
      | (with_reducible apply Within.step; apply State.errorWords_within; decide)
      | (with_reducible apply Within.step; apply State.dropRecord_within; decide)
      | (with_reducible apply Within.step; apply State.raise_within; decide)
      | (with_reducible apply Within.step; apply State.failRun_within; decide)
      | (with_reducible apply Within.step; apply State.count_within; decide)
      | (with_reducible apply Within.step; apply State.retract_within; decide)
      | split)

theorem State.abortCheck_within {s d slot c} : Within 180657206799 s (State.abortCheck s d slot c) := by
  unfold State.abortCheck
  repeat' (first
      | with_reducible intro _
      | with_reducible apply Within.refl
      | with_reducible apply Within.ite
      | (with_reducible apply Within.step; apply State.abandonCheck_within; decide)
      | (with_reducible apply Within.step; apply State.pickReckoner_within; decide)
      | (with_reducible apply Within.step; apply State.onInteg_within; decide)
      | dsimp only
      | split)

theorem State.noteTransient_within {s k} : Within 34359738368 s (State.noteTransient s k) := by
  unfold State.noteTransient
  repeat' (first
      | with_reducible apply Within.refl
      | (with_reducible apply Within.step; apply State.onReck_within; decide))

theorem State.suspect_within {s k} : Within 34359738368 s (State.suspect s k) := by
  unfold State.suspect
  repeat' (first
      | with_reducible apply Within.refl
      | (with_reducible apply Within.step; apply State.onReck_within; decide))

theorem State.retire_within {s k} : Within 198042596879 s (State.retire s k) := by
  unfold State.retire
  repeat' (first
      | with_reducible intro _
      | with_reducible apply Within.refl
      | with_reducible assumption
      | (with_reducible apply Within.step; apply State.abortCheck_within; decide)
      | (with_reducible apply Within.step; apply State.onReck_within; decide)
      | (with_reducible apply Within.step; apply State.integrityEvent_within; decide)
      | (with_reducible apply Within.step; apply State.raise_within; decide)
      | (with_reducible apply Within.step; apply State.failRun_within; decide)
      | (with_reducible apply Within.step; apply State.count_within; decide)
      | (with_reducible apply Within.step; apply State.retract_within; decide)
      | with_reducible apply Within.foldl)

theorem State.classify_within {s c cls ctr} : Within 10 s (State.classify s c cls ctr) := by
  unfold State.classify
  repeat' (first
      | with_reducible apply Within.refl
      | (with_reducible apply Within.step; (with_reducible apply State.setReg_own); (first | decide | omega); (first | decide | omega); decide)
      | (with_reducible apply Within.step; apply State.count_within; decide))

theorem execCheckExecution_within {d check result s} : RWithin 198042596879 s (execCheckExecution d check result s) := by
  unfold execCheckExecution
  repeat' (first
      | with_reducible intro _
      | with_reducible apply Within.refl
      | with_reducible apply Within.ite
      | with_reducible apply RWithin.atDie
      | (with_reducible apply Within.step; apply State.onExec_within; decide)
      | (with_reducible apply Within.step; apply State.abandonCheck_within; decide)
      | (with_reducible apply Within.step; apply State.failCheck_within; decide)
      | (with_reducible apply Within.step; apply State.pickReckoner_within; decide)
      | (with_reducible apply Within.step; apply State.onInteg_within; decide)
      | (with_reducible apply Within.step; apply State.onRun_within; decide)
      | (with_reducible apply Within.step; apply State.passCheck_within; decide)
      | dsimp only
      | split)

theorem execCheckReexecution_within {d check o2 t c2 s} : RWithin 198042596879 s (execCheckReexecution d check o2 t c2 s) := by
  unfold execCheckReexecution
  repeat' (first
      | with_reducible intro _
      | with_reducible apply Within.refl
      | with_reducible apply Within.ite
      | with_reducible apply RWithin.atDie
      | (with_reducible apply Within.step; apply State.retire_within; decide)
      | (with_reducible apply Within.step; apply State.failCheck_within; decide)
      | (with_reducible apply Within.step; apply State.noteTransient_within; decide)
      | (with_reducible apply Within.step; apply State.classify_within; decide)
      | (with_reducible apply Within.step; apply State.suspect_within; decide)
      | (with_reducible apply Within.step; apply State.passCheck_within; decide)
      | split)

theorem execKnownAnswerRun_within {d r s} : RWithin 34359738368 s (execKnownAnswerRun d r s) := by
  unfold execKnownAnswerRun
  repeat' (first
      | with_reducible intro _
      | with_reducible apply Within.refl
      | with_reducible apply Within.ite
      | with_reducible apply RWithin.atUnit
      | (with_reducible apply Within.step; apply State.onReck_within; decide))

theorem execKarDeferExpiry_within {d r s} : RWithin 34359738368 s (execKarDeferExpiry d r s) := by
  unfold execKarDeferExpiry
  repeat' (first
      | with_reducible intro _
      | with_reducible apply Within.refl
      | with_reducible apply Within.ite
      | with_reducible apply RWithin.atUnit
      | (with_reducible apply Within.step; apply State.onReck_within; decide))

theorem execKnownAnswerDone_within {d r failures s} : RWithin 198042596879 s (execKnownAnswerDone d r failures s) := by
  unfold execKnownAnswerDone
  repeat' (first
      | with_reducible intro _
      | with_reducible apply Within.refl
      | with_reducible apply Within.ite
      | with_reducible apply RWithin.atUnit
      | (with_reducible apply Within.step; apply State.onReck_within; decide)
      | (with_reducible apply Within.step; apply State.retire_within; decide)
      | (with_reducible apply Within.step; apply State.suspect_within; decide)
      | (with_reducible apply Within.step; apply State.count_within; decide))

end Sys2Proof.Machine
end

