-- ==== Sys2Proof/Laws/Groups.lean ====
section
/-!
SUPPORT. What each operation of Machine/Groups.lean can change, as a mask of the areas of Safety.lean: bit n of the mask is the
area that the declaration of `Area` lists as its n-th, from 0.
-/

set_option linter.unusedSimpArgs false
set_option linter.unusedVariables false

namespace Sys2Proof.Machine

theorem State.onGroup_within {s d e f} : Within 68719476736 s (State.onGroup s d e f) := by
  unfold State.onGroup
  repeat' (first
      | with_reducible intro _
      | (with_reducible apply DieWithin.mk <;> (first | exact fun e => absurd e (by decide) | exact fun _ => rfl | exact fun _ => ⟨rfl, rfl, rfl⟩ | exact fun e => e | exact fun e => .trans (by simp only [Die.units, List.length_map, List.length_set, length_modifyAt]) e))
      | with_reducible apply Within.refl
      | with_reducible apply Within.onDie)

theorem State.onOp_within {s d e f} : Within 68719476736 s (State.onOp s d e f) := by
  unfold State.onOp
  repeat' (first
      | with_reducible apply Within.refl
      | (with_reducible apply Within.step; apply State.onGroup_within; decide))

theorem State.onChunk_within {s d e k f} : Within 68719476736 s (State.onChunk s d e k f) := by
  unfold State.onChunk
  repeat' (first
      | with_reducible apply Within.refl
      | (with_reducible apply Within.step; apply State.onOp_within; decide))

theorem State.replicate_within {s d p e flow inPort vcIn units} : Within 25975324680 s (State.replicate s d p e flow inPort vcIn units) := by
  unfold State.replicate
  repeat' (first
      | with_reducible intro _
      | with_reducible apply Within.refl
      | with_reducible assumption
      | with_reducible apply Within.ite
      | (with_reducible apply Within.step; apply State.freeUnits_within; decide)
      | (with_reducible apply Within.step; apply State.editionCount_within; decide)
      | (with_reducible apply Within.step; apply State.forward_within; decide)
      | (with_reducible apply State.onRouter_step; decide)
      | exact ⟨by simp only [List.length_map, List.length_set, length_modifyAt], by simp only [List.length_map, List.length_set, length_modifyAt]⟩
      | (with_reducible apply Within.step; apply State.count_within; decide)
      | with_reducible apply Within.foldl)

theorem State.installGroup_within {s d g} : Within 68786585600 s (State.installGroup s d g) := by
  unfold State.installGroup
  repeat' (first
      | with_reducible intro _
      | (with_reducible apply DieWithin.mk <;> (first | exact fun e => absurd e (by decide) | exact fun _ => rfl | exact fun _ => ⟨rfl, rfl, rfl⟩ | exact fun e => e | exact fun e => .trans (by simp only [Die.units, List.length_map, List.length_set, length_modifyAt]) e))
      | with_reducible apply Within.refl
      | (with_reducible apply State.onRouter_step; decide)
      | exact ⟨by simp only [List.length_map, List.length_set, length_modifyAt], by simp only [List.length_map, List.length_set, length_modifyAt]⟩
      | with_reducible apply Within.onDie
      | dsimp only
      | split)

theorem State.removeGroup_within {s d id} : Within 68786585600 s (State.removeGroup s d id) := by
  unfold State.removeGroup
  repeat' (first
      | with_reducible intro _
      | (with_reducible apply DieWithin.mk <;> (first | exact fun e => absurd e (by decide) | exact fun _ => rfl | exact fun _ => ⟨rfl, rfl, rfl⟩ | exact fun e => e | exact fun e => .trans (by simp only [Die.units, List.length_map, List.length_set, length_modifyAt]) e))
      | with_reducible apply Within.refl
      | (with_reducible apply State.onRouter_step; decide)
      | exact ⟨by simp only [List.length_map, List.length_set, length_modifyAt], by simp only [List.length_map, List.length_set, length_modifyAt]⟩
      | with_reducible apply Within.onDie)

theorem State.readTable_within {s f d t} : Within 4194304 s (State.readTable s f d t) := by
  unfold State.readTable
  repeat' (first
      | with_reducible intro _
      | with_reducible apply Within.refl
      | with_reducible apply Within.ite
      | (with_reducible apply Within.step; apply State.emit_within; decide))

theorem State.createGroup_within {s f i d table} : Within 68790780416 s (State.createGroup s f i d table) := by
  unfold State.createGroup
  repeat' (first
      | with_reducible intro _
      | with_reducible apply Within.refl
      | with_reducible assumption
      | with_reducible apply Within.ite
      | (with_reducible apply Within.step; apply State.readTable_within; decide)
      | (with_reducible apply Within.step; apply State.installGroup_within; decide)
      | (with_reducible apply Within.step; apply State.adminEnd_within; decide)
      | with_reducible apply Within.foldl)

end Sys2Proof.Machine
end

