-- ==== Sys2Proof/Laws/CollectiveCore.lean ====
section
/-!
SUPPORT. What each operation of Machine/CollectiveCore.lean can change, as a mask of the areas of Safety.lean: bit n of the mask is the
area that the declaration of `Area` lists as its n-th, from 0.
-/

set_option linter.unusedSimpArgs false
set_option linter.unusedVariables false

namespace Sys2Proof.Machine

theorem State.sendChunk_within {s d g dest body} : Within 25975324680 s (State.sendChunk s d g dest body) := by
  unfold State.sendChunk
  repeat' (first
      | with_reducible apply Within.refl
      | (with_reducible apply Within.step; apply State.inject_within; decide))

theorem State.sendAll_within {s d g body} : Within 25975324680 s (State.sendAll s d g body) := by
  unfold State.sendAll
  repeat' (first
      | with_reducible apply Within.refl
      | (with_reducible apply Within.step; apply State.replicate_within; decide)
      | (with_reducible apply Within.step; apply State.count_within; decide)
      | dsimp only
      | split)

theorem State.sendChildren_within {s d g o body} : Within 25975324680 s (State.sendChildren s d g o body) := by
  unfold State.sendChildren
  repeat' (first
      | with_reducible intro _
      | with_reducible apply Within.refl
      | with_reducible assumption
      | (with_reducible apply Within.step; apply State.sendChunk_within; decide)
      | with_reducible apply Within.foldl)

theorem State.sendParent_within {s d g body} : Within 25975324680 s (State.sendParent s d g body) := by
  unfold State.sendParent
  repeat' (first
      | with_reducible apply Within.refl
      | (with_reducible apply Within.step; apply State.sendChunk_within; decide))

theorem State.sendRoot_within {s d g body} : Within 25975324680 s (State.sendRoot s d g body) := by
  unfold State.sendRoot
  repeat' (first
      | with_reducible apply Within.refl
      | (with_reducible apply Within.step; apply State.sendChunk_within; decide))

theorem State.sendGrants_within {s d g o} : Within 25975324680 s (State.sendGrants s d g o) := by
  unfold State.sendGrants
  repeat' (first
      | with_reducible apply Within.refl
      | (with_reducible apply Within.step; apply State.sendChildren_within; decide))

theorem State.sendReceipt_within {s d g seq finished low} : Within 25975324680 s (State.sendReceipt s d g seq finished low) := by
  unfold State.sendReceipt
  repeat' (first
      | with_reducible apply Within.refl
      | (with_reducible apply Within.step; apply State.sendParent_within; decide))

theorem State.askResend_within {s d e m k gen} : Within 94694801416 s (State.askResend s d e m k gen) := by
  unfold State.askResend
  repeat' (first
      | with_reducible intro _
      | with_reducible apply Within.refl
      | with_reducible apply Within.ite
      | (with_reducible apply Within.step; apply State.onOp_within; decide)
      | (with_reducible apply Within.step; apply State.sendChunk_within; decide)
      | (with_reducible apply Within.step; apply State.count_within; decide)
      | dsimp only
      | split)

theorem State.groupEvent_within {s d g event seq endpoint chunk} : Within 1032 s (State.groupEvent s d g event seq endpoint chunk) := by
  unfold State.groupEvent
  repeat' (first
      | with_reducible apply Within.refl
      | (with_reducible apply Within.step; apply State.arrive_within; decide))

theorem State.endColl_within {s d e status detail r0 r1} : Within 206158431752 s (State.endColl s d e status detail r0 r1) := by
  unfold State.endColl
  repeat' (first
      | with_reducible intro _
      | with_reducible apply Within.refl
      | with_reducible apply Within.ite
      | (with_reducible apply Within.step; apply State.finish_within; decide)
      | (with_reducible apply Within.step; apply State.onGroup_within; decide)
      | (with_reducible apply Within.step; apply State.groupEvent_within; decide)
      | (with_reducible apply Within.step; apply State.count_within; decide)
      | (with_reducible apply Within.step; apply State.freeLog_within; decide)
      | dsimp only
      | split)

theorem State.abortRoot_within {s d e status detail own} : Within 232133756424 s (State.abortRoot s d e status detail own) := by
  unfold State.abortRoot
  repeat' (first
      | with_reducible apply Within.refl
      | (with_reducible apply Within.step; apply State.endColl_within; decide)
      | (with_reducible apply Within.step; apply State.sendAll_within; decide)
      | split)

theorem State.replayLost_within {s d e detail k} : Within 232133760524 s (State.replayLost s d e detail k) := by
  unfold State.replayLost
  repeat' (first
      | with_reducible apply Within.refl
      | (with_reducible apply Within.step; apply State.raise_within; decide)
      | (with_reducible apply Within.step; apply State.groupEvent_within; decide)
      | (with_reducible apply Within.step; apply State.abortRoot_within; decide)
      | (with_reducible apply Within.step; apply State.count_within; decide)
      | split)

theorem State.rootCause_within {s d e k cause endpoint self} : Within 232133760524 s (State.rootCause s d e k cause endpoint self) := by
  unfold State.rootCause
  repeat' (first
      | with_reducible intro _
      | with_reducible apply Within.refl
      | with_reducible apply Within.ite
      | (with_reducible apply Within.step; apply State.replayLost_within; decide)
      | (with_reducible apply Within.step; apply State.groupEvent_within; decide)
      | (with_reducible apply Within.step; apply State.abortRoot_within; decide)
      | split)

theorem State.sendFailure_within {s d e k gen cause endpoint} : Within 94694801416 s (State.sendFailure s d e k gen cause endpoint) := by
  unfold State.sendFailure
  repeat' (first
      | with_reducible apply Within.refl
      | (with_reducible apply Within.step; apply State.onOp_within; decide)
      | (with_reducible apply Within.step; apply State.sendRoot_within; decide)
      | dsimp only
      | split)

theorem cmOp_within {d e} : MWithin 0 (cmOp d e) := by
  unfold cmOp
  repeat' (first
      | with_reducible intro _
      | with_reducible apply MWithin.pure
      | with_reducible apply MWithin.throw
      | with_reducible apply MWithin.get
      | with_reducible apply MWithin.bind
      | split)

theorem cmChunk_within {d e k} : MWithin 0 (cmChunk d e k) := by
  unfold cmChunk
  repeat' (first
      | with_reducible intro _
      | with_reducible apply MWithin.pure
      | with_reducible apply MWithin.throw
      | with_reducible apply MWithin.bind
      | (with_reducible apply MWithin.mono; apply cmOp_within; decide)
      | split)

theorem cmAccess_step {W d f w p t act} (hW : 268436488 &&& W = 268436488)
    (hact : ∀ u, Within W u (act u).2) :
    MWithin W (cmAccess d f w p t act) := by
  unfold cmAccess
  repeat' (first
      | with_reducible intro _
      | with_reducible apply Within.refl
      | with_reducible apply hact
      | with_reducible apply MWithin.pure
      | with_reducible apply MWithin.throw
      | with_reducible apply MWithin.modify
      | with_reducible apply MWithin.bind
      | with_reducible apply MWithin.modifyGet
      | (with_reducible apply Within.step; (with_reducible apply State.fault_within); exact and_trans (by decide) hW)
      | split)

theorem cmOwn_within {d a} : MWithin 0 (cmOwn d a) := by
  unfold cmOwn
  repeat' (first
      | with_reducible intro _
      | with_reducible apply MWithin.pure
      | with_reducible apply MWithin.throw
      | with_reducible apply MWithin.get
      | with_reducible apply MWithin.bind
      | with_reducible apply MWithin.ite)

theorem cmRead_within {d f a n poison tally} : MWithin 8858383375 (cmRead d f a n poison tally) := by
  unfold cmRead
  repeat' (first
      | with_reducible intro _
      | with_reducible apply Within.refl
      | with_reducible apply MWithin.pure
      | with_reducible apply MWithin.bind
      | with_reducible apply MWithin.ite
      | (with_reducible apply cmAccess_step; decide)
      | (with_reducible apply Within.step; apply State.read_within; decide)
      | (with_reducible apply MWithin.mono; apply cmOwn_within; decide))

theorem cmWrite_within {d f a bs} : MWithin 268436489 (cmWrite d f a bs) := by
  unfold cmWrite
  repeat' (first
      | with_reducible intro _
      | with_reducible apply Within.refl
      | with_reducible apply MWithin.pure
      | with_reducible apply MWithin.bind
      | with_reducible apply MWithin.ite
      | (with_reducible apply Within.step; apply State.write_within; decide)
      | (with_reducible apply cmAccess_step; decide)
      | (with_reducible apply MWithin.mono; apply cmOwn_within; decide))

theorem cmStorePart_within {d o k part r fs} : MWithin 268436489 (cmStorePart d o k part r fs) := by
  unfold cmStorePart
  repeat' (first
      | with_reducible intro _
      | with_reducible apply MWithin.bind
      | (with_reducible apply MWithin.mono; apply cmWrite_within; decide))

theorem cmLoadPart_within {d o k part r} : MWithin 8858383375 (cmLoadPart d o k part r) := by
  unfold cmLoadPart
  repeat' (first
      | with_reducible intro _
      | with_reducible apply MWithin.pure
      | with_reducible apply MWithin.bind
      | (with_reducible apply MWithin.mono; apply cmRead_within; decide))

theorem State.addPart_within {s d e k part r fs glitch} : Within 77309423630 s (State.addPart s d e k part r fs glitch).2 := by
  unfold State.addPart
  repeat' (first
      | with_reducible intro _
      | with_reducible apply Within.refl
      | with_reducible apply Within.ite
      | (with_reducible apply Within.step; apply State.errorWords_within; decide)
      | (with_reducible apply Within.step; apply State.raise_within; decide)
      | (with_reducible apply Within.step; apply State.onChunk_within; decide)
      | (with_reducible apply Within.step; apply State.count_within; decide)
      | dsimp only
      | split)

theorem cmBegin_within {d e k} : MWithin 77577860111 (cmBegin d e k) := by
  unfold cmBegin
  repeat' (first
      | with_reducible intro _
      | with_reducible apply Within.refl
      | with_reducible apply MWithin.pure
      | with_reducible apply MWithin.modify
      | with_reducible apply MWithin.bind
      | with_reducible apply MWithin.ite
      | with_reducible apply MWithin.forIn
      | (with_reducible apply Within.step; apply State.addPart_within; decide)
      | (with_reducible apply MWithin.mono; apply cmRead_within; decide)
      | (with_reducible apply MWithin.mono; apply cmStorePart_within; decide)
      | (with_reducible apply MWithin.mono; apply cmOp_within; decide)
      | (with_reducible apply Within.step; apply State.onChunk_within; decide)
      | (with_reducible apply MWithin.mono; apply cmChunk_within; decide)
      | (with_reducible apply Within.step; apply State.count_within; decide))

theorem State.sendRow_within {s d g o k gen r fs} : Within 25975324680 s (State.sendRow s d g o k gen r fs) := by
  unfold State.sendRow
  repeat' (first
      | with_reducible intro _
      | with_reducible apply Within.refl
      | with_reducible apply Within.ite
      | (with_reducible apply Within.step; apply State.sendParent_within; decide)
      | (with_reducible apply Within.step; apply State.count_within; decide))

theorem State.noteOutput_within {s d e k a n} : Within 206158434316 s (State.noteOutput s d e k a n) := by
  unfold State.noteOutput
  repeat' (first
      | with_reducible intro _
      | with_reducible apply Within.refl
      | with_reducible assumption
      | with_reducible apply Within.ite
      | (with_reducible apply Within.step; apply State.onOp_within; decide)
      | (with_reducible apply Within.step; apply State.logBlock_within; decide)
      | (with_reducible apply Within.step; apply State.onChunk_within; decide)
      | with_reducible apply Within.foldl
      | dsimp only
      | split)

theorem cmOutput_within {d e k off bs} : MWithin 206426870797 (cmOutput d e k off bs) := by
  unfold cmOutput
  repeat' (first
      | with_reducible intro _
      | with_reducible apply Within.refl
      | with_reducible apply Within.ite
      | with_reducible apply MWithin.modify
      | with_reducible apply MWithin.bind
      | (with_reducible apply Within.step; apply State.noteOutput_within; decide)
      | (with_reducible apply MWithin.mono; apply cmOp_within; decide)
      | (with_reducible apply MWithin.mono; apply cmWrite_within; decide))

theorem cmRow_within {d e k r} : MWithin 232402195469 (cmRow d e k r) := by
  unfold cmRow
  repeat' (first
      | with_reducible intro _
      | with_reducible apply Within.refl
      | with_reducible apply MWithin.pure
      | with_reducible apply MWithin.modify
      | with_reducible apply MWithin.bind
      | with_reducible apply MWithin.ite
      | (with_reducible apply Within.step; apply State.sendRow_within; decide)
      | (with_reducible apply MWithin.mono; apply cmOutput_within; decide)
      | (with_reducible apply MWithin.mono; apply cmOp_within; decide)
      | (with_reducible apply Within.step; apply State.onChunk_within; decide)
      | (with_reducible apply MWithin.mono; apply cmChunk_within; decide)
      | (with_reducible apply Within.step; apply State.count_within; decide)
      | dsimp only
      | split)

theorem cmStream_within {d e k} : MWithin 8858383375 (cmStream d e k) := by
  unfold cmStream
  repeat' (first
      | with_reducible intro _
      | with_reducible apply MWithin.pure
      | with_reducible apply MWithin.bind
      | with_reducible apply MWithin.ite
      | (with_reducible apply MWithin.mono; apply cmRead_within; decide)
      | (with_reducible apply MWithin.mono; apply cmOp_within; decide)
      | (with_reducible apply MWithin.mono; apply cmChunk_within; decide))

theorem cmSendData_within {d e k gen} : MWithin 26243773455 (cmSendData d e k gen) := by
  unfold cmSendData
  repeat' (first
      | with_reducible intro _
      | with_reducible apply Within.refl
      | with_reducible assumption
      | with_reducible apply MWithin.modify
      | with_reducible apply MWithin.bind
      | (with_reducible apply MWithin.mono; apply cmOp_within; decide)
      | (with_reducible apply MWithin.mono; apply cmStream_within; decide)
      | (with_reducible apply Within.step; apply State.sendAll_within; decide)
      | with_reducible apply Within.foldl)

theorem cmCommit_within {d e k} : MWithin 94963250191 (cmCommit d e k) := by
  unfold cmCommit
  repeat' (first
      | with_reducible intro _
      | with_reducible apply Within.refl
      | with_reducible apply MWithin.pure
      | with_reducible apply MWithin.modify
      | with_reducible apply MWithin.bind
      | with_reducible apply MWithin.ite
      | (with_reducible apply MWithin.mono; apply cmOp_within; decide)
      | (with_reducible apply Within.step; apply State.onChunk_within; decide)
      | (with_reducible apply MWithin.mono; apply cmChunk_within; decide)
      | (with_reducible apply MWithin.mono; apply cmSendData_within; decide))

theorem cmChunks_within {d e} : MWithin 232402203663 (cmChunks d e) := by
  unfold cmChunks
  repeat' (first
      | with_reducible intro _
      | with_reducible apply MWithin.pure
      | with_reducible apply MWithin.bind
      | with_reducible apply MWithin.ite
      | with_reducible apply MWithin.forIn
      | (with_reducible apply MWithin.mono; apply cmBegin_within; decide)
      | (with_reducible apply MWithin.mono; apply cmCommit_within; decide)
      | (with_reducible apply MWithin.mono; apply cmRow_within; decide)
      | (with_reducible apply MWithin.mono; apply cmOp_within; decide))

theorem cmPart_within {d e k part} : MWithin 8858383375 (cmPart d e k part) := by
  unfold cmPart
  repeat' (first
      | with_reducible intro _
      | with_reducible apply MWithin.pure
      | with_reducible apply MWithin.throw
      | with_reducible apply MWithin.bind
      | with_reducible apply MWithin.ite
      | with_reducible apply MWithin.mapM
      | with_reducible apply MWithin.tryCatch
      | (with_reducible apply MWithin.mono; apply cmLoadPart_within; decide)
      | (with_reducible apply MWithin.mono; apply cmOp_within; decide)
      | (with_reducible apply MWithin.mono; apply cmChunk_within; decide)
      | split)

theorem cmReform_within {d e k gen} : MWithin 94963250191 (cmReform d e k gen) := by
  unfold cmReform
  repeat' (first
      | with_reducible intro _
      | with_reducible apply Within.refl
      | with_reducible assumption
      | with_reducible apply Within.ite
      | with_reducible apply MWithin.pure
      | with_reducible apply MWithin.modify
      | with_reducible apply MWithin.bind
      | with_reducible apply MWithin.mapM
      | (with_reducible apply Within.step; apply State.addPart_within; decide)
      | (with_reducible apply MWithin.mono; apply cmPart_within; decide)
      | (with_reducible apply Within.step; apply State.onOp_within; decide)
      | (with_reducible apply MWithin.mono; apply cmOp_within; decide)
      | (with_reducible apply Within.step; apply State.askResend_within; decide)
      | (with_reducible apply MWithin.mono; apply cmChunk_within; decide)
      | (with_reducible apply Within.step; apply State.count_within; decide)
      | with_reducible apply Within.foldl
      | split)

theorem cmResend_within {d e k} : MWithin 26243773455 (cmResend d e k) := by
  unfold cmResend
  repeat' (first
      | with_reducible intro _
      | with_reducible apply Within.refl
      | with_reducible apply MWithin.pure
      | with_reducible apply MWithin.modify
      | with_reducible apply MWithin.bind
      | with_reducible apply MWithin.forIn
      | with_reducible apply MWithin.mapM
      | (with_reducible apply Within.step; apply State.sendRow_within; decide)
      | (with_reducible apply MWithin.mono; apply cmLoadPart_within; decide)
      | (with_reducible apply MWithin.mono; apply cmOp_within; decide)
      | (with_reducible apply MWithin.mono; apply cmChunk_within; decide)
      | (with_reducible apply Within.step; apply State.count_within; decide))

theorem cmPump_within {d e a2} : MWithin 232402203663 (cmPump d e a2) := by
  unfold cmPump
  repeat' (first
      | with_reducible intro _
      | with_reducible apply Within.refl
      | with_reducible apply MWithin.pure
      | with_reducible apply MWithin.modify
      | with_reducible apply MWithin.bind
      | with_reducible apply MWithin.ite
      | with_reducible apply MWithin.forIn
      | (with_reducible apply MWithin.mono; apply cmChunks_within; decide)
      | (with_reducible apply MWithin.mono; apply cmReform_within; decide)
      | (with_reducible apply Within.step; apply State.sendGrants_within; decide)
      | (with_reducible apply Within.step; apply State.onOp_within; decide)
      | (with_reducible apply MWithin.mono; apply cmOp_within; decide)
      | (with_reducible apply MWithin.mono; apply cmSendData_within; decide)
      | (with_reducible apply MWithin.mono; apply cmPump_within; decide)
      | dsimp only
      | split)

theorem State.settleColl_step {W s d e x} (hW : 232133760524 &&& W = 232133760524)
    (h : Within W s x.2) :
    Within W s (State.settleColl d e x) := by
  unfold State.settleColl
  repeat' (first
      | with_reducible intro _
      | with_reducible assumption
      | with_reducible apply Within.ite
      | (with_reducible apply Within.step; (with_reducible apply State.endColl_within); exact and_trans (by decide) hW)
      | (with_reducible apply Within.step; (with_reducible apply State.onOp_within); exact and_trans (by decide) hW)
      | (with_reducible apply Within.step; (with_reducible apply State.sendFailure_within); exact and_trans (by decide) hW)
      | (with_reducible apply Within.step; (with_reducible apply State.rootCause_within); exact and_trans (by decide) hW)
      | dsimp only
      | split)

theorem State.runColl_step {W s t d e act} (hW : 232133760524 &&& W = 232133760524)
    (hact : MWithin W act) (h : Within W s t) :
    Within W s (State.runColl t d e act) := by
  unfold State.runColl
  repeat' (first
      | with_reducible intro _
      | with_reducible assumption
      | exact Within.run hact (Nat.and_self W) h
      | with_reducible apply Within.ite
      | (with_reducible apply State.settleColl_step; exact and_trans (by decide) hW)
      | split)

theorem State.earlyEnd_within {s d e} : Within 68719477256 s (State.earlyEnd s d e) := by
  unfold State.earlyEnd
  repeat' (first
      | with_reducible intro _
      | with_reducible apply Within.refl
      | with_reducible apply Within.ite
      | (with_reducible apply Within.step; apply State.onOp_within; decide)
      | (with_reducible apply Within.step; apply State.finish_within; decide)
      | (with_reducible apply Within.step; apply State.count_within; decide)
      | dsimp only
      | split)

theorem State.settleEnd_within {s d e} : Within 232133756424 s (State.settleEnd s d e) := by
  unfold State.settleEnd
  repeat' (first
      | with_reducible intro _
      | with_reducible apply Within.refl
      | with_reducible apply Within.ite
      | (with_reducible apply Within.step; apply State.endColl_within; decide)
      | (with_reducible apply Within.step; apply State.earlyEnd_within; decide)
      | (with_reducible apply Within.step; apply State.onOp_within; decide)
      | (with_reducible apply Within.step; apply State.sendReceipt_within; decide)
      | (with_reducible apply Within.step; apply State.sendAll_within; decide)
      | dsimp only
      | split)

theorem State.pumpColl_within {s d e} : Within 232402204175 s (State.pumpColl s d e) := by
  unfold State.pumpColl
  repeat' (first
      | with_reducible apply Within.refl
      | (with_reducible apply MWithin.mono; apply cmPump_within; decide)
      | (with_reducible apply State.runColl_step; decide)
      | (with_reducible apply Within.step; apply State.settleEnd_within; decide)
      | split)

end Sys2Proof.Machine
end

