-- ==== Sys2Proof/Laws/Collective.lean ====
section
/-!
SUPPORT. What each operation of Machine/Collective.lean can change, as a mask of the areas of Safety.lean: bit n of the mask is the
area that the declaration of `Area` lists as its n-th, from 0.
-/

set_option linter.unusedSimpArgs false
set_option linter.unusedVariables false

namespace Sys2Proof.Machine

theorem State.malformedAt_within {s f q i o} : Within 1672 s (State.malformedAt s f q i o) := by
  unfold State.malformedAt
  repeat' (first
      | (simp only [Within.mk_iff]; with_reducible apply WithinMk.put; (repeat' (first | (with_reducible exact OtpKept.refl _) | (with_reducible apply And.intro) | exact Or.inl (by decide) | exact Or.inr rfl | (with_reducible rfl) | (simp only [List.length_map, List.length_set, length_modifyAt]; done))))
      | with_reducible apply Within.refl
      | (with_reducible apply Within.step; apply State.stopQueue_within; decide)
      | (with_reducible apply Within.step; apply State.onQueue_within; decide))

theorem State.beginColl_within {s f q i d} : Within 232402204303 s (State.beginColl s f q i d) := by
  unfold State.beginColl
  repeat' (first
      | with_reducible intro _
      | with_reducible apply Within.refl
      | with_reducible apply Within.ite
      | (with_reducible apply Within.step; apply State.fault_within; decide)
      | (with_reducible apply Within.step; apply State.onExec_within; decide)
      | (with_reducible apply Within.step; apply State.sendGrants_within; decide)
      | (with_reducible apply Within.step; apply State.pumpColl_within; decide)
      | (with_reducible apply Within.step; apply State.finish_within; decide)
      | (with_reducible apply Within.step; apply State.onGroup_within; decide)
      | (with_reducible apply Within.step; apply State.malformedAt_within; decide)
      | (with_reducible apply Within.pair; (with_reducible assumption); apply State.read_within; decide)
      | dsimp only
      | split)

theorem State.chunkPacket_step {W s t d p k act} (hW : 25975324680 &&& W = 25975324680)
    (hact : ∀ u e g o h, Within W s u → Within W s (act u e g o h)) (h : Within W s t) :
    Within W s (State.chunkPacket t d p k act) := by
  unfold State.chunkPacket
  repeat' (first
      | with_reducible intro _
      | with_reducible assumption
      | with_reducible apply hact
      | with_reducible apply Within.ite
      | (with_reducible apply Within.step; (with_reducible apply State.takeLocal_within); exact and_trans (by decide) hW)
      | (with_reducible apply Within.step; (with_reducible apply State.sendReceipt_within); exact and_trans (by decide) hW)
      | (with_reducible apply Within.step; (with_reducible apply State.count_within); exact and_trans (by decide) hW)
      | dsimp only
      | split)

theorem State.retractRoot_within {s d e k} : Within 232402335247 s (State.retractRoot s d e k) := by
  unfold State.retractRoot
  repeat' (first
      | with_reducible intro _
      | with_reducible apply Within.refl
      | with_reducible apply Within.ite
      | (with_reducible apply Within.step; apply State.replayLost_within; decide)
      | (with_reducible apply Within.step; apply State.pumpColl_within; decide)
      | (with_reducible apply Within.step; apply State.onOp_within; decide)
      | (with_reducible apply Within.step; apply State.raise_within; decide)
      | (with_reducible apply Within.step; apply State.groupEvent_within; decide)
      | (with_reducible apply Within.step; apply State.sendAll_within; decide)
      | (with_reducible apply Within.step; apply State.count_within; decide)
      | (with_reducible apply Within.step; apply State.retract_within; decide)
      | dsimp only
      | split)

theorem State.chunkFailed_within {s d e k cause} : Within 232402335247 s (State.chunkFailed s d e k cause) := by
  unfold State.chunkFailed
  repeat' (first
      | with_reducible intro _
      | with_reducible apply Within.refl
      | with_reducible apply Within.ite
      | (with_reducible apply Within.step; apply State.sendFailure_within; decide)
      | (with_reducible apply Within.step; apply State.askResend_within; decide)
      | (with_reducible apply Within.step; apply State.retractRoot_within; decide)
      | split)

theorem State.routerTally_within {s d p} : Within 232402335247 s (State.routerTally s d p) := by
  unfold State.routerTally
  repeat' (first
      | with_reducible intro _
      | with_reducible apply Within.refl
      | with_reducible apply Within.ite
      | (with_reducible apply Within.step; apply State.chunkFailed_within; decide)
      | (with_reducible apply Within.step; apply State.count_within; decide)
      | split)

theorem State.holdChunk_within {s d e p} : Within 68719476736 s (State.holdChunk s d e p) := by
  unfold State.holdChunk
  repeat' (first
      | with_reducible apply Within.refl
      | (with_reducible apply Within.step; apply State.onOp_within; decide))

theorem State.acceptRow_within {s d e p k part r fs glitch} : Within 232402335247 s (State.acceptRow s d e p k part r fs glitch) := by
  unfold State.acceptRow
  repeat' (first
      | with_reducible intro _
      | with_reducible apply Within.refl
      | with_reducible apply Within.ite
      | (with_reducible apply Within.step; apply State.addPart_within; decide)
      | (with_reducible apply Within.step; apply State.chunkFailed_within; decide)
      | (with_reducible apply Within.step; apply State.holdChunk_within; decide)
      | (with_reducible apply Within.step; apply State.pumpColl_within; decide)
      | (with_reducible apply Within.step; apply State.onOp_within; decide)
      | (with_reducible apply Within.run cmStorePart_within; decide)
      | (with_reducible apply Within.step; apply State.count_within; decide)
      | (with_reducible apply State.settleColl_step; decide)
      | dsimp only
      | split
      | (with_reducible apply Within.ofPair; (with_reducible assumption)))

theorem State.framesIn_within {s d e p glitch o a6} : Within 232402335247 s (State.framesIn s d e p glitch o a6) := by
  unfold State.framesIn
  repeat' (first
      | with_reducible intro _
      | with_reducible apply Within.refl
      | with_reducible apply Within.ite
      | (with_reducible apply Within.step; apply State.chunkFailed_within; decide)
      | (with_reducible apply Within.step; apply State.holdChunk_within; decide)
      | (with_reducible apply Within.step; apply State.acceptRow_within; decide)
      | (with_reducible apply Within.step; apply State.onChunk_within; decide)
      | (with_reducible apply Within.step; apply State.count_within; decide)
      | dsimp only
      | split)

theorem execFrames_within {d p glitch s} : RWithin 232402335247 s (execFrames d p glitch s) := by
  unfold execFrames
  repeat' (first
      | with_reducible intro _
      | with_reducible apply Within.refl
      | with_reducible assumption
      | with_reducible apply RWithin.atDie
      | (with_reducible apply State.chunkPacket_step; decide)
      | (with_reducible apply Within.step; apply State.framesIn_within; decide))

theorem State.poisonBlocks_within {s d f l v} : Within 268435465 s (State.poisonBlocks s d f l v) := by
  unfold State.poisonBlocks
  repeat' (first
      | with_reducible intro _
      | with_reducible apply Within.refl
      | with_reducible assumption
      | with_reducible apply Within.ite
      | (with_reducible apply Within.step; apply State.setPoison_within; decide)
      | (with_reducible apply Within.pair; (with_reducible assumption); apply State.translate_within; decide)
      | (with_reducible apply Within.step; apply State.count_within; decide)
      | with_reducible apply Within.foldl
      | dsimp only
      | split)

theorem State.dataWhole_within {s d e k} : Within 68987912201 s (State.dataWhole s d e k) := by
  unfold State.dataWhole
  repeat' (first
      | with_reducible intro _
      | with_reducible apply Within.refl
      | with_reducible apply Within.ite
      | (with_reducible apply Within.step; apply State.onOp_within; decide)
      | (with_reducible apply Within.step; apply State.poisonBlocks_within; decide)
      | (with_reducible apply Within.step; apply State.onChunk_within; decide)
      | split)

theorem State.dataIn_within {s d e p g o a6} : Within 232402335247 s (State.dataIn s d e p g o a6) := by
  unfold State.dataIn
  repeat' (first
      | with_reducible intro _
      | with_reducible apply Within.refl
      | with_reducible apply Within.ite
      | (with_reducible apply Within.step; apply State.chunkFailed_within; decide)
      | (with_reducible apply Within.run cmOutput_within; decide)
      | (with_reducible apply Within.step; apply State.holdChunk_within; decide)
      | (with_reducible apply Within.step; apply State.pumpColl_within; decide)
      | (with_reducible apply Within.step; apply State.dataWhole_within; decide)
      | (with_reducible apply Within.step; apply State.onOp_within; decide)
      | (with_reducible apply Within.step; apply State.onChunk_within; decide)
      | (with_reducible apply Within.step; apply State.askResend_within; decide)
      | (with_reducible apply Within.step; apply State.count_within; decide)
      | (with_reducible apply State.settleColl_step; decide)
      | dsimp only
      | split
      | (with_reducible apply Within.ofPair; (with_reducible assumption)))

theorem execData_within {d p s} : RWithin 232402335247 s (execData d p s) := by
  unfold execData
  repeat' (first
      | with_reducible intro _
      | with_reducible apply Within.refl
      | with_reducible assumption
      | with_reducible apply RWithin.atDie
      | (with_reducible apply State.chunkPacket_step; decide)
      | (with_reducible apply Within.step; apply State.dataIn_within; decide))

theorem execGrant_within {d p s} : RWithin 232402204175 s (execGrant d p s) := by
  unfold execGrant
  repeat' (first
      | with_reducible intro _
      | with_reducible apply Within.refl
      | with_reducible assumption
      | with_reducible apply Within.ite
      | with_reducible apply RWithin.atDie
      | (with_reducible apply State.chunkPacket_step; decide)
      | (with_reducible apply Within.step; apply State.sendGrants_within; decide)
      | (with_reducible apply Within.step; apply State.pumpColl_within; decide)
      | (with_reducible apply Within.step; apply State.onOp_within; decide))

theorem execReceipt_within {d p s} : RWithin 232402204175 s (execReceipt d p s) := by
  unfold execReceipt
  repeat' (first
      | with_reducible intro _
      | with_reducible apply Within.refl
      | with_reducible assumption
      | with_reducible apply RWithin.atDie
      | (with_reducible apply State.chunkPacket_step; decide)
      | (with_reducible apply Within.step; apply State.pumpColl_within; decide)
      | (with_reducible apply Within.step; apply State.onOp_within; decide))

theorem execResend_within {d p s} : RWithin 232402204175 s (execResend d p s) := by
  unfold execResend
  repeat' (first
      | with_reducible intro _
      | with_reducible apply Within.refl
      | with_reducible assumption
      | with_reducible apply Within.ite
      | with_reducible apply RWithin.atDie
      | (with_reducible apply State.chunkPacket_step; decide)
      | (with_reducible apply Within.step; apply State.pumpColl_within; decide)
      | (with_reducible apply MWithin.mono; apply cmResend_within; decide)
      | (with_reducible apply Within.step; apply State.onOp_within; decide)
      | (with_reducible apply State.runColl_step; decide)
      | (with_reducible apply Within.step; apply State.count_within; decide)
      | (with_reducible apply MWithin.mono; apply cmSendData_within; decide)
      | dsimp only
      | split)

theorem execFailure_within {d p s} : RWithin 232402335247 s (execFailure d p s) := by
  unfold execFailure
  repeat' (first
      | with_reducible intro _
      | with_reducible apply Within.refl
      | with_reducible assumption
      | with_reducible apply Within.ite
      | with_reducible apply RWithin.atDie
      | with_reducible apply MWithin.pure
      | with_reducible apply MWithin.ite
      | (with_reducible apply State.chunkPacket_step; decide)
      | (with_reducible apply Within.step; apply State.rootCause_within; decide)
      | (with_reducible apply State.runColl_step; decide)
      | (with_reducible apply Within.step; apply State.retractRoot_within; decide)
      | (with_reducible apply MWithin.mono; apply cmSendData_within; decide)
      | split)

theorem execRetract_within {d p s} : RWithin 232402322953 s (execRetract d p s) := by
  unfold execRetract
  repeat' (first
      | with_reducible intro _
      | with_reducible apply Within.refl
      | with_reducible assumption
      | with_reducible apply Within.ite
      | with_reducible apply RWithin.atDie
      | (with_reducible apply State.chunkPacket_step; decide)
      | (with_reducible apply Within.step; apply State.onOp_within; decide)
      | (with_reducible apply Within.step; apply State.poisonBlocks_within; decide)
      | (with_reducible apply Within.step; apply State.settleEnd_within; decide)
      | (with_reducible apply Within.step; apply State.retract_within; decide)
      | dsimp only
      | split)

theorem execFinish_within {d p s} : RWithin 232133756424 s (execFinish d p s) := by
  unfold execFinish
  repeat' (first
      | with_reducible intro _
      | with_reducible apply Within.refl
      | with_reducible assumption
      | with_reducible apply RWithin.atDie
      | (with_reducible apply State.chunkPacket_step; decide)
      | (with_reducible apply Within.step; apply State.onOp_within; decide)
      | (with_reducible apply Within.step; apply State.settleEnd_within; decide))

theorem execChunkAbort_within {d p s} : RWithin 232133756424 s (execChunkAbort d p s) := by
  unfold execChunkAbort
  repeat' (first
      | with_reducible intro _
      | with_reducible apply Within.refl
      | with_reducible assumption
      | with_reducible apply Within.ite
      | with_reducible apply RWithin.atDie
      | (with_reducible apply State.chunkPacket_step; decide)
      | (with_reducible apply Within.step; apply State.sendChildren_within; decide)
      | (with_reducible apply Within.step; apply State.endColl_within; decide))

theorem atColl_step {W s t d e act} (hW : 0 &&& W = 0)
    (hact : ∀ g o, Within W s (act g o)) (h : Within W s t) :
    RWithin W s (atColl t d e act) := by
  unfold atColl
  repeat' (first
      | with_reducible assumption
      | with_reducible apply hact
      | with_reducible apply RWithin.atUnit
      | split)

theorem execRepeatTimer_within {d entry s} : RWithin 94694801416 s (execRepeatTimer d entry s) := by
  unfold execRepeatTimer
  repeat' (first
      | with_reducible intro _
      | with_reducible apply Within.refl
      | with_reducible assumption
      | with_reducible apply Within.ite
      | (with_reducible apply Within.step; apply State.sendGrants_within; decide)
      | (with_reducible apply atColl_step; decide)
      | (with_reducible apply Within.step; apply State.onOp_within; decide)
      | (with_reducible apply Within.step; apply State.sendReceipt_within; decide)
      | (with_reducible apply Within.step; apply State.sendAll_within; decide)
      | (with_reducible apply Within.step; apply State.sendRoot_within; decide)
      | with_reducible apply Within.foldl
      | dsimp only
      | split)

theorem execResendTimer_within {d entry s} : RWithin 94694801416 s (execResendTimer d entry s) := by
  unfold execResendTimer
  repeat' (first
      | with_reducible intro _
      | with_reducible apply Within.refl
      | with_reducible assumption
      | with_reducible apply Within.ite
      | (with_reducible apply atColl_step; decide)
      | (with_reducible apply Within.step; apply State.askResend_within; decide)
      | with_reducible apply Within.foldl)

theorem execChildTimeout_within {d entry child s} : RWithin 232133760524 s (execChildTimeout d entry child s) := by
  unfold execChildTimeout
  repeat' (first
      | with_reducible intro _
      | with_reducible apply Within.refl
      | with_reducible apply Within.ite
      | (with_reducible apply atColl_step; decide)
      | (with_reducible apply Within.step; apply State.sendFailure_within; decide)
      | (with_reducible apply Within.step; apply State.raise_within; decide)
      | (with_reducible apply Within.step; apply State.rootCause_within; decide)
      | (with_reducible apply Within.step; apply State.groupEvent_within; decide)
      | (with_reducible apply Within.step; apply State.count_within; decide)
      | dsimp only
      | split)

theorem execParentTimeout_within {d entry s} : RWithin 232133760524 s (execParentTimeout d entry s) := by
  unfold execParentTimeout
  repeat' (first
      | with_reducible intro _
      | with_reducible apply Within.refl
      | with_reducible apply Within.ite
      | (with_reducible apply Within.step; apply State.sendChildren_within; decide)
      | (with_reducible apply Within.step; apply State.endColl_within; decide)
      | (with_reducible apply atColl_step; decide)
      | (with_reducible apply Within.step; apply State.raise_within; decide)
      | (with_reducible apply Within.step; apply State.groupEvent_within; decide)
      | (with_reducible apply Within.step; apply State.count_within; decide))

theorem execMemberLeft_within {d entry s} : RWithin 94694802952 s (execMemberLeft d entry s) := by
  unfold execMemberLeft
  repeat' (first
      | with_reducible intro _
      | (simp only [Within.mk_iff]; with_reducible apply WithinMk.put; (repeat' (first | (with_reducible exact OtpKept.refl _) | (with_reducible apply And.intro) | exact Or.inl (by decide) | exact Or.inr rfl | (with_reducible rfl) | (simp only [List.length_map, List.length_set, length_modifyAt]; done))))
      | with_reducible apply Within.refl
      | with_reducible apply Within.ite
      | (with_reducible apply atColl_step; decide)
      | (with_reducible apply Within.step; apply State.onGroup_within; decide)
      | (with_reducible apply Within.step; apply State.sendFailure_within; decide)
      | (with_reducible apply Within.step; apply State.groupEvent_within; decide)
      | (with_reducible apply Within.step; apply State.sendAll_within; decide))

theorem State.retryColl_within {s d f key} : Within 232402335375 s (State.retryColl s d f key) := by
  unfold State.retryColl
  repeat' (first
      | with_reducible intro _
      | with_reducible apply Within.refl
      | with_reducible assumption
      | with_reducible apply Within.ite
      | (with_reducible apply Within.step; apply State.onExec_within; decide)
      | (with_reducible apply Within.step; apply State.pumpColl_within; decide)
      | (with_reducible apply Within.step; apply State.onOp_within; decide)
      | (with_reducible apply Within.step; apply State.beginColl_within; decide)
      | (with_reducible apply Within.step; apply State.dataIn_within; decide)
      | (with_reducible apply Within.step; apply State.framesIn_within; decide)
      | (with_reducible apply Within.step; apply State.count_within; decide)
      | with_reducible apply Within.foldl
      | dsimp only
      | split)

theorem State.abortColl_within {s d f key} : Within 206158431752 s (State.abortColl s d f key) := by
  unfold State.abortColl
  repeat' (first
      | with_reducible intro _
      | with_reducible apply Within.refl
      | with_reducible assumption
      | (with_reducible apply Within.step; apply State.endColl_within; decide)
      | (with_reducible apply Within.step; apply State.finish_within; decide)
      | with_reducible apply Within.foldl)

theorem State.reformDie_within {s d id g} : Within 206225540616 s (State.reformDie s d id g) := by
  unfold State.reformDie
  repeat' (first
      | with_reducible apply Within.refl
      | (with_reducible apply Within.step; apply State.removeGroup_within; decide)
      | (with_reducible apply Within.step; apply State.endColl_within; decide)
      | (with_reducible apply Within.step; apply State.installGroup_within; decide)
      | (with_reducible apply Within.step; apply State.groupEvent_within; decide)
      | dsimp only
      | split)

theorem State.reformGroup_within {s f i d table} : Within 206229734920 s (State.reformGroup s f i d table) := by
  unfold State.reformGroup
  repeat' (first
      | with_reducible intro _
      | with_reducible apply Within.refl
      | with_reducible assumption
      | with_reducible apply Within.ite
      | (with_reducible apply Within.step; apply State.readTable_within; decide)
      | (with_reducible apply Within.step; apply State.reformDie_within; decide)
      | (with_reducible apply Within.step; apply State.adminEnd_within; decide)
      | (with_reducible apply Within.step; apply State.createGroup_within; decide)
      | with_reducible apply Within.foldl)

theorem State.destroyGroup_within {s f i d} : Within 68786586112 s (State.destroyGroup s f i d) := by
  unfold State.destroyGroup
  repeat' (first
      | with_reducible intro _
      | with_reducible apply Within.refl
      | with_reducible assumption
      | with_reducible apply Within.ite
      | (with_reducible apply Within.step; apply State.removeGroup_within; decide)
      | (with_reducible apply Within.step; apply State.adminEnd_within; decide)
      | with_reducible apply Within.foldl)

end Sys2Proof.Machine
end

