-- ==== Sys2Proof/Laws/Collation.lean ====
section
/-!
SUPPORT. What each operation of Machine/Collation.lean can change, as a mask of the areas of Safety.lean: bit n of the mask is the
area that the declaration of `Area` lists as its n-th, from 0.
-/

set_option linter.unusedSimpArgs false
set_option linter.unusedVariables false

namespace Sys2Proof.Machine

theorem State.onCollation_within {s d n f} : Within 137438953472 s (State.onCollation s d n f) := by
  unfold State.onCollation
  repeat' (first
      | with_reducible apply Within.refl
      | (with_reducible apply Within.step; apply State.onInteg_within; decide))

theorem State.collationTable_within {s f i inst table} : Within 137438953984 s (State.collationTable s f i inst table) := by
  unfold State.collationTable
  repeat' (first
      | with_reducible intro _
      | with_reducible apply Within.refl
      | with_reducible apply Within.ite
      | (with_reducible apply Within.step; apply State.onInteg_within; decide)
      | (with_reducible apply Within.step; apply State.adminEnd_within; decide))

theorem State.sendDigest_within {s d c round none_ bs} : Within 25975455752 s (State.sendDigest s d c round none_ bs) := by
  unfold State.sendDigest
  repeat' (first
      | with_reducible apply Within.refl
      | (with_reducible apply Within.step; apply State.sendIntegrity_within; decide))

theorem execDigestFormed_within {d entry s} : RWithin 163414409224 s (execDigestFormed d entry s) := by
  unfold execDigestFormed
  repeat' (first
      | with_reducible apply Within.refl
      | with_reducible apply RWithin.atUnit
      | (with_reducible apply Within.step; apply State.onCollation_within; decide)
      | (with_reducible apply Within.step; apply State.sendDigest_within; decide)
      | (with_reducible apply Within.step; apply State.takeFreeBytes_within; decide)
      | (with_reducible apply Within.step; apply State.count_within; decide)
      | dsimp only
      | split)

theorem execDigestRepeat_within {d entry s} : RWithin 163414409224 s (execDigestRepeat d entry s) := by
  unfold execDigestRepeat
  repeat' (first
      | with_reducible intro _
      | with_reducible apply Within.refl
      | with_reducible apply Within.ite
      | with_reducible apply RWithin.atUnit
      | (with_reducible apply Within.step; apply State.onCollation_within; decide)
      | (with_reducible apply Within.step; apply State.sendDigest_within; decide)
      | (with_reducible apply Within.step; apply State.count_within; decide)
      | split)

theorem execDigestAck_within {d p s} : RWithin 154824343560 s (execDigestAck d p s) := by
  unfold execDigestAck
  repeat' (first
      | with_reducible intro _
      | with_reducible apply Within.refl
      | with_reducible apply Within.ite
      | with_reducible apply RWithin.atDie
      | (with_reducible apply Within.step; apply State.takeLocal_within; decide)
      | (with_reducible apply Within.step; apply State.onInteg_within; decide)
      | dsimp only
      | split)

theorem State.decideRound_within {s d n round part} : Within 137438958604 s (State.decideRound s d n round part) := by
  unfold State.decideRound
  repeat' (first
      | with_reducible intro _
      | with_reducible apply Within.refl
      | with_reducible assumption
      | (with_reducible apply Within.step; apply State.onCollation_within; decide)
      | (with_reducible apply Within.step; apply State.integrityEvent_within; decide)
      | (with_reducible apply Within.step; apply State.raise_within; decide)
      | (with_reducible apply Within.step; apply State.count_within; decide)
      | with_reducible apply Within.foldl
      | dsimp only
      | split)

theorem State.storeDigest_within {s d c replica part} : Within 268567561 s (State.storeDigest s d c replica part) := by
  unfold State.storeDigest
  repeat' (first
      | with_reducible apply Within.refl
      | (with_reducible apply Within.step; apply State.write_within; decide)
      | (with_reducible apply Within.step; apply State.takeFreeBytes_within; decide))

theorem execDigest_within {d p s} : RWithin 163682849805 s (execDigest d p s) := by
  unfold execDigest
  repeat' (first
      | with_reducible intro _
      | with_reducible apply Within.refl
      | with_reducible apply Within.ite
      | with_reducible apply RWithin.atDie
      | (with_reducible apply Within.step; apply State.onCollation_within; decide)
      | (with_reducible apply Within.step; apply State.takeLocal_within; decide)
      | (with_reducible apply Within.step; apply State.sendIntegrity_within; decide)
      | (with_reducible apply Within.step; apply State.decideRound_within; decide)
      | (with_reducible apply Within.step; apply State.storeDigest_within; decide)
      | dsimp only
      | split)

theorem execCollationTimeout_within {d entry part s} : RWithin 137438958604 s (execCollationTimeout d entry part s) := by
  unfold execCollationTimeout
  repeat' (first
      | with_reducible apply Within.refl
      | with_reducible apply RWithin.atUnit
      | (with_reducible apply Within.step; apply State.decideRound_within; decide)
      | split)

end Sys2Proof.Machine
end

