-- ==== Sys2Proof/Laws/Partition.lean ====
section
/-!
SUPPORT. What each operation of Machine/Partition.lean can change, as a mask of the areas of Safety.lean: bit n of the mask is the
area that the declaration of `Area` lists as its n-th, from 0.
-/

set_option linter.unusedSimpArgs false
set_option linter.unusedVariables false

namespace Sys2Proof.Machine

theorem State.clearInts_within {s p} : Within 4 s (State.clearInts s p) := by
  unfold State.clearInts
  repeat' (first
      | with_reducible apply Within.refl
      | (with_reducible apply Within.step; (with_reducible apply State.setReg_common); (first | decide | omega); decide))

theorem State.adminGone_within {s f} : Within 2 s (State.adminGone s f) := by
  unfold State.adminGone
  repeat' (first
      | with_reducible apply Within.refl
      | (with_reducible apply Within.step; (with_reducible apply State.setReg_own); (first | decide | omega); (first | decide | omega); decide))

theorem State.endChecks_within {s f} : Within 180657206799 s (State.endChecks s f) := by
  unfold State.endChecks
  repeat' (first
      | with_reducible intro _
      | with_reducible apply Within.refl
      | with_reducible assumption
      | (with_reducible apply Within.step; apply State.abandonCheck_within; decide)
      | with_reducible apply Within.foldl)

theorem State.functionReset_within {s f} : Within 249527746479 s (State.functionReset s f) := by
  unfold State.functionReset
  repeat' (first
      | with_reducible intro _
      | (simp only [Within.mk_iff]; with_reducible apply WithinMk.put; (repeat' (first | (with_reducible exact OtpKept.refl _) | (with_reducible apply And.intro) | exact Or.inl (by decide) | exact Or.inr rfl | (with_reducible rfl) | (simp only [List.length_map, List.length_set, length_modifyAt]; done))))
      | with_reducible apply Within.refl
      | with_reducible assumption
      | with_reducible apply Within.ite
      | (with_reducible apply Within.step; apply State.adminGone_within; decide)
      | (with_reducible apply Within.step; apply State.endChecks_within; decide)
      | (with_reducible apply Within.step; apply State.dropTranslations_within; decide)
      | (with_reducible apply Within.step; apply State.onOp_within; decide)
      | (with_reducible apply Within.step; apply State.clearInts_within; decide)
      | (with_reducible apply Within.step; apply State.dropFaults_within; decide)
      | (with_reducible apply Within.step; apply State.removeQueue_within; decide)
      | (with_reducible apply Within.step; apply State.removeQp_within; decide)
      | (with_reducible apply Within.step; apply State.freeLog_within; decide)
      | (with_reducible apply Within.step; apply State.clearRun_within; decide)
      | with_reducible apply Within.foldl
      | (with_reducible apply Within.onFn; decide))

theorem State.enterClosing_within {s f} : Within 249527746479 s (State.enterClosing s f) := by
  unfold State.enterClosing
  repeat' (first
      | with_reducible apply Within.refl
      | (with_reducible apply Within.step; apply State.functionReset_within; decide)
      | (with_reducible apply Within.onFn; decide))

theorem State.reachOpen_within {s f} : Within 249527746479 s (State.reachOpen s f) := by
  unfold State.reachOpen
  repeat' (first
      | with_reducible intro _
      | with_reducible apply Within.refl
      | with_reducible apply Within.ite
      | (with_reducible apply Within.step; apply State.enterClosing_within; decide)
      | (with_reducible apply Within.step; apply State.raise_within; decide)
      | (with_reducible apply Within.step; apply State.count_within; decide)
      | (with_reducible apply Within.onFn; decide))

theorem execFunctionEnable_within {f s} : RWithin 8594141230 s (execFunctionEnable f s) := by
  unfold execFunctionEnable
  repeat' (first
      | with_reducible intro _
      | with_reducible apply Within.refl
      | with_reducible apply Within.ite
      | with_reducible apply RWithin.atFn
      | (with_reducible apply Within.step; apply State.refuse_within; decide)
      | (with_reducible apply State.fromFn_step; decide)
      | (with_reducible apply State.guarded_step; decide)
      | (with_reducible apply Within.onFn; decide))

theorem execFunctionDisable_within {f s} : RWithin 249531940783 s (execFunctionDisable f s) := by
  unfold execFunctionDisable
  repeat' (first
      | with_reducible intro _
      | with_reducible apply Within.refl
      | with_reducible apply Within.ite
      | with_reducible apply RWithin.atFn
      | (with_reducible apply Within.step; apply State.enterClosing_within; decide)
      | (with_reducible apply Within.step; apply State.refuse_within; decide)
      | (with_reducible apply State.fromFn_step; decide)
      | (with_reducible apply State.guarded_step; decide)
      | (with_reducible apply Within.onFn; decide)
      | dsimp only
      | split)

theorem execFnHold_within {f hold s} : RWithin 8594141230 s (execFnHold f hold s) := by
  unfold execFnHold
  repeat' (first
      | with_reducible apply Within.refl
      | with_reducible apply RWithin.atFn
      | (with_reducible apply State.fromFn_step; decide)
      | (with_reducible apply State.guarded_step; decide)
      | (with_reducible apply Within.onFn; decide))

theorem execOpeningComplete_within {f s} : RWithin 249527746479 s (execOpeningComplete f s) := by
  unfold execOpeningComplete
  repeat' (first
      | with_reducible intro _
      | with_reducible apply Within.refl
      | with_reducible apply Within.ite
      | with_reducible apply RWithin.atFn
      | (with_reducible apply Within.step; apply State.reachOpen_within; decide))

theorem State.moveReckoner_within {s k f} : Within 171798696526 s (State.moveReckoner s k f) := by
  unfold State.moveReckoner
  repeat' (first
      | with_reducible intro _
      | (simp only [Within.mk_iff]; with_reducible apply WithinMk.put; (repeat' (first | (with_reducible exact OtpKept.refl _) | (with_reducible apply And.intro) | exact Or.inl (by decide) | exact Or.inr rfl | (with_reducible rfl) | (simp only [List.length_map, List.length_set, length_modifyAt]; done))))
      | with_reducible apply Within.refl
      | with_reducible assumption
      | (with_reducible apply Within.step; apply State.setReg_any; decide)
      | (with_reducible apply Within.step; apply State.onReck_within; decide)
      | (with_reducible apply Within.step; apply State.failRun_within; decide)
      | with_reducible apply Within.foldl)

theorem State.setHolding_within {s f a2} : Within 172067132014 s (State.setHolding s f a2) := by
  unfold State.setHolding
  repeat' (first
      | with_reducible intro _
      | (simp only [Within.mk_iff]; with_reducible apply WithinMk.put; (repeat' (first | (with_reducible exact OtpKept.refl _) | (with_reducible apply And.intro) | exact Or.inl (by decide) | exact Or.inr rfl | (with_reducible rfl) | (simp only [List.length_map, List.length_set, length_modifyAt]; done))))
      | with_reducible apply Within.refl
      | with_reducible assumption
      | with_reducible apply Within.ite
      | (with_reducible apply Within.step; apply State.setReg_any; decide)
      | (with_reducible apply Within.step; apply State.dropTranslations_within; decide)
      | (with_reducible apply Within.step; apply State.moveReckoner_within; decide)
      | with_reducible apply Within.foldl
      | (with_reducible apply Within.onFn; decide))

theorem State.resizePartition_within {s f i d record} : Within 172071326318 s (State.resizePartition s f i d record) := by
  unfold State.resizePartition
  repeat' (first
      | with_reducible intro _
      | with_reducible apply Within.refl
      | with_reducible apply Within.ite
      | (with_reducible apply Within.step; apply State.setHolding_within; decide)
      | (with_reducible apply Within.step; apply State.adminEnd_within; decide)
      | (with_reducible apply Within.step; apply State.emit_within; decide))

theorem State.destroyed_within {s p} : Within 240853733998 s (State.destroyed s p) := by
  unfold State.destroyed
  repeat' (first
      | with_reducible intro _
      | (simp only [Within.mk_iff]; with_reducible apply WithinMk.put; (repeat' (first | (with_reducible exact OtpKept.refl _) | (with_reducible apply And.intro) | exact Or.inl (by decide) | exact Or.inr rfl | (with_reducible rfl) | (simp only [List.length_map, List.length_set, length_modifyAt]; done))))
      | with_reducible apply Within.refl
      | with_reducible assumption
      | (with_reducible apply Within.step; apply State.removeGroup_within; decide)
      | (with_reducible apply Within.step; apply State.setHolding_within; decide)
      | (with_reducible apply Within.step; apply State.onXlate_within; decide)
      | (with_reducible apply Within.step; apply State.adminEnd_within; decide)
      | with_reducible apply Within.foldl
      | (with_reducible apply Within.onFn; decide)
      | dsimp only
      | split)

theorem execClosingComplete_within {f s} : RWithin 240853733998 s (execClosingComplete f s) := by
  unfold execClosingComplete
  repeat' (first
      | with_reducible intro _
      | with_reducible apply Within.refl
      | with_reducible apply Within.ite
      | with_reducible apply RWithin.atFn
      | (with_reducible apply Within.step; apply State.raise_within; decide)
      | (with_reducible apply Within.step; apply State.destroyed_within; decide)
      | (with_reducible apply Within.step; apply State.count_within; decide)
      | (with_reducible apply Within.onFn; decide))

theorem State.destroyPartition_within {s f i d} : Within 249594871791 s (State.destroyPartition s f i d) := by
  unfold State.destroyPartition
  repeat' (first
      | with_reducible intro _
      | with_reducible apply Within.refl
      | with_reducible apply Within.ite
      | (with_reducible apply Within.step; apply State.enterClosing_within; decide)
      | (with_reducible apply Within.step; apply State.adminEnd_within; decide)
      | (with_reducible apply Within.step; apply State.destroyed_within; decide)
      | (with_reducible apply Within.onFn; decide)
      | dsimp only
      | split)

theorem execFunctionLevelReset_within {f s} : RWithin 249527746479 s (execFunctionLevelReset f s) := by
  unfold execFunctionLevelReset
  repeat' (first
      | with_reducible intro _
      | with_reducible apply Within.refl
      | with_reducible apply Within.ite
      | with_reducible apply RWithin.atFn
      | (with_reducible apply Within.step; apply State.enterClosing_within; decide)
      | (with_reducible apply Within.step; apply State.count_within; decide)
      | (with_reducible apply Within.onFn; decide)
      | dsimp only
      | split)

theorem execVfEnableClear_within {s} : RWithin 249527746479 s (execVfEnableClear s) := by
  unfold execVfEnableClear
  repeat' (first
      | with_reducible intro _
      | with_reducible apply Within.refl
      | with_reducible assumption
      | with_reducible apply RWithin.next
      | (with_reducible apply Within.step; apply State.enterClosing_within; decide)
      | (with_reducible apply Within.step; apply State.reachOpen_within; decide)
      | with_reducible apply Within.foldl
      | (with_reducible apply Within.onFn; decide)
      | dsimp only
      | split)

theorem State.writeDirtyCtl_within {s f value} : Within 8589946926 s (State.writeDirtyCtl s f value) := by
  unfold State.writeDirtyCtl
  repeat' (first
      | with_reducible intro _
      | with_reducible apply Within.refl
      | with_reducible apply Within.ite
      | (with_reducible apply Within.step; (with_reducible apply State.setReg_own); (first | decide | omega); (first | decide | omega); decide)
      | (with_reducible apply Within.step; apply State.refuse_within; decide)
      | (with_reducible apply Within.onFn; decide))

theorem execDirtyLogEnable_within {f value s} : RWithin 8594141230 s (execDirtyLogEnable f value s) := by
  unfold execDirtyLogEnable
  repeat' (first
      | with_reducible intro _
      | with_reducible apply Within.refl
      | with_reducible apply Within.ite
      | with_reducible apply RWithin.atFn
      | (with_reducible apply Within.step; apply State.writeDirtyCtl_within; decide)
      | (with_reducible apply State.fromFn_step; decide)
      | (with_reducible apply State.guarded_step; decide))

theorem State.writeDirtyHead_within {s f value} : Within 8589946894 s (State.writeDirtyHead s f value) := by
  unfold State.writeDirtyHead
  repeat' (first
      | with_reducible intro _
      | with_reducible apply Within.refl
      | with_reducible apply Within.ite
      | (with_reducible apply Within.step; (with_reducible apply State.setReg_own); (first | decide | omega); (first | decide | omega); decide)
      | (with_reducible apply Within.step; apply State.refuse_within; decide))

theorem execDirtyHeadWrite_within {f value s} : RWithin 8594141198 s (execDirtyHeadWrite f value s) := by
  unfold execDirtyHeadWrite
  repeat' (first
      | with_reducible apply Within.refl
      | with_reducible apply RWithin.atFn
      | (with_reducible apply Within.step; apply State.writeDirtyHead_within; decide)
      | (with_reducible apply State.fromFn_step; decide)
      | (with_reducible apply State.guarded_step; decide))

end Sys2Proof.Machine
end

