-- ==== Sys2Proof/Laws/MemEvents.lean ====
section
/-!
SUPPORT. What each operation of Machine/MemEvents.lean can change, as a mask of the areas of Safety.lean: bit n of the mask is the
area that the declaration of `Area` lists as its n-th, from 0.
-/

set_option linter.unusedSimpArgs false
set_option linter.unusedVariables false

namespace Sys2Proof.Machine

theorem State.onMem_within {s d m f} : Within 536870912 s (State.onMem s d m f) := by
  unfold State.onMem
  repeat' (first
      | with_reducible intro _
      | (with_reducible apply DieWithin.mk <;> (first | exact fun e => absurd e (by decide) | exact fun _ => rfl | exact fun _ => ⟨rfl, rfl, rfl⟩ | exact fun e => e | exact fun e => .trans (by simp only [Die.units, List.length_map, List.length_set, length_modifyAt]) e))
      | with_reducible apply Within.refl
      | with_reducible apply Within.onDie)

theorem State.eccReport_within {s d m pa a4} : Within 8589946895 s (State.eccReport s d m pa a4) := by
  unfold State.eccReport
  repeat' (first
      | with_reducible apply Within.refl
      | (with_reducible apply Within.step; apply State.setPoison_within; decide)
      | (with_reducible apply Within.step; apply State.error_within; decide)
      | (with_reducible apply Within.step; apply State.count_within; decide)
      | split)

theorem execPatrolScrub_within {d m block severity s} : RWithin 9126817807 s (execPatrolScrub d m block severity s) := by
  unfold execPatrolScrub
  repeat' (first
      | with_reducible intro _
      | with_reducible apply Within.refl
      | with_reducible apply Within.ite
      | with_reducible apply RWithin.atUnit
      | (with_reducible apply Within.step; apply State.onMem_within; decide)
      | (with_reducible apply Within.step; apply State.eccReport_within; decide)
      | (with_reducible apply Within.step; apply State.count_within; decide))

theorem execWalkComplete_within {d e f offset isWrite prefetch s} : RWithin 268436488 s (execWalkComplete d e f offset isWrite prefetch s) := by
  unfold execWalkComplete
  repeat' (first
      | with_reducible intro _
      | with_reducible apply Within.refl
      | with_reducible apply Within.ite
      | with_reducible apply RWithin.atUnit
      | (with_reducible apply Within.step; apply State.fault_within; decide)
      | (with_reducible apply Within.pair; (with_reducible assumption); apply State.demandWalk_within; decide)
      | (with_reducible apply Within.step; apply State.installWalk_within; decide)
      | (with_reducible apply Within.step; apply State.install_within; decide)
      | dsimp only
      | split)

theorem State.dropWalks_within {s d f base len} : Within 268435456 s (State.dropWalks s d f base len) := by
  unfold State.dropWalks
  repeat' (first
      | with_reducible apply Within.refl
      | (with_reducible apply Within.step; apply State.onXlate_within; decide))

theorem State.endInvalidation_within {s} : Within 268435968 s (State.endInvalidation s) := by
  unfold State.endInvalidation
  repeat' (first
      | with_reducible intro _
      | with_reducible apply Within.refl
      | with_reducible assumption
      | with_reducible apply Within.ite
      | (with_reducible apply Within.step; apply State.onXlate_within; decide)
      | (with_reducible apply Within.step; apply State.adminEnd_within; decide)
      | with_reducible apply Within.foldl
      | dsimp only
      | split)

theorem State.invalidateRange_within {s f i d} : Within 268435976 s (State.invalidateRange s f i d) := by
  unfold State.invalidateRange
  repeat' (first
      | with_reducible intro _
      | with_reducible apply Within.refl
      | with_reducible assumption
      | with_reducible apply Within.ite
      | (with_reducible apply Within.step; apply State.endInvalidation_within; decide)
      | (with_reducible apply Within.step; apply State.dropWalks_within; decide)
      | (with_reducible apply Within.step; apply State.onXlate_within; decide)
      | (with_reducible apply Within.step; apply State.adminEnd_within; decide)
      | (with_reducible apply Within.step; apply State.count_within; decide)
      | with_reducible apply Within.foldl)

theorem execInvalidationPoint_within {d e s} : RWithin 34628173824 s (execInvalidationPoint d e s) := by
  unfold execInvalidationPoint
  repeat' (first
      | with_reducible intro _
      | with_reducible apply Within.refl
      | with_reducible apply Within.ite
      | with_reducible apply RWithin.atUnit
      | (with_reducible apply Within.step; apply State.onXlate_within; decide)
      | (with_reducible apply Within.step; apply State.dropTiles_within; decide)
      | dsimp only
      | split)

theorem execInvalidationAck_within {d e s} : RWithin 268435968 s (execInvalidationAck d e s) := by
  unfold execInvalidationAck
  repeat' (first
      | with_reducible intro _
      | with_reducible apply Within.refl
      | with_reducible apply Within.ite
      | with_reducible apply RWithin.atUnit
      | (with_reducible apply Within.step; apply State.endInvalidation_within; decide)
      | (with_reducible apply Within.step; apply State.onXlate_within; decide)
      | split)

theorem execInvalidationResend_within {d s} : RWithin 268435968 s (execInvalidationResend d s) := by
  unfold execInvalidationResend
  repeat' (first
      | with_reducible apply Within.refl
      | with_reducible apply RWithin.atDie
      | (with_reducible apply Within.step; apply State.endInvalidation_within; decide)
      | (with_reducible apply Within.step; apply State.dropWalks_within; decide)
      | (with_reducible apply Within.step; apply State.onXlate_within; decide)
      | dsimp only
      | split)

theorem State.ackDie_within {s d} : Within 268435968 s (State.ackDie s d) := by
  unfold State.ackDie
  repeat' (first
      | with_reducible apply Within.refl
      | (with_reducible apply Within.step; apply State.endInvalidation_within; decide)
      | (with_reducible apply Within.step; apply State.onXlate_within; decide))

theorem execDogEarWindowEnd_within {d s} : RWithin 268435456 s (execDogEarWindowEnd d s) := by
  unfold execDogEarWindowEnd
  repeat' (first
      | with_reducible apply Within.refl
      | with_reducible apply RWithin.atDie
      | (with_reducible apply Within.step; apply State.onXlate_within; decide))

end Sys2Proof.Machine
end

