-- ==== Sys2Proof/Laws/Resets.lean ====
section
/-!
SUPPORT. What each operation of Machine/Resets.lean can change, as a mask of the areas of Safety.lean: bit n of the mask is the
area that the declaration of `Area` lists as its n-th, from 0.
-/

set_option linter.unusedSimpArgs false
set_option linter.unusedVariables false

namespace Sys2Proof.Machine

theorem State.clearPages_within {s : State} {p : Page → Bool} : Within 8589934622 s (s.clearPages p) := by
  unfold State.clearPages
  refine Within.dies (t := { s with
    regs := s.regs.filter (fun e => keepsThrough p e.1)
    totals := s.totals.filter (fun e => keepsThrough p e.1)
    shadows := s.shadows.filter (fun e => keepsThrough p e.2.1)
    lowHalves := s.lowHalves.filter (fun e => keepsThrough p e.2.1) }) ?_ ?_ ?_
  · simp only [List.length_map, List.length_zipIdx]
  · intro j x y hx hy
    rw [List.getElem?_map, List.getElem?_zipIdx] at hy
    have hx : s.dies[j]? = some x := hx
    rw [hx] at hy
    simp only [Option.map_some, Option.some.injEq] at hy
    subst hy
    with_reducible apply DieWithin.mk <;> first | exact fun e => absurd e (by decide) | exact fun _ => rfl | exact fun _ => ⟨rfl, rfl, rfl⟩ | exact fun e => .trans (by simp only [Die.units]) e
  · refine ⟨rfl, rfl, rfl, id, fun c => ⟨c.1, FMap.wf_filter _ c.2.1, FMap.wf_filter _ c.2.2⟩, OtpKept.refl _, ?_⟩
    intro a ha _; cases a <;> first | exact absurd ha (by decide) | (simp only [Area.same, sameRegs, implies_true, and_self]; done)

theorem State.dropLocal_within {s d} : Within 17385390088 s (State.dropLocal s d) := by
  unfold State.dropLocal
  repeat' (first
      | with_reducible intro _
      | with_reducible apply Within.refl
      | with_reducible assumption
      | (with_reducible apply Within.step; apply State.freeUnits_within; decide)
      | (with_reducible apply Within.step; apply State.noteOccupancy_within; decide)
      | (with_reducible apply Within.step; apply State.editionCount_within; decide)
      | (with_reducible apply State.onRouter_step; decide)
      | exact ⟨by simp only [List.length_map, List.length_set, length_modifyAt], by simp only [List.length_map, List.length_set, length_modifyAt]⟩
      | (with_reducible apply Within.step; apply State.count_within; decide)
      | with_reducible apply Within.foldl)

theorem State.dropQueues_within {s d} : Within 171798692744 s (State.dropQueues s d) := by
  unfold State.dropQueues
  repeat' (first
      | with_reducible intro _
      | (simp only [Within.mk_iff]; with_reducible apply WithinMk.put; (repeat' (first | (with_reducible exact OtpKept.refl _) | (with_reducible apply And.intro) | exact Or.inl (by decide) | exact Or.inr rfl | (with_reducible rfl) | (simp only [List.length_map, List.length_set, length_modifyAt]; done))))
      | with_reducible apply Within.refl
      | with_reducible assumption
      | with_reducible apply Within.ite
      | (with_reducible apply Within.step; apply State.removeQueue_within; decide)
      | (with_reducible apply Within.step; apply State.clearRun_within; decide)
      | with_reducible apply Within.foldl)

theorem State.enterComputeReset_within {s d} : Within 541665212319 s (State.enterComputeReset s d) := by
  unfold State.enterComputeReset
  repeat' (first
      | with_reducible intro _
      | (simp only [Within.mk_iff]; with_reducible apply WithinMk.put; (repeat' (first | (with_reducible exact OtpKept.refl _) | (with_reducible apply And.intro) | exact Or.inl (by decide) | exact Or.inr rfl | (with_reducible rfl) | (simp only [List.length_map, List.length_set, length_modifyAt]; done))))
      | (with_reducible apply DieWithin.mk <;> (first | exact fun e => absurd e (by decide) | exact fun _ => rfl | exact fun _ => ⟨rfl, rfl, rfl⟩ | exact fun e => e | exact fun e => .trans (by simp only [Die.units, List.length_map, List.length_set, length_modifyAt]) e))
      | with_reducible apply Within.refl
      | with_reducible assumption
      | (with_reducible apply Within.step; apply State.onExec_within; decide)
      | (with_reducible apply Within.step; apply State.clearPages_within; decide)
      | (with_reducible apply Within.step; apply State.refreshGroups_within; decide)
      | (with_reducible apply Within.step; apply State.abandonCheck_within; decide)
      | (with_reducible apply Within.step; apply State.dropLocal_within; decide)
      | (with_reducible apply Within.step; apply State.closeEarly_within; decide)
      | (with_reducible apply Within.step; apply State.ackDie_within; decide)
      | (with_reducible apply Within.step; apply State.onRun_within; decide)
      | (with_reducible apply Within.step; apply State.dropQueues_within; decide)
      | (with_reducible apply Within.step; apply State.failRun_within; decide)
      | (with_reducible apply Within.step; apply State.removeQp_within; decide)
      | (with_reducible apply Within.step; apply State.retract_within; decide)
      | with_reducible apply Within.foldl
      | with_reducible apply Within.onDie)

theorem State.leaveComputeReset_within {s d} : Within 8870966831 s (State.leaveComputeReset s d) := by
  unfold State.leaveComputeReset
  repeat' (first
      | with_reducible intro _
      | (with_reducible apply DieWithin.mk <;> (first | exact fun e => absurd e (by decide) | exact fun _ => rfl | exact fun _ => ⟨rfl, rfl, rfl⟩ | exact fun e => e | exact fun e => .trans (by simp only [Die.units, List.length_map, List.length_set, length_modifyAt]) e))
      | with_reducible apply Within.refl
      | with_reducible assumption
      | with_reducible apply Within.ite
      | (with_reducible apply Within.step; apply State.runCopy_within; decide)
      | with_reducible apply Within.foldl
      | with_reducible apply Within.onDie)

theorem execDieResetRampDownDone_within {d s} : RWithin 8870966831 s (execDieResetRampDownDone d s) := by
  unfold execDieResetRampDownDone
  repeat' (first
      | with_reducible intro _
      | (with_reducible apply DieWithin.mk <;> (first | exact fun e => absurd e (by decide) | exact fun _ => rfl | exact fun _ => ⟨rfl, rfl, rfl⟩ | exact fun e => e | exact fun e => .trans (by simp only [Die.units, List.length_map, List.length_set, length_modifyAt]) e))
      | with_reducible apply Within.refl
      | with_reducible apply Within.ite
      | with_reducible apply RWithin.atDie
      | (with_reducible apply Within.step; apply State.leaveComputeReset_within; decide)
      | with_reducible apply Within.onDie)

theorem State.retrain_within {s d l} : Within 134217728 s (State.retrain s d l) := by
  unfold State.retrain
  repeat' (first
      | with_reducible intro _
      | with_reducible apply Within.refl
      | with_reducible apply Within.ite
      | (with_reducible apply Within.step; apply State.linkTrain_within; decide))

theorem State.clearForwarding_within {s : State} {d : Nat} : Within 26004689694 s (s.clearForwarding d) := by
  have fold : ∀ (l : List (Nat × Word64)) {m : List (Nat × Word64)}, FMap.wf m = true →
      FMap.wf (l.foldl (fun m (e : Nat × Word64) => FMap.set m e.1 e.2) m) = true := by
    intro l
    induction l with
    | nil => exact fun h => h
    | cons x l ih => exact fun h => ih (FMap.wf_set _ _ h)
  have regs {s t : State} (l : List (Nat × Word64)) (h : Within 26004689694 s t) :
      Within 26004689694 s { t with regs := l.foldl (fun m (e : Nat × Word64) => FMap.set m e.1 e.2) t.regs } := by
    refine Within.step (V := 26004689694) ?_ (by decide) h
    refine ⟨rfl, rfl, rfl, id, fun c => ⟨c.1, fold l c.2.1, c.2.2⟩, OtpKept.refl _, ?_⟩
    intro a ha _; cases a <;> first | exact absurd ha (by decide) | (simp only [Area.same, sameRegs, implies_true, and_self]; done)
  unfold State.clearForwarding
  refine Within.onDie (fun x => ?_) (regs _ ?_)
  · with_reducible apply DieWithin.mk <;> first
      | exact fun e => absurd e (by decide)
      | exact fun _ => rfl
      | exact fun _ => ⟨rfl, rfl, rfl⟩
      | (simp only [Die.units, dieUnits, List.cons.injEq, and_true]; exact fun e => ⟨rfl, rfl, rfl, rfl, e.2.2.2.2.1, rfl, e.2.2.2.2.2.2⟩)
  · with_reducible apply Within.step; (with_reducible apply State.clearPages_within); decide
    with_reducible apply Within.step; (with_reducible apply State.closeEarly_within); decide
    with_reducible apply Within.step; (with_reducible apply State.failReads_within); decide
    exact Within.refl _ _

theorem State.trainPorts_within {s d} : Within 17314086912 s (State.trainPorts s d) := by
  unfold State.trainPorts
  repeat' (first
      | with_reducible intro _
      | (with_reducible apply DieWithin.mk <;> (first | exact fun e => absurd e (by decide) | exact fun _ => rfl | exact fun _ => ⟨rfl, rfl, rfl⟩ | exact fun e => e | exact fun e => .trans (by simp only [Die.units, List.length_map, List.length_set, length_modifyAt]) e))
      | with_reducible apply Within.refl
      | with_reducible assumption
      | with_reducible apply Within.ite
      | (with_reducible apply Within.step; apply State.retrain_within; decide)
      | with_reducible apply Within.foldl
      | with_reducible apply Within.onDie)

theorem State.forwardingReset_within {s d} : Within 26004689694 s (State.forwardingReset s d) := by
  unfold State.forwardingReset
  repeat' (first
      | with_reducible apply Within.refl
      | (with_reducible apply Within.step; apply State.clearForwarding_within; decide)
      | (with_reducible apply Within.step; apply State.trainPorts_within; decide))

theorem execForwardingPlaneReset_within {d s} : RWithin 26004689694 s (execForwardingPlaneReset d s) := by
  unfold execForwardingPlaneReset
  repeat' (first
      | with_reducible apply Within.refl
      | with_reducible apply RWithin.atDie
      | (with_reducible apply Within.step; apply State.forwardingReset_within; decide))

theorem Die.warm_within {b : Bool} {x : Die} : DieWithin 530319409152 x (Die.warm b x) := by
  unfold Die.warm
  with_reducible apply DieWithin.mk <;> first
    | exact fun e => absurd e (by decide)
    | exact fun _ => rfl
    | exact fun _ => ⟨rfl, rfl, rfl⟩
    | (simp only [Die.units, dieUnits, List.cons.injEq, List.length_map, and_true]; exact fun e => ⟨e.1, e.2.1, e.2.2.1, e.2.2.2.1, rfl, e.2.2.2.2.2.1, e.2.2.2.2.2.2⟩)

theorem Spine.restart_within {x phase cold} : SpineWithin 0 x (Spine.restart x phase cold) := by
  unfold Spine.restart
  repeat' (first
      | (simp only [SpineWithin.mk_iff]; first | (with_reducible apply SpineWithin.put) | ((with_reducible apply SpineWithin.put2); (with_reducible exact SpineWithin.refl _ _); (first | (with_reducible rfl) | (simp only [length_modifyAt])); (first | (with_reducible exact OtpKept.refl _) | exact ⟨rfl, rfl, rfl, rfl, rfl, rfl, fun _ h => h, fun _ h => h, Nat.le_max_left _ _, Nat.le_refl _⟩ | exact ⟨rfl, rfl, rfl, rfl, rfl, rfl, fun _ h => h, fun _ h => h, Nat.le_refl _, Nat.le_max_left _ _⟩); (first | exact Or.inl (by decide) | exact Or.inr rfl)))
      | with_reducible apply SpineWithin.refl)

theorem State.warmReset_within {s : State} : Within 547574251518 s s.warmReset := by
  have base {s t : State} (h : Within 547574251518 s t) : Within 547574251518 s
      { part := t.part, pending := t.pending, now := t.now, free := t.free, mem := t.mem, regs := t.regs, totals := t.totals
        shadows := t.shadows, lowHalves := t.lowHalves, dies := t.dies.map (Die.warm t.brakePin)
        fns := t.fns.map (fun _ => ({} : Fn)), rkOwner := t.rkOwner.map (fun _ => 0), brakePin := t.brakePin
        spine := t.spine.restart (if t.board.strapTest || t.board.perst then .held else .rom) false
        board := { i3cAddr := t.board.i3cAddr, strapTest := t.board.strapTest, perst := t.board.perst, link := t.board.link
                   waking := t.board.waking }
        outbox := t.outbox } := by
    refine Within.step (V := 547574251518) ?_ (by decide)
      (Within.mapDies (f := Die.warm t.brakePin) (fun x => ?_) h)
    · refine ⟨rfl, rfl, rfl, fun e => .trans (by simp only [State.units, Spine.restart, List.length_map]) e, fun c => c,
        OtpKept.refl _, ?_⟩
      intro a ha _; cases a <;> first | exact absurd ha (by decide) | (simp only [Area.same, sameRegs, Spine.restart, implies_true, and_self]; done)
    · with_reducible apply DieWithin.step; (with_reducible apply Die.warm_within); decide
      exact DieWithin.refl _ _
  unfold State.warmReset
  refine base ?_
  with_reducible apply Within.step; (with_reducible apply State.clearPages_within); decide
  refine Within.foldl (fun t x h => ?_) (Within.refl _ _)
  with_reducible apply Within.step; (with_reducible apply State.closeEarly_within); decide
  with_reducible apply Within.step; (with_reducible apply State.dropLocal_within); decide
  exact h

theorem State.coldReset_within {s : State} : Within 549755289599 s s.coldReset := by
  unfold State.coldReset
  refine ⟨rfl, rfl, rfl, fun e => ?_, fun _ => ⟨rfl, rfl, rfl⟩, OtpKept.refl _, ?_⟩
  · have e1 : s.dies.length = s.part.dies := by
      have h : (s.dies.map Die.units).length = (List.replicate s.part.dies dieUnits).length :=
        congrArg (fun x : List (List Nat) × Nat × Nat × Nat => x.1.length) e
      simpa only [List.length_map, List.length_replicate] using h
    have whole : ∀ x ∈ s.dies, x.units = dieUnits := by
      intro x hx
      have e' : s.dies.map Die.units = List.replicate s.part.dies dieUnits := congrArg Prod.fst e
      exact (List.mem_replicate.mp (e' ▸ List.mem_map_of_mem hx)).2
    refine .trans ?_ e
    simp only [State.units, Spine.restart, List.length_map, List.map_map, Prod.mk.injEq, and_true]
    refine List.map_congr_left fun x hx => .trans ?_ (whole x hx).symm
    have h := whole x hx
    simp only [Die.units, dieUnits, List.cons.injEq] at h
    simp only [Function.comp_apply, Die.units, List.length_map, h.2.2.2.2.2.2.1]
    rfl
  · intro a ha _; cases a <;> first | exact absurd ha (by decide) | (simp only [Area.same, sameRegs, Spine.restart, implies_true, and_self]; done)

theorem execPerstNAssert_within {s} : RWithin 549755289599 s (execPerstNAssert s) := by
  unfold execPerstNAssert
  repeat' (first
      | with_reducible apply Within.refl
      | with_reducible apply RWithin.next
      | (with_reducible apply Within.step; apply State.coldReset_within; decide))

theorem execRailFault_within {rail s} : RWithin 549755289599 s (execRailFault rail s) := by
  unfold execRailFault
  repeat' (first
      | with_reducible intro _
      | with_reducible apply Within.refl
      | with_reducible apply Within.ite
      | with_reducible apply RWithin.next
      | (with_reducible apply Within.step; apply State.coldReset_within; decide))

theorem State.trainPcie_within {s} : Within 1179648 s (State.trainPcie s) := by
  unfold State.trainPcie
  repeat' (first
      | (simp only [Within.mk_iff]; with_reducible apply WithinMk.put; (repeat' (first | (with_reducible exact OtpKept.refl _) | (with_reducible apply And.intro) | exact Or.inl (by decide) | exact Or.inr rfl | (with_reducible rfl) | (simp only [List.length_map, List.length_set, length_modifyAt]; done))))
      | with_reducible apply Within.refl
      | (with_reducible apply Within.step; apply State.takeFree_within; decide))

theorem State.brakeDies_within {s} : Within 1073745932 s (State.brakeDies s) := by
  unfold State.brakeDies
  repeat' (first
      | with_reducible intro _
      | (with_reducible apply DieWithin.mk <;> (first | exact fun e => absurd e (by decide) | exact fun _ => rfl | exact fun _ => ⟨rfl, rfl, rfl⟩ | exact fun e => e | exact fun e => .trans (by simp only [Die.units, List.length_map, List.length_set, length_modifyAt]) e))
      | with_reducible apply Within.refl
      | with_reducible assumption
      | (with_reducible apply Within.step; apply State.raise_within; decide)
      | (with_reducible apply Within.step; apply State.count_within; decide)
      | with_reducible apply Within.foldl
      | with_reducible apply Within.onDie)

theorem execPerstNDeassert_within {i3cAddr strapTest s} : RWithin 1075187724 s (execPerstNDeassert i3cAddr strapTest s) := by
  unfold execPerstNDeassert
  repeat' (first
      | with_reducible intro _
      | (simp only [Within.mk_iff]; with_reducible apply WithinMk.put; (repeat' (first | (with_reducible exact OtpKept.refl _) | (with_reducible apply And.intro) | exact Or.inl (by decide) | exact Or.inr rfl | (with_reducible rfl) | (simp only [List.length_map, List.length_set, length_modifyAt]; done))))
      | with_reducible apply Within.refl
      | with_reducible apply Within.ite
      | with_reducible apply RWithin.next
      | (with_reducible apply Within.step; apply State.brakeDies_within; decide)
      | (with_reducible apply Within.step; apply State.trainPcie_within; decide))

theorem State.packageWarm_within {s} : Within 547574251518 s (State.packageWarm s) := by
  unfold State.packageWarm
  repeat' (first
      | with_reducible intro _
      | with_reducible apply Within.refl
      | with_reducible apply Within.ite
      | (with_reducible apply Within.step; apply State.trainPcie_within; decide)
      | (with_reducible apply Within.step; apply State.warmReset_within; decide))

end Sys2Proof.Machine
end

