-- ==== Sys2Proof/Laws/Cipher.lean ====
section
/-!
SUPPORT. What each operation of Machine/Cipher.lean can change, as a mask of the areas of Safety.lean: bit n of the mask is the
area that the declaration of `Area` lists as its n-th, from 0.
-/

set_option linter.unusedSimpArgs false
set_option linter.unusedVariables false

namespace Sys2Proof.Machine

theorem cipherFree_within {mode back n s} : Within 131072 s (cipherFree mode back n s).2 := by
  unfold cipherFree
  repeat' (first
      | with_reducible apply Within.refl
      | (with_reducible apply Within.step; apply State.takeFreeBytes_within; decide)
      | dsimp only
      | split)

theorem State.cipherFetch_within {d f a2 a3} : Within 8858383375 a3 (State.cipherFetch d f a2 a3).2.2 := by
  unfold State.cipherFetch
  repeat' (first
      | with_reducible apply Within.refl
      | (with_reducible apply Within.pair; (with_reducible assumption); apply State.read_within; decide)
      | (with_reducible apply Within.step; apply State.cipherFetch_within; decide)
      | dsimp only
      | split)

theorem State.cipherPut_within {d f dst tagAt out tag a6 a7 a8} : Within 268436489 a8 (State.cipherPut d f dst tagAt out tag a6 a7 a8).2 := by
  unfold State.cipherPut
  repeat' (first
      | with_reducible apply Within.refl
      | (with_reducible apply Within.pair; (with_reducible assumption); apply State.write_within; decide)
      | (with_reducible apply Within.step; apply State.cipherPut_within; decide)
      | dsimp only
      | split)

theorem State.cipherWrite_within {s f q i owner} : Within 268437001 s (State.cipherWrite s f q i owner) := by
  unfold State.cipherWrite
  repeat' (first
      | with_reducible intro _
      | with_reducible apply Within.refl
      | with_reducible apply Within.ite
      | (with_reducible apply Within.step; apply State.fault_within; decide)
      | (with_reducible apply Within.pair; (with_reducible assumption); apply State.cipherPut_within; decide)
      | (with_reducible apply Within.step; apply State.onExec_within; decide)
      | (with_reducible apply Within.step; apply State.finish_within; decide)
      | (with_reducible apply Within.step; apply State.count_within; decide)
      | dsimp only
      | split)

theorem State.runCipher_within {s f q i} : Within 8858514959 s (State.runCipher s f q i) := by
  unfold State.runCipher
  repeat' (first
      | with_reducible intro _
      | with_reducible apply Within.refl
      | with_reducible apply Within.ite
      | (with_reducible apply Within.step; apply State.fault_within; decide)
      | (with_reducible apply Within.step; apply cipherFree_within; decide)
      | (with_reducible apply Within.step; apply State.onExec_within; decide)
      | (with_reducible apply Within.step; apply State.finish_within; decide)
      | (with_reducible apply Within.step; apply State.cipherWrite_within; decide)
      | (with_reducible apply Within.pair2; (with_reducible assumption); apply State.cipherFetch_within; decide)
      | dsimp only
      | split)

theorem State.retryCiphers_within {s d f key} : Within 8858514959 s (State.retryCiphers s d f key) := by
  unfold State.retryCiphers
  repeat' (first
      | with_reducible intro _
      | with_reducible apply Within.refl
      | with_reducible assumption
      | (with_reducible apply Within.step; apply State.onExec_within; decide)
      | (with_reducible apply Within.step; apply State.runCipher_within; decide)
      | with_reducible apply Within.foldl)

theorem State.abortCiphers_within {s d f key} : Within 512 s (State.abortCiphers s d f key) := by
  unfold State.abortCiphers
  repeat' (first
      | with_reducible intro _
      | with_reducible apply Within.refl
      | with_reducible assumption
      | (with_reducible apply Within.step; apply State.finish_within; decide)
      | with_reducible apply Within.foldl)

theorem execEntropyHealthFailure_within {d s} : RWithin 283467853838 s (execEntropyHealthFailure d s) := by
  unfold execEntropyHealthFailure
  repeat' (first
      | with_reducible intro _
      | (with_reducible apply DieWithin.mk <;> (first | exact fun e => absurd e (by decide) | exact fun _ => rfl | exact fun _ => ⟨rfl, rfl, rfl⟩ | exact fun e => e | exact fun e => .trans (by simp only [Die.units, List.length_map, List.length_set, length_modifyAt]) e))
      | with_reducible apply Within.refl
      | with_reducible apply Within.ite
      | with_reducible apply RWithin.atDie
      | (with_reducible apply Within.step; apply State.error_within; decide)
      | (with_reducible apply Within.step; apply State.count_within; decide)
      | with_reducible apply Within.onDie)

theorem execEntropyHealthPass_within {d s} : RWithin 274877906952 s (execEntropyHealthPass d s) := by
  unfold execEntropyHealthPass
  repeat' (first
      | with_reducible intro _
      | (with_reducible apply DieWithin.mk <;> (first | exact fun e => absurd e (by decide) | exact fun _ => rfl | exact fun _ => ⟨rfl, rfl, rfl⟩ | exact fun e => e | exact fun e => .trans (by simp only [Die.units, List.length_map, List.length_set, length_modifyAt]) e))
      | with_reducible apply Within.refl
      | with_reducible apply Within.ite
      | with_reducible apply RWithin.atDie
      | (with_reducible apply Within.step; apply State.count_within; decide)
      | with_reducible apply Within.onDie)

theorem execDrbgReseed_within {d s} : RWithin 274877906952 s (execDrbgReseed d s) := by
  unfold execDrbgReseed
  repeat' (first
      | with_reducible intro _
      | (with_reducible apply DieWithin.mk <;> (first | exact fun e => absurd e (by decide) | exact fun _ => rfl | exact fun _ => ⟨rfl, rfl, rfl⟩ | exact fun e => e | exact fun e => .trans (by simp only [Die.units, List.length_map, List.length_set, length_modifyAt]) e))
      | with_reducible apply Within.refl
      | with_reducible apply Within.ite
      | with_reducible apply RWithin.atDie
      | (with_reducible apply Within.step; apply State.count_within; decide)
      | with_reducible apply Within.onDie)

theorem State.putKey_within {s f a2 key kind usage} : Within 16384 s (State.putKey s f a2 key kind usage) := by
  unfold State.putKey
  repeat' (first
      | (simp only [Within.mk_iff]; with_reducible apply WithinMk.put; (repeat' (first | (with_reducible exact OtpKept.refl _) | (with_reducible apply And.intro) | exact Or.inl (by decide) | exact Or.inr rfl | (with_reducible rfl) | (simp only [List.length_map, List.length_set, length_modifyAt]; done))))
      | with_reducible apply Within.refl)

theorem State.loadResult_within {s f a2} : Within 8858399759 s (State.loadResult s f a2).2.2 := by
  unfold State.loadResult
  repeat' (first
      | with_reducible apply Within.refl
      | (with_reducible apply Within.step; apply State.putKey_within; decide)
      | (with_reducible apply Within.pair; (with_reducible assumption); apply State.read_within; decide)
      | dsimp only
      | split)

theorem State.keyEnd_within {s f a2 result} : Within 4102 s (State.keyEnd s f a2 result) := by
  unfold State.keyEnd
  repeat' (first
      | with_reducible apply Within.refl
      | (with_reducible apply Within.step; (with_reducible apply State.setReg_own); (first | decide | omega); (first | decide | omega); decide)
      | (with_reducible apply Within.step; apply State.raise_within; decide))

theorem execKeyLoad_within {f value s} : RWithin 8862594063 s (execKeyLoad f value s) := by
  unfold execKeyLoad
  repeat' (first
      | with_reducible intro _
      | with_reducible apply Within.refl
      | with_reducible apply Within.ite
      | with_reducible apply RWithin.atFn
      | (with_reducible apply Within.step; apply State.keyEnd_within; decide)
      | (with_reducible apply State.fromFn_step; decide)
      | (with_reducible apply State.guarded_step; decide)
      | (with_reducible apply Within.step; apply State.loadResult_within; decide)
      | (with_reducible apply Within.step; apply State.count_within; decide))

theorem execKeyErase_within {f value s} : RWithin 8594157582 s (execKeyErase f value s) := by
  unfold execKeyErase
  repeat' (first
      | with_reducible intro _
      | (simp only [Within.mk_iff]; with_reducible apply WithinMk.put; (repeat' (first | (with_reducible exact OtpKept.refl _) | (with_reducible apply And.intro) | exact Or.inl (by decide) | exact Or.inr rfl | (with_reducible rfl) | (simp only [List.length_map, List.length_set, length_modifyAt]; done))))
      | with_reducible apply Within.refl
      | with_reducible apply Within.ite
      | with_reducible apply RWithin.atFn
      | (with_reducible apply Within.step; apply State.keyEnd_within; decide)
      | (with_reducible apply State.fromFn_step; decide)
      | (with_reducible apply State.guarded_step; decide))

end Sys2Proof.Machine
end

