-- ==== Sys2Proof/Laws/Spine.lean ====
section
/-!
SUPPORT. What each operation of Machine/Spine.lean can change, as a mask of the areas of Safety.lean: bit n of the mask is the
area that the declaration of `Area` lists as its n-th, from 0.
-/

set_option linter.unusedSimpArgs false
set_option linter.unusedVariables false

namespace Sys2Proof.Machine

theorem Spine.onSlot_within {x k f} : SpineWithin 0 x (Spine.onSlot x k f) := by
  unfold Spine.onSlot
  repeat' (first
      | (simp only [SpineWithin.mk_iff]; first | (with_reducible apply SpineWithin.put) | ((with_reducible apply SpineWithin.put2); (with_reducible exact SpineWithin.refl _ _); (first | (with_reducible rfl) | (simp only [length_modifyAt])); (first | (with_reducible exact OtpKept.refl _) | exact ⟨rfl, rfl, rfl, rfl, rfl, rfl, fun _ h => h, fun _ h => h, Nat.le_max_left _ _, Nat.le_refl _⟩ | exact ⟨rfl, rfl, rfl, rfl, rfl, rfl, fun _ h => h, fun _ h => h, Nat.le_refl _, Nat.le_max_left _ _⟩); (first | exact Or.inl (by decide) | exact Or.inr rfl))))

theorem Spine.eraseSlot_within {x k} : SpineWithin 0 x (Spine.eraseSlot x k) := by
  unfold Spine.eraseSlot
  repeat' (first
      | with_reducible apply SpineWithin.refl
      | (with_reducible apply SpineWithin.step; apply Spine.onSlot_within; decide))

theorem Spine.takeSection_within {x} : SpineWithin 0 x (Spine.takeSection x) := by
  unfold Spine.takeSection
  repeat' (first
      | with_reducible intro _
      | (simp only [SpineWithin.mk_iff]; first | (with_reducible apply SpineWithin.put) | ((with_reducible apply SpineWithin.put2); (with_reducible exact SpineWithin.refl _ _); (first | (with_reducible rfl) | (simp only [length_modifyAt])); (first | (with_reducible exact OtpKept.refl _) | exact ⟨rfl, rfl, rfl, rfl, rfl, rfl, fun _ h => h, fun _ h => h, Nat.le_max_left _ _, Nat.le_refl _⟩ | exact ⟨rfl, rfl, rfl, rfl, rfl, rfl, fun _ h => h, fun _ h => h, Nat.le_refl _, Nat.le_max_left _ _⟩); (first | exact Or.inl (by decide) | exact Or.inr rfl)))
      | with_reducible apply SpineWithin.refl
      | with_reducible apply SpineWithin.ite)

theorem execBootRomStart_within {s} : RWithin 8650752 s (execBootRomStart s) := by
  unfold execBootRomStart
  repeat' (first
      | with_reducible intro _
      | (simp only [SpineWithin.mk_iff]; first | (with_reducible apply SpineWithin.put) | ((with_reducible apply SpineWithin.put2); (with_reducible exact SpineWithin.refl _ _); (first | (with_reducible rfl) | (simp only [length_modifyAt])); (first | (with_reducible exact OtpKept.refl _) | exact ⟨rfl, rfl, rfl, rfl, rfl, rfl, fun _ h => h, fun _ h => h, Nat.le_max_left _ _, Nat.le_refl _⟩ | exact ⟨rfl, rfl, rfl, rfl, rfl, rfl, fun _ h => h, fun _ h => h, Nat.le_refl _, Nat.le_max_left _ _⟩); (first | exact Or.inl (by decide) | exact Or.inr rfl)))
      | (with_reducible apply DieWithin.mk <;> (first | exact fun e => absurd e (by decide) | exact fun _ => rfl | exact fun _ => ⟨rfl, rfl, rfl⟩ | exact fun e => e | exact fun e => .trans (by simp only [Die.units, List.length_map, List.length_set, length_modifyAt]) e))
      | with_reducible apply Within.refl
      | with_reducible assumption
      | with_reducible apply Within.ite
      | with_reducible apply SpineWithin.refl
      | with_reducible apply RWithin.next
      | (with_reducible apply State.onSpine_step; decide)
      | with_reducible apply Within.foldl
      | with_reducible apply Within.onDie)

theorem State.openPf_within {s} : Within 249528565679 s (State.openPf s) := by
  unfold State.openPf
  repeat' (first
      | with_reducible intro _
      | (simp only [Within.mk_iff]; with_reducible apply WithinMk.put; (repeat' (first | (with_reducible exact OtpKept.refl _) | (with_reducible apply And.intro) | exact Or.inl (by decide) | exact Or.inr rfl | (with_reducible rfl) | (simp only [List.length_map, List.length_set, length_modifyAt]; done))))
      | (simp only [SpineWithin.mk_iff]; first | (with_reducible apply SpineWithin.put) | ((with_reducible apply SpineWithin.put2); (with_reducible exact SpineWithin.refl _ _); (first | (with_reducible rfl) | (simp only [length_modifyAt])); (first | (with_reducible exact OtpKept.refl _) | exact ⟨rfl, rfl, rfl, rfl, rfl, rfl, fun _ h => h, fun _ h => h, Nat.le_max_left _ _, Nat.le_refl _⟩ | exact ⟨rfl, rfl, rfl, rfl, rfl, rfl, fun _ h => h, fun _ h => h, Nat.le_refl _, Nat.le_max_left _ _⟩); (first | exact Or.inl (by decide) | exact Or.inr rfl)))
      | with_reducible apply Within.refl
      | (with_reducible apply State.onSpine_step; decide)
      | (with_reducible apply Within.step; apply State.reachOpen_within; decide)
      | (with_reducible apply Within.onFn; decide))

theorem State.failQuire_within {s} : Within 249536954287 s (State.failQuire s) := by
  unfold State.failQuire
  repeat' (first
      | with_reducible intro _
      | (simp only [SpineWithin.mk_iff]; first | (with_reducible apply SpineWithin.put) | ((with_reducible apply SpineWithin.put2); (with_reducible exact SpineWithin.refl _ _); (first | (with_reducible rfl) | (simp only [length_modifyAt])); (first | (with_reducible exact OtpKept.refl _) | exact ⟨rfl, rfl, rfl, rfl, rfl, rfl, fun _ h => h, fun _ h => h, Nat.le_max_left _ _, Nat.le_refl _⟩ | exact ⟨rfl, rfl, rfl, rfl, rfl, rfl, fun _ h => h, fun _ h => h, Nat.le_refl _, Nat.le_max_left _ _⟩); (first | exact Or.inl (by decide) | exact Or.inr rfl)))
      | (with_reducible apply DieWithin.mk <;> (first | exact fun e => absurd e (by decide) | exact fun _ => rfl | exact fun _ => ⟨rfl, rfl, rfl⟩ | exact fun e => e | exact fun e => .trans (by simp only [Die.units, List.length_map, List.length_set, length_modifyAt]) e))
      | with_reducible apply Within.refl
      | with_reducible assumption
      | with_reducible apply SpineWithin.refl
      | (with_reducible apply Within.step; apply State.openPf_within; decide)
      | (with_reducible apply State.onSpine_step; decide)
      | with_reducible apply Within.foldl
      | with_reducible apply Within.onDie)

theorem State.loadSlot_within {s k} : Within 262144 s (State.loadSlot s k) := by
  unfold State.loadSlot
  repeat' (first
      | with_reducible intro _
      | (simp only [SpineWithin.mk_iff]; first | (with_reducible apply SpineWithin.put) | ((with_reducible apply SpineWithin.put2); (with_reducible exact SpineWithin.refl _ _); (first | (with_reducible rfl) | (simp only [length_modifyAt])); (first | (with_reducible exact OtpKept.refl _) | exact ⟨rfl, rfl, rfl, rfl, rfl, rfl, fun _ h => h, fun _ h => h, Nat.le_max_left _ _, Nat.le_refl _⟩ | exact ⟨rfl, rfl, rfl, rfl, rfl, rfl, fun _ h => h, fun _ h => h, Nat.le_refl _, Nat.le_max_left _ _⟩); (first | exact Or.inl (by decide) | exact Or.inr rfl)))
      | with_reducible apply Within.refl
      | with_reducible apply SpineWithin.refl
      | with_reducible apply SpineWithin.ite
      | (with_reducible apply State.onSpine_step; decide)
      | (with_reducible apply SpineWithin.step; apply Spine.onSlot_within; decide))

theorem State.loadActive_within {s} : Within 249536954287 s (State.loadActive s) := by
  unfold State.loadActive
  repeat' (first
      | with_reducible intro _
      | with_reducible apply Within.refl
      | with_reducible apply Within.ite
      | (with_reducible apply Within.step; apply State.loadSlot_within; decide)
      | (with_reducible apply Within.step; apply State.failQuire_within; decide)
      | split)

theorem State.chooseQuire_within {s} : Within 249536954287 s (State.chooseQuire s) := by
  unfold State.chooseQuire
  repeat' (first
      | with_reducible intro _
      | with_reducible apply Within.refl
      | with_reducible apply Within.ite
      | with_reducible apply SpineWithin.refl
      | (with_reducible apply State.onSpine_step; decide)
      | (with_reducible apply Within.step; apply State.loadActive_within; decide)
      | (with_reducible apply Within.step; apply State.loadSlot_within; decide)
      | (with_reducible apply SpineWithin.step; apply Spine.onSlot_within; decide)
      | split)

theorem State.drawKey_within {s d} : Within 137439084544 s (State.drawKey s d) := by
  unfold State.drawKey
  repeat' (first
      | with_reducible apply Within.refl
      | (with_reducible apply Within.step; apply State.takeFreeBytes_within; decide)
      | (with_reducible apply Within.step; apply State.onInteg_within; decide))

theorem execSpineStart_within {s} : RWithin 524414861231 s (execSpineStart s) := by
  unfold execSpineStart
  repeat' (first
      | with_reducible intro _
      | (with_reducible apply DieWithin.mk <;> (first | exact fun e => absurd e (by decide) | exact fun _ => rfl | exact fun _ => ⟨rfl, rfl, rfl⟩ | exact fun e => e | exact fun e => .trans (by simp only [Die.units, List.length_map, List.length_set, length_modifyAt]) e))
      | with_reducible apply Within.refl
      | with_reducible assumption
      | with_reducible apply Within.ite
      | with_reducible apply RWithin.next
      | (with_reducible apply Within.step; apply State.drawKey_within; decide)
      | (with_reducible apply Within.step; apply State.chooseQuire_within; decide)
      | (with_reducible apply Within.step; apply State.retrain_within; decide)
      | with_reducible apply Within.foldl
      | with_reducible apply Within.onDie)

theorem State.quireStart_within {s d} : Within 17850957826 s (State.quireStart s d) := by
  unfold State.quireStart
  repeat' (first
      | with_reducible intro _
      | (with_reducible apply DieWithin.mk <;> (first | exact fun e => absurd e (by decide) | exact fun _ => rfl | exact fun _ => ⟨rfl, rfl, rfl⟩ | exact fun e => e | exact fun e => .trans (by simp only [Die.units, List.length_map, List.length_set, length_modifyAt]) e))
      | with_reducible apply Within.refl
      | with_reducible assumption
      | with_reducible apply Within.ite
      | (with_reducible apply Within.step; apply State.retrain_within; decide)
      | with_reducible apply Within.foldl_mem
      | (with_reducible apply Within.step; (with_reducible apply State.setReg_own); (simp only [List.mem_range] at *; omega); (simp only [List.mem_range] at *; omega); decide)
      | with_reducible apply Within.onDie)

theorem execQuireReady_within {d s} : RWithin 267245305775 s (execQuireReady d s) := by
  unfold execQuireReady
  repeat' (first
      | with_reducible intro _
      | (simp only [SpineWithin.mk_iff]; first | (with_reducible apply SpineWithin.put) | ((with_reducible apply SpineWithin.put2); (with_reducible exact SpineWithin.refl _ _); (first | (with_reducible rfl) | (simp only [length_modifyAt])); (first | (with_reducible exact OtpKept.refl _) | exact ⟨rfl, rfl, rfl, rfl, rfl, rfl, fun _ h => h, fun _ h => h, Nat.le_max_left _ _, Nat.le_refl _⟩ | exact ⟨rfl, rfl, rfl, rfl, rfl, rfl, fun _ h => h, fun _ h => h, Nat.le_refl _, Nat.le_max_left _ _⟩); (first | exact Or.inl (by decide) | exact Or.inr rfl)))
      | with_reducible apply Within.refl
      | with_reducible apply Within.ite
      | with_reducible apply SpineWithin.refl
      | with_reducible apply RWithin.atDie
      | (with_reducible apply Within.step; apply State.openPf_within; decide)
      | (with_reducible apply State.onSpine_step; decide)
      | (with_reducible apply SpineWithin.step; apply Spine.takeSection_within; decide)
      | (with_reducible apply Within.step; apply State.quireStart_within; decide))

theorem execQuireReadyTimeout_within {s} : RWithin 249536954287 s (execQuireReadyTimeout s) := by
  unfold execQuireReadyTimeout
  repeat' (first
      | with_reducible intro _
      | with_reducible apply Within.refl
      | with_reducible apply Within.ite
      | with_reducible apply SpineWithin.refl
      | with_reducible apply RWithin.next
      | (with_reducible apply State.onSpine_step; decide)
      | (with_reducible apply Within.step; apply State.loadActive_within; decide)
      | (with_reducible apply Within.step; apply State.failQuire_within; decide)
      | (with_reducible apply SpineWithin.step; apply Spine.onSlot_within; decide))

theorem execQuireHeartbeat_within {d s} : RWithin 262144 s (execQuireHeartbeat d s) := by
  unfold execQuireHeartbeat
  repeat' (first
      | with_reducible intro _
      | (simp only [SpineWithin.mk_iff]; first | (with_reducible apply SpineWithin.put) | ((with_reducible apply SpineWithin.put2); (with_reducible exact SpineWithin.refl _ _); (first | (with_reducible rfl) | (simp only [length_modifyAt])); (first | (with_reducible exact OtpKept.refl _) | exact ⟨rfl, rfl, rfl, rfl, rfl, rfl, fun _ h => h, fun _ h => h, Nat.le_max_left _ _, Nat.le_refl _⟩ | exact ⟨rfl, rfl, rfl, rfl, rfl, rfl, fun _ h => h, fun _ h => h, Nat.le_refl _, Nat.le_max_left _ _⟩); (first | exact Or.inl (by decide) | exact Or.inr rfl)))
      | with_reducible apply Within.refl
      | with_reducible apply SpineWithin.refl
      | with_reducible apply RWithin.atDie
      | (with_reducible apply State.onSpine_step; decide))

theorem execHeartbeatMiss_within {d s} : RWithin 262152 s (execHeartbeatMiss d s) := by
  unfold execHeartbeatMiss
  repeat' (first
      | with_reducible intro _
      | (simp only [SpineWithin.mk_iff]; first | (with_reducible apply SpineWithin.put) | ((with_reducible apply SpineWithin.put2); (with_reducible exact SpineWithin.refl _ _); (first | (with_reducible rfl) | (simp only [length_modifyAt])); (first | (with_reducible exact OtpKept.refl _) | exact ⟨rfl, rfl, rfl, rfl, rfl, rfl, fun _ h => h, fun _ h => h, Nat.le_max_left _ _, Nat.le_refl _⟩ | exact ⟨rfl, rfl, rfl, rfl, rfl, rfl, fun _ h => h, fun _ h => h, Nat.le_refl _, Nat.le_max_left _ _⟩); (first | exact Or.inl (by decide) | exact Or.inr rfl)))
      | with_reducible apply Within.refl
      | with_reducible apply Within.ite
      | with_reducible apply SpineWithin.refl
      | with_reducible apply RWithin.atDie
      | (with_reducible apply State.onSpine_step; decide)
      | (with_reducible apply Within.step; apply State.count_within; decide))

theorem execWatchdogExpiry_within {s} : RWithin 547574251518 s (execWatchdogExpiry s) := by
  unfold execWatchdogExpiry
  repeat' (first
      | with_reducible intro _
      | with_reducible apply Within.refl
      | with_reducible apply Within.ite
      | with_reducible apply RWithin.next
      | (with_reducible apply Within.step; apply State.count_within; decide)
      | (with_reducible apply Within.step; apply State.packageWarm_within; decide))

theorem execStateChecksum_within {same s} : RWithin 547574251518 s (execStateChecksum same s) := by
  unfold execStateChecksum
  repeat' (first
      | with_reducible intro _
      | with_reducible apply Within.refl
      | with_reducible apply Within.ite
      | with_reducible apply RWithin.next
      | (with_reducible apply Within.step; apply State.count_within; decide)
      | (with_reducible apply Within.step; apply State.packageWarm_within; decide))

theorem execSpineEccError_within {corrected s} : RWithin 547574251518 s (execSpineEccError corrected s) := by
  unfold execSpineEccError
  repeat' (first
      | with_reducible intro _
      | with_reducible apply Within.refl
      | with_reducible apply Within.ite
      | with_reducible apply RWithin.next
      | (with_reducible apply Within.step; apply State.count_within; decide)
      | (with_reducible apply Within.step; apply State.packageWarm_within; decide))

theorem State.serviceSend_within {s kind code session sequence payload} : Within 4194304 s (State.serviceSend s kind code session sequence payload) := by
  unfold State.serviceSend
  repeat' (first
      | with_reducible apply Within.refl
      | (with_reducible apply Within.step; apply State.emit_within; decide))

theorem State.served_step {W s t u r} (hW : 4194304 &&& W = 4194304)
    (hr : Within W s r) (h : Within W s t) :
    Within W s (State.served t u r) := by
  unfold State.served
  repeat' (first
      | with_reducible intro _
      | with_reducible assumption
      | with_reducible apply Within.ite
      | (with_reducible apply Within.step; (with_reducible apply State.serviceSend_within); exact and_trans (by decide) hW))

theorem execOffer_within {session header s} : RWithin 4456448 s (execOffer session header s) := by
  unfold execOffer
  repeat' (first
      | with_reducible intro _
      | (simp only [SpineWithin.mk_iff]; first | (with_reducible apply SpineWithin.put) | ((with_reducible apply SpineWithin.put2); (with_reducible exact SpineWithin.refl _ _); (first | (with_reducible rfl) | (simp only [length_modifyAt])); (first | (with_reducible exact OtpKept.refl _) | exact ⟨rfl, rfl, rfl, rfl, rfl, rfl, fun _ h => h, fun _ h => h, Nat.le_max_left _ _, Nat.le_refl _⟩ | exact ⟨rfl, rfl, rfl, rfl, rfl, rfl, fun _ h => h, fun _ h => h, Nat.le_refl _, Nat.le_max_left _ _⟩); (first | exact Or.inl (by decide) | exact Or.inr rfl)))
      | with_reducible apply Within.refl
      | with_reducible apply Within.ite
      | with_reducible apply SpineWithin.refl
      | with_reducible apply SpineWithin.ite
      | with_reducible apply RWithin.next
      | (with_reducible apply State.onSpine_step; decide)
      | (with_reducible apply SpineWithin.step; apply Spine.eraseSlot_within; decide)
      | (with_reducible apply Within.step; apply State.serviceSend_within; decide)
      | (with_reducible apply State.served_step; decide))

theorem Spine.deliver_within {x : Spine} {v : Delivery} {b : Bool} : SpineWithin 0 x (x.deliver v b).2 := by
  unfold Spine.deliver
  repeat' (first
      | with_reducible apply SpineWithin.refl
      | (with_reducible apply SpineWithin.step; apply Spine.onSlot_within; decide)
      | (simp only [SpineWithin.mk_iff]; first | (with_reducible apply SpineWithin.put) | ((with_reducible apply SpineWithin.put2); (with_reducible exact SpineWithin.refl _ _); (first | (with_reducible rfl) | (simp only [length_modifyAt])); (first | (with_reducible exact OtpKept.refl _) | exact ⟨rfl, rfl, rfl, rfl, rfl, rfl, fun _ h => h, fun _ h => h, Nat.le_max_left _ _, Nat.le_refl _⟩ | exact ⟨rfl, rfl, rfl, rfl, rfl, rfl, fun _ h => h, fun _ h => h, Nat.le_refl _, Nat.le_max_left _ _⟩); (first | exact Or.inl (by decide) | exact Or.inr rfl)))
      | dsimp only
      | split)

theorem execBlock_within {session sequence payload flashOk s} : RWithin 4456448 s (execBlock session sequence payload flashOk s) := by
  unfold execBlock
  repeat' (first
      | with_reducible intro _
      | (simp only [SpineWithin.mk_iff]; first | (with_reducible apply SpineWithin.put) | ((with_reducible apply SpineWithin.put2); (with_reducible exact SpineWithin.refl _ _); (first | (with_reducible rfl) | (simp only [length_modifyAt])); (first | (with_reducible exact OtpKept.refl _) | exact ⟨rfl, rfl, rfl, rfl, rfl, rfl, fun _ h => h, fun _ h => h, Nat.le_max_left _ _, Nat.le_refl _⟩ | exact ⟨rfl, rfl, rfl, rfl, rfl, rfl, fun _ h => h, fun _ h => h, Nat.le_refl _, Nat.le_max_left _ _⟩); (first | exact Or.inl (by decide) | exact Or.inr rfl)))
      | with_reducible apply Within.refl
      | with_reducible apply Within.ite
      | with_reducible apply SpineWithin.refl
      | with_reducible apply RWithin.next
      | (with_reducible apply State.onSpine_at; decide)
      | (with_reducible apply Within.step; apply State.serviceSend_within; decide)
      | (with_reducible apply State.served_step; decide)
      | (with_reducible apply SpineWithin.step; apply Spine.deliver_within; decide)
      | dsimp only
      | split)

theorem execStatusRequest_within {session s} : RWithin 4194304 s (execStatusRequest session s) := by
  unfold execStatusRequest
  repeat' (first
      | with_reducible apply Within.refl
      | with_reducible apply RWithin.next
      | (with_reducible apply Within.step; apply State.serviceSend_within; decide)
      | (with_reducible apply State.served_step; decide))

theorem execDeliveryAbort_within {session s} : RWithin 4456448 s (execDeliveryAbort session s) := by
  unfold execDeliveryAbort
  repeat' (first
      | with_reducible intro _
      | (simp only [SpineWithin.mk_iff]; first | (with_reducible apply SpineWithin.put) | ((with_reducible apply SpineWithin.put2); (with_reducible exact SpineWithin.refl _ _); (first | (with_reducible rfl) | (simp only [length_modifyAt])); (first | (with_reducible exact OtpKept.refl _) | exact ⟨rfl, rfl, rfl, rfl, rfl, rfl, fun _ h => h, fun _ h => h, Nat.le_max_left _ _, Nat.le_refl _⟩ | exact ⟨rfl, rfl, rfl, rfl, rfl, rfl, fun _ h => h, fun _ h => h, Nat.le_refl _, Nat.le_max_left _ _⟩); (first | exact Or.inl (by decide) | exact Or.inr rfl)))
      | with_reducible apply Within.refl
      | with_reducible apply Within.ite
      | with_reducible apply SpineWithin.refl
      | with_reducible apply RWithin.next
      | (with_reducible apply State.onSpine_step; decide)
      | (with_reducible apply State.served_step; decide))

theorem execSessionTimeout_within {s} : RWithin 262144 s (execSessionTimeout s) := by
  unfold execSessionTimeout
  repeat' (first
      | with_reducible intro _
      | (simp only [SpineWithin.mk_iff]; first | (with_reducible apply SpineWithin.put) | ((with_reducible apply SpineWithin.put2); (with_reducible exact SpineWithin.refl _ _); (first | (with_reducible rfl) | (simp only [length_modifyAt])); (first | (with_reducible exact OtpKept.refl _) | exact ⟨rfl, rfl, rfl, rfl, rfl, rfl, fun _ h => h, fun _ h => h, Nat.le_max_left _ _, Nat.le_refl _⟩ | exact ⟨rfl, rfl, rfl, rfl, rfl, rfl, fun _ h => h, fun _ h => h, Nat.le_refl _, Nat.le_max_left _ _⟩); (first | exact Or.inl (by decide) | exact Or.inr rfl)))
      | with_reducible apply Within.refl
      | with_reducible apply SpineWithin.refl
      | with_reducible apply RWithin.next
      | (with_reducible apply State.onSpine_step; decide))

end Sys2Proof.Machine
end

