-- ==== Sys2Proof/Laws/Attest.lean ====
section
/-!
SUPPORT. What each operation of Machine/Attest.lean can change, as a mask of the areas of Safety.lean: bit n of the mask is the
area that the declaration of `Area` lists as its n-th, from 0.
-/

set_option linter.unusedSimpArgs false
set_option linter.unusedVariables false

namespace Sys2Proof.Machine

theorem State.identitySign_within {s digest} : Within 131072 s (State.identitySign s digest).2 := by
  unfold State.identitySign
  repeat' (first
      | with_reducible apply Within.refl
      | (with_reducible apply Within.step; apply State.takeFreeBytes_within; decide))

theorem State.onDoe_step {W s t r} (hW : 0 &&& W = 0)
    (hr : Within W s r) (h : Within W s t) :
    Within W s (State.onDoe t r) := by
  unfold State.onDoe
  repeat' (first
      | with_reducible intro _
      | with_reducible assumption
      | with_reducible apply Within.ite)

theorem execDoeDiscovery_within {index s} : RWithin 4194304 s (execDoeDiscovery index s) := by
  unfold execDoeDiscovery
  repeat' (first
      | with_reducible apply Within.refl
      | with_reducible apply RWithin.next
      | (with_reducible apply State.onDoe_step; decide)
      | (with_reducible apply Within.step; apply State.emit_within; decide))

theorem execDoeUnsupportedObject_within {vendor objType dwords s} : RWithin 1048576 s (execDoeUnsupportedObject vendor objType dwords s) := by
  unfold execDoeUnsupportedObject
  repeat' (first
      | with_reducible intro _
      | (simp only [Within.mk_iff]; with_reducible apply WithinMk.put; (repeat' (first | (with_reducible exact OtpKept.refl _) | (with_reducible apply And.intro) | exact Or.inl (by decide) | exact Or.inr rfl | (with_reducible rfl) | (simp only [List.length_map, List.length_set, length_modifyAt]; done))))
      | with_reducible apply Within.refl
      | with_reducible apply Within.ite
      | with_reducible apply RWithin.next
      | (with_reducible apply State.onDoe_step; decide))

theorem execDoeAbort_within {s} : RWithin 1048576 s (execDoeAbort s) := by
  unfold execDoeAbort
  repeat' (first
      | (simp only [Within.mk_iff]; with_reducible apply WithinMk.put; (repeat' (first | (with_reducible exact OtpKept.refl _) | (with_reducible apply And.intro) | exact Or.inl (by decide) | exact Or.inr rfl | (with_reducible rfl) | (simp only [List.length_map, List.length_set, length_modifyAt]; done))))
      | with_reducible apply Within.refl
      | with_reducible apply RWithin.next
      | (with_reducible apply State.onDoe_step; decide))

theorem State.spdm_within {s r} : Within 4194304 s (State.spdm s r) := by
  unfold State.spdm
  repeat' (first
      | with_reducible apply Within.refl
      | (with_reducible apply State.onDoe_step; decide)
      | (with_reducible apply Within.step; apply State.emit_within; decide))

theorem execGetVersion_within {s} : RWithin 5242880 s (execGetVersion s) := by
  unfold execGetVersion
  repeat' (first
      | (simp only [Within.mk_iff]; with_reducible apply WithinMk.put; (repeat' (first | (with_reducible exact OtpKept.refl _) | (with_reducible apply And.intro) | exact Or.inl (by decide) | exact Or.inr rfl | (with_reducible rfl) | (simp only [List.length_map, List.length_set, length_modifyAt]; done))))
      | with_reducible apply Within.refl
      | with_reducible apply RWithin.next
      | (with_reducible apply Within.step; apply State.spdm_within; decide)
      | (with_reducible apply State.onDoe_step; decide))

theorem execGetCapabilities_within {s} : RWithin 4194304 s (execGetCapabilities s) := by
  unfold execGetCapabilities
  repeat' (first
      | with_reducible apply Within.refl
      | with_reducible apply RWithin.next
      | (with_reducible apply Within.step; apply State.spdm_within; decide))

theorem execNegotiateAlgorithms_within {sha extAsym s} : RWithin 5242880 s (execNegotiateAlgorithms sha extAsym s) := by
  unfold execNegotiateAlgorithms
  repeat' (first
      | (simp only [Within.mk_iff]; with_reducible apply WithinMk.put; (repeat' (first | (with_reducible exact OtpKept.refl _) | (with_reducible apply And.intro) | exact Or.inl (by decide) | exact Or.inr rfl | (with_reducible rfl) | (simp only [List.length_map, List.length_set, length_modifyAt]; done))))
      | with_reducible apply Within.refl
      | with_reducible apply RWithin.next
      | (with_reducible apply Within.step; apply State.spdm_within; decide)
      | (with_reducible apply State.onDoe_step; decide))

theorem execGetDigests_within {s} : RWithin 4194304 s (execGetDigests s) := by
  unfold execGetDigests
  repeat' (first
      | with_reducible apply Within.refl
      | with_reducible apply RWithin.next
      | (with_reducible apply Within.step; apply State.spdm_within; decide))

theorem execGetCertificate_within {slot offset length s} : RWithin 4194304 s (execGetCertificate slot offset length s) := by
  unfold execGetCertificate
  repeat' (first
      | with_reducible apply Within.refl
      | with_reducible apply RWithin.next
      | (with_reducible apply Within.step; apply State.spdm_within; decide))

theorem State.signTranscript_within {s} : Within 131072 s (State.signTranscript s).2 := by
  unfold State.signTranscript
  repeat' (first
      | with_reducible apply Within.refl
      | (with_reducible apply Within.step; apply State.identitySign_within; decide)
      | (with_reducible apply Within.step; apply State.takeFreeBytes_within; decide))

theorem execChallenge_within {slot _nonce s} : RWithin 4325376 s (execChallenge slot _nonce s) := by
  unfold execChallenge
  repeat' (first
      | with_reducible intro _
      | with_reducible apply Within.refl
      | with_reducible apply Within.ite
      | with_reducible apply RWithin.next
      | (with_reducible apply Within.step; apply State.signTranscript_within; decide)
      | (with_reducible apply Within.step; apply State.spdm_within; decide)
      | (with_reducible apply Within.step; apply State.takeFreeBytes_within; decide)
      | (with_reducible apply State.onDoe_step; decide))

theorem execGetMeasurements_within {index signed _nonce s} : RWithin 4325376 s (execGetMeasurements index signed _nonce s) := by
  unfold execGetMeasurements
  repeat' (first
      | with_reducible intro _
      | with_reducible apply Within.refl
      | with_reducible apply Within.ite
      | with_reducible apply RWithin.next
      | (with_reducible apply Within.step; apply State.signTranscript_within; decide)
      | (with_reducible apply Within.step; apply State.spdm_within; decide)
      | (with_reducible apply Within.step; apply State.takeFreeBytes_within; decide)
      | (with_reducible apply State.onDoe_step; decide))

theorem execSpdmUnsupportedRequest_within {_code s} : RWithin 4194304 s (execSpdmUnsupportedRequest _code s) := by
  unfold execSpdmUnsupportedRequest
  repeat' (first
      | with_reducible apply Within.refl
      | with_reducible apply RWithin.next
      | (with_reducible apply Within.step; apply State.spdm_within; decide))

theorem State.attestReport_within {s nonce} : Within 131072 s (State.attestReport s nonce).2 := by
  unfold State.attestReport
  repeat' (first
      | with_reducible apply Within.refl
      | (with_reducible apply Within.step; apply State.identitySign_within; decide))

end Sys2Proof.Machine
end

