-- ==== Sys2Proof/Laws/Colophon.lean ====
section
/-!
SUPPORT. What each operation of Machine/Colophon.lean can change, as a mask of the areas of Safety.lean: bit n of the mask is the
area that the declaration of `Area` lists as its n-th, from 0.
-/

set_option linter.unusedSimpArgs false
set_option linter.unusedVariables false

namespace Sys2Proof.Machine

theorem execCapCmdGo_within {d s} : RWithin 8594141198 s (execCapCmdGo d s) := by
  unfold execCapCmdGo
  repeat' (first
      | with_reducible apply Within.refl
      | with_reducible apply RWithin.atDie
      | (with_reducible apply Within.step; apply State.trigger_within; decide)
      | (with_reducible apply State.fromFn_step; decide)
      | (with_reducible apply State.guarded_step; decide))

theorem State.fireDue_within {s d} : Within 8589942794 s (State.fireDue s d) := by
  unfold State.fireDue
  repeat' (first
      | with_reducible intro _
      | with_reducible apply Within.refl
      | with_reducible apply Within.ite
      | (with_reducible apply Within.step; (with_reducible apply State.setReg_own); (first | decide | omega); (first | decide | omega); decide)
      | (with_reducible apply Within.step; apply State.trigger_within; decide))

theorem execCapTimeMatch_within {d s} : RWithin 8589942794 s (execCapTimeMatch d s) := by
  unfold execCapTimeMatch
  repeat' (first
      | with_reducible apply Within.refl
      | with_reducible apply RWithin.atDie
      | (with_reducible apply Within.step; apply State.fireDue_within; decide))

theorem execColophonIn_within {s} : RWithin 8589942794 s (execColophonIn s) := by
  unfold execColophonIn
  repeat' (first
      | with_reducible intro _
      | with_reducible apply Within.refl
      | with_reducible apply Within.ite
      | with_reducible apply RWithin.next
      | (with_reducible apply Within.step; apply State.trigger_within; decide))

theorem execColophonOutRelease_within {s} : RWithin 8192 s (execColophonOutRelease s) := by
  unfold execColophonOutRelease
  repeat' (first
      | (simp only [Within.mk_iff]; with_reducible apply WithinMk.put; (repeat' (first | (with_reducible exact OtpKept.refl _) | (with_reducible apply And.intro) | exact Or.inl (by decide) | exact Or.inr rfl | (with_reducible rfl) | (simp only [List.length_map, List.length_set, length_modifyAt]; done))))
      | with_reducible apply Within.refl
      | with_reducible apply RWithin.next)

theorem State.sendOn_within {s p n} : Within 8728346632 s (State.sendOn s p n) := by
  unfold State.sendOn
  repeat' (first
      | with_reducible intro _
      | with_reducible apply Within.refl
      | with_reducible apply Within.ite
      | (with_reducible apply Within.step; apply State.setCap_within; decide)
      | (with_reducible apply Within.step; apply State.sendMarkers_within; decide)
      | dsimp only
      | split)

theorem State.markerAt_within {s p n} : Within 8728346632 s (State.markerAt s p n) := by
  unfold State.markerAt
  repeat' (first
      | with_reducible intro _
      | with_reducible apply Within.refl
      | with_reducible apply Within.ite
      | (with_reducible apply Within.step; apply State.latch_within; decide)
      | (with_reducible apply Within.step; apply State.sendOn_within; decide)
      | (with_reducible apply Within.step; apply State.count_within; decide))

theorem State.closeBy_within {s p src n} : Within 8589938692 s (State.closeBy s p src n) := by
  unfold State.closeBy
  repeat' (first
      | with_reducible intro _
      | with_reducible apply Within.refl
      | with_reducible apply Within.ite
      | (with_reducible apply Within.step; apply State.setCap_within; decide)
      | (with_reducible apply Within.step; apply State.refreshGroups_within; decide))

theorem execMarkerArrival_within {d page channel number s} : RWithin 8728350732 s (execMarkerArrival d page channel number s) := by
  unfold execMarkerArrival
  repeat' (first
      | with_reducible intro _
      | with_reducible apply Within.refl
      | with_reducible apply Within.ite
      | with_reducible apply RWithin.atDie
      | with_reducible apply RWithin.atUnit
      | (with_reducible apply Within.step; apply State.markerAt_within; decide)
      | (with_reducible apply Within.step; apply State.closeBy_within; decide)
      | dsimp only
      | split)

theorem State.takeMarker_within {s d port p} : Within 17385390088 s (State.takeMarker s d port p) := by
  unfold State.takeMarker
  repeat' (first
      | with_reducible intro _
      | with_reducible apply Within.refl
      | (with_reducible apply Within.step; apply State.freeUnits_within; decide)
      | (with_reducible apply Within.step; apply State.takeLocal_within; decide)
      | (with_reducible apply Within.step; apply State.noteOccupancy_within; decide)
      | (with_reducible apply Within.step; apply State.editionCount_within; decide)
      | (with_reducible apply State.onRouter_step; decide)
      | exact ⟨by simp only [List.length_map, List.length_set, length_modifyAt], by simp only [List.length_map, List.length_set, length_modifyAt]⟩
      | dsimp only
      | split)

theorem State.markerTrigger_within {s d n origin at_} : Within 8589942794 s (State.markerTrigger s d n origin at_) := by
  unfold State.markerTrigger
  repeat' (first
      | with_reducible intro _
      | with_reducible apply Within.refl
      | with_reducible apply Within.ite
      | (with_reducible apply Within.step; (with_reducible apply State.setReg_own); (first | decide | omega); (first | decide | omega); decide)
      | (with_reducible apply Within.step; apply State.capture_within; decide))

theorem execColophonMarker_within {d port vc p s} : RWithin 25975336974 s (execColophonMarker d port vc p s) := by
  unfold execColophonMarker
  repeat' (first
      | with_reducible intro _
      | with_reducible apply Within.refl
      | with_reducible apply Within.ite
      | (with_reducible apply atLink_step; decide)
      | (with_reducible apply Within.step; apply State.setCap_within; decide)
      | (with_reducible apply Within.step; apply State.markerAt_within; decide)
      | (with_reducible apply Within.step; apply State.takeMarker_within; decide)
      | (with_reducible apply Within.step; apply State.opDrop_within; decide)
      | (with_reducible apply Within.step; apply State.markerTrigger_within; decide)
      | (with_reducible apply Within.step; apply State.closeBy_within; decide))

theorem execChannelTimeout_within {d page channel s} : RWithin 8589938700 s (execChannelTimeout d page channel s) := by
  unfold execChannelTimeout
  repeat' (first
      | with_reducible intro _
      | with_reducible apply Within.refl
      | with_reducible apply Within.ite
      | with_reducible apply RWithin.atDie
      | with_reducible apply RWithin.atUnit
      | (with_reducible apply Within.step; apply State.setCap_within; decide)
      | (with_reducible apply Within.step; apply State.refreshGroups_within; decide)
      | (with_reducible apply Within.step; apply State.raise_within; decide)
      | (with_reducible apply Within.step; apply State.count_within; decide)
      | dsimp only
      | split)

theorem State.arm_within {s p v} : Within 8589934592 s (State.arm s p v) := by
  unfold State.arm
  repeat' (first
      | with_reducible intro _
      | with_reducible apply Within.refl
      | with_reducible assumption
      | with_reducible apply Within.ite
      | (with_reducible apply Within.step; apply State.setCap_within; decide)
      | with_reducible apply Within.foldl)

theorem State.clearErrors_within {s p} : Within 4 s (State.clearErrors s p) := by
  unfold State.clearErrors
  repeat' (first
      | with_reducible intro _
      | with_reducible apply Within.refl
      | with_reducible assumption
      | (with_reducible apply Within.step; (with_reducible apply State.setReg_common); (first | decide | omega); decide)
      | with_reducible apply Within.foldl_mem
      | (with_reducible apply Within.step; (with_reducible apply State.setReg_common); (simp only [List.mem_range] at *; omega); decide))

theorem State.onTime_within {s d f} : Within 4294967296 s (State.onTime s d f) := by
  unfold State.onTime
  repeat' (first
      | with_reducible intro _
      | (with_reducible apply DieWithin.mk <;> (first | exact fun e => absurd e (by decide) | exact fun _ => rfl | exact fun _ => ⟨rfl, rfl, rfl⟩ | exact fun e => e | exact fun e => .trans (by simp only [Die.units, List.length_map, List.length_set, length_modifyAt]) e))
      | with_reducible apply Within.refl
      | with_reducible apply Within.onDie)

theorem State.setTimes_within {s ns} : Within 4294967296 s (State.setTimes s ns) := by
  unfold State.setTimes
  repeat' (first
      | with_reducible intro _
      | with_reducible apply Within.refl
      | with_reducible assumption
      | (with_reducible apply Within.step; apply State.onTime_within; decide)
      | with_reducible apply Within.foldl)

theorem execPackageTimeSync_within {d s} : RWithin 4294967296 s (execPackageTimeSync d s) := by
  unfold execPackageTimeSync
  repeat' (first
      | with_reducible intro _
      | with_reducible apply Within.refl
      | with_reducible apply Within.ite
      | with_reducible apply RWithin.atDie
      | (with_reducible apply Within.step; apply State.onTime_within; decide))

theorem execPtpSyncLoss_within {s} : RWithin 4294971404 s (execPtpSyncLoss s) := by
  unfold execPtpSyncLoss
  repeat' (first
      | with_reducible intro _
      | with_reducible apply Within.refl
      | with_reducible assumption
      | with_reducible apply Within.ite
      | with_reducible apply RWithin.next
      | (with_reducible apply Within.step; apply State.onTime_within; decide)
      | (with_reducible apply Within.step; apply State.raise_within; decide)
      | (with_reducible apply Within.step; apply State.count_within; decide)
      | with_reducible apply Within.foldl)

end Sys2Proof.Machine
end

