-- ==== Sys2Proof/Laws/Clock.lean ====
section
/-!
SUPPORT. What each operation of Machine/Clock.lean can change, as a mask of the areas of Safety.lean: bit n of the mask is the
area that the declaration of `Area` lists as its n-th, from 0.
-/

set_option linter.unusedSimpArgs false
set_option linter.unusedVariables false

namespace Sys2Proof.Machine

theorem State.tickTokens_within {s d} : Within 33554432 s (State.tickTokens s d) := by
  unfold State.tickTokens
  repeat' (first
      | with_reducible intro _
      | with_reducible apply Within.refl
      | with_reducible assumption
      | with_reducible apply Within.ite
      | (with_reducible apply Within.step; apply State.onClass_within; decide)
      | with_reducible apply Within.foldl)

theorem State.countNs_within {s on p k} : Within 8 s (State.countNs s on p k) := by
  unfold State.countNs
  repeat' (first
      | with_reducible intro _
      | with_reducible apply Within.refl
      | with_reducible apply Within.ite
      | (with_reducible apply Within.step; apply State.count_within; decide))

theorem State.tickRun_within {s d r} : Within 8 s (State.tickRun s d r) := by
  unfold State.tickRun
  repeat' (first
      | with_reducible apply Within.refl
      | (with_reducible apply Within.step; apply State.countNs_within; decide)
      | dsimp only
      | split)

theorem State.tickCounters_within {s d} : Within 8 s (State.tickCounters s d) := by
  unfold State.tickCounters
  repeat' (first
      | with_reducible intro _
      | with_reducible apply Within.refl
      | with_reducible assumption
      | (with_reducible apply Within.step; apply State.tickRun_within; decide)
      | (with_reducible apply Within.step; apply State.countNs_within; decide)
      | with_reducible apply Within.foldl)

theorem State.takePtpFrame_within {s d k} : Within 21474967554 s (State.takePtpFrame s d k) := by
  unfold State.takePtpFrame
  repeat' (first
      | with_reducible intro _
      | with_reducible apply Within.refl
      | with_reducible assumption
      | with_reducible apply Within.ite
      | (with_reducible apply Within.step; (with_reducible apply State.setReg_own); (first | decide | omega); (first | decide | omega); decide)
      | (with_reducible apply Within.step; apply State.onTime_within; decide)
      | (with_reducible apply Within.step; apply State.onEth_within; decide)
      | (with_reducible apply Within.step; apply State.takeFree_within; decide)
      | with_reducible apply Within.foldl
      | dsimp only
      | split)

theorem State.tickDie_within {s d} : Within 21508521994 s (State.tickDie s d) := by
  unfold State.tickDie
  repeat' (first
      | with_reducible intro _
      | with_reducible apply Within.refl
      | with_reducible assumption
      | with_reducible apply Within.ite
      | (with_reducible apply Within.step; apply State.onTime_within; decide)
      | (with_reducible apply Within.step; apply State.tickCounters_within; decide)
      | (with_reducible apply Within.step; apply State.tickTokens_within; decide)
      | (with_reducible apply Within.step; apply State.takePtpFrame_within; decide)
      | with_reducible apply Within.foldl)

theorem State.tick_within {s : State} : Within 21508521994 { s with now := s.now + 40 } s.tick := by
  unfold State.tick
  refine Within.foldl (fun t f h => ?_) (Within.foldl (fun t d h => ?_) (Within.refl _ _))
  · with_reducible apply Within.step; (with_reducible apply State.countNs_within); decide
    exact h
  · with_reducible apply Within.step; (with_reducible apply State.tickDie_within); decide
    exact h

end Sys2Proof.Machine
end

