-- ==== Sys2Proof/Laws/Power.lean ====
section
/-!
SUPPORT. What each operation of Machine/Power.lean can change, as a mask of the areas of Safety.lean: bit n of the mask is the
area that the declaration of `Area` lists as its n-th, from 0.
-/

set_option linter.unusedSimpArgs false
set_option linter.unusedVariables false

namespace Sys2Proof.Machine

theorem State.onPower_within {s d f} : Within 1073741824 s (State.onPower s d f) := by
  unfold State.onPower
  repeat' (first
      | with_reducible intro _
      | (with_reducible apply DieWithin.mk <;> (first | exact fun e => absurd e (by decide) | exact fun _ => rfl | exact fun _ => ⟨rfl, rfl, rfl⟩ | exact fun e => e | exact fun e => .trans (by simp only [Die.units, List.length_map, List.length_set, length_modifyAt]) e))
      | with_reducible apply Within.refl
      | with_reducible apply Within.onDie)

theorem State.setPower_within {s d v} : Within 1073745932 s (State.setPower s d v) := by
  unfold State.setPower
  repeat' (first
      | with_reducible intro _
      | with_reducible apply Within.refl
      | with_reducible apply Within.ite
      | (with_reducible apply Within.step; apply State.raise_within; decide)
      | (with_reducible apply Within.step; apply State.onPower_within; decide)
      | (with_reducible apply Within.step; apply State.count_within; decide))

theorem State.selfRefresh_within {s d v} : Within 536870912 s (State.selfRefresh s d v) := by
  unfold State.selfRefresh
  repeat' (first
      | with_reducible intro _
      | (with_reducible apply DieWithin.mk <;> (first | exact fun e => absurd e (by decide) | exact fun _ => rfl | exact fun _ => ⟨rfl, rfl, rfl⟩ | exact fun e => e | exact fun e => .trans (by simp only [Die.units, List.length_map, List.length_set, length_modifyAt]) e))
      | with_reducible apply Within.refl
      | with_reducible apply Within.onDie)

theorem State.loseMemory_within {s : State} {d a b : Nat} : Within 1 s (s.loseMemory d a b) := by
  unfold State.loseMemory
  refine ⟨rfl, rfl, rfl, id, fun c => ⟨memory_wf_filter _ c.1, c.2⟩, OtpKept.refl _, ?_⟩
  intro a ha _; cases a <;> first | exact absurd ha (by decide) | (simp only [Area.same, sameRegs, implies_true, and_self]; done)

theorem State.enterPressed_within {s d} : Within 43771760652 s (State.enterPressed s d) := by
  unfold State.enterPressed
  repeat' (first
      | with_reducible intro _
      | (with_reducible apply DieWithin.mk <;> (first | exact fun e => absurd e (by decide) | exact fun _ => rfl | exact fun _ => ⟨rfl, rfl, rfl⟩ | exact fun e => e | exact fun e => .trans (by simp only [Die.units, List.length_map, List.length_set, length_modifyAt]) e))
      | with_reducible apply Within.refl
      | with_reducible assumption
      | with_reducible apply Within.ite
      | (with_reducible apply Within.step; apply State.closeEarly_within; decide)
      | (with_reducible apply Within.step; apply State.count_within; decide)
      | (with_reducible apply Within.step; apply State.selfRefresh_within; decide)
      | with_reducible apply Within.foldl
      | with_reducible apply Within.onDie)

theorem State.enterBoarded_within {s d} : Within 542235637663 s (State.enterBoarded s d) := by
  unfold State.enterBoarded
  repeat' (first
      | with_reducible intro _
      | (with_reducible apply DieWithin.mk <;> (first | exact fun e => absurd e (by decide) | exact fun _ => rfl | exact fun _ => ⟨rfl, rfl, rfl⟩ | exact fun e => e | exact fun e => .trans (by simp only [Die.units, List.length_map, List.length_set, length_modifyAt]) e))
      | with_reducible apply Within.refl
      | (with_reducible apply Within.step; apply State.loseMemory_within; decide)
      | (with_reducible apply Within.step; apply State.clearForwarding_within; decide)
      | (with_reducible apply Within.step; apply State.enterComputeReset_within; decide)
      | (with_reducible apply Within.step; apply State.selfRefresh_within; decide)
      | with_reducible apply Within.onDie)

theorem State.enterShelved_within {s d} : Within 542235637663 s (State.enterShelved s d) := by
  unfold State.enterShelved
  repeat' (first
      | with_reducible intro _
      | (with_reducible apply DieWithin.mk <;> (first | exact fun e => absurd e (by decide) | exact fun _ => rfl | exact fun _ => ⟨rfl, rfl, rfl⟩ | exact fun e => e | exact fun e => .trans (by simp only [Die.units, List.length_map, List.length_set, length_modifyAt]) e))
      | with_reducible apply Within.refl
      | (with_reducible apply Within.step; apply State.enterBoarded_within; decide)
      | (with_reducible apply Within.step; apply State.loseMemory_within; decide)
      | (with_reducible apply Within.step; apply State.clearPages_within; decide)
      | with_reducible apply Within.onDie)

theorem State.enterState_within {s d r} : Within 543309379487 s (State.enterState s d r) := by
  unfold State.enterState
  repeat' (first
      | with_reducible intro _
      | with_reducible apply Within.refl
      | with_reducible apply Within.ite
      | (with_reducible apply Within.step; apply State.enterBoarded_within; decide)
      | (with_reducible apply Within.step; apply State.enterShelved_within; decide)
      | (with_reducible apply Within.step; apply State.enterPressed_within; decide)
      | (with_reducible apply Within.step; apply State.setPower_within; decide))

theorem State.eachDie_step {W s t f} (hW : 0 &&& W = 0)
    (hact : ∀ u d, Within W s u → Within W s (f u d)) (h : Within W s t) :
    Within W s (State.eachDie t f) := by
  unfold State.eachDie
  repeat' (first
      | with_reducible intro _
      | with_reducible assumption
      | with_reducible apply hact
      | with_reducible apply Within.foldl)

theorem State.leaveShelved_within {s} : Within 547574251518 s (State.leaveShelved s) := by
  unfold State.leaveShelved
  repeat' (first
      | with_reducible intro _
      | with_reducible apply Within.refl
      | with_reducible assumption
      | (with_reducible apply Within.step; apply State.onTime_within; decide)
      | (with_reducible apply Within.step; apply State.retrain_within; decide)
      | (with_reducible apply Within.step; apply State.packageWarm_within; decide)
      | (with_reducible apply State.eachDie_step; decide)
      | with_reducible apply Within.foldl)

theorem State.moveTo_within {s r} : Within 547607805951 s (State.moveTo s r) := by
  unfold State.moveTo
  repeat' (first
      | with_reducible intro _
      | (simp only [Within.mk_iff]; with_reducible apply WithinMk.put; (repeat' (first | (with_reducible exact OtpKept.refl _) | (with_reducible apply And.intro) | exact Or.inl (by decide) | exact Or.inr rfl | (with_reducible rfl) | (simp only [List.length_map, List.length_set, length_modifyAt]; done))))
      | with_reducible apply Within.refl
      | with_reducible assumption
      | with_reducible apply Within.ite
      | (with_reducible apply Within.step; apply State.enterState_within; decide)
      | (with_reducible apply Within.step; apply State.trainPorts_within; decide)
      | (with_reducible apply Within.step; apply State.selfRefresh_within; decide)
      | (with_reducible apply State.eachDie_step; decide)
      | (with_reducible apply Within.step; apply State.setPower_within; decide)
      | (with_reducible apply Within.step; apply State.leaveShelved_within; decide))

theorem State.applyPower_within {s r} : Within 10202656782 s (State.applyPower s r) := by
  unfold State.applyPower
  repeat' (first
      | with_reducible intro _
      | (simp only [Within.mk_iff]; with_reducible apply WithinMk.put; (repeat' (first | (with_reducible exact OtpKept.refl _) | (with_reducible apply And.intro) | exact Or.inl (by decide) | exact Or.inr rfl | (with_reducible rfl) | (simp only [List.length_map, List.length_set, length_modifyAt]; done))))
      | with_reducible apply Within.refl
      | with_reducible assumption
      | with_reducible apply Within.ite
      | (with_reducible apply Within.step; apply State.reject_within; decide)
      | (with_reducible apply Within.step; apply State.onPower_within; decide)
      | (with_reducible apply Within.step; apply State.selfRefresh_within; decide)
      | (with_reducible apply State.eachDie_step; decide)
      | (with_reducible apply Within.step; apply State.setPower_within; decide))

theorem State.requestPower_within {s r} : Within 10202656782 s (State.requestPower s r) := by
  unfold State.requestPower
  repeat' (first
      | with_reducible intro _
      | (simp only [Within.mk_iff]; with_reducible apply WithinMk.put; (repeat' (first | (with_reducible exact OtpKept.refl _) | (with_reducible apply And.intro) | exact Or.inl (by decide) | exact Or.inr rfl | (with_reducible rfl) | (simp only [List.length_map, List.length_set, length_modifyAt]; done))))
      | with_reducible apply Within.refl
      | with_reducible apply Within.ite
      | (with_reducible apply Within.step; apply State.reject_within; decide)
      | (with_reducible apply Within.step; apply State.applyPower_within; decide))

theorem execPowerReq_within {f off request s} : RWithin 10206851086 s (execPowerReq f off request s) := by
  unfold execPowerReq
  repeat' (first
      | with_reducible intro _
      | with_reducible apply Within.refl
      | with_reducible apply Within.ite
      | with_reducible apply RWithin.next
      | (with_reducible apply Within.step; apply State.requestPower_within; decide)
      | (with_reducible apply Within.step; apply State.emit_within; decide))

theorem State.mctpAnswer_within {s request} : Within 5373952 s (State.mctpAnswer s request) := by
  unfold State.mctpAnswer
  repeat' (first
      | with_reducible intro _
      | (simp only [Within.mk_iff]; with_reducible apply WithinMk.put; (repeat' (first | (with_reducible exact OtpKept.refl _) | (with_reducible apply And.intro) | exact Or.inl (by decide) | exact Or.inr rfl | (with_reducible rfl) | (simp only [List.length_map, List.length_set, length_modifyAt]; done))))
      | with_reducible apply Within.refl
      | with_reducible apply Within.ite
      | (with_reducible apply Within.step; apply State.takeFree_within; decide)
      | (with_reducible apply Within.step; apply State.emit_within; decide))

theorem State.mctpRequest_within {s request} : Within 7471104 s (State.mctpRequest s request) := by
  unfold State.mctpRequest
  repeat' (first
      | with_reducible intro _
      | (simp only [Within.mk_iff]; with_reducible apply WithinMk.put; (repeat' (first | (with_reducible exact OtpKept.refl _) | (with_reducible apply And.intro) | exact Or.inl (by decide) | exact Or.inr rfl | (with_reducible rfl) | (simp only [List.length_map, List.length_set, length_modifyAt]; done))))
      | with_reducible apply Within.refl
      | with_reducible apply Within.ite
      | (with_reducible apply Within.step; apply State.mctpAnswer_within; decide))

theorem execMctpWake_within {eid request s} : RWithin 7471104 s (execMctpWake eid request s) := by
  unfold execMctpWake
  repeat' (first
      | with_reducible intro _
      | with_reducible apply Within.refl
      | with_reducible apply Within.ite
      | with_reducible apply RWithin.next
      | (with_reducible apply Within.step; apply State.mctpRequest_within; decide))

theorem execMctpSetEndpointId_within {eid s} : RWithin 7471104 s (execMctpSetEndpointId eid s) := by
  unfold execMctpSetEndpointId
  repeat' (first
      | with_reducible apply Within.refl
      | with_reducible apply RWithin.next
      | (with_reducible apply Within.step; apply State.mctpRequest_within; decide))

theorem execMctpGetEndpointId_within {s} : RWithin 7471104 s (execMctpGetEndpointId s) := by
  unfold execMctpGetEndpointId
  repeat' (first
      | with_reducible apply Within.refl
      | with_reducible apply RWithin.next
      | (with_reducible apply Within.step; apply State.mctpRequest_within; decide))

theorem execMctpGetVersionSupport_within {msgType s} : RWithin 7471104 s (execMctpGetVersionSupport msgType s) := by
  unfold execMctpGetVersionSupport
  repeat' (first
      | with_reducible apply Within.refl
      | with_reducible apply RWithin.next
      | (with_reducible apply Within.step; apply State.mctpRequest_within; decide))

theorem execMctpGetMessageTypeSupport_within {s} : RWithin 7471104 s (execMctpGetMessageTypeSupport s) := by
  unfold execMctpGetMessageTypeSupport
  repeat' (first
      | with_reducible apply Within.refl
      | with_reducible apply RWithin.next
      | (with_reducible apply Within.step; apply State.mctpRequest_within; decide))

theorem execMctpUnsupportedMessage_within {code s} : RWithin 7471104 s (execMctpUnsupportedMessage code s) := by
  unfold execMctpUnsupportedMessage
  repeat' (first
      | with_reducible intro _
      | with_reducible apply Within.refl
      | with_reducible apply Within.ite
      | with_reducible apply RWithin.next
      | (with_reducible apply Within.step; apply State.mctpRequest_within; decide)
      | (with_reducible apply Within.step; apply State.emit_within; decide))

theorem execPowerTransitionDone_within {s} : RWithin 547607805951 s (execPowerTransitionDone s) := by
  unfold execPowerTransitionDone
  repeat' (first
      | (simp only [Within.mk_iff]; with_reducible apply WithinMk.put; (repeat' (first | (with_reducible exact OtpKept.refl _) | (with_reducible apply And.intro) | exact Or.inl (by decide) | exact Or.inr rfl | (with_reducible rfl) | (simp only [List.length_map, List.length_set, length_modifyAt]; done))))
      | with_reducible apply Within.refl
      | with_reducible apply RWithin.next
      | (with_reducible apply Within.step; apply State.mctpAnswer_within; decide)
      | (with_reducible apply Within.step; apply State.moveTo_within; decide)
      | (with_reducible apply Within.step; apply State.applyPower_within; decide)
      | dsimp only
      | split)

theorem execCreaseIdle_within {d s} : RWithin 1073745932 s (execCreaseIdle d s) := by
  unfold execCreaseIdle
  repeat' (first
      | with_reducible intro _
      | with_reducible apply Within.refl
      | with_reducible apply Within.ite
      | with_reducible apply RWithin.atDie
      | (with_reducible apply Within.step; apply State.setPower_within; decide))

theorem execFoldIdle_within {d s} : RWithin 10200551436 s (execFoldIdle d s) := by
  unfold execFoldIdle
  repeat' (first
      | with_reducible intro _
      | with_reducible apply Within.refl
      | with_reducible apply Within.ite
      | with_reducible apply RWithin.atDie
      | (with_reducible apply Within.step; apply State.closeEarly_within; decide)
      | (with_reducible apply Within.step; apply State.selfRefresh_within; decide)
      | (with_reducible apply Within.step; apply State.setPower_within; decide))

theorem execWakeEvent_within {d _cause s} : RWithin 543275825055 s (execWakeEvent d _cause s) := by
  unfold execWakeEvent
  repeat' (first
      | with_reducible intro _
      | with_reducible apply Within.refl
      | with_reducible apply Within.ite
      | with_reducible apply RWithin.atDie
      | (with_reducible apply Within.step; apply State.enterComputeReset_within; decide)
      | (with_reducible apply Within.step; apply State.selfRefresh_within; decide)
      | (with_reducible apply Within.step; apply State.setPower_within; decide))

theorem State.govern_within {s d fixed perPercent wanted} : Within 1073741832 s (State.govern s d fixed perPercent wanted) := by
  unfold State.govern
  repeat' (first
      | with_reducible intro _
      | with_reducible apply Within.refl
      | with_reducible assumption
      | with_reducible apply Within.ite
      | (with_reducible apply Within.step; apply State.onPower_within; decide)
      | (with_reducible apply Within.step; apply State.count_within; decide)
      | with_reducible apply Within.foldl)

theorem execGovernorPeriod_within {d fixed perPercent wanted s} : RWithin 1073741832 s (execGovernorPeriod d fixed perPercent wanted s) := by
  unfold execGovernorPeriod
  repeat' (first
      | with_reducible apply Within.refl
      | with_reducible apply RWithin.atDie
      | (with_reducible apply Within.step; apply State.govern_within; decide))

theorem execBudgetUpdate_within {watts s} : RWithin 2 s (execBudgetUpdate watts s) := by
  unfold execBudgetUpdate
  repeat' (first
      | with_reducible intro _
      | with_reducible apply Within.refl
      | with_reducible assumption
      | with_reducible apply Within.ite
      | with_reducible apply RWithin.next
      | (with_reducible apply Within.step; (with_reducible apply State.setReg_own); (first | decide | omega); (first | decide | omega); decide)
      | with_reducible apply Within.foldl)

theorem execBrakeAssert_within {s} : RWithin 1073754124 s (execBrakeAssert s) := by
  unfold execBrakeAssert
  repeat' (first
      | with_reducible intro _
      | (simp only [Within.mk_iff]; with_reducible apply WithinMk.put; (repeat' (first | (with_reducible exact OtpKept.refl _) | (with_reducible apply And.intro) | exact Or.inl (by decide) | exact Or.inr rfl | (with_reducible rfl) | (simp only [List.length_map, List.length_set, length_modifyAt]; done))))
      | with_reducible apply Within.refl
      | with_reducible apply Within.ite
      | with_reducible apply RWithin.next
      | (with_reducible apply Within.step; apply State.brakeDies_within; decide))

theorem execBrakeDeassert_within {s} : RWithin 1073750016 s (execBrakeDeassert s) := by
  unfold execBrakeDeassert
  repeat' (first
      | with_reducible intro _
      | (simp only [Within.mk_iff]; with_reducible apply WithinMk.put; (repeat' (first | (with_reducible exact OtpKept.refl _) | (with_reducible apply And.intro) | exact Or.inl (by decide) | exact Or.inr rfl | (with_reducible rfl) | (simp only [List.length_map, List.length_set, length_modifyAt]; done))))
      | with_reducible apply Within.refl
      | with_reducible assumption
      | with_reducible apply RWithin.next
      | (with_reducible apply Within.step; apply State.onPower_within; decide)
      | (with_reducible apply State.eachDie_step; decide))

theorem State.alertNow_within {s} : Within 8192 s (State.alertNow s) := by
  unfold State.alertNow
  repeat' (first
      | (simp only [Within.mk_iff]; with_reducible apply WithinMk.put; (repeat' (first | (with_reducible exact OtpKept.refl _) | (with_reducible apply And.intro) | exact Or.inl (by decide) | exact Or.inr rfl | (with_reducible rfl) | (simp only [List.length_map, List.length_set, length_modifyAt]; done))))
      | with_reducible apply Within.refl)

theorem State.thermalCap_within {s d tj} : Within 1073741824 s (State.thermalCap s d tj) := by
  unfold State.thermalCap
  repeat' (first
      | with_reducible apply Within.refl
      | (with_reducible apply Within.step; apply State.onPower_within; decide))

theorem execThermalSample_within {d tj s} : RWithin 1073754124 s (execThermalSample d tj s) := by
  unfold execThermalSample
  repeat' (first
      | with_reducible intro _
      | with_reducible apply Within.refl
      | with_reducible apply Within.ite
      | with_reducible apply RWithin.atDie
      | (with_reducible apply Within.step; apply State.thermalCap_within; decide)
      | (with_reducible apply Within.step; apply State.raise_within; decide)
      | (with_reducible apply Within.step; apply State.onPower_within; decide)
      | (with_reducible apply Within.step; apply State.alertNow_within; decide)
      | (with_reducible apply Within.step; apply State.count_within; decide))

theorem State.clearTrip_within {s d} : Within 9663688718 s (State.clearTrip s d) := by
  unfold State.clearTrip
  repeat' (first
      | with_reducible intro _
      | with_reducible apply Within.refl
      | with_reducible apply Within.ite
      | (with_reducible apply Within.step; apply State.refuse_within; decide)
      | (with_reducible apply Within.step; apply State.onPower_within; decide)
      | (with_reducible apply Within.step; apply State.alertNow_within; decide))

theorem execTripClear_within {d s} : RWithin 9667883022 s (execTripClear d s) := by
  unfold execTripClear
  repeat' (first
      | with_reducible apply Within.refl
      | with_reducible apply RWithin.atDie
      | (with_reducible apply Within.step; apply State.clearTrip_within; decide)
      | (with_reducible apply State.fromFn_step; decide)
      | (with_reducible apply State.guarded_step; decide))

theorem State.writeTherm_within {s d j value} : Within 8589946894 s (State.writeTherm s d j value) := by
  unfold State.writeTherm
  repeat' (first
      | with_reducible intro _
      | with_reducible apply Within.refl
      | with_reducible apply Within.ite
      | (with_reducible apply Within.step; apply State.setReg_any; decide)
      | (with_reducible apply Within.step; apply State.refuse_within; decide))

theorem execThermTableWrite_within {d j value s} : RWithin 8594141198 s (execThermTableWrite d j value s) := by
  unfold execThermTableWrite
  repeat' (first
      | with_reducible apply Within.refl
      | with_reducible apply RWithin.atUnit
      | (with_reducible apply State.fromFn_step; decide)
      | (with_reducible apply State.guarded_step; decide)
      | (with_reducible apply Within.step; apply State.writeTherm_within; decide))

theorem State.applyRecord_within {s r} : Within 2 s (State.applyRecord s r) := by
  unfold State.applyRecord
  repeat' (first
      | with_reducible intro _
      | with_reducible apply Within.refl
      | with_reducible assumption
      | (with_reducible apply Within.step; (with_reducible apply State.setReg_own); (first | decide | omega); (first | decide | omega); decide)
      | (with_reducible apply State.eachDie_step; decide)
      | with_reducible apply Within.foldl_mem
      | (with_reducible apply Within.step; (with_reducible apply State.setReg_own); (simp only [List.mem_range] at *; omega); (simp only [List.mem_range] at *; omega); decide))

theorem State.serdesDown_within {s d k} : Within 25975328780 s (State.serdesDown s d k) := by
  unfold State.serdesDown
  repeat' (first
      | with_reducible intro _
      | with_reducible apply Within.refl
      | with_reducible apply Within.ite
      | (with_reducible apply Within.step; apply State.ethDrop_within; decide)
      | (with_reducible apply Within.step; apply State.linkDrop_within; decide))

theorem State.pllReset_within {s d pll} : Within 547607805951 s (State.pllReset s d pll) := by
  unfold State.pllReset
  repeat' (first
      | with_reducible intro _
      | (simp only [Within.mk_iff]; with_reducible apply WithinMk.put; (repeat' (first | (with_reducible exact OtpKept.refl _) | (with_reducible apply And.intro) | exact Or.inl (by decide) | exact Or.inr rfl | (with_reducible rfl) | (simp only [List.length_map, List.length_set, length_modifyAt]; done))))
      | (simp only [SpineWithin.mk_iff]; first | (with_reducible apply SpineWithin.put) | ((with_reducible apply SpineWithin.put2); (with_reducible exact SpineWithin.refl _ _); (first | (with_reducible rfl) | (simp only [length_modifyAt])); (first | (with_reducible exact OtpKept.refl _) | exact ⟨rfl, rfl, rfl, rfl, rfl, rfl, fun _ h => h, fun _ h => h, Nat.le_max_left _ _, Nat.le_refl _⟩ | exact ⟨rfl, rfl, rfl, rfl, rfl, rfl, fun _ h => h, fun _ h => h, Nat.le_refl _, Nat.le_max_left _ _⟩); (first | exact Or.inl (by decide) | exact Or.inr rfl)))
      | (with_reducible apply DieWithin.mk <;> (first | exact fun e => absurd e (by decide) | exact fun _ => rfl | exact fun _ => ⟨rfl, rfl, rfl⟩ | exact fun e => e | exact fun e => .trans (by simp only [Die.units, List.length_map, List.length_set, length_modifyAt]) e))
      | with_reducible apply Within.refl
      | with_reducible apply Within.ite
      | with_reducible apply SpineWithin.refl
      | (with_reducible apply State.onSpine_step; decide)
      | (with_reducible apply Within.step; apply State.serdesDown_within; decide)
      | (with_reducible apply Within.step; apply State.warmReset_within; decide)
      | (with_reducible apply Within.step; apply State.clearForwarding_within; decide)
      | (with_reducible apply Within.step; apply State.enterComputeReset_within; decide)
      | with_reducible apply Within.onDie
      | dsimp only
      | split)

theorem execPllLockLoss_within {d pll s} : RWithin 549755289599 s (execPllLockLoss d pll s) := by
  unfold execPllLockLoss
  repeat' (first
      | with_reducible intro _
      | (with_reducible apply DieWithin.mk <;> (first | exact fun e => absurd e (by decide) | exact fun _ => rfl | exact fun _ => ⟨rfl, rfl, rfl⟩ | exact fun e => e | exact fun e => .trans (by simp only [Die.units, List.length_map, List.length_set, length_modifyAt]) e))
      | with_reducible apply Within.refl
      | with_reducible apply Within.ite
      | with_reducible apply RWithin.atDie
      | (with_reducible apply Within.step; apply State.raise_within; decide)
      | (with_reducible apply Within.step; apply State.count_within; decide)
      | (with_reducible apply Within.step; apply State.pllReset_within; decide)
      | with_reducible apply Within.onDie)

theorem execPllRelock_within {d pll s} : RWithin 28333979183 s (execPllRelock d pll s) := by
  unfold execPllRelock
  repeat' (first
      | with_reducible intro _
      | (simp only [SpineWithin.mk_iff]; first | (with_reducible apply SpineWithin.put) | ((with_reducible apply SpineWithin.put2); (with_reducible exact SpineWithin.refl _ _); (first | (with_reducible rfl) | (simp only [length_modifyAt])); (first | (with_reducible exact OtpKept.refl _) | exact ⟨rfl, rfl, rfl, rfl, rfl, rfl, fun _ h => h, fun _ h => h, Nat.le_max_left _ _, Nat.le_refl _⟩ | exact ⟨rfl, rfl, rfl, rfl, rfl, rfl, fun _ h => h, fun _ h => h, Nat.le_refl _, Nat.le_max_left _ _⟩); (first | exact Or.inl (by decide) | exact Or.inr rfl)))
      | (with_reducible apply DieWithin.mk <;> (first | exact fun e => absurd e (by decide) | exact fun _ => rfl | exact fun _ => ⟨rfl, rfl, rfl⟩ | exact fun e => e | exact fun e => .trans (by simp only [Die.units, List.length_map, List.length_set, length_modifyAt]) e))
      | with_reducible apply Within.refl
      | with_reducible apply Within.ite
      | with_reducible apply SpineWithin.refl
      | with_reducible apply RWithin.atDie
      | (with_reducible apply Within.step; apply State.leaveComputeReset_within; decide)
      | (with_reducible apply State.onSpine_step; decide)
      | (with_reducible apply Within.step; apply State.trainPcie_within; decide)
      | (with_reducible apply Within.step; apply State.trainPorts_within; decide)
      | with_reducible apply Within.onDie
      | dsimp only
      | split)

end Sys2Proof.Machine
end

