-- ==== Sys2Proof/Laws/RegRead.lean ====
section
/-!
SUPPORT. What each operation of Machine/RegRead.lean can change, as a mask of the areas of Safety.lean: bit n of the mask is the
area that the declaration of `Area` lists as its n-th, from 0.
-/

set_option linter.unusedSimpArgs false
set_option linter.unusedVariables false

namespace Sys2Proof.Machine

theorem State.clearCtr_within {s : State} {p : Page} {k : Nat} : Within 8 s (s.clearCtr p k) := by
  unfold State.clearCtr
  with_reducible apply Within.ite
  · exact fun _ => State.setLevel_within
  intro _
  with_reducible apply Within.ite
  · exact fun _ => State.setLevel_within
  intro _
  refine ⟨rfl, rfl, rfl, id, fun c => ⟨c.1, FMap.wf_erase _ c.2.1, c.2.2⟩, OtpKept.refl _, ?_⟩
  intro a ha c
  have hc := p.ctr_mod k
  have ne : ∀ q : Nat → Bool, q (p.ctr k % 4096) = false → sameRegs q s { s with regs := FMap.erase s.regs (p.ctr k) } := by
    intro q hq b hb
    show FMap.get? (FMap.erase s.regs (p.ctr k)) b = FMap.get? s.regs b
    rw [FMap.get?_erase b c.2.1, if_neg]
    intro e
    rw [e, hq] at hb
    exact absurd hb (by decide)
  cases a <;> simp only [Area.same, implies_true, and_self]
  case counters => exact absurd ha (by decide)
  case ownRegs => exact ne _ (by simp only [Bool.and_eq_false_iff, decide_eq_false_iff_not]; omega)
  case commonRegs => exact ne _ (by simp only [decide_eq_false_iff_not]; omega)

theorem State.readReg_within {s f p off} : Within 142 s (State.readReg s f p off).2 := by
  unfold State.readReg
  repeat' (first
      | with_reducible intro _
      | with_reducible apply Within.refl
      | with_reducible apply Within.ite
      | (with_reducible apply Within.step; (with_reducible apply State.setReg_common); (first | decide | omega); decide)
      | (with_reducible apply Within.step; apply State.setReg_any; decide)
      | (with_reducible apply Within.step; apply State.popStop_within; decide)
      | (with_reducible apply Within.step; apply State.clearCtr_within; decide)
      | dsimp only
      | split)

theorem State.readHalf_within {s f p off} : Within 158 s (State.readHalf s f p off).2 := by
  unfold State.readHalf
  repeat' (first
      | (simp only [Within.mk_iff]; with_reducible apply WithinMk.put; (repeat' (first | (with_reducible exact OtpKept.refl _) | (with_reducible apply And.intro) | exact Or.inl (by decide) | exact Or.inr rfl | (with_reducible rfl) | (simp only [List.length_map, List.length_set, length_modifyAt]; done))))
      | with_reducible apply Within.refl
      | (with_reducible apply Within.step; apply State.readReg_within; decide)
      | dsimp only
      | split)

theorem State.readWord_within {s f off} : Within 158 s (State.readWord s f off).2 := by
  unfold State.readWord
  repeat' (first
      | with_reducible apply Within.refl
      | (with_reducible apply Within.step; apply State.readHalf_within; decide)
      | split)

theorem State.readPair_within {s f off} : Within 158 s (State.readPair s f off).2 := by
  unfold State.readPair
  repeat' (first
      | with_reducible apply Within.refl
      | (with_reducible apply Within.step; apply State.readReg_within; decide)
      | (with_reducible apply Within.step; apply State.readWord_within; decide)
      | dsimp only
      | split)

theorem execRcRegisterRead_within {f off size _partialBE s} : RWithin 8594141342 s (execRcRegisterRead f off size _partialBE s) := by
  unfold execRcRegisterRead
  repeat' (first
      | with_reducible intro _
      | with_reducible apply Within.refl
      | with_reducible apply Within.ite
      | with_reducible apply RWithin.atFn
      | (with_reducible apply Within.step; apply State.reject_within; decide)
      | (with_reducible apply State.fromFn_step; decide)
      | (with_reducible apply Within.step; apply State.readWord_within; decide)
      | (with_reducible apply Within.step; apply State.readPair_within; decide)
      | (with_reducible apply Within.step; apply State.emit_within; decide)
      | split)

end Sys2Proof.Machine
end

