-- ==== Sys2Proof/Laws/Fabric.lean ====
section
/-!
SUPPORT. What each operation of Machine/Fabric.lean can change, as a mask of the areas of Safety.lean: bit n of the mask is the
area that the declaration of `Area` lists as its n-th, from 0.
-/

set_option linter.unusedSimpArgs false
set_option linter.unusedVariables false

namespace Sys2Proof.Machine

theorem State.refusedWith_within {s p code} : Within 8589946894 s (State.refusedWith s p code).2 := by
  unfold State.refusedWith
  repeat' (first
      | with_reducible apply Within.refl
      | (with_reducible apply Within.step; apply State.refuse_within; decide))

theorem State.writeTableSelect_within {s d v} : Within 8589946894 s (State.writeTableSelect s d v).2 := by
  unfold State.writeTableSelect
  repeat' (first
      | with_reducible apply Within.refl
      | (with_reducible apply Within.step; (with_reducible apply State.setReg_own); (first | decide | omega); (first | decide | omega); decide)
      | (with_reducible apply Within.step; apply State.refusedWith_within; decide)
      | split)

theorem State.writeTableEntry_within {s d v} : Within 8657055758 s (State.writeTableEntry s d v).2 := by
  unfold State.writeTableEntry
  repeat' (first
      | with_reducible intro _
      | with_reducible apply Within.refl
      | with_reducible apply Within.ite
      | (with_reducible apply Within.step; (with_reducible apply State.setReg_own); (first | decide | omega); (first | decide | omega); decide)
      | (with_reducible apply Within.step; apply State.refusedWith_within; decide)
      | (with_reducible apply State.onRouter_step; decide)
      | exact ⟨by simp only [List.length_map, List.length_set, length_modifyAt], by simp only [List.length_map, List.length_set, length_modifyAt]⟩
      | (with_reducible apply Within.step; apply State.count_within; decide)
      | dsimp only
      | split)

theorem State.writeEditionCtl_within {s d v} : Within 17385390090 s (State.writeEditionCtl s d v) := by
  unfold State.writeEditionCtl
  repeat' (first
      | with_reducible intro _
      | with_reducible apply Within.refl
      | with_reducible assumption
      | with_reducible apply Within.ite
      | (with_reducible apply Within.step; (with_reducible apply State.setReg_own); (first | decide | omega); (first | decide | omega); decide)
      | (with_reducible apply Within.step; apply State.setPort_within; decide)
      | (with_reducible apply Within.step; apply State.reoffer_within; decide)
      | with_reducible apply Within.foldl)

theorem State.writeEndpointId_within {s d v} : Within 8589946894 s (State.writeEndpointId s d v).2 := by
  unfold State.writeEndpointId
  repeat' (first
      | with_reducible apply Within.refl
      | (with_reducible apply Within.step; (with_reducible apply State.setReg_own); (first | decide | omega); (first | decide | omega); decide)
      | (with_reducible apply Within.step; apply State.reject_within; decide)
      | dsimp only
      | split)

theorem State.writeRouteCtl_within {s d v} : Within 8589946894 s (State.writeRouteCtl s d v).2 := by
  unfold State.writeRouteCtl
  repeat' (first
      | with_reducible apply Within.refl
      | (with_reducible apply Within.step; (with_reducible apply State.setReg_own); (first | decide | omega); (first | decide | omega); decide)
      | (with_reducible apply Within.step; apply State.refusedWith_within; decide)
      | split)

theorem Written.out_step {W s} {w : Written} (h : Within W s w.2) : Within W s w.out.after := h

theorem State.mgmt_within {s d code arg0 arg1} : Within 30270304414 s (State.mgmt s d code arg0 arg1).after := by
  unfold State.mgmt
  repeat' (first
      | with_reducible intro _
      | with_reducible apply Within.refl
      | with_reducible assumption
      | with_reducible apply Within.ite
      | (with_reducible apply Within.step; apply State.fireDue_within; decide)
      | (with_reducible apply Within.step; apply State.writeEditionCtl_within; decide)
      | (with_reducible apply Within.step; (with_reducible apply State.setReg_own); (first | decide | omega); (first | decide | omega); decide)
      | (with_reducible apply Within.step; apply State.onTime_within; decide)
      | (with_reducible apply Within.step; apply State.trigger_within; decide)
      | (with_reducible apply Within.step; apply State.refusedWith_within; decide)
      | (with_reducible apply Within.step; apply State.writeEndpointId_within; decide)
      | (with_reducible apply Within.step; apply State.writeTableSelect_within; decide)
      | with_reducible apply Written.out_step
      | (with_reducible apply Within.step; apply State.writeRouteCtl_within; decide)
      | (with_reducible apply Within.step; apply State.count_within; decide)
      | (with_reducible apply Within.step; apply State.readWord_within; decide)
      | (with_reducible apply Within.step; apply State.writeTableEntry_within; decide)
      | (with_reducible apply State.eachDie_step; decide)
      | (with_reducible apply Within.step; apply State.setTimes_within; decide)
      | dsimp only
      | split)

theorem State.mgmtDrop_within {s} : Within 8 s (State.mgmtDrop s) := by
  unfold State.mgmtDrop
  repeat' (first
      | with_reducible apply Within.refl
      | (with_reducible apply Within.step; apply State.count_within; decide))

theorem State.mgmtResponse_within {s m code status value source dest} : Within 131072 s (State.mgmtResponse s m code status value source dest).2 := by
  unfold State.mgmtResponse
  repeat' (first
      | with_reducible intro _
      | with_reducible apply Within.refl
      | with_reducible apply Within.ite
      | (with_reducible apply Within.step; apply State.takeFree_within; decide))

theorem State.mgmtRun_within {s d code m} : Within 30270566558 s (State.mgmtRun s d code m).after := by
  unfold State.mgmtRun
  repeat' (first
      | with_reducible intro _
      | (simp only [SpineWithin.mk_iff]; first | (with_reducible apply SpineWithin.put) | ((with_reducible apply SpineWithin.put2); (with_reducible exact SpineWithin.refl _ _); (first | (with_reducible rfl) | (simp only [length_modifyAt])); (first | (with_reducible exact OtpKept.refl _) | exact ⟨rfl, rfl, rfl, rfl, rfl, rfl, fun _ h => h, fun _ h => h, Nat.le_max_left _ _, Nat.le_refl _⟩ | exact ⟨rfl, rfl, rfl, rfl, rfl, rfl, fun _ h => h, fun _ h => h, Nat.le_refl _, Nat.le_max_left _ _⟩); (first | exact Or.inl (by decide) | exact Or.inr rfl)))
      | with_reducible apply Within.refl
      | with_reducible apply SpineWithin.refl
      | (with_reducible apply State.onSpine_step; decide)
      | (with_reducible apply Within.step; apply State.mgmt_within; decide))

theorem State.mgmtFrom_within {s d code m} : Within 30304252830 s (State.mgmtFrom s d code m) := by
  unfold State.mgmtFrom
  repeat' (first
      | with_reducible intro _
      | with_reducible apply Within.refl
      | with_reducible apply Within.ite
      | (with_reducible apply Within.step; apply State.takeLocal_within; decide)
      | (with_reducible apply Within.step; apply State.inject_within; decide)
      | (with_reducible apply Within.step; apply State.mgmtRun_within; decide)
      | (with_reducible apply Within.step; apply State.mgmtDrop_within; decide)
      | (with_reducible apply Within.step; apply State.forwardingReset_within; decide)
      | (with_reducible apply Within.step; apply State.mgmtResponse_within; decide)
      | split)

theorem execReadRouter_within {d m s} : RWithin 30304252830 s (execReadRouter d m s) := by
  unfold execReadRouter
  repeat' (first
      | with_reducible apply Within.refl
      | with_reducible apply RWithin.atDie
      | (with_reducible apply Within.step; apply State.mgmtFrom_within; decide))

theorem execWriteTableEntry_within {d m s} : RWithin 30304252830 s (execWriteTableEntry d m s) := by
  unfold execWriteTableEntry
  repeat' (first
      | with_reducible apply Within.refl
      | with_reducible apply RWithin.atDie
      | (with_reducible apply Within.step; apply State.mgmtFrom_within; decide))

theorem execSetInjectEdition_within {d m s} : RWithin 30304252830 s (execSetInjectEdition d m s) := by
  unfold execSetInjectEdition
  repeat' (first
      | with_reducible apply Within.refl
      | with_reducible apply RWithin.atDie
      | (with_reducible apply Within.step; apply State.mgmtFrom_within; decide))

theorem execSetRelayRequired_within {d m s} : RWithin 30304252830 s (execSetRelayRequired d m s) := by
  unfold execSetRelayRequired
  repeat' (first
      | with_reducible apply Within.refl
      | with_reducible apply RWithin.atDie
      | (with_reducible apply Within.step; apply State.mgmtFrom_within; decide))

theorem execSetEndpointId_within {d m s} : RWithin 30304252830 s (execSetEndpointId d m s) := by
  unfold execSetEndpointId
  repeat' (first
      | with_reducible apply Within.refl
      | with_reducible apply RWithin.atDie
      | (with_reducible apply Within.step; apply State.mgmtFrom_within; decide))

theorem execSetRouteCtl_within {d m s} : RWithin 30304252830 s (execSetRouteCtl d m s) := by
  unfold execSetRouteCtl
  repeat' (first
      | with_reducible apply Within.refl
      | with_reducible apply RWithin.atDie
      | (with_reducible apply Within.step; apply State.mgmtFrom_within; decide))

theorem execResetForwardingPlane_within {d m s} : RWithin 30304252830 s (execResetForwardingPlane d m s) := by
  unfold execResetForwardingPlane
  repeat' (first
      | with_reducible apply Within.refl
      | with_reducible apply RWithin.atDie
      | (with_reducible apply Within.step; apply State.mgmtFrom_within; decide))

theorem execSetFabricTime_within {d m s} : RWithin 30304252830 s (execSetFabricTime d m s) := by
  unfold execSetFabricTime
  repeat' (first
      | with_reducible apply Within.refl
      | with_reducible apply RWithin.atDie
      | (with_reducible apply Within.step; apply State.mgmtFrom_within; decide))

theorem execAdjustFabricTime_within {d m s} : RWithin 30304252830 s (execAdjustFabricTime d m s) := by
  unfold execAdjustFabricTime
  repeat' (first
      | with_reducible apply Within.refl
      | with_reducible apply RWithin.atDie
      | (with_reducible apply Within.step; apply State.mgmtFrom_within; decide))

theorem execSetPtp_within {d m s} : RWithin 30304252830 s (execSetPtp d m s) := by
  unfold execSetPtp
  repeat' (first
      | with_reducible apply Within.refl
      | with_reducible apply RWithin.atDie
      | (with_reducible apply Within.step; apply State.mgmtFrom_within; decide))

theorem execArmCaptureAt_within {d m s} : RWithin 30304252830 s (execArmCaptureAt d m s) := by
  unfold execArmCaptureAt
  repeat' (first
      | with_reducible apply Within.refl
      | with_reducible apply RWithin.atDie
      | (with_reducible apply Within.step; apply State.mgmtFrom_within; decide))

theorem execTriggerCapture_within {d m s} : RWithin 30304252830 s (execTriggerCapture d m s) := by
  unfold execTriggerCapture
  repeat' (first
      | with_reducible apply Within.refl
      | with_reducible apply RWithin.atDie
      | (with_reducible apply Within.step; apply State.mgmtFrom_within; decide))

theorem execReadFabricTime_within {d m s} : RWithin 30304252830 s (execReadFabricTime d m s) := by
  unfold execReadFabricTime
  repeat' (first
      | with_reducible apply Within.refl
      | with_reducible apply RWithin.atDie
      | (with_reducible apply Within.step; apply State.mgmtFrom_within; decide))

end Sys2Proof.Machine
end

