-- ==== Sys2Proof/Laws/Mailbox.lean ====
section
/-!
SUPPORT. What each operation of Machine/Mailbox.lean can change, as a mask of the areas of Safety.lean: bit n of the mask is the
area that the declaration of `Area` lists as its n-th, from 0.
-/

set_option linter.unusedSimpArgs false
set_option linter.unusedVariables false

namespace Sys2Proof.Machine

theorem State.mbxEnd_within {s command result response} : Within 4198446 s (State.mbxEnd s command result response) := by
  unfold State.mbxEnd
  repeat' (first
      | with_reducible intro _
      | with_reducible apply Within.refl
      | with_reducible apply Within.ite
      | (with_reducible apply Within.step; apply State.issueHost_within; decide)
      | (with_reducible apply Within.step; (with_reducible apply State.setReg_own); (first | decide | omega); (first | decide | omega); decide)
      | (with_reducible apply Within.step; apply State.raise_within; decide))

theorem State.mbxStatus_within {s} : Within 4198446 s (State.mbxStatus s) := by
  unfold State.mbxStatus
  repeat' (first
      | with_reducible apply Within.refl
      | (with_reducible apply Within.step; apply State.mbxEnd_within; decide))

theorem State.mbxAttest_within {s request} : Within 4329518 s (State.mbxAttest s request) := by
  unfold State.mbxAttest
  repeat' (first
      | with_reducible intro _
      | with_reducible apply Within.refl
      | with_reducible apply Within.ite
      | (with_reducible apply Within.step; apply State.mbxEnd_within; decide)
      | (with_reducible apply Within.step; apply State.attestReport_within; decide))

theorem State.mbxFabricKey_within {s b} : Within 4460590 s (State.mbxFabricKey s b) := by
  unfold State.mbxFabricKey
  repeat' (first
      | with_reducible intro _
      | (simp only [SpineWithin.mk_iff]; first | (with_reducible apply SpineWithin.put) | ((with_reducible apply SpineWithin.put2); (with_reducible exact SpineWithin.refl _ _); (first | (with_reducible rfl) | (simp only [length_modifyAt])); (first | (with_reducible exact OtpKept.refl _) | exact ⟨rfl, rfl, rfl, rfl, rfl, rfl, fun _ h => h, fun _ h => h, Nat.le_max_left _ _, Nat.le_refl _⟩ | exact ⟨rfl, rfl, rfl, rfl, rfl, rfl, fun _ h => h, fun _ h => h, Nat.le_refl _, Nat.le_max_left _ _⟩); (first | exact Or.inl (by decide) | exact Or.inr rfl)))
      | with_reducible apply Within.refl
      | with_reducible apply Within.ite
      | with_reducible apply SpineWithin.refl
      | (with_reducible apply Within.step; apply State.mbxEnd_within; decide)
      | (with_reducible apply State.onSpine_step; decide)
      | split)

theorem State.mbxFabric_within {s d r} : Within 30304252862 s (State.mbxFabric s d r) := by
  unfold State.mbxFabric
  repeat' (first
      | with_reducible intro _
      | with_reducible apply Within.refl
      | with_reducible apply Within.ite
      | (with_reducible apply Within.step; apply State.mbxEnd_within; decide)
      | (with_reducible apply Within.step; apply State.mgmtRun_within; decide)
      | (with_reducible apply Within.step; apply State.mgmtDrop_within; decide)
      | (with_reducible apply Within.step; apply State.forwardingReset_within; decide)
      | (with_reducible apply Within.step; apply State.mgmtResponse_within; decide))

theorem Spine.confirm_within {x : Spine} : SpineWithin 524288 x x.confirm :=
  ⟨⟨rfl, rfl, rfl, rfl, rfl, rfl, fun _ h => h, fun _ h => h, Nat.le_refl _, Nat.le_max_left _ _⟩,
    by simp only [Spine.confirm, length_modifyAt], Or.inl (by decide)⟩

theorem State.mbxConfirm_within {s} : Within 4984878 s (State.mbxConfirm s) := by
  unfold State.mbxConfirm
  repeat' (first
      | with_reducible intro _
      | with_reducible apply Within.refl
      | with_reducible apply Within.ite
      | with_reducible apply SpineWithin.refl
      | (with_reducible apply Within.step; apply State.mbxEnd_within; decide)
      | (with_reducible apply State.onSpine_step; decide)
      | (with_reducible apply SpineWithin.step; apply Spine.confirm_within; decide))

theorem State.mbxChallenge_within {s} : Within 4591662 s (State.mbxChallenge s) := by
  unfold State.mbxChallenge
  repeat' (first
      | with_reducible intro _
      | (simp only [SpineWithin.mk_iff]; first | (with_reducible apply SpineWithin.put) | ((with_reducible apply SpineWithin.put2); (with_reducible exact SpineWithin.refl _ _); (first | (with_reducible rfl) | (simp only [length_modifyAt])); (first | (with_reducible exact OtpKept.refl _) | exact ⟨rfl, rfl, rfl, rfl, rfl, rfl, fun _ h => h, fun _ h => h, Nat.le_max_left _ _, Nat.le_refl _⟩ | exact ⟨rfl, rfl, rfl, rfl, rfl, rfl, fun _ h => h, fun _ h => h, Nat.le_refl _, Nat.le_max_left _ _⟩); (first | exact Or.inl (by decide) | exact Or.inr rfl)))
      | with_reducible apply Within.refl
      | with_reducible apply SpineWithin.refl
      | (with_reducible apply Within.step; apply State.mbxEnd_within; decide)
      | (with_reducible apply State.onSpine_step; decide)
      | (with_reducible apply Within.step; apply State.takeFreeBytes_within; decide))

theorem State.unlock_within {s} : Within 137439232000 s (State.unlock s) := by
  unfold State.unlock
  repeat' (first
      | with_reducible intro _
      | (simp only [Within.mk_iff]; with_reducible apply WithinMk.put; (repeat' (first | (with_reducible exact OtpKept.refl _) | (with_reducible apply And.intro) | exact Or.inl (by decide) | exact Or.inr rfl | (with_reducible rfl) | (simp only [List.length_map, List.length_set, length_modifyAt]; done))))
      | (simp only [SpineWithin.mk_iff]; first | (with_reducible apply SpineWithin.put) | ((with_reducible apply SpineWithin.put2); (with_reducible exact SpineWithin.refl _ _); (first | (with_reducible rfl) | (simp only [length_modifyAt])); (first | (with_reducible exact OtpKept.refl _) | exact ⟨rfl, rfl, rfl, rfl, rfl, rfl, fun _ h => h, fun _ h => h, Nat.le_max_left _ _, Nat.le_refl _⟩ | exact ⟨rfl, rfl, rfl, rfl, rfl, rfl, fun _ h => h, fun _ h => h, Nat.le_refl _, Nat.le_max_left _ _⟩); (first | exact Or.inl (by decide) | exact Or.inr rfl)))
      | (with_reducible apply DieWithin.mk <;> (first | exact fun e => absurd e (by decide) | exact fun _ => rfl | exact fun _ => ⟨rfl, rfl, rfl⟩ | exact fun e => e | exact fun e => .trans (by simp only [Die.units, List.length_map, List.length_set, length_modifyAt]) e))
      | with_reducible apply Within.refl
      | with_reducible assumption
      | with_reducible apply SpineWithin.refl
      | (with_reducible apply State.onSpine_step; decide)
      | (with_reducible apply State.eachDie_step; decide)
      | with_reducible apply Within.onDie)

theorem State.mbxUnlock_within {s t} : Within 137443430446 s (State.mbxUnlock s t) := by
  unfold State.mbxUnlock
  repeat' (first
      | with_reducible intro _
      | with_reducible apply Within.refl
      | with_reducible apply Within.ite
      | (with_reducible apply Within.step; apply State.mbxEnd_within; decide)
      | (with_reducible apply Within.step; apply State.unlock_within; decide))

theorem State.policyViolation_within {s} : Within 8589946894 s (State.policyViolation s) := by
  unfold State.policyViolation
  repeat' (first
      | with_reducible apply Within.refl
      | (with_reducible apply Within.step; apply State.refuse_within; decide)
      | (with_reducible apply Within.step; apply State.raise_within; decide)
      | (with_reducible apply Within.step; apply State.count_within; decide))

theorem State.mbxRamp_within {s r} : Within 8594141230 s (State.mbxRamp s r) := by
  unfold State.mbxRamp
  repeat' (first
      | with_reducible intro _
      | with_reducible apply Within.refl
      | with_reducible apply Within.ite
      | (with_reducible apply Within.step; apply State.mbxEnd_within; decide)
      | (with_reducible apply Within.step; apply State.applyRecord_within; decide)
      | (with_reducible apply Within.step; apply State.policyViolation_within; decide))

theorem State.mbxCommand_within {s v} : Within 167743747006 s (State.mbxCommand s v) := by
  unfold State.mbxCommand
  repeat' (first
      | with_reducible apply Within.refl
      | (with_reducible apply Within.step; apply State.mbxEnd_within; decide)
      | (with_reducible apply Within.step; apply State.mbxFabricKey_within; decide)
      | (with_reducible apply Within.step; apply State.mbxChallenge_within; decide)
      | (with_reducible apply Within.step; apply State.mbxConfirm_within; decide)
      | (with_reducible apply Within.step; apply State.takeFreeBytes_within; decide)
      | (with_reducible apply Within.step; apply State.mbxStatus_within; decide)
      | (with_reducible apply Within.step; apply State.mbxAttest_within; decide)
      | (with_reducible apply Within.step; apply State.mbxUnlock_within; decide)
      | (with_reducible apply Within.step; apply State.mbxRamp_within; decide)
      | (with_reducible apply Within.step; apply State.mbxFabric_within; decide)
      | dsimp only
      | split)

theorem execGetStatus_within {s} : RWithin 4198446 s (execGetStatus s) := by
  unfold execGetStatus
  repeat' (first
      | with_reducible apply Within.refl
      | with_reducible apply RWithin.next
      | (with_reducible apply State.fromFn_step; decide)
      | (with_reducible apply Within.step; apply State.mbxStatus_within; decide))

theorem execAttest_within {request s} : RWithin 4329518 s (execAttest request s) := by
  unfold execAttest
  repeat' (first
      | with_reducible apply Within.refl
      | with_reducible apply RWithin.next
      | (with_reducible apply State.fromFn_step; decide)
      | (with_reducible apply Within.step; apply State.mbxAttest_within; decide))

theorem execLoadFabricKey_within {request s} : RWithin 4460590 s (execLoadFabricKey request s) := by
  unfold execLoadFabricKey
  repeat' (first
      | with_reducible apply Within.refl
      | with_reducible apply RWithin.next
      | (with_reducible apply Within.step; apply State.mbxFabricKey_within; decide)
      | (with_reducible apply State.fromFn_step; decide))

theorem execFabricCmd_within {d request s} : RWithin 30304252862 s (execFabricCmd d request s) := by
  unfold execFabricCmd
  repeat' (first
      | with_reducible apply Within.refl
      | with_reducible apply RWithin.atDie
      | (with_reducible apply State.fromFn_step; decide)
      | (with_reducible apply Within.step; apply State.mbxFabric_within; decide))

theorem execConfirmQuire_within {s} : RWithin 4984878 s (execConfirmQuire s) := by
  unfold execConfirmQuire
  repeat' (first
      | with_reducible apply Within.refl
      | with_reducible apply RWithin.next
      | (with_reducible apply Within.step; apply State.mbxConfirm_within; decide)
      | (with_reducible apply State.fromFn_step; decide))

theorem execDebugChallenge_within {s} : RWithin 4591662 s (execDebugChallenge s) := by
  unfold execDebugChallenge
  repeat' (first
      | with_reducible apply Within.refl
      | with_reducible apply RWithin.next
      | (with_reducible apply Within.step; apply State.mbxChallenge_within; decide)
      | (with_reducible apply State.fromFn_step; decide))

theorem execDebugUnlock_within {request s} : RWithin 137443430446 s (execDebugUnlock request s) := by
  unfold execDebugUnlock
  repeat' (first
      | with_reducible apply Within.refl
      | with_reducible apply RWithin.next
      | (with_reducible apply State.fromFn_step; decide)
      | (with_reducible apply Within.step; apply State.mbxUnlock_within; decide))

theorem execApproveRampTable_within {request s} : RWithin 8594141230 s (execApproveRampTable request s) := by
  unfold execApproveRampTable
  repeat' (first
      | with_reducible apply Within.refl
      | with_reducible apply RWithin.next
      | (with_reducible apply State.fromFn_step; decide)
      | (with_reducible apply Within.step; apply State.mbxRamp_within; decide))

end Sys2Proof.Machine
end

