-- ==== Sys2Proof/Laws/RegWrite.lean ====
section
/-!
SUPPORT. What each operation of Machine/RegWrite.lean can change, as a mask of the areas of Safety.lean: bit n of the mask is the
area that the declaration of `Area` lists as its n-th, from 0.
-/

set_option linter.unusedSimpArgs false
set_option linter.unusedVariables false

namespace Sys2Proof.Machine

theorem afterOf_step {W s t r} (hr : RWithin W s r) (h : Within W s t) : Within W s (afterOf r t) := by
  cases r
  · exact hr _ rfl
  · exact h
  · exact h

theorem State.deny_within {s p code} : Within 8589946894 s (State.deny s p code) := by
  unfold State.deny
  repeat' (first
      | with_reducible intro _
      | with_reducible apply Within.refl
      | with_reducible apply Within.ite
      | (with_reducible apply Within.step; apply State.refuse_within; decide)
      | (with_reducible apply Within.step; apply State.reject_within; decide))

theorem State.resetPage_within {s f p} : Within 547574251519 s (State.resetPage s f p) := by
  unfold State.resetPage
  repeat' (first
      | with_reducible intro _
      | (with_reducible apply DieWithin.mk <;> (first | exact fun e => absurd e (by decide) | exact fun _ => rfl | exact fun _ => ⟨rfl, rfl, rfl⟩ | exact fun e => e | exact fun e => .trans (by simp only [Die.units, List.length_map, List.length_set, length_modifyAt]) e))
      | with_reducible apply Within.refl
      | with_reducible apply Within.ite
      | (with_reducible apply Within.step; apply State.reject_within; decide)
      | (with_reducible apply Within.step; apply State.enterComputeReset_within; decide)
      | (with_reducible apply Within.step; apply State.packageWarm_within; decide)
      | with_reducible apply Within.onDie
      | split)

theorem State.writeBlkCtl_within {s f p v} : Within 547574251519 s (State.writeBlkCtl s f p v) := by
  unfold State.writeBlkCtl
  repeat' (first
      | with_reducible intro _
      | with_reducible apply Within.refl
      | with_reducible apply Within.ite
      | (with_reducible apply Within.step; (with_reducible apply State.setReg_common); (first | decide | omega); decide)
      | (with_reducible apply Within.step; apply State.reject_within; decide)
      | (with_reducible apply Within.step; apply State.clearErrors_within; decide)
      | (with_reducible apply Within.step; apply State.arm_within; decide)
      | (with_reducible apply Within.step; apply State.resetPage_within; decide)
      | (with_reducible apply Within.step; apply State.requestPower_within; decide)
      | dsimp only
      | split)

theorem State.clearRaw_within {s p v} : Within 4100 s (State.clearRaw s p v) := by
  unfold State.clearRaw
  repeat' (first
      | with_reducible intro _
      | with_reducible apply Within.refl
      | with_reducible apply Within.ite
      | (with_reducible apply Within.step; (with_reducible apply State.setReg_common); (first | decide | omega); decide)
      | (with_reducible apply Within.step; apply State.furtherMessages_within; decide))

theorem State.writeEnable_within {s p v} : Within 4100 s (State.writeEnable s p v) := by
  unfold State.writeEnable
  repeat' (first
      | with_reducible apply Within.refl
      | (with_reducible apply Within.step; (with_reducible apply State.setReg_common); (first | decide | omega); decide)
      | (with_reducible apply Within.step; apply State.furtherMessages_within; decide))

theorem State.setRaw_within {s p v} : Within 4100 s (State.setRaw s p v) := by
  unfold State.setRaw
  repeat' (first
      | with_reducible intro _
      | with_reducible apply Within.refl
      | with_reducible apply Within.ite
      | (with_reducible apply Within.step; apply State.raise_within; decide))

theorem State.writeIntVec_within {s p v} : Within 8589946894 s (State.writeIntVec s p v) := by
  unfold State.writeIntVec
  repeat' (first
      | with_reducible intro _
      | with_reducible apply Within.refl
      | with_reducible apply Within.ite
      | (with_reducible apply Within.step; (with_reducible apply State.setReg_common); (first | decide | omega); decide)
      | (with_reducible apply Within.step; apply State.reject_within; decide))

theorem State.clearFe_within {s p v} : Within 4 s (State.clearFe s p v) := by
  unfold State.clearFe
  repeat' (first
      | with_reducible intro _
      | with_reducible apply Within.refl
      | with_reducible assumption
      | with_reducible apply Within.ite
      | (with_reducible apply Within.step; (with_reducible apply State.setReg_common); (first | decide | omega); decide)
      | with_reducible apply Within.foldl_mem
      | (with_reducible apply Within.step; (with_reducible apply State.setReg_common); (simp only [List.mem_range] at *; omega); decide))

theorem State.writeCommon_within {s f p off v} : Within 547574251519 s (State.writeCommon s f p off v) := by
  unfold State.writeCommon
  repeat' (first
      | with_reducible apply Within.refl
      | (with_reducible apply Within.step; apply State.setRaw_within; decide)
      | (with_reducible apply Within.step; apply State.writeEnable_within; decide)
      | (with_reducible apply Within.step; apply State.writeIntVec_within; decide)
      | (with_reducible apply Within.step; apply State.clearRaw_within; decide)
      | (with_reducible apply Within.step; apply State.clearFe_within; decide)
      | (with_reducible apply Within.step; apply State.writeBlkCtl_within; decide)
      | split)

theorem State.writeAdminCtl_within {s p v} : Within 8594141326 s (State.writeAdminCtl s p v) := by
  unfold State.writeAdminCtl
  repeat' (first
      | with_reducible intro _
      | with_reducible apply Within.refl
      | with_reducible apply Within.ite
      | (with_reducible apply Within.step; (with_reducible apply State.setReg_own); (first | decide | omega); (first | decide | omega); decide)
      | (with_reducible apply RWithin.mono; apply execAdminQueueDisable_within; decide)
      | (with_reducible apply Within.step; apply State.refuse_within; decide)
      | (with_reducible apply Within.step; apply State.reject_within; decide)
      | with_reducible apply afterOf_step
      | (with_reducible apply RWithin.mono; apply execAdminQueueEnable_within; decide))

theorem State.writeQueuePage_within {s p off v} : Within 8594142606 s (State.writeQueuePage s p off v) := by
  unfold State.writeQueuePage
  repeat' (first
      | with_reducible intro _
      | with_reducible apply Within.refl
      | with_reducible apply Within.ite
      | (with_reducible apply RWithin.mono; apply execQueueDisable_within; decide)
      | (with_reducible apply Within.step; (with_reducible apply State.setReg_own); (first | decide | omega); (first | decide | omega); decide)
      | (with_reducible apply Within.step; apply State.writeAdminCtl_within; decide)
      | (with_reducible apply Within.step; apply State.reject_within; decide)
      | with_reducible apply afterOf_step
      | (with_reducible apply RWithin.mono; apply execQueueEnable_within; decide)
      | dsimp only
      | split)

theorem State.writeFnCtl_within {s f v} : Within 249531940783 s (State.writeFnCtl s f v) := by
  unfold State.writeFnCtl
  repeat' (first
      | with_reducible intro _
      | with_reducible apply Within.refl
      | with_reducible apply Within.ite
      | (with_reducible apply Within.step; apply State.refuse_within; decide)
      | (with_reducible apply RWithin.step; apply execFunctionDisable_within; decide)
      | with_reducible apply afterOf_step
      | (with_reducible apply RWithin.step; apply execFunctionEnable_within; decide)
      | (with_reducible apply Within.onFn; decide))

theorem State.writeFnPage_within {s p off v} : Within 249531940783 s (State.writeFnPage s p off v) := by
  unfold State.writeFnPage
  repeat' (first
      | with_reducible intro _
      | with_reducible apply Within.refl
      | with_reducible apply Within.ite
      | (with_reducible apply Within.step; (with_reducible apply State.setReg_own); (first | decide | omega); (first | decide | omega); decide)
      | (with_reducible apply Within.step; apply State.writeFnCtl_within; decide)
      | (with_reducible apply Within.step; apply State.writeDirtyCtl_within; decide)
      | (with_reducible apply Within.step; apply State.reject_within; decide)
      | (with_reducible apply Within.step; apply State.writeDirtyHead_within; decide)
      | split)

theorem State.enableLink_within {s d l v} : Within 25975328782 s (State.enableLink s d l v) := by
  unfold State.enableLink
  repeat' (first
      | with_reducible intro _
      | with_reducible apply Within.refl
      | with_reducible apply Within.ite
      | (with_reducible apply Within.step; (with_reducible apply State.setReg_own); (first | decide | omega); (first | decide | omega); decide)
      | (with_reducible apply Within.step; apply State.linkTrain_within; decide)
      | (with_reducible apply Within.step; apply State.linkDrop_within; decide))

theorem execLinkEnable_within {d port s} : RWithin 25975336974 s (execLinkEnable d port s) := by
  unfold execLinkEnable
  repeat' (first
      | with_reducible intro _
      | with_reducible apply Within.refl
      | (with_reducible apply atLink_step; decide)
      | (with_reducible apply State.fromFn_step; decide)
      | (with_reducible apply State.guarded_step; decide)
      | (with_reducible apply Within.step; apply State.enableLink_within; decide))

theorem execLinkDisable_within {d port s} : RWithin 25975336974 s (execLinkDisable d port s) := by
  unfold execLinkDisable
  repeat' (first
      | with_reducible intro _
      | with_reducible apply Within.refl
      | (with_reducible apply atLink_step; decide)
      | (with_reducible apply State.fromFn_step; decide)
      | (with_reducible apply State.guarded_step; decide)
      | (with_reducible apply Within.step; apply State.enableLink_within; decide))

theorem State.writeKeyCmd_within {s p v} : Within 8862594063 s (State.writeKeyCmd s p v) := by
  unfold State.writeKeyCmd
  repeat' (first
      | with_reducible intro _
      | with_reducible apply Within.refl
      | with_reducible apply Within.ite
      | (with_reducible apply RWithin.mono; apply execKeyLoad_within; decide)
      | with_reducible apply afterOf_step
      | (with_reducible apply RWithin.mono; apply execKeyErase_within; decide))

theorem State.settled_within {s p off v} : Within 26008891662 s (State.settled s p off v) := by
  unfold State.settled
  repeat' (first
      | with_reducible intro _
      | (simp only [Within.mk_iff]; with_reducible apply WithinMk.put; (repeat' (first | (with_reducible exact OtpKept.refl _) | (with_reducible apply And.intro) | exact Or.inl (by decide) | exact Or.inr rfl | (with_reducible rfl) | (simp only [List.length_map, List.length_set, length_modifyAt]; done))))
      | with_reducible apply Within.refl
      | with_reducible apply Within.ite
      | (with_reducible apply Within.step; apply State.fireDue_within; decide)
      | (with_reducible apply Within.step; (with_reducible apply State.setReg_own); (first | decide | omega); (first | decide | omega); decide)
      | (with_reducible apply Within.step; apply State.setReg_any; decide)
      | (with_reducible apply Within.step; apply State.enableEth_within; decide)
      | (with_reducible apply Within.step; apply State.enableLink_within; decide)
      | (with_reducible apply Within.step; apply State.onClass_within; decide)
      | dsimp only
      | split)

theorem State.writeStored_within {s p off v} : Within 26008891662 s (State.writeStored s p off v) := by
  unfold State.writeStored
  repeat' (first
      | with_reducible intro _
      | with_reducible apply Within.refl
      | with_reducible apply Within.ite
      | (with_reducible apply Within.step; apply State.settled_within; decide)
      | (with_reducible apply Within.step; apply State.reject_within; decide)
      | (with_reducible apply Within.step; apply State.deny_within; decide)
      | dsimp only
      | split)

theorem State.writeOwn_within {s p off v} : Within 272181985215 s (State.writeOwn s p off v) := by
  unfold State.writeOwn
  repeat' (first
      | with_reducible intro _
      | with_reducible apply Within.refl
      | with_reducible apply Within.ite
      | (with_reducible apply RWithin.mono; apply execQpWeightWrite_within; decide)
      | (with_reducible apply Within.step; apply State.writeFnPage_within; decide)
      | (with_reducible apply Within.step; apply State.clearTrip_within; decide)
      | (with_reducible apply Within.step; apply State.trigger_within; decide)
      | (with_reducible apply Within.step; apply State.refuse_within; decide)
      | (with_reducible apply Within.step; apply State.mbxCommand_within; decide)
      | with_reducible apply afterOf_step
      | (with_reducible apply Within.step; apply State.writePfc_within; decide)
      | (with_reducible apply Within.step; apply State.writeTherm_within; decide)
      | (with_reducible apply Within.step; apply State.writeQueuePage_within; decide)
      | (with_reducible apply Within.step; apply State.writeKeyCmd_within; decide)
      | (with_reducible apply Within.step; apply State.writeStored_within; decide)
      | split)

theorem State.writeReg_within {s f p off v} : Within 547608330239 s (State.writeReg s f p off v) := by
  unfold State.writeReg
  repeat' (first
      | with_reducible intro _
      | with_reducible apply Within.refl
      | with_reducible apply Within.ite
      | (with_reducible apply Within.step; apply State.writeCommon_within; decide)
      | (with_reducible apply Within.step; apply State.refuse_within; decide)
      | (with_reducible apply Within.step; apply State.writeOwn_within; decide)
      | (with_reducible apply Within.step; apply State.ctrReg_within; decide))

theorem State.writeHalf_within {s f p off v} : Within 547608330239 s (State.writeHalf s f p off v) := by
  unfold State.writeHalf
  repeat' (first
      | with_reducible intro _
      | (simp only [Within.mk_iff]; with_reducible apply WithinMk.put; (repeat' (first | (with_reducible exact OtpKept.refl _) | (with_reducible apply And.intro) | exact Or.inl (by decide) | exact Or.inr rfl | (with_reducible rfl) | (simp only [List.length_map, List.length_set, length_modifyAt]; done))))
      | with_reducible apply Within.refl
      | with_reducible apply Within.ite
      | (with_reducible apply Within.step; apply State.writeReg_within; decide))

theorem State.unmask_within {s f v} : Within 4194336 s (State.unmask s f v) := by
  unfold State.unmask
  repeat' (first
      | with_reducible intro _
      | with_reducible apply Within.refl
      | with_reducible apply Within.ite
      | (with_reducible apply Within.step; apply State.setMsix_within; decide)
      | (with_reducible apply Within.step; apply State.emit_within; decide))

theorem State.writeMsix_within {s f v w value} : Within 4194336 s (State.writeMsix s f v w value) := by
  unfold State.writeMsix
  repeat' (first
      | with_reducible intro _
      | with_reducible apply Within.refl
      | with_reducible apply Within.ite
      | (with_reducible apply Within.step; apply State.setMsix_within; decide)
      | (with_reducible apply Within.step; apply State.unmask_within; decide)
      | dsimp only
      | split)

theorem State.writeAt_within {s f off size v} : Within 547608330239 s (State.writeAt s f off size v) := by
  unfold State.writeAt
  repeat' (first
      | with_reducible intro _
      | with_reducible apply Within.refl
      | with_reducible apply Within.ite
      | (with_reducible apply Within.step; apply State.writeHalf_within; decide)
      | (with_reducible apply Within.step; apply State.writeMsix_within; decide)
      | (with_reducible apply Within.step; apply State.reject_within; decide)
      | (with_reducible apply State.guarded_step; decide)
      | (with_reducible apply Within.step; apply State.writeReg_within; decide)
      | dsimp only
      | split)

theorem State.writePartial_within {s f off} : Within 8589946894 s (State.writePartial s f off) := by
  unfold State.writePartial
  repeat' (first
      | with_reducible apply Within.refl
      | (with_reducible apply Within.step; apply State.reject_within; decide)
      | (with_reducible apply State.guarded_step; decide)
      | split)

theorem State.landed_step {W s t f o r} (hW : 8594141198 &&& W = 8594141198)
    (hr : Within W s r) (h : Within W s t) :
    Within W s (State.landed t f o r) := by
  unfold State.landed
  repeat' (first
      | with_reducible intro _
      | with_reducible assumption
      | with_reducible apply Within.ite
      | (with_reducible apply Within.step; (with_reducible apply State.reject_within); exact and_trans (by decide) hW)
      | (with_reducible apply State.fromFn_step; exact and_trans (by decide) hW))

theorem execRegisterWrite_within {f off size value partialBE s} : RWithin 547608330239 s (execRegisterWrite f off size value partialBE s) := by
  unfold execRegisterWrite
  repeat' (first
      | with_reducible intro _
      | with_reducible apply Within.refl
      | with_reducible apply Within.ite
      | with_reducible apply RWithin.atFn
      | (with_reducible apply Within.step; apply State.writePartial_within; decide)
      | (with_reducible apply State.landed_step; decide)
      | (with_reducible apply Within.step; apply State.writeAt_within; decide))

theorem State.writeRow_within {s f off reg v} : Within 547608330239 s (State.writeRow s f off reg v) := by
  unfold State.writeRow
  repeat' (first
      | with_reducible intro _
      | with_reducible apply Within.refl
      | with_reducible apply Within.ite
      | (with_reducible apply State.landed_step; decide)
      | (with_reducible apply Within.step; apply State.writeAt_within; decide)
      | split)

theorem execIntRawClear_within {f off bits s} : RWithin 547608330239 s (execIntRawClear f off bits s) := by
  unfold execIntRawClear
  repeat' (first
      | with_reducible apply Within.refl
      | with_reducible apply RWithin.atFn
      | (with_reducible apply Within.step; apply State.writeRow_within; decide))

theorem execIntEnWrite_within {f off value s} : RWithin 547608330239 s (execIntEnWrite f off value s) := by
  unfold execIntEnWrite
  repeat' (first
      | with_reducible apply Within.refl
      | with_reducible apply RWithin.atFn
      | (with_reducible apply Within.step; apply State.writeRow_within; decide))

theorem execIntSet_within {f off bits s} : RWithin 547608330239 s (execIntSet f off bits s) := by
  unfold execIntSet
  repeat' (first
      | with_reducible apply Within.refl
      | with_reducible apply RWithin.atFn
      | (with_reducible apply Within.step; apply State.writeRow_within; decide))

theorem execFeStatusClear_within {f off s} : RWithin 547608330239 s (execFeStatusClear f off s) := by
  unfold execFeStatusClear
  repeat' (first
      | with_reducible apply Within.refl
      | with_reducible apply RWithin.atFn
      | (with_reducible apply Within.step; apply State.writeRow_within; decide))

theorem execReset_within {f off key ctl s} : RWithin 547608330239 s (execReset f off key ctl s) := by
  unfold execReset
  repeat' (first
      | with_reducible apply Within.refl
      | with_reducible apply RWithin.atFn
      | (with_reducible apply Within.step; apply State.writeRow_within; decide))

theorem execColophonArm_within {f off key ctl s} : RWithin 547608330239 s (execColophonArm f off key ctl s) := by
  unfold execColophonArm
  repeat' (first
      | with_reducible apply Within.refl
      | with_reducible apply RWithin.atFn
      | (with_reducible apply Within.step; apply State.writeRow_within; decide))

theorem execColophonDisarm_within {f off key ctl s} : RWithin 547608330239 s (execColophonDisarm f off key ctl s) := by
  unfold execColophonDisarm
  repeat' (first
      | with_reducible apply Within.refl
      | with_reducible apply RWithin.atFn
      | (with_reducible apply Within.step; apply State.writeRow_within; decide))

theorem execClearErrors_within {f off key ctl s} : RWithin 547608330239 s (execClearErrors f off key ctl s) := by
  unfold execClearErrors
  repeat' (first
      | with_reducible apply Within.refl
      | with_reducible apply RWithin.atFn
      | (with_reducible apply Within.step; apply State.writeRow_within; decide))

theorem execMsixUnmask_within {f v s} : RWithin 4194336 s (execMsixUnmask f v s) := by
  unfold execMsixUnmask
  repeat' (first
      | with_reducible intro _
      | with_reducible apply Within.refl
      | with_reducible apply Within.ite
      | with_reducible apply RWithin.atFn
      | (with_reducible apply State.fromFn_step; decide)
      | (with_reducible apply Within.step; apply State.unmask_within; decide))

theorem execPoisonedBarWrite_within {f isRead s} : RWithin 4194304 s (execPoisonedBarWrite f isRead s) := by
  unfold execPoisonedBarWrite
  repeat' (first
      | with_reducible intro _
      | with_reducible apply Within.refl
      | with_reducible apply Within.ite
      | with_reducible apply RWithin.atFn
      | (with_reducible apply Within.step; apply State.emit_within; decide))

end Sys2Proof.Machine
end

