-- ==== Sys2Proof/Laws/FaultExec.lean ====
section
/-!
SUPPORT. What each operation of Machine/FaultExec.lean can change, as a mask of the areas of Safety.lean: bit n of the mask is the
area that the declaration of `Area` lists as its n-th, from 0.
-/

set_option linter.unusedSimpArgs false
set_option linter.unusedVariables false

namespace Sys2Proof.Machine

theorem State.tellWaiters_within {s d r} : Within 266762074031 s (State.tellWaiters s d r) := by
  unfold State.tellWaiters
  repeat' (first
      | with_reducible apply Within.refl
      | (with_reducible apply Within.step; apply State.retryCiphers_within; decide)
      | (with_reducible apply Within.step; apply State.retryCopies_within; decide)
      | (with_reducible apply Within.step; apply State.retryColl_within; decide)
      | (with_reducible apply Within.step; apply State.retryRuns_within; decide)
      | (with_reducible apply Within.step; apply State.qpResolve_within; decide))

theorem State.failWaiters_within {s d r} : Within 240518174476 s (State.failWaiters s d r) := by
  unfold State.failWaiters
  repeat' (first
      | with_reducible apply Within.refl
      | (with_reducible apply Within.step; apply State.qpAbort_within; decide)
      | (with_reducible apply Within.step; apply State.abortCiphers_within; decide)
      | (with_reducible apply Within.step; apply State.abortColl_within; decide)
      | (with_reducible apply Within.step; apply State.abortRuns_within; decide)
      | (with_reducible apply Within.step; apply State.abortCopies_within; decide))

theorem State.resolveFault_within {s f i d} : Within 266762074031 s (State.resolveFault s f i d) := by
  unfold State.resolveFault
  repeat' (first
      | with_reducible intro _
      | with_reducible apply Within.refl
      | with_reducible apply Within.ite
      | (with_reducible apply Within.step; apply State.tellWaiters_within; decide)
      | (with_reducible apply Within.step; apply State.adminEnd_within; decide)
      | (with_reducible apply Within.step; apply State.count_within; decide)
      | (with_reducible apply Within.step; apply State.freeFault_within; decide)
      | split)

theorem execFaultAbort_within {d record s} : RWithin 240786609932 s (execFaultAbort d record s) := by
  unfold execFaultAbort
  repeat' (first
      | with_reducible apply Within.refl
      | with_reducible apply RWithin.atDie
      | (with_reducible apply Within.step; apply State.admitHeldFaults_within; decide)
      | (with_reducible apply Within.step; apply State.onXlate_within; decide)
      | (with_reducible apply Within.step; apply State.faultEntry_within; decide)
      | (with_reducible apply Within.step; apply State.count_within; decide)
      | (with_reducible apply Within.step; apply State.failWaiters_within; decide)
      | dsimp only
      | split)

theorem State.setRoot_within {s d f root} : Within 266762074031 s (State.setRoot s d f root) := by
  unfold State.setRoot
  repeat' (first
      | with_reducible intro _
      | with_reducible apply Within.refl
      | with_reducible assumption
      | (with_reducible apply Within.step; apply State.tellWaiters_within; decide)
      | (with_reducible apply Within.step; apply State.admitHeldFaults_within; decide)
      | (with_reducible apply Within.step; apply State.dropTranslations_within; decide)
      | (with_reducible apply Within.step; apply State.dropFaults_within; decide)
      | (with_reducible apply Within.step; apply State.onXlate_within; decide)
      | (with_reducible apply Within.step; apply State.dropTiles_within; decide)
      | with_reducible apply Within.foldl)

theorem State.setPageTableRoot_within {s f i d} : Within 266762074031 s (State.setPageTableRoot s f i d) := by
  unfold State.setPageTableRoot
  repeat' (first
      | with_reducible intro _
      | with_reducible apply Within.refl
      | with_reducible apply Within.ite
      | (with_reducible apply Within.step; apply State.adminEnd_within; decide)
      | (with_reducible apply Within.step; apply State.setRoot_within; decide)
      | split)

end Sys2Proof.Machine
end

