-- ==== Sys2Proof/Laws/Forwarding.lean ====
section
/-!
SUPPORT. What each operation of Machine/Forwarding.lean can change, as a mask of the areas of Safety.lean: bit n of the mask is the
area that the declaration of `Area` lists as its n-th, from 0.
-/

set_option linter.unusedSimpArgs false
set_option linter.unusedVariables false

namespace Sys2Proof.Machine

theorem State.routeReplicated_within {s d port x} : Within 232402335247 s (State.routeReplicated s d port x) := by
  unfold State.routeReplicated
  repeat' (first
      | with_reducible intro _
      | with_reducible apply Within.refl
      | with_reducible apply Within.ite
      | (with_reducible apply Within.step; apply State.replicate_within; decide)
      | (with_reducible apply Within.step; apply State.editionCount_within; decide)
      | (with_reducible apply Within.step; apply State.routerTally_within; decide)
      | (with_reducible apply Within.step; apply State.discard_within; decide)
      | split)

theorem State.routeOne_within {s d port x} : Within 232402335247 s (State.routeOne s d port x) := by
  unfold State.routeOne
  repeat' (first
      | with_reducible intro _
      | with_reducible apply Within.refl
      | with_reducible apply Within.ite
      | (with_reducible apply Within.step; apply State.routeReplicated_within; decide)
      | (with_reducible apply Within.step; apply State.discard_within; decide)
      | (with_reducible apply Within.step; apply State.forward_within; decide)
      | (with_reducible apply Within.step; apply State.forwardPackage_within; decide))

theorem execRoutePacket_within {d port s} : RWithin 232402335247 s (execRoutePacket d port s) := by
  unfold execRoutePacket
  repeat' (first
      | with_reducible intro _
      | with_reducible apply Within.refl
      | with_reducible apply RWithin.atUnit
      | (with_reducible apply Within.step; apply State.noteOccupancy_within; decide)
      | (with_reducible apply Within.step; apply State.routeOne_within; decide)
      | (with_reducible apply State.onRouter_step; decide)
      | exact ⟨by simp only [List.length_map, List.length_set, length_modifyAt], by simp only [List.length_map, List.length_set, length_modifyAt]⟩
      | dsimp only
      | split)

end Sys2Proof.Machine
end

