-- ==== Sys2Proof/Laws/Descriptors.lean ====
section
/-!
SUPPORT. What each operation of Machine/Descriptors.lean can change, as a mask of the areas of Safety.lean: bit n of the mask is the
area that the declaration of `Area` lists as its n-th, from 0.
-/

set_option linter.unusedSimpArgs false
set_option linter.unusedVariables false

namespace Sys2Proof.Machine

theorem State.settle_within {s f q} : Within 1160 s (State.settle s f q) := by
  unfold State.settle
  repeat' (first
      | with_reducible intro _
      | with_reducible apply Within.refl
      | with_reducible apply Within.ite
      | (with_reducible apply Within.step; apply State.stopQueue_within; decide)
      | split)

theorem State.beginAs_step {W s t f q m fr act} (hW : 1672 &&& W = 1672)
    (hact : ∀ u q i d, Within W s u → Within W s (act u q i d)) (h : Within W s t) :
    Within W s (State.beginAs t f q m fr act) := by
  unfold State.beginAs
  repeat' (first
      | with_reducible intro _
      | with_reducible assumption
      | with_reducible apply hact
      | with_reducible apply Within.ite
      | (with_reducible apply Within.step; (with_reducible apply State.stopQueue_within); exact and_trans (by decide) hW)
      | (with_reducible apply Within.step; (with_reducible apply State.beginSlot_within); exact and_trans (by decide) hW)
      | (with_reducible apply Within.step; (with_reducible apply State.settle_within); exact and_trans (by decide) hW)
      | split)

theorem execDescriptorFetchReturn_within {f q index slot s} : RWithin 268436616 s (execDescriptorFetchReturn f q index slot s) := by
  unfold execDescriptorFetchReturn
  repeat' (first
      | with_reducible apply Within.refl
      | with_reducible apply RWithin.atFn
      | (with_reducible apply Within.step; apply State.fetchReturn_within; decide)
      | (with_reducible apply Within.step; apply State.settle_within; decide))

theorem State.beginQp_within {s f q op} : Within 16779144 s (State.beginQp s f q op) := by
  unfold State.beginQp
  repeat' (first
      | with_reducible intro _
      | with_reducible apply Within.refl
      | with_reducible assumption
      | with_reducible apply Within.ite
      | (with_reducible apply Within.step; apply State.ctxFetch_within; decide)
      | (with_reducible apply State.beginAs_step; decide)
      | (with_reducible apply Within.step; apply State.beginTransport_within; decide))

theorem execWrite_within {f q s} : RWithin 16779144 s (execWrite f q s) := by
  unfold execWrite
  repeat' (first
      | with_reducible apply Within.refl
      | with_reducible apply RWithin.atFn
      | (with_reducible apply Within.step; apply State.beginQp_within; decide))

theorem execRead_within {f q s} : RWithin 16779144 s (execRead f q s) := by
  unfold execRead
  repeat' (first
      | with_reducible apply Within.refl
      | with_reducible apply RWithin.atFn
      | (with_reducible apply Within.step; apply State.beginQp_within; decide))

theorem execSend_within {f q s} : RWithin 16779144 s (execSend f q s) := by
  unfold execSend
  repeat' (first
      | with_reducible apply Within.refl
      | with_reducible apply RWithin.atFn
      | (with_reducible apply Within.step; apply State.beginQp_within; decide))

theorem execWriteNotify_within {f q s} : RWithin 16779144 s (execWriteNotify f q s) := by
  unfold execWriteNotify
  repeat' (first
      | with_reducible apply Within.refl
      | with_reducible apply RWithin.atFn
      | (with_reducible apply Within.step; apply State.beginQp_within; decide))

theorem execAtomicAdd_within {f q s} : RWithin 16779144 s (execAtomicAdd f q s) := by
  unfold execAtomicAdd
  repeat' (first
      | with_reducible apply Within.refl
      | with_reducible apply RWithin.atFn
      | (with_reducible apply Within.step; apply State.beginQp_within; decide))

theorem execStageIn_within {f q data s} : RWithin 8862578351 s (execStageIn f q data s) := by
  unfold execStageIn
  repeat' (first
      | with_reducible intro _
      | with_reducible apply Within.refl
      | with_reducible assumption
      | with_reducible apply RWithin.atFn
      | (with_reducible apply Within.step; apply State.onExec_within; decide)
      | (with_reducible apply State.beginAs_step; decide)
      | (with_reducible apply Within.step; apply State.runCopy_within; decide)
      | (with_reducible apply Within.step; apply State.emit_within; decide))

theorem execStageOut_within {f q s} : RWithin 8862578351 s (execStageOut f q s) := by
  unfold execStageOut
  repeat' (first
      | with_reducible intro _
      | with_reducible apply Within.refl
      | with_reducible assumption
      | with_reducible apply RWithin.atFn
      | (with_reducible apply State.beginAs_step; decide)
      | (with_reducible apply Within.step; apply State.runCopy_within; decide))

theorem execLocalCopy_within {f q s} : RWithin 8862578351 s (execLocalCopy f q s) := by
  unfold execLocalCopy
  repeat' (first
      | with_reducible intro _
      | with_reducible apply Within.refl
      | with_reducible assumption
      | with_reducible apply RWithin.atFn
      | (with_reducible apply State.beginAs_step; decide)
      | (with_reducible apply Within.step; apply State.runCopy_within; decide))

theorem execNop_within {f q s} : RWithin 1672 s (execNop f q s) := by
  unfold execNop
  repeat' (first
      | with_reducible intro _
      | with_reducible apply Within.refl
      | with_reducible assumption
      | with_reducible apply RWithin.atFn
      | (with_reducible apply State.beginAs_step; decide)
      | (with_reducible apply Within.step; apply State.finish_within; decide))

theorem execRunRecipe_within {f q s} : RWithin 180657075855 s (execRunRecipe f q s) := by
  unfold execRunRecipe
  repeat' (first
      | with_reducible intro _
      | with_reducible apply Within.refl
      | with_reducible assumption
      | with_reducible apply RWithin.atFn
      | (with_reducible apply State.beginAs_step; decide)
      | (with_reducible apply Within.step; apply State.runRecipe_within; decide))

theorem State.beginCollAs_within {s f q op} : Within 232402204303 s (State.beginCollAs s f q op) := by
  unfold State.beginCollAs
  repeat' (first
      | with_reducible intro _
      | with_reducible apply Within.refl
      | with_reducible assumption
      | (with_reducible apply State.beginAs_step; decide)
      | (with_reducible apply Within.step; apply State.beginColl_within; decide))

theorem execReduce_within {f q s} : RWithin 232402204303 s (execReduce f q s) := by
  unfold execReduce
  repeat' (first
      | with_reducible apply Within.refl
      | with_reducible apply RWithin.atFn
      | (with_reducible apply Within.step; apply State.beginCollAs_within; decide))

theorem execBroadcast_within {f q s} : RWithin 232402204303 s (execBroadcast f q s) := by
  unfold execBroadcast
  repeat' (first
      | with_reducible apply Within.refl
      | with_reducible apply RWithin.atFn
      | (with_reducible apply Within.step; apply State.beginCollAs_within; decide))

theorem execCipher_within {f q s} : RWithin 8858515087 s (execCipher f q s) := by
  unfold execCipher
  repeat' (first
      | with_reducible intro _
      | with_reducible apply Within.refl
      | with_reducible assumption
      | with_reducible apply RWithin.atFn
      | (with_reducible apply State.beginAs_step; decide)
      | (with_reducible apply Within.step; apply State.runCipher_within; decide))

theorem State.beginAdmin_step {W s t f m act} (hW : 1672 &&& W = 1672)
    (hact : ∀ u i d, Within W s u → Within W s (act u i d)) (h : Within W s t) :
    Within W s (State.beginAdmin t f m act) := by
  unfold State.beginAdmin
  repeat' (first
      | with_reducible intro _
      | with_reducible assumption
      | with_reducible apply hact
      | (with_reducible apply State.beginAs_step; exact and_trans (by decide) hW))

theorem State.pfOnly_step {W s t f i r} (hW : 512 &&& W = 512)
    (hr : Within W s r) (h : Within W s t) :
    Within W s (State.pfOnly t f i r) := by
  unfold State.pfOnly
  repeat' (first
      | with_reducible intro _
      | with_reducible assumption
      | with_reducible apply Within.ite
      | (with_reducible apply Within.step; (with_reducible apply State.adminEnd_within); exact and_trans (by decide) hW))

theorem execCreateQueue_within {f s} : RWithin 1672 s (execCreateQueue f s) := by
  unfold execCreateQueue
  repeat' (first
      | with_reducible intro _
      | with_reducible apply Within.refl
      | with_reducible assumption
      | with_reducible apply RWithin.atFn
      | (with_reducible apply State.beginAdmin_step; decide)
      | (with_reducible apply Within.step; apply State.createQueue_within; decide))

theorem execDestroyQueue_within {f s} : RWithin 1928 s (execDestroyQueue f s) := by
  unfold execDestroyQueue
  repeat' (first
      | with_reducible intro _
      | with_reducible apply Within.refl
      | with_reducible assumption
      | with_reducible apply RWithin.atFn
      | (with_reducible apply Within.step; apply State.destroyQueue_within; decide)
      | (with_reducible apply State.beginAdmin_step; decide))

theorem execSetArrivalRoute_within {f s} : RWithin 1704 s (execSetArrivalRoute f s) := by
  unfold execSetArrivalRoute
  repeat' (first
      | with_reducible intro _
      | with_reducible apply Within.refl
      | with_reducible assumption
      | with_reducible apply RWithin.atFn
      | (with_reducible apply State.beginAdmin_step; decide)
      | (with_reducible apply Within.step; apply State.setArrivalRoute_within; decide))

theorem execSetFunctionMode_within {f s} : RWithin 1704 s (execSetFunctionMode f s) := by
  unfold execSetFunctionMode
  repeat' (first
      | with_reducible intro _
      | with_reducible apply Within.refl
      | with_reducible assumption
      | with_reducible apply RWithin.atFn
      | (with_reducible apply State.beginAdmin_step; decide)
      | (with_reducible apply Within.step; apply State.setFunctionMode_within; decide))

theorem execCreateQp_within {f s} : RWithin 18312 s (execCreateQp f s) := by
  unfold execCreateQp
  repeat' (first
      | with_reducible intro _
      | with_reducible apply Within.refl
      | with_reducible assumption
      | with_reducible apply RWithin.atFn
      | (with_reducible apply State.beginAdmin_step; decide)
      | (with_reducible apply Within.step; apply State.createQp_within; decide))

theorem State.beginModify_step {W s t f m act} (hW : 1672 &&& W = 1672)
    (hact : ∀ u i d, Within W s u → Within W s (act u i d)) (h : Within W s t) :
    Within W s (State.beginModify t f m act) := by
  unfold State.beginModify
  repeat' (first
      | with_reducible intro _
      | with_reducible assumption
      | with_reducible apply hact
      | with_reducible apply Within.ite
      | (with_reducible apply State.beginAdmin_step; exact and_trans (by decide) hW)
      | (with_reducible apply Within.step; (with_reducible apply State.adminEnd_within); exact and_trans (by decide) hW))

theorem execToRtr_within {f s} : RWithin 1928 s (execToRtr f s) := by
  unfold execToRtr
  repeat' (first
      | with_reducible intro _
      | with_reducible apply Within.refl
      | with_reducible assumption
      | with_reducible apply RWithin.atFn
      | (with_reducible apply Within.step; apply State.toRtr_within; decide)
      | (with_reducible apply State.beginModify_step; decide))

theorem execToRts_within {f s} : RWithin 1928 s (execToRts f s) := by
  unfold execToRts
  repeat' (first
      | with_reducible intro _
      | with_reducible apply Within.refl
      | with_reducible assumption
      | with_reducible apply RWithin.atFn
      | (with_reducible apply Within.step; apply State.toRts_within; decide)
      | (with_reducible apply State.beginModify_step; decide))

theorem execToError_within {f s} : RWithin 1928 s (execToError f s) := by
  unfold execToError
  repeat' (first
      | with_reducible intro _
      | with_reducible apply Within.refl
      | with_reducible assumption
      | with_reducible apply RWithin.atFn
      | (with_reducible apply State.beginModify_step; decide)
      | (with_reducible apply Within.step; apply State.toError_within; decide))

theorem execToInit_within {f s} : RWithin 18312 s (execToInit f s) := by
  unfold execToInit
  repeat' (first
      | with_reducible intro _
      | with_reducible apply Within.refl
      | with_reducible assumption
      | with_reducible apply RWithin.atFn
      | (with_reducible apply State.beginModify_step; decide)
      | (with_reducible apply Within.step; apply State.toInit_within; decide))

theorem execSetLimits_within {f s} : RWithin 1928 s (execSetLimits f s) := by
  unfold execSetLimits
  repeat' (first
      | with_reducible intro _
      | with_reducible apply Within.refl
      | with_reducible assumption
      | with_reducible apply RWithin.atFn
      | (with_reducible apply State.beginModify_step; decide)
      | (with_reducible apply Within.step; apply State.setLimits_within; decide))

theorem execDestroyQp_within {f s} : RWithin 150996872 s (execDestroyQp f s) := by
  unfold execDestroyQp
  repeat' (first
      | with_reducible intro _
      | with_reducible apply Within.refl
      | with_reducible assumption
      | with_reducible apply RWithin.atFn
      | (with_reducible apply State.beginAdmin_step; decide)
      | (with_reducible apply Within.step; apply State.destroyQp_within; decide))

theorem execLoadRecipe_within {f bundle s} : RWithin 34363999880 s (execLoadRecipe f bundle s) := by
  unfold execLoadRecipe
  repeat' (first
      | with_reducible intro _
      | with_reducible apply Within.refl
      | with_reducible assumption
      | with_reducible apply Within.ite
      | with_reducible apply RWithin.atFn
      | (with_reducible apply State.beginAdmin_step; decide)
      | (with_reducible apply Within.step; apply State.adminEnd_within; decide)
      | (with_reducible apply Within.step; apply State.loadRecipe_within; decide)
      | (with_reducible apply Within.step; apply State.emit_within; decide))

theorem execUnloadRecipe_within {f s} : RWithin 67208 s (execUnloadRecipe f s) := by
  unfold execUnloadRecipe
  repeat' (first
      | with_reducible intro _
      | with_reducible apply Within.refl
      | with_reducible assumption
      | with_reducible apply RWithin.atFn
      | (with_reducible apply State.beginAdmin_step; decide)
      | (with_reducible apply Within.step; apply State.unloadRecipe_within; decide))

theorem State.beginTable_step {W s t f i b l act} (hW : 4195976 &&& W = 4195976)
    (hact : ∀ u i n d, Within W s u → Within W s (act u i n d)) (h : Within W s t) :
    Within W s (State.beginTable t f i b l act) := by
  unfold State.beginTable
  repeat' (first
      | with_reducible intro _
      | with_reducible assumption
      | with_reducible apply hact
      | with_reducible apply Within.ite
      | (with_reducible apply State.beginAdmin_step; exact and_trans (by decide) hW)
      | (with_reducible apply Within.step; (with_reducible apply State.adminEnd_within); exact and_trans (by decide) hW)
      | (with_reducible apply Within.step; (with_reducible apply State.emit_within); exact and_trans (by decide) hW))

theorem execFormatTable_within {f table s} : RWithin 4195978 s (execFormatTable f table s) := by
  unfold execFormatTable
  repeat' (first
      | with_reducible intro _
      | with_reducible apply Within.refl
      | with_reducible assumption
      | with_reducible apply RWithin.atFn
      | (with_reducible apply Within.step; apply State.formatTable_within; decide)
      | (with_reducible apply State.beginTable_step; decide))

theorem execSequenceTable_within {f table s} : RWithin 34363934344 s (execSequenceTable f table s) := by
  unfold execSequenceTable
  repeat' (first
      | with_reducible intro _
      | with_reducible apply Within.refl
      | with_reducible assumption
      | with_reducible apply RWithin.atFn
      | (with_reducible apply Within.step; apply State.sequenceTable_within; decide)
      | (with_reducible apply State.beginTable_step; decide))

theorem execCollationTable_within {f table s} : RWithin 137443149448 s (execCollationTable f table s) := by
  unfold execCollationTable
  repeat' (first
      | with_reducible intro _
      | with_reducible apply Within.refl
      | with_reducible assumption
      | with_reducible apply RWithin.atFn
      | (with_reducible apply Within.step; apply State.collationTable_within; decide)
      | (with_reducible apply State.beginTable_step; decide))

theorem execInvalidateRange_within {f s} : RWithin 268437128 s (execInvalidateRange f s) := by
  unfold execInvalidateRange
  repeat' (first
      | with_reducible intro _
      | with_reducible apply Within.refl
      | with_reducible assumption
      | with_reducible apply RWithin.atFn
      | (with_reducible apply State.beginAdmin_step; decide)
      | (with_reducible apply Within.step; apply State.invalidateRange_within; decide))

theorem execResolveFault_within {f s} : RWithin 266762074031 s (execResolveFault f s) := by
  unfold execResolveFault
  repeat' (first
      | with_reducible intro _
      | with_reducible apply Within.refl
      | with_reducible assumption
      | with_reducible apply RWithin.atFn
      | (with_reducible apply State.beginAdmin_step; decide)
      | (with_reducible apply Within.step; apply State.resolveFault_within; decide))

theorem execSetPageTableRoot_within {f s} : RWithin 266762074031 s (execSetPageTableRoot f s) := by
  unfold execSetPageTableRoot
  repeat' (first
      | with_reducible intro _
      | with_reducible apply Within.refl
      | with_reducible assumption
      | with_reducible apply RWithin.atFn
      | (with_reducible apply State.beginAdmin_step; decide)
      | (with_reducible apply Within.step; apply State.setPageTableRoot_within; decide))

theorem execResizePartition_within {f record s} : RWithin 172071327470 s (execResizePartition f record s) := by
  unfold execResizePartition
  repeat' (first
      | with_reducible intro _
      | with_reducible apply Within.refl
      | with_reducible assumption
      | with_reducible apply RWithin.atFn
      | (with_reducible apply State.beginAdmin_step; decide)
      | (with_reducible apply State.pfOnly_step; decide)
      | (with_reducible apply Within.step; apply State.resizePartition_within; decide))

theorem execDestroyPartition_within {f s} : RWithin 249594871791 s (execDestroyPartition f s) := by
  unfold execDestroyPartition
  repeat' (first
      | with_reducible intro _
      | with_reducible apply Within.refl
      | with_reducible assumption
      | with_reducible apply RWithin.atFn
      | (with_reducible apply Within.step; apply State.destroyPartition_within; decide)
      | (with_reducible apply State.beginAdmin_step; decide)
      | (with_reducible apply State.pfOnly_step; decide))

theorem execCreateGroup_within {f table s} : RWithin 68790781576 s (execCreateGroup f table s) := by
  unfold execCreateGroup
  repeat' (first
      | with_reducible intro _
      | with_reducible apply Within.refl
      | with_reducible assumption
      | with_reducible apply RWithin.atFn
      | (with_reducible apply State.beginAdmin_step; decide)
      | (with_reducible apply State.pfOnly_step; decide)
      | (with_reducible apply Within.step; apply State.createGroup_within; decide))

theorem execReformGroup_within {f table s} : RWithin 206229735048 s (execReformGroup f table s) := by
  unfold execReformGroup
  repeat' (first
      | with_reducible intro _
      | with_reducible apply Within.refl
      | with_reducible assumption
      | with_reducible apply RWithin.atFn
      | (with_reducible apply State.beginAdmin_step; decide)
      | (with_reducible apply State.pfOnly_step; decide)
      | (with_reducible apply Within.step; apply State.reformGroup_within; decide))

theorem execDestroyGroup_within {f s} : RWithin 68786587272 s (execDestroyGroup f s) := by
  unfold execDestroyGroup
  repeat' (first
      | with_reducible intro _
      | with_reducible apply Within.refl
      | with_reducible assumption
      | with_reducible apply RWithin.atFn
      | (with_reducible apply Within.step; apply State.destroyGroup_within; decide)
      | (with_reducible apply State.beginAdmin_step; decide)
      | (with_reducible apply State.pfOnly_step; decide))

theorem State.issueReadBack_within {s f q i r} : Within 512 s (State.issueReadBack s f q i r) := by
  unfold State.issueReadBack
  repeat' (first
      | with_reducible apply Within.refl
      | (with_reducible apply Within.step; apply State.onExec_within; decide))

theorem execReadBack_within {f q index s} : RWithin 205521672 s (execReadBack f q index s) := by
  unfold execReadBack
  repeat' (first
      | with_reducible intro _
      | with_reducible apply Within.refl
      | with_reducible apply Within.ite
      | with_reducible apply RWithin.atFn
      | (with_reducible apply Within.step; apply State.flushReturn_within; decide)
      | (with_reducible apply Within.ofSome; (with_reducible assumption); apply State.alramRead_within; decide)
      | (with_reducible apply Within.step; apply State.setQp_within; decide)
      | (with_reducible apply Within.step; apply State.issueReadBack_within; decide)
      | (with_reducible apply Within.step; apply State.count_within; decide)
      | (with_reducible apply Within.step; apply State.emit_within; decide)
      | with_reducible apply Within.getD
      | dsimp only
      | split)

end Sys2Proof.Machine
end

