-- ==== Sys2Proof/Laws/State.lean ====
section
/-!
SUPPORT. The named updates of State, field by field: what each leaves as it was, by definition; and what a read gives after a
write, of dies, registers, counters and memory.
-/

namespace Sys2Proof.Machine

/-! ### State.onDie -/

@[simp] theorem State.onDie_part (s : State) (d : Nat) (f : Die → Die) : (s.onDie d f).part = s.part := rfl
@[simp] theorem State.onDie_pending (s : State) (d : Nat) (f : Die → Die) : (s.onDie d f).pending = s.pending := rfl
@[simp] theorem State.onDie_now (s : State) (d : Nat) (f : Die → Die) : (s.onDie d f).now = s.now := rfl
@[simp] theorem State.onDie_free (s : State) (d : Nat) (f : Die → Die) : (s.onDie d f).free = s.free := rfl
@[simp] theorem State.onDie_mem (s : State) (d : Nat) (f : Die → Die) : (s.onDie d f).mem = s.mem := rfl
@[simp] theorem State.onDie_regs (s : State) (d : Nat) (f : Die → Die) : (s.onDie d f).regs = s.regs := rfl
@[simp] theorem State.onDie_totals (s : State) (d : Nat) (f : Die → Die) : (s.onDie d f).totals = s.totals := rfl
@[simp] theorem State.onDie_shadows (s : State) (d : Nat) (f : Die → Die) : (s.onDie d f).shadows = s.shadows := rfl
@[simp] theorem State.onDie_lowHalves (s : State) (d : Nat) (f : Die → Die) : (s.onDie d f).lowHalves = s.lowHalves := rfl
@[simp] theorem State.onDie_fns (s : State) (d : Nat) (f : Die → Die) : (s.onDie d f).fns = s.fns := rfl
@[simp] theorem State.onDie_rkOwner (s : State) (d : Nat) (f : Die → Die) : (s.onDie d f).rkOwner = s.rkOwner := rfl
@[simp] theorem State.onDie_granules (s : State) (d : Nat) (f : Die → Die) : (s.onDie d f).granules = s.granules := rfl
@[simp] theorem State.onDie_queues (s : State) (d : Nat) (f : Die → Die) : (s.onDie d f).queues = s.queues := rfl
@[simp] theorem State.onDie_qps (s : State) (d : Nat) (f : Die → Die) : (s.onDie d f).qps = s.qps := rfl
@[simp] theorem State.onDie_execs (s : State) (d : Nat) (f : Die → Die) : (s.onDie d f).execs = s.execs := rfl
@[simp] theorem State.onDie_doorbells (s : State) (d : Nat) (f : Die → Die) : (s.onDie d f).doorbells = s.doorbells := rfl
@[simp] theorem State.onDie_requests (s : State) (d : Nat) (f : Die → Die) : (s.onDie d f).requests = s.requests := rfl
@[simp] theorem State.onDie_stops (s : State) (d : Nat) (f : Die → Die) : (s.onDie d f).stops = s.stops := rfl
@[simp] theorem State.onDie_stopsLost (s : State) (d : Nat) (f : Die → Die) : (s.onDie d f).stopsLost = s.stopsLost := rfl
@[simp] theorem State.onDie_arrivals (s : State) (d : Nat) (f : Die → Die) : (s.onDie d f).arrivals = s.arrivals := rfl
@[simp] theorem State.onDie_colophonOut (s : State) (d : Nat) (f : Die → Die) : (s.onDie d f).colophonOut = s.colophonOut := rfl
@[simp] theorem State.onDie_thermAlert (s : State) (d : Nat) (f : Die → Die) : (s.onDie d f).thermAlert = s.thermAlert := rfl
@[simp] theorem State.onDie_brakePin (s : State) (d : Nat) (f : Die → Die) : (s.onDie d f).brakePin = s.brakePin := rfl
@[simp] theorem State.onDie_keys (s : State) (d : Nat) (f : Die → Die) : (s.onDie d f).keys = s.keys := rfl
@[simp] theorem State.onDie_ready (s : State) (d : Nat) (f : Die → Die) : (s.onDie d f).ready = s.ready := rfl
@[simp] theorem State.onDie_recipes (s : State) (d : Nat) (f : Die → Die) : (s.onDie d f).recipes = s.recipes := rfl
@[simp] theorem State.onDie_checks (s : State) (d : Nat) (f : Die → Die) : (s.onDie d f).checks = s.checks := rfl
@[simp] theorem State.onDie_spine (s : State) (d : Nat) (f : Die → Die) : (s.onDie d f).spine = s.spine := rfl
@[simp] theorem State.onDie_board (s : State) (d : Nat) (f : Die → Die) : (s.onDie d f).board = s.board := rfl
@[simp] theorem State.onDie_powerReq (s : State) (d : Nat) (f : Die → Die) : (s.onDie d f).powerReq = s.powerReq := rfl
@[simp] theorem State.onDie_powerRefused (s : State) (d : Nat) (f : Die → Die) : (s.onDie d f).powerRefused = s.powerRefused := rfl
@[simp] theorem State.onDie_powerMove (s : State) (d : Nat) (f : Die → Die) : (s.onDie d f).powerMove = s.powerMove := rfl
@[simp] theorem State.onDie_powerNext (s : State) (d : Nat) (f : Die → Die) : (s.onDie d f).powerNext = s.powerNext := rfl
@[simp] theorem State.onDie_outbox (s : State) (d : Nat) (f : Die → Die) : (s.onDie d f).outbox = s.outbox := rfl

/-! ### State.onFn -/

@[simp] theorem State.onFn_part (s : State) (f : Nat) (g : Fn → Fn) : (s.onFn f g).part = s.part := rfl
@[simp] theorem State.onFn_pending (s : State) (f : Nat) (g : Fn → Fn) : (s.onFn f g).pending = s.pending := rfl
@[simp] theorem State.onFn_now (s : State) (f : Nat) (g : Fn → Fn) : (s.onFn f g).now = s.now := rfl
@[simp] theorem State.onFn_free (s : State) (f : Nat) (g : Fn → Fn) : (s.onFn f g).free = s.free := rfl
@[simp] theorem State.onFn_mem (s : State) (f : Nat) (g : Fn → Fn) : (s.onFn f g).mem = s.mem := rfl
@[simp] theorem State.onFn_regs (s : State) (f : Nat) (g : Fn → Fn) : (s.onFn f g).regs = s.regs := rfl
@[simp] theorem State.onFn_totals (s : State) (f : Nat) (g : Fn → Fn) : (s.onFn f g).totals = s.totals := rfl
@[simp] theorem State.onFn_shadows (s : State) (f : Nat) (g : Fn → Fn) : (s.onFn f g).shadows = s.shadows := rfl
@[simp] theorem State.onFn_lowHalves (s : State) (f : Nat) (g : Fn → Fn) : (s.onFn f g).lowHalves = s.lowHalves := rfl
@[simp] theorem State.onFn_dies (s : State) (f : Nat) (g : Fn → Fn) : (s.onFn f g).dies = s.dies := rfl
@[simp] theorem State.onFn_rkOwner (s : State) (f : Nat) (g : Fn → Fn) : (s.onFn f g).rkOwner = s.rkOwner := rfl
@[simp] theorem State.onFn_granules (s : State) (f : Nat) (g : Fn → Fn) : (s.onFn f g).granules = s.granules := rfl
@[simp] theorem State.onFn_queues (s : State) (f : Nat) (g : Fn → Fn) : (s.onFn f g).queues = s.queues := rfl
@[simp] theorem State.onFn_qps (s : State) (f : Nat) (g : Fn → Fn) : (s.onFn f g).qps = s.qps := rfl
@[simp] theorem State.onFn_execs (s : State) (f : Nat) (g : Fn → Fn) : (s.onFn f g).execs = s.execs := rfl
@[simp] theorem State.onFn_doorbells (s : State) (f : Nat) (g : Fn → Fn) : (s.onFn f g).doorbells = s.doorbells := rfl
@[simp] theorem State.onFn_requests (s : State) (f : Nat) (g : Fn → Fn) : (s.onFn f g).requests = s.requests := rfl
@[simp] theorem State.onFn_stops (s : State) (f : Nat) (g : Fn → Fn) : (s.onFn f g).stops = s.stops := rfl
@[simp] theorem State.onFn_stopsLost (s : State) (f : Nat) (g : Fn → Fn) : (s.onFn f g).stopsLost = s.stopsLost := rfl
@[simp] theorem State.onFn_arrivals (s : State) (f : Nat) (g : Fn → Fn) : (s.onFn f g).arrivals = s.arrivals := rfl
@[simp] theorem State.onFn_colophonOut (s : State) (f : Nat) (g : Fn → Fn) : (s.onFn f g).colophonOut = s.colophonOut := rfl
@[simp] theorem State.onFn_thermAlert (s : State) (f : Nat) (g : Fn → Fn) : (s.onFn f g).thermAlert = s.thermAlert := rfl
@[simp] theorem State.onFn_brakePin (s : State) (f : Nat) (g : Fn → Fn) : (s.onFn f g).brakePin = s.brakePin := rfl
@[simp] theorem State.onFn_keys (s : State) (f : Nat) (g : Fn → Fn) : (s.onFn f g).keys = s.keys := rfl
@[simp] theorem State.onFn_ready (s : State) (f : Nat) (g : Fn → Fn) : (s.onFn f g).ready = s.ready := rfl
@[simp] theorem State.onFn_recipes (s : State) (f : Nat) (g : Fn → Fn) : (s.onFn f g).recipes = s.recipes := rfl
@[simp] theorem State.onFn_checks (s : State) (f : Nat) (g : Fn → Fn) : (s.onFn f g).checks = s.checks := rfl
@[simp] theorem State.onFn_spine (s : State) (f : Nat) (g : Fn → Fn) : (s.onFn f g).spine = s.spine := rfl
@[simp] theorem State.onFn_board (s : State) (f : Nat) (g : Fn → Fn) : (s.onFn f g).board = s.board := rfl
@[simp] theorem State.onFn_powerReq (s : State) (f : Nat) (g : Fn → Fn) : (s.onFn f g).powerReq = s.powerReq := rfl
@[simp] theorem State.onFn_powerRefused (s : State) (f : Nat) (g : Fn → Fn) : (s.onFn f g).powerRefused = s.powerRefused := rfl
@[simp] theorem State.onFn_powerMove (s : State) (f : Nat) (g : Fn → Fn) : (s.onFn f g).powerMove = s.powerMove := rfl
@[simp] theorem State.onFn_powerNext (s : State) (f : Nat) (g : Fn → Fn) : (s.onFn f g).powerNext = s.powerNext := rfl
@[simp] theorem State.onFn_outbox (s : State) (f : Nat) (g : Fn → Fn) : (s.onFn f g).outbox = s.outbox := rfl

/-! ### State.setReg -/

@[simp] theorem State.setReg_part (s : State) (p : Page) (off v : Nat) : (s.setReg p off v).part = s.part := rfl
@[simp] theorem State.setReg_pending (s : State) (p : Page) (off v : Nat) : (s.setReg p off v).pending = s.pending := rfl
@[simp] theorem State.setReg_now (s : State) (p : Page) (off v : Nat) : (s.setReg p off v).now = s.now := rfl
@[simp] theorem State.setReg_free (s : State) (p : Page) (off v : Nat) : (s.setReg p off v).free = s.free := rfl
@[simp] theorem State.setReg_mem (s : State) (p : Page) (off v : Nat) : (s.setReg p off v).mem = s.mem := rfl
@[simp] theorem State.setReg_totals (s : State) (p : Page) (off v : Nat) : (s.setReg p off v).totals = s.totals := rfl
@[simp] theorem State.setReg_shadows (s : State) (p : Page) (off v : Nat) : (s.setReg p off v).shadows = s.shadows := rfl
@[simp] theorem State.setReg_lowHalves (s : State) (p : Page) (off v : Nat) : (s.setReg p off v).lowHalves = s.lowHalves := rfl
@[simp] theorem State.setReg_dies (s : State) (p : Page) (off v : Nat) : (s.setReg p off v).dies = s.dies := rfl
@[simp] theorem State.setReg_fns (s : State) (p : Page) (off v : Nat) : (s.setReg p off v).fns = s.fns := rfl
@[simp] theorem State.setReg_rkOwner (s : State) (p : Page) (off v : Nat) : (s.setReg p off v).rkOwner = s.rkOwner := rfl
@[simp] theorem State.setReg_granules (s : State) (p : Page) (off v : Nat) : (s.setReg p off v).granules = s.granules := rfl
@[simp] theorem State.setReg_queues (s : State) (p : Page) (off v : Nat) : (s.setReg p off v).queues = s.queues := rfl
@[simp] theorem State.setReg_qps (s : State) (p : Page) (off v : Nat) : (s.setReg p off v).qps = s.qps := rfl
@[simp] theorem State.setReg_execs (s : State) (p : Page) (off v : Nat) : (s.setReg p off v).execs = s.execs := rfl
@[simp] theorem State.setReg_doorbells (s : State) (p : Page) (off v : Nat) : (s.setReg p off v).doorbells = s.doorbells := rfl
@[simp] theorem State.setReg_requests (s : State) (p : Page) (off v : Nat) : (s.setReg p off v).requests = s.requests := rfl
@[simp] theorem State.setReg_stops (s : State) (p : Page) (off v : Nat) : (s.setReg p off v).stops = s.stops := rfl
@[simp] theorem State.setReg_stopsLost (s : State) (p : Page) (off v : Nat) : (s.setReg p off v).stopsLost = s.stopsLost := rfl
@[simp] theorem State.setReg_arrivals (s : State) (p : Page) (off v : Nat) : (s.setReg p off v).arrivals = s.arrivals := rfl
@[simp] theorem State.setReg_colophonOut (s : State) (p : Page) (off v : Nat) : (s.setReg p off v).colophonOut = s.colophonOut := rfl
@[simp] theorem State.setReg_thermAlert (s : State) (p : Page) (off v : Nat) : (s.setReg p off v).thermAlert = s.thermAlert := rfl
@[simp] theorem State.setReg_brakePin (s : State) (p : Page) (off v : Nat) : (s.setReg p off v).brakePin = s.brakePin := rfl
@[simp] theorem State.setReg_keys (s : State) (p : Page) (off v : Nat) : (s.setReg p off v).keys = s.keys := rfl
@[simp] theorem State.setReg_ready (s : State) (p : Page) (off v : Nat) : (s.setReg p off v).ready = s.ready := rfl
@[simp] theorem State.setReg_recipes (s : State) (p : Page) (off v : Nat) : (s.setReg p off v).recipes = s.recipes := rfl
@[simp] theorem State.setReg_checks (s : State) (p : Page) (off v : Nat) : (s.setReg p off v).checks = s.checks := rfl
@[simp] theorem State.setReg_spine (s : State) (p : Page) (off v : Nat) : (s.setReg p off v).spine = s.spine := rfl
@[simp] theorem State.setReg_board (s : State) (p : Page) (off v : Nat) : (s.setReg p off v).board = s.board := rfl
@[simp] theorem State.setReg_powerReq (s : State) (p : Page) (off v : Nat) : (s.setReg p off v).powerReq = s.powerReq := rfl
@[simp] theorem State.setReg_powerRefused (s : State) (p : Page) (off v : Nat) : (s.setReg p off v).powerRefused = s.powerRefused := rfl
@[simp] theorem State.setReg_powerMove (s : State) (p : Page) (off v : Nat) : (s.setReg p off v).powerMove = s.powerMove := rfl
@[simp] theorem State.setReg_powerNext (s : State) (p : Page) (off v : Nat) : (s.setReg p off v).powerNext = s.powerNext := rfl
@[simp] theorem State.setReg_outbox (s : State) (p : Page) (off v : Nat) : (s.setReg p off v).outbox = s.outbox := rfl

/-! ### State.emit -/

@[simp] theorem State.emit_part (s : State) (o : Output) : (s.emit o).part = s.part := rfl
@[simp] theorem State.emit_pending (s : State) (o : Output) : (s.emit o).pending = s.pending := rfl
@[simp] theorem State.emit_now (s : State) (o : Output) : (s.emit o).now = s.now := rfl
@[simp] theorem State.emit_free (s : State) (o : Output) : (s.emit o).free = s.free := rfl
@[simp] theorem State.emit_mem (s : State) (o : Output) : (s.emit o).mem = s.mem := rfl
@[simp] theorem State.emit_regs (s : State) (o : Output) : (s.emit o).regs = s.regs := rfl
@[simp] theorem State.emit_totals (s : State) (o : Output) : (s.emit o).totals = s.totals := rfl
@[simp] theorem State.emit_shadows (s : State) (o : Output) : (s.emit o).shadows = s.shadows := rfl
@[simp] theorem State.emit_lowHalves (s : State) (o : Output) : (s.emit o).lowHalves = s.lowHalves := rfl
@[simp] theorem State.emit_dies (s : State) (o : Output) : (s.emit o).dies = s.dies := rfl
@[simp] theorem State.emit_fns (s : State) (o : Output) : (s.emit o).fns = s.fns := rfl
@[simp] theorem State.emit_rkOwner (s : State) (o : Output) : (s.emit o).rkOwner = s.rkOwner := rfl
@[simp] theorem State.emit_granules (s : State) (o : Output) : (s.emit o).granules = s.granules := rfl
@[simp] theorem State.emit_queues (s : State) (o : Output) : (s.emit o).queues = s.queues := rfl
@[simp] theorem State.emit_qps (s : State) (o : Output) : (s.emit o).qps = s.qps := rfl
@[simp] theorem State.emit_execs (s : State) (o : Output) : (s.emit o).execs = s.execs := rfl
@[simp] theorem State.emit_doorbells (s : State) (o : Output) : (s.emit o).doorbells = s.doorbells := rfl
@[simp] theorem State.emit_requests (s : State) (o : Output) : (s.emit o).requests = s.requests := rfl
@[simp] theorem State.emit_stops (s : State) (o : Output) : (s.emit o).stops = s.stops := rfl
@[simp] theorem State.emit_stopsLost (s : State) (o : Output) : (s.emit o).stopsLost = s.stopsLost := rfl
@[simp] theorem State.emit_arrivals (s : State) (o : Output) : (s.emit o).arrivals = s.arrivals := rfl
@[simp] theorem State.emit_colophonOut (s : State) (o : Output) : (s.emit o).colophonOut = s.colophonOut := rfl
@[simp] theorem State.emit_thermAlert (s : State) (o : Output) : (s.emit o).thermAlert = s.thermAlert := rfl
@[simp] theorem State.emit_brakePin (s : State) (o : Output) : (s.emit o).brakePin = s.brakePin := rfl
@[simp] theorem State.emit_keys (s : State) (o : Output) : (s.emit o).keys = s.keys := rfl
@[simp] theorem State.emit_ready (s : State) (o : Output) : (s.emit o).ready = s.ready := rfl
@[simp] theorem State.emit_recipes (s : State) (o : Output) : (s.emit o).recipes = s.recipes := rfl
@[simp] theorem State.emit_checks (s : State) (o : Output) : (s.emit o).checks = s.checks := rfl
@[simp] theorem State.emit_spine (s : State) (o : Output) : (s.emit o).spine = s.spine := rfl
@[simp] theorem State.emit_board (s : State) (o : Output) : (s.emit o).board = s.board := rfl
@[simp] theorem State.emit_powerReq (s : State) (o : Output) : (s.emit o).powerReq = s.powerReq := rfl
@[simp] theorem State.emit_powerRefused (s : State) (o : Output) : (s.emit o).powerRefused = s.powerRefused := rfl
@[simp] theorem State.emit_powerMove (s : State) (o : Output) : (s.emit o).powerMove = s.powerMove := rfl
@[simp] theorem State.emit_powerNext (s : State) (o : Output) : (s.emit o).powerNext = s.powerNext := rfl

/-! ### State.count -/

@[simp] theorem State.count_part (s : State) (p : Page) (k n : Nat) : (s.count p k n).part = s.part := rfl
@[simp] theorem State.count_pending (s : State) (p : Page) (k n : Nat) : (s.count p k n).pending = s.pending := rfl
@[simp] theorem State.count_now (s : State) (p : Page) (k n : Nat) : (s.count p k n).now = s.now := rfl
@[simp] theorem State.count_free (s : State) (p : Page) (k n : Nat) : (s.count p k n).free = s.free := rfl
@[simp] theorem State.count_mem (s : State) (p : Page) (k n : Nat) : (s.count p k n).mem = s.mem := rfl
@[simp] theorem State.count_shadows (s : State) (p : Page) (k n : Nat) : (s.count p k n).shadows = s.shadows := rfl
@[simp] theorem State.count_lowHalves (s : State) (p : Page) (k n : Nat) : (s.count p k n).lowHalves = s.lowHalves := rfl
@[simp] theorem State.count_dies (s : State) (p : Page) (k n : Nat) : (s.count p k n).dies = s.dies := rfl
@[simp] theorem State.count_fns (s : State) (p : Page) (k n : Nat) : (s.count p k n).fns = s.fns := rfl
@[simp] theorem State.count_rkOwner (s : State) (p : Page) (k n : Nat) : (s.count p k n).rkOwner = s.rkOwner := rfl
@[simp] theorem State.count_granules (s : State) (p : Page) (k n : Nat) : (s.count p k n).granules = s.granules := rfl
@[simp] theorem State.count_queues (s : State) (p : Page) (k n : Nat) : (s.count p k n).queues = s.queues := rfl
@[simp] theorem State.count_qps (s : State) (p : Page) (k n : Nat) : (s.count p k n).qps = s.qps := rfl
@[simp] theorem State.count_execs (s : State) (p : Page) (k n : Nat) : (s.count p k n).execs = s.execs := rfl
@[simp] theorem State.count_doorbells (s : State) (p : Page) (k n : Nat) : (s.count p k n).doorbells = s.doorbells := rfl
@[simp] theorem State.count_requests (s : State) (p : Page) (k n : Nat) : (s.count p k n).requests = s.requests := rfl
@[simp] theorem State.count_stops (s : State) (p : Page) (k n : Nat) : (s.count p k n).stops = s.stops := rfl
@[simp] theorem State.count_stopsLost (s : State) (p : Page) (k n : Nat) : (s.count p k n).stopsLost = s.stopsLost := rfl
@[simp] theorem State.count_arrivals (s : State) (p : Page) (k n : Nat) : (s.count p k n).arrivals = s.arrivals := rfl
@[simp] theorem State.count_colophonOut (s : State) (p : Page) (k n : Nat) : (s.count p k n).colophonOut = s.colophonOut := rfl
@[simp] theorem State.count_thermAlert (s : State) (p : Page) (k n : Nat) : (s.count p k n).thermAlert = s.thermAlert := rfl
@[simp] theorem State.count_brakePin (s : State) (p : Page) (k n : Nat) : (s.count p k n).brakePin = s.brakePin := rfl
@[simp] theorem State.count_keys (s : State) (p : Page) (k n : Nat) : (s.count p k n).keys = s.keys := rfl
@[simp] theorem State.count_ready (s : State) (p : Page) (k n : Nat) : (s.count p k n).ready = s.ready := rfl
@[simp] theorem State.count_recipes (s : State) (p : Page) (k n : Nat) : (s.count p k n).recipes = s.recipes := rfl
@[simp] theorem State.count_checks (s : State) (p : Page) (k n : Nat) : (s.count p k n).checks = s.checks := rfl
@[simp] theorem State.count_spine (s : State) (p : Page) (k n : Nat) : (s.count p k n).spine = s.spine := rfl
@[simp] theorem State.count_board (s : State) (p : Page) (k n : Nat) : (s.count p k n).board = s.board := rfl
@[simp] theorem State.count_powerReq (s : State) (p : Page) (k n : Nat) : (s.count p k n).powerReq = s.powerReq := rfl
@[simp] theorem State.count_powerRefused (s : State) (p : Page) (k n : Nat) : (s.count p k n).powerRefused = s.powerRefused := rfl
@[simp] theorem State.count_powerMove (s : State) (p : Page) (k n : Nat) : (s.count p k n).powerMove = s.powerMove := rfl
@[simp] theorem State.count_powerNext (s : State) (p : Page) (k n : Nat) : (s.count p k n).powerNext = s.powerNext := rfl
@[simp] theorem State.count_outbox (s : State) (p : Page) (k n : Nat) : (s.count p k n).outbox = s.outbox := rfl

/-! ### State.setLevel -/

@[simp] theorem State.setLevel_part (s : State) (p : Page) (k n : Nat) : (s.setLevel p k n).part = s.part := rfl
@[simp] theorem State.setLevel_pending (s : State) (p : Page) (k n : Nat) : (s.setLevel p k n).pending = s.pending := rfl
@[simp] theorem State.setLevel_now (s : State) (p : Page) (k n : Nat) : (s.setLevel p k n).now = s.now := rfl
@[simp] theorem State.setLevel_free (s : State) (p : Page) (k n : Nat) : (s.setLevel p k n).free = s.free := rfl
@[simp] theorem State.setLevel_mem (s : State) (p : Page) (k n : Nat) : (s.setLevel p k n).mem = s.mem := rfl
@[simp] theorem State.setLevel_shadows (s : State) (p : Page) (k n : Nat) : (s.setLevel p k n).shadows = s.shadows := rfl
@[simp] theorem State.setLevel_lowHalves (s : State) (p : Page) (k n : Nat) : (s.setLevel p k n).lowHalves = s.lowHalves := rfl
@[simp] theorem State.setLevel_dies (s : State) (p : Page) (k n : Nat) : (s.setLevel p k n).dies = s.dies := rfl
@[simp] theorem State.setLevel_fns (s : State) (p : Page) (k n : Nat) : (s.setLevel p k n).fns = s.fns := rfl
@[simp] theorem State.setLevel_rkOwner (s : State) (p : Page) (k n : Nat) : (s.setLevel p k n).rkOwner = s.rkOwner := rfl
@[simp] theorem State.setLevel_granules (s : State) (p : Page) (k n : Nat) : (s.setLevel p k n).granules = s.granules := rfl
@[simp] theorem State.setLevel_queues (s : State) (p : Page) (k n : Nat) : (s.setLevel p k n).queues = s.queues := rfl
@[simp] theorem State.setLevel_qps (s : State) (p : Page) (k n : Nat) : (s.setLevel p k n).qps = s.qps := rfl
@[simp] theorem State.setLevel_execs (s : State) (p : Page) (k n : Nat) : (s.setLevel p k n).execs = s.execs := rfl
@[simp] theorem State.setLevel_doorbells (s : State) (p : Page) (k n : Nat) : (s.setLevel p k n).doorbells = s.doorbells := rfl
@[simp] theorem State.setLevel_requests (s : State) (p : Page) (k n : Nat) : (s.setLevel p k n).requests = s.requests := rfl
@[simp] theorem State.setLevel_stops (s : State) (p : Page) (k n : Nat) : (s.setLevel p k n).stops = s.stops := rfl
@[simp] theorem State.setLevel_stopsLost (s : State) (p : Page) (k n : Nat) : (s.setLevel p k n).stopsLost = s.stopsLost := rfl
@[simp] theorem State.setLevel_arrivals (s : State) (p : Page) (k n : Nat) : (s.setLevel p k n).arrivals = s.arrivals := rfl
@[simp] theorem State.setLevel_colophonOut (s : State) (p : Page) (k n : Nat) : (s.setLevel p k n).colophonOut = s.colophonOut := rfl
@[simp] theorem State.setLevel_thermAlert (s : State) (p : Page) (k n : Nat) : (s.setLevel p k n).thermAlert = s.thermAlert := rfl
@[simp] theorem State.setLevel_brakePin (s : State) (p : Page) (k n : Nat) : (s.setLevel p k n).brakePin = s.brakePin := rfl
@[simp] theorem State.setLevel_keys (s : State) (p : Page) (k n : Nat) : (s.setLevel p k n).keys = s.keys := rfl
@[simp] theorem State.setLevel_ready (s : State) (p : Page) (k n : Nat) : (s.setLevel p k n).ready = s.ready := rfl
@[simp] theorem State.setLevel_recipes (s : State) (p : Page) (k n : Nat) : (s.setLevel p k n).recipes = s.recipes := rfl
@[simp] theorem State.setLevel_checks (s : State) (p : Page) (k n : Nat) : (s.setLevel p k n).checks = s.checks := rfl
@[simp] theorem State.setLevel_spine (s : State) (p : Page) (k n : Nat) : (s.setLevel p k n).spine = s.spine := rfl
@[simp] theorem State.setLevel_board (s : State) (p : Page) (k n : Nat) : (s.setLevel p k n).board = s.board := rfl
@[simp] theorem State.setLevel_powerReq (s : State) (p : Page) (k n : Nat) : (s.setLevel p k n).powerReq = s.powerReq := rfl
@[simp] theorem State.setLevel_powerRefused (s : State) (p : Page) (k n : Nat) : (s.setLevel p k n).powerRefused = s.powerRefused := rfl
@[simp] theorem State.setLevel_powerMove (s : State) (p : Page) (k n : Nat) : (s.setLevel p k n).powerMove = s.powerMove := rfl
@[simp] theorem State.setLevel_powerNext (s : State) (p : Page) (k n : Nat) : (s.setLevel p k n).powerNext = s.powerNext := rfl
@[simp] theorem State.setLevel_outbox (s : State) (p : Page) (k n : Nat) : (s.setLevel p k n).outbox = s.outbox := rfl

/-! ### State.setByte -/

@[simp] theorem State.setByte_part (s : State) (d pa : Nat) (b : Byte) : (s.setByte d pa b).part = s.part := rfl
@[simp] theorem State.setByte_pending (s : State) (d pa : Nat) (b : Byte) : (s.setByte d pa b).pending = s.pending := rfl
@[simp] theorem State.setByte_now (s : State) (d pa : Nat) (b : Byte) : (s.setByte d pa b).now = s.now := rfl
@[simp] theorem State.setByte_free (s : State) (d pa : Nat) (b : Byte) : (s.setByte d pa b).free = s.free := rfl
@[simp] theorem State.setByte_regs (s : State) (d pa : Nat) (b : Byte) : (s.setByte d pa b).regs = s.regs := rfl
@[simp] theorem State.setByte_totals (s : State) (d pa : Nat) (b : Byte) : (s.setByte d pa b).totals = s.totals := rfl
@[simp] theorem State.setByte_shadows (s : State) (d pa : Nat) (b : Byte) : (s.setByte d pa b).shadows = s.shadows := rfl
@[simp] theorem State.setByte_lowHalves (s : State) (d pa : Nat) (b : Byte) : (s.setByte d pa b).lowHalves = s.lowHalves := rfl
@[simp] theorem State.setByte_dies (s : State) (d pa : Nat) (b : Byte) : (s.setByte d pa b).dies = s.dies := rfl
@[simp] theorem State.setByte_fns (s : State) (d pa : Nat) (b : Byte) : (s.setByte d pa b).fns = s.fns := rfl
@[simp] theorem State.setByte_rkOwner (s : State) (d pa : Nat) (b : Byte) : (s.setByte d pa b).rkOwner = s.rkOwner := rfl
@[simp] theorem State.setByte_granules (s : State) (d pa : Nat) (b : Byte) : (s.setByte d pa b).granules = s.granules := rfl
@[simp] theorem State.setByte_queues (s : State) (d pa : Nat) (b : Byte) : (s.setByte d pa b).queues = s.queues := rfl
@[simp] theorem State.setByte_qps (s : State) (d pa : Nat) (b : Byte) : (s.setByte d pa b).qps = s.qps := rfl
@[simp] theorem State.setByte_execs (s : State) (d pa : Nat) (b : Byte) : (s.setByte d pa b).execs = s.execs := rfl
@[simp] theorem State.setByte_doorbells (s : State) (d pa : Nat) (b : Byte) : (s.setByte d pa b).doorbells = s.doorbells := rfl
@[simp] theorem State.setByte_requests (s : State) (d pa : Nat) (b : Byte) : (s.setByte d pa b).requests = s.requests := rfl
@[simp] theorem State.setByte_stops (s : State) (d pa : Nat) (b : Byte) : (s.setByte d pa b).stops = s.stops := rfl
@[simp] theorem State.setByte_stopsLost (s : State) (d pa : Nat) (b : Byte) : (s.setByte d pa b).stopsLost = s.stopsLost := rfl
@[simp] theorem State.setByte_arrivals (s : State) (d pa : Nat) (b : Byte) : (s.setByte d pa b).arrivals = s.arrivals := rfl
@[simp] theorem State.setByte_colophonOut (s : State) (d pa : Nat) (b : Byte) : (s.setByte d pa b).colophonOut = s.colophonOut := rfl
@[simp] theorem State.setByte_thermAlert (s : State) (d pa : Nat) (b : Byte) : (s.setByte d pa b).thermAlert = s.thermAlert := rfl
@[simp] theorem State.setByte_brakePin (s : State) (d pa : Nat) (b : Byte) : (s.setByte d pa b).brakePin = s.brakePin := rfl
@[simp] theorem State.setByte_keys (s : State) (d pa : Nat) (b : Byte) : (s.setByte d pa b).keys = s.keys := rfl
@[simp] theorem State.setByte_ready (s : State) (d pa : Nat) (b : Byte) : (s.setByte d pa b).ready = s.ready := rfl
@[simp] theorem State.setByte_recipes (s : State) (d pa : Nat) (b : Byte) : (s.setByte d pa b).recipes = s.recipes := rfl
@[simp] theorem State.setByte_checks (s : State) (d pa : Nat) (b : Byte) : (s.setByte d pa b).checks = s.checks := rfl
@[simp] theorem State.setByte_spine (s : State) (d pa : Nat) (b : Byte) : (s.setByte d pa b).spine = s.spine := rfl
@[simp] theorem State.setByte_board (s : State) (d pa : Nat) (b : Byte) : (s.setByte d pa b).board = s.board := rfl
@[simp] theorem State.setByte_powerReq (s : State) (d pa : Nat) (b : Byte) : (s.setByte d pa b).powerReq = s.powerReq := rfl
@[simp] theorem State.setByte_powerRefused (s : State) (d pa : Nat) (b : Byte) : (s.setByte d pa b).powerRefused = s.powerRefused := rfl
@[simp] theorem State.setByte_powerMove (s : State) (d pa : Nat) (b : Byte) : (s.setByte d pa b).powerMove = s.powerMove := rfl
@[simp] theorem State.setByte_powerNext (s : State) (d pa : Nat) (b : Byte) : (s.setByte d pa b).powerNext = s.powerNext := rfl
@[simp] theorem State.setByte_outbox (s : State) (d pa : Nat) (b : Byte) : (s.setByte d pa b).outbox = s.outbox := rfl

/-! ### State.setBytes -/

@[simp] theorem State.setBytes_part (s : State) (d pa : Nat) (bs : List Byte) : (s.setBytes d pa bs).part = s.part := rfl
@[simp] theorem State.setBytes_pending (s : State) (d pa : Nat) (bs : List Byte) : (s.setBytes d pa bs).pending = s.pending := rfl
@[simp] theorem State.setBytes_now (s : State) (d pa : Nat) (bs : List Byte) : (s.setBytes d pa bs).now = s.now := rfl
@[simp] theorem State.setBytes_free (s : State) (d pa : Nat) (bs : List Byte) : (s.setBytes d pa bs).free = s.free := rfl
@[simp] theorem State.setBytes_regs (s : State) (d pa : Nat) (bs : List Byte) : (s.setBytes d pa bs).regs = s.regs := rfl
@[simp] theorem State.setBytes_totals (s : State) (d pa : Nat) (bs : List Byte) : (s.setBytes d pa bs).totals = s.totals := rfl
@[simp] theorem State.setBytes_shadows (s : State) (d pa : Nat) (bs : List Byte) : (s.setBytes d pa bs).shadows = s.shadows := rfl
@[simp] theorem State.setBytes_lowHalves (s : State) (d pa : Nat) (bs : List Byte) : (s.setBytes d pa bs).lowHalves = s.lowHalves := rfl
@[simp] theorem State.setBytes_dies (s : State) (d pa : Nat) (bs : List Byte) : (s.setBytes d pa bs).dies = s.dies := rfl
@[simp] theorem State.setBytes_fns (s : State) (d pa : Nat) (bs : List Byte) : (s.setBytes d pa bs).fns = s.fns := rfl
@[simp] theorem State.setBytes_rkOwner (s : State) (d pa : Nat) (bs : List Byte) : (s.setBytes d pa bs).rkOwner = s.rkOwner := rfl
@[simp] theorem State.setBytes_granules (s : State) (d pa : Nat) (bs : List Byte) : (s.setBytes d pa bs).granules = s.granules := rfl
@[simp] theorem State.setBytes_queues (s : State) (d pa : Nat) (bs : List Byte) : (s.setBytes d pa bs).queues = s.queues := rfl
@[simp] theorem State.setBytes_qps (s : State) (d pa : Nat) (bs : List Byte) : (s.setBytes d pa bs).qps = s.qps := rfl
@[simp] theorem State.setBytes_execs (s : State) (d pa : Nat) (bs : List Byte) : (s.setBytes d pa bs).execs = s.execs := rfl
@[simp] theorem State.setBytes_doorbells (s : State) (d pa : Nat) (bs : List Byte) : (s.setBytes d pa bs).doorbells = s.doorbells := rfl
@[simp] theorem State.setBytes_requests (s : State) (d pa : Nat) (bs : List Byte) : (s.setBytes d pa bs).requests = s.requests := rfl
@[simp] theorem State.setBytes_stops (s : State) (d pa : Nat) (bs : List Byte) : (s.setBytes d pa bs).stops = s.stops := rfl
@[simp] theorem State.setBytes_stopsLost (s : State) (d pa : Nat) (bs : List Byte) : (s.setBytes d pa bs).stopsLost = s.stopsLost := rfl
@[simp] theorem State.setBytes_arrivals (s : State) (d pa : Nat) (bs : List Byte) : (s.setBytes d pa bs).arrivals = s.arrivals := rfl
@[simp] theorem State.setBytes_colophonOut (s : State) (d pa : Nat) (bs : List Byte) : (s.setBytes d pa bs).colophonOut = s.colophonOut := rfl
@[simp] theorem State.setBytes_thermAlert (s : State) (d pa : Nat) (bs : List Byte) : (s.setBytes d pa bs).thermAlert = s.thermAlert := rfl
@[simp] theorem State.setBytes_brakePin (s : State) (d pa : Nat) (bs : List Byte) : (s.setBytes d pa bs).brakePin = s.brakePin := rfl
@[simp] theorem State.setBytes_keys (s : State) (d pa : Nat) (bs : List Byte) : (s.setBytes d pa bs).keys = s.keys := rfl
@[simp] theorem State.setBytes_ready (s : State) (d pa : Nat) (bs : List Byte) : (s.setBytes d pa bs).ready = s.ready := rfl
@[simp] theorem State.setBytes_recipes (s : State) (d pa : Nat) (bs : List Byte) : (s.setBytes d pa bs).recipes = s.recipes := rfl
@[simp] theorem State.setBytes_checks (s : State) (d pa : Nat) (bs : List Byte) : (s.setBytes d pa bs).checks = s.checks := rfl
@[simp] theorem State.setBytes_spine (s : State) (d pa : Nat) (bs : List Byte) : (s.setBytes d pa bs).spine = s.spine := rfl
@[simp] theorem State.setBytes_board (s : State) (d pa : Nat) (bs : List Byte) : (s.setBytes d pa bs).board = s.board := rfl
@[simp] theorem State.setBytes_powerReq (s : State) (d pa : Nat) (bs : List Byte) : (s.setBytes d pa bs).powerReq = s.powerReq := rfl
@[simp] theorem State.setBytes_powerRefused (s : State) (d pa : Nat) (bs : List Byte) : (s.setBytes d pa bs).powerRefused = s.powerRefused := rfl
@[simp] theorem State.setBytes_powerMove (s : State) (d pa : Nat) (bs : List Byte) : (s.setBytes d pa bs).powerMove = s.powerMove := rfl
@[simp] theorem State.setBytes_powerNext (s : State) (d pa : Nat) (bs : List Byte) : (s.setBytes d pa bs).powerNext = s.powerNext := rfl
@[simp] theorem State.setBytes_outbox (s : State) (d pa : Nat) (bs : List Byte) : (s.setBytes d pa bs).outbox = s.outbox := rfl

/-! ### State.takeFree -/

@[simp] theorem State.takeFree_part (s : State) : (s.takeFree.2).part = s.part := rfl
@[simp] theorem State.takeFree_pending (s : State) : (s.takeFree.2).pending = s.pending := rfl
@[simp] theorem State.takeFree_now (s : State) : (s.takeFree.2).now = s.now := rfl
@[simp] theorem State.takeFree_mem (s : State) : (s.takeFree.2).mem = s.mem := rfl
@[simp] theorem State.takeFree_regs (s : State) : (s.takeFree.2).regs = s.regs := rfl
@[simp] theorem State.takeFree_totals (s : State) : (s.takeFree.2).totals = s.totals := rfl
@[simp] theorem State.takeFree_shadows (s : State) : (s.takeFree.2).shadows = s.shadows := rfl
@[simp] theorem State.takeFree_lowHalves (s : State) : (s.takeFree.2).lowHalves = s.lowHalves := rfl
@[simp] theorem State.takeFree_dies (s : State) : (s.takeFree.2).dies = s.dies := rfl
@[simp] theorem State.takeFree_fns (s : State) : (s.takeFree.2).fns = s.fns := rfl
@[simp] theorem State.takeFree_rkOwner (s : State) : (s.takeFree.2).rkOwner = s.rkOwner := rfl
@[simp] theorem State.takeFree_granules (s : State) : (s.takeFree.2).granules = s.granules := rfl
@[simp] theorem State.takeFree_queues (s : State) : (s.takeFree.2).queues = s.queues := rfl
@[simp] theorem State.takeFree_qps (s : State) : (s.takeFree.2).qps = s.qps := rfl
@[simp] theorem State.takeFree_execs (s : State) : (s.takeFree.2).execs = s.execs := rfl
@[simp] theorem State.takeFree_doorbells (s : State) : (s.takeFree.2).doorbells = s.doorbells := rfl
@[simp] theorem State.takeFree_requests (s : State) : (s.takeFree.2).requests = s.requests := rfl
@[simp] theorem State.takeFree_stops (s : State) : (s.takeFree.2).stops = s.stops := rfl
@[simp] theorem State.takeFree_stopsLost (s : State) : (s.takeFree.2).stopsLost = s.stopsLost := rfl
@[simp] theorem State.takeFree_arrivals (s : State) : (s.takeFree.2).arrivals = s.arrivals := rfl
@[simp] theorem State.takeFree_colophonOut (s : State) : (s.takeFree.2).colophonOut = s.colophonOut := rfl
@[simp] theorem State.takeFree_thermAlert (s : State) : (s.takeFree.2).thermAlert = s.thermAlert := rfl
@[simp] theorem State.takeFree_brakePin (s : State) : (s.takeFree.2).brakePin = s.brakePin := rfl
@[simp] theorem State.takeFree_keys (s : State) : (s.takeFree.2).keys = s.keys := rfl
@[simp] theorem State.takeFree_ready (s : State) : (s.takeFree.2).ready = s.ready := rfl
@[simp] theorem State.takeFree_recipes (s : State) : (s.takeFree.2).recipes = s.recipes := rfl
@[simp] theorem State.takeFree_checks (s : State) : (s.takeFree.2).checks = s.checks := rfl
@[simp] theorem State.takeFree_spine (s : State) : (s.takeFree.2).spine = s.spine := rfl
@[simp] theorem State.takeFree_board (s : State) : (s.takeFree.2).board = s.board := rfl
@[simp] theorem State.takeFree_powerReq (s : State) : (s.takeFree.2).powerReq = s.powerReq := rfl
@[simp] theorem State.takeFree_powerRefused (s : State) : (s.takeFree.2).powerRefused = s.powerRefused := rfl
@[simp] theorem State.takeFree_powerMove (s : State) : (s.takeFree.2).powerMove = s.powerMove := rfl
@[simp] theorem State.takeFree_powerNext (s : State) : (s.takeFree.2).powerNext = s.powerNext := rfl
@[simp] theorem State.takeFree_outbox (s : State) : (s.takeFree.2).outbox = s.outbox := rfl

/-! ### Reads after writes -/

theorem State.die_onDie (s : State) (d e : Nat) (f : Die → Die) (h : d < s.dies.length) :
    (s.onDie d f).die e = if e = d then f (s.die d) else s.die e := by
  simp only [State.die, State.onDie, getElem?_modifyAt]
  split
  · subst_vars
    rw [List.getElem?_eq_getElem h]
    rfl
  · rfl

theorem State.fn_onFn (s : State) (f e : Nat) (g : Fn → Fn) (h : f < s.fns.length) :
    (s.onFn f g).fn e = if e = f then g (s.fn f) else s.fn e := by
  simp only [State.fn, State.onFn, getElem?_modifyAt]
  split
  · subst_vars
    rw [List.getElem?_eq_getElem h]
    rfl
  · rfl

theorem State.get_setReg_self (s : State) (p : Page) (off v : Nat) (c : FMap.wf s.regs = true) :
    FMap.get? (s.setReg p off v).regs (p.addr + off) =
      if BitVec.ofNat 64 v = BitVec.ofNat 64 (regReset s.part p off) then none else some (BitVec.ofNat 64 v) := by
  simp only [State.setReg]
  split
  · rw [FMap.get?_erase _ c, if_pos rfl]
  · rw [FMap.get?_set_self]

theorem State.get_setReg_ne (s : State) (p : Page) (off v a : Nat) (c : FMap.wf s.regs = true) (h : a ≠ p.addr + off) :
    FMap.get? (s.setReg p off v).regs a = FMap.get? s.regs a := by
  simp only [State.setReg]
  split
  · rw [FMap.get?_erase _ c, if_neg h]
  · rw [FMap.get?_set_ne _ _ h]

/-- A register reads as what was written, as a 64-bit value. -/
theorem State.reg_setReg_self (s : State) (p : Page) (off v : Nat) (c : FMap.wf s.regs = true) :
    BitVec.ofNat 64 ((s.setReg p off v).reg p off) = BitVec.ofNat 64 v := by
  rw [State.reg, State.get_setReg_self s p off v c]
  split
  · rename_i h
    split at h
    · exact absurd h (by simp only [reduceCtorEq, not_false_eq_true])
    · rw [← Option.some.inj h, BitVec.ofNat_toNat, BitVec.setWidth_eq]
  · rename_i h
    split at h
    · rename_i e
      exact e.symm
    · exact absurd h (by simp only [reduceCtorEq, not_false_eq_true])

theorem State.reg_setReg_ne (s : State) (p q : Page) (off o v : Nat) (c : FMap.wf s.regs = true)
    (h : q.addr + o ≠ p.addr + off) : (s.setReg p off v).reg q o = s.reg q o := by
  simp only [State.reg, State.get_setReg_ne s p off v _ c h, State.setReg_part]

theorem setOr0_get (m : List (Nat × Word64)) (k : Nat) (v : Word64) (c : FMap.wf m = true) :
    (FMap.get? (setOr0 m k v) k).getD 0 = v := by
  simp only [setOr0]
  split
  · subst_vars
    rw [FMap.get?_erase _ c, if_pos rfl]
    rfl
  · rw [FMap.get?_set_self]
    rfl

/-- A counter counts, and its capture total with it (R645). -/
theorem State.ctr_count_self (s : State) (p : Page) (k n : Nat) (c : s.canonical) :
    (s.count p k n).ctr p k = s.ctr p k + BitVec.ofNat 64 n ∧
      (s.count p k n).total p k = s.total p k + BitVec.ofNat 64 n :=
  ⟨setOr0_get _ _ _ c.2.1, setOr0_get _ _ _ c.2.2⟩

theorem State.ctr_count_ne (s : State) (p q : Page) (k j n : Nat) (c : s.canonical) (h : q.ctr j ≠ p.ctr k) :
    (s.count p k n).ctr q j = s.ctr q j ∧ (s.count p k n).total q j = s.total q j := by
  simp only [State.ctr, State.total, State.count, setOr0_ne _ c.2.1 h, setOr0_ne _ c.2.2 h, and_self]

theorem memCells_get (bs : List Byte) : ∀ (k a : Nat) (m : List Host.Cell), FMap.wfFrom (k + bs.length) m = true →
    (FMap.get? (memCells k bs ++ m) a).getD (memDefault a) =
      if k ≤ a ∧ a < k + bs.length then bs.getD (a - k) 0 else (FMap.get? m a).getD (memDefault a) := by
  induction bs with
  | nil =>
    intro k a m _
    rw [if_neg (by simp only [List.length_nil]; omega)]
    rfl
  | cons b bs ih =>
    intro k a m hm
    simp only [List.length_cons] at hm ⊢
    have hm' : FMap.wfFrom (k + 1 + bs.length) m = true := by
      rw [show k + 1 + bs.length = k + (bs.length + 1) by omega]; exact hm
    have next := ih (k + 1) a m hm'
    have rest : FMap.wfFrom (k + 1) (memCells (k + 1) bs ++ m) = true :=
      memCells_append_wfFrom bs (Nat.le_refl _) hm'
    have list : memCells k (b :: bs) ++ m =
        if b = memDefault k then memCells (k + 1) bs ++ m else (k, b) :: (memCells (k + 1) bs ++ m) := by
      simp only [memCells]
      split <;> rfl
    rw [list]
    rcases Nat.lt_trichotomy a k with lo | e | hi
    · rw [if_neg (c := k ≤ a ∧ a < k + (bs.length + 1)) (by omega), FMap.get?_below (by omega) hm]
      by_cases hb : b = memDefault k
      · rw [if_pos hb, FMap.get?_below (by omega) rest]
      · rw [if_neg hb]
        simp only [FMap.get?]
        rw [if_neg (by omega), if_pos lo]
    · subst e
      rw [if_pos (c := a ≤ a ∧ a < a + (bs.length + 1)) (by omega), Nat.sub_self]
      by_cases hb : b = memDefault a
      · rw [if_pos hb, FMap.get?_below (by omega) rest]
        exact hb.symm
      · rw [if_neg hb]
        simp only [FMap.get?, if_true]
        rfl
    · have skip : (if k + 1 ≤ a ∧ a < k + 1 + bs.length then bs.getD (a - (k + 1)) 0 else (FMap.get? m a).getD (memDefault a)) =
          if k ≤ a ∧ a < k + (bs.length + 1) then (b :: bs).getD (a - k) 0 else (FMap.get? m a).getD (memDefault a) := by
        by_cases hc : k + 1 ≤ a ∧ a < k + 1 + bs.length
        · rw [if_pos hc, if_pos (by omega)]
          obtain ⟨j, rfl⟩ : ∃ j, a = k + 1 + j := ⟨a - (k + 1), by omega⟩
          rw [show k + 1 + j - (k + 1) = j by omega, show k + 1 + j - k = j + 1 by omega]
          rfl
        · rw [if_neg hc, if_neg (by omega)]
      rw [← skip, ← next]
      by_cases hb : b = memDefault k
      · rw [if_pos hb]
      · rw [if_neg hb]
        simp only [FMap.get?]
        rw [if_neg (by omega), if_neg (by omega)]

theorem memFrom_get {k a : Nat} (h : k ≤ a) : ∀ m : List Host.Cell, FMap.get? (memFrom k m) a = FMap.get? m a
  | [] => rfl
  | c :: m => by
    simp only [memFrom]
    split
    · rw [memFrom_get h m]
      simp only [FMap.get?]
      rw [if_neg (by omega), if_neg (by omega)]
    · rfl

theorem memPut_get (bs : List Byte) (k a : Nat) : ∀ {m : List Host.Cell} {b : Nat}, FMap.wfFrom b m = true →
    (FMap.get? (memPut k bs m) a).getD (memDefault a) =
      if k ≤ a ∧ a < k + bs.length then bs.getD (a - k) 0 else (FMap.get? m a).getD (memDefault a)
  | [], _, _ => by
    have := memCells_get bs k a [] rfl
    rw [List.append_nil] at this
    exact this
  | c :: m, b, h => by
    have h' := h
    simp only [FMap.wfFrom, Bool.and_eq_true, decide_eq_true_eq] at h
    simp only [memPut]
    split
    · rename_i hc
      simp only [FMap.get?]
      by_cases e : c.1 = a
      · rw [if_pos e, if_neg (by omega), if_pos e]
      · rw [if_neg e, if_neg e]
        split
        · rw [if_neg (by omega)]
        · exact memPut_get bs k a h.2
    · rename_i hc
      have hc' : k ≤ c.1 := by omega
      have hk : FMap.wfFrom k (c :: m) = true := by
        simp only [FMap.wfFrom, Bool.and_eq_true, decide_eq_true_eq]
        exact ⟨hc', h.2⟩
      have hw := memFrom_wfFrom (k := k + bs.length) hk
      rw [Nat.max_eq_right (by omega)] at hw
      rw [memCells_get bs k a _ hw]
      by_cases e : k ≤ a ∧ a < k + bs.length
      · rw [if_pos e, if_pos e]
      · rw [if_neg e, if_neg e]
        by_cases g : k + bs.length ≤ a
        · rw [memFrom_get g]
        · rw [FMap.get?_below (by omega) hw, FMap.get?_below (by omega) hk]

/-- A byte of memory after bytes were put: the byte put there, elsewhere the byte that was there. -/
theorem State.byte_setBytes (s : State) (d pa e a : Nat) (bs : List Byte) (c : s.canonical) :
    (s.setBytes d pa bs).byte e a =
      if memKey d pa ≤ memKey e a ∧ memKey e a < memKey d pa + bs.length then bs.getD (memKey e a - memKey d pa) 0
      else s.byte e a := by
  have h := c.1
  simp only [Memory.wf, Bool.and_eq_true] at h
  exact memPut_get bs _ _ h.1

theorem State.byte_setByte (s : State) (d pa e a : Nat) (b : Byte) (c : s.canonical) :
    (s.setByte d pa b).byte e a = if memKey e a = memKey d pa then b else s.byte e a := by
  have h := c.1
  simp only [Memory.wf, Bool.and_eq_true] at h
  refine .trans (memPut_get [b] _ _ h.1) ?_
  simp only [List.length_cons, List.length_nil]
  by_cases e' : memKey e a = memKey d pa
  · rw [if_pos (by omega), if_pos e', e', Nat.sub_self]
    rfl
  · rw [if_neg (by omega), if_neg e']
    rfl

end Sys2Proof.Machine
end

