-- ==== Sys2Proof/WellFormed.lean ====
section
/-!
DEFINITION. The ranges of the operands: a command outside them names no unit, register or field that the spec gives any
part of the series.
-/

namespace Sys2Proof

/-- Whether every operand of a command lies in its range: functions (R70), dies (R13), BAR0 (R34), queue numbers (R100),
queue-pair numbers (R152), ports (R244), virtual channels (R260), schedulers (R211), engines (R336), fault records
(R350), and a packet that carries as many bytes as its LENGTH says (R245). -/
def Instr.wf : Instr → Bool
  | .registerWrite f off size _ _ => decide (f ≤ 16) && decide (off < 2 ^ 26) && decide (size ≤ 4096)
  | .rcRegisterRead f off size _ => decide (f ≤ 16) && decide (off < 2 ^ 26) && decide (size ≤ 4096)
  | .intRawClear f off _ => decide (f ≤ 16) && decide (off < 2 ^ 26)
  | .intEnWrite f off _ => decide (f ≤ 16) && decide (off < 2 ^ 26)
  | .intSet f off _ => decide (f ≤ 16) && decide (off < 2 ^ 26)
  | .feStatusClear f off => decide (f ≤ 16) && decide (off < 2 ^ 26)
  | .msixMessage _ => true
  | .msixUnmask f v => decide (f ≤ 16) && decide (v < 2048)
  | .reset f off _ _ => decide (f ≤ 16) && decide (off < 2 ^ 26)
  | .colophonArm f off _ _ => decide (f ≤ 16) && decide (off < 2 ^ 26)
  | .colophonDisarm f off _ _ => decide (f ≤ 16) && decide (off < 2 ^ 26)
  | .clearErrors f off _ _ => decide (f ≤ 16) && decide (off < 2 ^ 26)
  | .dieResetRampDownDone d => decide (d < 8)
  | .forwardingPlaneReset d => decide (d < 8)
  | .perstNAssert => true
  | .perstNDeassert _ _ => true
  | .railFault rail => decide (rail < 8)
  | .functionLevelReset f => decide (f ≤ 16)
  | .vfEnableClear => true
  | .hostReadError f q _ _ => decide (f ≤ 16) && decide (q < 65536)
  | .poisonedBarWrite f _ => decide (f ≤ 16)
  | .doeDiscovery index => decide (index < 256)
  | .doeUnsupportedObject vendor objType dwords => decide (vendor < 65536) && decide (objType < 256) && decide (dwords ≤ 262144)
  | .doeAbort => true
  | .getVersion => true
  | .getCapabilities => true
  | .negotiateAlgorithms _ _ => true
  | .getDigests => true
  | .getCertificate slot offset length => decide (slot < 8) && decide (offset < 65536) && decide (length < 65536)
  | .challenge slot nonce => decide (slot < 8) && decide (nonce.length = 32)
  | .getMeasurements index _ nonce => decide (index < 256) && decide (nonce.length = 32)
  | .spdmUnsupportedRequest _ => true
  | .doorbellWrite f off size _ => decide (f ≤ 16) && decide (off < 2 ^ 26) && decide (size ≤ 4096)
  | .doorbellAdmission f q => decide (f ≤ 16) && decide (q < 65536)
  | .alramDoorbell d k p => decide (d < 8) && decide (k < 2) && decide (p.length.toNat = p.body.length)
  | .ledgerIssue f c => decide (f ≤ 16) && decide (c < 4)
  | .readBack f q _ => decide (f ≤ 16) && decide (q < 65536)
  | .readBackReturn f q _ _ => decide (f ≤ 16) && decide (q < 65536)
  | .descriptorFetch f q => decide (f ≤ 16) && decide (q < 65536)
  | .descriptorFetchReturn f q _ slot => decide (f ≤ 16) && decide (q < 65536) && decide (slot.length = 64)
  | .staleRefetch f q k => decide (f ≤ 16) && decide (q < 65536) && decide (k ≤ 8)
  | .completionWrite f q _ => decide (f ≤ 16) && decide (q < 65536)
  | .arrivalEntryWrite f q => decide (f ≤ 16) && decide (q < 65536)
  | .arrivalWaitExpiry f q => decide (f ≤ 16) && decide (q < 65536)
  | .queueDisable f d _ => decide (f ≤ 16) && decide (d < 8)
  | .queueDisabled f q => decide (f ≤ 16) && decide (q < 65536)
  | .queueEnable f d _ => decide (f ≤ 16) && decide (d < 8)
  | .stopFifoRead f d => decide (f ≤ 16) && decide (d < 8)
  | .adminQueueEnable f _ => decide (f ≤ 16)
  | .adminQueueDisable f _ => decide (f ≤ 16)
  | .createQueue f => decide (f ≤ 16)
  | .destroyQueue f => decide (f ≤ 16)
  | .setArrivalRoute f => decide (f ≤ 16)
  | .setFunctionMode f => decide (f ≤ 16)
  | .createQp f => decide (f ≤ 16)
  | .toRtr f => decide (f ≤ 16)
  | .toRts f => decide (f ≤ 16)
  | .toError f => decide (f ≤ 16)
  | .toInit f => decide (f ≤ 16)
  | .setLimits f => decide (f ≤ 16)
  | .destroyQp f => decide (f ≤ 16)
  | .loadRecipe f _ => decide (f ≤ 16)
  | .unloadRecipe f => decide (f ≤ 16)
  | .formatTable f table => decide (f ≤ 16) && decide (table.length ≤ 65536)
  | .sequenceTable f table => decide (f ≤ 16) && decide (table.length ≤ 65536)
  | .collationTable f table => decide (f ≤ 16) && decide (table.length ≤ 65536)
  | .invalidateRange f => decide (f ≤ 16)
  | .resolveFault f => decide (f ≤ 16)
  | .setPageTableRoot f => decide (f ≤ 16)
  | .resizePartition f _ => decide (f ≤ 16)
  | .destroyPartition f => decide (f ≤ 16)
  | .createGroup f table => decide (f ≤ 16) && decide (table.length ≤ 65536)
  | .reformGroup f table => decide (f ≤ 16) && decide (table.length ≤ 65536)
  | .destroyGroup f => decide (f ≤ 16)
  | .write f q => decide (f ≤ 16) && decide (q < 65536)
  | .read f q => decide (f ≤ 16) && decide (q < 65536)
  | .send f q => decide (f ≤ 16) && decide (q < 65536)
  | .writeNotify f q => decide (f ≤ 16) && decide (q < 65536)
  | .atomicAdd f q => decide (f ≤ 16) && decide (q < 65536)
  | .stageIn f q _ => decide (f ≤ 16) && decide (q < 65536)
  | .stageOut f q => decide (f ≤ 16) && decide (q < 65536)
  | .localCopy f q => decide (f ≤ 16) && decide (q < 65536)
  | .runRecipe f q => decide (f ≤ 16) && decide (q < 65536)
  | .reduce f q => decide (f ≤ 16) && decide (q < 65536)
  | .broadcast f q => decide (f ≤ 16) && decide (q < 65536)
  | .cipher f q => decide (f ≤ 16) && decide (q < 65536)
  | .nop f q => decide (f ≤ 16) && decide (q < 65536)
  | .writePacket d p => decide (d < 8) && decide (p.length.toNat = p.body.length)
  | .writeNotifyPacket d p => decide (d < 8) && decide (p.length.toNat = p.body.length)
  | .sendPacket d p => decide (d < 8) && decide (p.length.toNat = p.body.length)
  | .readRequest d p => decide (d < 8) && decide (p.length.toNat = p.body.length)
  | .readResponse d p => decide (d < 8) && decide (p.length.toNat = p.body.length)
  | .atomicRequest d p => decide (d < 8) && decide (p.length.toNat = p.body.length)
  | .atomicResponse d p => decide (d < 8) && decide (p.length.toNat = p.body.length)
  | .msgAbort d p => decide (d < 8) && decide (p.length.toNat = p.body.length)
  | .ack d p => decide (d < 8) && decide (p.length.toNat = p.body.length)
  | .nakRnr d p => decide (d < 8) && decide (p.length.toNat = p.body.length)
  | .nakFaultWait d p => decide (d < 8) && decide (p.length.toNat = p.body.length)
  | .nakAccessDenied d p => decide (d < 8) && decide (p.length.toNat = p.body.length)
  | .nakPoisoned d p => decide (d < 8) && decide (p.length.toNat = p.body.length)
  | .nakTallyFailed d p => decide (d < 8) && decide (p.length.toNat = p.body.length)
  | .nakQpError d p => decide (d < 8) && decide (p.length.toNat = p.body.length)
  | .nakInvalidRequest d p => decide (d < 8) && decide (p.length.toNat = p.body.length)
  | .ackTimer qp => decide (qp < 2 ^ 18)
  | .rtoExpiry qp => decide (qp < 2 ^ 18)
  | .faultWaitProbe qp => decide (qp < 2 ^ 18)
  | .faultWaitLimit qp => decide (qp < 2 ^ 18)
  | .contextFetchDone qp => decide (qp < 2 ^ 18)
  | .contextPrefetch qp => decide (qp < 2 ^ 18)
  | .schedulerSelection d i => decide (d < 8) && decide (i ≤ 10)
  | .depthDelaySample d i => decide (d < 8) && decide (i ≤ 10)
  | .qpWeightWrite f d _ => decide (f ≤ 16) && decide (d < 8)
  | .alramTrainingDone d k _ => decide (d < 8) && decide (k < 2)
  | .alramAlignLock d k => decide (d < 8) && decide (k < 2)
  | .init d port vc _ _ => decide (d < 8) && decide (port < 8) && decide (vc < 11)
  | .alramLinkDown d k => decide (d < 8) && decide (k < 2)
  | .linkEnable d port => decide (d < 8) && decide (port < 8)
  | .linkDisable d port => decide (d < 8) && decide (port < 8)
  | .frameReceive d port vc p _ _ => decide (d < 8) && decide (port < 8) && decide (vc < 11) && decide (p.length.toNat = p.body.length)
  | .credit d port vc _ => decide (d < 8) && decide (port < 8) && decide (vc < 11)
  | .sync d port vc _ => decide (d < 8) && decide (port < 8) && decide (vc < 11)
  | .creditReportTimer d port => decide (d < 8) && decide (port < 8)
  | .syncTimer d port => decide (d < 8) && decide (port < 8)
  | .alramWrite d k p => decide (d < 8) && decide (k < 2) && decide (p.length.toNat = p.body.length)
  | .alramReadRequest d k p => decide (d < 8) && decide (k < 2) && decide (p.length.toNat = p.body.length)
  | .alramReadResponse d k p => decide (d < 8) && decide (k < 2) && decide (p.length.toNat = p.body.length)
  | .alramReadTimeout d k tag => decide (d < 8) && decide (k < 2) && decide (tag < 65536)
  | .routePacket d port => decide (d < 8) && decide (port < 8)
  | .escapeWaitExpiry d port _ => decide (d < 8) && decide (port < 8)
  | .holdExpiry d port => decide (d < 8) && decide (port < 8)
  | .editionCountRelease d _ => decide (d < 8)
  | .fifoPointerMismatch d fifo => decide (d < 8) && decide (fifo < 9)
  | .dropRest d fifo => decide (d < 8) && decide (fifo < 9)
  | .quireLinkDown d k => decide (d < 8) && decide (k < 4)
  | .quireLinkUp d k => decide (d < 8) && decide (k < 4)
  | .quireRetrainTimeout d k => decide (d < 8) && decide (k < 4)
  | .ethFrameReceive d k _ _ _ => decide (d < 8) && decide (k < 4)
  | .pfcRepeat d k p => decide (d < 8) && decide (k < 4) && decide (p < 8)
  | .pfcFrame d k _ times => decide (d < 8) && decide (k < 4) && decide (times.length = 8)
  | .pauseTimerExpiry d k p => decide (d < 8) && decide (k < 4) && decide (p < 8)
  | .pfcCtlWrite d k _ => decide (d < 8) && decide (k < 4)
  | .ptpFrame d k _ _ => decide (d < 8) && decide (k < 4)
  | .ethTrainingDone d k _ => decide (d < 8) && decide (k < 4)
  | .ethTrainingTimeout d k => decide (d < 8) && decide (k < 4)
  | .ethAlignLock d k => decide (d < 8) && decide (k < 4)
  | .ethLinkDown d k _ => decide (d < 8) && decide (k < 4)
  | .portEnable d k _ => decide (d < 8) && decide (k < 4)
  | .patrolScrub d m _ _ => decide (d < 8) && decide (m < 3)
  | .walkComplete d e f offset _ _ => decide (d < 8) && decide (e < 10) && decide (f ≤ 16) && decide (offset < 2 ^ 46)
  | .faultAbort d record => decide (d < 8) && decide (record < 4096)
  | .invalidationPoint d e => decide (d < 8) && decide (e < 10)
  | .invalidationAck d e => decide (d < 8) && decide (e < 10)
  | .invalidationResend d => decide (d < 8)
  | .dogEarWindowEnd d => decide (d < 8)
  | .tilePrefetch d r => decide (d < 8) && decide (r < 5)
  | .tileArrival d r => decide (d < 8) && decide (r < 5)
  | .load d r _ => decide (d < 8) && decide (r < 5)
  | .matmul d r _ => decide (d < 8) && decide (r < 5)
  | .vector d r _ => decide (d < 8) && decide (r < 5)
  | .store d r _ => decide (d < 8) && decide (r < 5)
  | .candidate d r _ => decide (d < 8) && decide (r < 5)
  | .draw d r _ => decide (d < 8) && decide (r < 5)
  | .signal d r => decide (d < 8) && decide (r < 5)
  | .wait d r => decide (d < 8) && decide (r < 5)
  | .waitSatisfied d r => decide (d < 8) && decide (r < 5)
  | .waitTimeout d r => decide (d < 8) && decide (r < 5)
  | .checkExecution d _ _ => decide (d < 8)
  | .checkReexecution d _ _ _ _ => decide (d < 8)
  | .knownAnswerRun d r => decide (d < 8) && decide (r < 5)
  | .karDeferExpiry d r => decide (d < 8) && decide (r < 5)
  | .knownAnswerDone d r _ => decide (d < 8) && decide (r < 5)
  | .tallyReread d f pa address => decide (d < 8) && decide (f ≤ 16) && decide (pa < 2 ^ 38) && decide (address < 2 ^ 64)
  | .notice d p => decide (d < 8) && decide (p.length.toNat = p.body.length)
  | .noticeAck d p => decide (d < 8) && decide (p.length.toNat = p.body.length)
  | .noticeRepeat d _ => decide (d < 8)
  | .digestFormed d _ => decide (d < 8)
  | .digest d p => decide (d < 8) && decide (p.length.toNat = p.body.length)
  | .digestAck d p => decide (d < 8) && decide (p.length.toNat = p.body.length)
  | .digestRepeat d _ => decide (d < 8)
  | .collationTimeout d _ part => decide (d < 8) && decide (part < 16)
  | .data d p => decide (d < 8) && decide (p.length.toNat = p.body.length)
  | .frames d p _ => decide (d < 8) && decide (p.length.toNat = p.body.length)
  | .grant d p => decide (d < 8) && decide (p.length.toNat = p.body.length)
  | .receipt d p => decide (d < 8) && decide (p.length.toNat = p.body.length)
  | .resend d p => decide (d < 8) && decide (p.length.toNat = p.body.length)
  | .failure d p => decide (d < 8) && decide (p.length.toNat = p.body.length)
  | .retract d p => decide (d < 8) && decide (p.length.toNat = p.body.length)
  | .finish d p => decide (d < 8) && decide (p.length.toNat = p.body.length)
  | .chunkAbort d p => decide (d < 8) && decide (p.length.toNat = p.body.length)
  | .repeatTimer d group => decide (d < 8) && decide (group < 65536)
  | .resendTimer d group => decide (d < 8) && decide (group < 65536)
  | .childTimeout d group child => decide (d < 8) && decide (group < 65536) && decide (child < 16)
  | .parentTimeout d group => decide (d < 8) && decide (group < 65536)
  | .memberLeft d group => decide (d < 8) && decide (group < 65536)
  | .functionEnable f => decide (f ≤ 16)
  | .functionDisable f => decide (f ≤ 16)
  | .fnHold f _ => decide (f ≤ 16)
  | .openingComplete f => decide (f ≤ 16)
  | .closingComplete f => decide (f ≤ 16)
  | .dirtyLogEnable f _ => decide (f ≤ 16)
  | .dirtyHeadWrite f _ => decide (f ≤ 16)
  | .bootRomStart => true
  | .spineStart => true
  | .quireReady d => decide (d < 8)
  | .quireReadyTimeout => true
  | .quireHeartbeat d => decide (d < 8)
  | .heartbeatMiss d => decide (d < 8)
  | .watchdogExpiry => true
  | .stateChecksum _ => true
  | .spineEccError _ => true
  | .offer _ _ => true
  | .block _ _ _ _ => true
  | .statusRequest _ => true
  | .deliveryAbort _ => true
  | .sessionTimeout => true
  | .getStatus => true
  | .attest _ => true
  | .loadFabricKey _ => true
  | .fabricCmd d _ => decide (d < 8)
  | .confirmQuire => true
  | .debugChallenge => true
  | .debugUnlock _ => true
  | .approveRampTable _ => true
  | .keyLoad f _ => decide (f ≤ 16)
  | .keyErase f _ => decide (f ≤ 16)
  | .entropyHealthFailure d => decide (d < 8)
  | .drbgReseed d => decide (d < 8)
  | .readRouter d _ => decide (d < 8)
  | .writeTableEntry d _ => decide (d < 8)
  | .setInjectEdition d _ => decide (d < 8)
  | .setRelayRequired d _ => decide (d < 8)
  | .setEndpointId d _ => decide (d < 8)
  | .setRouteCtl d _ => decide (d < 8)
  | .resetForwardingPlane d _ => decide (d < 8)
  | .setFabricTime d _ => decide (d < 8)
  | .adjustFabricTime d _ => decide (d < 8)
  | .setPtp d _ => decide (d < 8)
  | .armCaptureAt d _ => decide (d < 8)
  | .triggerCapture d _ => decide (d < 8)
  | .readFabricTime d _ => decide (d < 8)
  | .powerReq f off _ => decide (f ≤ 16) && decide (off < 2 ^ 26)
  | .creaseIdle d => decide (d < 8)
  | .foldIdle d => decide (d < 8)
  | .wakeEvent d _ => decide (d < 8)
  | .powerTransitionDone => true
  | .mctpWake _ _ => true
  | .mctpSetEndpointId _ => true
  | .mctpGetEndpointId => true
  | .mctpGetVersionSupport _ => true
  | .mctpGetMessageTypeSupport => true
  | .mctpUnsupportedMessage _ => true
  | .governorPeriod d _ _ _ => decide (d < 8)
  | .budgetUpdate _ => true
  | .brakeAssert => true
  | .brakeDeassert => true
  | .thermalSample d tj => decide (d < 8) && decide (tj < 256)
  | .tripClear d => decide (d < 8)
  | .thermTableWrite d j _ => decide (d < 8) && decide (j < 8)
  | .pllLockLoss d _ => decide (d < 8)
  | .pllRelock d _ => decide (d < 8)
  | .capCmdGo d => decide (d < 8)
  | .capTimeMatch d => decide (d < 8)
  | .colophonIn => true
  | .colophonOutRelease => true
  | .markerArrival d page channel _ => decide (d < 8) && decide (page < 2 ^ 23) && decide (channel < 65536)
  | .colophonMarker d port vc p => decide (d < 8) && decide (port < 8) && decide (vc < 11) && decide (p.length.toNat = p.body.length)
  | .channelTimeout d page channel => decide (d < 8) && decide (page < 2 ^ 23) && decide (channel < 65536)
  | .packageTimeSync d => decide (d < 8)
  | .ptpSyncLoss => true
  | .ethAlignTimeout d k => decide (d < 8) && decide (k < 4)
  | .entropyHealthPass d => decide (d < 8)

end Sys2Proof
end

