-- ==== Sys2Proof/Tests/Slice0.lean ====
section
/-!
SUPPORT. Tests of single steps, states that meet the premises of the statements, and terms that the well-formedness check
refuses.
-/

namespace Sys2Proof.Tests

open Sys2Proof.Machine

set_option maxRecDepth 100000

/-- The part after its start: the link up, the PF open, function 1 open with shares. -/
def up : State :=
  { State.reset with
    ready := true
    board := { perst := false, link := some (false, 0, 4) }
    spine := { phase := .running, opened := true }
    fns := { enable := true, phase := .opened, queues := 64, qps := 64, handles := 64 } ::
      { enable := true, phase := .opened, queues := 4, qps := 4, handles := 4 } :: List.replicate 15 {} }

/-- What a command leaves, as a test sees it. -/
def after (c : Instr) (s : State) (f : State → Bool) : Bool :=
  match exec c s with
  | .next t => f t
  | _ => false

theorem test_up_sound : up.sound ∧ up.hostReady := by decide

def txPage : Page := ⟨0, .tx, 0⟩

theorem test_interruptRegisters : up.cutOff 0 (txPage.addr + 0x10) = false ∧ up.target 0 (txPage.addr + 0x10) = .page txPage 0x10 ∧
    up.target 0 (txPage.addr + 0x14) = .page txPage 0x14 ∧ up.target 0 (txPage.addr + 0x1C) = .page txPage 0x1C ∧
    up.target 0 (txPage.addr + 0x40) = .page txPage 0x40 ∧ up.takes txPage ∧ (up.fn 0).flr = false := by decide

theorem test_intSet : after (.intSet 0 (txPage.addr + 0x1C) 5) up (fun t => t.word txPage 0x10 == 5) = true := by decide

theorem test_intRawClear : after (.intRawClear 0 (txPage.addr + 0x10) 4) (up.setReg txPage 0x10 5)
    (fun t => t.word txPage 0x10 == 1) = true := by decide

/-- The state that a command leaves. -/
def next (c : Instr) (s : State) : State :=
  match exec c s with
  | .next t => t
  | _ => s


theorem test_feStatusClear : after (.feStatusClear 0 (txPage.addr + 0x40)) ((up.setReg txPage 0x40 0x80000005).setReg txPage 0x48 9)
    (fun t => t.word txPage 0x48 == 0 && t.word txPage 0x40 == 5) = true := by decide

def rateCtlPage : Page := ⟨0, .rateCtl, 0⟩

theorem test_registerWrite : up.target 0 (rateCtlPage.addr + 0x140) = .page rateCtlPage 0x140 ∧
    (regDefAt .rateCtl 0x140).any (fun r => r.access == .rw && !r.wide && r.smask == 0 &&
      up.denied rateCtlPage 0x140 (0x185 &&& r.wmask) == 0) = true ∧ up.takes rateCtlPage ∧
    after (.registerWrite 0 (rateCtlPage.addr + 0x140) 4 0x185 false) up (fun t => t.word rateCtlPage 0x140 == 0x85) = true := by
  decide

theorem test_rcRegisterRead : up.readable txPage = true ∧ txPage.rcCounter 1 = true ∧
    after (.rcRegisterRead 0 (txPage.addr + 0xC08) 8 false) (up.count txPage 1 7)
      (fun t => t.outbox.head? == some (.readData 0 7) && t.ctr txPage 1 == 0) = true := by decide

theorem test_msixMessage_masked : after (.msixMessage 0) { up with requests := [⟨0, 3⟩] }
    (fun t => (t.msixEntry 0 3).pending && t.outbox.isEmpty && t.requests.isEmpty) = true := by decide

theorem test_msixUnmask_pending : 3 < vectorCount 0 ∧
    after (.msixUnmask 0 3) { up with fns := modifyAt up.fns 0 fun x => { x with msix := [(3, ⟨0x80, 9, true, true⟩)] } }
      (fun t => t.outbox == [.msix 0 3 0x80 9]) = true := by decide

def diePage : Page := ⟨1, .dieGroup, 0⟩

/-- Dies 0 and 1 with the quire link between them. -/
def two : State :=
  { up with dies := up.dies.map fun x => { x with links := x.links.map fun l => { l with state := .up } } }

theorem test_blockCommands : two.takes diePage ∧ two.target 0 (diePage.addr + 8) = .page diePage 8 ∧
    bit (two.blkStat diePage) 26 = false ∧
    after (.reset 0 (diePage.addr + 8) 0xC3 1) two (fun t => (t.die 1).computeReset && (t.die 1).cmdBusy) = true := by decide

theorem test_colophonArm : up.takes txPage ∧ bit (up.blkStat txPage) 26 = false ∧ txPage ∈ up.reached txPage ∧
    after (.colophonArm 0 (txPage.addr + 8) 0xC3 1) up (fun t => (t.cap txPage).armed) = true := by decide

theorem test_colophonDisarm : after (.colophonDisarm 0 (txPage.addr + 8) 0xC3 1) (up.setCap txPage { armed := true })
    (fun t => !(t.cap txPage).armed) = true := by decide

theorem test_clearErrors : after (.clearErrors 0 (txPage.addr + 8) 0xC3 1) (up.setReg txPage 0x40 0x80000005)
    (fun t => t.word txPage 0x40 == 0) = true := by decide

theorem test_coldReset : after .perstNAssert (up.setReg txPage 0x10 1) (fun t => t.regs.isEmpty && t.board.perst) = true ∧
    up.board.perst = false ∧ after (.railFault 1) up (fun t => t.board.perst) = true := by decide

theorem test_perstNDeassert : State.reset.board.perst = true ∧
    after (.perstNDeassert 5 false) State.reset (fun t => t.spine.phase == .rom && t.board.i3cAddr == 5 && t.board.link.isSome) = true ∧
    after (.perstNDeassert 5 true) State.reset (fun t => t.board.link.isNone && t.board.strapTest) = true := by decide

theorem test_dieResetRampDownDone : (up.onDie 1 fun x => { x with cmdBusy := true }).sound ∧
    after (.dieResetRampDownDone 1) (up.onDie 1 fun x => { x with computeReset := true, cmdBusy := true })
      (fun t => !(t.die 1).computeReset && !(t.die 1).cmdBusy) = true := by decide

theorem test_functionLevelReset : (up.fn 1).phase = .opened ∧
    after (.functionLevelReset 1) up (fun t => (t.fn 1).phase == .closing && (t.fn 1).flr) = true ∧
    after .vfEnableClear up (fun t => (t.fn 1).phase == .closing && (t.fn 2).phase == .closed) = true := by decide

theorem test_forwardingPlaneReset : after (.forwardingPlaneReset 0) up (fun t => (t.die 0).router.held.isEmpty) = true := by decide


/-- A submission queue in host memory on ledger channel 0, owned by die 0, with 16 slots. -/
def sub : Queue :=
  { arrival := false, isLocal := false, owner := 0, ledger := some 0, log2 := 4, base := 0x10000, vector := 1, intEn := false, wait := 0 }

/-- An arrival queue in host memory. -/
def arr : Queue := { sub with arrival := true, ledger := none }

/-- A state with a queue of function 0. -/
def withQ (s : State) (q : Nat) (x : Queue) : State := { s with queues := FMap.set s.queues (qKey 0 q) x }

/-- A descriptor from fields: offset, length, value. -/
def desc (l : List (Nat × Nat × Nat)) : List Byte :=
  l.foldl (fun b x => b.take x.1 ++ toLE x.2.1 x.2.2 ++ b.drop (x.1 + x.2.1)) (zeros 64)

/-- A descriptor in execution at index 0 of queue 1 of function 0. -/
def job (d : List Byte) : Exec := { fn := 0, q := 1, index := 0, desc := d }

theorem test_hostReadError : (withQ up 1 sub).queue 0 1 = some sub ∧ sub.state ≠ .error ∧ ((withQ up 1 sub).fn 0).routes = [] ∧
    after (.hostReadError 0 1 3 .poisoned) (withQ (withQ up 1 sub) 2 sub)
      (fun t => (t.queue 0 1).map (fun x => (x.state, x.cause, x.errIndex)) == some (.error, 4, 3) &&
        t.queue 0 2 == some sub && t.outbox == [.aer 0 .poisonedTlp]) = true := by decide

theorem test_poisonedBarWrite : after (.poisonedBarWrite 1 false) up (fun t => t.outbox == [.aer 1 .poisonedTlp]) = true ∧
    after (.poisonedBarWrite 1 true) up (fun t => t.outbox == [.unsupported 1]) = true := by decide

theorem test_doe : after (.doeDiscovery 0) up (fun t => t.outbox == [.doeDiscovery 1 0 1]) = true ∧
    after (.doeUnsupportedObject 1 2 4) up (fun t => t.board.doeError) = true ∧
    after .doeAbort { up with board := { up.board with doeError := true } } (fun t => !t.board.doeError) = true := by decide

theorem test_spdm : after .getVersion up (fun t => t.outbox == [.spdm (.version [(1, 2)])]) = true ∧
    after (.negotiateAlgorithms true true) up (fun t => t.board.extAsym) = true ∧
    after (.spdmUnsupportedRequest 0xE6) up (fun t => t.outbox == [.spdm .unsupportedRequest]) = true ∧
    (1 ≤ 6 ∧ { up.board with extAsym := true }.extAsym = true) := by decide

theorem test_doorbellWrite : ((withQ up 1 sub).queue 0 (8 / 8)).isSome = true ∧
    after (.doorbellWrite 0 8 4 5) (withQ up 1 sub) (fun t => t.doorbells == [⟨0, 1, 5⟩]) = true ∧
    after (.doorbellWrite 0 4 4 5) (withQ up 1 sub)
      (fun t => t.doorbells.isEmpty && t.ctr pciePage Ctr.pcieDoorbellDrops == 1) = true := by decide

theorem test_doorbellAdmission : (16 - sub.head : Word).toNat ≤ 2 ^ sub.log2 ∧
    after (.doorbellAdmission 0 1) { withQ up 1 sub with doorbells := [⟨0, 1, 16⟩] }
      (fun t => (t.queue 0 1).map Queue.tail == some 16 && t.doorbells.isEmpty) = true ∧
    after (.doorbellAdmission 0 1) { withQ up 1 sub with doorbells := [⟨0, 1, 17⟩] }
      (fun t => (t.queue 0 1).map Queue.tail == some 0) = true ∧
    after (.doorbellAdmission 0 1) { withQ up 1 { arr with tail := 3 } with doorbells := [⟨0, 1, 3⟩] }
      (fun t => (t.queue 0 1).map Queue.head == some 3) = true ∧
    after (.doorbellAdmission 0 1) { withQ up 1 { sub with state := .disabled } with doorbells := [⟨0, 1, 2⟩] }
      (fun t => (t.queue 0 1).map Queue.recorded == some (some 2)) = true := by decide

def ledgerWrite : HostWrite := { addr := 0x40, data := [1], logged := false }

theorem test_ledgerIssue : after (.ledgerIssue 0 0) { up with fns := modifyAt up.fns 0 fun x => { x with ledgers := [[ledgerWrite], [], [], []] } }
    (fun t => t.outbox == [.hostWrite 0 0x40 [1]] && (t.fn 0).ledgers == [[], [], [], []]) = true := by decide

theorem test_readBack : after (.readBack 0 1 0)
      { withQ up 1 sub with execs := [{ job (zeros 64) with phase := .flushing, readBacks := [⟨.pcie, 0x40, false⟩] }] }
      (fun t => t.outbox == [.hostRead 0 0x40 64] && (t.exec? 0 1 0).map Exec.readBacks == some [⟨.pcie, 0x40, true⟩]) = true ∧
    after (.readBackReturn 0 1 0 false)
      { withQ up 1 sub with execs := [{ job (zeros 64) with phase := .flushing, readBacks := [⟨.pcie, 0x40, true⟩] }] }
      (fun t => (t.exec? 0 1 0).map (fun e => (e.phase, e.status)) == some (.finished, stFlushFailed)) = true ∧
    after (.readBackReturn 0 1 0 true)
      { withQ up 1 sub with execs := [{ job (zeros 64) with phase := .flushing, readBacks := [⟨.pcie, 0x40, true⟩] }] }
      (fun t => (t.exec? 0 1 0).map (fun e => (e.phase, e.status)) == some (.finished, 0)) = true := by decide

theorem test_descriptorFetch : ({ sub with tail := 2 } : Queue).fetchIndex = some 0 ∧
    after (.descriptorFetch 0 1) (withQ up 1 { sub with tail := 2 })
      (fun t => t.outbox == [.hostRead 0 0x10000 64] && (t.queue 0 1).map Queue.fetching == some [0]) = true := by decide

theorem test_descriptorFetchReturn : judge { sub with tail := 2, fetching := [1] } 1 (desc [(8, 8, 1)]) = .current ∧
    after (.descriptorFetchReturn 0 1 1 (desc [(8, 8, 1)])) (withQ up 1 { sub with tail := 2, fetching := [1] })
      (fun t => (t.queue 0 1).map Queue.slots == some [⟨1, desc [(8, 8, 1)], .current⟩]) = true := by decide

theorem test_staleRefetch : after (.staleRefetch 0 1 8) (withQ up 1 { sub with tail := 2, stale := some ⟨1, 7, 7, 0⟩ })
    (fun t => t.outbox == [.hostRead 0 0x10040 64] && (t.queue 0 1).map (fun x => x.stale.map StaleRun.issued) == some (some 8)) =
      true := by decide

theorem test_completionWrite : after (.completionWrite 0 1 0)
    { withQ up 1 { sub with tail := 2, next := 1 } with execs := [{ job (zeros 64) with phase := .finished, status := 5 }] }
    (fun t => t.execs.isEmpty && (t.queue 0 1).map Queue.head == some 1 && (t.fn 0).ledgers.map List.length == [2, 0, 0, 0]) =
      true := by decide

theorem test_arrivalEntryWrite : arr.hasSpace = true ∧
    after (.arrivalEntryWrite 0 1) { withQ up 1 arr with arrivals := [(0, 0, 1, ⟨5, [], none⟩)] }
      (fun t => t.arrivals.isEmpty && (t.queue 0 1).map Queue.tail == some 1) = true ∧
    ({ arr with tail := 16, held := some ⟨5, [], none⟩ } : Queue).hasSpace = false ∧
    after (.arrivalWaitExpiry 0 1) (withQ up 1 { arr with tail := 16, held := some ⟨5, [], none⟩ })
      (fun t => (t.queue 0 1).map (fun x => (x.lost, x.held)) == some (true, none)) = true := by decide


theorem test_queueDisable : up.takes (queuePage 0 0) ∧ (up.fn 0).service = false ∧
    after (.queueDisable 0 0 1) (withQ up 1 sub) (fun t => (t.queue 0 1).map Queue.state == some .disabling) = true ∧
    after (.queueDisabled 0 1) (withQ up 1 { sub with state := .disabling })
      (fun t => (t.queue 0 1).map Queue.state == some .disabled) = true ∧
    after (.queueEnable 0 0 1) (withQ up 1 { sub with state := .error, head := 3, next := 5, cause := 4 })
      (fun t => t.queue 0 1 == some { sub with head := 3, next := 3 }) = true := by decide

theorem test_stopFifoRead : up.readable (queuePage 0 0) = true ∧
    after (.stopFifoRead 0 0) { up with stops := [((queuePage 0 0).addr, [7, 9])] }
      (fun t => t.outbox == [.readData 0 0x80000007] && t.stops == [((queuePage 0 0).addr, [9])]) = true := by decide

theorem test_adminQueue : bit (up.reg (queuePage 0 0) 0x108) 31 = false ∧
    after (.adminQueueEnable 0 0x80040000) up (fun t => (t.queue 0 0).map (fun x => (x.log2, x.wait)) == some (4, 0xFFFF)) = true ∧
    after (.adminQueueDisable 0 0) (withQ (up.setReg (queuePage 0 0) 0x108 0x80040000) 0 sub)
      (fun t => t.queue 0 0 == none && !bit (t.reg (queuePage 0 0) 0x108) 31) = true := by decide

/-- A slot that is next to begin on a queue of function 0. -/
def withSlot (s : State) (q : Nat) (d : List Byte) : State :=
  withQ s q { sub with tail := 1, slots := [⟨0, d, .current⟩] }

def mayBegin (s : State) (q : Nat) : Bool :=
  (s.nextSlot 0 q).any fun z => (s.formOf 0 q z.1 z.2.bytes).isNone && (s.exec? 0 q z.2.index).isNone

/-- The descriptor at index 0 of a queue has ended with a status and results. -/
def ends (t : State) (q status r0 r1 : Nat) : Bool :=
  (t.exec? 0 q 0).any fun e => e.phase == .finished && e.status == status && e.result0 == r0 && e.result1 == r1

/-- CREATE_QUEUE of queue 7 in host memory, owned by die 1, with 2^16 slots, on ledger channel 3. -/
def createQueue : List Byte := desc [(0, 1, 1), (8, 8, 0x20000), (0x10, 8, 7 + 0x10000 + 16 * 2 ^ 20 + 7 * 2 ^ 27), (0x18, 8, 9)]

theorem test_createQueue : mayBegin (withSlot up 0 createQueue) 0 = true ∧
    after (.createQueue 0) (withSlot up 0 createQueue)
      (fun t => ends t 0 0 0 0 && (t.queue 0 7).map (fun x => (x.owner, x.log2, x.base, x.wait)) == some (1, 16, 0x20000, 9)) = true ∧
    after (.createQueue 0) (withSlot up 0 (desc [(0, 1, 1), (8, 8, 0x20000), (0x10, 8, 7 + 4 * 2 ^ 20 + 3 * 2 ^ 26)]))
      (fun t => ends t 0 stLedgerNotHost 0 0 && t.queue 0 7 == none) = true := by decide

theorem test_destroyQueue : after (.destroyQueue 0) (withQ (withSlot up 0 (desc [(0, 1, 2), (0x10, 8, 1)])) 1 { sub with state := .disabled })
    (fun t => ends t 0 0 0 0 && t.queue 0 1 == none) = true := by decide

theorem test_setArrivalRoute : after (.setArrivalRoute 0) (withQ (withSlot up 0 (desc [(0, 1, 3), (0x10, 8, 7 + 0x10000)])) 1 arr)
    (fun t => ends t 0 0 0 0 && FMap.get? (t.fn 0).routes 7 == some 1) = true := by decide

theorem test_setFunctionMode : mayBegin (withSlot up 0 (desc [(0, 1, 8), (0x10, 8, 16 + 256)])) 0 = true ∧
    after (.setFunctionMode 0) (withSlot up 0 (desc [(0, 1, 8), (0x10, 8, 16 + 256)]))
      (fun t => ends t 0 0 0 0 && (t.fn 16).service) = true := by decide

theorem test_createQp : mayBegin (withSlot up 0 (desc [(0, 1, 0x10), (0x10, 8, 1 + 6 * 2 ^ 36)])) 0 = true ∧
    after (.createQp 0) (withQ (withSlot up 0 (desc [(0, 1, 0x10), (0x10, 8, 1 + 6 * 2 ^ 36)])) 1 { sub with owner := 1 })
      (fun t => ends t 0 0 up.part.qpsPerDie 0 && (t.qp up.part.qpsPerDie).map (fun x => (x.sq, x.log2Win, x.state)) ==
        some (1, 6, .init)) = true := by decide

/-- A queue pair of function 0 that queue 1 feeds. -/
def qp0 : Qp :=
  { fn := 0, sq := 1, aq := 0, tclass := 2, gcm := false, key := 0, log2Win := 6, recvBase := 0, recvSlots := 0, log2Slot := 0 }

def withQp (s : State) (x : Qp) : State := { withQ s 1 sub with qps := [(0, x)] }

def modify (op : Nat) (l : List (Nat × Nat × Nat)) (x : Qp) : State :=
  withQp (withSlot up 0 (desc ([(0, 1, 0x11), (0x10, 8, op * 2 ^ 20)] ++ l))) x

theorem test_destroyQp : up.qpOutstanding 0 qp0 = false ∧
    after (.destroyQp 0) (withQp (withSlot up 0 (desc [(0, 1, 0x12)])) qp0) (fun t => ends t 0 0 0 0 && t.qp 0 == none) = true := by decide

theorem test_toRtr : mayBegin (modify 1 [(0x18, 8, 5 + 7 * 2 ^ 18), (0x20, 8, 0x12345678)] qp0) 0 = true ∧
    after (.toRtr 0) (modify 1 [(0x18, 8, 5 + 7 * 2 ^ 18), (0x20, 8, 0x12345678)] qp0) (fun t => ends t 0 0 3 0 &&
      (t.qp 0).map (fun x => (x.state, x.peer, x.peerQp, x.rcvNxt)) == some (.rtr, 5, 7, 0x12345678)) = true := by decide

theorem test_toRts : after (.toRts 0) (modify 2 [(0x20, 8, 0xFFFFFFFF), (0x30, 8, 0x25)] { qp0 with state := .rtr }) (fun t => ends t 0 0 4 0 &&
    (t.qp 0).map (fun x => (x.state, x.sndNxt, x.retryLimit, x.reorder)) == some (.rts, 0xFFFFFFFF, 5, 2)) = true := by decide

theorem test_toError : after (.toError 0) { modify 3 [] { qp0 with state := .rts, ops := [⟨0, 1, 0, 0, 8, 0, 0, false, 0, 0, false, none, 0, 0, false⟩] }
      with execs := [job (zeros 64)] } (fun t => ends t 0 0 6 0 && ends t 1 stQpError 0 0 && (t.qp 0).map Qp.state == some .error) =
    true := by decide

theorem test_toInit : after (.toInit 0) (modify 4 [] { qp0 with state := .error, sndNxt := 9 })
    (fun t => ends t 0 0 2 0 && t.qp 0 == some qp0) = true := by decide

theorem test_setLimits : after (.setLimits 0) (modify 5 [(0x30, 8, 0x3)] { qp0 with state := .faultWait })
    (fun t => ends t 0 0 5 0 && (t.qp 0).map (fun x => (x.retryLimit, x.reorder)) == some (3, 3)) = true := by decide

/-- Bytes with their CRC-32C at an offset where they hold zeros. -/
def withCrc (bs : List Byte) (o : Nat) : List Byte := bs.take o ++ toLE 4 (crc32c bs).toNat ++ bs.drop (o + 4)

/-- A record of bytes from fields, as `desc`. -/
def rec (n : Nat) (l : List (Nat × Nat × Nat)) : List Byte :=
  l.foldl (fun b x => b.take x.1 ++ toLE x.2.1 x.2.2 ++ b.drop (x.1 + x.2.1)) (zeros n)

/-- A recipe of one SIGNAL stage through a GLOBAL generator at 0x100000. -/
def bundle : List Byte :=
  withCrc (rec 184 [(0, 4, 0x50434552), (4, 2, 1), (7, 1, 1), (8, 1, 1), (0x10, 4, 184), (64, 8, 0x100000), (152, 4, 5),
    (156, 4, 0x00FF0FFF), (160, 4, 1)]) 0x14

theorem test_loadRecipe : bundleOk bundle = true := by decide

theorem test_loadRecipe_handle : mayBegin (withSlot up 0 (desc [(0, 1, 0x18), (0x10, 8, 184)])) 0 = true ∧
    after (.loadRecipe 0 bundle) (withSlot { up with recipes := [(0, ⟨1, [], []⟩)] } 0 (desc [(0, 1, 0x18), (0x10, 8, 184)]))
      (fun t => ends t 0 0 1 0 && (FMap.get? t.recipes 1).map Recipe.dies == some t.dieList) = true := by decide

theorem test_unloadRecipe : after (.unloadRecipe 0) (withSlot { up with recipes := [(127, ⟨0, bundle, []⟩)] } 0 (desc [(0, 1, 0x19), (0x10, 8, 127)]))
    (fun t => ends t 0 0 0 0 && t.recipes == []) = true := by decide

/-- Eight slot values, each that of slot 0 at reset. -/
def formats : List Byte := (List.replicate 8 (toLE 4 (up.reg ⟨0, .format, 0⟩ 0x100))).flatten

theorem test_formatTable : slotValid (le formats 0 4) = true ∧
    after (.formatTable 0 formats) (withSlot up 0 (desc [(0, 1, 0x1A), (0x10, 8, 0x10 + 39 * 256 + 32 * 2 ^ 32)]))
      (fun t => ends t 0 0 0 0 && t.reg ⟨7, .format, 4⟩ 0x11C == le formats 28 4) = true := by decide

theorem test_sequenceTable : up.namedReckoner 0 0 = some 0 ∧
    after (.sequenceTable 0 (zeros 1024)) (withSlot up 0 (desc [(0, 1, 0x1A), (0x10, 8, 0x11 + 1024 * 2 ^ 32)]))
      (fun t => ends t 0 0 0 0 && (t.reck 0 0).seqs.length == 16) = true := by decide

/-- A collation table of one part with a range, whose root is endpoint 9. -/
def collationBytes : List Byte :=
  withCrc (rec 80 [(0, 4, 0x4C4C4F43), (4, 2, 1), (6, 2, 77), (8, 4, 0x01000100), (0x0C, 4, 9), (64, 8, 0), (72, 8, 4096)]) 0x1C

/-- `up` with endpoint 0 on die 0 and the first 16 GiB of its HBM mapped for the PF at the same offsets. -/
def mem0 : State :=
  ((up.setReg ⟨0, .router0, 0⟩ 0x100 0x80000000).setByte 0 0x8000 0x13).onXlate 0 fun x => { x with roots := [(0, 0x8000)] }

theorem test_collationTable : mem0.collationOk 0 collationBytes = true ∧
    after (.collationTable 0 collationBytes) (withSlot mem0 0 (desc [(0, 1, 0x1A), (0x10, 8, 0x20 + 31 * 256 + 80 * 2 ^ 32)]))
      (fun t => ends t 0 0 0 0 && (FMap.get? (t.integ 0).collations 31).map Collation.id == some 77) = true := by decide

theorem test_invalidateRange : mayBegin (withSlot up 0 (desc [(0, 1, 0x20), (0x10, 8, 4096)])) 0 = true ∧
    up.idleEngines 0 ≠ allEngines ∧
    after (.invalidateRange 0) (withSlot up 0 (desc [(0, 1, 0x20), (0x10, 8, 4096)])) (fun t =>
      (t.exec? 0 0 0).map Exec.phase == some .running && (t.die 7).xlate.inval.map Inval.len == some 4096) = true := by decide

/-- A fault record of function 0 that nothing waits on. -/
def fault0 : FaultRec := { fn := 0, key := 3, kind := 1, addr := 0, time := 0, anyWrite := false, waiters := 1, since := 0 }

def faulted (s : State) (n : Nat) : State := s.onXlate 1 fun x => { x with faults := [(n, fault0)] }

theorem test_resolveFault : after (.resolveFault 0) (faulted (withSlot up 0 (desc [(0, 1, 0x21), (0x10, 8, 4095 + 2 ^ 16)])) 4095)
    (fun t => ends t 0 0 0 0 && (t.die 1).xlate.faults == []) = true := by decide

theorem test_setPageTableRoot : mem0.dieOf (gaEndpoint 0x10000) = some 0 ∧ mem0.owns 0 0 0x10000 32768 = true ∧
    after (.setPageTableRoot 0) (withSlot mem0 0 (desc [(0, 1, 0x22), (8, 8, 0x10000), (0x18, 8, 16)]))
      (fun t => ends t 0 0 0 0 && FMap.get? (t.die 0).xlate.roots 16 == some 0x10000) = true := by decide

/-- A record of equal shares among 16 partitions. -/
def shares : List Byte := withCrc (rec 64 [(0, 4, 0x54524150), (4, 4, 0x10010001), (0x14, 4, 64)]) 0x18

theorem test_resizePartition : recordOk 8 shares = true ∧ mayBegin (withSlot up 0 (desc [(0, 1, 0x30), (0x18, 8, 16)])) 0 = true ∧
    up.pfKeeps 16 (holdingOf 8 16 shares) = true ∧ (holdingOf 8 16 shares).queues = 3840 := by decide

theorem test_resizePartition_takes : after (.resizePartition 0 shares) (withSlot up 0 (desc [(0, 1, 0x30), (0x18, 8, 16)]))
    (fun t => ends t 0 0 0 0 && (t.fn 16).queues == 3840 && t.rkOwner[31]? == some 16) = true := by decide

theorem test_destroyPartition : (up.quiesced 16) = true ∧
    after (.destroyPartition 0) { withSlot up 0 (desc [(0, 1, 0x31), (0x18, 8, 16)]) with
        fns := modifyAt up.fns 16 fun x => { x with queues := 5 }, rkOwner := [16] ++ List.replicate 39 0, granules := [(3, 16)] }
      (fun t => ends t 0 0 0 0 && (t.fn 16).queues == 0 && t.rkOwner.head? == some 0 && t.granules == []) = true := by decide

/-- A group of endpoints 0 (the root, on die 0) and 9. -/
def groupTable (gen : Nat) : List Byte :=
  withCrc (rec 80 [(0, 4, 0x47525550), (4, 2, 1), (6, 2, 5), (8, 4, gen + 0x10000), (0x14, 4, 80), (64, 8, 0), (72, 8, 9)]) 0x18

theorem test_createGroup : groupTableOk (groupTable 3) 5 = true ∧ mem0.namedDies (groupTable 3) = [(0, 0)] ∧
    after (.createGroup 0 (groupTable 3)) (withSlot mem0 0 (desc [(0, 1, 0x38), (0x10, 8, 5)]))
      (fun t => ends t 0 0 3 0 && (t.groupOf 0 5).map Prod.snd == some (groupOfTable (groupTable 3) 0)) = true := by decide

def grouped : State := mem0.onDie 0 fun x => { x with groups := [(0, groupOfTable (groupTable 3) 0)] }

theorem test_reformGroup : after (.reformGroup 0 (groupTable 4)) (withSlot grouped 0 (desc [(0, 1, 0x39), (0x10, 8, 5)]))
    (fun t => ends t 0 0 4 0 && (t.groupOf 0 5).map (fun g => g.2.gen) == some 4) = true := by decide

theorem test_destroyGroup : after (.destroyGroup 0) (withSlot grouped 0 (desc [(0, 1, 0x3A), (0x10, 8, 5)]))
    (fun t => ends t 0 0 0 0 && (t.die 0).groups == []) = true := by decide


theorem test_write_rts : mayBegin (withSlot { mem0 with qps := [(0, { qp0 with state := .rts })] } 1 (desc [(0, 1, 1), (0x18, 4, 8)])) 1 = true ∧
    after (.write 0 1) (withSlot { mem0 with qps := [(0, { qp0 with state := .rts })] } 1 (desc [(0, 1, 1), (0x18, 4, 8)]))
      (fun t => (t.exec? 0 1 0).map Exec.phase == some .running && (t.qp 0).map (fun x => x.ops.map QpOp.length) == some [8]) = true := by
  decide

theorem test_send_init : after (.send 0 1) (withSlot { up with qps := [(0, qp0)] } 1 (desc [(0, 1, 3), (0x18, 4, 8)]))
      (fun t => ends t 1 stQpError 0 0) = true ∧
    after (.read 0 1) (withSlot { up with qps := [(0, { qp0 with state := .error })] } 1 (desc [(0, 1, 2), (0x18, 4, 8)]))
      (fun t => ends t 1 stQpError 0 0) = true := by decide

theorem test_writeNotify : after (.writeNotify 0 1) (withSlot { mem0 with qps := [(0, { qp0 with state := .rts })] } 1 (desc [(0, 1, 4), (0x18, 4, 8), (0x1C, 4, 77)]))
    (fun t => (t.qp 0).map (fun x => x.ops.map QpOp.imm) == some [77]) = true := by decide

theorem test_atomicAdd : after (.atomicAdd 0 1) (withSlot { mem0 with qps := [(0, { qp0 with state := .faultWait })] } 1 (desc [(0, 1, 5), (0x18, 4, 8), (0x20, 8, 3)]))
    (fun t => (t.qp 0).map (fun x => x.ops.map QpOp.operand) == some [3]) = true := by decide

/-- STAGE_IN of 8 bytes to offset 0x100000. -/
def stageIn8 : List Byte := desc [(0, 1, 0x10), (0x10, 8, 0x100000), (0x18, 4, 8)]

theorem test_stageIn_begins : mayBegin (withSlot mem0 1 stageIn8) 1 = true ∧ mem0.dieOf (gaEndpoint (dDst stageIn8)) = some 0 ∧
    (mem0.translate 0 8 0 0x100000 true).1 = .found { fn := 0, base := 0, log2 := 34, tier := 0, frame := 0, writable := true, countEn := false } := by
  decide

theorem test_stageIn : after (.stageIn 0 1 [1, 2, 3, 4, 5, 6, 7, 8]) (withSlot mem0 1 stageIn8)
    (fun t => ends t 1 0 8 0 && t.byte 0 0x100007 == 8) = true := by decide

/-- `mem0` with the block at 0x100000 of zeros readable: not poisoned, and with its tally (4,096 zeros give 0x98F94189). -/
def mem1 : State := (mem0.setPoison 0 0x100000 false).setTally 0 0x100000 0x98F94189

theorem test_localCopy : mem0.copiesOn 0 < 4 ∧
    after (.localCopy 0 1) (withSlot mem1 1 (desc [(0, 1, 0x12), (8, 8, 0x100000), (0x10, 8, 0x200000), (0x18, 4, 8)]))
      (fun t => ends t 1 0 8 0 && t.byte 0 0x200003 == 0) = true := by decide +kernel

theorem test_nop : mayBegin (withSlot up 1 (desc [(0, 1, 0x3F)])) 1 = true ∧
    after (.nop 0 1) (withSlot up 1 (desc [(0, 1, 0x3F)])) (fun t => ends t 1 0 0 0) = true := by decide

/-- A RUN_RECIPE of handle 0 on Reckoner 39. -/
def runRecipe : List Byte := desc [(0, 1, 0x20), (0x30, 5, 2 ^ 39)]

def recipe0 : Recipe := { fn := 0, bundle := bundle, dies := List.range 8 }

theorem test_runRecipe : mayBegin (withSlot { up with recipes := [(0, recipe0)] } 1 runRecipe) 1 = true ∧
    up.runWaits 0 runRecipe = false ∧ ({ up with recipes := [(0, recipe0)] } : State).runRefusal 0 runRecipe = none ∧
    formatsOk bundle (up.snapshot bundle 39) = true ∧
    after (.runRecipe 0 1) (withSlot { up with recipes := [(0, recipe0)] } 1 runRecipe)
      (fun t => (t.runAt 7 4).isSome && (t.reck 7 4).epoch 0 == 1) = true := by decide

/-- A BROADCAST of 64 KiB to group 5 at generation 3. -/
def broadcast5 : List Byte :=
  desc [(0, 1, 0x29), (4, 4, 5), (8, 8, 0x100000), (0x18, 4, 65536), (0x20, 8, 0x100000), (0x34, 2, 3)]

theorem test_broadcast : mayBegin (withSlot grouped 1 broadcast5) 1 = true ∧ grouped.collWaits 0 broadcast5 = false ∧
    grouped.collGroup 0 broadcast5 = some (0, groupOfTable (groupTable 3) 0) ∧
    (collOpOf 0 1 0 broadcast5 (groupOfTable (groupTable 3) 0) (zeros 32)).badArgs true (zeros 32) = false := by decide

def grouped1 : State := mem1.onDie 0 fun x => { x with groups := [(0, groupOfTable (groupTable 3) 0)] }

theorem test_broadcast_begins : after (.broadcast 0 1) (withSlot grouped1 1 broadcast5)
    (fun t => (FMap.get? (t.die 0).groups 0).map Group.nextOp == some 1) = true := by decide +kernel

theorem test_aliased :
    (let t := (⟨0, 0, 25, 0, 0, true, false⟩ : Translation)
     let s := up.onXlate 0 fun x => { x with caches := modifyAt x.caches 8 fun _ => [t, { t with base := 2 ^ 25 }] }
     (s.aliased 0 0 0x100000 (2 ^ 25 + 0x100004) 8, s.aliased 0 0 0x100000 (2 ^ 25 + 0x100008) 8)) = (true, false) := by decide


/-- A packet of a type to endpoint 0 from endpoint 0. -/
def pkt (t : BitVec 6) (body : List Byte) : Packet :=
  { dest := 0, edition := false, tclass := 2, ptype := t, escape := false, ce := false, reserved0 := 0, source := 0
    length := BitVec.ofNat 14 body.length, hops := 0, replicate := false, reserved1 := 0, groupId := 0, groupGen := 0, reserved2 := 0
    body := body }

/-- A transport packet to queue pair 0 of the PF. -/
def bf (op psn addr aux : Nat) (payload : List Byte) : Packet :=
  pkt ptBrevefold (toBE 4 (512 + op) ++ toBE 4 psn ++ toBE 8 addr ++ toBE 4 0xC0000000 ++ toBE 4 aux ++ payload ++
    tallies (tallyBase op (BitVec.ofNat 64 addr)) payload)

/-- `mem0` with queue pair 0 cached. -/
def rx (x : Qp) : State :=
  { mem0 with qps := [(0, x)] }.onDie 0 fun y => { y with tx := { cache := [{ qp := 0, way := 0, changed := false, prefetch := false }] } }

def rts0 : Qp := { qp0 with state := .rts, aq := 2, rcvNxt := 0xFFFFFFFF, recvBase := 0x200000, recvSlots := 1, log2Slot := 12 }

def takes (x : Qp) (p : Packet) (bs : List Byte) : Bool :=
  match bfIn p with
  | some h => decide ((rx x).takesPacket 0 p h x bs)
  | none => false

theorem test_writePacket : takes rts0 (bf 1 0xFFFFFFFF 0x100FFF 0 [7]) [7] = true ∧
    after (.writePacket 0 (bf 1 0xFFFFFFFF 0x100FFF 0 [7])) (rx rts0)
      (fun t => (t.qp 0).map Qp.rcvNxt == some 0 && t.byte 0 0x100FFF == 7) = true := by decide

theorem test_writeNotifyPacket : takes rts0 (bf 2 0xFFFFFFFF 0x100000 9 [7]) [7] = true ∧
    after (.writeNotifyPacket 0 (bf 2 0xFFFFFFFF 0x100000 9 [7])) (rx rts0)
      (fun t => t.arrivals.map (fun a => a.2.2.2.body) == [messageBody 0 0 1 9 0x100000]) = true := by decide

theorem test_sendPacket : takes rts0 (bf 3 0xFFFFFFFF 0 9 [7]) [7] = true ∧
    after (.sendPacket 0 (bf 3 0xFFFFFFFF 0 9 [7])) (rx rts0)
      (fun t => (t.qp 0).map (fun x => (x.rcvNxt, x.slotsHeld)) == some (0, [0]) && t.byte 0 0x200000 == 7) = true := by decide

theorem test_msgAbort : takes rts0 (bf 8 0xFFFFFFFF 0 1 []) [] = true ∧
    after (.msgAbort 0 (bf 8 0xFFFFFFFF 0 1 [])) (rx rts0) (fun t => (t.qp 0).map Qp.rcvNxt == some 0) = true := by decide

theorem test_readRequest : takes rts0 (bf 4 0xFFFFFFFF 0x100000 64 (toBE 8 0x300000)) (toBE 8 0x300000) = true ∧
    after (.readRequest 0 (bf 4 0xFFFFFFFF 0x100000 64 (toBE 8 0x300000))) (rx rts0)
      (fun t => (t.qp 0).map (fun x => (x.rcvNxt, x.owed.map OwedReply.length)) == some (0, [64])) = true := by decide

theorem test_atomicRequest : takes rts0 (bf 6 0xFFFFFFFF 0x100000 0 (toBE 8 5)) (toBE 8 5) = true ∧
    after (.atomicRequest 0 (bf 6 0xFFFFFFFF 0x100000 0 (toBE 8 5))) ((rx rts0).setPoison 0 0x100000 false)
      (fun t => (t.qp 0).map (fun x => (x.rcvNxt, x.owed.map OwedReply.value)) == some (0, [0]) && t.byte 0 0x100000 == 5) = true := by
  decide

/-- An outstanding PSN of queue pair 0. -/
def sent0 (k : PsnKind) : SentPsn :=
  { psn := 4, kind := k, request := 4, op := 0, opcode := 1, addr := 0x100000, src := 0, len := 8, aux := 0, first := true, last := true
    sentAt := 1 }

def tx0 (k : PsnKind) : Qp :=
  { rts0 with sent := [sent0 k], sndUna := 4, sndNxt := 5, ops := [⟨0, 5, 0, 0, 8, 0, 0, false, 0, 0, false, none, 0, 0, false⟩] }

theorem test_readResponse : takes (tx0 .readRequest) (bf 5 4 0x100000 0 [7]) [7] = true ∧
    after (.readResponse 0 (bf 5 4 0x100000 0 [7])) (rx (tx0 .readRequest))
      (fun t => t.byte 0 0x100000 == 7 && (t.qp 0).any (fun x => x.sent.all SentPsn.acked)) = true := by decide

theorem test_atomicResponse : takes (tx0 .atomic) (bf 7 4 0 0 (toBE 8 6)) (toBE 8 6) = true ∧
    after (.atomicResponse 0 (bf 7 4 0 0 (toBE 8 6))) (rx (tx0 .atomic))
      (fun t => (t.qp 0).any fun x => x.sent.all SentPsn.acked) = true := by decide

theorem test_ack : takes (tx0 .data) (bf 0x10 5 0 0 (zeros 40)) (zeros 40) = true ∧
    after (.ack 0 (bf 0x10 5 0 0 (zeros 40))) (rx (tx0 .data)) (fun t => (t.qp 0).any fun x => x.sent.all SentPsn.acked) = true := by
  decide

theorem test_nakRnr : takes (tx0 .data) (bf 0x11 4 0 1 []) [] = true ∧
    after (.nakRnr 0 (bf 0x11 4 0 1 [])) (rx { tx0 .data with retries := 6, rto := 4000001 })
      (fun t => (t.qp 0).map (fun x => (x.retries, x.rto)) == some (7, 8000000)) = true := by decide

theorem test_nakFaultWait : after (.nakFaultWait 0 (bf 0x11 4 0 2 [])) (rx (tx0 .data))
    (fun t => (t.qp 0).map (fun x => (x.state, x.fault.remote)) == some (.faultWait, some (4, 0))) = true := by decide

theorem test_nakAccessDenied : after (.nakAccessDenied 0 (bf 0x11 4 0 3 [])) (rx (tx0 .data))
      (fun t => (t.qp 0).map (fun x => (x.state, x.errStatus)) == some (.error, stAccessDenied)) = true ∧
    after (.nakQpError 0 (bf 0x11 4 0 6 [])) (rx (tx0 .data))
      (fun t => (t.qp 0).map (fun x => (x.state, x.errStatus)) == some (.error, stQpError)) = true ∧
    after (.nakInvalidRequest 0 (bf 0x11 4 0 7 [])) (rx (tx0 .data))
      (fun t => (t.qp 0).map (fun x => (x.state, x.errStatus)) == some (.error, stQpError)) = true := by decide

theorem test_nakPoisoned : after (.nakPoisoned 0 (bf 0x11 4 0 4 [])) (rx (tx0 .readRequest))
      (fun t => (t.qp 0).any fun x => x.sent.all SentPsn.acked) = true ∧
    after (.nakTallyFailed 0 (bf 0x11 4 0 5 [])) (rx (tx0 .readRequest))
      (fun t => (t.qp 0).any fun x => x.sent.all SentPsn.acked) = true := by decide

theorem test_rtoExpiry : after (.rtoExpiry 0) (rx { tx0 .data with timer := true })
    (fun t => (t.qp 0).map (fun x => (x.retries, x.rto, x.sent.map SentPsn.due)) == some (1, 80000, [true])) = true := by decide

theorem test_ackTimer : after (.ackTimer 0) (rx { rts0 with ackTimer := true, dataCount := 9 })
    (fun t => (t.qp 0).map (fun x => (x.ackSeq, x.dataCount, x.ackTimer)) == some (1, 0, false)) = true := by decide

theorem test_faultWaitProbe : after (.faultWaitProbe 0) (rx { tx0 .data with state := .faultWait, fault := { remote := some (4, 0) } })
      (fun t => (t.qp 0).any fun x => x.sent.all SentPsn.due) = true ∧
    after (.faultWaitLimit 0) (rx { tx0 .data with state := .faultWait, fault := { remote := some (4, 0) } })
      (fun t => (t.qp 0).map (fun x => (x.state, x.errStatus, x.errDetail)) == some (.error, stTranslationFault, dtRemote)) = true := by
  decide

theorem test_contextFetchDone : after (.contextFetchDone 0)
      ({ mem0 with qps := [(0, rts0)] }.onDie 0 fun y => { y with tx := { fetches := [⟨0, 0, false⟩] } })
      (fun t => t.ctxCached 0 0 && !t.ctxFetching 0 0) = true ∧ mem0.ctxVictim 0 0 true ≠ none ∧
    after (.contextPrefetch 0) { mem0 with qps := [(0, rts0)] } (fun t => t.ctxFetching 0 0) = true := by decide


/-- A held packet for port 2, from the local port. -/
def ackHeld (port : Nat) : HeldPacket :=
  { id := 5, pkt := { pkt ptBrevefold (zeros 40) with dest := 9 }, inPort := 7, vcIn := 0, units := 0, flow := flowAck, port := port
    mask := 2 ^ port, escape := none, since := 0 }

/-- A virtual channel with room, and links 0 of die 0 up. -/
def vc1 : VcCredit := { granted := 100, peerFreed := 0, initIn := true, initOut := true }

def linkedOn (s : State) (v : VcCredit) : State :=
  (s.onDie 0 fun x => { x with links := modifyAt x.links 0 fun l => { l with state := .up, vcs := List.replicate 10 v } }).onDie 0
    fun x => { x with router := { x.router with ports := x.router.ports.set 0 .up } }

def linked (v : VcCredit) : State := linkedOn up v

def sched0 : State := (linked vc1).onDie 0 fun x => { x with router := { x.router with held := [ackHeld 0] } }

theorem test_schedulerSelection : sched0.ackAt 0 0 2 = some (ackHeld 0) ∧ sched0.classTokens 0 0 2 = true ∧ sched0.portState 0 0 = .up ∧
    sched0.sound ∧ after (.schedulerSelection 0 0) sched0 (fun t => (t.die 0).router.held.isEmpty &&
      t.outbox.map (fun | .frame d k v _ _ => (d, k, v) | _ => (9, 9, 9)) == [(0, 0, 2)]) = true := by decide

theorem test_depthDelaySample : bit (up.reg ⟨0, .sched, 9⟩ 0x104) 31 = true ∧ up.qpsAt 0 9 = [] ∧
    after (.depthDelaySample 0 9) up (fun t => t.reg ⟨0, .sched, 9⟩ (0x400 + 0x40 * 7) == 1) = true := by decide

theorem test_qpWeightWrite : up.takes ⟨0, .rate, 0⟩ ∧ bits (up.reg ⟨0, .rateCtl, 0⟩ 0x140) 7 0 = 64 ∧
    after (.qpWeightWrite 0 0 64) (withQp up qp0) (fun t => (t.qp 0).map Qp.weight == some 64) = true ∧
    after (.qpWeightWrite 0 0 65) (withQp up qp0) (fun t => (t.qp 0).map Qp.weight == (some qp0).map Qp.weight) = true := by decide

def link0 (f : Link → Link) : State := up.onDie 0 fun x => { x with links := modifyAt x.links 0 f }

theorem test_alramTraining : after (.alramTrainingDone 0 0 true) (link0 fun l => { l with state := .training })
      (fun t => t.linkState 0 0 == .align && ((t.die 0).link 0).reversed) = true ∧
    after (.alramAlignLock 0 0) (link0 fun l => { l with state := .align })
      (fun t => t.linkState 0 0 == .creditInit && t.outbox.length == 10) = true := by decide

theorem test_init : after (.init 0 0 9 7 512) (link0 fun l => { l with state := .creditInit, vcs := List.replicate 9 vc1 ++ [{}] })
    (fun t => t.linkState 0 0 == .up && ((t.die 0).link 0).peer == 7) = true ∧
    after (.init 0 0 9 7 512) (link0 fun l => { l with state := .creditInit, vcs := List.replicate 10 {} })
      (fun t => t.linkState 0 0 == .creditInit) = true := by decide

theorem test_linkEnable : up.takes ⟨0, .alram, 1⟩ ∧ after (.linkEnable 0 1) (up.onDie 0 fun x => { x with links := modifyAt x.links 1 fun l => { l with state := .disabled } })
      (fun t => t.linkEnabled 0 1 && t.linkState 0 1 == .training) = true ∧
    after (.linkDisable 0 1) (up.setReg ⟨0, .alram, 1⟩ 0x100 0x80000000) (fun t => !t.linkEnabled 0 1 && t.linkState 0 1 == .disabled) = true ∧
    after (.alramLinkDown 0 0) ((linked vc1).setReg ⟨0, .alram, 0⟩ 0x100 0x80000000)
      (fun t => t.linkState 0 0 == .training && t.portState 0 0 != .up) = true := by decide

theorem test_quireLinks : up.wired 0 2 = true ∧ up.linkEnabled 0 2 = true ∧
    after (.quireLinkUp 0 0) (up.onDie 0 fun x => { x with links := modifyAt x.links 2 fun l => { l with state := .training } })
      (fun t => t.linkState 0 2 == .up && ((t.die 0).link 2).vcs.length == 11) = true ∧
    after (.quireLinkDown 0 0) two (fun t => t.linkState 0 2 == .training && t.portState 0 3 != .up) = true ∧
    after (.quireRetrainTimeout 0 0) (up.onDie 0 fun x => { x with links := modifyAt x.links 2 fun l => { l with state := .training, lanes := 3 } })
      (fun t => t.linkState 0 2 == .training) = true := by decide

theorem test_frameReceive : let p := pkt ptBrevefold (zeros 64)
    after (.frameReceive 0 0 2 p (linkCrc p) true) (linked vc1)
      (fun t => (t.die 0).router.fifos[0]?.map List.length == some 1 && ((t.die 0).link 0).vcs[2]?.map VcCredit.seen == some 2) = true ∧
    after (.frameReceive 0 0 2 p (linkCrc p) false) (linked vc1)
      (fun t => (t.die 0).router.fifos[0]?.map List.length == some 0 && ((t.die 0).link 0).vcs[2]?.map VcCredit.freed == some 2) = true := by
  decide

theorem test_creditWords : after (.credit 0 0 2 9) (linked vc1) (fun t => ((t.die 0).link 0).vcs[2]?.map VcCredit.peerFreed == some 9) = true ∧
    before (0xFFFFFFFF : Word) 2 = true ∧
    after (.sync 0 0 2 2) (linked { vc1 with seen := 0xFFFFFFFF, freed := 1 })
      (fun t => ((t.die 0).link 0).vcs[2]?.map (fun c => (c.seen, c.freed)) == some (2, 4)) = true := by decide

theorem test_creditTimers : after (.creditReportTimer 0 0) (linked { vc1 with freed := 3 })
      (fun t => t.outbox.contains (.control 0 0 0x0320000000000003)) = true ∧
    after (.syncTimer 0 0) (linked { vc1 with sent := 5 })
      (fun t => t.outbox.contains (.control 0 0 0x0490000000000005)) = true := by decide

/-- An Alram operation that the PF's attached endpoint 9 sends. -/
def alramOp (t : BitVec 6) (arg : Nat) (body : List Byte) : Packet :=
  { pkt t (alramHeader 0x100000 4 0 0 false arg ++ body) with source := 9 }

def alram0 (r : List AlramRead) : State := (linkedOn mem1 vc1).onDie 0 fun x => { x with links := modifyAt x.links 0 fun l => { l with reads := r } }

theorem test_alramOperations : alramBad (alramOp ptAlramWrite 0 [7]) false = false ∧
    (alram0 []).alramBound 0 0 (alramOp ptAlramWrite 0 [7]) = true ∧ gaEndpoint 0x100000 = (alram0 []).endpoint 0 ∧
    alramData (alramOp ptAlramWrite 0 [7]) = some [7] ∧
    after (.alramWrite 0 0 (alramOp ptAlramWrite 0 [7])) (alram0 []) (fun t => t.byte 0 0x100000 == 7) = true ∧
    after (.alramReadRequest 0 0 (alramOp ptAlramReadRequest 2 [])) (alram0 [])
      (fun t => (t.die 0).router.held.map (fun h => (h.port, h.pkt.ptype, h.pkt.dest, h.pkt.body.drop 16)) ==
        [(0, ptAlramReadResponse, 9, [0, 0] ++ tallies 0x100000 [0, 0])]) = true := by decide +kernel

/-- A read-back that FLUSH waits for. -/
def flushRead : AlramRead := { tag := 4, addr := 0x100000, len := 2, fn := 0, tclass := 2, use := .flush 0 1 0 }

def flushing : State :=
  { alram0 [flushRead] with execs := [{ job (zeros 64) with phase := .flushing, readBacks := [⟨.alram 0, 0, true⟩, ⟨.alram 0, 64, true⟩] }] }

theorem test_alramReads : after (.alramReadResponse 0 0 (alramOp ptAlramReadResponse 2 [1, 2])) flushing
      (fun t => ((t.die 0).link 0).reads.isEmpty && (t.exec? 0 1 0).map (fun e => e.readBacks.length) == some 1) = true ∧
    after (.alramReadTimeout 0 0 4) (flushing.setReg ⟨0, .alram, 0⟩ 0x10C 1)
      (fun t => ((t.die 0).link 0).reads.map AlramRead.retries == [1]) = true := by decide

def routed (p : Packet) : State :=
  ((linkedOn up vc1).setReg ⟨0, .router0, 0⟩ 0x100 0x80000000).setReg ⟨0, .router0, 0⟩ 0x110 0xFF000000 |>.onDie 0 fun x =>
    { x with router := { x.router with fifos := x.router.fifos.set 0 [⟨p, 0, 2, 2, none⟩], routes := [(9 + 2 ^ 14, 0x80000100)] } }

theorem test_routePacket : (routed (pkt ptChunk (zeros 64))).badHeader 0 0 (pkt ptChunk (zeros 64)) = false ∧
    after (.routePacket 0 0) (routed (pkt ptChunk (zeros 64)))
      (fun t => (t.die 0).router.arrived.map FifoPacket.pkt == [pkt ptChunk (zeros 64)] && (t.die 0).router.fifos[0]? == some []) = true ∧
    after (.routePacket 0 0) (routed { pkt ptChunk (zeros 64) with dest := 9 })
      (fun t => (t.die 0).router.held.map (fun h => (h.port, h.pkt.dest)) == [(0, 9)]) = true := by decide

theorem test_fifos : after (.fifoPointerMismatch 0 0) (routed (pkt ptChunk []))
      (fun t => (t.die 0).router.fifos[0]? == some [] && t.ctr ⟨0, .router0, 0⟩ Ctr.router0FifoResets == 1) = true ∧
    after (.dropRest 0 0) (routed (pkt ptChunk [])) (fun t => (t.die 0).router.fifos[0]? == some []) = true := by decide

theorem test_holdExpiry : after (.holdExpiry 0 3) (up.onDie 0 fun x => { x with router := { x.router with ports := x.router.ports.set 3 .hold } })
      (fun t => t.portState 0 3 == .discard) = true ∧
    after (.editionCountRelease 0 true) (up.onDie 0 fun x => { x with router := { x.router with counts := [0, 4], leaving := [0, 1] } })
      (fun t => (t.die 0).router.counts == [0, 3] && (t.die 0).router.leaving == [0, 0]) = true := by decide

/-- A packet that waits for port 1, whose escape port is port 0. -/
def waiting0 : State :=
  (linkedOn up vc1).onDie 0 fun x =>
    { x with router := { x.router with ports := x.router.ports.set 1 .up, held := [{ ackHeld 1 with escape := some 0 }] } }

theorem test_escapeWaitExpiry : after (.escapeWaitExpiry 0 1 (2 ^ 18 + 5)) waiting0
    (fun t => (t.die 0).router.held.map (fun h => (h.port, h.mask, h.pkt.escape)) == [(0, 1, true)]) = true ∧
    (waiting0.usable 0 2).all (fun j => !waiting0.hasCredit 0 j 2 (ackHeld 1).pkt) = true ∧
    waiting0.hasCredit 0 0 8 (ackHeld 1).pkt = true := by decide

/-- Port 0 of die 0 in a state. -/
def eth (f : EthPort → EthPort) : State := up.onEth 0 0 f

theorem test_ethTraining : 0 < up.ethPorts 0 ∧
    after (.ethTrainingDone 0 0 true) (eth fun x => { x with state := .training })
      (fun t => (t.ethPort 0 0).state == .align && (t.ethPort 0 0).reversed) = true ∧
    after (.ethTrainingTimeout 0 0) (eth fun x => { x with state := .training, lanes := 5, reversed := true })
      (fun t => (t.ethPort 0 0).state == .training && (t.ethPort 0 0).lanes == 0) = true ∧
    after (.ethAlignLock 0 0) (eth fun x => { x with state := .align })
      (fun t => (t.ethPort 0 0).state == .up && (t.ethPort 0 0).lanes == 0xFF) = true ∧
    after (.ethAlignTimeout 0 0) (eth fun x => { x with state := .align }) (fun t => (t.ethPort 0 0).state == .disabled) = true := by decide

theorem test_ethLinkDown : up.takes ⟨0, .ethPort, 0⟩ ∧
    after (.ethLinkDown 0 0 true) (eth fun x => { x with state := .up, pausing := 3 })
      (fun t => (t.ethPort 0 0).state == .disabled && (t.ethPort 0 0).remoteFault && (t.ethPort 0 0).pausing == 0) = true ∧
    after (.portEnable 0 0 true) up (fun t => t.ethEnabled 0 0 && (t.ethPort 0 0).state == .training) = true ∧
    after (.portEnable 0 0 false) (eth fun x => { x with state := .up }) (fun t => (t.ethPort 0 0).state == .disabled) = true := by decide

/-- Die 0 with an endpoint ID and port 0 up, which takes frames sent to its own address. -/
def ethIn : State :=
  ((eth fun x => { x with state := .up }).setReg ⟨0, .router0, 0⟩ 0x100 0x80000000).setReg ⟨0, .ethPort, 0⟩ 0x120 0x8000000000000000

def chunkFrame : List Byte := ethIn.ethFrame 0 0 (pkt ptChunk (zeros 64))

theorem test_ethFrameReceive : ethIn.ethCheck 0 chunkFrame = none ∧ ethIn.filterHit 0 0 0x120 8 (be chunkFrame 0 6) = true ∧
    after (.ethFrameReceive 0 0 chunkFrame (crc32 chunkFrame) true) ethIn
      (fun t => t.ctr ⟨0, .ethPort, 0⟩ Ctr.ethPortRxFramesOk == 1 && (t.die 0).router.fifos[2]?.map List.length == some 1) = true ∧
    after (.ethFrameReceive 0 0 chunkFrame 0 true) ethIn (fun t => t.ctr ⟨0, .ethPort, 0⟩ Ctr.ethPortRxFcsErrors == 1) = true := by decide

/-- A PTP event message. -/
def ptpBytes : List Byte := toBE 6 0x011B19000000 ++ zeros 6 ++ [0x88, 0xF7] ++ zeros 50

theorem test_ptpFrame : isPtp ptpBytes = true ∧ isPtpEvent ptpBytes = true ∧
    after (.ptpFrame 0 0 ptpBytes 9) (ethIn.setReg ⟨0, .ethPort, 0⟩ 0x100 0x20000000)
      (fun t => (t.ethPort 0 0).ptp == [(ptpBytes, some 9)]) = true := by decide

theorem test_pfcRepeat : let s := (eth fun x => { x with state := .up, pausing := 4, usage := x.usage.set 2 262145 }).setReg ⟨0, .ethPort, 0⟩ 0x10C 0xFFFF0004
    s.xon 0 0 2 < s.usage 0 0 2 ∧
    after (.pfcRepeat 0 0 2) s (fun t => t.ctr ⟨0, .ethPort, 0⟩ Ctr.ethPortTxPfcFrames == 1 && t.outbox.length == 1) = true ∧
    after (.pfcFrame 0 0 4 [0, 0, 9]) s (fun t => (t.ethPort 0 0).rxPause == [0, 0, 9, 0, 0, 0, 0, 0]) = true := by decide

theorem test_pauseTimerExpiry : after (.pauseTimerExpiry 0 0 7) (eth fun x => { x with rxPause := List.replicate 8 9 })
      (fun t => (t.ethPort 0 0).rxPause == [9, 9, 9, 9, 9, 9, 9, 0]) = true ∧
    after (.pfcCtlWrite 0 0 0x0002FF00) up (fun t => t.reg ⟨0, .ethPort, 0⟩ 0x10C == 0x00020000) = true ∧
    after (.pfcCtlWrite 0 0 0x00010000) up (fun t => t.reg ⟨0, .ethPort, 0⟩ 0x10C == up.reg ⟨0, .ethPort, 0⟩ 0x10C) = true := by decide


theorem test_patrolScrub : let s := mem0.setReg (memCtlPage 0 0) 0x100 0x80000000
    bit (s.reg (memCtlPage 0 0) 0x100) 31 = true ∧
    after (.patrolScrub 0 0 256 .clean) s (fun t => (t.die 0).mems.map MemCtl.scrubbed == [1, 0, 0]) = true ∧
    after (.patrolScrub 0 0 256 .uncorrected) s (fun t => t.poisoned 0 0x100000) = true := by decide

theorem test_walkComplete : (match (mem1.walk 0 0 0x100000 true).1 with | .found _ => true | _ => false) = true ∧
    after (.walkComplete 0 2 0 0x100000 true false) mem1 (fun t => (t.cached 0 2 0 0x100000).isSome) = true ∧
    after (.walkComplete 0 2 0 0x100000 true true) mem1 (fun t => (t.cached 0 2 0 0x100000).isSome) = true ∧
    after (.walkComplete 0 2 0 (2 ^ 34) true false) mem1 (fun t => (t.die 0).xlate.faults.map (fun r => (r.1, r.2.fn, r.2.key, r.2.waiters)) ==
      [(0, 0, 512, 4)]) = true := by decide

theorem test_tallyReread : after (.tallyReread 0 0 0x100000 0) (mem1.setByte 0 0x100003 1) (fun t => t.poisoned 0 0x100000) = true := by
  decide +kernel

theorem test_dogEarWindowEnd : after (.dogEarWindowEnd 1) (up.onXlate 1 fun x => { x with counts := [(0, 7)] })
    (fun t => (t.die 1).xlate.counts.isEmpty) = true := by decide

theorem test_faultAbort : after (.faultAbort 1 3) (faulted up 3)
    (fun t => (t.die 1).xlate.faults.isEmpty && t.ctr ⟨1, .xlate, 0⟩ Ctr.xlateFaultsAborted == 1) = true := by decide

/-- INVALIDATE_RANGE in progress on all dies, with the last engine of die 0 still to acknowledge. -/
def inval0 : State :=
  let v : Inval := { fn := 0, base := 0, len := 4096, points := allEngines, acked := allEngines }
  let s : State := { up with dies := up.dies.map (fun x => { x with xlate := { x.xlate with inval := some v } })
                             execs := [{ job (desc [(0, 1, 0x20)]) with q := 0 }] }
  s.onXlate 0 fun x => { x with inval := some { v with points := allEngines, acked := allEngines - 512 } }

theorem test_invalidationPoint : after (.invalidationPoint 0 0) ((inval0.onXlate 0 fun x =>
      { x with caches := x.caches.set 0 [⟨0, 0, 12, 0, 0, true, false⟩, ⟨1, 0, 12, 0, 0, true, false⟩] }))
    (fun t => ((t.die 0).xlate.caches[0]?).map List.length == some 1) = true := by decide

theorem test_invalidationAck : after (.invalidationAck 0 9) inval0
      (fun t => t.dies.all (fun x => x.xlate.inval.isNone) && ends t 0 0 0x03FF03FF03FF03FF 0x03FF03FF03FF03FF) = true ∧
    after (.invalidationResend 0) (inval0.onXlate 0 fun x => { x with inval := some ⟨0, 0, 4096, 0, 0⟩ })
      (fun t => (t.die 0).xlate.inval.map Inval.acked == some (inval0.idleEngines 0)) = true ∧
    inval0.idleEngines 0 ≠ allEngines := by decide

/-- A recipe of one stage of a kind and a SIGNAL stage: generator 0 is GLOBAL 0x100000, 1 and 2 are STAGE 0 and 4096, and the chain
adds input 0 to itself. -/
def stages (kind gens rows length : Nat) : List Byte :=
  rec 400 [(7, 1, 3), (8, 1, 2), (9, 1, 1), (64, 8, 0x100000), (152 + 8, 8, 1), (240, 8, 4096), (248, 8, 1), (328, 4, kind),
    (332, 4, gens), (336, 4, rows), (340, 4, length), (360, 4, 5), (364, 4, 0x00FF0FFF), (368, 4, 1), (392, 8, 0x5100)]

def run0 : Run :=
  { fn := 0, q := 1, index := 0, handle := 0, rank := 0, slot := 0, early := false, limit := 9, args := some [0], formats := [], active := []
    cursor := ⟨false, 0, 1⟩, stage := some 0 }

/-- Reckoner 0 at the first stage of that recipe. -/
def running (b : List Byte) (r : Run) : State :=
  { mem1.onDie 0 fun x => { x with recks := modifyAt x.recks 0 fun y => { y with run := some r } } with
    recipes := [(0, ⟨0, b, [0]⟩)], execs := [job runRecipe] }.setReg ⟨0, .integrity, 0⟩ 0x100 0

/-- The stage does its work without a halt, and the command leaves the run at the next stage. -/
def works (c : Instr) (act : Work → RM Unit) (kind gens rows length : Nat) : Bool :=
  let s := running (stages kind gens rows length) run0
  (match s.workAt 0 0 with
    | some w => match act w (s.beginStage w) with
      | (.ok _, s2) => (s2.runAt 0 0).any fun y => !y.stopping
      | _ => false
    | none => false) &&
  after c s fun t => (t.runAt 0 0).map Run.stage == some (some 1)

theorem test_matmul : works (.matmul 0 0 .clean) stageMatmul 1 0x88FF2F11 (1 + 2 ^ 13) 32 = true := by decide +kernel
theorem test_vector : works (.vector 0 0 .clean) stageVector (2 + 2 ^ 14) 0x99FF2FF1 1 8 = true := by decide +kernel
theorem test_store : works (.store 0 0 .clean) stageStore 3 0x00FF0FF1 1 8 = true := by decide +kernel
theorem test_candidate : works (.candidate 0 0 .clean) stageCandidate 4 0x00FF2FF1 1 4 = true := by decide +kernel
theorem test_draw : works (.draw 0 0 .clean) stageDraw 4 0x00FF2FF1 (1 + 2 ^ 24) 256 = true := by decide +kernel
theorem test_signal : after (.signal 0 0) (running (stages 5 0x00FF0FFF 1 0) run0)
    (fun t => (t.runAt 0 0).map Run.stage == some (some 1) && t.byte 0 0x100000 == 1) = true := by decide +kernel

/-- A WAIT for a flag of at least `target`, then a SIGNAL. -/
def waits (target : Nat) : List Byte := rec 400 [(7, 1, 3), (8, 1, 2), (64, 8, 0x100000), (328, 4, 6), (332, 4, 0x00FFFFF0), (336, 4, 1),
  (340, 4, target), (360, 4, 5), (364, 4, 0x00FF0FFF), (368, 4, 1)]

theorem test_wait : after (.wait 0 0) (running (waits 1) run0) (fun t => (t.runAt 0 0).map Run.waiting == some true) = true ∧
    after (.waitSatisfied 0 0) (running (waits 0) { run0 with waiting := true })
      (fun t => (t.runAt 0 0).map (fun x => (x.stage, x.waiting)) == some (some 1, false)) = true := by decide +kernel

-- As `waits`, with generator 1: no block of memory is read.
theorem test_waitTimeout : after (.waitTimeout 0 0) (running (rec 400 [(7, 1, 3), (8, 1, 2), (160, 8, 1), (328, 4, 6), (332, 4, 0x00FFFFF1),
      (336, 4, 1), (340, 4, 1)]) { run0 with waiting := true })
    (fun t => (t.runAt 0 0).isNone && (t.exec? 0 1 0).map (fun e => (e.status, e.detail)) == some (stRecipeAborted, raTimeout)) = true := by
  decide +kernel

def ahead0 : AheadTile := { stage := 0, counters := List.replicate 6 0, blocks := [0x100000], tier := 0 }

theorem test_tilePrefetch : (nextTile (stages 0 0x00FF1FF0 1 8) [] [] 4096 run0).isSome = true ∧
    after (.tilePrefetch 0 0) (running (stages 0 0x00FF1FF0 1 8) run0) (fun t => (t.runAt 0 0).map (fun x => x.ahead.map AheadTile.stage) == some [0]) =
      true := by decide

theorem test_tileArrival : after (.tileArrival 0 0) (running (stages 0 0x00FF1FF0 1 8) { run0 with ahead := [ahead0] })
    (fun t => (t.runAt 0 0).map (fun x => x.ahead.map fun y => y.data.isSome) == some [true]) = true := by decide +kernel

theorem test_load_uncorrectable : after (.load 0 0 (.uncorrectable 0)) (running (stages 0 0x00FF1FF0 1 8) run0)
    (fun t => (t.runAt 0 0).isNone && t.ctr ⟨0, .reckoner, 0⟩ Ctr.reckonerStageEccUncorrected == 1) = true := by decide +kernel

/-- A check record between Reckoners 0 and 6. -/
def check0 (v : Option (List Byte)) : Check :=
  { id := 3, original := 0, checker := 6, fn := 0, q := 1, index := 0, early := false, tile := [], operands := [], result := [1], disputed := v
    third := v.map fun _ => 12 }

def checked (v : Option (List Byte)) : State :=
  { up with execs := [job runRecipe] }.onInteg 0 fun x => { x with records := [(0, check0 v)] }

theorem test_checkExecution : (up.pickReckoner 0 [0, 6]).1 ≠ none ∧
    after (.checkExecution 0 0 [1]) (checked none) (fun t => t.ctr ⟨0, .integrity, 0⟩ Ctr.integrityChecksPassed == 1) = true ∧
    after (.checkExecution 0 0 [2]) (checked none)
      (fun t => (FMap.get? (t.integ 0).records 0).map (fun c => (c.third.isSome, c.disputed)) == some (true, some [2])) = true := by decide

theorem test_checkReexecution : after (.checkReexecution 0 0 [1] [2] [7]) (checked (some [2])) (fun t => (t.reck 0 0).retired) = true ∧
    after (.checkReexecution 0 0 [2] [2] [7]) (checked (some [2])) (fun t => t.ctr ⟨0, .integrity, 0⟩ Ctr.integrityClassTransient == 1) = true ∧
    after (.checkReexecution 0 0 [1] [1] [2]) (checked (some [2])) (fun t => (t.reck 1 1).retired) = true ∧
    after (.checkReexecution 0 0 [1] [1] [1]) (checked (some [2])) (fun t => t.ctr ⟨0, .integrity, 0⟩ Ctr.integrityClassTransient == 1) = true ∧
    after (.checkReexecution 0 0 [4] [2] [2]) (checked (some [2])) (fun t => (t.reck 0 0).candidate && (t.reck 1 1).candidate) = true := by decide

def withReck (f : Reckoner → Reckoner) : State := up.onDie 0 fun x => { x with recks := modifyAt x.recks 0 f }

theorem test_knownAnswers : up.checking 0 = false ∧ after (.knownAnswerRun 0 0) up (fun t => (t.reck 0 0).known) = true ∧
    after (.karDeferExpiry 0 0) (withReck fun x => { x with run := some run0 }) (fun t => (t.reck 0 0).knownDue) = true ∧
    after (.knownAnswerDone 0 0 0) (withReck fun x => { x with known := true, candidate := true })
      (fun t => !(t.reck 0 0).known && !(t.reck 0 0).candidate) = true ∧
    after (.knownAnswerDone 0 0 1) (withReck fun x => { x with known := true, candidate := true }) (fun t => (t.reck 0 0).retired) = true ∧
    after (.knownAnswerDone 0 0 1) (withReck fun x => { x with known := true }) (fun t => (t.reck 0 0).candidate) = true := by decide

/-- An integrity message of a header's words and a payload. -/
def integrityPkt (w0 w1 w2 w3 : Nat) (body : List Byte) : Packet :=
  let m := toBE 4 w0 ++ toBE 4 w1 ++ toBE 4 w2 ++ toBE 4 w3 ++ body
  { pkt ptPoisonNotice (m ++ tallies 0 m) with source := 9 }

theorem test_notice : let p := integrityPkt 0x10010800 5 0 0 (toBE 8 0x100000)
    (integrityParts p).map (fun x => (integrityFn x.1, x.2.length)) = some (0, 8) ∧
    after (.notice 0 p) mem0 (fun t => t.poisoned 0 0x100000 && t.ctr ⟨0, .integrity, 0⟩ Ctr.integrityNoticesReceived == 1) = true := by
  decide +kernel

/-- Die 0 with an unacknowledged NOTICE to endpoint 9. -/
def noticed : State :=
  mem0.onInteg 0 fun x => { x with
    notices := [{ seq := 5, dest := 9, fn := 0, gen := 0, blocks := [0x100000] }]
    log := [{ seq := 0, block := 0x100000, fn := 0, dest := 9, source := .reckoner 0 [], retracting := true }] }

theorem test_noticeAck : after (.noticeAck 0 (integrityPkt 0x20000800 5 0 0 [])) noticed
      (fun t => (t.integ 0).notices.isEmpty && (t.integ 0).log.isEmpty) = true ∧
    after (.noticeRepeat 0 5) noticed (fun t => (t.integ 0).notices.map Notice.repeats == [1]) = true ∧
    after (.noticeRepeat 0 5) (noticed.setReg ⟨0, .integrity, 0⟩ 0x118 0) (fun t => (t.integ 0).notices.isEmpty) = true := by decide

/-- Entry 31 of die 0's collation table, which is the root of its group of two replicas. -/
def collation0 : Collation :=
  { id := 77, replica := 0, last := 1, part := 0, root := 0, group := false, source := 0, interval := 1, timeout := 1000, fn := 0
    area := 0x200000, ranges := [] }

def collating (f : Collation → Collation) : State :=
  mem0.onInteg 0 fun x => { x with collations := [(31, f collation0)] }

theorem test_digests : after (.digestFormed 0 31) (collating fun c => { c with due := [4] })
      (fun t => (FMap.get? (t.integ 0).collations 31).map (fun c => (c.due, c.unacked.length)) == some ([], 1)) = true ∧
    after (.digestAck 0 { integrityPkt 0x40000800 4 (collationWord 77 0 0) 0 [] with source := 0 })
      (collating fun c => { c with unacked := [(4, none, [], 0)] })
      (fun t => (FMap.get? (t.integ 0).collations 31).map (fun c => c.unacked.length) == some 0) = true ∧
    after (.digestRepeat 0 31) (collating fun c => { c with unacked := [(4, none, [], 0)] })
      (fun t => (FMap.get? (t.integ 0).collations 31).map (fun c => c.unacked.map fun u => u.2.2.2) == some [1]) = true := by decide +kernel

theorem test_digest : after (.digest 0 (integrityPkt 0x30000800 4 (collationWord 77 0 1) 0 (zeros 48))) (collating id)
      (fun t => (FMap.get? (t.integ 0).collations 31).map (fun c => c.held.length) == some 1) = true ∧
    after (.collationTimeout 0 31 0) (collating fun c => { c with held := [⟨4, 0, 1, none⟩] })
      (fun t => (FMap.get? (t.integ 0).collations 31).map (fun c => (c.held.length, c.decided)) == some (0, [(0, 4)])) = true := by
  decide +kernel


/-- The group of `groupTable` as its member `m` has it, and an operation of it at this die. -/
def group3 (m : Nat) : Group := groupOfTable (groupTable 3) m

def reduce0 : CollOp :=
  { fn := 0, q := 1, index := 0, broadcast := false, src := 0x100000, dst := 0x200000, length := 256, inType := 0, outType := 0
    distribute := true, early := false, seq := 7, replay := 0x400000, children := [] }

/-- Die 0 as member `m` of the group, with an operation under way. -/
def coll (m : Nat) (o : CollOp) : State :=
  { mem0 with execs := [job broadcast5] }.onDie 0 fun x => { x with groups := [(0, { group3 m with op := some o })] }

/-- A chunk packet of member `m`. -/
def chunkPkt (m kind gen chunk row window arg : Nat) (payload : List Byte) : Packet :=
  pkt ptChunk (chunkBody (group3 m) 7 kind gen 0 chunk row window arg payload)

def opOf (t : State) : Option CollOp := (t.collOp 0 0).map Prod.snd

def taken (s : State) (p : Packet) (kind : Nat) : Bool :=
  match chunkIn p.body, s.collOp 0 0 with
  | some h, some (g, o) => decide (s.takesChunk 0 p kind 0 g o h)
  | _, _ => false

def child1 : ChildState := { member := 1, endpoint := 9 }

theorem test_chunk_stale : let p := chunkPkt 1 ckData 0 0 0 0 0 []
    (coll 1 { reduce0 with seq := 8 }).groupOf 0 5 = some (0, { group3 1 with op := some { reduce0 with seq := 8 } }) ∧
    after (.data 0 p) (coll 1 { reduce0 with seq := 8 }) (fun t => t.ctr ⟨0, .collective, 0⟩ Ctr.collectiveStaleDrops == 1) = true := by decide

theorem test_grant : taken (coll 1 reduce0) (chunkPkt 0 ckGrant 0 0 0 0 9 []) ckGrant = true ∧
    after (.grant 0 (chunkPkt 0 ckGrant 0 0 0 0 9 [])) (coll 1 reduce0) (fun t => (opOf t).map CollOp.granted == some 1) = true := by decide

theorem test_finish : taken (coll 1 reduce0) (chunkPkt 0 ckFinish 0 0 0 0 9 []) ckFinish = true ∧
    after (.finish 0 (chunkPkt 0 ckFinish 0 0 0 0 0x50009 [])) (coll 1 reduce0) (fun t => (opOf t).isNone &&
      (t.exec? 0 1 0).map (fun e => (e.phase == .finished, e.status, e.detail)) == some (true, 9, 5)) = true := by decide

theorem test_chunkAbort : taken (coll 1 reduce0) (chunkPkt 0 ckAbort 0 0 0 0 9 []) ckAbort = true ∧
    after (.chunkAbort 0 (chunkPkt 0 ckAbort 0 0 0 0 9 [])) (coll 1 reduce0)
      (fun t => (opOf t).isNone && (t.exec? 0 1 0).map (fun e => e.status) == some 9) = true := by decide

theorem test_retract : let s := coll 1 { reduce0 with chunks := [{ k := 0, written := [0x200000] }], granted := 1 }
    taken s (chunkPkt 0 ckRetract 0 0 0 0 0 []) ckRetract = true ∧
    after (.retract 0 (chunkPkt 0 ckRetract 0 0 0 0 0 [])) s
      (fun t => t.poisoned 0 0x200000 && (opOf t).map (fun o => o.chunks.map Chunk.gen) == some [1]) = true := by decide

def gathering (added : List Nat) : State :=
  coll 0 { reduce0 with children := [child1], granted := 1, chunks := [{ k := 0, added := added }] }

theorem test_receipt : let s := coll 0 { reduce0 with broadcast := true, granted := 1, children := [child1] }
    taken s (chunkPkt 1 ckReceipt 0 0 0 0 0x80000000 []) ckReceipt = true ∧
    after (.receipt 0 (chunkPkt 1 ckReceipt 0 0 0 0 0x80000000 [])) s
      (fun t => (opOf t).map (fun o => o.children.map ChildState.receipt) == some [some (true, 0)]) = true := by decide

theorem test_frames : taken (gathering []) (chunkPkt 1 ckFrames 0 0 0 0 0 []) ckFrames = true ∧
    after (.frames 0 { chunkPkt 1 ckFrames 0 0 0 0 0 [] with body := chunkBody (group3 1) 7 ckFrames 0 0 0 0 0 0 [] ++ [1, 2, 3, 4] } 0)
      (gathering []) (fun t => t.ctr ⟨0, .collective, 0⟩ Ctr.collectiveTallyFailures == 1) = true ∧
    after (.frames 0 (chunkPkt 1 ckFrames 0 0 0 0 0 []) 0) (gathering [partRow 1 0])
      (fun t => t.ctr ⟨0, .collective, 0⟩ Ctr.collectiveDuplicatesDropped == 1) = true := by decide

def receiving (f : CollOp → CollOp) : State := coll 1 (f { reduce0 with granted := 1, chunks := [{ k := 0 }] })

theorem test_data_turnedAway : taken (receiving id) (chunkPkt 0 ckData 0 0 0 0 0 [1]) ckData = true ∧
    after (.data 0 (chunkPkt 0 ckData 0 0 0 0 0 [1])) (receiving fun o => { o with base := 1 })
      (fun t => t.ctr ⟨0, .collective, 0⟩ Ctr.collectiveDuplicatesDropped == 1) = true ∧
    after (.data 0 (chunkPkt 0 ckData 0 0 0 0 0 [1])) (receiving fun o => { o with paused := some 3 })
      (fun t => (opOf t).map (fun o => o.held.length) == some 1) = true ∧
    after (.data 0 { chunkPkt 0 ckData 0 0 0 0 0 [] with body := chunkBody (group3 0) 7 ckData 0 0 0 0 0 0 [] ++ [1, 2, 3, 4] }) (receiving id)
      (fun t => t.ctr ⟨0, .collective, 0⟩ Ctr.collectiveTallyFailures == 1) = true := by decide

theorem test_resend : let s := coll 0 { reduce0 with broadcast := true, granted := 1, children := [child1] }
    taken s (chunkPkt 1 ckResend 0 0 0 0 0 []) ckResend = true ∧
    after (.resend 0 (chunkPkt 1 ckResend 0 0 0 0 0 [])) s
      (fun t => t.ctr ⟨0, .collective, 0⟩ Ctr.collectiveResendsServed == 1) = true ∧
    after (.resend 0 (chunkPkt 0 ckResend 0 0 0 0 0 [])) (receiving fun o => { o with chunks := [{ k := 0, own := true }] })
      (fun t => t.ctr ⟨0, .collective, 0⟩ Ctr.collectiveResendsServed == 1) = true := by decide +kernel

theorem test_failure : taken (gathering []) (chunkPkt 1 ckFailure 0 0 0 0 3 []) ckFailure = true ∧
    after (.failure 0 (chunkPkt 1 ckFailure 0 0 0 0 3 [])) (gathering [])
      (fun t => (opOf t).isNone && (t.exec? 0 1 0).map (fun e => (e.status, e.detail)) == some (stReplayLost, 1)) = true ∧
    after (.failure 0 (chunkPkt 1 ckFailure 0 0 0 0 1 [])) (gathering [])
      (fun t => t.ctr ⟨0, .collective, 0⟩ Ctr.collectiveRetractions == 1) = true := by decide

theorem test_repeatTimer : after (.repeatTimer 0 0) (receiving id) (fun t => opOf t == opOf (receiving id)) = true ∧
    after (.resendTimer 0 0) (receiving fun o => { o with broadcast := true })
      (fun t => (opOf t).map CollOp.asked == some [(0, 0, 0)] && t.ctr ⟨0, .collective, 0⟩ Ctr.collectiveResendsRequested == 1) = true := by decide

theorem test_childTimeout : after (.childTimeout 0 0 0) (gathering [])
      (fun t => (opOf t).isNone && (t.exec? 0 1 0).map (fun e => (e.status, e.detail)) == some (stGroupTimeout, gtMemberTimeout)) = true ∧
    after (.childTimeout 0 0 0) (receiving fun o => { o with children := [child1] })
      (fun t => (opOf t).map (fun o => o.failures.map fun f => f.2.2) == some [(4, 9)]) = true := by decide

theorem test_parentTimeout : after (.parentTimeout 0 0) (receiving id)
      (fun t => (opOf t).isNone && (t.exec? 0 1 0).map (fun e => (e.status, e.detail)) == some (stGroupTimeout, gtParentTimeout)) = true ∧
    after (.memberLeft 0 0) (receiving fun o => { o with leaving := true }) (fun t => (opOf t).isNone && (t.exec? 0 1 0).isNone) = true := by
  decide

theorem test_data : after (.data 0 (chunkPkt 0 ckData 0 0 0 0 0 [1, 2, 3, 4, 5, 6, 7, 8]))
    (receiving fun o => { o with inType := 8, outType := 8, length := 8 })
    (fun t => t.ctr ⟨0, .collective, 0⟩ Ctr.collectiveDataReceived == 1 && t.byte 0 0x200007 == 8) = true := by decide +kernel

theorem test_frames_stored : after (.frames 0 (chunkPkt 1 ckFrames 0 0 0 0 0 []) 0) (gathering [])
    (fun t => t.ctr ⟨0, .collective, 0⟩ Ctr.collectiveRowsReceived == 1) = true := by decide +kernel


/-- The state page of function 1, and the function in a phase. -/
def phase1 (f : Fn → Fn) : State := { up with fns := modifyAt up.fns 1 f }

theorem test_functionEnable : up.takes ⟨0, .fnState, 1⟩ ∧
    after (.functionEnable 1) (phase1 fun x => { x with enable := false, phase := .closed }) (fun t => (t.fn 1).phase == .opening) = true ∧
    after (.functionEnable 1) (phase1 fun x => { x with enable := false, phase := .closing }) (fun t => (t.fn 1).pendOpen) = true := by decide

theorem test_functionDisable : after (.functionDisable 1) (phase1 fun x => { x with phase := .opening }) (fun t => (t.fn 1).pendClose) = true ∧
    after (.functionDisable 1) (phase1 fun x => { x with phase := .closing, pendOpen := true }) (fun t => !(t.fn 1).pendOpen) = true ∧
    after (.functionDisable 1) up (fun t => (t.fn 1).phase == .closing) = true := by decide

theorem test_functionDisable_pf : up.takes ⟨0, .fnState, 0⟩ ∧
    after (.functionDisable 0) up (fun t => t.fn 0 == up.fn 0) = true ∧ after (.functionEnable 0) up (fun t => t.fn 0 == up.fn 0) = true ∧
    after (.fnHold 1 true) up (fun t => (t.fn 1).hold) = true := by decide

theorem test_dirtyLog : after (.dirtyLogEnable 1 0x80000014) up
      (fun t => t.reg ⟨0, .fnState, 1⟩ 0x148 == 0x80000014 && t.word ⟨0, .fnState, 1⟩ 0x14C == 0) = true ∧
    after (.dirtyHeadWrite 1 0xFFFFFFFF) (up.setReg ⟨0, .fnState, 1⟩ 0x148 0x80000008) (fun t => t.reg ⟨0, .fnState, 1⟩ 0x150 == 0xFFFFFFFF) =
      true ∧
    after (.dirtyHeadWrite 1 1) (up.setReg ⟨0, .fnState, 1⟩ 0x148 0x80000008) (fun t => t.reg ⟨0, .fnState, 1⟩ 0x150 == 0) = true := by decide

theorem test_openingComplete : after (.openingComplete 1) (phase1 fun x => { x with phase := .opening, service := true })
      (fun t => (t.fn 1).phase == .opened && !(t.fn 1).service) = true ∧
    after (.openingComplete 1) (phase1 fun x => { x with phase := .opening, pendClose := true }) (fun t => (t.fn 1).phase == .closing) = true := by
  decide

theorem test_closingComplete : (phase1 fun x => { x with phase := .closing }).leaving 1 = false ∧
    after (.closingComplete 1) (phase1 fun x => { x with phase := .closing }) (fun t => (t.fn 1).phase == .closed) = true ∧
    after (.closingComplete 1) (phase1 fun x => { x with phase := .closing, pendOpen := true }) (fun t => (t.fn 1).phase == .opening) = true := by
  decide

/-- A Spine whose OTP and flash are written out: image key 0 and debug key 0 are (0, 0), which doubles to no point. -/
def spine0 : Spine :=
  { phase := .running, opened := true, cold := false
    otp := { identity := 1, secret := zeros 32, serial := 7, serviceMac := 0, imageKeys := [some (0, 0)], debugKeys := [some (0, 0)] }
    flash := ⟨[], []⟩, slots := [{}, {}], certs := [] }

def withSpine (f : Spine → Spine) : State := { up with spine := f spine0 }

/-- Bytes with a signature at an offset that verifies under the key (0, 0): with t the digest, the point is the base point. -/
def signed (bs : List Byte) (n o : Nat) : List Byte :=
  bs.take o ++ toBE 48 bpG.1 ++ sha384 (bs.take n) ++ bs.drop (o + 96)

def body2 : List Byte := [1, 2, 3]

/-- The header of an image of a type and VERSION with a body. -/
def imageHeader (type version : Nat) (body : List Byte) : List Byte :=
  let h := rec 256 [(0, 4, 0x49565243), (4, 4, 1 + type * 256 + 0x40000), (8, 2, 0x0A51), (10, 2, 1), (12, 4, version), (0x14, 4, body.length),
    (0x1C, 2, if type = 2 then 5 else 0)]
  signed (h.take 0x20 ++ sha384 body ++ h.drop 0x50) 0x90 0x90

theorem test_bootRomStart : after .bootRomStart (withSpine fun x => { x with phase := .rom }) (fun t => t.spine.phase == .dead) = true ∧
    after .bootRomStart (withSpine fun x => { x with phase := .rom, flash := ⟨imageHeader 1 5 [4], [4]⟩ })
      (fun t => t.spine.phase == .spine) = true := by decide +kernel

theorem test_spineStart : after .spineStart (withSpine fun x => { x with phase := .spine })
    (fun t => t.spine.phase == .failed && (t.die 0).entropy.seeded) = true := by decide

theorem test_quireReady : after (.quireReady 0) { withSpine (fun x => { x with phase := .loading, reports := [1, 2, 3, 4, 5, 6, 7] }) with ready := false }
      (fun t => t.spine.phase == .running && t.ready && (t.fn 0).phase == .opened) = true ∧
    after .quireReadyTimeout (withSpine fun x => { x with phase := .loading }) (fun t => t.spine.phase == .failed && (t.die 7).computeReset) = true ∧
    after .quireReadyTimeout (withSpine fun x => { x with phase := .loading, slots := [{}, { state := .trial, tried := true }], inUse := 1 })
      (fun t => (t.spine.slots[1]?).map QuireSlot.state == some .rejected) = true := by decide

theorem test_heartbeats : after (.quireHeartbeat 7) (withSpine fun x => { x with misses := List.replicate 8 2 })
      (fun t => t.spine.misses[7]? == some 0) = true ∧
    after (.heartbeatMiss 7) (withSpine id) (fun t => t.spine.misses[7]? == some 1) = true ∧
    after (.heartbeatMiss 7) (withSpine fun x => { x with misses := List.replicate 8 2 })
      (fun t => t.spine.misses[7]? == some 0 && t.ctr ⟨0, .mailbox, 0⟩ Ctr.mailboxQuireReloads == 1) = true := by decide

theorem test_spineErrors : after .watchdogExpiry (withQ (withSpine id) 1 sub) (fun t => !t.ready && t.queues.isEmpty) = true ∧
    after (.stateChecksum false) (withQ (withSpine id) 1 sub) (fun t => !t.ready && t.queues.isEmpty) = true ∧
    after (.stateChecksum true) (withSpine id) (fun t => t.ready) = true ∧
    after (.spineEccError true) (withSpine id) (fun t => t.ctr ⟨0, .mailbox, 0⟩ Ctr.mailboxSpineEccCorrected == 1) = true ∧
    after (.spineEccError false) (withQ (withSpine id) 1 sub) (fun t => !t.ready && t.queues.isEmpty) = true := by decide

theorem test_offer : after (.offer 9 (imageHeader 2 1 body2)) (withSpine id)
      (fun t => t.spine.delivery == some { session := 9, header := imageHeader 2 1 body2 }) = true ∧
    after (.offer 9 []) (withSpine id) (fun t => t.spine.delivery.isNone && t.outbox.length == 1) = true := by decide +kernel

def delivering (next : Nat) (body : List Byte) : State :=
  withSpine fun x => { x with delivery := some { session := 9, header := imageHeader 2 1 body2, body := body, next := next } }

theorem test_block : after (.block 9 1 [9] true) (delivering 0 []) (fun t => (t.spine.delivery.map Delivery.body) == some []) = true ∧
    after (.block 9 0 body2 true) (delivering 0 [])
      (fun t => t.spine.delivery.isNone && (t.spine.slots[0]?).map (fun x => (x.state, x.image.body)) == some (.active, body2)) = true := by
  decide +kernel

theorem test_block_spine : after (.block 9 0 [4] true)
    (withSpine fun x => { x with delivery := some { session := 9, header := imageHeader 1 5 [4] } }) (fun t => t.spine.flash.body == [4]) = true ∧
    after (.block 9 0 (zeros 1024) true)
      (withSpine fun x => { x with delivery := some { session := 9, header := imageHeader 1 5 (zeros 1025) } })
      (fun t => (t.spine.delivery.map Delivery.next) == some 1) = true := by decide +kernel

theorem test_deliveryEnds : after (.deliveryAbort 9) (delivering 0 []) (fun t => t.spine.delivery.isNone) = true ∧
    after .sessionTimeout (delivering 0 []) (fun t => t.spine.delivery.isNone) = true ∧
    after (.statusRequest 9) (delivering 0 []) (fun t => t.outbox.length == 1 && t.spine.delivery.isSome) = true := by decide

def mbx (t : State) : Word64 := t.word ⟨0, .mailbox, 0⟩ 0x114

theorem test_mailboxForms : after (.attest []) (withSpine id) (fun t => mbx t == 0x202) = true ∧
    after (.loadFabricKey []) (withSpine fun x => { x with unlocked := true }) (fun t => mbx t == 0x304) = true ∧
    after (.fabricCmd 0 []) (withSpine id) (fun t => mbx t == 0x402) = true := by decide

/-- A message to and from endpoint 0. -/
def mgmt (seq : Nat) (arg0 arg1 : Word64) (mac : BitVec 128) : MgmtMessage :=
  { source := 0, dest := 0, flags := 0, status := 0, reserved := 0, sequence := BitVec.ofNat 64 seq, arg0 := arg0, arg1 := arg1, cmac := mac }

def keyed : State := withSpine fun x => { x with fabricKey := some (zeros 32) }

/-- SET_INJECT_EDITION of SEQUENCE 5 under a zero key, its CMAC computed by another program. -/
def inject1 : MgmtMessage := mgmt 5 1 0 0x696BDEC458692FB051379F351D13F1D4

theorem test_fabricCmd : after (.fabricCmd 1 (mgmtHead inject1 3 ++ toBE 16 inject1.cmac.toNat)) keyed
      (fun t => mbx t == 0x00300400 && t.spine.fabricSeq == 5 && bits (t.reg ⟨1, .router0, 0⟩ 0x104) 0 0 == 1) = true ∧
    after (.fabricCmd 1 (mgmtHead inject1 3 ++ toBE 16 inject1.cmac.toNat)) (withSpine id) (fun t => mbx t == 0x403) = true := by
  decide +kernel

theorem test_confirmQuire : after .confirmQuire (withSpine id) (fun t => mbx t == 0x504) = true ∧
    after .confirmQuire (withSpine fun x => { x with slots := [{ state := .trial }, {}] })
      (fun t => mbx t == 0x500 && (t.spine.slots[0]?).map QuireSlot.state == some .active) = true ∧
    after .debugChallenge (withSpine id) (fun t => mbx t == 0x00280600 && (t.spine.nonce.map List.length) == some 32) = true := by decide

/-- A debug token for nonce 6, 0, …. -/
def token : List Byte := signed (rec 160 [(0, 4, 0x4B4F5444), (4, 4, 1), (8, 8, 7), (0x10, 1, 6)]) 0x40 0x40

theorem test_debugUnlock : after (.debugUnlock token) (withSpine fun x => { x with nonce := some (toLE 32 6) })
      (fun t => mbx t == 0x700 && t.spine.unlocked && t.spine.nonce.isNone) = true ∧
    after (.debugUnlock token) (withSpine id) (fun t => mbx t == 0x703 && !t.spine.unlocked) = true ∧
    after (.approveRampTable []) (withSpine id) (fun t => mbx t == 0x802) = true := by decide +kernel

theorem test_keyErase : up.takes ⟨0, .cipherUser, 1⟩ ∧
    after (.keyErase 1 0xC0000005) { up with keys := [(70, { key := zeros 32, second := [], usage := 0, counters := [] })] }
      (fun t => t.keys.isEmpty && t.reg ⟨0, .cipherUser, 1⟩ 0x10C == 0x05000000 + krOk) = true ∧
    after (.keyLoad 1 0x80000005) (withSpine fun x => { x with unlocked := true })
      (fun t => t.ctr ⟨0, .cipherUser, 1⟩ Ctr.cipherUserKeyLoadFailures == 1) = true := by decide

theorem test_entropy : after (.entropyHealthFailure 2) up (fun t => !(t.die 2).entropy.ok) = true ∧
    after (.entropyHealthPass 2) up (fun t => (t.die 2).entropy == { ok := true, seeded := true, blocked := false }) = true ∧
    after (.drbgReseed 2) (up.onDie 2 fun x => { x with entropy := { ok := true, seeded := false } }) (fun t => (t.die 2).entropy.seeded) = true ∧
    after (.drbgReseed 2) (up.onDie 2 fun x => { x with entropy := { ok := false, seeded := true } }) (fun t => (t.die 2).entropy.blocked) = true := by
  decide


theorem test_fabricMgmt_dropped : [Instr.readRouter 1 inject1, .writeTableEntry 1 inject1, .setInjectEdition 1 inject1, .setRelayRequired 1 inject1,
      .setEndpointId 1 inject1, .setRouteCtl 1 inject1, .resetForwardingPlane 1 inject1, .setFabricTime 1 inject1, .adjustFabricTime 1 inject1,
      .setPtp 1 inject1, .armCaptureAt 1 inject1, .triggerCapture 1 inject1, .readFabricTime 1 inject1].all (fun c =>
      after c (withSpine id) fun t => t.ctr ⟨0, .mailbox, 0⟩ Ctr.mailboxFabricAuthDrops == 1) = true := by decide

-- SET_FABRIC_TIME to 9 ns, its CMAC computed by another program.
theorem test_setFabricTime : keyed.spine.alive = true ∧ keyed.mgmtPacket 1 0x20 (mgmt 5 9 0 0x78143164E47906335677CFF5398CE8D4) = none ∧
    after (.setFabricTime 1 (mgmt 5 9 0 0x78143164E47906335677CFF5398CE8D4)) keyed
    (fun t => t.dieList.all fun k => t.time k == 9) = true := by decide +kernel

theorem test_powerReq : after (.powerReq 0 0x80008 6) up (fun t => t.powerReq == 0 && t.powerMove == none) = true ∧
    after (.powerReq 0 0x80008 4) { up with powerMove := some 3 } (fun t => t.powerNext == some 4) = true ∧
    after (.powerReq 0 0x80008 4) up (fun t => t.powerRefused) = true ∧
    after (.powerReq 0 0x80008 2) up (fun t => t.powerReq == 2 && t.powerMove == none && (t.die 7).power.target == 2) = true := by decide

theorem test_powerReq_moves : up.refusesPower 3 = false ∧ after (.powerReq 0 0x80008 3) up (fun t => t.powerMove == some 3) = true ∧
    after .powerTransitionDone { up with powerMove := some 3 } (fun t => t.powerMove == none && (t.die 7).power.state == 3) = true := by decide

theorem test_creaseIdle : after (.creaseIdle 1) { up with powerReq := 1 } (fun t => (t.die 1).power.state == 1) = true ∧
    after (.foldIdle 1) { up with powerReq := 2 } (fun t => (t.die 1).power.state == 2 && (t.die 1).mems.all MemCtl.selfRefresh) = true ∧
    after (.wakeEvent 1 .doorbell) (up.onDie 1 fun x => { x with power := { x.power with state := 2 } }) (fun t => (t.die 1).power.state == 0) =
      true := by decide

/-- The part in Shelved. -/
def shelved : State :=
  { up with dies := up.dies.map (fun x => { x with power := { x.power with state := 5, target := 5 } }), powerReq := 5 }

theorem test_mctp_wakes : [Instr.mctpGetEndpointId, .mctpGetMessageTypeSupport, .mctpWake 0 (mctpBytes 2 []), .mctpSetEndpointId 9,
      .mctpGetVersionSupport 0, .mctpUnsupportedMessage 9].all (fun c =>
      after c shelved fun t => t.powerMove == some 0 && t.outbox.isEmpty && t.board.waking.isSome && t.board.eid == 0) = true ∧
    after .powerTransitionDone { shelved with powerMove := some 0, spine := spine0 } (fun t => (t.die 7).power.state == 0) = true := by decide

theorem test_mctp_answers : after (.mctpSetEndpointId 9) up (fun t => t.board.eid == 9 && t.outbox == [.mctp (.setEndpointId 9)]) = true ∧
    after .mctpGetEndpointId up (fun t => t.outbox == [.mctp (.endpointId 0)]) = true ∧
    after (.mctpGetVersionSupport 0) up (fun t => t.outbox.length == 1) = true ∧
    after .mctpGetMessageTypeSupport up (fun t => t.outbox == [.mctp (.messageTypes [0])]) = true ∧
    after (.mctpUnsupportedMessage 9) up (fun t => t.outbox == [.mctp .unsupportedCmd]) = true ∧
    after (.mctpWake 0 (mctpBytes 2 [])) up (fun t => t.outbox == [.mctp (.endpointId 0)]) = true := by decide

theorem test_governorPeriod : up.downOk 1 [0, 0, 0] = true ∧
    after (.governorPeriod 1 [0, 0, 0] [0, 0, 0] 100) (up.onDie 1 fun x => { x with power := { x.power with thermal := 40 } })
      (fun t => decide ((t.die 1).power.issue ≤ 40)) = true := by decide

theorem test_budgetUpdate : up.budgetsOk (List.replicate 8 130) = true ∧
    after (.budgetUpdate (List.replicate 8 130)) up (fun t => t.dieList.all fun d => t.reg ⟨d, .power, 0⟩ 0x108 == 130) = true ∧
    after (.budgetUpdate [130]) up (fun t => t.reg ⟨0, .power, 0⟩ 0x108 == up.reg ⟨0, .power, 0⟩ 0x108) = true := by decide

theorem test_brake : after .brakeAssert up (fun t => t.brakePin && t.dies.all fun x => x.power.brake) = true ∧
    after .brakeDeassert (next .brakeAssert up) (fun t => !t.brakePin && t.dies.all fun x => !x.power.brake) = true := by decide

theorem test_thermalSample : after (.thermalSample 1 (up.tripC 1)) up
      (fun t => (t.die 1).power.trip && (t.die 1).power.thermal == 0 && t.thermAlert) = true ∧ 105 ≤ up.tripC 1 ∧
    after (.tripClear 1) (two.onDie 1 fun x => { x with power := { x.power with trip := true, tj := 20 } }) (fun t => !(t.die 1).power.trip) = true ∧
    after (.tripClear 1) (two.onDie 1 fun x => { x with power := { x.power with trip := true, tj := 104 } }) (fun t => (t.die 1).power.trip) = true := by
  decide

theorem test_thermTableWrite : two.takes ⟨1, .power, 0⟩ ∧
    after (.thermTableWrite 1 0 0x0164) two (fun t => t.reg ⟨1, .power, 0⟩ 0x140 == 0x0164) = true ∧
    after (.thermTableWrite 1 0 0x6A00) two (fun t => t.reg ⟨1, .power, 0⟩ 0x140 == up.reg ⟨1, .power, 0⟩ 0x140) = true := by decide

theorem test_plls : after (.pllLockLoss 1 .cpll) up (fun t => (t.die 1).computeReset && (t.die 1).clocks.unlocked == [.cpll]) = true ∧
    after (.pllLockLoss 1 .rpll) up (fun t => (t.die 1).fwdReset) = true ∧ after (.pllLockLoss 1 .mpll) up (fun t => t.spine.phase == .held) = true ∧
    after (.pllLockLoss 0 .pcie) up (fun t => t.board.link.isNone) = true ∧
    after (.pllRelock 1 .rpll) (up.onDie 1 fun x => { x with fwdReset := true, clocks := { unlocked := [.rpll] } })
      (fun t => !(t.die 1).fwdReset && (t.die 1).clocks.unlocked.isEmpty) = true := by decide

theorem test_capCmdGo : up.takes ⟨0, .colophon, 0⟩ ∧
    after (.capCmdGo 0) (up.setReg ⟨0, .colophon, 0⟩ 0x108 7)
      (fun t => t.reg ⟨0, .colophon, 0⟩ 0x108 == 8 && t.reg ⟨0, .colophon, 0⟩ 0x10C == 7 && t.colophonOut) = true ∧
    after (.capCmdGo 0) ((up.setReg ⟨0, .colophon, 0⟩ 0x108 7).setReg ⟨0, .colophon, 0⟩ 0x10C 7)
      (fun t => t.ctr ⟨0, .colophon, 0⟩ Ctr.colophonTriggersDropped == 1) = true := by decide

theorem test_capTimeMatch : (up.setReg ⟨0, .colophon, 0⟩ 0x100 0x40000000).timeDue 0 = true ∧
    after (.capTimeMatch 0) (up.setReg ⟨0, .colophon, 0⟩ 0x100 0x40000000) (fun t => !bit (t.reg ⟨0, .colophon, 0⟩ 0x100) 30) = true ∧
    after .colophonIn (up.setReg ⟨0, .colophon, 0⟩ 0x100 0x10000000) (fun t => !t.colophonOut) = true ∧
    after .colophonOutRelease { up with colophonOut := true } (fun t => !t.colophonOut) = true := by decide

theorem test_markerArrival : pageAt 0 (0x200 * 4096) = some txPage ∧ txPage.kind.isGroup = false ∧ up.inReset txPage = false ∧
    up.gated txPage = false ∧ ((up.setCap txPage { armed := true }).cap txPage).any = false ∧
    ((up.setCap txPage { armed := true }).cap txPage).armed = true ∧
    after (.markerArrival 0 0x200 0 6) (up.setCap txPage { any := true, bankA := { number := 7 } })
      (fun t => t.ctr ⟨0, .colophon, 0⟩ Ctr.colophonMarkersStale == 1) = true := by decide

theorem test_channelTimeout : after (.channelTimeout 0 0x200 0)
    (up.setCap txPage { any := true, bankA := { number := 7, latched := true, channels := [{ source := 0 }] } })
    (fun t => t.ctr ⟨0, .colophon, 0⟩ Ctr.colophonChannelsTimedOut == 1) = true := by decide

theorem test_colophonMarker : after (.colophonMarker 0 3 10 (pkt ptMarker (toBE 4 7 ++ zeros 12))) two
    (fun t => t.reg ⟨0, .colophon, 0⟩ 0x10C == 7) = true := by decide

theorem test_packageTimeSync : after (.packageTimeSync 5) (up.onDie 0 fun x => { x with time := { x.time with ns := 99, ppb := 4 } })
      (fun t => t.time 5 == 99 && (t.die 5).time.ppb == 4 && (t.die 5).time.synced) = true ∧
    after .ptpSyncLoss (up.onDie 0 fun x => { x with time := { x.time with ptpLocked := true } })
      (fun t => t.dies.all (fun x => !x.time.ptpLocked) && t.ctr ⟨0, .colophon, 0⟩ Ctr.colophonPtpSyncLosses == 1) = true := by decide


theorem test_wf_refuses :
    [Instr.registerWrite 17 0 0 0 false, .registerWrite 0 (2 ^ 26) 0 0 false, .registerWrite 0 0 4097 0 false, .msixUnmask 0 2048,
      .dieResetRampDownDone 8, .railFault 8, .hostReadError 0 65536 0 .poisoned, .doeDiscovery 256, .doeUnsupportedObject 65536 0 0,
      .doeUnsupportedObject 0 256 0, .doeUnsupportedObject 0 0 262145, .getCertificate 8 0 0, .getCertificate 0 65536 0,
      .getCertificate 0 0 65536, .challenge 0 [], .alramDoorbell 0 2 (pkt ptBrevefold []),
      .alramDoorbell 0 0 { pkt ptBrevefold [] with length := 1 }, .ledgerIssue 0 4, .descriptorFetchReturn 0 0 0 [],
      .staleRefetch 0 0 9].all (fun c => !c.wf) = true ∧
    [Instr.ackTimer (2 ^ 18), .schedulerSelection 0 11, .init 0 8 0 0 0, .init 0 0 11 0 0,
      .alramReadTimeout 0 0 65536, .fifoPointerMismatch 0 9, .quireLinkDown 0 4, .pfcRepeat 0 0 8, .pfcFrame 0 0 0 [],
      .patrolScrub 0 3 0 .clean, .walkComplete 0 10 0 0 false false, .walkComplete 0 0 0 (2 ^ 46) false false, .faultAbort 0 4096,
      .tilePrefetch 0 5, .tallyReread 0 0 (2 ^ 38) 0, .tallyReread 0 0 0 (2 ^ 64), .collationTimeout 0 0 16, .repeatTimer 0 65536,
      .childTimeout 0 0 16].all (fun c => !c.wf) = true ∧
    [Instr.thermalSample 0 256, .thermTableWrite 0 8 0, .markerArrival 0 (2 ^ 23) 0 0, .markerArrival 0 0 65536 0].all (fun c => !c.wf) = true := by decide

theorem test_wf_accepts :
    [Instr.registerWrite 0 0 0 0 false, .msixUnmask 0 0, .dieResetRampDownDone 0, .railFault 0, .hostReadError 0 0 0 .poisoned,
      .doeDiscovery 0, .doeUnsupportedObject 0 0 0, .getCertificate 0 0 0, .challenge 0 (List.replicate 32 0),
      .alramDoorbell 0 0 (pkt ptBrevefold []), .ledgerIssue 0 0, .descriptorFetchReturn 0 0 0 (List.replicate 64 0),
      .staleRefetch 0 0 0, .formatTable 0 [], .ackTimer 0, .schedulerSelection 0 0, .init 0 0 0 0 0, .alramReadTimeout 0 0 0,
      .fifoPointerMismatch 0 0, .quireLinkDown 0 0].all Instr.wf = true ∧
    [Instr.pfcRepeat 0 0 0, .pfcFrame 0 0 0 (List.replicate 8 0), .patrolScrub 0 0 0 .clean, .walkComplete 0 0 0 0 false false,
      .faultAbort 0 0, .tilePrefetch 0 0, .tallyReread 0 0 0 0, .collationTimeout 0 0 0, .repeatTimer 0 0, .childTimeout 0 0 0,
      .thermalSample 0 0, .thermTableWrite 0 0 0, .markerArrival 0 0 0 0].all Instr.wf = true := by decide

theorem test_wf_refuses_table (t : List Byte) (h : t.length = 65537) : (Instr.formatTable 0 t).wf = false := by
  simp [Instr.wf, h]

/-- What a step leaves, as a test sees it. -/
def stepped (s : State) (f : State → Bool) : Bool :=
  match step s with
  | .next t => f t
  | _ => false

theorem test_step_front : stepped { up with pending := [.intSet 0 (txPage.addr + 0x1C) 5, .getVersion] }
    (fun t => t.word txPage 0x10 == 5 && t.pending == [.getVersion]) = true := by decide

theorem test_step_idle : stepped up (fun t => t.now == 40 && t.pending.isEmpty) = true := by decide

theorem test_reset_sound : State.reset.sound ∧ State.reset.pending = [] ∧ Memory.wf State.reset.mem = true := by decide

theorem test_noSuchDie : (match exec (.brakeDeassert) State.reset with | .next _ => true | _ => false) = true ∧
    (match exec (.dogEarWindowEnd 8) State.reset with | .fault .noSuchDie => true | _ => false) = true := by decide

-- FIPS 197, appendix C.3.
theorem test_aes : aesEncrypt ((List.range 32).map (BitVec.ofNat 8)) ((List.range 16).map fun i => BitVec.ofNat 8 (17 * i)) =
    toBE 16 0x8ea2b7ca516745bfeafc49904b496089 := by decide +kernel

-- FIPS 180-4, the message abc, and the check values of the two CRCs for 123456789.
theorem test_digests_known : sha384 [0x61, 0x62, 0x63] =
      toBE 48 0xcb00753f45a35e8bb5a03d699ac65007272c32ab0eded1631a8b605a43ff5bed8086072ba1e7cc2358baeca134c825a7 ∧
    crc32c ((List.range 9).map fun i => BitVec.ofNat 8 (0x31 + i)) = 0xE3069283 ∧
    crc32 ((List.range 9).map fun i => BitVec.ofNat 8 (0x31 + i)) = 0xCBF43926 := by decide +kernel


end Sys2Proof.Tests
end

section
/-!
Register writes and reads of the host (chapter 2): a request that nothing holds back lands on its page; a whole write of a
stored register leaves its writable bits; a whole read of a counter that is RC clears it.
-/

namespace Sys2Proof.Machine

/-! ### A request that nothing holds back -/

theorem State.fromFn_of_hostReady {s : State} (h : s.hostReady) (f : Nat) (r : State) : s.fromFn f r = r := by
  obtain ⟨link, ready⟩ := h
  simp [State.fromFn, Option.isSome_iff_ne_none.mp link, ready]

theorem State.landed_of_hostReady {s : State} {f off : Nat} (h : s.hostReady) (reached : s.cutOff f off = false)
    (live : (s.fn f).flr = false) (r : State) : s.landed f off r = r := by
  simp [State.landed, State.fromFn_of_hostReady h, reached, live]

theorem State.guarded_of_takes {s : State} {p : Page} (h : s.takes p) (r : State) : s.guarded p r = r := by
  obtain ⟨answers, reset, gated, closed⟩ := h
  simp [State.guarded, answers, reset, gated, closed]

/-! ### Writes -/

/-- A 4-byte write of a register that is not 64-bit lands whole (R28). -/
theorem execRegisterWrite_word {s : State} {f off o : Nat} {p : Page} (v : Word64) (host : s.hostReady)
    (fn : f < s.fns.length) (live : (s.fn f).flr = false) (reached : s.cutOff f off = false) (aligned : off % 4 = 0)
    (target : s.target f off = .page p o) (takes : s.takes p) (narrow : p.kind.isWide (o / 8 * 8) = false) :
    execRegisterWrite f off 4 v false s = .next (s.writeReg f p o (v.toNat % 2 ^ 32)) := by
  simp only [execRegisterWrite, atFn, if_pos fn, State.landed_of_hostReady host reached live]
  simp [aligned, State.writeAt, target, State.guarded_of_takes takes, State.writeHalf, narrow]

/-- The kinds of page on which a write has an effect of its own at some register. -/
def PageKind.acting : List PageKind :=
  [.queuePage, .fnState, .rate, .ethPort, .router1, .power, .colophon, .cipherUser, .mailbox, .alram, .quire]

/-- A write of a page without such registers is a write of what the page stores. -/
theorem State.writeOwn_stored {s : State} {p : Page} (off v : Nat) (h : p.kind ∉ PageKind.acting) :
    s.writeOwn p off v = s.writeStored p off v := by
  unfold State.writeOwn
  split
  case h_10 => rfl
  all_goals next k => exact absurd (k ▸ h) (by decide)

theorem State.writeReg_stored {s : State} {p : Page} {off : Nat} (f v : Nat) (h : p.kind ∉ PageKind.acting)
    (own : 0x100 ≤ off) (low : off < 0x800) : s.writeReg f p off v = s.writeStored p off v := by
  have k : p.kind ≠ .fnState := fun e => absurd (e ▸ h) (by decide)
  simp only [State.writeReg, k, and_false, if_false, if_neg (Nat.not_lt.mpr own), if_pos low, State.writeOwn_stored _ _ h]

/-- A write of an RW register without static bits whose value nothing denies settles with its writable bits (R10, R62). -/
theorem State.writeStored_rw {s : State} {p : Page} {off v : Nat} {r : RegDef} (h : p.kind ∉ PageKind.acting)
    (reg : regDefAt p.kind off = some r) (rw : r.access = .rw) (dynamic : r.smask = 0)
    (ok : s.denied p off (v &&& r.wmask) = 0) : s.writeStored p off v = s.settled p off (v &&& r.wmask) := by
  have k : p.kind ≠ .cipherUser := fun e => absurd (e ▸ h) (by decide)
  have l : p.kind ≠ .colophon := fun e => absurd (e ▸ h) (by decide)
  simp [State.writeStored, reg, rw, dynamic, k, l, ok]

/-- Beside the register, only a scheduler's tokens and the rates of queue pairs follow from such a write. -/
theorem State.settled_eq_setReg {s : State} {p : Page} (off v : Nat) (h : p.kind ∉ PageKind.acting) (sched : p.kind ≠ .sched)
    (rate : p.kind ≠ .rateCtl) : s.settled p off v = s.setReg p off v := by
  unfold State.settled
  split
  case h_1 k => exact absurd k sched
  case h_2 k => exact absurd k rate
  case h_7 => rfl
  all_goals next k => exact absurd (k ▸ h) (by decide)

/-- What follows from such a write leaves the registers as the write left them. -/
theorem State.settled_regs {s : State} {p : Page} (off v : Nat) (h : p.kind ∉ PageKind.acting) :
    (s.settled p off v).regs = (s.setReg p off v).regs ∧ (s.settled p off v).part = s.part := by
  by_cases sched : p.kind = .sched
  · simp only [State.settled, sched]
    split <;> exact ⟨rfl, rfl⟩
  · by_cases rate : p.kind = .rateCtl
    · simp only [State.settled, rate]
      split <;> exact ⟨rfl, rfl⟩
    · rw [State.settled_eq_setReg off v h sched rate]
      exact ⟨rfl, rfl⟩

theorem State.settled_word {s : State} {p : Page} (off v : Nat) (c : s.canonical) (h : p.kind ∉ PageKind.acting) :
    (s.settled p off v).word p off = BitVec.ofNat 64 v := by
  obtain ⟨regs, part⟩ := State.settled_regs (s := s) off v h
  have same : (s.settled p off v).reg p off = (s.setReg p off v).reg p off := by
    simp only [State.reg, regs, part, State.setReg_part]
  rw [State.word, same, State.reg_setReg_self s p off v c.2.1]

/-! ### Reads -/

/-- Counters are 64-bit registers (R56). -/
theorem PageKind.isWide_counter (k : PageKind) {b : Nat} (h : 0xC00 ≤ b) : k.isWide b = true := by
  simp [PageKind.isWide, h]

/-- An 8-byte read of a 64-bit register returns what the register reads as, and leaves what its read leaves (R28). -/
theorem execRcRegisterRead_wide {s : State} {f off o : Nat} {p : Page} (host : s.hostReady) (fn : f < s.fns.length)
    (live : (s.fn f).flr = false) (reached : s.cutOff f off = false) (aligned : off % 8 = 0)
    (target : s.target f off = .page p o) (wide : p.kind.isWide o = true) :
    execRcRegisterRead f off 8 false s =
      .next ((s.readReg f p o).2.emit (.readData f (BitVec.ofNat 64 (s.readReg f p o).1))) := by
  have unit : (off / 8 != (off + 8 - 1) / 8) = false := by
    rw [bne_eq_false_iff_eq]
    omega
  have whole : off / 8 * 8 = off := by omega
  have cut (n : Nat) : BitVec.ofNat 64 (n % 18446744073709551616) = BitVec.ofNat 64 n := BitVec.eq_of_toNat_eq (by simp)
  have pair : s.readPair f off = s.readReg f p o := by simp only [State.readPair, target, wide, if_true]
  simp only [execRcRegisterRead, atFn, if_pos fn, State.fromFn_of_hostReady host, unit, reached, live, whole, pair, aligned]
  simp [cut]

/-- An RC counter that shows no level is a plain count: a read takes it off the list (R11). -/
theorem State.clearCtr_plain {s : State} {p : Page} {k : Nat} (peak : ¬ (p.kind = .pktBuf ∧ k = Ctr.pktBufPeakOccupancy))
    (high : ¬ (p.kind = .integrity ∧ k = Ctr.integrityLogHighWater)) :
    s.clearCtr p k = { s with regs := FMap.erase s.regs (p.ctr k) } := by
  simp [State.clearCtr, peak, high]

/-- A whole read of an RC counter returns it and clears it (R11). -/
theorem State.readReg_counter {s : State} {p : Page} {k : Nat} (f : Nat) (readable : s.readable p = true)
    (rc : p.rcCounter k = true) :
    s.readReg f p (0xC00 + 8 * k) = (s.regValue f p (0xC00 + 8 * k), s.clearCtr p k) := by
  have admin : (0xC00 + 8 * k == 0x130) = false := beq_false_of_ne (by omega)
  have time : 0xC00 + 8 * k ≠ 0x44 := by omega
  have counter : 0xC00 ≤ 0xC00 + 8 * k := by omega
  have index : (0xC00 + 8 * k - 0xC00) / 8 = k := by omega
  simp only [State.readReg, readable, admin, time, counter, index, rc]
  simp

end Sys2Proof.Machine

namespace Sys2Proof

open Machine

/-- Settles O2: a write of a plain register settles with its writable bits, and a read of a plain counter erases its entry. -/
theorem registersAreWrittenAndRead : Obligations.RegistersAreWrittenAndRead := by
  refine ⟨?write, ?read⟩
  case write =>
    intro s f off o p r v canonical host fn live reached aligned target takes own low reg rw _ narrow dynamic kind ok
    have acting : p.kind ∉ PageKind.acting := kind
    have lands := execRegisterWrite_word v host fn live reached aligned target takes narrow
    rw [State.writeReg_stored f _ acting own low, State.writeStored_rw acting reg rw dynamic ok] at lands
    exact ⟨_, lands, State.settled_word o _ canonical acting, State.settled_eq_setReg o _ acting⟩
  case read =>
    intro s f off k p canonical host fn live reached aligned bound target readable rc peak high
    have lands := execRcRegisterRead_wide host fn live reached aligned target (p.kind.isWide_counter (by omega))
    rw [State.readReg_counter f readable rc, State.clearCtr_plain peak high] at lands
    have place : p.ctr k = p.addr + 0xC00 + 8 * k := by rw [Page.ctr, Nat.mod_eq_of_lt bound]
    have erased (a : Nat) : FMap.get? (FMap.erase s.regs (p.ctr k)) a = if a = p.ctr k then none else FMap.get? s.regs a :=
      FMap.get?_erase a canonical.2.1
    refine ⟨_, lands, rfl, ?_, rfl, fun a ha => ?_⟩
    · simp [State.ctr, State.emit, erased]
    · exact (erased a).trans (if_neg (place ▸ ha))

end Sys2Proof
end

section
/-!
The statements about every command at once (95_what_each_step_holds.md): what a command may change, what a step keeps, and
what a step is. The frame of one command is the lemma `exec<Name>_within` of its family; here they are put together.
-/

namespace Sys2Proof.Machine

/-! ### The areas that a command touches, as a mask -/

/-- The mask that has the bits of the areas of a list. -/
def areaMask (l : List Area) : Nat := l.foldr (fun a W => 2 ^ a.bit ||| W) 0

theorem Area.bit_inj {a b : Area} (h : a.bit = b.bit) : a = b := by
  rw [← Area.ofNat_ctorIdx a, ← Area.ofNat_ctorIdx b]
  exact congrArg Area.ofNat h

/-- An area that a list lacks has no bit in its mask. -/
theorem areaMask_testBit {a : Area} {l : List Area} (h : a ∉ l) : (areaMask l).testBit a.bit = false := by
  induction l with
  | nil => exact Nat.zero_testBit _
  | cons b l ih =>
    obtain ⟨ne, h⟩ := not_or.mp (mt List.mem_cons.mpr h)
    have hb : b.bit ≠ a.bit := fun e => ne (Area.bit_inj e).symm
    change (2 ^ b.bit ||| areaMask l).testBit a.bit = false
    rw [Nat.testBit_or, Nat.testBit_two_pow_of_ne hb, ih h, Bool.or_false]

/-- Within the mask of a list, every other area is the same. -/
theorem Within.same {l : List Area} {s t : State} (h : Within (areaMask l) s t) (c : s.canonical) {a : Area} (ha : a ∉ l) :
    a.same s t := h.areas a (areaMask_testBit ha) c

/-- A sound state stays sound within any mask. -/
theorem Within.sound {W : Nat} {s t : State} (h : Within W s t) (k : s.sound) : t.sound := by
  obtain ⟨c, u⟩ := k
  exact ⟨h.canonical c, h.part ▸ h.units u⟩

/-- A command whose own mask lies in that of the areas that `touches` lists for it. -/
theorem RWithin.touching {V W : Nat} {s : State} {r : Result} (k : RWithin V s r)
    (h : V &&& W = V := by simp only [touches]; decide) : RWithin W s r := k.mono h

/-- Every command stays within the areas that `touches` lists for it. -/
theorem exec_within (c : Instr) (s : State) : RWithin (areaMask (touches c)) s (exec c s) := by
  cases c with
  | registerWrite => exact execRegisterWrite_within.touching
  | rcRegisterRead _ _ _ partialBE => exact (execRcRegisterRead_within (_partialBE := partialBE)).touching
  | intRawClear => exact execIntRawClear_within.touching
  | intEnWrite => exact execIntEnWrite_within.touching
  | intSet => exact execIntSet_within.touching
  | feStatusClear => exact execFeStatusClear_within.touching
  | msixMessage => exact execMsixMessage_within.touching
  | msixUnmask => exact execMsixUnmask_within.touching
  | reset => exact execReset_within.touching
  | colophonArm => exact execColophonArm_within.touching
  | colophonDisarm => exact execColophonDisarm_within.touching
  | clearErrors => exact execClearErrors_within.touching
  | dieResetRampDownDone => exact execDieResetRampDownDone_within.touching
  | forwardingPlaneReset => exact execForwardingPlaneReset_within.touching
  | perstNAssert => exact execPerstNAssert_within.touching
  | perstNDeassert => exact execPerstNDeassert_within.touching
  | railFault => exact execRailFault_within.touching
  | functionLevelReset => exact execFunctionLevelReset_within.touching
  | vfEnableClear => exact execVfEnableClear_within.touching
  | hostReadError => exact execHostReadError_within.touching
  | poisonedBarWrite => exact execPoisonedBarWrite_within.touching
  | doeDiscovery => exact execDoeDiscovery_within.touching
  | doeUnsupportedObject => exact execDoeUnsupportedObject_within.touching
  | doeAbort => exact execDoeAbort_within.touching
  | getVersion => exact execGetVersion_within.touching
  | getCapabilities => exact execGetCapabilities_within.touching
  | negotiateAlgorithms => exact execNegotiateAlgorithms_within.touching
  | getDigests => exact execGetDigests_within.touching
  | getCertificate => exact execGetCertificate_within.touching
  | challenge _ nonce => exact (execChallenge_within (_nonce := nonce)).touching
  | getMeasurements _ _ nonce => exact (execGetMeasurements_within (_nonce := nonce)).touching
  | spdmUnsupportedRequest code => exact (execSpdmUnsupportedRequest_within (_code := code)).touching
  | doorbellWrite => exact execDoorbellWrite_within.touching
  | doorbellAdmission => exact execDoorbellAdmission_within.touching
  | alramDoorbell => exact execAlramDoorbell_within.touching
  | ledgerIssue => exact execLedgerIssue_within.touching
  | readBack => exact execReadBack_within.touching
  | readBackReturn => exact execReadBackReturn_within.touching
  | descriptorFetch => exact execDescriptorFetch_within.touching
  | descriptorFetchReturn => exact execDescriptorFetchReturn_within.touching
  | staleRefetch => exact execStaleRefetch_within.touching
  | completionWrite => exact execCompletionWrite_within.touching
  | arrivalEntryWrite => exact execArrivalEntryWrite_within.touching
  | arrivalWaitExpiry => exact execArrivalWaitExpiry_within.touching
  | queueDisable => exact execQueueDisable_within.touching
  | queueDisabled => exact execQueueDisabled_within.touching
  | queueEnable => exact execQueueEnable_within.touching
  | stopFifoRead => exact execStopFifoRead_within.touching
  | adminQueueEnable => exact execAdminQueueEnable_within.touching
  | adminQueueDisable => exact execAdminQueueDisable_within.touching
  | createQueue => exact execCreateQueue_within.touching
  | destroyQueue => exact execDestroyQueue_within.touching
  | setArrivalRoute => exact execSetArrivalRoute_within.touching
  | setFunctionMode => exact execSetFunctionMode_within.touching
  | createQp => exact execCreateQp_within.touching
  | toRtr => exact execToRtr_within.touching
  | toRts => exact execToRts_within.touching
  | toError => exact execToError_within.touching
  | toInit => exact execToInit_within.touching
  | setLimits => exact execSetLimits_within.touching
  | destroyQp => exact execDestroyQp_within.touching
  | loadRecipe => exact execLoadRecipe_within.touching
  | unloadRecipe => exact execUnloadRecipe_within.touching
  | formatTable => exact execFormatTable_within.touching
  | sequenceTable => exact execSequenceTable_within.touching
  | collationTable => exact execCollationTable_within.touching
  | invalidateRange => exact execInvalidateRange_within.touching
  | resolveFault => exact execResolveFault_within.touching
  | setPageTableRoot => exact execSetPageTableRoot_within.touching
  | resizePartition => exact execResizePartition_within.touching
  | destroyPartition => exact execDestroyPartition_within.touching
  | createGroup => exact execCreateGroup_within.touching
  | reformGroup => exact execReformGroup_within.touching
  | destroyGroup => exact execDestroyGroup_within.touching
  | write => exact execWrite_within.touching
  | read => exact execRead_within.touching
  | send => exact execSend_within.touching
  | writeNotify => exact execWriteNotify_within.touching
  | atomicAdd => exact execAtomicAdd_within.touching
  | stageIn => exact execStageIn_within.touching
  | stageOut => exact execStageOut_within.touching
  | localCopy => exact execLocalCopy_within.touching
  | runRecipe => exact execRunRecipe_within.touching
  | reduce => exact execReduce_within.touching
  | broadcast => exact execBroadcast_within.touching
  | cipher => exact execCipher_within.touching
  | nop => exact execNop_within.touching
  | writePacket => exact execWritePacket_within.touching
  | writeNotifyPacket => exact execWriteNotifyPacket_within.touching
  | sendPacket => exact execSendPacket_within.touching
  | readRequest => exact execReadRequest_within.touching
  | readResponse => exact execReadResponse_within.touching
  | atomicRequest => exact execAtomicRequest_within.touching
  | atomicResponse => exact execAtomicResponse_within.touching
  | msgAbort => exact execMsgAbort_within.touching
  | ack => exact execAck_within.touching
  | nakRnr => exact execNakRnr_within.touching
  | nakFaultWait => exact execNakFaultWait_within.touching
  | nakAccessDenied => exact execNakAccessDenied_within.touching
  | nakPoisoned => exact execNakPoisoned_within.touching
  | nakTallyFailed => exact execNakTallyFailed_within.touching
  | nakQpError => exact execNakQpError_within.touching
  | nakInvalidRequest => exact execNakInvalidRequest_within.touching
  | ackTimer => exact execAckTimer_within.touching
  | rtoExpiry => exact execRtoExpiry_within.touching
  | faultWaitProbe => exact execFaultWaitProbe_within.touching
  | faultWaitLimit => exact execFaultWaitLimit_within.touching
  | contextFetchDone => exact execContextFetchDone_within.touching
  | contextPrefetch => exact execContextPrefetch_within.touching
  | schedulerSelection => exact execSchedulerSelection_within.touching
  | depthDelaySample => exact execDepthDelaySample_within.touching
  | qpWeightWrite => exact execQpWeightWrite_within.touching
  | alramTrainingDone => exact execAlramTrainingDone_within.touching
  | alramAlignLock => exact execAlramAlignLock_within.touching
  | init => exact execInit_within.touching
  | alramLinkDown => exact execAlramLinkDown_within.touching
  | linkEnable => exact execLinkEnable_within.touching
  | linkDisable => exact execLinkDisable_within.touching
  | frameReceive => exact execFrameReceive_within.touching
  | credit => exact execCredit_within.touching
  | sync => exact execSync_within.touching
  | creditReportTimer => exact execCreditReportTimer_within.touching
  | syncTimer => exact execSyncTimer_within.touching
  | alramWrite => exact execAlramWrite_within.touching
  | alramReadRequest => exact execAlramReadRequest_within.touching
  | alramReadResponse => exact execAlramReadResponse_within.touching
  | alramReadTimeout => exact execAlramReadTimeout_within.touching
  | routePacket => exact execRoutePacket_within.touching
  | escapeWaitExpiry => exact execEscapeWaitExpiry_within.touching
  | holdExpiry => exact execHoldExpiry_within.touching
  | editionCountRelease => exact execEditionCountRelease_within.touching
  | fifoPointerMismatch => exact execFifoPointerMismatch_within.touching
  | dropRest => exact execDropRest_within.touching
  | quireLinkDown => exact execQuireLinkDown_within.touching
  | quireLinkUp => exact execQuireLinkUp_within.touching
  | quireRetrainTimeout => exact execQuireRetrainTimeout_within.touching
  | ethFrameReceive => exact execEthFrameReceive_within.touching
  | pfcRepeat => exact execPfcRepeat_within.touching
  | pfcFrame => exact execPfcFrame_within.touching
  | pauseTimerExpiry => exact execPauseTimerExpiry_within.touching
  | pfcCtlWrite => exact execPfcCtlWrite_within.touching
  | ptpFrame => exact execPtpFrame_within.touching
  | ethTrainingDone => exact execEthTrainingDone_within.touching
  | ethTrainingTimeout => exact execEthTrainingTimeout_within.touching
  | ethAlignLock => exact execEthAlignLock_within.touching
  | ethLinkDown => exact execEthLinkDown_within.touching
  | portEnable => exact execPortEnable_within.touching
  | patrolScrub => exact execPatrolScrub_within.touching
  | walkComplete => exact execWalkComplete_within.touching
  | faultAbort => exact execFaultAbort_within.touching
  | invalidationPoint => exact execInvalidationPoint_within.touching
  | invalidationAck => exact execInvalidationAck_within.touching
  | invalidationResend => exact execInvalidationResend_within.touching
  | dogEarWindowEnd => exact execDogEarWindowEnd_within.touching
  | tilePrefetch => exact execTilePrefetch_within.touching
  | tileArrival => exact execTileArrival_within.touching
  | load => exact execLoad_within.touching
  | matmul => exact execMatmul_within.touching
  | vector => exact execVector_within.touching
  | store => exact execStore_within.touching
  | candidate => exact execCandidate_within.touching
  | draw => exact execDraw_within.touching
  | signal => exact execSignal_within.touching
  | wait => exact execWait_within.touching
  | waitSatisfied => exact execWaitSatisfied_within.touching
  | waitTimeout => exact execWaitTimeout_within.touching
  | checkExecution => exact execCheckExecution_within.touching
  | checkReexecution => exact execCheckReexecution_within.touching
  | knownAnswerRun => exact execKnownAnswerRun_within.touching
  | karDeferExpiry => exact execKarDeferExpiry_within.touching
  | knownAnswerDone => exact execKnownAnswerDone_within.touching
  | tallyReread => exact execTallyReread_within.touching
  | notice => exact execNotice_within.touching
  | noticeAck => exact execNoticeAck_within.touching
  | noticeRepeat => exact execNoticeRepeat_within.touching
  | digestFormed => exact execDigestFormed_within.touching
  | digest => exact execDigest_within.touching
  | digestAck => exact execDigestAck_within.touching
  | digestRepeat => exact execDigestRepeat_within.touching
  | collationTimeout => exact execCollationTimeout_within.touching
  | data => exact execData_within.touching
  | frames => exact execFrames_within.touching
  | grant => exact execGrant_within.touching
  | receipt => exact execReceipt_within.touching
  | resend => exact execResend_within.touching
  | failure => exact execFailure_within.touching
  | retract => exact execRetract_within.touching
  | finish => exact execFinish_within.touching
  | chunkAbort => exact execChunkAbort_within.touching
  | repeatTimer => exact execRepeatTimer_within.touching
  | resendTimer => exact execResendTimer_within.touching
  | childTimeout => exact execChildTimeout_within.touching
  | parentTimeout => exact execParentTimeout_within.touching
  | memberLeft => exact execMemberLeft_within.touching
  | functionEnable => exact execFunctionEnable_within.touching
  | functionDisable => exact execFunctionDisable_within.touching
  | fnHold => exact execFnHold_within.touching
  | openingComplete => exact execOpeningComplete_within.touching
  | closingComplete => exact execClosingComplete_within.touching
  | dirtyLogEnable => exact execDirtyLogEnable_within.touching
  | dirtyHeadWrite => exact execDirtyHeadWrite_within.touching
  | bootRomStart => exact execBootRomStart_within.touching
  | spineStart => exact execSpineStart_within.touching
  | quireReady => exact execQuireReady_within.touching
  | quireReadyTimeout => exact execQuireReadyTimeout_within.touching
  | quireHeartbeat => exact execQuireHeartbeat_within.touching
  | heartbeatMiss => exact execHeartbeatMiss_within.touching
  | watchdogExpiry => exact execWatchdogExpiry_within.touching
  | stateChecksum => exact execStateChecksum_within.touching
  | spineEccError => exact execSpineEccError_within.touching
  | offer => exact execOffer_within.touching
  | block => exact execBlock_within.touching
  | statusRequest => exact execStatusRequest_within.touching
  | deliveryAbort => exact execDeliveryAbort_within.touching
  | sessionTimeout => exact execSessionTimeout_within.touching
  | getStatus => exact execGetStatus_within.touching
  | attest => exact execAttest_within.touching
  | loadFabricKey => exact execLoadFabricKey_within.touching
  | fabricCmd => exact execFabricCmd_within.touching
  | confirmQuire => exact execConfirmQuire_within.touching
  | debugChallenge => exact execDebugChallenge_within.touching
  | debugUnlock => exact execDebugUnlock_within.touching
  | approveRampTable => exact execApproveRampTable_within.touching
  | keyLoad => exact execKeyLoad_within.touching
  | keyErase => exact execKeyErase_within.touching
  | entropyHealthFailure => exact execEntropyHealthFailure_within.touching
  | drbgReseed => exact execDrbgReseed_within.touching
  | readRouter => exact execReadRouter_within.touching
  | writeTableEntry => exact execWriteTableEntry_within.touching
  | setInjectEdition => exact execSetInjectEdition_within.touching
  | setRelayRequired => exact execSetRelayRequired_within.touching
  | setEndpointId => exact execSetEndpointId_within.touching
  | setRouteCtl => exact execSetRouteCtl_within.touching
  | resetForwardingPlane => exact execResetForwardingPlane_within.touching
  | setFabricTime => exact execSetFabricTime_within.touching
  | adjustFabricTime => exact execAdjustFabricTime_within.touching
  | setPtp => exact execSetPtp_within.touching
  | armCaptureAt => exact execArmCaptureAt_within.touching
  | triggerCapture => exact execTriggerCapture_within.touching
  | readFabricTime => exact execReadFabricTime_within.touching
  | powerReq => exact execPowerReq_within.touching
  | creaseIdle => exact execCreaseIdle_within.touching
  | foldIdle => exact execFoldIdle_within.touching
  | wakeEvent _ cause => exact (execWakeEvent_within (_cause := cause)).touching
  | powerTransitionDone => exact execPowerTransitionDone_within.touching
  | mctpWake => exact execMctpWake_within.touching
  | mctpSetEndpointId => exact execMctpSetEndpointId_within.touching
  | mctpGetEndpointId => exact execMctpGetEndpointId_within.touching
  | mctpGetVersionSupport => exact execMctpGetVersionSupport_within.touching
  | mctpGetMessageTypeSupport => exact execMctpGetMessageTypeSupport_within.touching
  | mctpUnsupportedMessage => exact execMctpUnsupportedMessage_within.touching
  | governorPeriod => exact execGovernorPeriod_within.touching
  | budgetUpdate => exact execBudgetUpdate_within.touching
  | brakeAssert => exact execBrakeAssert_within.touching
  | brakeDeassert => exact execBrakeDeassert_within.touching
  | thermalSample => exact execThermalSample_within.touching
  | tripClear => exact execTripClear_within.touching
  | thermTableWrite => exact execThermTableWrite_within.touching
  | pllLockLoss => exact execPllLockLoss_within.touching
  | pllRelock => exact execPllRelock_within.touching
  | capCmdGo => exact execCapCmdGo_within.touching
  | capTimeMatch => exact execCapTimeMatch_within.touching
  | colophonIn => exact execColophonIn_within.touching
  | colophonOutRelease => exact execColophonOutRelease_within.touching
  | markerArrival => exact execMarkerArrival_within.touching
  | colophonMarker => exact execColophonMarker_within.touching
  | channelTimeout => exact execChannelTimeout_within.touching
  | packageTimeSync => exact execPackageTimeSync_within.touching
  | ptpSyncLoss => exact execPtpSyncLoss_within.touching
  | ethAlignTimeout => exact execEthAlignTimeout_within.touching
  | entropyHealthPass => exact execEntropyHealthPass_within.touching

/-! ### A step -/

/-- A step keeps the part and leaves a sound state sound: a command by its frame, a tick by that of the clock. -/
theorem step_sound {s t : State} (k : s.sound) (h : step s = .next t) : t.sound ∧ t.part = s.part := by
  unfold step at h
  split at h
  · cases h
    exact ⟨State.tick_within.sound k, State.tick_within.part⟩
  · next c cs _ =>
    have w : Within (areaMask (touches c)) { s with pending := cs } t := exec_within c _ t h
    exact ⟨w.sound k, w.part⟩

end Sys2Proof.Machine

namespace Sys2Proof

open Machine

/-- Settles O58: every command and the tick keep the canonical maps and the units of the part. -/
theorem stepsKeepTheStateSound : Obligations.StepsKeepTheStateSound :=
  fun _ _ k h => step_sound k h

/-- Settles O60: every command stays within the mask of the areas that `touches` lists for it. -/
theorem commandsChangeOnlyTheirAreas : Obligations.CommandsChangeOnlyTheirAreas := by
  intro s t c canonical h
  have w : Within (areaMask (touches c)) s t := exec_within c s t h
  exact ⟨w.part, w.pending, w.now, fun a ha => w.same canonical ha⟩

/-- Settles O56: by the two equations of a step, and the tick's frame, which keeps the queue of commands. -/
theorem stepRunsTheFrontCommand : Obligations.StepRunsTheFrontCommand := by
  refine ⟨fun s c cs => rfl, fun s h => ⟨?_, ?_⟩, fun s nbits w => ⟨rfl, rfl⟩⟩
  · rw [step, h]
  · rw [State.tick_within.pending, h]

end Sys2Proof
end

section
/-!
The rows of the common page (chapter 2): a write that nothing holds back has the effect of the row it lands in, of the
interrupt registers, of the first-error record, and of the commands of BLK_CTL.
-/

namespace Sys2Proof.Machine

/-! ### A write of the common page -/

/-- A write of function `f` at an offset of its BAR0 lands at offset `o` of a page, and nothing holds it back. -/
structure State.Lands (s : State) (f off : Nat) (p : Page) (o : Nat) : Prop where
  host : s.hostReady
  fn : f < s.fns.length
  live : (s.fn f).flr = false
  reached : s.cutOff f off = false
  target : s.target f off = .page p o
  takes : s.takes p
  own : f = 0 ∨ p.kind ≠ .fnState

/-- The registers of the field tables stand behind the common header. -/
theorem regDefs_own (k : PageKind) : ∀ r ∈ regDefs k, 0x100 ≤ r.off := by
  cases k <;> decide

theorem regDefAt_common (k : PageKind) {off : Nat} (h : off < 0x100) : regDefAt k off = none := by
  refine List.find?_eq_none.mpr fun r hr => ?_
  have := regDefs_own k r hr
  simp only [Bool.and_eq_true, decide_eq_true_eq, not_and]
  omega

/-- The common header resets to 0. -/
theorem regReset_common (part : Part) (p : Page) {off : Nat} (h : off < 0x100) : regReset part p off = 0 := by
  unfold regReset
  have table (k : PageKind) : ((regDefAt k off).map RegDef.reset).getD 0 = 0 := by rw [regDefAt_common k h]; rfl
  split <;> simp only [table] <;> repeat rw [if_neg (by omega)]

/-- FE_TIME alone is 64-bit in the common header. -/
theorem PageKind.isWide_common (k : PageKind) {b : Nat} (h : b < 0x100) (time : b ≠ 0x48) : k.isWide b = false := by
  have low : ¬ 0xC00 ≤ b := by omega
  have bank : ¬ 0x800 ≤ b := by omega
  have own {n : Nat} (hn : 0x100 ≤ n) : b ≠ n := by omega
  unfold PageKind.isWide
  rw [regDefAt_common k h]
  split <;> simp [time, low, bank, own]

theorem State.Lands.writeRow {s : State} {f off o : Nat} {p : Page} (h : s.Lands f off p o) (common : o < 0x100)
    (narrow : o / 8 * 8 ≠ 0x48) (v : Nat) : s.writeRow f off o v = s.writeCommon f p o v := by
  have served : ¬ (f ≠ 0 ∧ p.kind = .fnState) := fun e => h.own.elim e.1 (fun k => k e.2)
  have half : p.kind.isWide (o / 8 * 8) = false := p.kind.isWide_common (by omega) narrow
  simp only [State.writeRow, State.writeAt, h.target, if_true, State.landed_of_hostReady h.host h.reached h.live,
    State.guarded_of_takes h.takes, State.writeHalf, half, Bool.not_false, State.writeReg, if_neg served, if_pos common]

/-- A command that is a row of the common page completes with what the write of that row leaves. -/
theorem State.Lands.completes {s t : State} {f off o : Nat} {p : Page} (h : s.Lands f off p o) {c : Instr} {v : Nat}
    {P : State → Prop} (row : exec c s = atFn s f (s.writeRow f off o v)) (effect : s.writeCommon f p o v = t) (post : P t)
    (common : o < 0x100 := by decide) (narrow : o / 8 * 8 ≠ 0x48 := by decide) : Completes c s P :=
  ⟨t, row.trans (by rw [atFn, if_pos h.fn, h.writeRow common narrow, effect]), post⟩

/-! The registers of the common page that have rows, one equation each. -/

theorem State.writeCommon_blkCtl (s : State) (f : Nat) (p : Page) (v : Nat) :
    s.writeCommon f p 0x08 v = s.writeBlkCtl f p v := rfl

theorem State.writeCommon_intRaw (s : State) (f : Nat) (p : Page) (v : Nat) :
    s.writeCommon f p 0x10 v = s.clearRaw p v := rfl

theorem State.writeCommon_intEn (s : State) (f : Nat) (p : Page) (v : Nat) :
    s.writeCommon f p 0x14 v = s.writeEnable p v := rfl

theorem State.writeCommon_intSet (s : State) (f : Nat) (p : Page) (v : Nat) :
    s.writeCommon f p 0x1C v = s.setRaw p v := rfl

theorem State.writeCommon_feStatus (s : State) (f : Nat) (p : Page) (v : Nat) :
    s.writeCommon f p 0x40 v = s.clearFe p v := rfl

/-! ### Registers as 64-bit words -/

theorem State.word_setReg_self {s : State} (p : Page) (off v : Nat) (c : FMap.wf s.regs = true) :
    (s.setReg p off v).word p off = BitVec.ofNat 64 v := State.reg_setReg_self s p off v c

theorem State.word_setReg_ne {s : State} {p q : Page} {off o : Nat} (v : Nat) (c : FMap.wf s.regs = true)
    (h : q.addr + o ≠ p.addr + off) : (s.setReg p off v).word q o = s.word q o :=
  congrArg (BitVec.ofNat 64) (State.reg_setReg_ne s p q off o v c h)

/-- Messages requested change no register. -/
@[simp] theorem State.word_request (s : State) (l : List Page) (a : Page → Bool) (p : Page) (off : Nat) :
    (s.request l a).word p off = s.word p off := rfl

theorem State.setReg_wf {s : State} (p : Page) (off v : Nat) (c : FMap.wf s.regs = true) :
    FMap.wf (s.setReg p off v).regs = true := by
  simp only [State.setReg]
  split
  · exact FMap.wf_erase _ c
  · exact FMap.wf_set _ _ c

/-! ### Interrupt registers (R46, R48, R59) -/

theorem ofNat_andNot (x : Nat) (v : Word) :
    BitVec.ofNat 64 (x &&& (2 ^ 32 - 1 - v.toNat % 2 ^ 32)) = BitVec.ofNat 64 x &&& (~~~v).setWidth 64 := by
  have mask : BitVec.ofNat 64 (2 ^ 32 - 1 - v.toNat % 2 ^ 32) = (~~~v).setWidth 64 := by
    apply BitVec.eq_of_toNat_eq
    rw [BitVec.toNat_ofNat, BitVec.toNat_setWidth, BitVec.toNat_not, Nat.mod_eq_of_lt v.isLt]
  rw [BitVec.ofNat_and, mask]

theorem ofNat_word (v : Word) : BitVec.ofNat 64 (v.toNat % 2 ^ 32) = v.setWidth 64 := by
  rw [Nat.mod_eq_of_lt v.isLt, BitVec.ofNat_toNat]

theorem State.word_clearRaw {s : State} (p : Page) (v : Word) (c : FMap.wf s.regs = true) :
    (s.clearRaw p v.toNat).word p.home 0x10 =
      if p.kind.isGroup then s.word p.home 0x10 else s.word p.home 0x10 &&& (~~~v).setWidth 64 := by
  simp only [State.clearRaw, State.furtherMessages, State.word_request]
  split
  · rfl
  · rw [State.word_setReg_self _ _ _ c, ofNat_andNot, State.word]

theorem State.word_writeEnable {s : State} (p : Page) (v : Word) (c : FMap.wf s.regs = true) :
    (s.writeEnable p v.toNat).word p.home 0x14 = v.setWidth 64 := by
  rw [State.writeEnable, State.furtherMessages, State.word_request, State.word_setReg_self _ _ _ c, ofNat_word]

theorem State.word_setRaw {s : State} (p : Page) (v : Word) (c : FMap.wf s.regs = true) :
    (s.setRaw p v.toNat).word p.home 0x10 =
      if p.kind.isGroup then s.word p.home 0x10 else s.word p.home 0x10 ||| v.setWidth 64 := by
  simp only [State.setRaw, State.raise, State.risen]
  split
  · rfl
  · rw [State.word_request, State.word_setReg_self _ _ _ c, BitVec.ofNat_or, ofNat_word, State.word]

/-! ### The first-error record cleared (R45, R53) -/

/-- FE_DATA of a page cleared. -/
def State.clearFeData (s : State) (p : Page) : State :=
  (List.range 44).foldl (fun s j => s.setReg p (0x50 + 4 * j) 0) s

/-- 1 written to VALID alone. -/
theorem State.clearFe_valid (s : State) (p : Page) : s.clearFe p 0x80000000 =
    ((s.setReg p 0x40 (setBits (s.reg p 0x40) 31 31 0)).setReg p 0x48 0).clearFeData p := rfl

/-- Registers before FE_DATA keep their value when it is cleared. -/
theorem State.word_clearFeData {s : State} (p : Page) {o : Nat} (c : FMap.wf s.regs = true) (h : o < 0x50) :
    (s.clearFeData p).word p o = s.word p o :=
  And.right (List.foldlRecOn (motive := fun t : State => FMap.wf t.regs = true ∧ t.word p o = s.word p o) (List.range 44)
    _ ⟨c, rfl⟩ fun t ht j _ => ⟨State.setReg_wf p _ 0 ht.1, (State.word_setReg_ne 0 ht.1 (by omega)).trans ht.2⟩)

theorem testBit_setBits_31_zero (x : Nat) : (setBits x 31 31 0).testBit 31 = false := by
  rw [Nat.testBit_eq_decide_div_mod_eq, decide_eq_false_iff_not, setBits, bits]
  omega

theorem State.word_clearFe_valid {s : State} (p : Page) (c : FMap.wf s.regs = true) :
    ((s.clearFe p 0x80000000).word p 0x40).getLsbD 31 = false ∧ (s.clearFe p 0x80000000).word p 0x48 = 0 := by
  have c1 := State.setReg_wf p 0x40 (setBits (s.reg p 0x40) 31 31 0) c
  have c2 := State.setReg_wf p 0x48 0 c1
  rw [State.clearFe_valid, State.word_clearFeData p c2 (by decide), State.word_clearFeData p c2 (by decide)]
  constructor
  · rw [State.word_setReg_ne _ c1 (by omega), State.word_setReg_self _ _ _ c, BitVec.getLsbD_ofNat, testBit_setBits_31_zero,
      Bool.and_false]
  · exact State.word_setReg_self _ _ _ c1

/-! ### MSI-X messages (R60) -/

/-- An entry with its mask bit 0 or its pending bit 1 is not the one of reset, and is listed as it was set. -/
theorem State.msixEntry_setMsix {s : State} {f : Nat} (v : Nat) {e : MsixEntry} (fn : f < s.fns.length) (h : e ≠ {}) :
    (s.setMsix f v e).msixEntry f v = e := by
  rw [State.msixEntry, State.setMsix, State.fn_onFn _ _ _ _ fn, if_pos rfl]
  simp only [if_neg h, FMap.get?_set_self, Option.getD_some]

theorem State.sendMsix_masked {s : State} {f v : Nat} (fn : f < s.fns.length) (h : (s.msixEntry f v).masked = true) :
    ((s.sendMsix f v).msixEntry f v).pending = true ∧ (s.sendMsix f v).outbox = s.outbox := by
  have listed : { s.msixEntry f v with pending := true } ≠ ({} : MsixEntry) :=
    fun e => Bool.noConfusion (congrArg MsixEntry.pending e)
  rw [State.sendMsix, if_pos h, State.msixEntry_setMsix v fn listed]
  exact ⟨rfl, rfl⟩

theorem State.sendMsix_unmasked {s : State} {f v : Nat} (h : (s.msixEntry f v).masked = false) :
    s.sendMsix f v = s.emit (.msix f v (s.msixEntry f v).addr (s.msixEntry f v).data) := by
  simp [State.sendMsix, h]

/-- Sending a message takes no further request. -/
theorem State.sendMsix_requests (s : State) (f v : Nat) : (s.sendMsix f v).requests = s.requests := by
  simp only [State.sendMsix]
  split <;> rfl

theorem State.unmask_entry {s : State} {f : Nat} (v : Nat) (fn : f < s.fns.length) :
    (s.unmask f v).msixEntry f v = { s.msixEntry f v with masked := false, pending := false } := by
  have listed : { s.msixEntry f v with masked := false, pending := false } ≠ ({} : MsixEntry) :=
    fun e => Bool.noConfusion (congrArg MsixEntry.masked e)
  rw [← State.msixEntry_setMsix v fn listed, State.unmask]
  split <;> rfl

theorem State.unmask_outbox (s : State) (f v : Nat) : (s.unmask f v).outbox =
    if (s.msixEntry f v).pending then .msix f v (s.msixEntry f v).addr (s.msixEntry f v).data :: s.outbox else s.outbox := by
  simp only [State.unmask]
  split <;> rfl

theorem execMsixMessage_request {s : State} {k : Nat} {r : IntRequest} (h : s.requests[k]? = some r) :
    execMsixMessage k s = .next (({ s with requests := s.requests.eraseIdx k }).sendMsix r.fn r.vector) := by
  simp only [execMsixMessage, h]

theorem execMsixUnmask_vector {s : State} {f v : Nat} (host : s.hostReady) (fn : f < s.fns.length) (vec : v < vectorCount f)
    (live : (s.fn f).flr = false) : execMsixUnmask f v s = .next (s.unmask f v) := by
  have listed : decide (vectorCount f ≤ v) = false := decide_eq_false (Nat.not_le.mpr vec)
  simp only [execMsixUnmask, atFn, if_pos fn, State.fromFn_of_hostReady host, listed, live, Bool.or_false, Bool.false_eq_true,
    if_false]

/-! ### The rows of the interrupt registers -/

theorem exec_intRawClear (s : State) (f off : Nat) (v : Word) :
    exec (.intRawClear f off v) s = atFn s f (s.writeRow f off 0x10 v.toNat) := by rfl

theorem exec_intEnWrite (s : State) (f off : Nat) (v : Word) :
    exec (.intEnWrite f off v) s = atFn s f (s.writeRow f off 0x14 v.toNat) := by rfl

theorem exec_intSet (s : State) (f off : Nat) (v : Word) :
    exec (.intSet f off v) s = atFn s f (s.writeRow f off 0x1C v.toNat) := by rfl

theorem exec_feStatusClear (s : State) (f off : Nat) :
    exec (.feStatusClear f off) s = atFn s f (s.writeRow f off 0x40 0x80000000) := by rfl

end Sys2Proof.Machine

namespace Sys2Proof

open Machine

/-- Settles O1: a write of a row lands on its page's registers; a message's vector is masked or not. -/
theorem interruptsAreRegisteredAndSent : Obligations.InterruptsAreRegisteredAndSent := by
  refine ⟨?registers, ?message, ?unmask⟩
  case registers =>
    intro s f off o p v canonical host fn live reached target takes own
    obtain ⟨_, regs, _⟩ := canonical
    have lands : s.Lands f off p o := ⟨host, fn, live, reached, target, takes, own⟩
    refine ⟨?raw, ?enable, ?set, ?error⟩
    case raw =>
      rintro rfl
      exact lands.completes (exec_intRawClear s f off v) (s.writeCommon_intRaw f p _) (State.word_clearRaw p v regs)
    case enable =>
      rintro rfl
      exact lands.completes (exec_intEnWrite s f off v) (s.writeCommon_intEn f p _) (State.word_writeEnable p v regs)
    case set =>
      rintro rfl
      exact lands.completes (exec_intSet s f off v) (s.writeCommon_intSet f p _) (State.word_setRaw p v regs)
    case error =>
      rintro rfl
      exact lands.completes (exec_feStatusClear s f off) (s.writeCommon_feStatus f p _) (State.word_clearFe_valid p regs)
  case message =>
    intro s k r request fn
    refine ⟨_, execMsixMessage_request request, State.sendMsix_requests _ _ _, ?_⟩
    split
    next masked => exact State.sendMsix_masked fn masked
    next unmasked => rw [State.sendMsix_unmasked (Bool.not_eq_true _ ▸ unmasked)]; rfl
  case unmask =>
    intro s f v host fn vec live
    refine ⟨_, execMsixUnmask_vector host fn vec live, ?_, ?_, State.unmask_outbox s f v⟩ <;> rw [State.unmask_entry v fn]

end Sys2Proof
end

section
/-!
The commands of BLK_CTL (R43 to R45): what each leaves on the pages that it reaches.
-/

namespace Sys2Proof.Machine

/-! ### What a fold over pages leaves at one of them -/

/-- A fold that makes `P` at one entry of the list and keeps it at every entry, under an invariant, ends with `P`. -/
theorem foldl_reaches {α β : Type} {f : β → α → β} {I P : β → Prop} {x : α} {l : List α} (member : x ∈ l)
    (inv : ∀ b y, I b → I (f b y)) (make : ∀ b, I b → P (f b x)) (keep : ∀ b y, I b → P b → P (f b y)) {b : β} (init : I b) :
    P (l.foldl f b) := by
  obtain ⟨before, after, rfl⟩ := List.append_of_mem member
  rw [List.foldl_append, List.foldl_cons]
  have arrives : I (before.foldl f b) := List.foldlRecOn before f init fun b h y _ => inv b y h
  exact And.right (List.foldlRecOn (motive := fun b => I b ∧ P b) after f ⟨inv _ x arrives, make _ arrives⟩
    fun b h y _ => ⟨inv b y h.1, keep b y h.1 h.2⟩)

/-! ### CLEAR_ERRORS -/

/-- A register of the common header set to 0 is no longer listed. -/
theorem State.regs_setReg_zero (s : State) (p : Page) {off : Nat} (h : off < 0x100) :
    (s.setReg p off 0).regs = FMap.erase s.regs (p.addr + off) := by
  simp only [State.setReg, regReset_common _ p h, if_true]

/-- The registers of a state are in canonical form, and none is listed at an address. -/
abbrev State.Unlisted (s : State) (a : Nat) : Prop := FMap.wf s.regs = true ∧ FMap.get? s.regs a = none

theorem State.unlisted_setReg_zero {s : State} {p : Page} {off a : Nat} (c : FMap.wf s.regs = true) (h : off < 0x100)
    (at_ : a = p.addr + off ∨ FMap.get? s.regs a = none) : (s.setReg p off 0).Unlisted a := by
  refine ⟨State.setReg_wf p off 0 c, ?_⟩
  rw [State.regs_setReg_zero s p h, FMap.get?_erase a c]
  split
  · rfl
  · next ne => exact at_.resolve_left ne

theorem State.unlisted_clearFeData {s : State} {a : Nat} (p : Page) (h : s.Unlisted a) : (s.clearFeData p).Unlisted a := by
  refine List.foldlRecOn (motive := fun t : State => t.Unlisted a) (List.range 44) _ h fun t ht j hj => ?_
  exact State.unlisted_setReg_zero ht.1 (by have := List.mem_range.mp hj; omega) (.inr ht.2)

/-- A register of the common header that is not listed reads 0. -/
theorem State.word_of_unlisted {s : State} {p : Page} {off : Nat} (h : off < 0x100) (u : s.Unlisted (p.addr + off)) :
    s.word p off = 0 := by
  simp only [State.word, State.reg, u.2, regReset_common _ p h]
  rfl

/-- The first-error record of one page cleared. -/
def State.clearFeRecord (s : State) (p : Page) : State := ((s.setReg p 0x40 0).setReg p 0x48 0).clearFeData p

theorem State.clearErrors_eq (s : State) (p : Page) : s.clearErrors p = (s.reached p).foldl State.clearFeRecord s := rfl

/-- FE_STATUS and FE_TIME of the page are then not listed, and nothing that was not listed is. -/
theorem State.unlisted_clearFeRecord {s : State} {p : Page} {a : Nat} (c : FMap.wf s.regs = true)
    (at_ : a = p.addr + 0x40 ∨ a = p.addr + 0x48 ∨ FMap.get? s.regs a = none) : (s.clearFeRecord p).Unlisted a := by
  have status : FMap.wf (s.setReg p 0x40 0).regs = true := State.setReg_wf p 0x40 0 c
  refine State.unlisted_clearFeData p (State.unlisted_setReg_zero status (by decide) ?_)
  rcases at_ with status | time | free
  · exact .inr (State.unlisted_setReg_zero c (by decide) (.inl status)).2
  · exact .inl time
  · exact .inr (State.unlisted_setReg_zero c (by decide) (.inr free)).2

theorem State.word_clearErrors {s : State} {p q : Page} (c : FMap.wf s.regs = true) (h : q ∈ s.reached p) :
    (s.clearErrors p).word q 0x40 = 0 ∧ (s.clearErrors p).word q 0x48 = 0 := by
  have record (a : Nat) (at_ : a = q.addr + 0x40 ∨ a = q.addr + 0x48) : (s.clearErrors p).Unlisted a := by
    rw [State.clearErrors_eq]
    refine foldl_reaches (I := fun t : State => FMap.wf t.regs = true) (P := fun t : State => t.Unlisted a) h ?_ ?_ ?_ c
    · exact fun t y wf => (State.unlisted_clearFeRecord (p := y) (a := y.addr + 0x40) wf (.inl rfl)).1
    · exact fun t wf => State.unlisted_clearFeRecord wf (at_.imp_right .inl)
    · exact fun t y wf u => State.unlisted_clearFeRecord wf (.inr (.inr u.2))
  exact ⟨State.word_of_unlisted (by decide) (record _ (.inl rfl)), State.word_of_unlisted (by decide) (record _ (.inr rfl))⟩

/-! ### COLOPHON_ARM and COLOPHON_DISARM -/

theorem State.length_setCap (s : State) (p : Page) (c : PageCapture) : (s.setCap p c).dies.length = s.dies.length :=
  length_modifyAt _ _ _

/-- The capture logic of a die after that of a page was set. -/
theorem State.captures_setCap (s : State) (p : Page) (c : PageCapture) {d : Nat} (h : d < s.dies.length) :
    ((s.setCap p c).die d).captures =
      if d = p.die then
        if c = {} then FMap.erase (s.die d).captures p.off else FMap.set (s.die d).captures p.off c
      else (s.die d).captures := by
  by_cases e : d = p.die
  · subst e
    rw [State.setCap, State.die_onDie _ _ _ _ h, if_pos rfl, if_pos rfl]
  · rw [if_neg e, State.die, State.setCap, State.onDie, getElem?_modifyAt, if_neg e, State.die]

theorem State.captures_setCap_wf {s : State} (p : Page) (c : PageCapture) {d : Nat} (h : d < s.dies.length)
    (wf : FMap.wf (s.die d).captures = true) : FMap.wf ((s.setCap p c).die d).captures = true := by
  rw [State.captures_setCap s p c h]
  split
  · split
    · exact FMap.wf_erase _ wf
    · exact FMap.wf_set _ _ wf
  · exact wf

/-- A page reads the capture logic set at its place, and otherwise its own: a default is not listed, which needs the map in
canonical form. -/
theorem State.cap_setCap {s : State} {p q : Page} {c : PageCapture} (h : q.die < s.dies.length)
    (wf : c = {} → FMap.wf (s.die q.die).captures = true) :
    (s.setCap p c).cap q = if q.die = p.die ∧ q.off = p.off then c else s.cap q := by
  rw [State.cap, State.captures_setCap s p c h]
  by_cases die : q.die = p.die
  · rw [if_pos die]
    by_cases default : c = {}
    · rw [if_pos default, FMap.get?_erase _ (wf default)]
      by_cases off : q.off = p.off
      · rw [if_pos off, if_pos ⟨die, off⟩, default]; rfl
      · rw [if_neg off, if_neg fun e => off e.2, State.cap]
    · rw [if_neg default]
      by_cases off : q.off = p.off
      · rw [off, FMap.get?_set_self, if_pos ⟨die, rfl⟩]; rfl
      · rw [FMap.get?_set_ne _ _ off, if_neg fun e => off e.2, State.cap]
  · rw [if_neg die, if_neg fun e => die e.1, State.cap]

/-- One page armed or disarmed. -/
def State.armPage (v : Bool) (s : State) (p : Page) : State :=
  if p.kind.isGroup then s else s.setCap p { s.cap p with armed := v }

theorem State.arm_eq (s : State) (p : Page) (v : Bool) : s.arm p v = (s.reached p).foldl (State.armPage v) s := rfl

/-- The die of a page is there, and where pages are disarmed its captures are in canonical form. -/
abbrev State.Armable (v : Bool) (s : State) (d : Nat) : Prop :=
  d < s.dies.length ∧ (v = false → FMap.wf (s.die d).captures = true)

theorem State.armable_armPage {v : Bool} {s : State} {d : Nat} (p : Page) (h : s.Armable v d) :
    (s.armPage v p).Armable v d := by
  obtain ⟨die, wf⟩ := h
  unfold State.armPage
  split
  · exact ⟨die, wf⟩
  · exact ⟨(State.length_setCap ..).symm ▸ die, fun e => State.captures_setCap_wf _ _ die (wf e)⟩

/-- A leaf page is then as the command says at its own place, and elsewhere as it was. -/
theorem State.armed_armPage {v : Bool} {s : State} {p q : Page} (h : s.Armable v q.die) (leaf : p.kind.isGroup = false) :
    ((s.armPage v p).cap q).armed = if q.die = p.die ∧ q.off = p.off then v else (s.cap q).armed := by
  have default (e : { s.cap p with armed := v } = ({} : PageCapture)) : v = false := congrArg PageCapture.armed e
  rw [State.armPage, if_neg (by simp [leaf]), State.cap_setCap h.1 fun e => h.2 (default e)]
  split <;> rfl

theorem State.armed_arm {v : Bool} {s : State} {p q : Page} (member : q ∈ s.reached p) (leaf : q.kind.isGroup = false)
    (h : s.Armable v q.die) : ((s.arm p v).cap q).armed = v := by
  rw [State.arm_eq]
  refine foldl_reaches (I := fun t : State => t.Armable v q.die) (P := fun t : State => (t.cap q).armed = v) member
    ?_ ?_ ?_ h
  · exact fun t y ok => State.armable_armPage y ok
  · exact fun t ok => (State.armed_armPage ok leaf).trans (if_pos ⟨rfl, rfl⟩)
  · intro t y ok armed
    by_cases group : y.kind.isGroup = true
    · rw [State.armPage, if_pos group, armed]
    · rw [State.armed_armPage ok (Bool.not_eq_true _ ▸ group), armed, ite_self]

/-! ### RESET of a die group page -/

/-- A part of every die that two states share is the same at each die. -/
theorem State.die_congr {β : Type} {g : Die → β} {s t : State} (h : t.dies.map g = s.dies.map g) (d : Nat) :
    g (t.die d) = g (s.die d) := by
  have entry : (t.dies[d]?).map g = (s.dies[d]?).map g := by rw [← List.getElem?_map, h, List.getElem?_map]
  rw [State.die, State.die, ← Option.getD_map g, ← Option.getD_map g, entry]

/-- The maps are in canonical form, and there are `n` dies. -/
structure State.Whole (n : Nat) (s : State) : Prop where
  canonical : s.canonical
  length : s.dies.length = n

/-- What keeps the clocks of the dies keeps the dies. -/
theorem Within.whole {W n : Nat} {s t : State} (w : Within W s t) (h : s.Whole n)
    (clocks : W.testBit Area.clocks.bit = false := by decide) : t.Whole n := by
  obtain ⟨c, length⟩ := h
  have same : t.dies.map Die.clocks = s.dies.map Die.clocks := w.areas .clocks clocks c
  exact ⟨w.canonical c, .trans (by simpa using congrArg List.length same) length⟩

/-- States that share memory, registers, totals and dies. -/
theorem State.Whole.congr {n : Nat} {s t : State} (h : s.Whole n) (mem : t.mem = s.mem) (regs : t.regs = s.regs)
    (totals : t.totals = s.totals) (dies : t.dies = s.dies) : t.Whole n := by
  obtain ⟨⟨hm, hr, ht⟩, hd⟩ := h
  exact ⟨⟨mem ▸ hm, regs ▸ hr, totals ▸ ht⟩, dies ▸ hd⟩

theorem State.Whole.foldl {α : Type} {n : Nat} {s : State} {f : State → α → State} {l : List α} (h : s.Whole n)
    (step : ∀ t x, State.Whole n t → State.Whole n (f t x)) : State.Whole n (l.foldl f s) :=
  List.foldlRecOn l f h fun t ht x _ => step t x ht

theorem Within.computeReset {W : Nat} {s t : State} (w : Within W s t) (c : s.canonical) (d : Nat)
    (resets : W.testBit Area.resets.bit = false := by decide) : (t.die d).computeReset = (s.die d).computeReset := by
  have same := w.areas .resets resets c
  exact congrArg Prod.fst (State.die_congr (g := fun x : Die => (x.computeReset, x.fwdReset, x.cmdBusy)) same d)

/-- The domain is in reset from the update of the die on, and what follows it leaves the reset flags (R675). -/
theorem State.enterComputeReset_sets {s : State} {d : Nat} (c : s.canonical) (h : d < s.dies.length) :
    ((s.enterComputeReset d).die d).computeReset = true := by
  unfold State.enterComputeReset
  extract_lets closed retracted emptied failed removed abandoned away reduced paused resumed cleared unstopped inReset
  have hClosed : closed.Whole s.dies.length := State.closeEarly_within.whole (State.dropLocal_within.whole ⟨c, rfl⟩)
  have hEmptied : emptied.Whole s.dies.length := State.dropQueues_within.whole (State.retract_within.whole hClosed)
  have hFailed : failed.Whole s.dies.length := hEmptied.foldl fun _ _ ht => State.failRun_within.whole ht
  have hRemoved : removed.Whole s.dies.length := hFailed.foldl fun _ _ ht => State.removeQp_within.whole ht
  have hAbandoned : abandoned.Whole s.dies.length := hRemoved.foldl fun _ _ ht => State.abandonCheck_within.whole ht
  clear_value abandoned
  have hReduced : reduced.Whole s.dies.length := hAbandoned.congr rfl rfl rfl rfl
  have hResumed : resumed.Whole s.dies.length := hReduced.foldl fun _ _ ht => State.onRun_within.whole ht
  have hCleared : cleared.Whole s.dies.length := State.clearPages_within.whole hResumed
  clear_value cleared
  have hUnstopped : unstopped.Whole s.dies.length := hCleared.congr rfl rfl rfl rfl
  have canonical : inReset.canonical := hUnstopped.canonical
  have flag : (inReset.die d).computeReset = true := by
    rw [State.die_onDie _ _ _ _ (hUnstopped.length ▸ h), if_pos rfl]
  have kept : ((inReset.ackDie d).die d).computeReset = true :=
    (State.ackDie_within.computeReset canonical d).trans flag
  have acked : (inReset.ackDie d).canonical := State.ackDie_within.canonical canonical
  have unpaused := List.foldlRecOn (motive := fun t : State => t.canonical ∧ (t.die d).computeReset = true) paused
    (fun s e => s.onExec e.fn e.q e.index fun e => { e with paused := none }) ⟨acked, kept⟩
    fun t ht e _ => ⟨State.onExec_within.canonical ht.1, (State.onExec_within.computeReset ht.1 d).trans ht.2⟩
  exact (State.refreshGroups_within.computeReset unpaused.1 d).trans unpaused.2

theorem State.enterComputeReset_length {s : State} {d : Nat} (c : s.canonical) :
    (s.enterComputeReset d).dies.length = s.dies.length :=
  (State.enterComputeReset_within.whole ⟨c, rfl⟩).2

/-- RESET of a die group page that the PF may give: the die is in reset, and the command runs. -/
theorem State.resetPage_die {s : State} {p : Page} (c : s.canonical) (group : p.kind = .dieGroup)
    (image : s.spine.phase ≠ .failed) (h : p.die < s.dies.length) :
    ((s.resetPage 0 p).die p.die).computeReset = true ∧ ((s.resetPage 0 p).die p.die).cmdBusy = true := by
  have length : p.die < (s.enterComputeReset p.die).dies.length :=
    Nat.lt_of_lt_of_eq h (State.enterComputeReset_length c).symm
  have begins : s.resetPage 0 p = (s.enterComputeReset p.die).onDie p.die fun x => { x with cmdBusy := true } := by
    simp [State.resetPage, group, image]
  simp only [begins, State.die_onDie _ _ _ _ length, if_true, State.enterComputeReset_sets c h, and_self]

/-! ### BLK_CTL -/

/-- A command number, in its field of a BLK_CTL write. -/
theorem bits_blkCtl_cmd (key : Byte) (ctl : BitVec 11) {cmd : Nat} (h : cmd < 16) : bits (blkCtl key cmd ctl) 15 12 = cmd := by
  have := ctl.isLt
  simp only [bits, blkCtl]
  omega

theorem bits_blkCtl_key (key : Byte) (ctl : BitVec 11) {cmd : Nat} (h : cmd < 16) :
    bits (blkCtl key cmd ctl) 31 24 = key.toNat := by
  have := ctl.isLt
  have := key.isLt
  simp only [bits, blkCtl]
  omega

/-- BLK_CTL of a leaf page as a write leaves it before the command acts. -/
def State.storeBlkCtl (s : State) (p : Page) (v : Nat) : State :=
  if p.kind.isGroup then s else s.setReg p.home 0x08 (bits v 7 0)

section Commands

variable {s : State} {p : Page} (f : Nat) (ctl : BitVec 11) (idle : bit (s.blkStat p) 26 = false)
  (kind : p.kind ≠ .packageGroup)

include idle kind

/-- With the key and while no command runs, RESET acts at once (R43, R44). -/
theorem State.writeCommon_reset : s.writeCommon f p 0x08 (blkCtl 0xC3 1 ctl) = s.resetPage f p := by
  simp [State.writeCommon_blkCtl, State.writeBlkCtl, bits_blkCtl_cmd, bits_blkCtl_key, idle, kind]

/-! The other commands act on the state that the stored field leaves (R43, R45). -/

theorem State.writeCommon_arm :
    s.writeCommon f p 0x08 (blkCtl 0xC3 2 ctl) = (s.storeBlkCtl p (blkCtl 0xC3 2 ctl)).arm p true := by
  simp [State.writeCommon_blkCtl, State.writeBlkCtl, State.storeBlkCtl, bits_blkCtl_cmd, bits_blkCtl_key, idle, kind]

theorem State.writeCommon_disarm :
    s.writeCommon f p 0x08 (blkCtl 0xC3 3 ctl) = (s.storeBlkCtl p (blkCtl 0xC3 3 ctl)).arm p false := by
  simp [State.writeCommon_blkCtl, State.writeBlkCtl, State.storeBlkCtl, bits_blkCtl_cmd, bits_blkCtl_key, idle, kind]

theorem State.writeCommon_clearErrors :
    s.writeCommon f p 0x08 (blkCtl 0xC3 4 ctl) = (s.storeBlkCtl p (blkCtl 0xC3 4 ctl)).clearErrors p := by
  simp [State.writeCommon_blkCtl, State.writeBlkCtl, State.storeBlkCtl, bits_blkCtl_cmd, bits_blkCtl_key, idle, kind]

end Commands

/-- The stored field changes a register alone: the dies, and the pages that a command reaches, are the same. -/
theorem State.storeBlkCtl_dies (s : State) (p : Page) (v : Nat) : (s.storeBlkCtl p v).dies = s.dies := by
  unfold State.storeBlkCtl
  split <;> rfl

theorem State.storeBlkCtl_reached (s : State) (p q : Page) (v : Nat) : (s.storeBlkCtl p v).reached q = s.reached q := by
  unfold State.storeBlkCtl
  split <;> rfl

theorem State.storeBlkCtl_wf {s : State} (p : Page) (v : Nat) (c : FMap.wf s.regs = true) :
    FMap.wf (s.storeBlkCtl p v).regs = true := by
  unfold State.storeBlkCtl
  split
  · exact c
  · exact State.setReg_wf _ _ _ c

/-! ### The rows of BLK_CTL -/

theorem exec_reset (s : State) (f off : Nat) (key : Byte) (ctl : BitVec 11) :
    exec (.reset f off key ctl) s = atFn s f (s.writeRow f off 0x08 (blkCtl key 1 ctl)) := by rfl

theorem exec_colophonArm (s : State) (f off : Nat) (key : Byte) (ctl : BitVec 11) :
    exec (.colophonArm f off key ctl) s = atFn s f (s.writeRow f off 0x08 (blkCtl key 2 ctl)) := by rfl

theorem exec_colophonDisarm (s : State) (f off : Nat) (key : Byte) (ctl : BitVec 11) :
    exec (.colophonDisarm f off key ctl) s = atFn s f (s.writeRow f off 0x08 (blkCtl key 3 ctl)) := by rfl

theorem exec_clearErrors (s : State) (f off : Nat) (key : Byte) (ctl : BitVec 11) :
    exec (.clearErrors f off key ctl) s = atFn s f (s.writeRow f off 0x08 (blkCtl key 4 ctl)) := by rfl

end Sys2Proof.Machine

namespace Sys2Proof

open Machine

/-- Settles O3: RESET acts at once, and each other command page by page over those that it reaches. -/
theorem blockCommandsAct : Obligations.BlockCommandsAct := by
  intro s f off p ctl canonical host fn live reached target takes own idle kind
  have regs : FMap.wf s.regs = true := canonical.2.1
  have lands : s.Lands f off p 0x08 := ⟨host, fn, live, reached, target, takes, own⟩
  refine ⟨?reset, ?arm, ?disarm, ?errors⟩
  case reset =>
    rintro rfl group image die
    exact lands.completes (exec_reset ..) (State.writeCommon_reset 0 ctl idle kind)
      (State.resetPage_die canonical group image die)
  case arm =>
    refine lands.completes (exec_colophonArm ..) (State.writeCommon_arm f ctl idle kind) fun q member leaf die => ?_
    refine State.armed_arm (State.storeBlkCtl_reached s p p _ ▸ member) leaf ⟨?_, fun e => nomatch e⟩
    rwa [State.storeBlkCtl_dies]
  case disarm =>
    refine lands.completes (exec_colophonDisarm ..) (State.writeCommon_disarm f ctl idle kind) fun q member leaf die wf => ?_
    refine State.armed_arm (State.storeBlkCtl_reached s p p _ ▸ member) leaf ?_
    rw [State.Armable, State.die, State.storeBlkCtl_dies]
    exact ⟨die, fun _ => wf⟩
  case errors =>
    refine lands.completes (exec_clearErrors ..) (State.writeCommon_clearErrors f ctl idle kind) fun q member => ?_
    exact State.word_clearErrors (State.storeBlkCtl_wf p _ regs) (State.storeBlkCtl_reached s p p _ ▸ member)

end Sys2Proof
end

section
/-!
What the shared operations of the queues leave (chapter 4): queues by their keys, a queue's stop, receive slots, descriptors
in execution, and writes to host memory.
-/

namespace Sys2Proof.Machine

/-! ### Queues by their keys -/

/-- Numbers below 65,536 give every queue a key of its own. -/
theorem qKey_inj {f q g r : Nat} (hq : q < 65536) (hr : r < 65536) (h : (g, r) ≠ (f, q)) : qKey g r ≠ qKey f q := by
  simp only [ne_eq, Prod.mk.injEq] at h
  unfold qKey
  omega

/-- Queues are read from the map of queues alone. -/
theorem State.queue_congr {s t : State} (h : t.queues = s.queues) (f q : Nat) : t.queue f q = s.queue f q := by
  rw [State.queue, h, State.queue]

/-- Functions are read from the list of functions alone. -/
theorem State.fn_congr {s t : State} (h : t.fns = s.fns) (f : Nat) : t.fn f = s.fn f := by
  rw [State.fn, h, State.fn]

@[simp] theorem State.queue_count (s : State) (p : Page) (k n f q : Nat) : (s.count p k n).queue f q = s.queue f q := rfl

@[simp] theorem State.queue_setQueue_self (s : State) (f q : Nat) (x : Queue) : (s.setQueue f q x).queue f q = some x :=
  FMap.get?_set_self _ _ _

theorem State.queue_setQueue_ne {s : State} {f q g r : Nat} (x : Queue) (hq : q < 65536) (hr : r < 65536)
    (h : (g, r) ≠ (f, q)) : (s.setQueue f q x).queue g r = s.queue g r :=
  FMap.get?_set_ne _ _ (qKey_inj hq hr h)

@[simp] theorem State.setQueue_fns (s : State) (f q : Nat) (x : Queue) : (s.setQueue f q x).fns = s.fns := rfl
@[simp] theorem State.setQueue_execs (s : State) (f q : Nat) (x : Queue) : (s.setQueue f q x).execs = s.execs := rfl

/-- A queue that exists is changed by setting it. -/
theorem State.onQueue_eq {s : State} {f q : Nat} {x : Queue} (g : Queue → Queue) (h : s.queue f q = some x) :
    s.onQueue f q g = s.setQueue f q (g x) := by
  simp only [State.onQueue, h]

/-! ### The stop of a queue (R130, R142) -/

/-- A queue in ERROR as a stop leaves it. -/
def Queue.stopped (x : Queue) (cause detail : Nat) (i : Word) : Queue :=
  { x with state := .error, cause := cause, detail := detail, errIndex := i, slots := [], fetching := [], stale := none }

/-- A record of STOP_FIFO stands apart from the queues. -/
theorem State.pushStop_queues (s : State) (p : Page) (w : Word) : (s.pushStop p w).queues = s.queues := by
  simp only [State.pushStop]
  split <;> rfl

/-- A stop changes the map of queues at the queue alone. -/
theorem State.stopQueue_queues {s : State} {f q : Nat} {x : Queue} (cause detail : Nat) (i : Word)
    (h : s.queue f q = some x) :
    (s.stopQueue f q cause detail i).queues = (s.setQueue f q (x.stopped cause detail i)).queues := by
  simp only [State.stopQueue, h]
  split <;> exact State.pushStop_queues _ _ _

/-- A stop leaves functions, descriptors in execution, doorbells and what was sent. -/
structure State.StopKeeps (s t : State) : Prop where
  fns : t.fns = s.fns
  execs : t.execs = s.execs
  doorbells : t.doorbells = s.doorbells
  outbox : t.outbox = s.outbox

theorem State.stopQueue_keeps (s : State) (f q cause detail : Nat) (i : Word) :
    s.StopKeeps (s.stopQueue f q cause detail i) := by
  unfold State.stopQueue State.pushStop
  dsimp only
  split
  · exact ⟨rfl, rfl, rfl, rfl⟩
  · split <;> split <;> exact ⟨rfl, rfl, rfl, rfl⟩

theorem State.queue_stopQueue_self {s : State} {f q : Nat} {x : Queue} (cause detail : Nat) (i : Word)
    (h : s.queue f q = some x) : (s.stopQueue f q cause detail i).queue f q = some (x.stopped cause detail i) :=
  (State.queue_congr (State.stopQueue_queues cause detail i h) f q).trans (State.queue_setQueue_self ..)

theorem State.queue_stopQueue_ne {s : State} {f q g r : Nat} (cause detail : Nat) (i : Word) (hq : q < 65536)
    (hr : r < 65536) (h : (g, r) ≠ (f, q)) : (s.stopQueue f q cause detail i).queue g r = s.queue g r := by
  rcases present : s.queue f q with _ | x
  · simp only [State.stopQueue, present]
  · exact (State.queue_congr (State.stopQueue_queues cause detail i present) g r).trans
      (State.queue_setQueue_ne _ hq hr h)

/-! ### Receive slots (R171) -/

/-- A receive slot released changes a queue pair, and nothing of the queues. -/
theorem State.releaseSlot_queues (s : State) (slot : Option (Nat × Word)) :
    (s.releaseSlot slot).queues = s.queues ∧ (s.releaseSlot slot).doorbells = s.doorbells := by
  unfold State.releaseSlot State.onQp
  split
  · split <;> exact ⟨rfl, rfl⟩
  · exact ⟨rfl, rfl⟩

/-- Of the slots behind a list of receipts likewise. -/
theorem State.releaseSlots_queues (s : State) (l : List (Word × Nat × Word)) :
    (l.foldl (fun s r => s.releaseSlot (some r.2)) s).queues = s.queues ∧
      (l.foldl (fun s r => s.releaseSlot (some r.2)) s).doorbells = s.doorbells :=
  List.foldlRecOn (motive := fun t : State => t.queues = s.queues ∧ t.doorbells = s.doorbells) l _ ⟨rfl, rfl⟩
    fun t h _ _ => (State.releaseSlot_queues t _).imp (·.trans h.1) (·.trans h.2)

/-! ### Descriptors in execution -/

/-- A descriptor in execution that a change leaves under its queue and index is found changed. -/
theorem State.exec?_onExec {s : State} {f q : Nat} {i : Word} {e : Exec} (g : Exec → Exec) (h : s.exec? f q i = some e)
    (place : ∀ e : Exec, (g e).is f q i = e.is f q i) : (s.onExec f q i g).exec? f q i = some (g e) := by
  have kept : ((·.is f q i) ∘ fun e : Exec => if e.is f q i then g e else e) = (·.is f q i) := by
    funext e
    simp only [Function.comp_apply]
    split
    · exact place e
    · rfl
  rw [State.exec?] at h
  rw [State.exec?, State.onExec, List.find?_map, kept, h, Option.map_some, if_pos (List.find?_some h)]

/-- None is found at an index whose descriptor has been taken off. -/
theorem State.exec?_filter (s : State) (f q : Nat) (i : Word) :
    ({ s with execs := s.execs.filter fun e => !e.is f q i } : State).exec? f q i = none := by
  simp [State.exec?]

end Sys2Proof.Machine
end

section
/-!
Failed reads of host memory and poisoned requests (R73 to R75).
-/

namespace Sys2Proof.Machine

/-- A failed read for a descriptor as counted and reported, before its queue stops (R73). -/
def State.hostReadFailed (s : State) (f q : Nat) (i : Word) (c : HostReadFault) : State :=
  let t := { s with execs := s.execs.filter fun e => !e.is f q i }.count pciePage Ctr.pcieHostReadErrors
  match HostReadFault.aer c with
  | some e => t.emit (.aer f e)
  | none => t

/-- The report by the kind of the failure. -/
def hostReadReports (f : Nat) (c : HostReadFault) : List Output := ((HostReadFault.aer c).map (Output.aer f)).toList

theorem State.hostReadFailed_queues (s : State) (f q : Nat) (i : Word) (c : HostReadFault) :
    (s.hostReadFailed f q i c).queues = s.queues := by
  cases c <;> rfl

theorem State.hostReadFailed_outbox (s : State) (f q : Nat) (i : Word) (c : HostReadFault) :
    (s.hostReadFailed f q i c).outbox = hostReadReports f c ++ s.outbox := by
  cases c <;> rfl

theorem State.hostReadFailed_exec? (s : State) (f q : Nat) (i : Word) (c : HostReadFault) :
    (s.hostReadFailed f q i c).exec? f q i = none := by
  cases c <;> exact State.exec?_filter s f q i

/-- A queue that is not yet in ERROR stops. -/
theorem exec_hostReadError {s : State} {f q : Nat} {x : Queue} (i : Word) (c : HostReadFault) (fn : f < s.fns.length)
    (queue : s.queue f q = some x) (live : x.state ≠ .error) :
    exec (.hostReadError f q i c) s = .next ((s.hostReadFailed f q i c).stopQueue f q causeHostFetch 0 i) := by
  have row : exec (.hostReadError f q i c) s = execHostReadError f q i c s := by rfl
  simp only [row, execHostReadError, atFn, if_pos fn, queue, beq_iff_eq, if_neg live]
  rfl

theorem exec_poisonedBarWrite {s : State} {f : Nat} (isRead : Bool) (link : s.board.link.isSome = true)
    (fn : f < s.fns.length) : exec (.poisonedBarWrite f isRead) s =
      .next (s.emit (if isRead then .unsupported f else .aer f .poisonedTlp)) := by
  have row : exec (.poisonedBarWrite f isRead) s = execPoisonedBarWrite f isRead s := by rfl
  have up : s.board.link.isNone = false := by rw [← Option.not_isSome, link]; rfl
  rw [row, execPoisonedBarWrite, atFn, if_pos fn, up]
  cases isRead <;> rfl

end Sys2Proof.Machine

namespace Sys2Proof

open Machine

/-- Settles O6: the failed read is reported by its kind and its queue stops, which changes no other queue. -/
theorem hostErrorsAreReported : Obligations.HostErrorsAreReported := by
  refine ⟨?failed, ?poisoned⟩
  case failed =>
    intro s f q x i c fn number queue live _
    have before (g r : Nat) : (s.hostReadFailed f q i c).queue g r = s.queue g r :=
      State.queue_congr (State.hostReadFailed_queues s f q i c) g r
    have keeps := State.stopQueue_keeps (s.hostReadFailed f q i c) f q causeHostFetch 0 i
    refine ⟨_, exec_hostReadError i c fn queue live, ?_, ?_, ?_, ?_⟩
    · exact State.queue_stopQueue_self _ _ _ ((before f q).trans queue)
    · rw [State.exec?, keeps.execs]
      exact State.hostReadFailed_exec? s f q i c
    · exact fun g r hr other => (State.queue_stopQueue_ne _ _ _ number hr other).trans (before g r)
    · rw [keeps.outbox, State.hostReadFailed_outbox]
      cases c <;> rfl
  case poisoned =>
    exact fun s f link fn => ⟨exec_poisonedBarWrite false link fn, exec_poisonedBarWrite true link fn⟩

end Sys2Proof
end

section
/-!
Doorbells on their way and at the queue's manager (R80 to R84, R111, R134, R256).
-/

namespace Sys2Proof.Machine

/-- A counter counts where registers and totals are in canonical form. -/
theorem State.counted_count {s : State} (p : Page) (k n : Nat) (regs : FMap.wf s.regs = true)
    (totals : FMap.wf s.totals = true) : Counted p k n s (s.count p k n) :=
  ⟨setOr0_self _ _ regs, setOr0_self _ _ totals⟩

/-! ### DOORBELL_WRITE -/

/-- A write that DOORBELL_WRITE passes on: 4 bytes at a multiple of 8 below 512 KiB, for a queue that exists in an OPEN
function (R68, R80). -/
abbrev State.takesDoorbell (s : State) (f off size : Nat) : Prop :=
  size = 4 ∧ off % 8 = 0 ∧ off < 524288 ∧ (s.fn f).phase = .opened ∧ (s.queue f (off / 8)).isSome = true

section DoorbellWrite

variable {s : State} {f off size : Nat} (v : Word) (host : s.hostReady) (fn : f < s.fns.length)

include host fn

theorem exec_doorbellWrite_taken (taken : s.takesDoorbell f off size) :
    exec (.doorbellWrite f off size v) s = .next { s with doorbells := s.doorbells ++ [⟨f, off / 8, v⟩] } := by
  have row : exec (.doorbellWrite f off size v) s = execDoorbellWrite f off size v s := by rfl
  obtain ⟨size, aligned, low, opened, present⟩ := taken
  rw [row, execDoorbellWrite, atFn, if_pos fn, State.fromFn_of_hostReady host, if_neg]
  simp [size, aligned, low, opened, Option.isSome_iff_ne_none.mp present]

theorem exec_doorbellWrite_dropped (dropped : ¬ s.takesDoorbell f off size) :
    exec (.doorbellWrite f off size v) s = .next (s.count pciePage Ctr.pcieDoorbellDrops) := by
  have row : exec (.doorbellWrite f off size v) s = execDoorbellWrite f off size v s := by rfl
  rw [row, execDoorbellWrite, atFn, if_pos fn, State.fromFn_of_hostReady host, if_pos]
  refine Decidable.byContradiction fun passed => dropped ?_
  simp only [Bool.not_eq_true, Bool.or_eq_false_iff, bne_eq_false_iff_eq, decide_eq_false_iff_not, Nat.not_le,
    Option.isNone_eq_false_iff] at passed
  obtain ⟨⟨⟨⟨size, aligned⟩, low⟩, opened⟩, present⟩ := passed
  exact ⟨size, aligned, low, opened, present⟩

end DoorbellWrite

/-! ### DOORBELL_ADMISSION -/

/-- A submission queue's legal tail (R111). -/
theorem State.queue_applyDoorbell_tail {s : State} {f q : Nat} {x : Queue} {v : Word} (submission : x.arrival = false)
    (room : (v - x.head).toNat ≤ 2 ^ x.log2) (forward : (x.tail - x.head).toNat ≤ (v - x.head).toNat) :
    (s.applyDoorbell f q x v).queue f q = some { x with tail := v } := by
  simp only [State.applyDoorbell, submission, Bool.false_eq_true, if_false, if_pos (And.intro room forward),
    State.queue_count, State.queue_setQueue_self]

/-- An arrival queue's legal head (R111). -/
theorem State.queue_applyDoorbell_head {s : State} {f q : Nat} {x : Queue} {v : Word} (arrival : x.arrival = true)
    (legal : (v - x.head).toNat ≤ (x.tail - x.head).toNat) :
    ((s.applyDoorbell f q x v).queue f q).map Queue.head = some v := by
  simp only [State.applyDoorbell, arrival, if_true, if_pos legal, State.queue_count,
    State.queue_congr (State.releaseSlots_queues _ _).1, State.queue_setQueue_self, Option.map_some]

/-- Applying a doorbell takes none off the list. -/
theorem State.applyDoorbell_doorbells (s : State) (f q : Nat) (x : Queue) (v : Word) :
    (s.applyDoorbell f q x v).doorbells = s.doorbells := by
  unfold State.applyDoorbell
  dsimp only
  split
  · split
    · exact (State.releaseSlots_queues _ _).2
    · exact (State.stopQueue_keeps ..).doorbells
  · split
    · rfl
    · exact (State.stopQueue_keeps ..).doorbells

/-- The oldest doorbell of a queue that exists comes off the list, and is applied or recorded (R134). -/
theorem exec_doorbellAdmission {s : State} {f q : Nat} {b : Doorbell} {x : Queue} (fn : f < s.fns.length)
    (oldest : s.doorbells.find? (fun b => b.fn == f && b.q == q) = some b) (queue : s.queue f q = some x) :
    exec (.doorbellAdmission f q) s = .next (if x.state = .running then
      { s with doorbells := s.doorbells.erase b }.applyDoorbell f q x b.index
      else { s with doorbells := s.doorbells.erase b }.setQueue f q { x with recorded := some b.index }) := by
  have row : exec (.doorbellAdmission f q) s = execDoorbellAdmission f q s := by rfl
  have same : { s with doorbells := s.doorbells.erase b }.queue f q = some x := queue
  simp only [row, execDoorbellAdmission, atFn, if_pos fn, oldest, same, beq_iff_eq]

/-! ### ALRAM_DOORBELL -/

theorem Area.same_reg {s t : State} (own : Area.ownRegs.same s t) (part : t.part = s.part) (p : Page) {off : Nat}
    (low : 0x100 ≤ off) (high : off < 0xC00) : t.reg p off = s.reg p off := by
  have place : (p.addr + off) % 4096 = off := by
    have := p.addr_mod
    omega
  have listed : FMap.get? t.regs (p.addr + off) = FMap.get? s.regs (p.addr + off) :=
    own _ (by simp only [place, low, high, decide_true, Bool.and_self])
  rw [State.reg, State.reg, listed, part]

/-- The packet taken from the router leaves queues, doorbells and the binding of the port (R255). -/
theorem State.takeLocal_keeps {s : State} (c : s.canonical) (d : Nat) (p : Packet) :
    (s.takeLocal d p).queues = s.queues ∧ (s.takeLocal d p).doorbells = s.doorbells ∧
      ∀ e k, (s.takeLocal d p).portPartition e k = s.portPartition e k := by
  have within : Within 17385390088 s (s.takeLocal d p) := State.takeLocal_within
  have queues : Area.queues.same s (s.takeLocal d p) := within.areas .queues (by decide) c
  have doorbells : Area.doorbells.same s (s.takeLocal d p) := within.areas .doorbells (by decide) c
  have own : Area.ownRegs.same s (s.takeLocal d p) := within.areas .ownRegs (by decide) c
  refine ⟨queues.1, doorbells, fun e k => ?_⟩
  rw [State.portPartition, State.portPartition, Area.same_reg own within.part _ (by decide) (by decide)]

theorem State.alramBound_congr {s t : State} {d k : Nat} (h : t.portPartition d k = s.portPartition d k) (p : Packet) :
    t.alramBound d k p = s.alramBound d k p := by
  simp only [State.alramBound, h]

/-- A doorbell of the bound function for a local queue that the die owns (R256). -/
theorem exec_alramDoorbell {s : State} {d k : Nat} {p : Packet} {x : Queue} (c : s.canonical) (die : d < s.dies.length)
    (port : k < 2) (good : alramBad p false = false) (bound : s.alramBound d k p = true)
    (queue : s.queue (s.portPartition d k) (aTag p) = some x) (ring : x.isLocal = true) (owner : x.owner = d) :
    ∃ t, exec (.alramDoorbell d k p) s = .next t ∧
      t.doorbells = s.doorbells ++ [⟨s.portPartition d k, aTag p, BitVec.ofNat 32 (aArg p)⟩] := by
  have row : exec (.alramDoorbell d k p) s = execAlramDoorbell d k p s := by rfl
  obtain ⟨queues, doorbells, binding⟩ := State.takeLocal_keeps c d p
  have bound' : (s.takeLocal d p).alramBound d k p = true := (State.alramBound_congr (binding d k) p).trans bound
  have queue' : (s.takeLocal d p).queue (s.portPartition d k) (aTag p) = some x := (State.queue_congr queues _ _).trans queue
  refine ⟨{ s.takeLocal d p with
    doorbells := (s.takeLocal d p).doorbells ++ [⟨s.portPartition d k, aTag p, BitVec.ofNat 32 (aArg p)⟩] }, ?_, ?_⟩
  · simp only [row, execAlramDoorbell, atAlram, atUnit, if_pos die, decide_eq_true port, if_true, good, bound', binding,
      queue', ring, owner, beq_self_eq_true, Bool.and_self, Bool.not_true, Bool.or_self, Bool.false_eq_true, if_false]
  · exact congrArg (· ++ _) doorbells

end Sys2Proof.Machine

namespace Sys2Proof

open Machine

/-- Settles O8: a write is passed on or dropped; a queue's manager applies or records the oldest; an Alram port passes on. -/
theorem doorbellsReachTheirQueues : Obligations.DoorbellsReachTheirQueues := by
  refine ⟨?write, ?admission, ?alram⟩
  case write =>
    intro s f off size v host fn
    by_cases taken : s.takesDoorbell f off size
    · exact ⟨_, exec_doorbellWrite_taken v host fn taken, (if_pos taken).mpr rfl⟩
    · exact ⟨_, exec_doorbellWrite_dropped v host fn taken,
        (if_neg taken).mpr ⟨rfl, State.counted_count _ _ _⟩⟩
  case admission =>
    intro s f q b x fn _ oldest queue
    refine ⟨_, exec_doorbellAdmission fn oldest queue, ?_, ?tail, ?head, ?recorded⟩
    · split
      · exact State.applyDoorbell_doorbells ..
      · rfl
    case tail =>
      intro running submission room forward
      rw [if_pos running, State.queue_applyDoorbell_tail submission room forward]
    case head =>
      intro running arrival legal
      rw [if_pos running, State.queue_applyDoorbell_head arrival legal]
    case recorded =>
      intro stopped
      rw [if_neg stopped, State.queue_setQueue_self]
  case alram =>
    exact fun s d k p x c die port good bound queue ring owner => exec_alramDoorbell c die port good bound queue ring owner

end Sys2Proof
end

section
/-!
Ledger channels and the read-backs of FLUSH (R90 to R95, R98).
-/

namespace Sys2Proof.Machine

/-! ### Ledger channels -/

/-- A write that is not logged and that no message follows is issued alone. -/
theorem State.issueHost_plain (s : State) (f : Nat) {w : HostWrite} (unlogged : w.logged = false)
    (silent : w.vector = none) (data : w.data ≠ []) : s.issueHost f w = s.emit (.hostWrite f w.addr w.data) := by
  simp [State.issueHost, unlogged, silent, data]

/-- The oldest write of a channel leaves it and is issued (R90). -/
theorem exec_ledgerIssue {s : State} {f c : Nat} {w : HostWrite} {ws : List HostWrite} (fn : f < s.fns.length)
    (channel : (s.fn f).ledgers[c]? = some (w :: ws)) :
    exec (.ledgerIssue f c) s = .next ((s.onFn f fun x => { x with ledgers := x.ledgers.set c ws }).issueHost f w) := by
  have row : exec (.ledgerIssue f c) s = execLedgerIssue f c s := by rfl
  simp only [row, execLedgerIssue, atFn, if_pos fn, channel, Option.getD_some]

/-- A channel whose list is replaced holds the new one. -/
theorem State.ledger_set {s : State} {f c : Nat} {l : List HostWrite} (ws : List HostWrite) (fn : f < s.fns.length)
    (channel : (s.fn f).ledgers[c]? = some l) :
    ((s.onFn f fun x => { x with ledgers := x.ledgers.set c ws }).fn f).ledgers[c]? = some ws := by
  have listed : c < (s.fn f).ledgers.length := (List.getElem?_eq_some_iff.mp channel).1
  rw [State.fn_onFn _ _ _ _ fn, if_pos rfl, List.getElem?_set_self listed]

/-! ### Read-backs -/

/-- What a queue's ledger channel holds is written, so a read-back on the PCI Express path may be issued (R93). -/
def State.ledgerEmpty (s : State) (f : Nat) (x : Queue) : Prop :=
  ∀ c, x.ledger = some c → (s.fn f).ledgers[c]? = some []

/-- A descriptor's only read-back, on the PCI Express path behind an empty channel, is issued (R92, R93). -/
theorem exec_readBack_pcie {s : State} {f q : Nat} {i : Word} {e : Exec} {x : Queue} {a : Word64} (fn : f < s.fns.length)
    (found : s.exec? f q i = some e) (queue : s.queue f q = some x) (flushing : e.phase = .flushing)
    (only : e.readBacks = [⟨.pcie, a, false⟩]) (empty : s.ledgerEmpty f x) :
    exec (.readBack f q i) s = .next (((s.issueReadBack f q i ⟨.pcie, a, false⟩).count pciePage
      Ctr.pcieFlushReadbacks).emit (.hostRead f a 64)) := by
  have row : exec (.readBack f q i) s = execReadBack f q i s := by rfl
  have next : [(⟨.pcie, a, false⟩ : ReadBack)].find? (fun r => !r.issued) = some ⟨.pcie, a, false⟩ := rfl
  simp only [row, execReadBack, atFn, if_pos fn, found, queue, flushing, only, next]
  rcases bound : x.ledger with _ | c
  · rfl
  · simp only [empty c bound]
    rfl

theorem State.issueReadBack_exec? {s : State} {f q : Nat} {i : Word} {e : Exec} {r : ReadBack}
    (found : s.exec? f q i = some e) (only : e.readBacks = [r]) :
    ((s.issueReadBack f q i r).exec? f q i).map Exec.readBacks = some [{ r with issued := true }] := by
  rw [State.issueReadBack, State.exec?_onExec _ found]
  · simp [only]
  · exact fun _ => rfl

theorem exec_readBackReturn {s : State} {f : Nat} (q : Nat) (i : Word) (ok : Bool) (fn : f < s.fns.length) :
    exec (.readBackReturn f q i ok) s = .next (s.flushReturn f q i ok) := by
  have row : exec (.readBackReturn f q i ok) s = execReadBackReturn f q i ok s := by rfl
  rw [row, execReadBackReturn, atFn, if_pos fn]

/-- The return of a descriptor's only read-back finishes it, with FLUSH_FAILED where it failed (R92, R95). -/
theorem State.flushReturn_exec? {s : State} {f q : Nat} {i : Word} {e : Exec} {r : ReadBack} (ok : Bool)
    (found : s.exec? f q i = some e) (flushing : e.phase = .flushing) (only : e.readBacks = [r]) (issued : r.issued = true) :
    (s.flushReturn f q i ok).exec? f q i = some (if ok then { e with phase := .finished, readBacks := [] }
      else { e with phase := .finished, status := stFlushFailed, detail := 0, readBacks := [] }) := by
  rw [State.flushReturn, State.exec?_onExec _ found]
  · cases ok <;> simp [flushing, only, issued]
  · intro e
    split
    · rfl
    · split
      · rfl
      · split <;> rfl

end Sys2Proof.Machine

namespace Sys2Proof

open Machine

/-- Settles O9: a channel's oldest write is issued; a read-back is issued, and its return finishes the descriptor. -/
theorem ledgersAndReadBacks : Obligations.LedgersAndReadBacks := by
  refine ⟨?issue, ?read, ?back⟩
  case issue =>
    intro s f c w ws fn channel unlogged silent data
    refine ⟨_, exec_ledgerIssue fn channel, ?_⟩
    rw [State.issueHost_plain _ _ unlogged silent data]
    exact ⟨State.ledger_set ws fn channel, rfl⟩
  case read =>
    intro s f q i e x a fn found queue flushing only empty
    exact ⟨_, exec_readBack_pcie fn found queue flushing only empty, rfl, State.issueReadBack_exec? found only⟩
  case back =>
    intro s f q i e r fn found flushing only issued
    exact ⟨⟨_, exec_readBackReturn q i true fn, State.flushReturn_exec? true found flushing only issued⟩,
      ⟨_, exec_readBackReturn q i false fn, State.flushReturn_exec? false found flushing only issued⟩⟩

end Sys2Proof
end

section
/-!
Completion and arrival entries (R90, R107 to R109, R115 to R121): writes into a ring in host memory, and what follows them.
-/

namespace Sys2Proof.Machine

/-! ### Writes to host memory leave the queues -/

/-- Queues, descriptors in execution and arrival entries are the same. -/
structure State.SameWork (s t : State) : Prop where
  queues : t.queues = s.queues
  execs : t.execs = s.execs
  arrivals : t.arrivals = s.arrivals

theorem State.SameWork.trans {s t u : State} (h : s.SameWork t) (k : t.SameWork u) : s.SameWork u :=
  ⟨k.queues.trans h.queues, k.execs.trans h.execs, k.arrivals.trans h.arrivals⟩

theorem State.SameWork.foldl {α : Type} {f : State → α → State} (h : ∀ t x, State.SameWork t (f t x)) (l : List α)
    (s : State) : s.SameWork (l.foldl f s) :=
  List.foldlRecOn (motive := fun t => s.SameWork t) l f ⟨rfl, rfl, rfl⟩ fun t ht x _ => ht.trans (h t x)

theorem State.dirtyPage_work (s : State) (f pg : Nat) : s.SameWork (s.dirtyPage f pg) := by
  unfold State.dirtyPage
  extract_lets p n tail e a advanced
  split
  case isTrue => exact ⟨rfl, rfl, rfl⟩
  case isFalse =>
    split
    case isTrue => constructor <;> simp [State.raise, State.risen, State.request]
    case isFalse => constructor <;> simp [advanced]

theorem State.logDirty_work (s : State) (f a n : Nat) : s.SameWork (s.logDirty f a n) := by
  unfold State.logDirty
  split
  · exact .foldl (fun t i => State.dirtyPage_work t f _) _ s
  · exact ⟨rfl, rfl, rfl⟩

theorem State.sendMsix_work (s : State) (f v : Nat) : s.SameWork (s.sendMsix f v) := by
  unfold State.sendMsix
  dsimp only
  split <;> exact ⟨rfl, rfl, rfl⟩

theorem State.issueHost_work (s : State) (f : Nat) (w : HostWrite) : s.SameWork (s.issueHost f w) := by
  unfold State.issueHost
  extract_lets sent logged
  have hSent : s.SameWork sent := by
    unfold sent
    split <;> exact ⟨rfl, rfl, rfl⟩
  have hLogged : s.SameWork logged := by
    unfold logged
    split
    · exact hSent.trans (State.logDirty_work _ _ _ _)
    · exact hSent
  split
  · exact hLogged.trans (State.sendMsix_work _ _ _)
  · exact hLogged

theorem State.hostWrite_work (s : State) (f : Nat) (c : Option Nat) (w : HostWrite) : s.SameWork (s.hostWrite f c w) := by
  unfold State.hostWrite
  split
  · exact ⟨rfl, rfl, rfl⟩
  · exact State.issueHost_work s f w

/-- Writes of a descriptor to host memory, in order. -/
def State.hostWrites (s : State) (f : Nat) (c : Option Nat) (ws : List HostWrite) : State :=
  ws.foldl (fun s w => s.hostWrite f c w) s

theorem State.hostWrites_work (s : State) (f : Nat) (c : Option Nat) (ws : List HostWrite) :
    s.SameWork (s.hostWrites f c ws) := .foldl (fun t w => State.hostWrite_work t f c w) ws s

/-- Through a ledger channel they stand behind what the channel holds (R90). -/
theorem State.hostWrites_ledger {f c : Nat} (ws : List HostWrite) {s : State} {l : List HostWrite} (fn : f < s.fns.length)
    (channel : (s.fn f).ledgers[c]? = some l) : ((s.hostWrites f (some c) ws).fn f).ledgers[c]? = some (l ++ ws) := by
  induction ws generalizing s l with
  | nil => rw [List.append_nil]; exact channel
  | cons w ws ih =>
    have fn' : f < (s.hostWrite f (some c) w).fns.length := (length_modifyAt ..).symm ▸ fn
    have channel' : ((s.hostWrite f (some c) w).fn f).ledgers[c]? = some (l ++ [w]) := by
      rw [State.hostWrite, State.fn_onFn _ _ _ _ fn, if_pos rfl, getElem?_modifyAt, if_pos rfl, channel, Option.map_some]
    rw [List.append_cons]
    exact ih fn' channel'

/-! ### Entries of a ring in host memory (R116, R118) -/

/-- Bytes 4 to 63 of an entry, then bytes 0 to 3 with the message that follows them (R98, R116). -/
def Queue.entryWrites (x : Queue) (i : Word) (bs : List Byte) (vector : Option Nat) : List HostWrite :=
  [⟨x.base + BitVec.ofNat 64 (ringOffset x.log2 i + 4), bs.drop 4, none, true⟩,
    ⟨x.base + BitVec.ofNat 64 (ringOffset x.log2 i), bs.take 4, vector, true⟩]

theorem ofNat_toNat_add (a : Word64) (n : Nat) : BitVec.ofNat 64 (a.toNat + n) = a + BitVec.ofNat 64 n := by
  rw [BitVec.ofNat_add, BitVec.ofNat_toNat, BitVec.setWidth_eq]

theorem State.writeEntry_host {x : Queue} (s : State) (f q : Nat) (i : Word) (bs : List Byte) (v : Option Nat)
    (host : x.isLocal = false) :
    s.writeEntry f q x i bs v = (true, s.hostWrites f x.ledger (x.entryWrites i bs v)) := by
  simp only [State.writeEntry, host, Bool.false_eq_true, if_false, State.hostWrites, Queue.entryWrites, List.foldl_cons,
    List.foldl_nil, Nat.add_assoc, ofNat_toNat_add]

/-! ### Completions -/

/-- A submission queue whose completion of an index has been written: head passes every index completed in a row (R109). -/
def Queue.completed (x : Queue) (i : Word) : Queue :=
  let h := headAfter 65536 x.head (i :: x.done)
  { x with head := h, done := (i :: x.done).filter fun j => (j - h).toNat < 2 ^ 31 }

/-- Steps counted for collation change the dies alone. -/
theorem State.countSteps_work (s : State) (d : Nat) (e : Exec) :
    s.SameWork (s.countSteps d e) ∧ (s.countSteps d e).fns = s.fns := by
  unfold State.countSteps
  dsimp only
  split <;> exact ⟨⟨rfl, rfl, rfl⟩, rfl⟩

/-- A finished descriptor's completion without a message, on a queue in host memory: the descriptor is taken off, its entry
written, and the queue moves on. -/
theorem exec_completionWrite_host {s : State} {f q : Nat} {i : Word} {e : Exec} {x : Queue} (fn : f < s.fns.length)
    (found : s.exec? f q i = some e) (queue : s.queue f q = some x) (finished : e.phase = .finished)
    (host : x.isLocal = false) (silent : dIrq e.desc = false) :
    ∃ t u : State, t = { s with execs := s.execs.filter fun e => !e.is f q i } ∧ t.SameWork u ∧
      u.fns = (t.hostWrites f x.ledger (x.entryWrites i (completionBytes e (s.time x.owner)) none)).fns ∧
      exec (.completionWrite f q i) s = .next (u.onQueue f q fun y => y.completed i) := by
  have row : exec (.completionWrite f q i) s = execCompletionWrite f q i s := by rfl
  have written (t : State) (ws : List HostWrite) : t.SameWork ((t.hostWrites f x.ledger ws).count (queuePage x.owner f)
      Ctr.queuePageCompletionsWritten) := (State.hostWrites_work t f x.ledger ws).trans ⟨rfl, rfl, rfl⟩
  have steps (t : State) := State.countSteps_work t x.owner e
  refine ⟨_, _, rfl, (written _ _).trans (steps _).1, (steps _).2, ?_⟩
  simp only [row, execCompletionWrite, atFn, if_pos fn, found, queue, finished, silent,
    State.writeEntry_host _ _ _ _ _ _ host]
  rfl

/-! ### Arrival entries -/

/-- An entry that is put where there is space for it advances tail, and the mark of lost entries goes with it (R118). -/
theorem State.putArrival_host {s : State} {f q : Nat} {x : Queue} (e : ArrivalEntry) (queue : s.queue f q = some x)
    (host : x.isLocal = false) : (s.putArrival f q x e).arrivals = s.arrivals ∧
      ((s.putArrival f q x e).queue f q).map (fun y => (y.tail, y.lost, y.dropping)) = some (x.tail + 1, false, false) := by
  have work (ws : List HostWrite) := State.hostWrites_work s f x.ledger ws
  have present (ws : List HostWrite) : (s.hostWrites f x.ledger ws).queue f q = some x :=
    (State.queue_congr (work ws).queues f q).trans queue
  simp only [State.putArrival, State.writeEntry_host _ _ _ _ _ _ host, State.onQueue_eq _ (present _)]
  exact ⟨(work _).arrivals, by simp⟩

/-- The oldest entry for a RUNNING arrival queue that has space and holds none is put. -/
theorem exec_arrivalEntryWrite {s : State} {f q d : Nat} {e : ArrivalEntry} {x : Queue} (fn : f < s.fns.length)
    (queue : s.queue f q = some x) (arrival : x.arrival = true) (running : x.state = .running) (free : x.held = none)
    (space : x.hasSpace = true) (oldest : s.arrivals.find? (fun a => a.2.1 == f && a.2.2.1 == q) = some (d, f, q, e)) :
    exec (.arrivalEntryWrite f q) s =
      .next (({ s with arrivals := s.arrivals.erase (d, f, q, e) } : State).putArrival f q x e) := by
  have row : exec (.arrivalEntryWrite f q) s = execArrivalEntryWrite f q s := by rfl
  have enabled : (x.state == .error || x.state == .disabled) = false := by rw [running]; rfl
  rw [row, execArrivalEntryWrite, atFn, if_pos fn, State.deliverArrival, queue]
  split
  case h_1 none => cases none
  case h_2 submission => cases submission; cases arrival
  case h_3 y _ same =>
    cases same
    simp only [free, oldest, enabled, space, if_true, Bool.false_eq_true, if_false]

/-- A dropped entry marks the next one written (R121). -/
theorem State.queue_dropArrival {s : State} {d f q : Nat} {x : Queue} (e : ArrivalEntry) (queue : s.queue f q = some x) :
    (s.dropArrival d f q e).queue f q = some { x with lost := true } := by
  have present : ((s.count (queuePage d f) Ctr.queuePageArrivalsDropped).releaseSlot e.slot).queue f q = some x :=
    (State.queue_congr (State.releaseSlot_queues _ _).1 f q).trans queue
  rw [State.dropArrival, State.onQueue_eq _ present, State.queue_setQueue_self]

/-- An entry held past its wait is dropped. -/
theorem exec_arrivalWaitExpiry {s : State} {f q : Nat} {e : ArrivalEntry} {x : Queue} (fn : f < s.fns.length)
    (queue : s.queue f q = some x) (held : x.held = some e) (full : x.hasSpace = false) (limited : x.wait ≠ 0xFFFF) :
    exec (.arrivalWaitExpiry f q) s =
      .next ((s.setQueue f q { x with held := none, dropping := true }).dropArrival x.owner f q e) := by
  have row : exec (.arrivalWaitExpiry f q) s = execArrivalWaitExpiry f q s := by rfl
  simp only [row, execArrivalWaitExpiry, atFn, if_pos fn, queue, held, full, beq_eq_false_iff_ne.mpr limited, Bool.or_self,
    Bool.false_eq_true, if_false]

end Sys2Proof.Machine

namespace Sys2Proof

open Machine

/-- Settles O11: an entry's two writes leave the queues, and then the queue of the completion or arrival moves on. -/
theorem completionsAndArrivalsAreWritten : Obligations.CompletionsAndArrivalsAreWritten := by
  refine ⟨?completion, ?arrival, ?expiry⟩
  case completion =>
    intro s f q i e x c fn _ found queue finished host bound low channels silent
    obtain ⟨t, u, taken, work, fns, row⟩ := exec_completionWrite_host fn found queue finished host silent
    have present : u.queue f q = some x := by
      rw [State.queue_congr work.queues, taken]
      exact queue
    have channel : (t.fn f).ledgers[c]? = some (((s.fn f).ledgers[c]?).getD []) := by
      have listed := List.getElem?_eq_getElem (l := (s.fn f).ledgers) (i := c) (channels ▸ low)
      rw [taken, listed]
      exact listed
    refine ⟨_, row, ?_⟩
    rw [State.onQueue_eq _ present]
    refine ⟨?_, ?_, ?_⟩
    · rw [State.exec?, State.setQueue_execs, work.execs, taken]
      exact State.exec?_filter s f q i
    · rw [State.queue_setQueue_self]
      rfl
    · rw [State.fn_congr ((State.setQueue_fns ..).trans fns), bound]
      exact State.hostWrites_ledger _ (taken ▸ fn) channel
  case arrival =>
    intro s f q d e x fn _ queue arrival host running free space oldest
    exact ⟨_, exec_arrivalEntryWrite fn queue arrival running free space oldest, State.putArrival_host e queue host⟩
  case expiry =>
    intro s f q e x fn _ queue held full limited
    exact ⟨_, exec_arrivalWaitExpiry fn queue held full limited,
      State.queue_dropArrival e (State.queue_setQueue_self ..)⟩

end Sys2Proof
end

section
/-!
Admin commands (R143 to R145): what beginning a descriptor and settling its queue leave, and the commands over queues.
-/

namespace Sys2Proof.Machine

/-! ### Beginning and settling (R124, R127) -/

theorem State.nextSlot_queue {s : State} {f q : Nat} {x : Queue} {u : Slot} (h : s.nextSlot f q = some (x, u)) :
    s.queue f q = some x := by
  unfold State.nextSlot at h
  split at h
  · cases h
  · next y present =>
    split at h
    · cases h
    · split at h
      · cases h
        exact present
      · cases h

/-- Settling a queue stops it or leaves the state. -/
theorem State.settle_cases (s : State) (f q : Nat) :
    s.settle f q = s ∨ ∃ o i, s.settle f q = s.stopQueue f q causeMalformed o i := by
  unfold State.settle
  split
  · exact .inl rfl
  · split
    · exact .inl rfl
    · split
      · exact .inl rfl
      · split
        · exact .inl rfl
        · exact .inr ⟨_, _, rfl⟩
        · split
          · exact .inr ⟨_, _, rfl⟩
          · exact .inl rfl

/-- The settling of an admin queue leaves descriptors in execution, functions, and every other queue. -/
theorem State.settle_admin (s : State) (f : Nat) :
    (s.settle f 0).execs = s.execs ∧ (s.settle f 0).fns = s.fns ∧
      ∀ r, 0 < r → r < 65536 → (s.settle f 0).queue f r = s.queue f r := by
  rcases s.settle_cases f 0 with same | ⟨o, i, stops⟩
  · rw [same]
    exact ⟨rfl, rfl, fun _ _ _ => rfl⟩
  · rw [stops]
    have keeps := s.stopQueue_keeps f 0 causeMalformed o i
    refine ⟨keeps.execs, keeps.fns, fun r pos hr => State.queue_stopQueue_ne _ _ _ (by decide) hr fun e => ?_⟩
    exact Nat.ne_of_gt pos (congrArg Prod.snd e)

/-- A slot that begins takes the next index of its queue, and its descriptor enters execution. -/
theorem State.beginSlot_exec? {s : State} {f q : Nat} (x : Queue) {u : Slot} (free : s.exec? f q u.index = none) :
    (s.beginSlot f q x u).exec? f q u.index = some { fn := f, q := q, index := u.index, desc := u.bytes } := by
  rw [State.exec?] at free
  simp only [State.beginSlot, State.exec?, State.count_execs, State.setQueue_execs, List.find?_append, free]
  simp [Exec.is]

theorem State.share_beginSlot (s : State) (f q : Nat) (x : Queue) (u : Slot) (g n : Nat) (h : Fn → Nat) :
    (s.beginSlot f q x u).share g n h = s.share g n h := rfl

/-- The admin queue's slot begins: every other queue is the same. -/
theorem State.queue_beginSlot {s : State} {f r : Nat} (x : Queue) (u : Slot) (pos : 0 < r) (hr : r < 65536) :
    (s.beginSlot f 0 x u).queue f r = s.queue f r :=
  State.queue_setQueue_ne _ (by decide) hr fun e => Nat.ne_of_gt pos (congrArg Prod.snd e)

/-- A value put at a key that is present leaves the list of keys. -/
theorem FMap.keys_set {α : Type} {k : Nat} {w : α} (v : α) :
    ∀ {m : List (Nat × α)}, FMap.get? m k = some w → (FMap.set m k v).map Prod.fst = m.map Prod.fst
  | (k', v') :: m, h => by
    rw [FMap.get?] at h
    rw [FMap.set]
    split at h
    · next same => rw [if_pos same, List.map_cons, List.map_cons, same]
    · next other =>
      split at h
      · cases h
      · next above => rw [if_neg other, if_neg above, List.map_cons, List.map_cons, FMap.keys_set v h]

/-- Queues are counted by their keys. -/
theorem State.queueCount_keys (s : State) (f : Nat) :
    s.queueCount f = ((s.queues.map Prod.fst).filter fun k => k / 65536 == f).length := by
  rw [State.queueCount, List.filter_map, List.length_map]
  rfl

theorem State.queueCount_beginSlot {s : State} {f q : Nat} {x : Queue} (u : Slot) (h : s.queue f q = some x) (g : Nat) :
    (s.beginSlot f q x u).queueCount g = s.queueCount g := by
  have keys : (s.beginSlot f q x u).queues.map Prod.fst = s.queues.map Prod.fst := FMap.keys_set _ h
  rw [State.queueCount_keys, keys, State.queueCount_keys]

/-! ### The end of an admin command (R115, R145) -/

theorem State.ended_congr {s t : State} (h : t.execs = s.execs) {f q : Nat} {i : Word} {st r0 r1 : Nat}
    (ended : s.ended f q i st r0 r1) : t.ended f q i st r0 r1 := by
  obtain ⟨e, found, parts⟩ := ended
  exact ⟨e, by rw [State.exec?, h]; exact found, parts⟩

/-- A descriptor in execution without read-backs ends. -/
theorem State.finish_ended {s : State} {f q : Nat} {i : Word} {e : Exec} (st detail r0 r1 : Nat)
    (found : s.exec? f q i = some e) (running : e.phase = .running) (plain : e.readBacks = []) :
    (s.finish f q i st detail r0 r1).ended f q i st r0 r1 := by
  refine ⟨_, State.exec?_onExec _ found ?_, ?_⟩
  · intro e
    split <;> rfl
  · simp [running, plain]

/-- An admin command that is next to begin and ends with a status, by the state that it leaves before it ends: what holds of
that state's functions and other queues holds once the command has ended. -/
theorem State.begins.completes {s t : State} {f : Nat} {x : Queue} {u : Slot} {c : Instr} {mine : List Byte → Bool}
    {act : State → Word → List Byte → State} {st : Nat} {P : State → Prop} (begins : s.begins f 0 x u)
    (fn : f < s.fns.length) (row : exec c s = atFn s f (s.beginAdmin f mine act)) (named : mine u.bytes = true)
    (acts : act (s.beginSlot f 0 x u) u.index u.bytes = t.adminEnd f u.index st)
    (same : t.execs = (s.beginSlot f 0 x u).execs)
    (post : ∀ v : State, v.fns = t.fns → (∀ r, 0 < r → r < 65536 → v.queue f r = t.queue f r) → P v) :
    Completes c s fun v => v.ended f 0 u.index st 0 0 ∧ P v := by
  obtain ⟨next, formed, free⟩ := begins
  have begun : s.beginAdmin f mine act = (t.adminEnd f u.index st).settle f 0 := by
    simp only [State.beginAdmin, State.beginAs, next, named, formed, acts, Bool.not_true, Bool.false_eq_true, if_false,
      if_true]
  obtain ⟨execs, fns, queues⟩ := State.settle_admin (t.adminEnd f u.index st) f
  have found := State.beginSlot_exec? x free
  rw [State.exec?, ← same] at found
  refine ⟨_, row.trans (by rw [atFn, if_pos fn, begun]), State.ended_congr execs ?_, post _ fns queues⟩
  exact State.finish_ended st 0 0 0 found rfl rfl

end Sys2Proof.Machine
end

section
/-!
The admin commands over queues (R91, R120, R136, R145, R148, R149).
-/

namespace Sys2Proof.Machine

theorem exec_createQueue (s : State) (f : Nat) : exec (.createQueue f) s =
    atFn s f (s.beginAdmin f (fun d => dOpcode d == 0x01) fun s i d => s.createQueue f i d) := by rfl

theorem exec_destroyQueue (s : State) (f : Nat) : exec (.destroyQueue f) s =
    atFn s f (s.beginAdmin f (fun d => dOpcode d == 0x02) fun s i d => s.destroyQueue f i d) := by rfl

theorem exec_setArrivalRoute (s : State) (f : Nat) : exec (.setArrivalRoute f) s =
    atFn s f (s.beginAdmin f (fun d => dOpcode d == 0x03) fun s i d => s.setArrivalRoute f i d) := by rfl

theorem exec_setFunctionMode (s : State) (f : Nat) : exec (.setFunctionMode f) s =
    atFn s f (s.beginAdmin f (fun d => dOpcode d == 0x08) fun s i d => s.setFunctionMode f i d) := by rfl

/-- A field of 16 bits. -/
theorem bits16_lt (x : Nat) {lo : Nat} : bits x (lo + 15) lo < 65536 := by
  have width : lo + 15 + 1 - lo = 16 := by omega
  rw [bits, width]
  exact Nat.mod_lt _ (by decide)

/-! ### CREATE_QUEUE -/

/-- The arguments of a CREATE_QUEUE that R148 lets through: a number other than 0 that is ABSENT, a size, an owner and a
vector in range, and an aligned base. -/
structure State.CreatesQueue (s : State) (f : Nat) (d : List Byte) : Prop where
  number : 0 < bits (arg1 d) 15 0
  least : 4 ≤ bits (arg1 d) 24 20
  most : bits (arg1 d) 24 20 ≤ 16
  owner : bits (arg1 d) 18 16 < s.dies.length
  vector : bits (arg1 d) 42 32 < vectorCount f
  absent : s.queue f (bits (arg1 d) 15 0) = none
  aligned : arg0 d % min 4096 (64 * 2 ^ bits (arg1 d) 24 20) = 0

theorem State.CreatesQueue.range {s : State} {f : Nat} {d : List Byte} (h : s.CreatesQueue f d) :
    ¬ (bits (arg1 d) 15 0 = 0 ∨ bits (arg1 d) 24 20 < 4 ∨ 16 < bits (arg1 d) 24 20 ∨
      s.dies.length ≤ bits (arg1 d) 18 16 ∨ vectorCount f ≤ bits (arg1 d) 42 32) := by
  obtain ⟨number, least, most, owner, vector, _, _⟩ := h
  omega

/-- The queue in host memory that the arguments describe (R145). -/
def describedQueue (d : List Byte) : Queue where
  arrival := bit (arg1 d) 25
  isLocal := false
  owner := bits (arg1 d) 18 16
  ledger := if bit (arg1 d) 27 then some (bits (arg1 d) 29 28) else none
  log2 := bits (arg1 d) 24 20
  base := BitVec.ofNat 64 (arg0 d)
  vector := bits (arg1 d) 42 32
  intEn := bit (arg1 d) 43
  wait := bits (arg2 d) 15 0

section CreateQueue

variable {s : State} {f : Nat} {d : List Byte} (i : Word) (h : s.CreatesQueue f d)

include h

/-- A local queue bound to a ledger channel is refused (R91). -/
theorem State.createQueue_refused (ring : bit (arg1 d) 26 = true) (bound : bit (arg1 d) 27 = true) :
    s.createQueue f i d = s.adminEnd f i stLedgerNotHost := by
  simp [State.createQueue, if_neg h.range, h.absent, h.aligned, ring, bound]

/-- A queue in host memory is made where the function may hold one more (R528). -/
theorem State.createQueue_made (host : bit (arg1 d) 26 = false) (room : s.queueCount f < s.share f 65536 Fn.queues) :
    s.createQueue f i d = (s.setQueue f (bits (arg1 d) 15 0) (describedQueue d)).adminEnd f i stSuccess := by
  simp [State.createQueue, if_neg h.range, h.absent, h.aligned, host, Nat.not_le.mpr room, describedQueue]

end CreateQueue

/-! ### The other commands over queues -/

/-- A queue without receipts is taken off the map alone. -/
theorem State.removeQueue_plain {s : State} {f q : Nat} {y : Queue} (queue : s.queue f q = some y)
    (plain : y.receipts = []) : s.removeQueue f q = { s with queues := FMap.erase s.queues (qKey f q) } := by
  simp only [State.removeQueue, queue, plain, List.foldl_nil]

/-- A DISABLED queue is destroyed (R149). -/
theorem State.destroyQueue_disabled {s : State} {f : Nat} {d : List Byte} {y : Queue} (i : Word)
    (number : 0 < bits (arg1 d) 15 0) (queue : s.queue f (bits (arg1 d) 15 0) = some y) (disabled : y.state = .disabled) :
    s.destroyQueue f i d = (s.removeQueue f (bits (arg1 d) 15 0)).adminEnd f i stSuccess := by
  simp [State.destroyQueue, queue, disabled, Nat.ne_of_gt number]

/-- An arrival type is routed to an arrival queue (R120). -/
theorem State.setArrivalRoute_routed {s : State} {f : Nat} {d : List Byte} {y : Queue} (i : Word)
    (least : 3 ≤ bits (arg1 d) 7 0) (most : bits (arg1 d) 7 0 ≤ 7) (number : 0 < bits (arg1 d) 31 16)
    (queue : s.queue f (bits (arg1 d) 31 16) = some y) (arrival : y.arrival = true) : s.setArrivalRoute f i d =
      (s.onFn f fun x => { x with routes := FMap.set x.routes (bits (arg1 d) 7 0) (bits (arg1 d) 31 16) }).adminEnd f i
        stSuccess := by
  have range : ¬ (bits (arg1 d) 7 0 < 3 ∨ 7 < bits (arg1 d) 7 0) := by omega
  simp [State.setArrivalRoute, if_neg range, Nat.ne_of_gt number, queue, arrival]

/-- The PF sets the mode of a function in which nothing is in execution (R136). -/
theorem State.setFunctionMode_set {s : State} {d : List Byte} (i : Word) (fn : bits (arg1 d) 4 0 ≤ 16)
    (idle : s.fnBusy (bits (arg1 d) 4 0) = false) : s.setFunctionMode 0 i d =
      (s.onFn (bits (arg1 d) 4 0) fun x => { x with service := bit (arg1 d) 8 }).adminEnd 0 i stSuccess := by
  simp [State.setFunctionMode, Nat.not_lt.mpr fn, idle]

/-- The PF's admin command in execution makes no function busy (R136). -/
theorem State.fnBusy_beginSlot (s : State) (x : Queue) (u : Slot) (g : Nat) :
    (s.beginSlot 0 0 x u).fnBusy g = s.fnBusy g := by
  have own : (0 == g && !(g == 0 && true)) = false := by cases g <;> rfl
  simp only [State.fnBusy, State.beginSlot, State.count_execs, State.setQueue_execs, List.any_append, List.any_cons,
    List.any_nil, beq_self_eq_true, own, Bool.or_false]

end Sys2Proof.Machine

namespace Sys2Proof

open Machine

/-- Settles O13: each command ends in the state that its equation gives, on the state that its beginning leaves. -/
theorem queueAdminCommands : Obligations.QueueAdminCommands := by
  intro s f x u _ fn begins
  have queue : s.queue f 0 = some x := State.nextSlot_queue begins.1
  refine ⟨?create, ?destroy, ?route, ?mode⟩
  case create =>
    rintro _ _ _ opcode rfl rfl rfl number least most owner vector absent aligned
    have named : (dOpcode u.bytes == 0x01) = true := beq_iff_eq.mpr opcode
    have low : bits (arg1 u.bytes) 15 0 < 65536 := bits16_lt _ (lo := 0)
    have before : (s.beginSlot f 0 x u).queue f (bits (arg1 u.bytes) 15 0) = none :=
      (State.queue_beginSlot x u number low).trans absent
    have creates : (s.beginSlot f 0 x u).CreatesQueue f u.bytes :=
      ⟨number, least, most, owner, vector, before, aligned⟩
    split
    case isTrue ring =>
      intro bound
      refine begins.completes fn (exec_createQueue s f) named (State.createQueue_refused _ creates ring bound) rfl ?_
      exact fun v _ queues => (queues _ number low).trans before
    case isFalse host =>
      intro room
      have room' : (s.beginSlot f 0 x u).queueCount f < (s.beginSlot f 0 x u).share f 65536 Fn.queues := by
        rwa [State.queueCount_beginSlot u queue, State.share_beginSlot]
      refine begins.completes fn (exec_createQueue s f) named
        (State.createQueue_made _ creates (Bool.not_eq_true _ ▸ host) room') rfl ?_
      exact fun v _ queues => (queues _ number low).trans (State.queue_setQueue_self ..)
  case destroy =>
    rintro _ y opcode rfl number present disabled plain wf
    have low : bits (arg1 u.bytes) 15 0 < 65536 := bits16_lt _ (lo := 0)
    have before := (State.queue_beginSlot (s := s) (f := f) x u number low).trans present
    have erased := State.removeQueue_plain before plain
    refine begins.completes fn (exec_destroyQueue s f) (beq_iff_eq.mpr opcode)
      (State.destroyQueue_disabled _ number before disabled) (by rw [erased]) fun v _ queues => ?_
    rw [queues _ number low, erased]
    exact (FMap.get?_erase _ (FMap.wf_set _ _ wf)).trans (if_pos rfl)
  case route =>
    rintro _ _ y opcode rfl rfl least most number present arrival
    have low : bits (arg1 u.bytes) 31 16 < 65536 := bits16_lt _ (lo := 16)
    have before := (State.queue_beginSlot (s := s) (f := f) x u number low).trans present
    refine begins.completes fn (exec_setArrivalRoute s f) (beq_iff_eq.mpr opcode)
      (State.setArrivalRoute_routed _ least most number before arrival) rfl fun v fns _ => ?_
    have begun : f < (s.beginSlot f 0 x u).fns.length := fn
    rw [State.fn_congr fns, State.fn_onFn _ _ _ _ begun, if_pos rfl]
    exact FMap.get?_set_self _ _ _
  case mode =>
    rintro _ opcode rfl rfl low listed idle
    refine begins.completes fn (exec_setFunctionMode s 0) (beq_iff_eq.mpr opcode)
      (State.setFunctionMode_set _ low ((State.fnBusy_beginSlot s x u _).trans idle)) rfl fun v fns _ => ?_
    have begun : bits (arg1 u.bytes) 4 0 < (s.beginSlot 0 0 x u).fns.length := listed
    rw [State.fn_congr fns, State.fn_onFn _ _ _ _ begun, if_pos rfl]

end Sys2Proof
end

section
/-!
Staging, copies and NOP (R92, R114, R364 to R366): a descriptor of a submission queue begins, a copy in execution runs to
its end, and the descriptor ends with the bytes moved.
-/

namespace Sys2Proof.Machine

/-- Data of the length that is read for stays as it is. -/
theorem fitTo_of_length {n : Nat} {bs : List Byte} (h : bs.length = n) : fitTo n bs = bs := by
  rw [fitTo, ← h, List.take_length, Nat.sub_self, zeros, List.replicate_zero, List.append_nil]

/-! ### Beginning a descriptor (R124) -/

/-- A queue whose slot `u` has begun. -/
def Queue.begun (x : Queue) (u : Slot) : Queue :=
  { x with next := x.next + 1, slots := x.slots.filter fun v => v.index != u.index }

theorem State.queue_beginSlot_self (s : State) (f q : Nat) (x : Queue) (u : Slot) :
    (s.beginSlot f q x u).queue f q = some (x.begun u) := State.queue_setQueue_self ..

/-- The register that holds a die's endpoint ID is no counter. -/
theorem State.endpointReg_beginSlot {s : State} (c : s.canonical) (f q : Nat) (x : Queue) (u : Slot) (d : Nat) :
    (s.beginSlot f q x u).reg ⟨d, .router0, 0⟩ 0x100 = s.reg ⟨d, .router0, 0⟩ 0x100 :=
  Area.same_reg (State.beginSlot_within.areas .ownRegs (by decide) c) rfl _ (by decide) (by decide)

theorem State.endpoint_beginSlot {s : State} (c : s.canonical) (f q : Nat) (x : Queue) (u : Slot) (d : Nat) :
    (s.beginSlot f q x u).endpoint d = s.endpoint d := by
  rw [State.endpoint, State.endpointReg_beginSlot c, State.endpoint]

theorem State.hasEndpoint_beginSlot {s : State} (c : s.canonical) (f q : Nat) (x : Queue) (u : Slot) (d : Nat) :
    (s.beginSlot f q x u).hasEndpoint d = s.hasEndpoint d := by
  rw [State.hasEndpoint, State.endpointReg_beginSlot c, State.hasEndpoint]

/-- The die that an endpoint ID names stays the same. -/
theorem State.dieOf_beginSlot {s : State} (c : s.canonical) (f q : Nat) (x : Queue) (u : Slot) (n : Nat) :
    (s.beginSlot f q x u).dieOf n = s.dieOf n := by
  have dies : (s.beginSlot f q x u).dieList = s.dieList := rfl
  simp only [State.dieOf, dies, State.endpoint_beginSlot c, State.hasEndpoint_beginSlot c]

/-- A command of one opcode runs for the descriptor of that opcode that is next to begin, and then settles its queue. -/
theorem State.begins.runs {s : State} {f q op : Nat} {x : Queue} {u : Slot} {c : Instr}
    {free : Queue → List Byte → Bool} {act : State → Queue → Word → List Byte → State}
    (begins : s.begins f q x u) (fn : f < s.fns.length)
    (row : exec c s = atFn s f (s.beginAs f q (fun d => q != 0 && dOpcode d == op) free act)) (pos : q ≠ 0)
    (opcode : dOpcode u.bytes = op) (room : free x u.bytes = true) :
    exec c s = .next ((act (s.beginSlot f q x u) x u.index u.bytes).settle f q) := by
  obtain ⟨next, formed, _⟩ := begins
  have named : (q != 0 && dOpcode u.bytes == op) = true := by simp [pos, opcode]
  rw [row, atFn, if_pos fn, State.beginAs, next]
  simp only [named, formed, room, Bool.not_true, Bool.false_eq_true, if_false, if_true]

/-- Settling a queue leaves descriptors in execution, memory, and what was sent. -/
theorem State.settle_keeps {s : State} (c : s.canonical) (f q : Nat) :
    (s.settle f q).execs = s.execs ∧ (s.settle f q).mem = s.mem ∧ (s.settle f q).outbox = s.outbox := by
  have within : Within 1160 s (s.settle f q) := State.settle_within
  exact ⟨within.areas .descriptors (by decide) c, within.areas .memory (by decide) c,
    within.areas .outbox (by decide) c⟩

/-! ### A copy in execution that runs to its end (R114, R364) -/

/-- A STAGE_OUT with FLUSH is given the read-back of the last bytes that it wrote (R92). -/
def State.awaitReadBack (s : State) (f q : Nat) (i : Word) (b : List Byte) : State :=
  s.onExec f q i fun e => { e with
    readBacks := [⟨.pcie, (dDst b + BitVec.ofNat 64 (dLength b - 1)) &&& ~~~ 63#64, false⟩] }

/-- `n` bytes of host memory are read, and the data held with the descriptor in execution (R114). -/
def State.holdData (s : State) (f q : Nat) (i : Word) (a : Word64) (n : Nat) (data : List Byte) : State :=
  (s.emit (.hostRead f a n)).onExec f q i fun e => { e with data := data }

theorem State.exec?_holdData {s : State} {f q : Nat} {i : Word} {e : Exec} (a : Word64) (n : Nat)
    (data : List Byte) (found : s.exec? f q i = some e) :
    (s.holdData f q i a n data).exec? f q i = some { e with data := data } :=
  State.exec?_onExec (s := s.emit (.hostRead f a n)) _ found fun _ => rfl

theorem State.holdData_canonical {s : State} (c : s.canonical) (f q : Nat) (i : Word) (a : Word64) (n : Nat)
    (data : List Byte) : (s.holdData f q i a n data).canonical := c

section RunCopy

variable {s t : State} {f q die m : Nat} {i : Word} {e : Exec} {x : Queue} {b : List Byte}
  (found : s.exec? f q i = some e) (queue : s.queue f q = some x) (desc : e.desc = b) (fresh : e.moved = 0)

include found queue desc fresh

theorem State.runCopy_in (opcode : dOpcode b = 0x10) (home : s.dieOf (gaEndpoint (dDst b)) = some die)
    (moves : State.copyIn die f (gaOffset (dDst b)) e.data (dLength b / 1024 + 4) 0 s = (.done m, t)) :
    s.runCopy f q i = t.finish f q i stSuccess 0 m 0 := by
  simp [State.runCopy, found, queue, desc, fresh, opcode, home, moves]

/-- With FLUSH the end waits for the read-back of the last bytes written (R92). -/
theorem State.runCopy_out (opcode : dOpcode b = 0x11) (home : s.dieOf (gaEndpoint (dSrc b)) = some die)
    (moves : State.copyOut die f (gaOffset (dSrc b)) x.ledger (dDst b) (dLength b) (dLength b / 1024 + 4) 0 s =
      (.done m, t)) :
    s.runCopy f q i = (if dFlush b then t.awaitReadBack f q i b else t).finish f q i stSuccess 0 m 0 := by
  simp [State.runCopy, found, queue, desc, fresh, opcode, home, moves, State.awaitReadBack]

theorem State.runCopy_local (opcode : dOpcode b = 0x12) (has : s.hasEndpoint x.owner = true)
    (src : s.endpoint x.owner = gaEndpoint (dSrc b)) (dst : s.endpoint x.owner = gaEndpoint (dDst b))
    (moves : State.copyLocal x.owner f (gaOffset (dSrc b)) (gaOffset (dDst b)) (dLength b) (dLength b / 1024 + 4) 0 s =
      (.done m, t)) :
    s.runCopy f q i = t.finish f q i stSuccess 0 m 0 := by
  simp [State.runCopy, found, queue, desc, fresh, opcode, has, ← src, ← dst, moves]

end RunCopy

/-! ### The end of a descriptor that has done its work (R92, R115) -/

section Ends

variable {s t : State} {f q W : Nat} {i : Word} {e : Exec} (m : Nat) (c : s.canonical) (work : Within W s t)
  (own : W.testBit Area.descriptors.bit = false) (found : s.exec? f q i = some e) (running : e.phase = .running)

include c work own found

/-- Work beside the descriptors in execution leaves each of them in execution. -/
theorem State.exec?_of_within : t.exec? f q i = some e := by
  have execs : t.execs = s.execs := work.areas .descriptors own c
  rw [State.exec?, execs]
  exact found

include running

/-- A descriptor without read-backs whose work is done ends, and its queue settles. -/
theorem State.finish_settle_ended (plain : e.readBacks = []) :
    ((t.finish f q i stSuccess 0 m 0).settle f q).ended f q i stSuccess m 0 ∧
      ((t.finish f q i stSuccess 0 m 0).settle f q).mem = t.mem ∧
      ((t.finish f q i stSuccess 0 m 0).settle f q).outbox = t.outbox := by
  obtain ⟨execs, mem, outbox⟩ := State.settle_keeps (s := t.finish f q i stSuccess 0 m 0) (work.canonical c) f q
  have found' := State.exec?_of_within c work own found
  exact ⟨State.ended_congr execs (State.finish_ended stSuccess 0 m 0 found' running plain), mem, outbox⟩

/-- A STAGE_OUT with FLUSH whose work is done waits for its read-back. -/
theorem State.finish_settle_flushing (b : List Byte) :
    ((((t.awaitReadBack f q i b).finish f q i stSuccess 0 m 0).settle f q).exec? f q i).map Exec.phase =
        some .flushing ∧
      (((t.awaitReadBack f q i b).finish f q i stSuccess 0 m 0).settle f q).outbox = t.outbox := by
  obtain ⟨execs, _, outbox⟩ :=
    State.settle_keeps (s := (t.awaitReadBack f q i b).finish f q i stSuccess 0 m 0) (work.canonical c) f q
  have awaits : (t.awaitReadBack f q i b).exec? f q i = _ :=
    State.exec?_onExec _ (State.exec?_of_within c work own found) fun _ => rfl
  refine ⟨?_, outbox⟩
  rw [State.exec?, execs, ← State.exec?, State.finish, State.exec?_onExec _ awaits]
  · simp [running, stSuccess]
  · intro e
    split <;> rfl

end Ends

/-! ### The rows of the copies and of NOP -/

theorem exec_stageIn (s : State) (f q : Nat) (data : List Byte) : exec (.stageIn f q data) s =
    atFn s f (s.beginAs f q (fun d => q != 0 && dOpcode d == 0x10) (fun _ _ => true) fun s _ i d =>
      (s.holdData f q i (dSrc d) (dLength d) (fitTo (dLength d) data)).runCopy f q i) := by rfl

theorem exec_stageOut (s : State) (f q : Nat) : exec (.stageOut f q) s =
    atFn s f (s.beginAs f q (fun d => q != 0 && dOpcode d == 0x11) (fun _ _ => true)
      fun s _ i _ => s.runCopy f q i) := by rfl

theorem exec_localCopy (s : State) (f q : Nat) : exec (.localCopy f q) s =
    atFn s f (s.beginAs f q (fun d => q != 0 && dOpcode d == 0x12) (fun x _ => decide (s.copiesOn x.owner < 4))
      fun s _ i _ => s.runCopy f q i) := by rfl

theorem exec_nop (s : State) (f q : Nat) : exec (.nop f q) s =
    atFn s f (s.beginAs f q (fun d => q != 0 && dOpcode d == 0x3F) (fun _ _ => true)
      fun s _ i _ => s.finish f q i stSuccess 0 0 0) := by rfl

end Sys2Proof.Machine

namespace Sys2Proof

open Machine

/-- Settles O20: a copy runs on the state that its beginning leaves, keeps the descriptor in execution, and then ends it. -/
theorem copiesMoveTheirBytes : Obligations.CopiesMoveTheirBytes := by
  intro s f q d x u c fn pos begins
  have c' : (s.beginSlot f q x u).canonical := State.beginSlot_within.canonical c
  have ⟨_, _, free⟩ := begins
  have found := State.beginSlot_exec? x free
  have queue := State.queue_beginSlot_self s f q x u
  refine ⟨?stageIn, ?stageOut, ?localCopy, ?nop⟩
  case stageIn =>
    intro data m s2 opcode home length moves
    have row := begins.runs fn (exec_stageIn s f q data) pos opcode rfl
    have home' := (State.dieOf_beginSlot c f q x u _).trans home
    have held := State.exec?_holdData (dSrc u.bytes) data.length data found
    rw [fitTo_of_length length, ← length,
      State.runCopy_in held queue rfl rfl opcode home' (by rw [← length]; exact moves)] at row
    obtain ⟨ended, mem, _⟩ := State.finish_settle_ended m (State.holdData_canonical c' ..)
      (State.copyIn_within.ofPair moves) (by decide) held rfl rfl
    exact ⟨_, row, ended, mem⟩
  case stageOut =>
    intro m s2 opcode home moves
    have row := begins.runs fn (exec_stageOut s f q) pos opcode rfl
    have home' := (State.dieOf_beginSlot c f q x u _).trans home
    rw [State.runCopy_out found queue rfl rfl opcode home' moves] at row
    have work := State.copyOut_within.ofPair moves
    refine ⟨_, row, ?_⟩
    split
    case isTrue => exact (State.finish_settle_flushing m c' work (by decide) found rfl u.bytes).symm
    case isFalse =>
      obtain ⟨ended, _, outbox⟩ := State.finish_settle_ended m c' work (by decide) found rfl rfl
      exact ⟨outbox, ended⟩
  case localCopy =>
    intro m s2 opcode room has src dst moves
    have row := begins.runs fn (exec_localCopy s f q) pos opcode (decide_eq_true room)
    rw [State.runCopy_local found queue rfl rfl opcode ((State.hasEndpoint_beginSlot c ..).trans has)
      ((State.endpoint_beginSlot c ..).trans src) ((State.endpoint_beginSlot c ..).trans dst) moves] at row
    obtain ⟨ended, mem, _⟩ :=
      State.finish_settle_ended m c' (State.copyLocal_within.ofPair moves) (by decide) found rfl rfl
    exact ⟨_, row, ended, mem⟩
  case nop =>
    intro opcode
    obtain ⟨ended, mem, _⟩ := State.finish_settle_ended 0 c' (.refl 0 _) (by decide) found rfl rfl
    exact ⟨_, begins.runs fn (exec_nop s f q) pos opcode rfl, ended, mem⟩

end Sys2Proof
end

section
/-!
Descriptor fetch (R123, R125, R126).
-/

namespace Sys2Proof.Machine

/-- The read of the slot of an index of a ring in host memory. -/
def Queue.hostRead (x : Queue) (f : Nat) (i : Word) : Output :=
  .hostRead f (x.base + BitVec.ofNat 64 (ringOffset x.log2 i)) 64

/-- A queue that is fetching one more slot. -/
def Queue.fetches (x : Queue) (i : Word) : Queue :=
  { x with fetching := x.fetching ++ [i], slots := x.slots.filter fun u => u.index != i }

/-- A queue without slots that keeps the one that it has read. -/
def Queue.keeps (x : Queue) (i : Word) (bs : List Byte) : Queue :=
  { x with fetching := x.fetching.erase i, slots := [⟨i, bs, .current⟩] }

/-- A queue that refetches its stale slot once more. -/
def Queue.refetches (x : Queue) (r : StaleRun) : Queue :=
  { x with stale := some { r with issued := r.issued + 1 }, fetching := x.fetching ++ [r.index] }

/-- A current slot is kept, where no refetches run and no other slot is held (R125). -/
theorem State.slotRead_current {x : Queue} {i : Word} {bs : List Byte} (s : State) (f q : Nat)
    (current : judge x i bs = .current) (fresh : x.stale = none) (empty : x.slots = []) :
    s.slotRead f q x i bs = s.setQueue f q (x.keeps i bs) := by
  have judged : judge { x with fetching := x.fetching.erase i } i bs = .current := current
  simp only [State.slotRead, judged]
  simp [fresh, empty, Queue.keeps]

/-- A queue that does not hold the next slot to begin is settled. -/
theorem State.settle_absent {s : State} {f q : Nat} {x : Queue} (queue : s.queue f q = some x)
    (absent : (x.slots.find? fun t => t.index == x.next) = none) : s.settle f q = s := by
  simp only [State.settle, queue, absent, ite_self]

section Running

variable {s : State} {f q : Nat} {x : Queue} (fn : f < s.fns.length) (queue : s.queue f q = some x)
  (host : x.isLocal = false)

include fn queue host

/-- The lowest index not yet fetched is fetched (R123). -/
theorem exec_descriptorFetch {i : Word} (submission : x.arrival = false) (running : x.state = .running)
    (opened : (s.fn f).phase = .opened) (index : x.fetchIndex = some i) :
    exec (.descriptorFetch f q) s = .next ((s.setQueue f q (x.fetches i)).emit (x.hostRead f i)) := by
  have row : exec (.descriptorFetch f q) s = execDescriptorFetch f q s := by rfl
  simp [row, execDescriptorFetch, atFn, fn, queue, host, submission, running, opened, index, Queue.fetches,
    Queue.hostRead]

/-- What a host read returns is read as a slot, and the queue settles (R125, R127). -/
theorem exec_descriptorFetchReturn {i : Word} {bs : List Byte} (awaited : x.fetching.contains i = true)
    (whole : bs.length = 64) :
    exec (.descriptorFetchReturn f q i bs) s = .next ((s.slotRead f q x i bs).settle f q) := by
  have row : exec (.descriptorFetchReturn f q i bs) s = execDescriptorFetchReturn f q i bs s := by rfl
  simp only [row, execDescriptorFetchReturn, atFn, if_pos fn, fitTo_of_length whole, State.fetchReturn, queue, awaited,
    host, Bool.not_true, Bool.false_eq_true, if_false]

/-- A stale slot is refetched up to 8 times (R126). -/
theorem exec_staleRefetch {r : StaleRun} (running : x.state = .running) (stale : x.stale = some r)
    (more : r.issued < 8) : exec (.staleRefetch f q (r.issued + 1)) s =
      .next (((s.setQueue f q (x.refetches r)).count (queuePage x.owner f) Ctr.queuePageStaleRefetches).emit
        (x.hostRead f r.index)) := by
  have row : exec (.staleRefetch f q (r.issued + 1)) s = execStaleRefetch f q (r.issued + 1) s := by rfl
  simp [row, execStaleRefetch, atFn, fn, queue, host, running, stale, Nat.not_lt.mpr more, Queue.refetches,
    Queue.hostRead]

end Running

end Sys2Proof.Machine

namespace Sys2Proof

open Machine

/-- Settles O10: a fetch and a refetch set the queue and read the slot; a slot kept is not the next to begin, so that the
queue is settled. -/
theorem descriptorsAreFetched : Obligations.DescriptorsAreFetched := by
  intro s f q x fn _ queue submission host running opened
  refine ⟨?fetch, ?back, ?refetch⟩
  case fetch =>
    intro i index
    exact ⟨_, exec_descriptorFetch fn queue host submission running opened index, rfl, State.queue_setQueue_self ..⟩
  case back =>
    intro i bs awaited whole current other fresh empty
    have kept : (s.setQueue f q (x.keeps i bs)).queue f q = some (x.keeps i bs) := State.queue_setQueue_self ..
    have absent : ((x.keeps i bs).slots.find? fun t => t.index == (x.keeps i bs).next) = none := by
      simpa [Queue.keeps] using other
    refine ⟨_, exec_descriptorFetchReturn fn queue host awaited whole, ?_⟩
    rw [State.slotRead_current s f q current fresh empty, State.settle_absent kept absent]
    exact kept
  case refetch =>
    intro r stale more
    exact ⟨_, exec_staleRefetch fn queue host running stale more, rfl, State.queue_setQueue_self ..⟩

end Sys2Proof
end

section
/-!
Disable and enable, STOP_FIFO, and the admin queue (R132 to R134, R137, R141, R142).
-/

namespace Sys2Proof.Machine

/-- A queue that DISABLE stops: fetched descriptors are discarded (R133). -/
def Queue.disables (x : Queue) : Queue := { x with state := .disabling, slots := [], fetching := [], stale := none }

/-- A queue that ENABLE starts at its published head, with the latches of its last stop cleared (R133). -/
def Queue.enables (x : Queue) : Queue :=
  { x with
    state := .running, next := x.head, slots := [], fetching := [], done := [], stale := none, cause := 0, detail := 0
    errIndex := 0 }

/-- Bits 15 to 0 of a word are its remainder by 65,536. -/
theorem bits_low16 (n : Nat) : bits n 15 0 = n % 65536 := by
  simp [bits]

/-! ### DISABLE and ENABLE (R133, R134) -/

section Control

variable {s : State} {f d q : Nat} {x : Queue} {v : Word} (host : s.hostReady) (die : d < s.dies.length)
  (takes : s.takes (queuePage d f)) (queue : s.queue f q = some x) (pos : 0 < q) (names : v.toNat % 65536 = q)
  (owner : x.owner = d) (normal : (s.fn f).service = false)

include host die takes queue pos names owner normal

theorem exec_queueDisable (running : x.state = .running) :
    exec (.queueDisable f d v) s = .next (s.setQueue f q x.disables) := by
  have row : exec (.queueDisable f d v) s = execQueueDisable f d v s := by rfl
  rw [row, execQueueDisable, atDie, if_pos die, State.fromFn_of_hostReady host, State.guarded_of_takes takes]
  simp [bits_low16, names, queue, owner, normal, running, Nat.ne_of_gt pos, Queue.disables]

theorem exec_queueEnable (stopped : x.state = .error ∨ x.state = .disabled) (idle : s.executing f q = false)
    (silent : x.recorded = none) : exec (.queueEnable f d v) s = .next (s.setQueue f q x.enables) := by
  have row : exec (.queueEnable f d v) s = execQueueEnable f d v s := by rfl
  rw [row, execQueueEnable, atDie, if_pos die, State.fromFn_of_hostReady host, State.guarded_of_takes takes]
  have starts : (!(x.state == .error || x.state == .disabled)) = false := by
    rcases stopped with error | disabled
    · rw [error]; rfl
    · rw [disabled]; rfl
  simp only [bits_low16, names, queue, starts]
  simp [owner, normal, idle, silent, Nat.ne_of_gt pos, Queue.enables]

end Control

/-- A DISABLING queue without a descriptor in execution becomes DISABLED. -/
theorem exec_queueDisabled {s : State} {f q : Nat} {x : Queue} (fn : f < s.fns.length) (queue : s.queue f q = some x)
    (disabling : x.state = .disabling) (idle : s.executing f q = false) :
    exec (.queueDisabled f q) s = .next (s.setQueue f q { x with state := .disabled }) := by
  have row : exec (.queueDisabled f q) s = execQueueDisabled f q s := by rfl
  simp [row, execQueueDisabled, atFn, fn, queue, disabling, idle]

/-! ### STOP_FIFO (R142) -/

@[simp] theorem State.emit_outbox (s : State) (o : Output) : (s.emit o).outbox = o :: s.outbox := rfl

/-- The oldest record is returned where none was lost. -/
theorem State.popStop_value {s : State} {p : Page} {r : Word} {rs : List Word}
    (records : FMap.get? s.stops p.addr = some (r :: rs)) (whole : s.stopsLost = []) :
    (s.popStop p).1 = 2 ^ 31 + r.toNat := by
  simp [State.popStop, records, whole, b2n]

/-- The later records stay. -/
theorem State.popStop_rest {s : State} {p : Page} {r : Word} {rs : List Word}
    (records : FMap.get? s.stops p.addr = some (r :: rs)) (wf : FMap.wf s.stops = true) :
    (FMap.get? (s.popStop p).2.stops p.addr).getD [] = rs := by
  simp only [State.popStop, records, Option.getD_some]
  cases rs with
  | nil => simp [FMap.get?_erase _ wf]
  | cons r' rs => simp [FMap.get?_set_self]

/-- Taking a record sends nothing. -/
theorem State.popStop_outbox (s : State) (p : Page) : (s.popStop p).2.outbox = s.outbox := by
  unfold State.popStop
  split <;> rfl

theorem exec_stopFifoRead {s : State} {f d : Nat} (host : s.hostReady) (die : d < s.dies.length)
    (reached : s.answers d = true) (readable : s.readable (queuePage d f) = true) :
    exec (.stopFifoRead f d) s = .next ((s.popStop (queuePage d f)).2.emit
      (.readData f (BitVec.ofNat 64 (s.popStop (queuePage d f)).1))) := by
  have row : exec (.stopFifoRead f d) s = execStopFifoRead f d s := by rfl
  simp [row, execStopFifoRead, atDie, die, State.fromFn_of_hostReady host, reached, readable]

/-! ### The admin queue (R137, R141) -/

/-- A value of ADMIN_CTL that enables a ring of 2^n entries, with vector 0 and INT_EN 0. -/
abbrev adminEnable (n : Nat) : Word := BitVec.ofNat 32 (2 ^ 31 + n * 65536)

/-- What ADMIN_CTL stores of it: its writable bits (R10). -/
abbrev adminStored (n : Nat) : Nat := (adminEnable n).toNat &&& 0xC01F07FF

theorem adminStored_fields {n : Nat} (least : 4 ≤ n) (most : n ≤ 8) :
    bit (adminStored n) 31 = true ∧ bits (adminStored n) 20 16 = n ∧ bits (adminStored n) 10 0 = 0 ∧
      bit (adminStored n) 30 = false := by
  have sizes : n = 4 ∨ n = 5 ∨ n = 6 ∨ n = 7 ∨ n = 8 := by omega
  rcases sizes with rfl | rfl | rfl | rfl | rfl <;> decide

theorem vectorCount_pos (f : Nat) : 0 < vectorCount f := by
  unfold vectorCount
  split <;> decide

/-- The admin queue that a write of ADMIN_CTL makes, its ring at ADMIN_BASE. -/
def State.adminQueue (s : State) (f n : Nat) : Queue where
  arrival := false
  isLocal := false
  owner := 0
  ledger := none
  log2 := n
  base := s.word (queuePage 0 f) 0x100
  vector := 0
  intEn := false
  wait := 0xFFFF

section Admin

variable {s : State} {f : Nat} (host : s.hostReady) (fn : f < s.fns.length) (takes : s.takes (queuePage 0 f))

include host fn takes

theorem exec_adminQueueEnable {n : Nat} (least : 4 ≤ n) (most : n ≤ 8)
    (disabled : bit (s.reg (queuePage 0 f) 0x108) 31 = false) :
    exec (.adminQueueEnable f (adminEnable n)) s =
      .next ((s.setReg (queuePage 0 f) 0x108 (adminStored n)).setQueue f 0 (s.adminQueue f n)) := by
  have row : exec (.adminQueueEnable f (adminEnable n)) s = execAdminQueueEnable f (adminEnable n) s := by rfl
  obtain ⟨enable, size, vector, intEn⟩ := adminStored_fields least most
  have range : ¬ (n < 4 ∨ 8 < n) := by omega
  rw [row, execAdminQueueEnable, atFn, if_pos fn, State.fromFn_of_hostReady host, State.guarded_of_takes takes]
  simp only [disabled, enable, size, vector, intEn, if_neg range, Nat.not_le.mpr (vectorCount_pos f), Bool.not_true,
    Bool.or_self, Bool.false_eq_true, if_false]
  rfl

/-- An idle admin queue is removed by a write of 0 to ADMIN_CTL. -/
theorem exec_adminQueueDisable {x : Queue} (queue : s.queue f 0 = some x) (empty : x.head = x.tail)
    (idle : s.executing f 0 = false) : exec (.adminQueueDisable f 0) s =
      .next { s.setReg (queuePage 0 f) 0x108 0 with queues := FMap.erase s.queues (qKey f 0) } := by
  have row : exec (.adminQueueDisable f 0) s = execAdminQueueDisable f 0 s := by rfl
  have fields : bit 0 31 = false ∧ bits 0 10 0 = 0 := by decide
  rw [row, execAdminQueueDisable, atFn, if_pos fn, State.fromFn_of_hostReady host, State.guarded_of_takes takes]
  simp [queue, fields, empty, idle, Nat.ne_of_gt (vectorCount_pos f)]

end Admin

theorem bit_eq_testBit (x n : Nat) : bit x n = x.testBit n := by
  rw [Nat.testBit_eq_decide_div_mod_eq]
  rfl

/-- A register set to 0 reads as no bit. -/
theorem State.bit_setReg_zero {s : State} (c : s.canonical) (p : Page) (off n : Nat) (low : n < 64) :
    bit ((s.setReg p off 0).reg p off) n = false := by
  obtain ⟨_, regs, _⟩ := c
  have zero : (s.setReg p off 0).reg p off % 2 ^ 64 = 0 := congrArg BitVec.toNat (State.reg_setReg_self s p off 0 regs)
  have clear := Nat.testBit_mod_two_pow ((s.setReg p off 0).reg p off) 64 n
  rw [zero, Nat.zero_testBit, decide_eq_true low, Bool.true_and] at clear
  rw [bit_eq_testBit, clear]

end Sys2Proof.Machine

namespace Sys2Proof

open Machine

/-- Settles O12: each write or read of the control registers leaves the state that its equation gives. -/
theorem queuesStopAndStart : Obligations.QueuesStopAndStart := by
  intro s f c host fn
  refine ⟨?control, ?disabled, ?stop, ?create, ?remove⟩
  case control =>
    intro d q x v die takes queue pos _ names owner normal
    refine ⟨fun running => ?_, fun stopped idle silent => ?_⟩
    · exact ⟨_, exec_queueDisable host die takes queue pos names owner normal running, State.queue_setQueue_self ..⟩
    · exact ⟨_, exec_queueEnable host die takes queue pos names owner normal stopped idle silent,
        State.queue_setQueue_self ..⟩
  case disabled =>
    intro q x queue disabling idle
    exact ⟨_, exec_queueDisabled fn queue disabling idle, State.queue_setQueue_self ..⟩
  case stop =>
    intro d r rs die reached readable records whole wf
    refine ⟨_, exec_stopFifoRead host die reached readable, State.popStop_rest records wf, ?_⟩
    rw [State.emit_outbox, State.popStop_outbox, State.popStop_value records whole]
  case create =>
    intro n least most takes disabled
    exact ⟨_, exec_adminQueueEnable host fn takes least most disabled, State.queue_setQueue_self ..⟩
  case remove =>
    intro x takes queue empty idle wf
    exact ⟨_, exec_adminQueueDisable host fn takes queue empty idle, (FMap.get?_erase _ wf).trans (if_pos rfl),
      State.bit_setReg_zero c (queuePage 0 f) 0x108 31 (by decide)⟩

end Sys2Proof
end

section
/-!
Egress schedulers (chapter 6): what waits at a scheduler, and which operations leave it; a selection without queue pairs at
the port (R213, R215, R261).
-/

namespace Sys2Proof.Machine

/-! ### What waits at the schedulers of a die -/

/-- What the packets that wait at the schedulers of a die, and the credit for them, are read from is the same: queue pairs,
the die's router, links and Ethernet ports, and the registers of its router page. -/
structure State.SameHeads (d : Nat) (s t : State) : Prop where
  part : t.part = s.part
  qps : t.qps = s.qps
  router : (t.die d).router = (s.die d).router
  links : (t.die d).links = (s.die d).links
  eth : (t.die d).eth = (s.die d).eth
  regs : ∀ off, 0x100 ≤ off → off < 0xC00 → t.reg (routerPage d) off = s.reg (routerPage d) off

theorem State.SameHeads.trans {d : Nat} {s t u : State} (h : State.SameHeads d s t) (k : State.SameHeads d t u) :
    State.SameHeads d s u :=
  ⟨k.part.trans h.part, k.qps.trans h.qps, k.router.trans h.router, k.links.trans h.links, k.eth.trans h.eth,
    fun off low high => (k.regs off low high).trans (h.regs off low high)⟩

/-- An operation outside queue pairs, routers, links and Ethernet ports that leaves the registers of the router page. -/
theorem Within.sameHeads_of_regs {W : Nat} {s t : State} (w : Within W s t) (c : s.canonical) (d : Nat)
    (regs : ∀ off, 0x100 ≤ off → off < 0xC00 → t.reg (routerPage d) off = s.reg (routerPage d) off)
    (areas : ∀ a ∈ [Area.qps, .router, .links, .ethernet], W.testBit a.bit = false := by decide) :
    State.SameHeads d s t where
  part := w.part
  qps := w.areas .qps (areas _ (by simp)) c
  router := State.die_congr (w.areas .router (areas _ (by simp)) c) d
  links := State.die_congr (w.areas .links (areas _ (by simp)) c) d
  eth := State.die_congr (w.areas .ethernet (areas _ (by simp)) c) d
  regs := regs

theorem Within.sameHeads {W : Nat} {s t : State} (w : Within W s t) (c : s.canonical) (d : Nat)
    (areas : ∀ a ∈ [Area.qps, .router, .links, .ethernet, .ownRegs], W.testBit a.bit = false := by decide) :
    State.SameHeads d s t :=
  w.sameHeads_of_regs c d
    (fun _ low high => Area.same_reg (w.areas .ownRegs (areas _ (by simp)) c) w.part (routerPage d) low high)
    fun a ha => areas a (List.mem_append_left [Area.ownRegs] ha)

section SameHeads

variable {d : Nat} {s t : State} (h : State.SameHeads d s t)

include h

theorem State.SameHeads.portState (k : Nat) : t.portState d k = s.portState d k := by
  rw [State.portState, h.router, State.portState]

theorem State.SameHeads.credit (k vc : Nat) : t.credit d k vc = s.credit d k vc := by
  simp only [State.credit, Die.link, h.links]

theorem State.SameHeads.ethPortFor (p : Packet) : t.ethPortFor d p = s.ethPortFor d p := by
  have up (k : Nat) : t.ethUp d k = s.ethUp d k := by rw [State.ethUp, State.ethPort, h.eth, State.ethUp, State.ethPort]
  simp only [State.ethPortFor, State.ethUpPorts, funext up]

theorem State.SameHeads.heldAt (i : Nat) (g : HeldPacket) : t.heldAt d i g = s.heldAt d i g := by
  simp only [State.heldAt, h.ethPortFor]

theorem State.SameHeads.hasCredit (k vc : Nat) (p : Packet) : t.hasCredit d k vc p = s.hasCredit d k vc p := by
  simp only [State.hasCredit, h.credit]

theorem State.SameHeads.ackAt (i c : Nat) : t.ackAt d i c = s.ackAt d i c := by
  simp only [State.ackAt, h.router, h.heldAt, h.hasCredit]

theorem State.SameHeads.endpoint : t.endpoint d = s.endpoint d := by
  rw [State.endpoint, h.regs 0x100 (by decide) (by decide), State.endpoint]

theorem State.SameHeads.route (p : Packet) : t.route d p = s.route d p := by
  have has : t.hasEndpoint d = s.hasEndpoint d := by
    rw [State.hasEndpoint, h.regs 0x100 (by decide) (by decide), State.hasEndpoint]
  simp only [State.route, has, h.endpoint, h.router]

theorem State.SameHeads.pickPort (p : Packet) (ok : List Nat) : t.pickPort d p ok = s.pickPort d p ok := by
  simp only [State.pickPort, h.regs 0x110 (by decide) (by decide), h.credit]

theorem State.SameHeads.choose (p : Packet) : t.choose d p = s.choose d p := by
  have ports : t.portState d = s.portState d := funext h.portState
  have usable : t.usable d = s.usable d := by funext mask; rw [State.usable, ports, State.usable]
  have pick : t.pickPort d p = s.pickPort d p := funext (h.pickPort p)
  rw [State.choose, h.route, ports, usable, pick, State.choose]

theorem State.SameHeads.headSched (x : Qp) (w : Head) : t.headSched d x w = s.headSched d x w := by
  have edition : t.injectEdition d = s.injectEdition d := by
    rw [State.injectEdition, h.regs 0x104 (by decide) (by decide), State.injectEdition]
  simp only [State.headSched, State.routeProbe, h.endpoint, edition, h.choose, h.ethPortFor]

theorem State.SameHeads.qpsAt (i : Nat) : t.qpsAt d i = s.qpsAt d i := by
  have dies : t.qpDie = s.qpDie := by funext n; rw [State.qpDie, h.part, State.qpDie]
  have scheds : t.headSched d = s.headSched d := by funext x w; exact h.headSched x w
  simp only [State.qpsAt, h.qps, dies, scheds]

theorem State.SameHeads.depth (i c : Nat) : t.depth d i c = s.depth d i c := by
  simp only [State.depth, h.router, h.heldAt, h.qpsAt]

end SameHeads

/-! ### Flows refreshed (R222) -/

/-- Without queue pairs at the port, only the flows of the scheduler's classes change. -/
theorem State.refreshFlows_within_of_idle {s : State} {d i : Nat} (c : s.canonical) (idle : s.qpsAt d i = []) :
    Within 33554432 s (s.refreshFlows d i) := by
  unfold State.refreshFlows
  extract_lets waiting classes
  have within : Within 33554432 s classes :=
    Within.foldl (fun _ _ w => Within.step State.onClass_within (by decide) w) (Within.refl _ s)
  rw [(within.sameHeads c d).qpsAt, idle]
  exact within

/-- The tokens of a class of a scheduler of a die. -/
def Die.tokens (x : Die) (j b : Nat) : Int := (((x.scheds[j]?).bind fun y => y.classes[b]?).getD {}).tokens

theorem State.schedClass_tokens (s : State) (d j b : Nat) : (s.schedClass d j b).tokens = (s.die d).tokens j b := rfl

/-- A change of a class that keeps its tokens keeps the tokens of every class. -/
theorem Die.tokens_onClass {f : SchedClass → SchedClass} (x : Die) (i c j b : Nat) (keeps : ∀ k, (f k).tokens = k.tokens) :
    { x with scheds := modifyAt x.scheds i fun y => { y with classes := modifyAt y.classes c f } }.tokens j b =
      x.tokens j b := by
  simp only [Die.tokens, getElem?_modifyAt]
  by_cases sched : j = i
  · cases x.scheds[j]? with
    | none => simp [sched]
    | some y =>
      by_cases cls : b = c
      · cases at_ : y.classes[b]? <;> simp_all [getElem?_modifyAt]
      · simp [sched, getElem?_modifyAt, cls]
  · simp [sched]

theorem State.tokens_onClass {s : State} {f : SchedClass → SchedClass} (d i c e j b : Nat)
    (keeps : ∀ k, (f k).tokens = k.tokens) :
    ((s.onClass d i c f).schedClass e j b).tokens = (s.schedClass e j b).tokens := by
  rw [State.schedClass_tokens, State.schedClass_tokens]
  exact State.die_congr (g := fun x => x.tokens j b) (map_modifyAt _ _ _ _ fun x => x.tokens_onClass i c j b keeps) e

/-- Flows that wake take no tokens. -/
theorem State.refreshFlows_tokens (s : State) (d i e j b : Nat) :
    ((s.refreshFlows d i).schedClass e j b).tokens = (s.schedClass e j b).tokens := by
  unfold State.refreshFlows
  extract_lets waiting classes
  have kept : (classes.schedClass e j b).tokens = (s.schedClass e j b).tokens := by
    refine List.foldlRecOn (motive := fun t : State => (t.schedClass e j b).tokens = (s.schedClass e j b).tokens) _ _ rfl
      fun t ih k _ => ?_
    refine (State.tokens_onClass d i k e j b ?_).trans ih
    exact fun _ => rfl
  refine List.foldlRecOn (motive := fun t : State => (t.schedClass e j b).tokens = (s.schedClass e j b).tokens) _ _ kept
    fun t ih w _ => ?_
  dsimp only
  split
  · exact ih
  · exact ih

/-! ### One selection (R215) -/

/-- The mask of the classes that a selection finds eligible, put in a scheduler. -/
def State.markEligible (s : State) (d i mask : Nat) : State :=
  s.onDie d fun x => { x with scheds := modifyAt x.scheds i fun y => { y with eligible := mask } }

/-- A class's turn in a selection: where none has sent, its ACK or NAK is sent, or else its first flow (R213, R215). -/
def State.offerClass (d i : Nat) (r : Bool × State) (c : Nat) : Bool × State :=
  if r.1 then r else
  match r.2.ackAt d i c with
  | some h => (true, r.2.sendHeld d i c none h)
  | none =>
    match State.firstFlow d ((r.2.flowsAt d i c).foldr insertFlow []) r.2 with
    | (none, s) => (false, s)
    | (some (tag, _, .held h), s) => (true, s.sendHeld d i c (some tag) h)
    | (some (tag, _, .qp n x h), s) => (true, s.sendQp d i c tag n x h)

/-- The classes that are not paused and have tokens (R218, R224). -/
def State.openClasses (s : State) (d i : Nat) : List Nat :=
  (List.range 8).filter fun c => !s.classPaused d i c && s.classTokens d i c

/-- Without queue pairs at the port, a selection offers the refreshed flows of the open classes, the highest class first. -/
theorem State.select_of_idle {s : State} {d i : Nat} (idle : (s.refreshFlows d i).qpsAt d i = []) :
    ∃ mask, s.select d i = (((s.refreshFlows d i).openClasses d i).reverse.foldl (State.offerClass d i)
      (false, (s.refreshFlows d i).markEligible d i mask)).2 := by
  unfold State.select
  extract_lets flows sources opened eligible marked
  have same : sources = flows := by
    change List.foldl _ flows (flows.qpsAt d i) = flows
    rw [idle, List.foldl_nil]
  have opens : opened = flows.openClasses d i := by
    change sources.openClasses d i = _
    rw [same]
  have marks : marked = flows.markEligible d i (maskOf eligible) := by
    change sources.markEligible d i (maskOf eligible) = _
    rw [same]
  rw [opens, marks]
  exact ⟨_, rfl⟩

theorem State.markEligible_within {s : State} {d i mask : Nat} : Within 33554432 s (s.markEligible d i mask) := by
  refine Within.onDie (fun x => ?_) (Within.refl _ s)
  refine ⟨fun e => .trans (by simp only [Die.units, length_modifyAt]) e, fun _ => ⟨rfl, rfl, rfl⟩, fun _ => rfl,
    fun e => absurd e (by decide), fun _ => rfl, fun _ => rfl, fun _ => rfl, fun _ => rfl, fun _ => rfl, fun _ => rfl,
    fun _ => rfl, fun _ => ⟨rfl, rfl, rfl⟩, fun _ => rfl, fun _ => rfl, fun _ => rfl, fun _ => rfl, fun _ => rfl⟩

/-- Once a class has sent, the others wait. -/
theorem State.offerClass_sent (d i c : Nat) (s : State) : State.offerClass d i (true, s) c = (true, s) := rfl

theorem State.offerClass_ack {s : State} {d i c : Nat} {h : HeldPacket} (ack : s.ackAt d i c = some h) :
    State.offerClass d i (false, s) c = (true, s.sendHeld d i c none h) := by
  simp [State.offerClass, ack]

/-- A class in which no packet is held passes, where no queue pair is at the port. -/
theorem State.offerClass_empty {s : State} {d i c : Nat} (idle : s.qpsAt d i = [])
    (empty : ∀ g ∈ (s.die d).router.held, g.pkt.tclass.toNat ≠ c) : State.offerClass d i (false, s) c = (false, s) := by
  have ack : s.ackAt d i c = none := by
    refine List.find?_eq_none.mpr fun g hg => ?_
    simp [empty g hg]
  have flows : s.flowsAt d i c = [] := by
    have heads (f : Flow) : ((s.die d).router.held.find? fun g =>
        s.heldAt d i g && g.flow == f.index && g.pkt.tclass.toNat == c) = none :=
      List.find?_eq_none.mpr fun g hg => by simp [empty g hg]
    simp [State.flowsAt, idle, heads]
  simp [State.offerClass, ack, flows, State.firstFlow]

/-- A fold down from `n` that stops at the first of the numbers admitted where it takes: those above `c` are passed. -/
theorem foldl_takes {β : Type} {f : Bool × β → Nat → Bool × β} {p : Nat → Bool} {c : Nat} {b b' : β}
    (admits : p c = true) (pass : ∀ j, c < j → f (false, b) j = (false, b)) (take : f (false, b) c = (true, b'))
    (stop : ∀ j, f (true, b') j = (true, b')) :
    ∀ n, c < n → ((List.range n).filter p).reverse.foldl f (false, b) = (true, b') := by
  intro n
  induction n with
  | zero => exact fun lt => absurd lt (Nat.not_lt_zero c)
  | succ n ih =>
    intro lt
    rw [List.range_succ, List.filter_append, List.reverse_append, List.foldl_append]
    rcases Nat.lt_or_eq_of_le (Nat.le_of_lt_succ lt) with above | rfl
    · have skip : ([n].filter p).reverse.foldl f (false, b) = (false, b) := by
        by_cases admitted : p n = true <;> simp [admitted, pass n above]
      rw [skip, ih above]
    · have took : ([c].filter p).reverse.foldl f (false, b) = (true, b') := by simp [admits, take]
      rw [took]
      exact List.foldlRecOn (motive := fun r => r = (true, b')) _ f rfl fun r hr j _ => hr ▸ stop j

/-! ### A packet sent on a link port -/

theorem portOfLink_of_linkOfPort {k l : Nat} (h : linkOfPort k = some l) : portOfLink l = k := by
  unfold linkOfPort at h
  unfold portOfLink
  split at h
  · obtain rfl := Option.some.inj h
    rw [if_pos ‹_›]
  · split at h
    · obtain rfl := Option.some.inj h
      rw [if_neg (by omega)]
      omega
    · exact absurd h (by simp)

/-- The schedulers of link ports are none of the Ethernet ports'. -/
theorem sched_of_linkOfPort {i l : Nat} (h : linkOfPort (schedPort i) = some l) : ¬ (2 ≤ i ∧ i < 6) := by
  rintro ⟨low, high⟩
  have group : schedPort i = 2 := by rw [schedPort, if_neg (by omega), if_pos high]
  simp [group, linkOfPort] at h

theorem State.sendFrame_outbox (s : State) (d l vc : Nat) (p : Packet) :
    (s.sendFrame d l vc p).outbox = .frame d (portOfLink l) vc p (linkCrc p) :: s.outbox := rfl

/-- A scheduler of a link port sends the packet, marked and with its hop counted, as one frame (R216, R227, R276). -/
theorem State.sendBy_outbox {s : State} {d i c l : Nat} {p : Packet} {deep : Nat}
    (link : linkOfPort (schedPort i) = some l) : ∃ q : Packet, q.body = p.body ∧ q.dest = p.dest ∧
      (s.sendBy d i c p deep).outbox = .frame d (schedPort i) (packetVc q) q (linkCrc q) :: s.outbox := by
  unfold State.sendBy
  extract_lets pg ch mark marked counted paid sent q
  have outbox : sent.outbox = s.outbox := by
    have counts : counted.outbox = s.outbox := by
      simp only [counted]
      split <;> rfl
    have pays : paid.outbox = counted.outbox := by
      simp only [paid]
      split <;> rfl
    exact pays.trans counts
  refine ⟨q, rfl, rfl, ?_⟩
  simp only [if_neg (sched_of_linkOfPort link), link]
  rw [State.sendFrame_outbox, portOfLink_of_linkOfPort link, outbox]

/-- A packet of a local source holds no units of an input port. -/
theorem State.freeUnits_local (s : State) (d vc units : Nat) (origin : Option Nat) :
    s.freeUnits d 7 vc units origin = s := by
  simp [State.freeUnits, linkOfPort]

theorem State.onRouter_held {s : State} {d : Nat} {f : Router → Router} (keeps : ∀ r, (f r).held = r.held) (e : Nat) :
    ((s.onRouter d f).die e).router.held = (s.die e).router.held :=
  State.die_congr (g := fun x => x.router.held) (map_modifyAt _ _ _ _ fun x => keeps x.router) e

theorem State.departed_local (s : State) (d : Nat) (p : Packet) (vc units : Nat) (origin : Option Nat) :
    (s.departed d p 7 vc units origin).outbox = s.outbox ∧
      ((s.departed d p 7 vc units origin).die d).router.held = (s.die d).router.held := by
  simp only [State.departed, State.freeUnits_local]
  refine ⟨rfl, (State.onRouter_held ?_ d).trans rfl⟩
  exact fun _ => rfl

/-- The router without a held packet. -/
def State.release (s : State) (d : Nat) (h : HeldPacket) : State :=
  s.onRouter d fun r => { r with held := r.held.filter (·.id != h.id) }

theorem State.release_held {s : State} {d : Nat} (h : HeldPacket) (die : d < s.dies.length) :
    ((s.release d h).die d).router.held = (s.die d).router.held.filter (·.id != h.id) := by
  rw [State.release, State.onRouter, State.die_onDie s d d _ die, if_pos rfl]

theorem State.sendHeld_ack (s : State) (d i c : Nat) (h : HeldPacket) : s.sendHeld d i c none h =
    (((s.release d h).sendBy d i c h.pkt (s.depth d i c - (16 + h.pkt.length.toNat))).departed d h.pkt h.inPort h.vcIn
      h.units h.origin).noteOccupancy d := rfl

/-- An ACK or NAK of the die that a scheduler of a link port sends is held no longer, and its frame goes out (R215). -/
theorem State.sendHeld_sends {s : State} {d i c l : Nat} {h : HeldPacket} (canonical : s.canonical)
    (die : d < s.dies.length) (link : linkOfPort (schedPort i) = some l) (source : h.inPort = 7) :
    (∀ g ∈ ((s.sendHeld d i c none h).die d).router.held, g.id ≠ h.id) ∧
      ∃ q : Packet, q.body = h.pkt.body ∧ q.dest = h.pkt.dest ∧ (s.sendHeld d i c none h).outbox =
        .frame d (schedPort i) (packetVc q) q (linkCrc q) :: s.outbox := by
  rw [State.sendHeld_ack, source]
  generalize s.depth d i c - (16 + h.pkt.length.toNat) = deep
  obtain ⟨outbox, held⟩ := State.departed_local ((s.release d h).sendBy d i c h.pkt deep) d h.pkt h.vcIn h.units h.origin
  obtain ⟨q, body, dest, frame⟩ := State.sendBy_outbox (s := s.release d h) (d := d) (c := c) (p := h.pkt) (deep := deep) link
  refine ⟨fun g hg => ?_, q, body, dest, outbox.trans frame⟩
  have within : Within 171966472 (s.release d h) ((s.release d h).sendBy d i c h.pkt deep) := State.sendBy_within
  have router := State.die_congr (within.areas .router (by decide) canonical) d
  have kept : g ∈ (s.die d).router.held.filter (·.id != h.id) := by
    rw [← State.release_held h die, ← router, ← held]
    exact hg
  simpa using (List.mem_filter.mp kept).2

/-! ### The selection of an acknowledgement -/

theorem exec_schedulerSelection {s : State} {d i l : Nat} (die : d < s.dies.length) (sched : i < 10)
    (link : linkOfPort (schedPort i) = some l) (live : (s.die d).fwdReset = false)
    (up : s.portState d (schedPort i) = .up) : exec (.schedulerSelection d i) s = .next (s.select d i) := by
  have row : exec (.schedulerSelection d i) s = execSchedulerSelection d i s := by rfl
  simp [row, execSchedulerSelection, atUnit, die, Nat.le_of_lt sched, live, Nat.ne_of_lt sched, up,
    sched_of_linkOfPort link]

theorem State.classPaused_of_link {s : State} {d i l c : Nat} (link : linkOfPort (schedPort i) = some l) :
    s.classPaused d i c = false := by
  simp only [State.classPaused, decide_eq_false (sched_of_linkOfPort link), Bool.false_and]

/-- Flows that wake change neither the shaping of a class nor its tokens (R218). -/
theorem State.classTokens_refreshFlows {s : State} {d i b : Nat} (c : s.canonical) (cls : b < 8) :
    (s.refreshFlows d i).classTokens d i b = s.classTokens d i b := by
  have within : Within 33554688 s (s.refreshFlows d i) := State.refreshFlows_within
  have shaping : (s.refreshFlows d i).classReg d i b 0x140 = s.classReg d i b 0x140 :=
    Area.same_reg (within.areas .ownRegs (by decide) c) within.part _ (by omega) (by omega)
  rw [State.classTokens, shaping, State.refreshFlows_tokens, State.classTokens]

/-- Where no class above holds a packet and no queue pair is at the port, a selection sends the class's ACK or NAK. -/
theorem State.select_ack {s : State} {d i l c : Nat} {h : HeldPacket} (canonical : s.canonical)
    (link : linkOfPort (schedPort i) = some l) (idle : s.qpsAt d i = []) (cls : c < 8) (ack : s.ackAt d i c = some h)
    (tokens : s.classTokens d i c = true) (top : ∀ g ∈ (s.die d).router.held, g.pkt.tclass.toNat ≤ c) :
    ∃ t, Within 33554432 s t ∧ s.select d i = t.sendHeld d i c none h := by
  have refreshed := State.refreshFlows_within_of_idle canonical idle
  have still : (s.refreshFlows d i).qpsAt d i = [] := ((refreshed.sameHeads canonical d).qpsAt i).trans idle
  obtain ⟨mask, select⟩ := State.select_of_idle still
  have within : Within 33554432 s ((s.refreshFlows d i).markEligible d i mask) :=
    State.markEligible_within.step (by decide) refreshed
  have same := within.sameHeads canonical d
  refine ⟨_, within, ?_⟩
  rw [select, State.openClasses, foldl_takes ?admits ?pass (State.offerClass_ack ((same.ackAt i c).trans ack))
    (fun j => State.offerClass_sent d i j _) 8 cls]
  case admits =>
    rw [State.classPaused_of_link link, State.classTokens_refreshFlows canonical cls, tokens]
    rfl
  case pass =>
    refine fun j above => State.offerClass_empty ((same.qpsAt i).trans idle) fun g hg => ?_
    have below := top g (same.router ▸ hg)
    omega

end Sys2Proof.Machine

namespace Sys2Proof

open Machine

/-- Settles O30: the classes above are passed, and the class's ACK or NAK goes before its flows. -/
theorem schedulersSendAcknowledgementsFirst : Obligations.SchedulersSendAcknowledgementsFirst := by
  intro s d i l c h sound die sched link live up idle cls ack source tokens top
  obtain ⟨canonical, _⟩ := sound
  obtain ⟨t, within, select⟩ := State.select_ack canonical link idle cls ack tokens top
  have dies : d < t.dies.length := (within.whole ⟨canonical, rfl⟩).length ▸ die
  obtain ⟨gone, q, body, dest, outbox⟩ := State.sendHeld_sends (c := c) (within.canonical canonical) dies link source
  have before : t.outbox = s.outbox := within.areas .outbox (by decide) canonical
  exact ⟨_, select ▸ exec_schedulerSelection die sched link live up, gone, q, body, dest, before ▸ outbox⟩

end Sys2Proof
end

section
/-!
Depth and delay samples (R238, R239), and QP_WEIGHT (R242).
-/

namespace Sys2Proof.Machine

/-! ### One bin of a histogram (R239) -/

theorem histBin_le (v shift : Nat) : histBin v shift ≤ 15 := by
  unfold histBin
  extract_lets u
  split <;> omega

/-- A scheduler's registers are 32-bit registers, and so are their reset values. -/
theorem regReset_sched_lt (part : Part) (d i off : Nat) : regReset part (schedPage d i) off < 2 ^ 64 := by
  have rows : ∀ r ∈ regDefs .sched, r.reset < 2 ^ 64 := by decide
  have row : ((regDefAt .sched off).map RegDef.reset).getD 0 < 2 ^ 64 := by
    cases found : regDefAt .sched off with
    | none => simp
    | some r => exact rows r (List.mem_of_find?_eq_some found)
  simp only [regReset]
  split
  · split
    · decide
    · split <;> decide
  · exact row

/-- A value of 64 bits that a register is set to reads back, where its reset value is one too. -/
theorem State.reg_setReg_of_lt {s : State} {p : Page} {off v : Nat} (wf : FMap.wf s.regs = true) (value : v < 2 ^ 64)
    (reset : regReset s.part p off < 2 ^ 64) : (s.setReg p off v).reg p off = v := by
  rw [State.reg, State.get_setReg_self s p off v wf]
  by_cases at_ : BitVec.ofNat 64 v = BitVec.ofNat 64 (regReset s.part p off)
  · have equal := congrArg BitVec.toNat at_
    rw [BitVec.toNat_ofNat, BitVec.toNat_ofNat, Nat.mod_eq_of_lt value, Nat.mod_eq_of_lt reset] at equal
    rw [if_pos at_]
    exact equal.symm
  · rw [if_neg at_]
    exact Nat.mod_eq_of_lt value

/-- The pages of a die's schedulers lie apart from its router page (R35). -/
theorem sched_ne_router {d i off o : Nat} (sched : i < 10) (low : off < 0x1000) (high : o < 0x1000) :
    (routerPage d).addr + o ≠ (schedPage d i).addr + off := by
  simp only [Page.addr, Page.off, PageKind.place]
  omega

/-- A bin's advance changes only registers of the page's own. -/
theorem State.bump_own {s : State} {p : Page} {off : Nat} (low : 0x100 ≤ off) (high : off < 0xC00) :
    Within 2 s (s.bump p off) := State.setReg_own low high

/-- After samples from `s` on, the histogram register at `off` is `v`, and what waits at the schedulers is what waited. -/
structure State.Sampled (d i off v : Nat) (s t : State) : Prop where
  canonical : t.canonical
  heads : State.SameHeads d s t
  bin : t.reg (schedPage d i) off = v

section Bump

variable {d i off v : Nat} {s t : State} (h : State.Sampled d i off v s t) (sched : i < 10)

include h sched

theorem State.Sampled.heads_bump {o : Nat} (low : 0x100 ≤ o) (high : o < 0xC00) :
    State.SameHeads d s (t.bump (schedPage d i) o) := by
  refine h.heads.trans ((State.bump_own low high).sameHeads_of_regs h.canonical d fun r _ top => ?_)
  exact State.reg_setReg_ne _ _ _ _ _ _ h.canonical.2.1 (sched_ne_router sched (by omega) (by omega))

/-- Another bin advances. -/
theorem State.Sampled.bump_ne {o : Nat} (low : 0x100 ≤ o) (high : o < 0xC00) (ne : off ≠ o) :
    State.Sampled d i off v s (t.bump (schedPage d i) o) where
  canonical := (State.bump_own low high).canonical h.canonical
  heads := h.heads_bump sched low high
  bin := (State.reg_setReg_ne _ _ _ _ _ _ h.canonical.2.1 (by omega)).trans h.bin

/-- The bin itself advances. -/
theorem State.Sampled.bump_self (low : 0x100 ≤ off) (high : off < 0xC00) :
    State.Sampled d i off (min (v + 1) 0xFFFFFFFF) s (t.bump (schedPage d i) off) where
  canonical := (State.bump_own low high).canonical h.canonical
  heads := h.heads_bump sched low high
  bin := by
    rw [State.bump, h.bin]
    exact State.reg_setReg_of_lt h.canonical.2.1 (by omega) (regReset_sched_lt ..)

end Bump

/-! ### One sample (R238) -/

/-- The registers of the bins that a sample of a class advances, in the depth and in the delay histogram (R239). -/
abbrev State.depthBin (s : State) (d i ctl c : Nat) : Nat :=
  0x400 + 0x40 * c + 4 * histBin (s.depth d i c) (bits ctl 4 0)

abbrev State.delayBin (s : State) (d i ctl c : Nat) : Nat :=
  0x600 + 0x40 * c + 4 * histBin (s.headDelay d i c) (bits ctl 12 8)

/-- A class's turn in a sample: one bin of its depth histogram and one of its delay histogram advance (R238, R239). -/
def State.sampleClass (d i ctl : Nat) (s : State) (c : Nat) : State :=
  (s.bump (schedPage d i) (s.depthBin d i ctl c)).bump (schedPage d i) (s.delayBin d i ctl c)

theorem exec_depthDelaySample {s : State} {d i : Nat} (die : d < s.dies.length) (sched : i < 10)
    (enabled : bit (s.reg (schedPage d i) 0x104) 31 = true) (live : (s.die d).fwdReset = false) :
    exec (.depthDelaySample d i) s =
      .next ((List.range 8).foldl (State.sampleClass d i (s.reg (schedPage d i) 0x104))
        ((s.refreshFlows d i).count (schedPage d i) Ctr.schedSamples)) := by
  have row : exec (.depthDelaySample d i) s = execDepthDelaySample d i s := by rfl
  simp only [row, execDepthDelaySample, atUnit, die, sched, enabled, live, decide_true, if_true, Bool.not_true, Bool.or_self,
    Bool.false_eq_true, if_false]
  rfl

/-- A fold over distinct entries, of which one takes `A` to `B` and the others keep both. -/
theorem foldl_once {α β : Type} {f : β → α → β} {A B : β → Prop} {x : α} {l : List α} (member : x ∈ l) (nodup : l.Nodup)
    (before : ∀ b, ∀ y ∈ l, y ≠ x → A b → A (f b y)) (turn : ∀ b, A b → B (f b x))
    (after : ∀ b, ∀ y ∈ l, y ≠ x → B b → B (f b y)) {b : β} (init : A b) : B (l.foldl f b) := by
  obtain ⟨l₁, l₂, rfl⟩ := List.append_of_mem member
  have distinct : x ∉ l₁ ∧ x ∉ l₂ := by
    simp only [List.nodup_append, List.nodup_cons] at nodup
    grind
  rw [List.foldl_append, List.foldl_cons]
  refine List.foldlRecOn _ f (turn _ (List.foldlRecOn _ f init fun b h y hy => ?_)) fun b h y hy => ?_
  · exact before b y (by simp [hy]) (fun e => distinct.1 (e ▸ hy)) h
  · exact after b y (by simp [hy]) (fun e => distinct.2 (e ▸ hy)) h

/-- The bins of a class lie in its part of the histogram registers. -/
theorem State.depthBin_range (s : State) (d i ctl c : Nat) :
    0x400 + 0x40 * c ≤ s.depthBin d i ctl c ∧ s.depthBin d i ctl c < 0x440 + 0x40 * c := by
  have := histBin_le (s.depth d i c) (bits ctl 4 0)
  unfold State.depthBin
  omega

theorem State.delayBin_range (s : State) (d i ctl c : Nat) :
    0x600 + 0x40 * c ≤ s.delayBin d i ctl c ∧ s.delayBin d i ctl c < 0x640 + 0x40 * c := by
  have := histBin_le (s.headDelay d i c) (bits ctl 12 8)
  unfold State.delayBin
  omega

theorem State.sampleClass_within {s : State} {d i ctl c : Nat} (cls : c < 8) : Within 2 s (s.sampleClass d i ctl c) := by
  obtain ⟨depthLow, depthHigh⟩ := s.depthBin_range d i ctl c
  obtain ⟨delayLow, delayHigh⟩ := s.delayBin_range d i ctl c
  exact (State.bump_own (by omega) (by omega)).step (by decide) (State.bump_own (by omega) (by omega))

section SampleClass

variable {d i ctl off v c : Nat} {s t : State} (h : State.Sampled d i off v s t) (sched : i < 10) (cls : c < 8)

include h sched cls

/-- The turn of a class leaves the bins of the others' depth. -/
theorem State.Sampled.sampleClass_ne {b : Nat} (low : 0x400 + 0x40 * b ≤ off) (high : off < 0x440 + 0x40 * b)
    (bin : b < 8) (ne : c ≠ b) : State.Sampled d i off v s (t.sampleClass d i ctl c) := by
  obtain ⟨depthLow, depthHigh⟩ := t.depthBin_range d i ctl c
  obtain ⟨delayLow, delayHigh⟩ := t.delayBin_range d i ctl c
  exact (h.bump_ne sched (by omega) (by omega) (by omega)).bump_ne sched (by omega) (by omega) (by omega)

/-- The turn of a class advances the bin of its depth. -/
theorem State.Sampled.sampleClass_self (at_ : off = s.depthBin d i ctl c) :
    State.Sampled d i off (min (v + 1) 0xFFFFFFFF) s (t.sampleClass d i ctl c) := by
  obtain ⟨depthLow, depthHigh⟩ := s.depthBin_range d i ctl c
  obtain ⟨delayLow, delayHigh⟩ := t.delayBin_range d i ctl c
  have same : t.depthBin d i ctl c = off := by rw [at_, State.depthBin, h.heads.depth, State.depthBin]
  rw [State.sampleClass, same]
  exact (h.bump_self sched (by omega) (by omega)).bump_ne sched (by omega) (by omega) (by omega)

end SampleClass

/-- The turns of all classes advance the bin of each class's depth. -/
theorem State.Sampled.sampleClasses {d i ctl off v c : Nat} {s t : State} (h : State.Sampled d i off v s t) (sched : i < 10)
    (cls : c < 8) (at_ : off = s.depthBin d i ctl c) :
    State.Sampled d i off (min (v + 1) 0xFFFFFFFF) s ((List.range 8).foldl (State.sampleClass d i ctl) t) := by
  obtain ⟨low, high⟩ := s.depthBin_range d i ctl c
  refine foldl_once (A := State.Sampled d i off v s) (List.mem_range.mpr cls) List.nodup_range
    (fun u b hb ne hu => ?_) (fun u hu => hu.sampleClass_self sched cls at_) (fun u b hb ne hu => ?_) h
  · exact hu.sampleClass_ne sched (List.mem_range.mp hb) (at_ ▸ low) (at_ ▸ high) cls ne
  · exact hu.sampleClass_ne sched (List.mem_range.mp hb) (at_ ▸ low) (at_ ▸ high) cls ne

theorem State.sampleClasses_within (s : State) (d i ctl : Nat) :
    Within 2 s ((List.range 8).foldl (State.sampleClass d i ctl) s) :=
  Within.foldl_mem (fun _ _ hc w => (State.sampleClass_within (List.mem_range.mp hc)).step (by decide) w)
    (Within.refl 2 s)

/-! ### The count of samples -/

/-- Counters and their capture totals that are the same read the same (R645). -/
theorem Area.same_ctr {s t : State} (counters : Area.counters.same s t) (p : Page) (k : Nat) :
    t.ctr p k = s.ctr p k ∧ t.total p k = s.total p k := by
  obtain ⟨listed, totals⟩ := counters
  rw [State.ctr, listed _ (decide_eq_true (p.ctr_mod k)), State.total, totals]
  exact ⟨rfl, rfl⟩

/-- What is counted between two operations that leave the counters. -/
theorem State.counted_between {s t u : State} {p : Page} {k n : Nat} (before : Area.counters.same s t)
    (canonical : t.canonical) (after : Area.counters.same (t.count p k n) u) : Counted p k n s u := by
  obtain ⟨_, regs, totals⟩ := canonical
  obtain ⟨ctr, total⟩ := Area.same_ctr before p k
  obtain ⟨ctr', total'⟩ := Area.same_ctr after p k
  obtain ⟨counted, totalled⟩ := State.counted_count p k n regs totals
  exact ⟨ctr'.trans (ctr ▸ counted), total'.trans (total ▸ totalled)⟩

/-- Before the turns of the classes, a sample has advanced no bin. -/
theorem State.sampled_start {s : State} {d i off : Nat} (c : s.canonical) (idle : s.qpsAt d i = []) (low : 0x100 ≤ off)
    (high : off < 0xC00) : State.Sampled d i off (s.reg (schedPage d i) off) s
      ((s.refreshFlows d i).count (schedPage d i) Ctr.schedSamples) := by
  have within : Within 33554440 s ((s.refreshFlows d i).count (schedPage d i) Ctr.schedSamples) :=
    State.count_within.step (by decide) ((State.refreshFlows_within_of_idle c idle).mono (by decide))
  exact ⟨within.canonical c, within.sameHeads c d,
    Area.same_reg (within.areas .ownRegs (by decide) c) within.part (schedPage d i) low high⟩

/-! ### QP_WEIGHT (R242) -/

/-- Bits 7 to 0 of a word are its remainder by 256. -/
theorem bits_low8 (n : Nat) : bits n 7 0 = n % 256 := by
  simp [bits]

@[simp] theorem State.qp_setQp_self (s : State) (n : Nat) (x : Qp) : (s.setQp n x).qp n = some x :=
  FMap.get?_set_self s.qps n x

theorem State.shownQp_of_qp {s : State} {d f n : Nat} {x : Qp} (qp : s.qp n = some x) (fn : x.fn = f) (die : s.qpDie n = d) :
    s.shownQp d f n = some x := by
  simp [State.shownQp, qp, fn, die]

/-- A weight within the cap of the function is set on the queue pair shown. -/
theorem exec_qpWeightWrite {s : State} {f d : Nat} {v : Word} {x : Qp} (host : s.hostReady) (fn : f < s.fns.length)
    (die : d < s.dies.length) (takes : s.takes ⟨d, .rate, f⟩) (least : 1 ≤ v.toNat % 256)
    (cap : v.toNat % 256 ≤ bits (s.reg (rateCtlPage d) (0x140 + 4 * f)) 7 0)
    (shown : s.shownQp d f (bits (s.reg ⟨d, .rate, f⟩ 0x100) 17 0) = some x) :
    exec (.qpWeightWrite f d v) s =
      .next (s.setQp (bits (s.reg ⟨d, .rate, f⟩ 0x100) 17 0) { x with weight := v.toNat % 256 }) := by
  have row : exec (.qpWeightWrite f d v) s = execQpWeightWrite f d v s := by rfl
  have good : ¬ (v.toNat % 256 = 0 ∨ bits (s.reg (rateCtlPage d) (0x140 + 4 * f)) 7 0 < v.toNat % 256) := by omega
  simp only [row, execQpWeightWrite, atUnit, if_pos die, decide_eq_true fn, if_true, State.fromFn_of_hostReady host,
    State.guarded_of_takes takes, bits_low8 v.toNat, if_neg good, shown]

end Sys2Proof.Machine

namespace Sys2Proof

open Machine

/-- Settles O31: a class's turn in a sample advances the bin of its depth, and the other turns leave it; a weight within the
cap is set. -/
theorem samplesAndWeights : Obligations.SamplesAndWeights := by
  refine ⟨?sample, ?weight⟩
  case sample =>
    intro s d i c sound die sched cls enabled live idle
    obtain ⟨canonical, _⟩ := sound
    obtain ⟨low, high⟩ := s.depthBin_range d i (s.reg (schedPage d i) 0x104) c
    have start := State.sampled_start canonical idle (Nat.le_trans (by omega) low) (Nat.lt_trans high (by omega))
    have sampled := start.sampleClasses sched cls rfl
    have refreshed := State.refreshFlows_within_of_idle canonical idle
    have turns := State.sampleClasses_within ((s.refreshFlows d i).count (schedPage d i) Ctr.schedSamples) d i
      (s.reg (schedPage d i) 0x104)
    exact ⟨_, exec_depthDelaySample die sched enabled live, sampled.bin,
      State.counted_between (refreshed.areas .counters (by decide) canonical) (refreshed.canonical canonical)
        (turns.areas .counters (by decide) start.canonical)⟩
  case weight =>
    intro s f d n v x host fn die takes least cap named qp mine owner
    subst named
    exact ⟨_, exec_qpWeightWrite host fn die takes least cap (State.shownQp_of_qp qp mine owner), State.qp_setQp_self ..⟩

end Sys2Proof
end

section
/-!
The routers and links of a die under the shared operations of the forwarding plane (chapter 7): what an update of a router or
of a link leaves, and what units freed and packets discarded leave of both (R262, R279, R283).
-/

namespace Sys2Proof.Machine

/-! ### Routers and links by their die -/

theorem Within.router {W : Nat} {s t : State} (w : Within W s t) (c : s.canonical) (d : Nat)
    (router : W.testBit Area.router.bit = false := by decide) : (t.die d).router = (s.die d).router :=
  State.die_congr (w.areas .router router c) d

theorem Within.link {W : Nat} {s t : State} (w : Within W s t) (c : s.canonical) (d l : Nat)
    (links : W.testBit Area.links.bit = false := by decide) : (t.die d).link l = (s.die d).link l := by
  rw [Die.link, State.die_congr (w.areas .links links c) d, Die.link]

theorem Within.length_dies {W : Nat} {s t : State} (w : Within W s t) (c : s.canonical)
    (clocks : W.testBit Area.clocks.bit = false := by decide) : t.dies.length = s.dies.length :=
  (w.whole ⟨c, rfl⟩ clocks).length

@[simp] theorem State.die_count (s : State) (p : Page) (k n e : Nat) : (s.count p k n).die e = s.die e := rfl

@[simp] theorem State.die_noteOccupancy (s : State) (d e : Nat) : (s.noteOccupancy d).die e = s.die e := rfl

@[simp] theorem State.onDie_length (s : State) (d : Nat) (f : Die → Die) : (s.onDie d f).dies.length = s.dies.length :=
  length_modifyAt _ _ _

@[simp] theorem State.onRouter_length (s : State) (d : Nat) (f : Router → Router) :
    (s.onRouter d f).dies.length = s.dies.length := length_modifyAt _ _ _

@[simp] theorem State.onLink_length (s : State) (d l : Nat) (f : Link → Link) :
    (s.onLink d l f).dies.length = s.dies.length := length_modifyAt _ _ _

@[simp] theorem State.onVc_length (s : State) (d l vc : Nat) (f : VcCredit → VcCredit) :
    (s.onVc d l vc f).dies.length = s.dies.length := length_modifyAt _ _ _

@[simp] theorem State.editionCount_length (s : State) (d : Nat) (e : Bool) (f : Nat → Nat) :
    (s.editionCount d e f).dies.length = s.dies.length := length_modifyAt _ _ _

theorem State.router_onRouter {s : State} {d : Nat} (f : Router → Router) (die : d < s.dies.length) :
    ((s.onRouter d f).die d).router = f (s.die d).router := by
  rw [State.onRouter, State.die_onDie _ _ _ _ die, if_pos rfl]

/-- What a change of a router keeps of it is the same at every die. -/
theorem State.onRouter_congr {β : Type} {g : Router → β} {f : Router → Router} (keeps : ∀ r, g (f r) = g r) (s : State)
    (d e : Nat) : g ((s.onRouter d f).die e).router = g (s.die e).router :=
  State.die_congr (g := fun x => g x.router) (map_modifyAt _ _ _ _ fun x => keeps x.router) e

@[simp] theorem State.link_onRouter (s : State) (d e l : Nat) (f : Router → Router) :
    ((s.onRouter d f).die e).link l = (s.die e).link l :=
  State.die_congr (g := fun x => x.link l) (map_modifyAt _ _ _ _ fun _ => by rfl) e

@[simp] theorem State.router_onLink (s : State) (d e l : Nat) (f : Link → Link) :
    ((s.onLink d l f).die e).router = (s.die e).router :=
  State.die_congr (g := Die.router) (map_modifyAt _ _ _ _ fun _ => by rfl) e

theorem State.link_onLink {s : State} {d l : Nat} (f : Link → Link) (die : d < s.dies.length)
    (link : l < (s.die d).links.length) : ((s.onLink d l f).die d).link l = f ((s.die d).link l) := by
  rw [State.onLink, State.die_onDie _ _ _ _ die, if_pos rfl]
  simp only [Die.link, getElem?_modifyAt, if_true, List.getElem?_eq_getElem link, Option.map_some, Option.getD_some]

/-- A virtual channel of a link after its change. -/
theorem State.vc_onVc {s : State} {d l vc : Nat} (f : VcCredit → VcCredit) (die : d < s.dies.length)
    (link : l < (s.die d).links.length) :
    (((s.onVc d l vc f).die d).link l).vcs[vc]? = (((s.die d).link l).vcs[vc]?).map f := by
  rw [State.onVc, State.link_onLink _ die link, getElem?_modifyAt, if_pos rfl]

/-! ### The units of a sound state -/

theorem State.units_die {s : State} (sound : s.sound) (d : Nat) : (s.die d).units = dieUnits := by
  obtain ⟨_, units⟩ := sound
  have dies : s.dies.map Die.units = List.replicate s.part.dies dieUnits := congrArg Prod.fst units
  rw [State.die]
  cases present : s.dies[d]? with
  | none => rfl
  | some x =>
    have listed : x.units ∈ s.dies.map Die.units := List.mem_map_of_mem (List.mem_of_getElem? present)
    rw [dies] at listed
    exact (List.mem_replicate.mp listed).2

theorem State.length_fifos {s : State} (sound : s.sound) (d : Nat) : (s.die d).router.fifos.length = 9 := by
  have units := State.units_die sound d
  simp only [Die.units, List.cons.injEq] at units
  exact units.2.1

theorem State.length_ports {s : State} (sound : s.sound) (d : Nat) : (s.die d).router.ports.length = 8 := by
  have units := State.units_die sound d
  simp only [Die.units, List.cons.injEq] at units
  exact units.2.2.1

theorem State.length_links {s : State} (sound : s.sound) (d : Nat) : (s.die d).links.length = 6 := by
  have units := State.units_die sound d
  simp only [Die.units, List.cons.injEq] at units
  exact units.2.2.2.1

theorem linkOfPort_lt {port l : Nat} (h : linkOfPort port = some l) : l < 6 := by
  have port := portOfLink_of_linkOfPort h
  unfold linkOfPort at h
  unfold portOfLink at port
  split at h
  · split at port <;> omega
  · split at h
    · split at port <;> omega
    · exact absurd h (by simp)

theorem linkOfPort_ne {port l : Nat} (h : linkOfPort port = some l) : port ≠ 2 := by
  rintro rfl
  simp [linkOfPort] at h

/-! ### Units freed and packets discarded (R262, R279) -/

/-- A link but for the units that it has freed. -/
def Link.butFreed (x : Link) : Link := { x with vcs := x.vcs.map fun c => { c with freed := 0 } }

/-- Units freed on a virtual channel change nothing else of a link. -/
theorem Link.butFreed_free (x : Link) (vc : Nat) (n : Word) :
    Link.butFreed { x with vcs := modifyAt x.vcs vc fun c => { c with freed := c.freed + n } } = x.butFreed :=
  congrArg (fun vcs => ({ x with vcs := vcs } : Link)) (map_modifyAt _ _ _ _ fun _ => by rfl)

theorem Link.state_of_butFreed {x y : Link} (h : x.butFreed = y.butFreed) : x.state = y.state := by
  have state : x.butFreed.state = y.butFreed.state := congrArg Link.state h
  exact state

theorem Link.peer_of_butFreed {x y : Link} (h : x.butFreed = y.butFreed) : x.peer = y.peer := by
  have peer : x.butFreed.peer = y.butFreed.peer := congrArg Link.peer h
  exact peer

/-- Links that are the same but for units freed share what a channel holds beside them. -/
theorem Link.vcs_of_butFreed {β : Type} {x y : Link} (g : VcCredit → β) (keeps : ∀ c, g { c with freed := 0 } = g c)
    (h : x.butFreed = y.butFreed) : x.vcs.map g = y.vcs.map g := by
  have vcs : x.butFreed.vcs.map g = y.butFreed.vcs.map g := congrArg (·.vcs.map g) h
  simpa only [Link.butFreed, List.map_map, Function.comp_def, keeps] using vcs

/-- Units freed at a die lead from `s` to `t`: its FIFOs, its ports and, but for the units freed, its links are the same. -/
structure State.UnitsFreed (d : Nat) (s t : State) : Prop where
  canonical : t.canonical
  fifos : (t.die d).router.fifos = (s.die d).router.fifos
  ports : (t.die d).router.ports = (s.die d).router.ports
  links : ∀ l, ((t.die d).link l).butFreed = ((s.die d).link l).butFreed

theorem State.UnitsFreed.refl {s : State} (c : s.canonical) (d : Nat) : State.UnitsFreed d s s :=
  ⟨c, rfl, rfl, fun _ => rfl⟩

theorem State.UnitsFreed.trans {d : Nat} {s t u : State} (h : State.UnitsFreed d s t) (k : State.UnitsFreed d t u) :
    State.UnitsFreed d s u :=
  ⟨k.canonical, k.fifos.trans h.fifos, k.ports.trans h.ports, fun l => (k.links l).trans (h.links l)⟩

/-- An operation outside routers and links. -/
theorem Within.unitsFreed {W : Nat} {s t : State} (w : Within W s t) (c : s.canonical) (d : Nat)
    (areas : ∀ a ∈ [Area.router, .links], W.testBit a.bit = false := by decide) : State.UnitsFreed d s t where
  canonical := w.canonical c
  fifos := congrArg Router.fifos (w.router c d (areas _ (by simp)))
  ports := congrArg Router.ports (w.router c d (areas _ (by simp)))
  links l := congrArg Link.butFreed (w.link c d l (areas _ (by simp)))

/-- A change of a router that keeps its FIFOs and its ports. -/
theorem State.unitsFreed_onRouter {s : State} {f : Router → Router} (c : s.canonical)
    (fifos : ∀ r, (f r).fifos = r.fifos) (ports : ∀ r, (f r).ports = r.ports) (d e : Nat) :
    State.UnitsFreed d s (s.onRouter e f) where
  canonical := c
  fifos := State.onRouter_congr fifos s e d
  ports := State.onRouter_congr ports s e d
  links l := congrArg Link.butFreed (State.link_onRouter s e d l f)

theorem State.unitsFreed_onVc {s : State} (c : s.canonical) (d e l vc : Nat) (n : Word) :
    State.UnitsFreed d s (s.onVc e l vc fun c => { c with freed := c.freed + n }) where
  canonical := c
  fifos := congrArg Router.fifos (State.router_onLink s e d l _)
  ports := congrArg Router.ports (State.router_onLink s e d l _)
  links k := by
    refine State.die_congr (g := fun x => (x.link k).butFreed) (map_modifyAt _ _ _ _ fun x => ?_) d
    simp only [Die.link, getElem?_modifyAt]
    split
    · cases x.links[k]? with
      | none => rfl
      | some y => exact y.butFreed_free vc n
    · rfl

theorem State.unitsFreed_freeUnits {s : State} (c : s.canonical) (d port vc units : Nat) (origin : Option Nat) :
    State.UnitsFreed d s (s.freeUnits d port vc units origin) := by
  unfold State.freeUnits
  extract_lets r kept
  split
  · exact .refl c d
  · split
    · exact State.useSub_within.unitsFreed c d
    · split
      · exact State.unitsFreed_onVc c d d _ vc _
      · exact .refl c d

theorem State.unitsFreed_editionCount {s : State} (c : s.canonical) (d : Nat) (e : Bool) (f : Nat → Nat) :
    State.UnitsFreed d s (s.editionCount d e f) :=
  State.unitsFreed_onRouter c (fun _ => by rfl) (fun _ => by rfl) d d

theorem State.unitsFreed_noteOccupancy {s : State} (c : s.canonical) (d : Nat) : State.UnitsFreed d s (s.noteOccupancy d) :=
  State.noteOccupancy_within.unitsFreed c d

theorem State.unitsFreed_discard {s : State} (c : s.canonical) (d : Nat) (p : Packet) (port vc units ctr : Nat)
    (origin : Option Nat) : State.UnitsFreed d s (s.discard d p port vc units ctr origin) := by
  have counted : State.UnitsFreed d s (s.count (routerPage d) ctr) := State.count_within.unitsFreed c d
  have freed := counted.trans (State.unitsFreed_freeUnits counted.canonical d port vc units origin)
  exact freed.trans (State.unitsFreed_editionCount freed.canonical d p.edition _)

theorem State.UnitsFreed.foldl {α : Type} {d : Nat} {s t : State} {f : State → α → State} (l : List α)
    (h : State.UnitsFreed d s t) (step : ∀ u x, u.canonical → State.UnitsFreed d u (f u x)) :
    State.UnitsFreed d s (l.foldl f t) :=
  List.foldlRecOn l f h fun _ ih x _ => ih.trans (step _ x ih.canonical)

/-- Packets offered again, some of which are discarded (R283, R676). -/
theorem State.unitsFreed_reoffer {s : State} (c : s.canonical) (d : Nat) : State.UnitsFreed d s (s.reoffer d) := by
  unfold State.reoffer
  extract_lets again hs kept
  have offered : State.UnitsFreed d s kept := State.unitsFreed_onRouter c (fun _ => by rfl) (fun _ => by rfl) d d
  have discarded := offered.foldl (hs.filter fun h => (again h).isNone)
    (f := fun s h => s.discard d h.pkt h.inPort h.vcIn h.units Ctr.router0DrainDiscards h.origin)
    fun _ h c => State.unitsFreed_discard c d h.pkt h.inPort h.vcIn h.units _ h.origin
  exact discarded.trans (State.unitsFreed_noteOccupancy discarded.canonical d)

/-- The packets of a FIFO discarded (R262, R279). -/
theorem State.unitsFreed_fifoGone {s : State} (c : s.canonical) (d i : Nat) (l : List FifoPacket) :
    State.UnitsFreed d s (s.fifoGone d i l) := by
  unfold State.fifoGone
  have gone := (State.UnitsFreed.refl c d).foldl l (f := fun s x =>
      let s := s.freeUnits d x.port x.vc x.units x.origin
      if i = 8 then s else s.editionCount d x.pkt.edition (· - 1)) fun u x c => ?_
  · exact gone.trans (State.unitsFreed_noteOccupancy gone.canonical d)
  · have freed := State.unitsFreed_freeUnits c d x.port x.vc x.units x.origin
    dsimp only
    split
    · exact freed
    · exact freed.trans (State.unitsFreed_editionCount freed.canonical d x.pkt.edition _)

/-! ### Ports (R283) -/

theorem State.UnitsFreed.portState {d : Nat} {s t : State} (h : State.UnitsFreed d s t) (k : Nat) :
    t.portState d k = s.portState d k := by
  rw [State.portState, h.ports, State.portState]

theorem State.portState_setPort {s : State} {d port : Nat} (v : PortState) (die : d < s.dies.length)
    (listed : port < (s.die d).router.ports.length) : (s.setPort d port v).portState d port = v := by
  rw [State.portState, State.setPort, State.router_onRouter _ die, List.getElem?_set_self listed, Option.getD_some]

/-- A port that has left UP is in another state, and every link is the same but for units freed. -/
theorem State.portDown_leaves_up {s : State} {d port : Nat} (c : s.canonical) (die : d < s.dies.length)
    (listed : port < (s.die d).router.ports.length) : (s.portDown d port).portState d port ≠ .up := by
  unfold State.portDown
  split
  · have held : (s.setPort d port .hold).canonical := c
    rw [(State.unitsFreed_reoffer held d).portState, State.portState_setPort _ die listed]
    decide
  · next other => simpa using other

theorem State.butFreed_portDown {s : State} (c : s.canonical) (d port l : Nat) :
    (((s.portDown d port).die d).link l).butFreed = ((s.die d).link l).butFreed := by
  unfold State.portDown
  split
  · have held : (s.setPort d port .hold).canonical := c
    exact ((State.unitsFreed_reoffer held d).links l).trans (congrArg _ (State.link_onRouter s d d l _))
  · rfl

theorem State.butFreed_portUp {s : State} (c : s.canonical) (d port l : Nat) :
    (((s.portUp d port).die d).link l).butFreed = ((s.die d).link l).butFreed := by
  unfold State.portUp
  split
  · have used : (s.setPort d port .up).canonical := c
    exact ((State.unitsFreed_reoffer used d).links l).trans (congrArg _ (State.link_onRouter s d d l _))
  · rfl

end Sys2Proof.Machine
end

section
/-!
Frames and words on links (R250, R251, R261 to R263).
-/

namespace Sys2Proof.Machine

theorem atLink_of_wired {s : State} {d port l : Nat} (r : Nat → State) (die : d < s.dies.length)
    (link : linkOfPort port = some l) (wired : s.wired d l = true) : atLink s d port r = .next (r l) := by
  simp [atLink, atUnit, link, die, wired]

/-! ### Frames (R251, R261) -/

/-- The units of a frame that arrives are seen. -/
def State.seeFrame (s : State) (d l vc : Nat) (p : Packet) : State :=
  s.onVc d l vc fun c => { c with seen := c.seen + BitVec.ofNat 32 (frameUnits p) }

theorem State.seeFrame_within {s : State} {d l vc : Nat} {p : Packet} : Within 134217728 s (s.seeFrame d l vc p) :=
  State.onVc_within

theorem exec_frameReceive {s : State} {d port l vc : Nat} (p : Packet) (crc : Word) (intact : Bool)
    (die : d < s.dies.length) (link : linkOfPort port = some l) (wired : s.wired d l = true)
    (up : s.linkState d l = .up) (channel : vc < linkVcs l) :
    exec (.frameReceive d port vc p crc intact) s = .next (s.frameIn d l port vc p crc intact) := by
  have row : exec (.frameReceive d port vc p crc intact) s = execFrameReceive d port vc p crc intact s := by rfl
  rw [row, execFrameReceive, atLink_of_wired _ die link wired]
  simp [up, channel]

/-- The units of a packet of a link's input port are freed on its virtual channel. -/
theorem State.freeUnits_of_link {s : State} {d port l : Nat} (vc units : Nat) (link : linkOfPort port = some l) :
    s.freeUnits d port vc units = s.onVc d l vc fun c => { c with freed := c.freed + BitVec.ofNat 32 units } := by
  simp [State.freeUnits, link, linkOfPort_ne link]

theorem State.frameIn_bad {s : State} {d port l : Nat} (vc : Nat) (p : Packet) (crc : Word)
    (link : linkOfPort port = some l) : s.frameIn d l port vc p crc false =
      ((s.seeFrame d l vc p).count (linkPage d l) Ctr.linkCrcDiscards).onVc d l vc fun c =>
        { c with freed := c.freed + BitVec.ofNat 32 (frameUnits p) } :=
  State.freeUnits_of_link vc (frameUnits p) link

/-- A packet put at the end of an input FIFO, and counted in its edition (R267, R278). -/
def State.enqueue (s : State) (d port : Nat) (f : FifoPacket) : State :=
  ((s.editionCount d f.pkt.edition (· + 1)).onRouter d fun r =>
    { r with fifos := modifyAt r.fifos port (· ++ [f]) }).noteOccupancy d

/-- A good frame of a link that injects no edition is counted and enters the FIFO of its port. -/
theorem State.frameIn_good {s : State} {d l : Nat} (port vc : Nat) (p : Packet) (c : s.canonical)
    (plain : bit (s.reg (linkPage d l) 0x100) 30 = false) : ∃ t, Within 8589934600 (s.seeFrame d l vc p) t ∧
      s.frameIn d l port vc p (linkCrc p) true = t.enqueue d port ⟨p, port, vc, frameUnits p, none⟩ := by
  unfold State.frameIn
  extract_lets units seen counted stored
  have within : Within 8589934600 seen counted :=
    State.item_within.step (by decide) (State.item_within.step (by decide) (State.count_within.mono (by decide)))
  have ctl : counted.reg (linkPage d l) 0x100 = s.reg (linkPage d l) 0x100 :=
    Area.same_reg ((within.step (by decide) (State.seeFrame_within.mono (by decide)) : Within 8724152328 s counted).areas
      .ownRegs (by decide) c) within.part _ (by decide) (by decide)
  have same : stored = p := by simp [stored, ctl, plain]
  refine ⟨counted, within, ?_⟩
  simp only [same, Bool.not_true, Bool.false_eq_true, if_false, beq_self_eq_true, if_true]
  rfl

theorem State.fifos_enqueue {s : State} {d port : Nat} (f : FifoPacket) (c : s.canonical) (die : d < s.dies.length) :
    ((s.enqueue d port f).die d).router.fifos[port]? = ((s.die d).router.fifos[port]?).map (· ++ [f]) := by
  have before := (State.unitsFreed_editionCount c d f.pkt.edition (· + 1)).fifos
  rw [State.enqueue, State.die_noteOccupancy, State.router_onRouter _ (by simpa using die), before, getElem?_modifyAt,
    if_pos rfl]

theorem State.link_enqueue (s : State) (d port l : Nat) (f : FifoPacket) :
    ((s.enqueue d port f).die d).link l = (s.die d).link l := by
  rw [State.enqueue, State.die_noteOccupancy, State.link_onRouter, State.editionCount, State.link_onRouter]

/-! ### Credit words (R262, R263) -/

theorem State.cap_onLink (s : State) (d l : Nat) (f : Link → Link) (p : Page) : (s.onLink d l f).cap p = s.cap p := by
  have captures := State.die_congr (s := s) (t := s.onLink d l f) (g := Die.captures)
    (map_modifyAt _ _ _ _ fun _ => by rfl) p.die
  rw [State.cap, captures, State.cap]

theorem exec_credit {s : State} {d port l : Nat} (vc : Nat) (w : Word) (die : d < s.dies.length)
    (link : linkOfPort port = some l) (wired : s.wired d l = true) (up : s.linkState d l = .up)
    (idle : (s.cap (linkPage d l)).waiting = []) :
    exec (.credit d port vc w) s = .next (s.onVc d l vc fun c => { c with peerFreed := w }) := by
  have row : exec (.credit d port vc w) s = execCredit d port vc w s := by rfl
  have quiet : ((s.onVc d l vc fun c => { c with peerFreed := w }).cap (linkPage d l)).waiting = [] := by
    rw [State.onVc, State.cap_onLink, idle]
  rw [row, execCredit, atLink_of_wired _ die link wired]
  simp [up, State.flushMarkers, quiet]

/-- Units that a SYNC word shows to be lost are freed (R263). -/
theorem exec_sync {s : State} {d port l vc : Nat} {c : VcCredit} {w : Word} (die : d < s.dies.length)
    (link : linkOfPort port = some l) (wired : s.wired d l = true) (up : s.linkState d l = .up)
    (channel : ((s.die d).link l).vcs[vc]? = some c) (lost : before c.seen w = true) : exec (.sync d port vc w) s =
      .next ((s.onVc d l vc fun c => { c with freed := c.freed + (w - c.seen), seen := w }).count (linkPage d l)
        Ctr.linkCreditResyncUnits (w - c.seen).toNat) := by
  have row : exec (.sync d port vc w) s = execSync d port vc w s := by rfl
  rw [row, execSync, atLink_of_wired _ die link wired]
  simp [up, channel, lost]

/-! ### The timers -/

/-- What one turn of a fold sends, whatever was sent before, is sent by the fold, where no turn takes anything back. -/
theorem State.mem_outbox_foldl {α : Type} {f : State → α → State} {l : List α} {x : α} {o : Output} (member : x ∈ l)
    (sends : ∀ s, o ∈ (f s x).outbox) (keeps : ∀ s y, o ∈ s.outbox → o ∈ (f s y).outbox) (s : State) :
    o ∈ (l.foldl f s).outbox := by
  obtain ⟨before, rest, rfl⟩ := List.append_of_mem member
  rw [List.foldl_append, List.foldl_cons]
  exact List.foldlRecOn (motive := fun t : State => o ∈ t.outbox) rest f (sends _) fun t h y _ => keeps t y h

theorem State.sendControl_outbox (s : State) (d l kind vc value : Nat) :
    (s.sendControl d l kind vc value).outbox = .control d (portOfLink l) (controlWord kind vc value) :: s.outbox := rfl

section Timers

variable {s : State} {d port l vc : Nat} {c : VcCredit} (die : d < s.dies.length) (link : linkOfPort port = some l)
  (wired : s.wired d l = true) (up : s.linkState d l = .up) (channel : ((s.die d).link l).vcs[vc]? = some c)

include die link wired up channel

/-- A CREDIT word goes out for a total that is nonzero. -/
theorem creditReportTimer_sends (total : c.freed ≠ 0) : Completes (.creditReportTimer d port) s fun t =>
    .control d port (controlWord 3 vc c.freed.toNat) ∈ t.outbox := by
  have row : exec (.creditReportTimer d port) s = execCreditReportTimer d port s := by rfl
  rw [execCreditReportTimer, atLink_of_wired _ die link wired, up, if_pos (by decide)] at row
  refine ⟨_, row, State.mem_outbox_foldl (List.mk_mem_zipIdx_iff_getElem?.mpr channel) (fun t => ?_) (fun t y sent => ?_) s⟩
  · rw [if_neg total, State.sendControl_outbox, portOfLink_of_linkOfPort link]
    exact List.mem_cons_self
  · split
    · exact sent
    · exact List.mem_cons_of_mem _ sent

/-- A SYNC word goes out on every virtual channel. -/
theorem syncTimer_sends : Completes (.syncTimer d port) s fun t =>
    .control d port (controlWord 4 vc c.sent.toNat) ∈ t.outbox := by
  have row : exec (.syncTimer d port) s = execSyncTimer d port s := by rfl
  rw [execSyncTimer, atLink_of_wired _ die link wired, up, if_pos (by decide)] at row
  refine ⟨_, row, State.mem_outbox_foldl (List.mk_mem_zipIdx_iff_getElem?.mpr channel) (fun t => ?_) (fun t y sent => ?_) s⟩
  · rw [State.sendControl_outbox, portOfLink_of_linkOfPort link]
    exact List.mem_cons_self
  · exact List.mem_cons_of_mem _ sent

end Timers

end Sys2Proof.Machine

namespace Sys2Proof

open Machine

/-- Settles O33: a frame's units are seen, and then it is put in the FIFO or its units are freed; each word changes its
channel alone; a timer's turn for the channel sends its word. -/
theorem linkWordsKeepCredit : Obligations.LinkWordsKeepCredit := by
  intro s d port l vc c sound die link wired up number channel
  have canonical : s.canonical := sound.1
  have listed : l < (s.die d).links.length := State.length_links sound d ▸ linkOfPort_lt link
  have changed (f : VcCredit → VcCredit) : (((s.onVc d l vc f).die d).link l).vcs[vc]? = some (f c) := by
    rw [State.vc_onVc f die listed, channel, Option.map_some]
  refine ⟨?good, ?bad, ?credit, ?sync, creditReportTimer_sends die link wired up channel,
    syncTimer_sends die link wired up channel⟩
  case good =>
    intro p plain
    obtain ⟨t, within, enters⟩ := State.frameIn_good port vc p canonical plain
    have seen : (s.seeFrame d l vc p).canonical := State.seeFrame_within.canonical canonical
    have length : d < t.dies.length := by simpa [within.length_dies seen, State.seeFrame] using die
    refine ⟨_, exec_frameReceive p _ true die link wired up number, ?_, ?_⟩
    · rw [enters, State.fifos_enqueue _ (within.canonical seen) length, within.router seen,
        State.seeFrame_within.router canonical]
    · rw [enters, State.link_enqueue, within.link seen, State.seeFrame, changed, Option.map_some]
  case bad =>
    intro p crc
    have seen : (s.seeFrame d l vc p).sound := State.seeFrame_within.sound sound
    refine ⟨_, exec_frameReceive p crc false die link wired up number, ?_, ?_⟩
    · rw [State.frameIn_bad vc p crc link]
      exact (State.router_onLink ..).trans (State.router_onLink ..)
    · have length : d < (s.seeFrame d l vc p).dies.length := by simpa [State.seeFrame] using die
      have place : l < ((s.seeFrame d l vc p).die d).links.length := State.length_links seen d ▸ linkOfPort_lt link
      rw [State.frameIn_bad vc p crc link,
        State.vc_onVc (s := (s.seeFrame d l vc p).count (linkPage d l) Ctr.linkCrcDiscards) _ length place, State.die_count,
        State.seeFrame, changed]
      rfl
  case credit => exact fun w idle => ⟨_, exec_credit vc w die link wired up idle, changed _⟩
  case sync => exact fun w lost => ⟨_, exec_sync die link wired up channel lost, changed _⟩

end Sys2Proof
end

section
/-!
Counters that an operation leaves beside those that it counts on other pages (R55, R56, R645).
-/

namespace Sys2Proof.Machine

/-- Counters of different pages lie apart (R56). -/
theorem Page.ctr_ne {p q : Page} (apart : p.addr ≠ q.addr) (j k : Nat) : p.ctr j ≠ q.ctr k := by
  have := p.addr_mod
  have := q.addr_mod
  simp only [Page.ctr]
  omega

/-- From `s` to `t` counter `k` of a page and its capture total stay, and so does the canonical form of the maps. -/
structure State.KeepsCtr (p : Page) (k : Nat) (s t : State) : Prop where
  canonical : t.canonical
  ctr : t.ctr p k = s.ctr p k
  total : t.total p k = s.total p k

namespace State.KeepsCtr

variable {p : Page} {k : Nat} {s t u : State}

theorem refl (c : s.canonical) : State.KeepsCtr p k s s := ⟨c, rfl, rfl⟩

/-- States that share memory, registers and totals. -/
theorem congr (h : State.KeepsCtr p k s t) (mem : u.mem = t.mem) (regs : u.regs = t.regs) (totals : u.totals = t.totals) :
    State.KeepsCtr p k s u := by
  obtain ⟨⟨hm, hr, ht⟩, ctr, total⟩ := h
  refine ⟨⟨mem ▸ hm, regs ▸ hr, totals ▸ ht⟩, ?_, ?_⟩
  · rw [State.ctr, regs, ← State.ctr, ctr]
  · rw [State.total, totals, ← State.total, total]

/-- An operation that counts nothing. -/
theorem within {W : Nat} (h : State.KeepsCtr p k s t) (w : Within W t u)
    (counters : W.testBit Area.counters.bit = false := by decide) : State.KeepsCtr p k s u := by
  obtain ⟨ctr, total⟩ := Area.same_ctr (w.areas .counters counters h.canonical) p k
  exact ⟨w.canonical h.canonical, ctr.trans h.ctr, total.trans h.total⟩

/-- A count on another page. -/
theorem count {q : Page} (h : State.KeepsCtr p k s t) (apart : p.addr ≠ q.addr) (j n : Nat) :
    State.KeepsCtr p k s (t.count q j n) := by
  obtain ⟨ctr, total⟩ := State.ctr_count_ne t q p j k n h.canonical (Page.ctr_ne apart k j)
  exact ⟨State.count_within.canonical h.canonical, ctr.trans h.ctr, total.trans h.total⟩

/-- A level set on another page. -/
theorem setLevel {q : Page} (h : State.KeepsCtr p k s t) (apart : p.addr ≠ q.addr) (j n : Nat) :
    State.KeepsCtr p k s (t.setLevel q j n) := by
  have ne : p.ctr k ≠ q.ctr j := Page.ctr_ne apart k j
  obtain ⟨_, regs, totals⟩ := h.canonical
  refine ⟨State.setLevel_within.canonical h.canonical, .trans ?_ h.ctr, .trans ?_ h.total⟩
  · exact congrArg (·.getD 0) (setOr0_ne _ regs ne)
  · exact congrArg (·.getD 0) (setOr0_ne _ totals ne)

theorem foldl {α : Type} {f : State → α → State} (l : List α) (h : State.KeepsCtr p k s t)
    (step : ∀ u x, State.KeepsCtr p k s u → State.KeepsCtr p k s (f u x)) : State.KeepsCtr p k s (l.foldl f t) :=
  List.foldlRecOn l f h fun u hu x _ => step u x hu

/-- What is counted between two operations that leave the counter. -/
theorem counted {n : Nat} (before : State.KeepsCtr p k s t) (after : State.KeepsCtr p k (t.count p k n) u) :
    Counted p k n s u := by
  obtain ⟨_, regs, totals⟩ := before.canonical
  obtain ⟨counted, totalled⟩ := State.counted_count p k n regs totals
  exact ⟨after.ctr.trans (before.ctr ▸ counted), after.total.trans (before.total ▸ totalled)⟩

/-! ### The shared operations of the forwarding plane -/

/-- A frame sent counts on the page of its Ethernet port alone (R304). -/
theorem sendEth {d e : Nat} (h : State.KeepsCtr p k s t) (apart : p.addr ≠ (ethPage d e).addr) (frame : List Byte) :
    State.KeepsCtr p k s (t.sendEth d e frame) :=
  ((h.count apart Ctr.ethPortTxFrames 1).count apart Ctr.ethPortTxBytes (frame.length + 4)).within State.emit_within

theorem sendPfc {d e : Nat} (h : State.KeepsCtr p k s t) (apart : p.addr ≠ (ethPage d e).addr) (prio time : Nat) :
    State.KeepsCtr p k s (t.sendPfc d e prio time) := by
  unfold State.sendPfc
  split
  · exact h
  · extract_lets times sent
    have frame : State.KeepsCtr p k s sent := (h.count apart Ctr.ethPortTxPfcFrames 1).sendEth apart _
    split
    · exact frame
    · exact frame.count apart _ _

theorem useSub {d e : Nat} (h : State.KeepsCtr p k s t) (apart : p.addr ≠ (ethPage d e).addr) (prio n : Nat) :
    State.KeepsCtr p k s (t.useSub d e prio n) := by
  unfold State.useSub
  extract_lets u gone
  have less : State.KeepsCtr p k s gone := h.within State.onEth_within
  split
  · exact (less.sendPfc apart _ _).within State.setPausing_within
  · exact less

theorem freeUnits {d : Nat} (h : State.KeepsCtr p k s t) (apart : ∀ e, p.addr ≠ (ethPage d e).addr)
    (port vc units : Nat) (origin : Option Nat) : State.KeepsCtr p k s (t.freeUnits d port vc units origin) := by
  unfold State.freeUnits
  extract_lets r kept
  split
  · exact h
  · split
    · exact h.useSub (apart _) _ _
    · split
      · exact h.within State.onVc_within
      · exact h

theorem noteOccupancy {d : Nat} (h : State.KeepsCtr p k s t) (apart : p.addr ≠ (bufferPage d).addr) :
    State.KeepsCtr p k s (t.noteOccupancy d) :=
  (h.setLevel apart _ _).setLevel apart _ _

/-- The packets of a FIFO discarded count on the pages of Ethernet ports and of the packet buffer alone. -/
theorem fifoGone {d : Nat} (h : State.KeepsCtr p k s t) (eth : ∀ e, p.addr ≠ (ethPage d e).addr)
    (buffer : p.addr ≠ (bufferPage d).addr) (i : Nat) (l : List FifoPacket) :
    State.KeepsCtr p k s (t.fifoGone d i l) := by
  unfold State.fifoGone
  refine (foldl l h fun u x hu => ?_).noteOccupancy buffer
  have freed := hu.freeUnits eth x.port x.vc x.units x.origin
  dsimp only
  split
  · exact freed
  · exact freed.within State.editionCount_within

/-! ### First errors (R53, R54, R632) -/

/-- A trigger counts on the die's colophon page alone (R633). -/
theorem trigger {d : Nat} (h : State.KeepsCtr p k s t) (apart : p.addr ≠ (colophonPage d).addr) (out : Bool) :
    State.KeepsCtr p k s (t.trigger d out) := by
  unfold State.trigger State.capture
  refine State.KeepsCtr.within ?_ (State.setReg_own (by decide) (by decide))
  dsimp only
  split
  · have numbered := h.within (State.setReg_own (p := colophonPage d) (off := 0x10C)
      (v := (BitVec.ofNat 32 (t.reg (colophonPage d) 0x108)).toNat) (by decide) (by decide))
    have counted := numbered.count apart Ctr.colophonCapturesTriggered 1
    split <;> exact counted.congr rfl rfl rfl
  · exact h.count apart _ _

theorem error {q : Page} (h : State.KeepsCtr p k s t) (apart : p.addr ≠ (colophonPage q.die).addr)
    (code source data : Nat) : State.KeepsCtr p k s (t.error q code source data) := by
  unfold State.error
  extract_lets recorded raised above
  have record : State.KeepsCtr p k s recorded := h.within State.feRecord_within
  have raise : State.KeepsCtr p k s raised := by
    simp only [raised]
    split
    · exact record
    · exact record.within State.raise_within
  have groups : State.KeepsCtr p k s above := raise.within State.feGroups_within
  split
  · exact record
  · split
    · unfold State.errorTrigger
      dsimp only
      split
      · exact groups.trigger apart true
      · exact groups
    · exact groups

end State.KeepsCtr

/-- The router page of a die lies apart from the pages of its packet buffer, its colophon block and its Ethernet ports
(R35). -/
theorem routerPage_apart (d : Nat) : (routerPage d).addr ≠ (bufferPage d).addr ∧
    (routerPage d).addr ≠ (colophonPage d).addr ∧ ∀ e, (routerPage d).addr ≠ (ethPage d e).addr := by
  simp only [Page.addr, Page.off, PageKind.place]
  refine ⟨?_, ?_, fun e => ?_⟩ <;> omega

end Sys2Proof.Machine
end

section
/-!
The router (R247, R270 to R283): the packet at the front of a FIFO, FIFOs emptied, editions, held ports, and escape moves.
-/

namespace Sys2Proof.Machine

/-! ### What a change of the FIFOs leaves (R274) -/

/-- A router without the packet at the front of a FIFO. -/
def State.setFifo (s : State) (d i : Nat) (l : List FifoPacket) : State :=
  s.onRouter d fun r => { r with fifos := r.fifos.set i l }

theorem State.fifo_setFifo {s : State} {d i : Nat} (l : List FifoPacket) (die : d < s.dies.length)
    (listed : i < (s.die d).router.fifos.length) : ((s.setFifo d i l).die d).router.fifos[i]? = some l := by
  rw [State.setFifo, State.router_onRouter _ die, List.getElem?_set_self listed]

/-- Port choice reads no FIFO. -/
theorem State.choose_setFifo (s : State) (d i : Nat) (l : List FifoPacket) (p : Packet) :
    (s.setFifo d i l).choose d p = s.choose d p := by
  have routes : ((s.setFifo d i l).die d).router.routes = (s.die d).router.routes :=
    State.onRouter_congr (g := Router.routes) (fun _ => by rfl) s d d
  have ports : ((s.setFifo d i l).die d).router.ports = (s.die d).router.ports :=
    State.onRouter_congr (g := Router.ports) (fun _ => by rfl) s d d
  have route : (s.setFifo d i l).route d p = s.route d p := by
    unfold State.route
    rw [routes]
    rfl
  have portState : (s.setFifo d i l).portState d = s.portState d := by
    funext k
    rw [State.portState, ports, State.portState]
  have credit : (s.setFifo d i l).credit d = s.credit d := by
    funext k vc
    unfold State.credit
    split
    · rw [State.setFifo, State.link_onRouter]
    · rfl
  have usable : (s.setFifo d i l).usable d = s.usable d := by
    funext mask
    rw [State.usable, portState, State.usable]
  have pick : (s.setFifo d i l).pickPort d p = s.pickPort d p := by
    funext ok
    unfold State.pickPort
    rw [credit]
    rfl
  unfold State.choose
  rw [route, portState, usable, pick]

/-! ### Routing (R274, R276) -/

/-- A packet of a good header that is neither package control nor to be replicated is routed. -/
theorem State.routeOne_unicast {s : State} {d port : Nat} {x : FifoPacket} (good : s.badHeader d port x.pkt = false)
    (ordinary : isPackageType x.pkt.ptype = false) (single : x.pkt.replicate = false) :
    s.routeOne d port x = s.forward d x.pkt (flowRelay port) x.port x.vc x.units := by
  simp [State.routeOne, good, ordinary, single]

/-- A packet for a consumer of the local port other than transport RX is delivered to it. -/
theorem State.forward_local {s : State} {d : Nat} {p : Packet} (flow inPort vcIn units : Nat)
    (here : s.choose d p = .localPort) (other : p.ptype ≠ ptBrevefold) (live : (s.die d).computeReset = false)
    (awake : (s.die d).power.state ≠ 3) : s.forward d p flow inPort vcIn units =
      ((s.editionCount d p.edition (· - 1)).onRouter d fun r =>
        { r with arrived := r.arrived ++ [⟨p, inPort, vcIn, units, none⟩] }).noteOccupancy d := by
  simp [State.forward, here, other, live, awake]

/-- A packet that waits for the output port chosen, with its id not yet given. -/
def State.waiter (s : State) (p : Packet) (flow inPort vcIn units k mask : Nat) (esc : Option Nat) : HeldPacket where
  id := 0
  pkt := p
  inPort := inPort
  vcIn := vcIn
  units := units
  flow := flow
  port := k
  mask := mask
  escape := esc
  since := s.now

theorem State.forward_port {s : State} {d k mask : Nat} {esc : Option Nat} {p : Packet} (flow inPort vcIn units : Nat)
    (away : s.choose d p = .port k mask esc) (hops : p.hops.toNat ≠ 31) : s.forward d p flow inPort vcIn units =
      s.holdPacket d (s.waiter p flow inPort vcIn units k mask esc) := by
  simp [State.forward, away, hops, State.waiter]

/-- A packet put among those that wait is one of them, under an id of its own, and leaves the FIFOs. -/
theorem State.router_holdPacket {s : State} {d : Nat} (h : HeldPacket) (die : d < s.dies.length) :
    ((s.holdPacket d h).die d).router =
      { (s.die d).router with
        held := (s.die d).router.held ++ [{ h with id := (s.die d).router.nextId }]
        nextId := (s.die d).router.nextId + 1 } := by
  rw [State.holdPacket, State.die_noteOccupancy, State.router_onRouter _ die]

section Front

variable {s : State} {d port : Nat} {x : FifoPacket} {rest : List FifoPacket} (die : d < s.dies.length) (input : port < 7)
  (front : (s.die d).router.fifos[port]? = some (x :: rest)) (good : s.badHeader d port x.pkt = false)
  (ordinary : isPackageType x.pkt.ptype = false) (single : x.pkt.replicate = false)

include die input front good ordinary single

/-- The packet at the front of a FIFO is taken off it and routed. -/
theorem exec_routePacket : exec (.routePacket d port) s =
    .next (((s.setFifo d port rest).forward d x.pkt (flowRelay port) x.port x.vc x.units).noteOccupancy d) := by
  have row : exec (.routePacket d port) s = execRoutePacket d port s := by rfl
  have good' : (s.setFifo d port rest).badHeader d port x.pkt = false := good
  simp only [row, execRoutePacket, atUnit, if_pos die, decide_eq_true input, if_true, front]
  rw [← State.routeOne_unicast good' ordinary single]
  rfl

/-- One for this die goes to the local port. -/
theorem routePacket_local (here : s.choose d x.pkt = .localPort) (other : x.pkt.ptype ≠ ptBrevefold)
    (live : (s.die d).computeReset = false) (awake : (s.die d).power.state ≠ 3) :
    Completes (.routePacket d port) s fun t => (t.die d).router.fifos[port]? = some rest ∧
      (t.die d).router.arrived = (s.die d).router.arrived ++ [⟨x.pkt, x.port, x.vc, x.units, none⟩] := by
  have listed : port < (s.die d).router.fifos.length := (List.getElem?_eq_some_iff.mp front).1
  have same : (s.setFifo d port rest).die d =
      { s.die d with router := { (s.die d).router with fifos := (s.die d).router.fifos.set port rest } } := by
    rw [State.setFifo, State.onRouter, State.die_onDie _ _ _ _ die, if_pos rfl]
  have delivered := State.forward_local (flowRelay port) x.port x.vc x.units
    ((State.choose_setFifo s d port rest x.pkt).trans here) other (by rw [same]; exact live) (by rw [same]; exact awake)
  refine ⟨_, exec_routePacket die input front good ordinary single, ?_⟩
  dsimp only
  rw [delivered, State.die_noteOccupancy, State.die_noteOccupancy,
    State.router_onRouter _ (by simpa [State.setFifo] using die), State.editionCount,
    State.router_onRouter _ (by simpa [State.setFifo] using die), same]
  exact ⟨List.getElem?_set_self listed, rfl⟩

/-- One for another die waits for the output port that its route chooses. -/
theorem routePacket_away {k mask : Nat} {esc : Option Nat} (away : s.choose d x.pkt = .port k mask esc)
    (hops : x.pkt.hops.toNat ≠ 31) : Completes (.routePacket d port) s fun t =>
      (t.die d).router.fifos[port]? = some rest ∧
        ∃ h ∈ (t.die d).router.held, h.pkt = x.pkt ∧ h.port = k ∧ h.drain = false := by
  have listed : port < (s.die d).router.fifos.length := (List.getElem?_eq_some_iff.mp front).1
  have held := State.forward_port (flowRelay port) x.port x.vc x.units
    ((State.choose_setFifo s d port rest x.pkt).trans away) hops
  refine ⟨_, exec_routePacket die input front good ordinary single, ?_⟩
  dsimp only
  rw [held, State.die_noteOccupancy, State.router_holdPacket _ (by simpa [State.setFifo] using die)]
  exact ⟨State.fifo_setFifo rest die listed, _, List.mem_append_right _ List.mem_cons_self, rfl, rfl, rfl⟩

end Front

/-! ### FIFOs emptied (R270, R272) -/

section Fifo

variable {s : State} {d i : Nat} {l : List FifoPacket} (die : d < s.dies.length) (fifo : i < 9)
  (listed : (s.die d).router.fifos[i]? = some l)

include die fifo listed

theorem exec_fifoPointerMismatch : exec (.fifoPointerMismatch d i) s =
    .next ((((s.setFifo d i []).fifoGone d i l).count (routerPage d) Ctr.router0FifoResets).error (routerPage d)
      0x0103) := by
  have row : exec (.fifoPointerMismatch d i) s = execFifoPointerMismatch d i s := by rfl
  simp only [row, execFifoPointerMismatch, atUnit, if_pos die, decide_eq_true fifo, if_true, listed, Option.getD_some]
  rfl

theorem exec_dropRest : exec (.dropRest d i) s = .next ((s.setFifo d i (l.drop 1)).fifoGone d i (l.take 1)) := by
  have row : exec (.dropRest d i) s = execDropRest d i s := by rfl
  simp only [row, execDropRest, atUnit, if_pos die, decide_eq_true fifo, if_true, listed, Option.getD_some]
  rfl

/-- The entries of a FIFO whose pointers disagree are discarded, and one reset of a FIFO is counted (R272). -/
theorem fifoPointerMismatch_empties (c : s.canonical) : Completes (.fifoPointerMismatch d i) s fun t =>
    (t.die d).router.fifos[i]? = some [] ∧ Counted (routerPage d) Ctr.router0FifoResets 1 s t := by
  obtain ⟨buffer, colophon, eth⟩ := routerPage_apart d
  have start : State.KeepsCtr (routerPage d) Ctr.router0FifoResets s (s.setFifo d i []) :=
    (State.KeepsCtr.refl c).congr rfl rfl rfl
  have gone := State.unitsFreed_fifoGone start.canonical d i l
  have counted : (((s.setFifo d i []).fifoGone d i l).count (routerPage d) Ctr.router0FifoResets).canonical :=
    State.count_within.canonical gone.canonical
  refine ⟨_, exec_fifoPointerMismatch die fifo listed, ?_, ?_⟩
  · rw [State.error_within.router counted, State.die_count, gone.fifos]
    exact State.fifo_setFifo [] die (List.getElem?_eq_some_iff.mp listed).1
  · have after := (State.KeepsCtr.refl (p := routerPage d) (k := Ctr.router0FifoResets) counted).error (q := routerPage d)
      colophon 0x0103 0 0
    exact (start.fifoGone eth buffer i l).counted after

/-- The packet being read is discarded (R270). -/
theorem dropRest_drops (c : s.canonical) :
    Completes (.dropRest d i) s fun t => (t.die d).router.fifos[i]? = some (l.drop 1) := by
  have start : (s.setFifo d i (l.drop 1)).canonical := c
  refine ⟨_, exec_dropRest die fifo listed, ?_⟩
  dsimp only
  rw [(State.unitsFreed_fifoGone start d i (l.take 1)).fifos]
  exact State.fifo_setFifo (l.drop 1) die (List.getElem?_eq_some_iff.mp listed).1

end Fifo

/-! ### Held ports and editions (R279, R283) -/

theorem holdExpiry_discards {s : State} {d port : Nat} (sound : s.sound) (die : d < s.dies.length) (output : port < 8)
    (held : s.portState d port = .hold) :
    Completes (.holdExpiry d port) s fun t => t.portState d port = .discard := by
  have row : exec (.holdExpiry d port) s = execHoldExpiry d port s := by rfl
  simp only [execHoldExpiry, atUnit, if_pos die, decide_eq_true output, if_true, held, beq_self_eq_true] at row
  have offered := State.unitsFreed_reoffer (s := s.setPort d port .discard) sound.1 d
  refine ⟨_, row, (offered.portState port).trans (State.portState_setPort .discard die ?_)⟩
  rw [State.length_ports sound]
  exact output

/-- A packet that has left ends its count in its edition after its time. -/
theorem editionCountRelease_releases {s : State} {d n : Nat} {e : Bool} (die : d < s.dies.length)
    (leaving : (s.die d).router.leaving[b2n e]? = some (n + 1)) :
    Completes (.editionCountRelease d e) s fun t => (t.die d).router.leaving[b2n e]? = some n ∧
      (t.die d).router.counts[b2n e]? = ((s.die d).router.counts[b2n e]?).map (· - 1) := by
  have row : exec (.editionCountRelease d e) s = execEditionCountRelease d e s := by rfl
  simp only [execEditionCountRelease, atDie, if_pos die, leaving, Option.getD_some, Nat.succ_ne_zero, if_false] at row
  refine ⟨_, row, ?_⟩
  dsimp only
  rw [State.editionCount, State.router_onRouter _ (by simpa using die), State.router_onRouter _ die]
  simp [getElem?_modifyAt, leaving]

/-! ### Escape moves (R275) -/

/-- A waiting packet moved to its escape channel on port `k`. -/
def HeldPacket.escaped (h : HeldPacket) (k : Nat) : HeldPacket :=
  { h with pkt := { h.pkt with escape := true }, port := k, mask := 2 ^ k }

/-- A packet that waits without credit on any port of its primary set moves to its escape channel, where it has credit. -/
theorem escapeWaitExpiry_moves {s : State} {d port k : Nat} {h : HeldPacket} (die : d < s.dies.length) (output : port < 8)
    (waits : h ∈ (s.die d).router.held) (only : ∀ g ∈ (s.die d).router.held, g.id = h.id → g = h) (place : h.port = port)
    (escape : h.escape = some k) (fresh : h.pkt.escape = false) (active : h.drain = false)
    (ordinary : isPackageType h.pkt.ptype = false)
    (stuck : ∀ j ∈ s.usable d h.mask, s.hasCredit d j (packetVc h.pkt) h.pkt = false) (up : s.portState d k = .up)
    (room : s.hasCredit d k (packetVc (h.escaped k).pkt) (h.escaped k).pkt = true) :
    Completes (.escapeWaitExpiry d port (2 ^ 18 + h.id)) s fun t => h.escaped k ∈ (t.die d).router.held := by
  have row : exec (.escapeWaitExpiry d port (2 ^ 18 + h.id)) s = execEscapeWaitExpiry d port (2 ^ 18 + h.id) s := by rfl
  have found : ((s.die d).router.held.find? fun g => g.id == 2 ^ 18 + h.id - 262144 && g.port == port) = some h := by
    have number : 2 ^ 18 + h.id - 262144 = h.id := by omega
    cases search : (s.die d).router.held.find? fun g => g.id == 2 ^ 18 + h.id - 262144 && g.port == port with
    | none =>
      have none := List.find?_eq_none.mp search h waits
      simp [place] at none
    | some g =>
      have same := List.find?_some search
      simp only [number, Bool.and_eq_true, beq_iff_eq] at same
      rw [only g (List.mem_of_find?_eq_some search) same.1]
  have none : ((s.usable d h.mask).all fun j => !s.hasCredit d j (packetVc h.pkt) h.pkt) = true :=
    List.all_eq_true.mpr fun j hj => by rw [stuck j hj]; rfl
  have room' : s.hasCredit d k (packetVc { h.pkt with escape := true }) { h.pkt with escape := true } = true := room
  have router : 262144 ≤ 2 ^ 18 + h.id := by omega
  simp only [execEscapeWaitExpiry, atUnit, if_pos die, decide_eq_true output, if_true, if_pos router, found, escape, fresh,
    active, ordinary, none, up, room', Bool.not_true, Bool.or_self, Bool.false_eq_true, if_false, bne_self_eq_false] at row
  refine ⟨_, row, ?_⟩
  dsimp only
  rw [State.die_count, State.router_onRouter _ die]
  exact List.mem_map.mpr ⟨h, waits, if_pos rfl⟩

end Sys2Proof.Machine

namespace Sys2Proof

open Machine

/-- Settles O35: each event of the router leaves what its lemma above says. -/
theorem routerMovesPackets : Obligations.RouterMovesPackets := by
  refine ⟨fun s d sound die => ⟨?route, ?fifo, ?hold, ?release⟩, ?escape⟩
  case route =>
    intro port x rest input front good ordinary single
    exact ⟨fun here other live awake => routePacket_local die input front good ordinary single here other live awake,
      fun k mask esc away hops => routePacket_away die input front good ordinary single away hops⟩
  case fifo =>
    exact fun i l fifo listed =>
      ⟨fifoPointerMismatch_empties die fifo listed sound.1, dropRest_drops die fifo listed sound.1⟩
  case hold => exact fun port output held => holdExpiry_discards sound die output held
  case release => exact fun e n leaving => editionCountRelease_releases die leaving
  case escape =>
    intro s d port k h die output waits only place escape fresh active ordinary stuck up room
    exact escapeWaitExpiry_moves die output waits only place escape fresh active ordinary stuck up room

end Sys2Proof
end

section
/-!
The states of Alram ports and quire links (R252, R261, R266).
-/

namespace Sys2Proof.Machine

theorem atAlram_of_lt {s : State} {d k : Nat} (r : State) (die : d < s.dies.length) (port : k < 2) :
    atAlram s d k r = .next r := by
  simp [atAlram, atUnit, die, port]

theorem atQuire_of_wired {s : State} {d k : Nat} (r : State) (die : d < s.dies.length)
    (wired : s.wired d (k + 2) = true) : atQuire s d k r = .next r := by
  simp [atQuire, atUnit, die, wired]

/-! ### A link reached, and a link lost -/

/-- A link that has reached UP is in that state, and holds what it held but for units freed. -/
theorem State.butFreed_linkReach {s : State} {d l : Nat} (c : s.canonical) (die : d < s.dies.length)
    (link : l < (s.die d).links.length) :
    (((s.linkReach d l).die d).link l).butFreed = Link.butFreed { (s.die d).link l with state := .up } := by
  have reached : (s.onLink d l fun x => { x with state := .up }).canonical := c
  have used := (State.portUp_within (d := d) (port := portOfLink l)).canonical reached
  rw [State.linkReach, State.raise_within.link used, State.butFreed_portUp reached, State.link_onLink _ die link]

/-- A link whose virtual channels are replaced, and its peer's endpoint with them. -/
def State.giveVcs (s : State) (d l : Nat) (vcs : List VcCredit) (peer : Link → Nat) : State :=
  s.onLink d l fun x => { x with vcs := vcs, peer := peer x }

/-- A link given channels that all hold their INIT word is UP with them. -/
theorem State.linkReach_giveVcs {s : State} {d l : Nat} {vcs : List VcCredit} (peer : Link → Nat) (sound : s.sound)
    (die : d < s.dies.length) (link : l < 6) (inits : ∀ c ∈ vcs, c.initIn = true) :
    ((s.giveVcs d l vcs peer).linkReach d l).linkState d l = .up ∧
      ((((s.giveVcs d l vcs peer).linkReach d l).die d).link l).vcs.length = vcs.length ∧
      ∀ c ∈ ((((s.giveVcs d l vcs peer).linkReach d l).die d).link l).vcs, c.initIn = true := by
  have given : (s.giveVcs d l vcs peer).sound := State.onLink_within.sound sound
  have link' : ((s.giveVcs d l vcs peer).die d).link l = { (s.die d).link l with vcs := vcs, peer := peer ((s.die d).link l) } :=
    State.link_onLink _ die (by rw [State.length_links sound]; exact link)
  have up := State.butFreed_linkReach given.1 (by simpa [State.giveVcs] using die)
    (by rw [State.length_links given]; exact link)
  rw [link'] at up
  have same := Link.vcs_of_butFreed VcCredit.initIn (fun _ => rfl) up
  refine ⟨Link.state_of_butFreed up, by simpa using congrArg List.length same, fun c listed => ?_⟩
  have member : c.initIn ∈ vcs.map VcCredit.initIn := same ▸ List.mem_map_of_mem listed
  obtain ⟨c', listed', eq⟩ := List.mem_map.mp member
  exact eq ▸ inits c' listed'

/-- A link as it leaves its state for DOWN, and at once for TRAINING or DISABLED. -/
def State.dropLink (s : State) (d l : Nat) (enabled : Bool) : State :=
  s.onLink d l fun x =>
    freshVcs l { x with state := if enabled then .training else .disabled, reversed := false, lanes := 0 }

theorem State.linkState_dropLink {s : State} {d l : Nat} (enabled : Bool) (die : d < s.dies.length)
    (link : l < (s.die d).links.length) :
    (s.dropLink d l enabled).linkState d l = if enabled then .training else .disabled := by
  rw [State.linkState, State.dropLink, State.link_onLink _ die link, freshVcs]
  split <;> rfl

/-- A link that is not UP only changes its state. -/
theorem State.linkDrop_of_not_up {s : State} {d l : Nat} (enabled : Bool) (down : s.linkState d l ≠ .up) :
    s.linkDrop d l enabled = s.dropLink d l enabled := by
  have away : (s.linkState d l == .up) = false := beq_false_of_ne down
  simp only [State.linkDrop, away, Bool.false_eq_true, if_false]
  rfl

/-- A link that was UP takes its port down, and its wire closes. -/
theorem State.linkDrop_of_up {s : State} {d l : Nat} (enabled : Bool) (up : s.linkState d l = .up) :
    s.linkDrop d l enabled = (((((s.closeWire (linkPage d l)).dropLink d l enabled).count (linkPage d l)
      Ctr.linkLinkDowns).portDown d (portOfLink l)).raise (linkPage d l) 1) := by
  simp only [State.linkDrop, up, beq_self_eq_true, if_true]
  rfl

section Drop

variable {s : State} {d l : Nat} (enabled : Bool) (sound : s.sound) (die : d < s.dies.length) (link : l < 6)

include sound die link

/-- What the loss of a link that was UP leaves of its port and its state. -/
theorem State.linkDrop_up (up : s.linkState d l = .up) :
    (s.linkDrop d l enabled).portState d (portOfLink l) ≠ .up ∧
      (s.linkDrop d l enabled).linkState d l = if enabled then .training else .disabled := by
  have closed : (s.closeWire (linkPage d l)).sound := State.closeWire_within.sound sound
  have dropped : Within 134217736 (s.closeWire (linkPage d l)) (((s.closeWire (linkPage d l)).dropLink d l enabled).count
      (linkPage d l) Ctr.linkLinkDowns) :=
    State.count_within.step (by decide) (State.onLink_within.mono (by decide))
  have sound' := dropped.sound closed
  have length := (State.closeWire_within (p := linkPage d l)).length_dies sound.1
  have die' : d < (s.closeWire (linkPage d l)).dies.length := length ▸ die
  have down := (State.portDown_within (d := d) (port := portOfLink l)).canonical sound'.1
  rw [State.linkDrop_of_up enabled up]
  constructor
  · have router := (State.raise_within (p := linkPage d l) (mask := 1)).router down d
    rw [State.portState, router, ← State.portState]
    refine State.portDown_leaves_up sound'.1 (dropped.length_dies closed.1 ▸ die') ?_
    rw [State.length_ports sound', portOfLink]
    split <;> omega
  · rw [State.linkState, State.raise_within.link down, Link.state_of_butFreed (State.butFreed_portDown sound'.1 ..),
      State.die_count]
    exact State.linkState_dropLink enabled die' (State.length_links closed d ▸ link)

theorem State.linkState_linkDrop :
    (s.linkDrop d l enabled).linkState d l = if enabled then .training else .disabled := by
  by_cases up : s.linkState d l = .up
  · exact (State.linkDrop_up enabled sound die link up).2
  · rw [State.linkDrop_of_not_up enabled up]
    exact State.linkState_dropLink enabled die (State.length_links sound d ▸ link)

end Drop

theorem State.linkState_linkTrain {s : State} {d l : Nat} (die : d < s.dies.length)
    (link : l < (s.die d).links.length) : (s.linkTrain d l).linkState d l = .training := by
  rw [State.linkState, State.linkTrain, State.link_onLink _ die link, freshVcs]
  split <;> rfl

/-! ### INIT words (R261) -/

/-- Words sent on a link change no die, and there are as many as turns. -/
theorem State.sendControls {f : State → Nat → State}
    (sends : ∀ s n, (f s n).dies = s.dies ∧ (f s n).outbox.length = s.outbox.length + 1) :
    ∀ (l : List Nat) (s : State), (l.foldl f s).dies = s.dies ∧ (l.foldl f s).outbox.length = s.outbox.length + l.length
  | [], _ => ⟨rfl, rfl⟩
  | n :: l, s => by
    obtain ⟨dies, outbox⟩ := State.sendControls sends l (f s n)
    obtain ⟨die, word⟩ := sends s n
    refine ⟨dies.trans die, ?_⟩
    rw [List.foldl_cons, outbox, word, List.length_cons]
    omega

/-- A link in CREDIT_INIT sends an INIT word for every virtual channel, and its totals start from zero. -/
theorem State.creditInit_starts {s : State} {d l : Nat} (die : d < s.dies.length) (link : l < (s.die d).links.length) :
    (s.creditInit d l).linkState d l = .creditInit ∧ (((s.creditInit d l).die d).link l).vcs.length = linkVcs l ∧
      (s.creditInit d l).outbox.length = s.outbox.length + linkVcs l := by
  unfold State.creditInit
  extract_lets started
  have starts : (started.die d).link l = _ := State.link_onLink _ die link
  obtain ⟨dies, outbox⟩ := State.sendControls (f := fun s vc =>
    s.sendControl d l 5 vc (s.endpoint d * 2 ^ 32 + s.creditGrant d l vc)) (fun _ _ => ⟨rfl, rfl⟩)
    (List.range (linkVcs l)) started
  rw [List.length_range] at outbox
  rw [State.linkState, State.die, dies, ← State.die, starts]
  exact ⟨rfl, List.length_replicate, outbox⟩

/-- A link that has taken an INIT word: the peer's endpoint, and the grant of a virtual channel. -/
def State.takeInit (s : State) (d l vc : Nat) (endpoint : BitVec 18) (grant : BitVec 16) : State :=
  (s.onLink d l fun x => { x with peer := endpoint.toNat }).onVc d l vc fun c =>
    { c with granted := grant.toNat, initIn := true }

theorem State.takeInit_within {s : State} {d l vc : Nat} {endpoint : BitVec 18} {grant : BitVec 16} :
    Within 134217728 s (s.takeInit d l vc endpoint grant) :=
  State.onVc_within.step (by decide) State.onLink_within

section Init

variable {s : State} {d k vc : Nat} (endpoint : BitVec 18) (grant : BitVec 16) (die : d < s.dies.length) (port : k < 2)

include die port

theorem State.link_takeInit (sound : s.sound) : ((s.takeInit d k vc endpoint grant).die d).link k =
    { (s.die d).link k with
      peer := endpoint.toNat
      vcs := modifyAt ((s.die d).link k).vcs vc fun c => { c with granted := grant.toNat, initIn := true } } := by
  have link : k < (s.die d).links.length := by rw [State.length_links sound]; omega
  have named : (s.onLink d k fun x => { x with peer := endpoint.toNat }).sound := State.onLink_within.sound sound
  have link' := State.length_links named d
  rw [State.takeInit, State.onVc, State.link_onLink _ (by simpa using die) (by omega), State.link_onLink _ die link]

/-- An INIT word of a link in CREDIT_INIT is kept, and the last one takes the link to UP. -/
theorem exec_init (init : s.linkState d k = .creditInit) : exec (.init d k vc endpoint grant) s =
    .next (if (((s.takeInit d k vc endpoint grant).die d).link k).vcs.all (·.initIn) then
      (s.takeInit d k vc endpoint grant).linkReach d k else s.takeInit d k vc endpoint grant) := by
  have row : exec (.init d k vc endpoint grant) s = execInit d k vc endpoint grant s := by rfl
  rw [row, execInit, atLink_of_wired (l := k) _ die (by simp [linkOfPort, port]) (by simp [State.wired, port])]
  simp only [init, beq_self_eq_true, Bool.true_or, Bool.true_and, if_true]
  rfl

theorem init_keeps (sound : s.sound) (init : s.linkState d k = .creditInit) (channel : vc < ((s.die d).link k).vcs.length) :
    Completes (.init d k vc endpoint grant) s fun t => ((t.die d).link k).peer = endpoint.toNat ∧
      ((((t.die d).link k).vcs[vc]?).map fun c => (c.granted, c.initIn)) = some (grant.toNat, true) ∧
      ((∀ j c, ((s.die d).link k).vcs[j]? = some c → j ≠ vc → c.initIn = true) → t.linkState d k = .up) := by
  have taken := State.link_takeInit (vc := vc) endpoint grant die port sound
  have sound' : (s.takeInit d k vc endpoint grant).sound := State.takeInit_within.sound sound
  have die' : d < (s.takeInit d k vc endpoint grant).dies.length := by simpa [State.takeInit] using die
  have link' : k < ((s.takeInit d k vc endpoint grant).die d).links.length := by rw [State.length_links sound']; omega
  have kept : ((((s.takeInit d k vc endpoint grant).die d).link k).vcs.map fun c => (c.granted, c.initIn))[vc]? =
      some (grant.toNat, true) := by
    rw [List.getElem?_map, taken, getElem?_modifyAt, if_pos rfl, List.getElem?_eq_getElem channel]
    rfl
  refine ⟨_, exec_init endpoint grant die port init, ?_⟩
  split
  next all =>
    have reached := State.butFreed_linkReach sound'.1 die' link'
    refine ⟨(Link.peer_of_butFreed reached).trans (by rw [taken]), ?_, fun _ => Link.state_of_butFreed reached⟩
    rw [← List.getElem?_map, Link.vcs_of_butFreed (fun c => (c.granted, c.initIn)) (fun _ => rfl) reached]
    exact kept
  next some =>
    refine ⟨by rw [taken], by rw [← List.getElem?_map]; exact kept, fun others => absurd ?_ some⟩
    rw [List.all_eq_true, taken]
    intro c listed
    obtain ⟨j, at_⟩ := List.mem_iff_getElem?.mp listed
    rw [getElem?_modifyAt] at at_
    split at at_
    · obtain ⟨c', _, rfl⟩ := Option.map_eq_some_iff.mp at_
      rfl
    · exact others j c at_ ‹_›

end Init

/-! ### ENABLE (R252) -/

theorem bit_mod (v n : Nat) (low : n < 64) : bit (v % 2 ^ 64) n = bit v n := by
  rw [bit_eq_testBit, bit_eq_testBit, Nat.testBit_mod_two_pow, decide_eq_true low, Bool.true_and]

/-- A register set reads as the bits of the value. -/
theorem State.bit_setReg {s : State} (c : s.canonical) (p : Page) (off v n : Nat) (low : n < 64) :
    bit ((s.setReg p off v).reg p off) n = bit v n := by
  obtain ⟨_, regs, _⟩ := c
  have value : (s.setReg p off v).reg p off % 2 ^ 64 = v % 2 ^ 64 := by
    simpa only [BitVec.toNat_ofNat] using congrArg BitVec.toNat (State.reg_setReg_self s p off v regs)
  rw [← bit_mod _ n low, value, bit_mod v n low]

theorem bit_setBits_self (x n : Nat) (b : Bool) : bit (setBits x n n (b2n b)) n = b := by
  have low : x / 2 ^ n % 2 * 2 ^ n ≤ x :=
    Nat.le_trans (Nat.mul_le_mul_right _ (Nat.mod_le _ 2)) (Nat.div_mul_le_self x (2 ^ n))
  have value : setBits x n n (b2n b) = x - x / 2 ^ n % 2 * 2 ^ n + b2n b * 2 ^ n := by
    have width : n + 1 - n = 1 := by omega
    cases b <;> simp [setBits, bits, width, b2n]
  have high : setBits x n n (b2n b) / 2 ^ n = x / 2 ^ n - x / 2 ^ n % 2 + b2n b := by
    rw [value, Nat.add_mul_div_right _ _ (Nat.two_pow_pos n), Nat.mul_comm _ (2 ^ n), Nat.sub_mul_div]
  rw [bit, high]
  cases b <;> simp only [b2n, Bool.false_eq_true, if_false, if_true, beq_iff_eq, beq_eq_false_iff_ne] <;> omega

theorem linkPage_alram (d : Nat) {k : Nat} (port : k < 2) : linkPage d k = ⟨d, .alram, k⟩ := by
  rw [linkPage, if_pos port]

/-- What leaves the registers of a link's page leaves its ENABLE. -/
theorem Within.linkEnabled {W : Nat} {s t : State} (w : Within W s t) (c : s.canonical) (d l : Nat)
    (own : W.testBit Area.ownRegs.bit = false := by decide) : t.linkEnabled d l = s.linkEnabled d l := by
  rw [State.linkEnabled, Area.same_reg (w.areas .ownRegs own c) w.part _ (by decide) (by decide), State.linkEnabled]

/-- The register that holds a link's ENABLE with that bit written. -/
def State.putEnable (s : State) (d l : Nat) (v : Bool) : State :=
  s.setReg (linkPage d l) 0x100 (setBits (s.reg (linkPage d l) 0x100) 31 31 (b2n v))

theorem State.putEnable_within {s : State} {d l : Nat} {v : Bool} : Within 2 s (s.putEnable d l v) :=
  State.setReg_own (by decide) (by decide)

@[simp] theorem State.putEnable_dies (s : State) (d l : Nat) (v : Bool) : (s.putEnable d l v).dies = s.dies := by
  rw [State.putEnable, State.setReg_dies]

theorem State.linkEnabled_putEnable {s : State} (c : s.canonical) (d l : Nat) (v : Bool) :
    (s.putEnable d l v).linkEnabled d l = v := by
  rw [State.linkEnabled, State.putEnable, State.bit_setReg c _ _ _ _ (by decide), bit_setBits_self]

theorem State.enableLink_eq (s : State) (d l : Nat) (v : Bool) : s.enableLink d l v =
    if v then
      if s.linkState d l == .disabled && s.wired d l then (s.putEnable d l v).linkTrain d l else s.putEnable d l v
    else if s.linkState d l == .disabled then s.putEnable d l v else (s.putEnable d l v).linkDrop d l false := rfl

section Enable

variable {s : State} {d k : Nat} (sound : s.sound) (die : d < s.dies.length) (port : k < 2) (host : s.hostReady)
  (takes : s.takes ⟨d, .alram, k⟩)

include die port host takes

theorem exec_linkEnable : exec (.linkEnable d k) s = .next (s.enableLink d k true) := by
  have row : exec (.linkEnable d k) s = execLinkEnable d k s := by rfl
  rw [row, execLinkEnable, atLink_of_wired (l := k) _ die (by simp [linkOfPort, port]) (by simp [State.wired, port]),
    State.fromFn_of_hostReady host, State.guarded_of_takes (linkPage_alram d port ▸ takes)]

theorem exec_linkDisable : exec (.linkDisable d k) s = .next (s.enableLink d k false) := by
  have row : exec (.linkDisable d k) s = execLinkDisable d k s := by rfl
  rw [row, execLinkDisable, atLink_of_wired (l := k) _ die (by simp [linkOfPort, port]) (by simp [State.wired, port]),
    State.fromFn_of_hostReady host, State.guarded_of_takes (linkPage_alram d port ▸ takes)]

include sound

/-- A DISABLED Alram port that is enabled trains. -/
theorem linkEnable_trains (disabled : s.linkState d k = .disabled) : Completes (.linkEnable d k) s fun t =>
    t.linkEnabled d k = true ∧ t.linkState d k = .training := by
  have put : (s.putEnable d k true).sound := State.putEnable_within.sound sound
  have trains : s.enableLink d k true = (s.putEnable d k true).linkTrain d k := by
    simp only [State.enableLink_eq, disabled, beq_self_eq_true, Bool.true_and, if_true, State.wired, decide_eq_true port,
      Bool.true_or]
  refine ⟨_, exec_linkEnable die port host takes, ?_⟩
  rw [trains]
  refine ⟨?_, State.linkState_linkTrain (by simpa using die) (by rw [State.length_links put]; omega)⟩
  exact (State.linkTrain_within.linkEnabled put.1 d k).trans (State.linkEnabled_putEnable sound.1 d k true)

/-- An Alram port whose ENABLE is cleared is DISABLED. -/
theorem linkDisable_disables : Completes (.linkDisable d k) s fun t =>
    t.linkEnabled d k = false ∧ t.linkState d k = .disabled := by
  have put : (s.putEnable d k false).sound := State.putEnable_within.sound sound
  have cleared := State.linkEnabled_putEnable sound.1 d k false
  refine ⟨_, exec_linkDisable die port host takes, ?_⟩
  by_cases disabled : s.linkState d k = .disabled
  · have stays : s.enableLink d k false = s.putEnable d k false := by
      simp only [State.enableLink_eq, disabled, beq_self_eq_true, Bool.false_eq_true, if_false, if_true]
    rw [stays]
    refine ⟨cleared, ?_⟩
    rw [State.linkState, State.die, State.putEnable_dies]
    exact disabled
  · have drops : s.enableLink d k false = (s.putEnable d k false).linkDrop d k false := by
      simp only [State.enableLink_eq, beq_false_of_ne disabled, Bool.false_eq_true, if_false]
    rw [drops]
    exact ⟨(State.linkDrop_within.linkEnabled put.1 d k).trans cleared,
      State.linkState_linkDrop false put (by simpa using die) (by omega)⟩

end Enable

/-! ### The rows of Alram ports -/

section Alram

variable {s : State} {d k : Nat} (die : d < s.dies.length) (port : k < 2)

include die port

theorem alramTrainingDone_aligns (sound : s.sound) (r : Bool) (training : s.linkState d k = .training) :
    Completes (.alramTrainingDone d k r) s fun t =>
      t.linkState d k = .align ∧ ((t.die d).link k).reversed = r := by
  have row : exec (.alramTrainingDone d k r) s = execAlramTrainingDone d k r s := by rfl
  rw [execAlramTrainingDone, atAlram_of_lt _ die port, training, if_pos (by decide)] at row
  have aligned := State.link_onLink (fun x => { x with state := .align, reversed := r }) die
    (by rw [State.length_links sound]; omega : k < (s.die d).links.length)
  exact ⟨_, row, congrArg Link.state aligned, congrArg Link.reversed aligned⟩

theorem alramAlignLock_sends (sound : s.sound) (align : s.linkState d k = .align) :
    Completes (.alramAlignLock d k) s fun t => t.linkState d k = .creditInit ∧
      ((t.die d).link k).vcs.length = 10 ∧ t.outbox.length = s.outbox.length + 10 := by
  have row : exec (.alramAlignLock d k) s = execAlramAlignLock d k s := by rfl
  rw [execAlramAlignLock, atAlram_of_lt _ die port, align, if_pos (by decide)] at row
  have starts := State.creditInit_starts die (by rw [State.length_links sound]; omega : k < (s.die d).links.length)
  rw [linkVcs, if_pos port] at starts
  exact ⟨_, row, starts⟩

theorem alramLinkDown_trains (sound : s.sound) (active : s.linkState d k ≠ .disabled) (enabled : s.linkEnabled d k = true) :
    Completes (.alramLinkDown d k) s fun t =>
      t.linkState d k = .training ∧ (s.linkState d k = .up → t.portState d k ≠ .up) := by
  have row : exec (.alramLinkDown d k) s = execAlramLinkDown d k s := by rfl
  rw [execAlramLinkDown, atAlram_of_lt _ die port, beq_false_of_ne active, if_neg (by decide), enabled] at row
  refine ⟨_, row, State.linkState_linkDrop true sound die (by omega), fun up => ?_⟩
  have down := (State.linkDrop_up true sound die (by omega : k < 6) up).1
  rwa [portOfLink, if_pos port] at down

end Alram

/-! ### The rows of quire links -/

section Quire

variable {s : State} {d k : Nat} (sound : s.sound) (die : d < s.dies.length) (wired : s.wired d (k + 2) = true)
  (link : k < 4)

include sound die wired link

/-- A quire link that has ended its training is UP with credit for every virtual channel (R266). -/
theorem quireLinkUp_reaches (training : s.linkState d (k + 2) = .training) (enabled : s.linkEnabled d (k + 2) = true) :
    Completes (.quireLinkUp d k) s fun t => t.linkState d (k + 2) = .up ∧ ((t.die d).link (k + 2)).vcs.length = 11 ∧
      ∀ c ∈ ((t.die d).link (k + 2)).vcs, c.initIn = true := by
  have row : exec (.quireLinkUp d k) s = execQuireLinkUp d k s := by rfl
  rw [execQuireLinkUp, atQuire_of_wired _ die wired, training, enabled, if_pos (by decide)] at row
  extract_lets d' l' seen vcs at row
  have inits : ∀ c ∈ vcs, c.initIn = true := by
    intro c listed
    obtain ⟨vc, _, rfl⟩ := List.mem_map.mp listed
    split
    · split
      · assumption
      · rfl
    · rfl
  have length : vcs.length = 11 := by simp [vcs]
  have given := State.linkReach_giveVcs (l := k + 2) (fun x => if seen.any (·.initIn) then x.peer else s.endpoint d') sound
    die (by omega) inits
  exact ⟨_, row, length ▸ given⟩

/-- A quire link that is lost goes DOWN and trains again where it is enabled. -/
theorem quireLinkDown_drops (up : s.linkState d (k + 2) = .up) : Completes (.quireLinkDown d k) s fun t =>
    t.portState d (k + 3) ≠ .up ∧
      t.linkState d (k + 2) = if s.linkEnabled d (k + 2) then .training else .disabled := by
  have row : exec (.quireLinkDown d k) s = execQuireLinkDown d k s := by rfl
  rw [execQuireLinkDown, atQuire_of_wired _ die wired, up, if_neg (by decide)] at row
  exact ⟨_, row, State.linkDrop_up (s.linkEnabled d (k + 2)) sound die (by omega) up⟩

theorem quireRetrainTimeout_trains (down : s.linkState d (k + 2) ≠ .up) (active : s.linkState d (k + 2) ≠ .disabled) :
    Completes (.quireRetrainTimeout d k) s fun t => t.linkState d (k + 2) = .training := by
  have row : exec (.quireRetrainTimeout d k) s = execQuireRetrainTimeout d k s := by rfl
  have trains : (s.linkState d (k + 2) == .up || s.linkState d (k + 2) == .disabled) = false := by simp [down, active]
  rw [execQuireRetrainTimeout, atQuire_of_wired _ die wired] at row
  simp only [trains, Bool.false_eq_true, if_false] at row
  exact ⟨_, row, State.linkState_linkTrain die (by rw [State.length_links sound]; omega)⟩

end Quire

end Sys2Proof.Machine

namespace Sys2Proof

open Machine

/-- Settles O32: each event of a link leaves what its lemma above says. -/
theorem linksTrain : Obligations.LinksTrain := by
  refine ⟨fun s d k sound die port => ?alram, fun s d k sound die link wired => ?quire⟩
  case alram =>
    refine ⟨alramTrainingDone_aligns die port sound, alramAlignLock_sends die port sound, ?init,
      alramLinkDown_trains die port sound, fun host takes => ?enable⟩
    case init => exact fun vc e g init channel => init_keeps e g die port sound init channel
    case enable =>
      exact ⟨linkEnable_trains sound die port host takes, linkDisable_disables sound die port host takes⟩
  case quire =>
    exact ⟨quireLinkUp_reaches sound die wired link, quireLinkDown_drops sound die wired link,
      quireRetrainTimeout_trains sound die wired link⟩

end Sys2Proof
end

section
/-!
Alram operations (R253 to R258): a walk cache that holds more than the 1,024 table pointers of R336 loses one between the two
translations of a write, and the write is not made.
-/

namespace Sys2Proof.Machine

/-! ### A write whose second translation faults (R176, R337) -/

/-- A range within one block is one part. -/
theorem blocks_of_le {a n : Nat} (some : 0 < n) (fits : a % 4096 + n ≤ 4096) : blocks a n = [(0, n)] := by
  have part : min n (4096 - a % 4096) = n := by omega
  simp only [blocks, cutBlocks, if_neg (Nat.ne_of_gt some), part, Nat.sub_self, if_true]

/-- A write within one block is translated to see that it can be made whole, and translated again to be made: where the
second translation faults, it leaves memory as it is. -/
theorem State.writeWhole_faults {s : State} {d e f offset k : Nat} {bs : List Byte} {t : Translation} (c : s.canonical)
    (data : 0 < bs.length) (fits : offset % 4096 + bs.length ≤ 4096)
    (first : (s.translate d e f offset true).1 = .found t)
    (second : ((s.translate d e f offset true).2.translate d e f offset true).1 = .fault k) :
    ∃ u, s.writeWhole d e f offset bs = (.fault k offset, u) ∧ u.mem = s.mem := by
  obtain ⟨w, s1, checked⟩ : ∃ w s1, s.translate d e f offset true = (w, s1) := ⟨_, _, rfl⟩
  obtain ⟨w', u, written⟩ : ∃ w' u, s1.translate d e f offset true = (w', u) := ⟨_, _, rfl⟩
  have once : Within 268435464 s s1 := State.translate_within.ofPair checked
  have twice : Within 268435464 s1 u := State.translate_within.ofPair written
  rw [checked] at first second
  rw [written] at second
  obtain rfl : w = .found t := first
  obtain rfl : w' = .fault k := second
  refine ⟨u, ?_, (twice.areas .memory (by decide) (once.canonical c)).trans (once.areas .memory (by decide) c)⟩
  simp only [State.writeWhole, State.write, blocks_of_le data fits, State.translateParts, State.writeParts, Nat.add_zero,
    checked, written]

/-! ### A walk through the walk cache, and one from the root (R334, R336) -/

/-- The memory of the counterexample: one writable third-level entry, for the first 32 MiB of HBM. -/
def oneEntry : List Host.Cell := [(4096, 0x13)]

/-- The page that the entry describes. -/
def entryPage : Translation where
  fn := 0
  base := 0
  log2 := 25
  tier := 0
  frame := 0
  writable := true
  countEn := false

/-- The pointer to the table of that entry, for the PF. -/
def entryPointer : WalkPointer where
  fn := 0
  level := 2
  tag := 0
  table := 4096

/-- A table pointer of another function. -/
def otherPointer : WalkPointer where
  fn := 1
  level := 1
  tag := 0
  table := 0

/-- What the PF's walk of offset 0 at die 0 reads beside the walk cache: that memory, no granule held by a VF, the PF's root
in memory that holds no entry, and no translation cache for Alram operations. -/
structure State.OneEntry (s : State) : Prop where
  part : s.part = .rf8
  mem : s.mem = oneEntry
  granules : s.granules = []
  root : FMap.get? (s.die 0).xlate.roots 0 = some 8192
  uncached : (s.die 0).xlate.caches[10]? = none

namespace State.OneEntry

variable {s : State} (h : s.OneEntry)

include h

/-- Through the pointer the walk finds the entry. -/
theorem walk_hit (hit : (s.die 0).xlate.walks.find? (fun p => p.fn == 0 && p.level == 2 && p.tag == 0 / 2 ^ 30) =
    some entryPointer) : s.walk 0 0 0 true = (.found entryPage, 1, []) := by
  have entry : fromLE (s.bytes 0 4096 8) = 0x13 := by
    rw [State.bytes, h.mem]
    decide
  have region : inDeviceRegion s.part 0 33554432 = false := by
    rw [h.part]
    decide
  have owned : s.owns 0 0 0 33554432 = true := by simp [State.owns, State.granuleFn, h.granules, FMap.get?]
  have leaf : s.leafOut 0 0 0 3 0x13 true = .found entryPage := by
    simp [State.leafOut, pageLog2, bits, bit, region, owned, entryPage]
  have index : bits 0 29 25 = 0 := by decide
  have good : bit 0x13 0 = true ∧ badEntry 3 0x13 = false ∧ bit 0x13 1 = true := by decide
  obtain ⟨valid, formed, isLeaf⟩ := good
  simp only [State.walk, h.root, hit]
  simp [State.walkFrom, entryPointer, index, entry, valid, formed, isLeaf, leaf]

/-- Without a pointer the walk begins at the root, and faults there. -/
theorem walk_miss (miss : ∀ p ∈ (s.die 0).xlate.walks, p.fn ≠ 0) : s.walk 0 0 0 true = (.fault 1, 1, []) := by
  have entry : fromLE (s.bytes 0 (8192 + 8 * 0) 8) = 0 := by
    rw [State.bytes, h.mem]
    decide
  have none (k n : Nat) : ((s.die 0).xlate.walks.find? fun p => p.fn == 0 && p.level == k && p.tag == n) = none :=
    List.find?_eq_none.mpr fun p hp => by simp [miss p hp]
  have index : bits 0 45 34 = 0 := by decide
  have invalid : bit 0 0 = false := by decide
  simp only [State.walk, h.root, none]
  simp [State.walkFrom, index, entry, invalid]

/-- An Alram operation is translated by a walk. -/
theorem translate_eq : s.translate 0 10 0 0 true = s.demandWalk 0 10 0 0 true := by
  simp [State.translate, State.cached, h.uncached]

end State.OneEntry

/-- The block after reset, but for that memory and the walk cache of die 0. -/
def walkState (walks : List WalkPointer) : State :=
  { State.reset with
    mem := oneEntry
    dies := { Die.reset with xlate := { roots := [(0, 8192)], walks := walks } } :: List.replicate 7 Die.reset }

theorem walkState_sound (walks : List WalkPointer) : (walkState walks).sound := by
  have maps : Memory.wf oneEntry = true ∧ FMap.wf ([] : List (Nat × Word64)) = true ∧
    FMap.wf ([] : List (Nat × Word64)) = true := by decide
  exact ⟨maps, rfl⟩

theorem walkState_oneEntry (walks : List WalkPointer) : (walkState walks).OneEntry := ⟨rfl, rfl, rfl, rfl, rfl⟩

/-- A walk cache that holds one pointer more than the 1,024 of R336, the one of the PF last. -/
def crowdedWalks : List WalkPointer := List.replicate 1024 otherPointer ++ [entryPointer]

/-- What the first translation of the write leaves: the walk through the last pointer adds none, and the cache is cut to
1,024 pointers. -/
def State.walked (s : State) : State :=
  ((s.count (xlatePage 0) Ctr.xlateWalks).count (xlatePage 0) Ctr.xlateWalkReads 1).installWalk 0 []

theorem translate_crowded :
    (walkState crowdedWalks).translate 0 10 0 0 true = (.found entryPage, (walkState crowdedWalks).walked) := by
  have h := walkState_oneEntry crowdedWalks
  have hit : crowdedWalks.find? (fun p => p.fn == 0 && p.level == 2 && p.tag == 0 / 2 ^ 30) = some entryPointer := by
    have others : (List.replicate 1024 otherPointer).find?
        (fun p => p.fn == 0 && p.level == 2 && p.tag == 0 / 2 ^ 30) = none :=
      List.find?_eq_none.mpr fun p listed => by
        rw [List.eq_of_mem_replicate listed]
        decide
    rw [crowdedWalks, List.find?_append, others]
    rfl
  rw [h.translate_eq, State.demandWalk, h.walk_hit hit]
  rfl

theorem translate_crowded_again : ((walkState crowdedWalks).walked.translate 0 10 0 0 true).1 = .fault 1 := by
  have h : (walkState crowdedWalks).walked.OneEntry := ⟨rfl, rfl, rfl, rfl, rfl⟩
  have walks : ((walkState crowdedWalks).walked.die 0).xlate.walks = crowdedWalks.take 1024 := rfl
  have others : ∀ p ∈ crowdedWalks.take 1024, p.fn ≠ 0 := by
    rw [crowdedWalks, List.take_left' List.length_replicate]
    intro p listed
    rw [List.eq_of_mem_replicate listed]
    decide
  rw [h.translate_eq, State.demandWalk, h.walk_miss (walks ▸ others)]

/-! ### The write that is not made -/

/-- A write of one byte at offset 0, by the endpoint attached to Alram port 0 of die 0, for the PF. -/
def oneByteWrite : Packet := ownPacket 0 0 0 ptAlramWrite (alramHeader 0 0 0 0 false 0 ++ [1])

/-- What a write is checked for, which this one passes (R253 to R255). -/
theorem oneByteWrite_good : alramBad oneByteWrite false = false ∧ alramData oneByteWrite = some [1] ∧
    alramRange (aAddress oneByteWrite).toNat 1 = true ∧ gaOffset (aAddress oneByteWrite) = 0 := by decide

theorem walkState_takes (walks : List WalkPointer) : (walkState walks).alramBound 0 0 oneByteWrite = true ∧
    gaEndpoint (aAddress oneByteWrite) = (walkState walks).endpoint 0 ∧ (walkState walks).portPartition 0 0 = 0 ∧
    (walkState walks).takeLocal 0 oneByteWrite = walkState walks := by
  have reset : State.reset.alramBound 0 0 oneByteWrite = true ∧
    gaEndpoint (aAddress oneByteWrite) = State.reset.endpoint 0 ∧ State.reset.portPartition 0 0 = 0 := by decide
  obtain ⟨bound, endpoint, partition⟩ := reset
  exact ⟨bound, endpoint, partition, rfl⟩

theorem exec_alramWrite_crowded : ∃ t, exec (.alramWrite 0 0 oneByteWrite) (walkState crowdedWalks) = .next t ∧
    t.mem = oneEntry := by
  obtain ⟨u, faults, mem⟩ := State.writeWhole_faults (bs := [1]) (walkState_sound crowdedWalks).1 (by decide) (by decide)
    (congrArg Prod.fst translate_crowded) (by rw [translate_crowded]; exact translate_crowded_again)
  obtain ⟨good, data, range, offset⟩ := oneByteWrite_good
  obtain ⟨bound, endpoint, partition, takes⟩ := walkState_takes crowdedWalks
  have row : exec (.alramWrite 0 0 oneByteWrite) (walkState crowdedWalks) =
    execAlramWrite 0 0 oneByteWrite (walkState crowdedWalks) := by rfl
  refine ⟨u.opDrop 0 0, ?_, mem⟩
  rw [row, execAlramWrite, atAlram_of_lt _ (by decide) (by decide)]
  simp only [takes, good, bound, data, List.length_singleton, range, offset, endpoint, partition, faults, bne_self_eq_false,
    Bool.not_true, Bool.or_self, Bool.false_eq_true, if_false]

end Sys2Proof.Machine

namespace Sys2Proof

open Machine

/-- Refutes O34: `State.sound` does not bound the walk cache, and in a state that holds 1,025 table pointers the write of one
byte translates when it is checked and faults when it is made, so the byte stays 0. -/
theorem not_alramOperationsReachMemory : ¬ Obligations.AlramOperationsReachMemory := by
  intro h
  obtain ⟨t, runs, mem⟩ := exec_alramWrite_crowded
  obtain ⟨good, data, range, offset⟩ := oneByteWrite_good
  obtain ⟨bound, endpoint, partition, _⟩ := walkState_takes crowdedWalks
  have reaches : (walkState crowdedWalks).reaches 0 10 ((walkState crowdedWalks).portPartition 0 0)
      (gaOffset (aAddress oneByteWrite)) 1 true 0 := by
    rw [partition, offset]
    exact ⟨by decide, by decide, ⟨entryPage, congrArg Prod.fst translate_crowded, by decide⟩, by decide, by decide⟩
  obtain ⟨t', runs', stored⟩ := ((h (walkState crowdedWalks) 0 0 0 oneByteWrite [1] (walkState_sound _) (by decide)
    (by decide)).1 good bound endpoint).1 data range reaches
  obtain rfl : t = t' := Host.Outcome.next.inj (runs.symm.trans runs')
  have zero : t.byte 0 0 = 0 := by
    rw [State.byte, mem]
    decide
  exact absurd (zero.symm.trans (stored 0 (by decide))) (by decide)

end Sys2Proof
end

section
/-!
The Ethernet ports of a die (chapter 8) under the shared operations of the forwarding plane: what an update of a port leaves,
and what frames that leave the ingress pool leave of a port's link (R298, R309, R312).
-/

namespace Sys2Proof.Machine

/-! ### Ethernet ports by their die -/

theorem atEth_of_lt {s : State} {d k : Nat} (r : State) (die : d < s.dies.length) (port : k < s.ethPorts d) :
    atEth s d k r = .next r := by
  simp [atEth, atUnit, die, port]

theorem State.length_eth {s : State} (sound : s.sound) (d : Nat) : (s.die d).eth.length = 4 := by
  have units := State.units_die sound d
  simp only [Die.units, List.cons.injEq] at units
  obtain ⟨_, _, _, _, _, eth, _⟩ := units
  exact eth

@[simp] theorem State.ethPort_count (s : State) (p : Page) (j n d k : Nat) : (s.count p j n).ethPort d k = s.ethPort d k := rfl

theorem State.ethPort_onEth_self {s : State} {d k : Nat} (f : EthPort → EthPort) (sound : s.sound) (die : d < s.dies.length)
    (port : k < 4) : (s.onEth d k f).ethPort d k = f (s.ethPort d k) := by
  have listed : k < (s.die d).eth.length := by rwa [State.length_eth sound]
  rw [State.ethPort, State.onEth, State.die_onDie _ _ _ _ die, if_pos rfl, State.ethPort]
  simp only [getElem?_modifyAt, if_true, List.getElem?_eq_getElem listed, Option.map_some, Option.getD_some]

/-- A port after a change of some port is as it was, or changed. -/
theorem State.ethPort_onEth_or (s : State) (d k : Nat) (f : EthPort → EthPort) (e j : Nat) :
    (s.onEth d k f).ethPort e j = s.ethPort e j ∨ (s.onEth d k f).ethPort e j = f (s.ethPort e j) := by
  by_cases die : d < s.dies.length
  · rw [State.ethPort, State.onEth, State.die_onDie _ _ _ _ die]
    split
    · next same =>
      subst same
      rw [getElem?_modifyAt, State.ethPort]
      cases (s.die e).eth[j]? with
      | none => simp
      | some x =>
        split
        · exact .inr rfl
        · exact .inl rfl
    · exact .inl rfl
  · have absent : s.onEth d k f = s := by
      simp only [State.onEth, State.onDie, modifyAt, List.getElem?_eq_none (Nat.le_of_not_lt die)]
    exact .inl (congrArg (·.ethPort e j) absent)

theorem Within.ethPort {W : Nat} {s t : State} (w : Within W s t) (c : s.canonical) (d k : Nat)
    (ethernet : W.testBit Area.ethernet.bit = false := by decide) : t.ethPort d k = s.ethPort d k := by
  rw [State.ethPort, State.die_congr (w.areas .ethernet ethernet c) d, State.ethPort]

/-- What leaves the registers of a port's page leaves its ENABLE. -/
theorem Within.ethEnabled {W : Nat} {s t : State} (w : Within W s t) (c : s.canonical) (d k : Nat)
    (own : W.testBit Area.ownRegs.bit = false := by decide) : t.ethEnabled d k = s.ethEnabled d k := by
  rw [State.ethEnabled, Area.same_reg (w.areas .ownRegs own c) w.part _ (by decide) (by decide), State.ethEnabled]

/-! ### Frames that leave the ingress pool (R309, R312) -/

/-- An Ethernet port but for what it holds in the ingress pool and the pauses that this calls for. -/
def EthPort.butPool (x : EthPort) : EthPort := { x with usage := [], pausing := 0 }

theorem EthPort.state_of_butPool {x y : EthPort} (h : x.butPool = y.butPool) : x.state = y.state :=
  (congrArg EthPort.state h :)

theorem EthPort.lanes_of_butPool {x y : EthPort} (h : x.butPool = y.butPool) : x.lanes = y.lanes :=
  (congrArg EthPort.lanes h :)

theorem EthPort.remoteFault_of_butPool {x y : EthPort} (h : x.butPool = y.butPool) : x.remoteFault = y.remoteFault :=
  (congrArg EthPort.remoteFault h :)

/-- Frames that leave the ingress pool lead from `s` to `t`: a port's link is the same, and a port that holds its peer paused
for no priority begins no pause. -/
structure State.PoolFreed (d k : Nat) (s t : State) : Prop where
  canonical : t.canonical
  link : (t.ethPort d k).butPool = (s.ethPort d k).butPool
  quiet : (s.ethPort d k).pausing = 0 → (t.ethPort d k).pausing = 0

theorem State.PoolFreed.refl {s : State} (c : s.canonical) (d k : Nat) : State.PoolFreed d k s s := ⟨c, rfl, id⟩

theorem State.PoolFreed.trans {d k : Nat} {s t u : State} (h : State.PoolFreed d k s t) (g : State.PoolFreed d k t u) :
    State.PoolFreed d k s u :=
  ⟨g.canonical, g.link.trans h.link, fun quiet => g.quiet (h.quiet quiet)⟩

/-- States of which a port is the same. -/
theorem State.PoolFreed.of_eq {d k : Nat} {s t : State} (c : t.canonical) (same : t.ethPort d k = s.ethPort d k) :
    State.PoolFreed d k s t :=
  ⟨c, congrArg _ same, fun quiet => by rw [same, quiet]⟩

/-- An operation outside the Ethernet ports. -/
theorem Within.poolFreed {W : Nat} {s t : State} (w : Within W s t) (c : s.canonical) (d k : Nat)
    (ethernet : W.testBit Area.ethernet.bit = false := by decide) : State.PoolFreed d k s t :=
  .of_eq (w.canonical c) (w.ethPort c d k ethernet)

theorem State.poolFreed_onRouter {s : State} (c : s.canonical) (d k e : Nat) (f : Router → Router) :
    State.PoolFreed d k s (s.onRouter e f) := by
  refine .of_eq c ?_
  have same : ((s.onRouter e f).die d).eth = (s.die d).eth :=
    State.die_congr (g := Die.eth) (map_modifyAt _ _ _ _ fun _ => by rfl) d
  rw [State.ethPort, same, State.ethPort]

/-- A change of a port that keeps its link and begins no pause. -/
theorem State.poolFreed_onEth {s : State} {f : EthPort → EthPort} (c : s.canonical) (d k e j : Nat)
    (link : ∀ x, (f x).butPool = x.butPool) (quiet : ∀ x, x.pausing = 0 → (f x).pausing = 0) :
    State.PoolFreed d k s (s.onEth e j f) := by
  rcases State.ethPort_onEth_or s e j f d k with same | changed
  · exact .of_eq c same
  · exact ⟨c, changed ▸ link _, fun none => changed ▸ quiet _ none⟩

theorem State.poolFreed_useSub {s : State} (c : s.canonical) (d k e j p n : Nat) :
    State.PoolFreed d k s (s.useSub e j p n) := by
  unfold State.useSub
  extract_lets u gone
  have less : State.PoolFreed d k s gone := State.poolFreed_onEth c d k e j (fun _ => rfl) fun _ none => none
  split
  · have sent := less.trans (State.sendPfc_within.poolFreed less.canonical d k : State.PoolFreed d k gone (gone.sendPfc e j p 0))
    have cleared (x : EthPort) (none : x.pausing = 0) : setBits x.pausing p p (b2n false) = 0 := by
      simp [none, setBits, b2n]
    exact sent.trans (State.poolFreed_onEth sent.canonical d k e j (fun _ => rfl) cleared)
  · exact less

theorem State.poolFreed_freeUnits {s : State} (c : s.canonical) (d k e port vc units : Nat) (origin : Option Nat) :
    State.PoolFreed d k s (s.freeUnits e port vc units origin) := by
  unfold State.freeUnits
  extract_lets r kept
  split
  · exact .refl c d k
  · split
    · exact State.poolFreed_useSub c d k e _ _ _
    · split
      · exact State.onVc_within.poolFreed c d k
      · exact .refl c d k

theorem State.poolFreed_discard {s : State} (c : s.canonical) (d k e : Nat) (p : Packet) (port vc units ctr : Nat)
    (origin : Option Nat) : State.PoolFreed d k s (s.discard e p port vc units ctr origin) := by
  have counted : State.PoolFreed d k s (s.count (routerPage e) ctr) := State.count_within.poolFreed c d k
  have freed := counted.trans (State.poolFreed_freeUnits counted.canonical d k e port vc units origin)
  exact freed.trans (State.editionCount_within.poolFreed freed.canonical d k)

/-- Packets offered again, some of which are discarded (R283, R676). -/
theorem State.poolFreed_reoffer {s : State} (c : s.canonical) (d k e : Nat) : State.PoolFreed d k s (s.reoffer e) := by
  unfold State.reoffer
  extract_lets again hs kept
  have discarded : State.PoolFreed d k s ((hs.filter fun h => (again h).isNone).foldl
      (fun s h => s.discard e h.pkt h.inPort h.vcIn h.units Ctr.router0DrainDiscards h.origin) kept) :=
    List.foldlRecOn _ _ (State.poolFreed_onRouter c d k e _) fun _ freed h _ =>
      freed.trans (State.poolFreed_discard freed.canonical d k e h.pkt h.inPort h.vcIn h.units _ h.origin)
  exact discarded.trans (State.noteOccupancy_within.poolFreed discarded.canonical d k)

theorem State.poolFreed_portDown {s : State} (c : s.canonical) (d k e port : Nat) :
    State.PoolFreed d k s (s.portDown e port) := by
  unfold State.portDown
  split
  · have held := State.poolFreed_onRouter c d k e fun r => { r with ports := r.ports.set port .hold }
    exact held.trans (State.poolFreed_reoffer held.canonical d k e)
  · exact .refl c d k

theorem State.poolFreed_portUp {s : State} (c : s.canonical) (d k e port : Nat) :
    State.PoolFreed d k s (s.portUp e port) := by
  unfold State.portUp
  split
  · have used := State.poolFreed_onRouter c d k e fun r => { r with ports := r.ports.set port .up }
    exact used.trans (State.poolFreed_reoffer used.canonical d k e)
  · exact .refl c d k

end Sys2Proof.Machine
end

section
/-!
The states of an Ethernet port (R298, R299).
-/

namespace Sys2Proof.Machine

/-! ### A port lost -/

/-- A port as it leaves its state for DOWN, and at once for TRAINING or DISABLED. -/
def State.dropEth (s : State) (d k : Nat) (fault enabled : Bool) : State :=
  s.onEth d k fun x =>
    { x with state := if enabled then .training else .disabled, reversed := false, lanes := 0, remoteFault := fault
             pausing := 0, rxPause := List.replicate 8 0 }

/-- What else the loss of a port does, a router port taken down among it, leaves the port's link. -/
theorem State.poolFreed_ethDrop {s : State} (c : s.canonical) (d k : Nat) (fault enabled : Bool) :
    State.PoolFreed d k (s.dropEth d k fault enabled) (s.ethDrop d k fault enabled) := by
  unfold State.ethDrop
  extract_lets up dropped raised
  have drops : dropped.canonical := State.onEth_within.canonical c
  have raises : State.PoolFreed d k dropped raised :=
    (State.raise_within.step (by decide) (State.count_within.mono (by decide)) : Within 4108 dropped raised).poolFreed drops d k
  split
  · split
    · exact raises.trans (State.poolFreed_portDown raises.canonical d k d 2)
    · exact raises
  · exact .refl drops d k

section Port

variable {s : State} {d k : Nat} (sound : s.sound) (die : d < s.dies.length) (four : k < 4)

include sound die four

theorem State.ethPort_ethDrop (fault enabled : Bool) :
    ((s.ethDrop d k fault enabled).ethPort d k).state = (if enabled then .training else .disabled) ∧
      ((s.ethDrop d k fault enabled).ethPort d k).remoteFault = fault ∧
      ((s.ethDrop d k fault enabled).ethPort d k).pausing = 0 := by
  have dropped : (s.dropEth d k fault enabled).ethPort d k = _ := State.ethPort_onEth_self _ sound die four
  have freed := State.poolFreed_ethDrop sound.1 d k fault enabled
  refine ⟨?_, ?_, freed.quiet (by rw [dropped])⟩
  · rw [EthPort.state_of_butPool freed.link, dropped]
  · rw [EthPort.remoteFault_of_butPool freed.link, dropped]

theorem State.ethPort_ethTrain : (s.ethTrain d k).ethPort d k =
    { s.ethPort d k with state := .training, reversed := false, lanes := 0 } :=
  State.ethPort_onEth_self _ sound die four

/-! ### Training and alignment -/

variable (port : k < s.ethPorts d)

include port

theorem ethTrainingDone_aligns (r : Bool) (training : (s.ethPort d k).state = .training) :
    Completes (.ethTrainingDone d k r) s fun t => (t.ethPort d k).state = .align ∧ (t.ethPort d k).reversed = r := by
  have row : exec (.ethTrainingDone d k r) s = execEthTrainingDone d k r s := by rfl
  rw [execEthTrainingDone, atEth_of_lt _ die port, training, if_pos (by decide)] at row
  have aligned := State.ethPort_onEth_self (fun x => { x with state := .align, reversed := r }) sound die four
  exact ⟨_, row, congrArg EthPort.state aligned, congrArg EthPort.reversed aligned⟩

theorem ethTrainingTimeout_restarts (training : (s.ethPort d k).state = .training) :
    Completes (.ethTrainingTimeout d k) s fun t => (t.ethPort d k).state = .training ∧
      (t.ethPort d k).reversed = false ∧ (t.ethPort d k).lanes = 0 := by
  have row : exec (.ethTrainingTimeout d k) s = execEthTrainingTimeout d k s := by rfl
  rw [execEthTrainingTimeout, atEth_of_lt _ die port, training, if_pos (by decide)] at row
  have trains := State.ethPort_ethTrain sound die four
  exact ⟨_, row, congrArg EthPort.state trains, congrArg EthPort.reversed trains, congrArg EthPort.lanes trains⟩

/-- A port that has locked is UP with the lanes of its mode, and takes router port 2 up with it if it is the first. -/
theorem ethAlignLock_reaches (align : (s.ethPort d k).state = .align) : Completes (.ethAlignLock d k) s fun t =>
    (t.ethPort d k).state = .up ∧ (t.ethPort d k).lanes = s.ethLanes d k := by
  have row : exec (.ethAlignLock d k) s = execEthAlignLock d k s := by rfl
  rw [execEthAlignLock, atEth_of_lt _ die port, align, if_pos (by decide)] at row
  extract_lets first locked at row
  have reached := State.ethPort_onEth_self
    (fun x => { x with state := .up, lanes := s.ethLanes d k, remoteFault := false }) sound die four
  have locks : locked.ethPort d k = _ :=
    (State.raise_within.ethPort (State.onEth_within.canonical sound.1) d k).trans reached
  have canonical : locked.canonical := State.raise_within.canonical (State.onEth_within.canonical sound.1)
  have link : ((if first then locked.portUp d 2 else locked).ethPort d k).butPool = (locked.ethPort d k).butPool := by
    split
    · exact (State.poolFreed_portUp canonical d k d 2).link
    · rfl
  refine ⟨_, row, ?_, ?_⟩
  · rw [EthPort.state_of_butPool link, locks]
  · rw [EthPort.lanes_of_butPool link, locks]

theorem ethAlignTimeout_drops (align : (s.ethPort d k).state = .align) : Completes (.ethAlignTimeout d k) s fun t =>
    (t.ethPort d k).state = if s.ethEnabled d k then .training else .disabled := by
  have row : exec (.ethAlignTimeout d k) s = execEthAlignTimeout d k s := by rfl
  rw [execEthAlignTimeout, atEth_of_lt _ die port, align, if_pos (by decide)] at row
  obtain ⟨state, _, _⟩ := State.ethPort_ethDrop sound die four false (s.ethEnabled d k)
  exact ⟨_, row, state⟩

theorem ethLinkDown_drops (fault : Bool) (up : (s.ethPort d k).state = .up) : Completes (.ethLinkDown d k fault) s fun t =>
    (t.ethPort d k).state = (if s.ethEnabled d k then .training else .disabled) ∧
      (t.ethPort d k).remoteFault = fault ∧ (t.ethPort d k).pausing = 0 := by
  have row : exec (.ethLinkDown d k fault) s = execEthLinkDown d k fault s := by rfl
  rw [execEthLinkDown, atEth_of_lt _ die port, State.ethUp, up, if_pos (by decide)] at row
  exact ⟨_, row, State.ethPort_ethDrop sound die four fault (s.ethEnabled d k)⟩

end Port

/-! ### ENABLE (R298) -/

/-- The register that holds a port's ENABLE with that bit written. -/
def State.putEthEnable (s : State) (d k : Nat) (v : Bool) : State :=
  s.setReg (ethPage d k) 0x100 (setBits (s.reg (ethPage d k) 0x100) 31 31 (b2n v))

theorem State.putEthEnable_within {s : State} {d k : Nat} {v : Bool} : Within 2 s (s.putEthEnable d k v) :=
  State.setReg_own (by decide) (by decide)

@[simp] theorem State.putEthEnable_dies (s : State) (d k : Nat) (v : Bool) : (s.putEthEnable d k v).dies = s.dies := by
  rw [State.putEthEnable, State.setReg_dies]

theorem State.ethEnabled_putEthEnable {s : State} (c : s.canonical) (d k : Nat) (v : Bool) :
    (s.putEthEnable d k v).ethEnabled d k = v := by
  rw [State.ethEnabled, State.putEthEnable, State.bit_setReg c _ _ _ _ (by decide), bit_setBits_self]

theorem State.enableEth_eq (s : State) (d k : Nat) (v : Bool) : s.enableEth d k v =
    if v then
      if (s.ethPort d k).state == .disabled then (s.putEthEnable d k v).ethTrain d k else s.putEthEnable d k v
    else if (s.ethPort d k).state == .disabled then s.putEthEnable d k v else (s.putEthEnable d k v).ethDrop d k false false :=
  rfl

theorem exec_portEnable {s : State} {d k : Nat} (die : d < s.dies.length) (port : k < s.ethPorts d) (host : s.hostReady)
    (takes : s.takes (ethPage d k)) (enable : Bool) : exec (.portEnable d k enable) s = .next (s.enableEth d k enable) := by
  have row : exec (.portEnable d k enable) s = execPortEnable d k enable s := by rfl
  rw [row, execPortEnable, atEth_of_lt _ die port, State.fromFn_of_hostReady host, State.guarded_of_takes takes]

section Enable

variable {s : State} {d k : Nat} (sound : s.sound) (die : d < s.dies.length) (four : k < 4) (port : k < s.ethPorts d)
  (host : s.hostReady) (takes : s.takes (ethPage d k))

include sound die four port host takes

/-- A DISABLED port that is enabled trains. -/
theorem portEnable_trains (disabled : (s.ethPort d k).state = .disabled) : Completes (.portEnable d k true) s fun t =>
    t.ethEnabled d k = true ∧ (t.ethPort d k).state = .training := by
  have put : (s.putEthEnable d k true).sound := State.putEthEnable_within.sound sound
  have trains : s.enableEth d k true = (s.putEthEnable d k true).ethTrain d k := by
    simp only [State.enableEth_eq, disabled, beq_self_eq_true, if_true]
  refine ⟨_, exec_portEnable die port host takes true, ?_⟩
  rw [trains]
  refine ⟨(State.ethTrain_within.ethEnabled put.1 d k).trans (State.ethEnabled_putEthEnable sound.1 d k true), ?_⟩
  rw [State.ethPort_ethTrain put (by simpa using die) four]

/-- A port whose ENABLE is cleared is DISABLED. -/
theorem portEnable_disables : Completes (.portEnable d k false) s fun t =>
    t.ethEnabled d k = false ∧ (t.ethPort d k).state = .disabled := by
  have put : (s.putEthEnable d k false).sound := State.putEthEnable_within.sound sound
  have cleared := State.ethEnabled_putEthEnable sound.1 d k false
  refine ⟨_, exec_portEnable die port host takes false, ?_⟩
  by_cases disabled : (s.ethPort d k).state = .disabled
  · have stays : s.enableEth d k false = s.putEthEnable d k false := by
      simp only [State.enableEth_eq, disabled, beq_self_eq_true, Bool.false_eq_true, if_false, if_true]
    rw [stays]
    exact ⟨cleared, (congrArg EthPort.state (State.putEthEnable_within.ethPort sound.1 d k)).trans disabled⟩
  · have drops : s.enableEth d k false = (s.putEthEnable d k false).ethDrop d k false false := by
      simp only [State.enableEth_eq, beq_false_of_ne disabled, Bool.false_eq_true, if_false]
    obtain ⟨state, _, _⟩ := State.ethPort_ethDrop put (by simpa using die) four false false
    rw [drops]
    exact ⟨(State.ethDrop_within.ethEnabled put.1 d k).trans cleared, state⟩

end Enable

end Sys2Proof.Machine

namespace Sys2Proof

open Machine

/-- Settles O36: each event of a port leaves what its lemma above says. -/
theorem ethernetPortsTrain : Obligations.EthernetPortsTrain := by
  intro s d k sound die four port
  refine ⟨ethTrainingDone_aligns sound die four port, ethTrainingTimeout_restarts sound die four port,
    ethAlignLock_reaches sound die four port, ethAlignTimeout_drops sound die four port,
    ethLinkDown_drops sound die four port, fun host takes => ?enable⟩
  case enable =>
    exact ⟨portEnable_trains sound die four port host takes, portEnable_disables sound die four port host takes⟩

end Sys2Proof
end

section
/-!
Counters of an Ethernet port beside those that an operation of the port counts (R55, R56, R309, R312).
-/

namespace Sys2Proof.Machine

/-- Counters of one page lie apart (R56). -/
theorem Page.ctr_ne_self (p : Page) {j k : Nat} (apart : k % 128 ≠ j % 128) : p.ctr k ≠ p.ctr j := by
  simp only [Page.ctr]
  omega

/-- The page of an Ethernet port lies apart from the page of the packet buffer (R35). -/
theorem ethPage_ne_bufferPage (d k : Nat) : (ethPage d k).addr ≠ (bufferPage d).addr := by
  simp only [Page.addr, Page.off, PageKind.place]
  omega

namespace State.KeepsCtr

/-- A count of another counter of the page. -/
theorem countOther {p : Page} {j k : Nat} {s t : State} (h : State.KeepsCtr p k s t) (apart : k % 128 ≠ j % 128) (n : Nat) :
    State.KeepsCtr p k s (t.count p j n) := by
  obtain ⟨ctr, total⟩ := State.ctr_count_ne t p p j k n h.canonical (p.ctr_ne_self apart)
  exact ⟨State.count_within.canonical h.canonical, ctr.trans h.ctr, total.trans h.total⟩

variable {d e k : Nat} {s t : State} (h : State.KeepsCtr (ethPage d e) k s t)

include h

/-- A frame sent counts TX_FRAMES and TX_BYTES of its port alone (R304). -/
theorem sendEthOwn (low : 3 ≤ k) (high : k < 128) (frame : List Byte) :
    State.KeepsCtr (ethPage d e) k s (t.sendEth d e frame) := by
  have frames := h.countOther (j := Ctr.ethPortTxFrames) (by simp only [Ctr.ethPortTxFrames]; omega) 1
  have bytes := frames.countOther (j := Ctr.ethPortTxBytes) (by simp only [Ctr.ethPortTxBytes]; omega) (frame.length + 4)
  exact bytes.within State.emit_within

/-- XOFF_SENT_PRIO follows every other counter of its port. -/
theorem xoffSent (high : k < 32) {prio : Nat} (lossless : prio < 8) (n : Nat) :
    State.KeepsCtr (ethPage d e) k s (t.count (ethPage d e) (Ctr.ethPortXoffSentPrio + prio) n) :=
  h.countOther (by simp only [Ctr.ethPortXoffSentPrio]; omega) n

/-- A PFC frame counts no counter of frames received. -/
theorem sendPfcOwn (low : 4 ≤ k) (high : k < 32) {prio : Nat} (lossless : prio < 8) (time : Nat) :
    State.KeepsCtr (ethPage d e) k s (t.sendPfc d e prio time) := by
  unfold State.sendPfc
  split
  · exact h
  · extract_lets times sent
    have pfc := h.countOther (j := Ctr.ethPortTxPfcFrames) (by simp only [Ctr.ethPortTxPfcFrames]; omega) 1
    have frame : State.KeepsCtr (ethPage d e) k s sent := pfc.sendEthOwn (by omega) (by omega) _
    split
    · exact frame
    · exact frame.xoffSent high lossless 1

/-- A frame admitted to the pool counts no counter of frames received. -/
theorem useAddOwn (low : 4 ≤ k) (high : k < 32) {prio : Nat} (lossless : prio < 8) (n : Nat) :
    State.KeepsCtr (ethPage d e) k s (t.useAdd d e prio n) := by
  unfold State.useAdd
  extract_lets u held
  have holds : State.KeepsCtr (ethPage d e) k s held := h.within State.onEth_within
  split
  · exact (holds.sendPfcOwn low high lossless _).within State.setPausing_within
  · exact holds

end State.KeepsCtr

end Sys2Proof.Machine
end

section
/-!
Frames received (R307 to R310), PTP frames (R316), and priority flow control (R311 to R315) of the Ethernet ports.
-/

namespace Sys2Proof.Machine

/-! ### A frame admitted (R307 to R310) -/

/-- A packet that enters the input FIFO of router port 2, counted in its edition (R278). -/
def State.enterEth (s : State) (d : Nat) (f : FifoPacket) : State :=
  (s.editionCount d f.pkt.edition (· + 1)).onRouter d fun r => { r with fifos := modifyAt r.fifos 2 (· ++ [f]) }

theorem State.enterEth_within {s : State} {d : Nat} {f : FifoPacket} : Within 67108864 s (s.enterEth d f) :=
  State.onRouter_step (by decide) (fun _ => ⟨length_modifyAt _ _ _, rfl⟩) State.editionCount_within

theorem State.fifos_enterEth {s : State} {d : Nat} (f : FifoPacket) (c : s.canonical) (die : d < s.dies.length) :
    ((s.enterEth d f).die d).router.fifos[2]? = ((s.die d).router.fifos[2]?).map (· ++ [f]) := by
  have before := (State.unitsFreed_editionCount c d f.pkt.edition (· + 1)).fifos
  rw [State.enterEth, State.router_onRouter _ (by simpa using die), before, getElem?_modifyAt, if_pos rfl]

/-- A frame admitted is counted, and then its packet enters the FIFO and its bytes enter the pool. -/
theorem State.ethAdmit_enters {s : State} {d k p : Nat} (fr : List Byte) (c : s.canonical) (priority : p < 8) :
    ∃ u f, u.dies = s.dies ∧
      State.KeepsCtr (ethPage d k) Ctr.ethPortRxFramesOk (s.count (ethPage d k) Ctr.ethPortRxFramesOk) u ∧
      s.ethAdmit d k p fr = ((u.enterEth d f).useAdd d k p (fr.length + 4)).noteOccupancy d := by
  unfold State.ethAdmit
  extract_lets n ecn parsed packet pg counted marked entered
  have bytes := (State.KeepsCtr.refl (State.count_within.canonical c : (s.count pg Ctr.ethPortRxFramesOk).canonical)).countOther
    (p := pg) (k := Ctr.ethPortRxFramesOk) (j := Ctr.ethPortRxBytesOk) (by decide) n
  have frames : State.KeepsCtr pg Ctr.ethPortRxFramesOk (s.count pg Ctr.ethPortRxFramesOk) counted :=
    bytes.countOther (by simp only [Ctr.ethPortRxFramesOk, Ctr.ethPortRxFramesPrio]; omega) 1
  refine ⟨marked, ⟨packet, 2, 8 * k + p, n, none⟩, ?_, ?_, rfl⟩
  · simp only [marked]
    split
    · simp only [State.count_dies, counted]
    · simp only [State.count_dies, counted]
  · simp only [marked]
    split
    · exact frames.countOther (j := Ctr.ethPortRxEcnCe) (by decide) 1
    · exact frames

theorem State.ethAdmit_admits {s : State} {d k p : Nat} (fr : List Byte) (c : s.canonical) (die : d < s.dies.length)
    (priority : p < 8) : Counted (ethPage d k) Ctr.ethPortRxFramesOk 1 s (s.ethAdmit d k p fr) ∧
      (((s.ethAdmit d k p fr).die d).router.fifos[2]?).map List.length =
        ((s.die d).router.fifos[2]?).map (·.length + 1) := by
  obtain ⟨u, f, dies, counted, enters⟩ := State.ethAdmit_enters (d := d) (k := k) fr c priority
  have entered := counted.within State.enterEth_within (u := u.enterEth d f)
  rw [enters]
  constructor
  · have used := entered.useAddOwn (by decide) (by decide) priority (fr.length + 4)
    exact (State.KeepsCtr.refl c).counted (used.noteOccupancy (ethPage_ne_bufferPage d k))
  · rw [State.die_noteOccupancy, State.useAdd_within.router entered.canonical,
      State.fifos_enterEth f counted.canonical (dies ▸ die), State.die, dies, ← State.die, Option.map_map]
    exact congrArg (Option.map · _) (funext fun l => List.length_append)

/-! ### ETH_FRAME_RECEIVE (R307) -/

theorem State.dscpPriority_lt (s : State) (d dscp : Nat) : s.dscpPriority d dscp < 8 := Nat.mod_lt _ (by decide)

/-- A frame that passes the checks of R307 carries an IPv6 packet. -/
theorem State.ethertype_of_ethCheck {s : State} {d : Nat} {fr : List Byte} (passes : s.ethCheck d fr = none) :
    be fr 12 2 = 0x86DD := by
  by_cases ethertype : be fr 12 2 = 0x86DD
  · exact ethertype
  · have drops : s.ethCheck d fr = some Ctr.ethPortRxEthertypeDrops := if_pos ethertype
    exact absurd (passes.symm.trans drops) (by simp only [reduceCtorEq, not_false_eq_true])

/-- A frame that finds room in the timestamp path goes to its end (R316, R317). -/
theorem State.ptp_takePtp {s : State} {d k : Nat} (fr : List Byte) (stamp : Nat) (sound : s.sound) (die : d < s.dies.length)
    (four : k < 4) (room : (s.ethPort d k).ptp.length < 64) : ((s.takePtp d k fr stamp).ethPort d k).ptp =
      (s.ethPort d k).ptp ++ [(fr, if isPtpEvent fr then some stamp else none)] := by
  have room' : ((s.count (ethPage d k) Ctr.ethPortPtpRxTimestamps).ethPort d k).ptp.length < 64 := room
  have counted : (s.count (ethPage d k) Ctr.ethPortPtpRxTimestamps).sound := State.count_within.sound sound
  unfold State.takePtp
  split
  · rw [if_pos room', State.ethPort_onEth_self _ counted die four, State.ethPort_count]
  · rw [if_pos room, State.ethPort_onEth_self _ sound die four]

section Frames

variable {s : State} {d k : Nat} {fr : List Byte} (sound : s.sound) (die : d < s.dies.length) (port : k < s.ethPorts d)
  (up : s.ethUp d k = true)

include die port up

theorem exec_ethFrameReceive_bad (fcs : Word) : exec (.ethFrameReceive d k fr fcs false) s =
    .next (s.count (ethPage d k) Ctr.ethPortRxFcsErrors) := by
  have row : exec (.ethFrameReceive d k fr fcs false) s = execEthFrameReceive d k fr fcs false s := by rfl
  rw [row, execEthFrameReceive, atEth_of_lt _ die port]
  simp only [up, Bool.not_true, Bool.not_false, Bool.true_or, Bool.false_eq_true, if_false, if_true]

theorem exec_ethFrameReceive_good (least : 60 ≤ fr.length)
    (most : fr.length + 4 ≤ bits (s.reg (ethPage d k) 0x108) 13 0) (plain : isPtp fr = false)
    (filter : s.filterHit d k 0x120 8 (be fr 0 6) = true ∨ s.filterHit d k 0x160 4 (be fr 0 6) = true)
    (passes : s.ethCheck d fr = none)
    (admits : s.admits d k (s.dscpPriority d (bits (be fr 14 4) 27 22)) (fr.length + 4) = true) :
    exec (.ethFrameReceive d k fr (crc32 fr) true) s =
      .next (s.ethAdmit d k (s.dscpPriority d (bits (be fr 14 4) 27 22)) fr) := by
  have row : exec (.ethFrameReceive d k fr (crc32 fr) true) s = execEthFrameReceive d k fr (crc32 fr) true s := by rfl
  have length : ¬ (fr.length + 4 < 64 ∨ bits (s.reg (ethPage d k) 0x108) 13 0 < fr.length + 4) := by omega
  have wanted : (s.filterHit d k 0x120 8 (be fr 0 6) || s.filterHit d k 0x160 4 (be fr 0 6)) = true := by
    simpa using filter
  have control : be fr 12 2 ≠ 0x8808 := by
    rw [State.ethertype_of_ethCheck passes]
    decide
  rw [row, execEthFrameReceive, atEth_of_lt _ die port]
  simp only [up, plain, wanted, passes, admits, if_neg length, if_neg control, bne_self_eq_false, Bool.and_false,
    Bool.not_true, Bool.or_self, Bool.true_or, Bool.false_eq_true, if_false, if_true]

/-! ### PTP_FRAME (R316) -/

include sound in
/-- A PTP frame goes to the end of the frames that wait for Quire firmware. -/
theorem ptpFrame_waits (four : k < 4) (stamp : Nat) (ptp : isPtp fr = true)
    (enabled : bit (s.reg (ethPage d k) 0x100) 29 = true) (room : (s.ethPort d k).ptp.length < 64) :
    Completes (.ptpFrame d k fr stamp) s fun t =>
      (t.ethPort d k).ptp = (s.ethPort d k).ptp ++ [(fr, if isPtpEvent fr then some stamp else none)] := by
  have row : exec (.ptpFrame d k fr stamp) s = execPtpFrame d k fr stamp s := by rfl
  rw [execPtpFrame, atEth_of_lt _ die port, up, enabled, ptp, if_pos (by decide)] at row
  exact ⟨_, row, State.ptp_takePtp fr stamp sound die four room⟩

end Frames

/-! ### PFC frames sent (R312, R313) -/

theorem State.outbox_sendEth (s : State) (d k : Nat) (frame : List Byte) :
    (s.sendEth d k frame).outbox = .ethFrame d k frame (crc32 frame) :: s.outbox := rfl

/-- A port that is UP sends and counts one frame (R304, R313). -/
theorem State.sendPfc_sends {s : State} {d k p : Nat} (c : s.canonical) (up : s.ethUp d k = true) (priority : p < 8)
    (time : Nat) : Counted (ethPage d k) Ctr.ethPortTxPfcFrames 1 s (s.sendPfc d k p time) ∧
      ∃ fr fcs, (s.sendPfc d k p time).outbox = .ethFrame d k fr fcs :: s.outbox := by
  have away : ¬ ((s.ethPort d k).state != .up) = true := by simpa [State.ethUp] using up
  unfold State.sendPfc
  rw [if_neg away]
  extract_lets times sent
  have frame : State.KeepsCtr (ethPage d k) Ctr.ethPortTxPfcFrames (s.count (ethPage d k) Ctr.ethPortTxPfcFrames) sent :=
    (State.KeepsCtr.refl (State.count_within.canonical c)).sendEthOwn (by decide) (by decide) _
  have outbox := State.outbox_sendEth (s.count (ethPage d k) Ctr.ethPortTxPfcFrames) d k
    (pfcBytes (s.mac d k 0x120) (2 ^ p) times)
  split
  · exact ⟨(State.KeepsCtr.refl c).counted frame, _, _, outbox⟩
  · exact ⟨(State.KeepsCtr.refl c).counted (frame.xoffSent (by decide) priority 1), _, _, outbox⟩

/-- A PFC frame sets the pause timer of a lossless priority of its vector (R314). -/
theorem State.rxPause_takePfc {s : State} {d k p v : Nat} (times : List Nat) (sound : s.sound) (die : d < s.dies.length)
    (four : k < 4) (lossless : s.lossless d k p = true) (named : bit v p = true)
    (timer : p < (s.ethPort d k).rxPause.length) :
    ((s.takePfc d k v times).ethPort d k).rxPause[p]? = some ((times[p]?).getD 0) := by
  rw [State.takePfc, State.ethPort_count, State.ethPort_onEth_self _ sound die four, List.getElem?_map, List.getElem?_zipIdx,
    List.getElem?_eq_getElem timer]
  simp only [Option.map_some, Nat.zero_add, named, lossless, Bool.and_self, if_true]

section Pauses

variable {s : State} {d k p : Nat} (sound : s.sound) (die : d < s.dies.length) (port : k < s.ethPorts d) (priority : p < 8)

include sound die port priority

theorem pfcRepeat_sends (up : s.ethUp d k = true) (pausing : s.pausing d k p = true) (lossless : s.lossless d k p = true)
    (above : s.xon d k p < s.usage d k p) : Completes (.pfcRepeat d k p) s fun t =>
      Counted (ethPage d k) Ctr.ethPortTxPfcFrames 1 s t ∧ ∃ fr fcs, t.outbox = .ethFrame d k fr fcs :: s.outbox := by
  have row : exec (.pfcRepeat d k p) s = execPfcRepeat d k p s := by rfl
  simp only [execPfcRepeat, atUnit, die, port, priority, pausing, lossless, above, and_self, Bool.and_self, decide_true,
    if_true] at row
  exact ⟨_, row, State.sendPfc_sends sound.1 up priority _⟩

/-! ### Pauses received (R314) -/

variable (four : k < 4)

include four

theorem pfcFrame_pauses (v : Byte) (times : List (BitVec 16)) (up : s.ethUp d k = true) (lossless : s.lossless d k p = true)
    (named : bit v.toNat p = true) (timers : (s.ethPort d k).rxPause.length = 8) : Completes (.pfcFrame d k v times) s fun t =>
      (t.ethPort d k).rxPause[p]? = some (((times.map BitVec.toNat)[p]?).getD 0) := by
  have row : exec (.pfcFrame d k v times) s = execPfcFrame d k v times s := by rfl
  rw [execPfcFrame, atEth_of_lt _ die port, up, if_pos rfl] at row
  exact ⟨_, row, State.rxPause_takePfc _ sound die four lossless named (by omega)⟩

theorem pauseTimerExpiry_ends (timer : p < (s.ethPort d k).rxPause.length) : Completes (.pauseTimerExpiry d k p) s fun t =>
    (t.ethPort d k).rxPause[p]? = some 0 := by
  have row : exec (.pauseTimerExpiry d k p) s = execPauseTimerExpiry d k p s := by rfl
  simp only [execPauseTimerExpiry, atUnit, die, port, priority, and_self, decide_true, if_true] at row
  have zeroed := State.ethPort_onEth_self (fun x => { x with rxPause := x.rxPause.set p 0 }) sound die four
  exact ⟨_, row, (congrArg (·.rxPause[p]?) zeroed).trans (List.getElem?_set_self timer)⟩

end Pauses

/-! ### PFC_CTL (R311, R315) -/

/-- The writable bits of PFC_CTL hold the whole of PAUSE_QUANTA. -/
theorem bits_quanta (v : Nat) : bits (v &&& 0xFFFF00FF) 31 16 = bits v 31 16 := by
  have mask : ∀ i < 16, Nat.testBit 0xFFFF00FF (16 + i) = true := by decide
  apply Nat.eq_of_testBit_eq
  intro i
  simp only [bits, Nat.testBit_mod_two_pow, Nat.testBit_div_two_pow, Nat.testBit_and]
  by_cases low : i < 16
  · rw [Nat.add_comm i 16, mask i low, Bool.and_true]
  · simp [low]

theorem State.reg_setReg_pfcCtl {s : State} (c : s.canonical) (d k v : Nat) :
    (s.setReg (ethPage d k) 0x10C (v &&& 0xFFFF00FF)).reg (ethPage d k) 0x10C = v &&& 0xFFFF00FF := by
  obtain ⟨_, regs, _⟩ := c
  have value : v &&& 0xFFFF00FF ≤ 0xFFFF00FF := Nat.and_le_right
  have reset : ((regDefAt .ethPort 0x10C).map RegDef.reset).getD 0 < 2 ^ 64 := by decide
  exact State.reg_setReg_of_lt regs (by omega) reset

/-- Pauses ended for the priorities that a write takes out of PFC_EN leave the registers. -/
theorem State.endPauses_within (s : State) (d k : Nat) (l : List Nat) :
    Within 17184063496 s (l.foldl (fun s q => (s.sendPfc d k q 0).setPausing d k q false) s) :=
  Within.foldl (fun _ _ w => State.setPausing_within.step (by decide) (State.sendPfc_within.step (by decide) w))
    (Within.refl _ s)

theorem pfcCtlWrite_takes {s : State} {d k : Nat} {v : Word} (c : s.canonical) (die : d < s.dies.length)
    (port : k < s.ethPorts d) (host : s.hostReady) (takes : s.takes (ethPage d k)) (quanta : 2 ≤ bits v.toNat 31 16)
    (room : reservation (s.ethPorts d) (fun j q => if j = k then (bit (v.toNat &&& 0xFFFF00FF) q, (s.reserve d j q).2)
      else s.reserve d j q) ≤ s.ethPool d) :
    Completes (.pfcCtlWrite d k v) s fun t => t.reg (ethPage d k) 0x10C = v.toNat &&& 0xFFFF00FF := by
  have row : exec (.pfcCtlWrite d k v) s = execPfcCtlWrite d k v s := by rfl
  rw [execPfcCtlWrite, atEth_of_lt _ die port, State.fromFn_of_hostReady host, State.guarded_of_takes takes] at row
  refine ⟨_, row, ?_⟩
  unfold State.writePfc
  extract_lets p w r
  have enough : ¬ bits w 31 16 < 2 := by
    rw [bits_quanta]
    omega
  rw [if_neg enough, if_neg (Nat.not_lt.mpr room)]
  have written : (s.setReg p 0x10C w).canonical := (State.setReg_own (by decide) (by decide) : Within 2 s _).canonical c
  have ends := State.endPauses_within (s.setReg p 0x10C w) d k
    ((List.range 8).filter fun q => s.pausing d k q && s.lossless d k q && !bit w q)
  exact (Area.same_reg (ends.areas .ownRegs (by decide) written) ends.part p (by decide) (by decide)).trans
    (State.reg_setReg_pfcCtl c d k v.toNat)

end Sys2Proof.Machine

namespace Sys2Proof

open Machine

/-- Settles O37: a frame takes its branch of the ten checks, and each event of a pause leaves what its lemma above says. -/
theorem ethernetFramesAndPauses : Obligations.EthernetFramesAndPauses := by
  refine ⟨fun s d k fr sound die port four up => ?frames, fun s d k p sound die port four priority => ?pauses⟩
  case frames =>
    refine ⟨fun fcs => ?bad, fun least most plain filter passes admits => ?good,
      fun stamp => ptpFrame_waits sound die port up four stamp⟩
    case bad =>
      obtain ⟨canonical, _⟩ := sound
      exact ⟨_, exec_ethFrameReceive_bad die port up fcs, State.count_dies .., State.ctr_count_self _ _ _ _ canonical⟩
    case good =>
      exact ⟨_, exec_ethFrameReceive_good die port up least most plain filter passes admits,
        State.ethAdmit_admits fr sound.1 die (s.dscpPriority_lt d _)⟩
  case pauses =>
    exact ⟨pfcRepeat_sends sound die port priority, fun v times => pfcFrame_pauses sound die port priority four v times,
      pauseTimerExpiry_ends sound die port priority four, fun v => pfcCtlWrite_takes sound.1 die port⟩

end Sys2Proof
end

section
/-!
Copies that end, and the bytes that a write within one block stores (R321, R322, R337, R366, R482 to R484).
-/

namespace Sys2Proof.Machine

/-! ### Pieces of a copy (R364, R366) -/

/-- A copy that cannot go on has not ended. -/
theorem copyStop_ne_done (o : MemOut) (moved d n : Nat) (w : Bool) : copyStop o moved d w ≠ .done n := by
  cases o <;> simp [copyStop]

/-- A piece of host data ends the data or reaches the next 4 KiB boundary. -/
theorem pieceLen_reaches (a n : Nat) :
    pieceLen a 0 n = n ∨ (pieceLen a 0 n ≤ n ∧ (a + pieceLen a 0 n) / 4096 = a / 4096 + 1) := by
  rw [pieceLen]
  omega

/-- A copy of host data that has a step left for each 4 KiB boundary ahead of it, and ends, has moved all of it. -/
theorem State.copyIn_moves_all {d f dst m : Nat} {data : List Byte} {t : State} :
    ∀ (fuel moved : Nat) (s : State), moved ≤ data.length →
      moved = data.length ∨ (dst + data.length) / 4096 < (dst + moved) / 4096 + fuel →
      State.copyIn d f dst data fuel moved s = (.done m, t) → m = data.length
  | 0, moved, s, part, left, ends => by
    have stands : moved = m := CopyOut.done.inj (congrArg Prod.fst ends)
    have behind : (dst + moved) / 4096 ≤ (dst + data.length) / 4096 := Nat.div_le_div_right (by omega)
    omega
  | fuel + 1, moved, s, part, left, ends => by
    rw [State.copyIn] at ends
    split at ends
    · exact (CopyOut.done.inj (congrArg Prod.fst ends)).symm
    · have reaches := pieceLen_reaches (dst + moved) (data.length - moved)
      dsimp only at ends
      split at ends
      · refine State.copyIn_moves_all fuel _ _ ?_ ?_ ends <;> omega
      · exact absurd (congrArg Prod.fst ends) (copyStop_ne_done _ _ _ _ _)

/-! ### Where tallies and poison bits lie (R321, R322) -/

/-- A device region has room for the poison bits and the tallies of its memory. -/
theorem regionBytes_ge (part : Part) (pa : Nat) : 0x4200000 ≤ regionBytes part pa := by
  unfold regionBytes
  cases part <;> simp only [Part.hbmRegionMiB] <;> split <;> decide

theorem length_toLE (n x : Nat) : (toLE n x).length = n := by
  induction n generalizing x with
  | zero => rfl
  | succ n ih => rw [toLE, List.length_cons, ih]

/-- A byte outside the device regions is none of a block's tally. -/
theorem memKey_tally_apart {pa a : Nat} {part : Part} (die : a < 2 ^ 38) (plain : memOffset a + regionBytes part a < 2 ^ 36)
    (d e : Nat) : ¬ (memKey d (tallyAddr pa) ≤ memKey e a ∧ memKey e a < memKey d (tallyAddr pa) + 4) := by
  have room := regionBytes_ge part a
  simp only [memKey, tallyAddr, memBase, memOffset] at plain ⊢
  omega

/-- A byte outside the device regions holds no poison bit. -/
theorem memKey_poison_apart {pa a : Nat} {part : Part} (plain : memOffset a + regionBytes part a < 2 ^ 36) (d e : Nat) :
    memKey e a ≠ memKey d (poisonAddr pa) := by
  have room := regionBytes_ge part a
  simp only [memKey, poisonAddr, memBase, memOffset] at plain ⊢
  omega

/-! ### A write within one block (R483, R484) -/

section Block

variable {s : State} {d pa e a : Nat} (c : s.canonical) (plain : memOffset a + regionBytes s.part a < 2 ^ 36)

include c plain

theorem State.byte_setPoison (v : Bool) : (s.setPoison d pa v).byte e a = s.byte e a := by
  rw [State.setPoison, State.byte_setByte _ _ _ _ _ _ c, if_neg (memKey_poison_apart plain d e)]

variable (die : a < 2 ^ 38)

include die

theorem State.byte_setTally (v : Word) : (s.setTally d pa v).byte e a = s.byte e a := by
  rw [State.setTally, State.byte_setBytes _ _ _ _ _ _ c, length_toLE, if_neg (memKey_tally_apart die plain d e)]

/-- Outside the device regions, a write in one block leaves what putting its bytes leaves. -/
theorem State.byte_writeBlock (bs : List Byte) : (s.writeBlock d pa bs).byte e a = (s.setBytes d pa bs).byte e a := by
  have put : (s.setBytes d pa bs).canonical := State.setBytes_within.canonical c
  unfold State.writeBlock
  split
  · rw [State.byte_setPoison (State.setTally_within.canonical put) plain, State.byte_setTally put plain die]
  · exact State.byte_setTally put plain die _

end Block

/-- Bytes put within one memory are the bytes at their addresses, and leave every other byte. -/
theorem State.byte_setBytes_of_fits {s : State} {d pa : Nat} {bs : List Byte} (c : s.canonical) (low : pa < 3 * 2 ^ 36)
    (fits : memOffset pa + bs.length ≤ 2 ^ 36) (e : Nat) {a : Nat} (die : a < 2 ^ 38) :
    (s.setBytes d pa bs).byte e a =
      if e = d ∧ pa ≤ a ∧ a < pa + bs.length then bs.getD (a - pa) 0 else s.byte e a := by
  have inside : memKey d pa ≤ memKey e a ∧ memKey e a < memKey d pa + bs.length ↔
      e = d ∧ pa ≤ a ∧ a < pa + bs.length := by
    simp only [memKey, memOffset] at fits ⊢
    omega
  have place (same : e = d) : memKey e a - memKey d pa = a - pa := by
    simp only [memKey, same]
    omega
  rw [State.byte_setBytes _ _ _ _ _ _ c]
  simp only [inside]
  split
  · next h => rw [place h.1]
  · rfl

/-! ### A write by an engine (R337) -/

/-- A write within one block that is translated is made through that translation. -/
theorem State.write_of_found {s : State} {d e f off : Nat} {bs : List Byte} {x : Translation} (data : 0 < bs.length)
    (fits : off % 4096 + bs.length ≤ 4096) (found : (s.translate d e f off true).1 = .found x) :
    s.write d e f off bs = (.ok [], (s.translate d e f off true).2.writePart d off x bs) := by
  obtain ⟨w, u, translated⟩ : ∃ w u, s.translate d e f off true = (w, u) := ⟨_, _, rfl⟩
  rw [translated] at found
  obtain rfl : w = .found x := found
  simp only [State.write, blocks_of_le data fits, State.writeParts, Nat.add_zero, translated, slice, List.drop_zero,
    List.take_length]

/-- A write that reaches `pa` of die `d` stores its bytes there, and outside the device regions leaves every other byte. -/
theorem State.byte_write {s : State} {d e f off pa : Nat} {bs : List Byte} (c : s.canonical)
    (reaches : s.reaches d e f off bs.length true pa) : ∃ t, s.write d e f off bs = (.ok [], t) ∧
      ∀ d' a, a < 2 ^ 38 → memOffset a + regionBytes s.part a < 2 ^ 36 →
        t.byte d' a = if d' = d ∧ pa ≤ a ∧ a < pa + bs.length then bs.getD (a - pa) 0 else s.byte d' a := by
  obtain ⟨data, fits, ⟨x, found, rfl⟩, low, room⟩ := reaches
  refine ⟨_, State.write_of_found data fits found, fun d' a die plain => ?_⟩
  have work : Within 268436488 s ((s.translate d e f off true).2.access d off x) :=
    State.access_within.step (by decide) (State.translate_within.mono (by decide))
  have memory : ((s.translate d e f off true).2.access d off x).mem = s.mem := work.areas .memory (by decide) c
  have c' := work.canonical c
  have plain' : memOffset a + regionBytes ((s.translate d e f off true).2.access d off x).part a < 2 ^ 36 := by
    rwa [work.part]
  calc _ = (((s.translate d e f off true).2.access d off x).writeBlock d (x.pa off) bs).byte d' a := rfl
    _ = (((s.translate d e f off true).2.access d off x).setBytes d (x.pa off) bs).byte d' a :=
      State.byte_writeBlock c' plain' die bs
    _ = _ := by
      rw [State.byte_setBytes_of_fits c' low (by omega) d' die]
      simp only [State.byte, memory]

end Sys2Proof.Machine

namespace Sys2Proof

open Machine

/-- Settles O21: each piece of a copy reaches a 4 KiB boundary, and the tallies and poison bits of a write lie in the device
regions. -/
theorem writesStoreTheirBytes : Obligations.WritesStoreTheirBytes := by
  refine ⟨fun s t d f dst m data ends => ?copy, fun s d e f off pa bs c reaches => ?write⟩
  case copy =>
    exact State.copyIn_moves_all _ 0 s (Nat.zero_le _) (by omega) ends
  case write =>
    obtain ⟨t, written, stored⟩ := State.byte_write c reaches
    obtain ⟨_, _, _, low, room⟩ := reaches
    refine ⟨t, written, fun i inside => ?_, fun d' a die apart plain => ?_⟩
    · have memory : memOffset (pa + i) + regionBytes s.part (pa + i) < 2 ^ 36 := by
        simp only [memOffset, regionBytes] at room ⊢
        split <;> split at room <;> omega
      have die : pa + i < 2 ^ 38 := by
        simp only [memOffset] at room
        omega
      rw [stored d (pa + i) die memory, if_pos ⟨rfl, by omega, by omega⟩, Nat.add_sub_cancel_left]
    · rw [stored d' a die plain, if_neg (by omega)]

end Sys2Proof
end

section
/-!
The translation unit of a die (R330 to R356): what a change of it leaves, fault records that nothing waits on, and range
invalidations.
-/

namespace Sys2Proof.Machine

/-! ### A translation unit changed -/

theorem Within.xlate {W : Nat} {s t : State} (w : Within W s t) (c : s.canonical) (d : Nat)
    (translation : W.testBit Area.translation.bit = false := by decide) : (t.die d).xlate = (s.die d).xlate :=
  State.die_congr (w.areas .translation translation c) d

theorem State.xlate_onXlate {s : State} {d : Nat} (f : Xlate → Xlate) (die : d < s.dies.length) :
    ((s.onXlate d f).die d).xlate = f (s.die d).xlate := by
  rw [State.onXlate, State.die_onDie _ _ _ _ die, if_pos rfl]

theorem State.xlate_onXlate_ne {s : State} {d e : Nat} (f : Xlate → Xlate) (other : e ≠ d) :
    ((s.onXlate d f).die e).xlate = (s.die e).xlate := by
  simp only [State.die, State.onXlate, State.onDie, getElem?_modifyAt, if_neg other]

@[simp] theorem State.onXlate_length (s : State) (d : Nat) (f : Xlate → Xlate) :
    (s.onXlate d f).dies.length = s.dies.length := length_modifyAt _ _ _

/-! ### Fault records (R353 to R355) -/

/-- Where no access is held for a record, none takes one (R355). -/
theorem State.admitHeldFaults_none {s : State} {d : Nat} (held : (s.die d).xlate.waiting = []) :
    s.admitHeldFaults d = s.onXlate d fun x => { x with waiting := [] } := by
  rw [State.admitHeldFaults, held, List.foldl_nil]

/-- Nothing waits on a record of a die: no queue pair, copy, cipher descriptor, argument block, recipe or collective
operation. -/
structure State.Unawaited (s : State) (d : Nat) (r : FaultRec) : Prop where
  tx : r.tx = []
  rx : r.rx = []
  execs : ∀ e ∈ s.execs, e.paused ≠ some (d, r.key)
  runs : s.runsPaused d r.fn r.key = []
  colls : s.collPaused d r.fn r.key = []

namespace State.Unawaited

variable {s t : State} {d : Nat} {r : FaultRec} (h : s.Unawaited d r)

include h

/-- What leaves Reckoners and groups, and pauses no descriptor. -/
theorem congr {W : Nat} (w : Within W s t) (c : s.canonical) (execs : ∀ e ∈ t.execs, e ∈ s.execs ∨ e.paused = none)
    (reckoners : W.testBit Area.reckoners.bit = false := by decide) (groups : W.testBit Area.groups.bit = false := by decide)
    (clocks : W.testBit Area.clocks.bit = false := by decide) : t.Unawaited d r := by
  obtain ⟨tx, rx, paused, runs, colls⟩ := h
  refine ⟨tx, rx, fun e listed => ?_, ?_, ?_⟩
  · rcases execs e listed with before | runs
    · exact paused e before
    · rw [runs]
      exact (Option.some_ne_none _).symm
  · have recks (k : Nat) : (t.die k).recks = (s.die k).recks := State.die_congr (w.areas .reckoners reckoners c) k
    simpa only [State.runsPaused, State.reckList, w.length_dies c clocks, State.runAt, State.reck, recks] using runs
  · have same : (t.die d).groups = (s.die d).groups := State.die_congr (w.areas .groups groups c) d
    rwa [State.collPaused, same]

/-- None of the descriptors in execution that some test names waits on the record. -/
theorem filter_paused (p : Exec → Bool) (named : ∀ e, p e = true → e.paused = some (d, r.key)) :
    s.execs.filter p = [] :=
  List.filter_eq_nil_iff.mpr fun e listed holds => h.execs e listed (named e holds)

/-- No copy, argument block or cipher descriptor waits on the record. -/
theorem descriptors : s.execs.filter (fun e => e.isCopy && e.fn == r.fn && e.paused == some (d, r.key)) = [] ∧
    s.collArgs d r.fn r.key = [] ∧ s.ciphersPaused d r.fn r.key = [] :=
  ⟨h.filter_paused _ (by simp), h.filter_paused _ (by simp +contextual), h.filter_paused _ (by simp)⟩

/-- Nothing walks again when the record is freed (R353). -/
theorem tellWaiters : s.tellWaiters d r = s := by
  obtain ⟨copies, args, ciphers⟩ := h.descriptors
  obtain ⟨tx, rx, _, runs, colls⟩ := h
  simp only [State.tellWaiters, State.qpResolve, tx, rx, State.retryCopies, copies, State.retryRuns, runs, State.retryColl,
    colls, args, State.retryCiphers, ciphers, List.foldl_nil]

/-- Nothing ends when the record aborts (R354). -/
theorem failWaiters : s.failWaiters d r = s := by
  obtain ⟨copies, args, ciphers⟩ := h.descriptors
  obtain ⟨tx, rx, _, runs, colls⟩ := h
  simp only [State.failWaiters, State.qpAbort, tx, rx, State.abortCopies, copies, State.abortRuns, runs, State.abortColl,
    colls, args, State.abortCiphers, ciphers, List.foldl_nil]

end State.Unawaited

/-- A record taken off the list, with the FAULT entry of its abort (R351). -/
def State.abortRecord (s : State) (d n : Nat) (r : FaultRec) : State :=
  (s.onXlate d fun x => { x with faults := FMap.erase x.faults n }).faultEntry d n r 1

theorem State.abortRecord_within {s : State} {d n : Nat} {r : FaultRec} : Within 268436488 s (s.abortRecord d n r) :=
  State.faultEntry_within.step (by decide) (State.onXlate_within.mono (by decide))

theorem State.xlate_abortRecord {s : State} {d : Nat} (n : Nat) (r : FaultRec) (c : s.canonical) (die : d < s.dies.length) :
    ((s.abortRecord d n r).die d).xlate = { (s.die d).xlate with faults := FMap.erase (s.die d).xlate.faults n } := by
  rw [State.abortRecord, State.faultEntry_within.xlate (State.onXlate_within.canonical c), State.xlate_onXlate _ die]

/-- An arrival entry that is dropped counts on the queue page of its function alone (R122). -/
theorem State.KeepsCtr.arrive {p : Page} {k d f : Nat} {s t : State} (h : State.KeepsCtr p k s t)
    (apart : p.addr ≠ (queuePage d f).addr) (kind : Nat) (body : List Byte) :
    State.KeepsCtr p k s (t.arrive d f kind body) := by
  unfold State.arrive
  split
  · exact h.congr rfl rfl rfl
  · exact h.count apart _ _

/-- The abort of a record that nothing waits on, while no access is held for one. -/
theorem exec_faultAbort {s : State} {d n : Nat} {r : FaultRec} (c : s.canonical) (die : d < s.dies.length)
    (record : FMap.get? (s.die d).xlate.faults n = some r) (free : s.Unawaited d r)
    (held : (s.die d).xlate.waiting = []) : exec (.faultAbort d n) s = .next
      (((s.abortRecord d n r).count (xlatePage d) Ctr.xlateFaultsAborted).onXlate d fun x => { x with waiting := [] }) := by
  have row : exec (.faultAbort d n) s = execFaultAbort d n s := by rfl
  have work : Within 268436488 s ((s.abortRecord d n r).count (xlatePage d) Ctr.xlateFaultsAborted) :=
    State.count_within.step (by decide) State.abortRecord_within
  have execs : ((s.abortRecord d n r).count (xlatePage d) Ctr.xlateFaultsAborted).execs = s.execs :=
    work.areas .descriptors (by decide) c
  have unit := State.xlate_abortRecord n r c die
  rw [execFaultAbort, atDie, if_pos die, record] at row
  dsimp only at row
  rw [← State.abortRecord, (free.congr work c fun e listed => .inl (execs ▸ listed)).failWaiters,
    State.admitHeldFaults_none (by rw [State.die_count, unit, held])] at row
  exact row

theorem faultAbort_frees {s : State} {d n : Nat} {r : FaultRec} (c : s.canonical) (die : d < s.dies.length)
    (record : FMap.get? (s.die d).xlate.faults n = some r) (free : s.Unawaited d r)
    (held : (s.die d).xlate.waiting = []) (wf : FMap.wf (s.die d).xlate.faults = true) :
    Completes (.faultAbort d n) s fun t =>
      FMap.get? (t.die d).xlate.faults n = none ∧ Counted (xlatePage d) Ctr.xlateFaultsAborted 1 s t := by
  refine ⟨_, exec_faultAbort c die record free held, ?_, ?_⟩
  · have there : d < ((s.abortRecord d n r).count (xlatePage d) Ctr.xlateFaultsAborted).dies.length :=
      (State.abortRecord_within.length_dies c).symm ▸ die
    rw [State.xlate_onXlate _ there, State.die_count, State.xlate_abortRecord n r c die]
    exact (FMap.get?_erase n wf).trans (if_pos rfl)
  · have apart : (xlatePage d).addr ≠ (queuePage d 0).addr := by
      simp only [Page.addr, Page.off, PageKind.place]
      omega
    have before : State.KeepsCtr (xlatePage d) Ctr.xlateFaultsAborted s (s.abortRecord d n r) :=
      ((State.KeepsCtr.refl c).within State.onXlate_within).arrive apart _ _
    exact before.counted ((State.KeepsCtr.refl (State.count_within.canonical before.canonical)).within State.onXlate_within)

/-! ### Range invalidation (R342 to R347) -/

/-- A translation unit whose engine `e` has reached its invalidation point of `v` (R343). -/
def Xlate.pointed (x : Xlate) (e : Nat) (v : Inval) : Xlate :=
  { x with
    inval := some { v with points := v.points ||| 2 ^ e }
    caches := modifyAt x.caches e fun c =>
      c.filter fun t => !(t.fn == v.fn && rangesMeet t.base (2 ^ t.log2) v.base v.len) }

/-- The engine's cache then holds no translation in the range. -/
theorem Xlate.pointed_clear {x : Xlate} {e : Nat} {v : Inval} {l : List Translation} {t : Translation}
    (cache : (x.pointed e v).caches[e]? = some l) (listed : t ∈ l) (fn : t.fn = v.fn) :
    rangesMeet t.base (2 ^ t.log2) v.base v.len = false := by
  simp only [Xlate.pointed, getElem?_modifyAt, if_true, Option.map_eq_some_iff] at cache
  obtain ⟨l', _, rfl⟩ := cache
  simpa [fn] using (List.mem_filter.mp listed).2

/-- What engine `e` of a die drops at its invalidation point of `v`: translations, and, where it is a Reckoner, tiles fetched
ahead (R344). -/
def State.reachPoint (s : State) (d e : Nat) (v : Inval) : State :=
  if e < 5 then (s.onXlate d (·.pointed e v)).dropTiles d e v.fn v.base v.len else s.onXlate d (·.pointed e v)

theorem State.xlate_reachPoint {s : State} {d : Nat} (e : Nat) (v : Inval) (c : s.canonical) (die : d < s.dies.length) :
    ((s.reachPoint d e v).die d).xlate = (s.die d).xlate.pointed e v := by
  rw [State.reachPoint]
  split
  · rw [State.dropTiles_within.xlate (State.onXlate_within.canonical c), State.xlate_onXlate _ die]
  · exact State.xlate_onXlate _ die

theorem invalidationPoint_clears {s : State} {d e : Nat} {v : Inval} (c : s.canonical) (die : d < s.dies.length)
    (engine : e < 10) (inval : (s.die d).xlate.inval = some v) : Completes (.invalidationPoint d e) s fun t =>
      (t.die d).xlate.inval = some { v with points := v.points ||| 2 ^ e } ∧
      ∀ l, (t.die d).xlate.caches[e]? = some l → ∀ x ∈ l, x.fn = v.fn →
        rangesMeet x.base (2 ^ x.log2) v.base v.len = false := by
  have row : exec (.invalidationPoint d e) s = execInvalidationPoint d e s := by rfl
  rw [execInvalidationPoint, atUnit, if_pos die, inval, if_pos (decide_eq_true engine)] at row
  have unit := State.xlate_reachPoint e v c die
  refine ⟨s.reachPoint d e v, row, congrArg Xlate.inval unit, fun l cache x listed fn => ?_⟩
  rw [unit] at cache
  exact Xlate.pointed_clear cache listed fn

/-- An invalidation put in progress on a die. -/
def State.putInval (s : State) (d : Nat) (v : Inval) : State := s.onXlate d fun x => { x with inval := some v }

@[simp] theorem State.putInval_length (s : State) (d : Nat) (v : Inval) : (s.putInval d v).dies.length = s.dies.length :=
  State.onXlate_length ..

theorem State.inval_putInval {s : State} {d : Nat} (die : d < s.dies.length) (v : Inval) :
    ((s.putInval d v).die d).xlate.inval = some v := congrArg Xlate.inval (State.xlate_onXlate _ die)

theorem State.inval_putInval_ne {s : State} {d e : Nat} (v : Inval) (other : e ≠ d) :
    ((s.putInval d v).die e).xlate.inval = (s.die e).xlate.inval := congrArg Xlate.inval (State.xlate_onXlate_ne _ other)

/-- While a die has not acknowledged, the invalidation goes on. -/
theorem State.endInvalidation_waits {s : State} {d : Nat} {v : Inval} (die : d < s.dies.length)
    (inval : (s.die d).xlate.inval = some v) (waits : v.acked ≠ allEngines) : s.endInvalidation = s := by
  have listed : s.die d ∈ s.dies := by
    rw [State.die, List.getElem?_eq_getElem die]
    exact List.getElem_mem die
  have going : (s.dies.all fun x => (x.xlate.inval.map fun v => v.acked == allEngines).getD false) = false :=
    List.all_eq_false.mpr ⟨_, listed, by simp [inval, waits]⟩
  rw [State.endInvalidation, going]
  rfl

theorem State.endInvalidation_putInval {s : State} {d : Nat} {v : Inval} (die : d < s.dies.length)
    (waits : v.acked ≠ allEngines) : (s.putInval d v).endInvalidation = s.putInval d v :=
  State.endInvalidation_waits (by rwa [State.putInval_length]) (State.inval_putInval die v) waits

/-- The invalidation taken off every die. -/
def State.clearInvals (s : State) : State := s.dieList.foldl (fun s d => s.onXlate d fun x => { x with inval := none }) s

theorem State.clearInvals_within {s : State} : Within 268435456 s s.clearInvals :=
  Within.foldl (fun _ _ w => State.onXlate_within.step (by decide) w) (Within.refl _ s)

theorem State.inval_clearInvals {s : State} {k : Nat} (die : k < s.dies.length) :
    (s.clearInvals.die k).xlate.inval = none := by
  refine foldl_reaches (I := fun t : State => t.dies.length = s.dies.length)
    (P := fun t : State => (t.die k).xlate.inval = none) (List.mem_range.mpr die) (fun t d h => ?_) (fun t h => ?_)
    (fun t d h cleared => ?_) rfl
  · exact (State.onXlate_length ..).trans h
  · rw [State.xlate_onXlate _ (h ▸ die)]
  · by_cases same : k = d
    · subst same
      rw [State.xlate_onXlate _ (h ▸ die)]
    · rwa [State.xlate_onXlate_ne _ same]

/-- Once every die has acknowledged, the INVALIDATE_RANGE in execution ends (R347). -/
theorem State.endInvalidation_ends {s : State} {x : Exec}
    (acked : ∀ k < s.dies.length, ((s.die k).xlate.inval).map Inval.acked = some allEngines)
    (command : s.execs.find? (fun e => e.fn == 0 && e.q == 0 && dOpcode e.desc == 0x20 && e.phase == .running) = some x) :
    s.endInvalidation = s.clearInvals.adminEnd 0 x.index stSuccess 0x03FF03FF03FF03FF 0x03FF03FF03FF03FF := by
  have all : (s.dies.all fun y => (y.xlate.inval.map fun v => v.acked == allEngines).getD false) = true := by
    refine List.all_eq_true.mpr fun y listed => ?_
    obtain ⟨k, die, rfl⟩ := List.mem_iff_getElem.mp listed
    have unit := acked k die
    rw [State.die, List.getElem?_eq_getElem die, Option.getD_some, Option.map_eq_some_iff] at unit
    obtain ⟨v, inval, done⟩ := unit
    simp [inval, done]
  have execs : s.clearInvals.execs = s.execs :=
    List.foldlRecOn (motive := fun t : State => t.execs = s.execs) _ _ rfl fun _ h _ _ => h
  rw [State.endInvalidation, all, if_pos rfl]
  dsimp only
  rw [← State.clearInvals, execs, command]

/-- An engine past its point acknowledges on its die. -/
theorem exec_invalidationAck {s : State} {d e : Nat} {v : Inval} (die : d < s.dies.length) (engine : e < 10)
    (inval : (s.die d).xlate.inval = some v) (point : bit v.points e = true) : exec (.invalidationAck d e) s =
      .next (s.putInval d { v with acked := v.acked ||| 2 ^ e }).endInvalidation := by
  have row : exec (.invalidationAck d e) s = execInvalidationAck d e s := by rfl
  rw [row, execInvalidationAck, atUnit, if_pos die, inval, if_pos (decide_eq_true engine)]
  simp only [point, if_true, State.putInval]

theorem invalidationAck_waits {s : State} {d e : Nat} {v : Inval} (die : d < s.dies.length) (engine : e < 10)
    (inval : (s.die d).xlate.inval = some v) (point : bit v.points e = true) (waits : (v.acked ||| 2 ^ e) ≠ allEngines) :
    Completes (.invalidationAck d e) s fun t =>
      (t.die d).xlate.inval = some { v with acked := v.acked ||| 2 ^ e } := by
  have row := exec_invalidationAck die engine inval point
  rw [State.endInvalidation_putInval die waits] at row
  exact ⟨_, row, State.inval_putInval die _⟩

theorem invalidationAck_ends {s : State} {d e : Nat} {v : Inval} {x : Exec} (c : s.canonical) (die : d < s.dies.length)
    (engine : e < 10) (inval : (s.die d).xlate.inval = some v) (point : bit v.points e = true)
    (last : v.acked ||| 2 ^ e = allEngines)
    (others : ∀ k < s.dies.length, k ≠ d → ((s.die k).xlate.inval).map Inval.acked = some allEngines)
    (command : s.execs.find? (fun e => e.fn == 0 && e.q == 0 && dOpcode e.desc == 0x20 && e.phase == .running) = some x)
    (found : s.exec? 0 0 x.index = some x) (plain : x.readBacks = []) : Completes (.invalidationAck d e) s fun t =>
      (∀ k < s.dies.length, (t.die k).xlate.inval = none) ∧
      t.ended 0 0 x.index stSuccess 0x03FF03FF03FF03FF 0x03FF03FF03FF03FF := by
  have acked : ∀ k < (s.putInval d { v with acked := v.acked ||| 2 ^ e }).dies.length,
      (((s.putInval d { v with acked := v.acked ||| 2 ^ e }).die k).xlate.inval).map Inval.acked = some allEngines := by
    intro k listed
    by_cases same : k = d
    · subst same
      rw [State.inval_putInval die, Option.map_some, last]
    · rw [State.inval_putInval_ne _ same]
      exact others k (by rwa [State.putInval_length] at listed) same
  have row := exec_invalidationAck die engine inval point
  rw [State.endInvalidation_ends acked command] at row
  have work : Within 268435456 s (s.putInval d { v with acked := v.acked ||| 2 ^ e }).clearInvals :=
    State.clearInvals_within.step (by decide) State.onXlate_within
  obtain ⟨_, running⟩ : _ ∧ x.phase = .running := by simpa using List.find?_some command
  refine ⟨_, row, fun k listed => ?_, ?_⟩
  · exact State.inval_clearInvals (by rwa [State.putInval_length])
  · exact State.finish_ended _ _ _ _ (State.exec?_of_within c work (by decide) found) running plain

theorem invalidationResend_repeats {s : State} {d : Nat} {v : Inval} (c : s.canonical) (die : d < s.dies.length)
    (inval : (s.die d).xlate.inval = some v) (waits : (v.acked ||| s.idleEngines d) ≠ allEngines) :
    Completes (.invalidationResend d) s fun t => (t.die d).xlate.inval =
      some { v with points := v.points ||| (v.acked ||| s.idleEngines d), acked := v.acked ||| s.idleEngines d } := by
  have row : exec (.invalidationResend d) s = execInvalidationResend d s := by rfl
  have die' : d < (s.dropWalks d v.fn v.base v.len).dies.length := by rwa [State.dropWalks_within.length_dies c]
  rw [execInvalidationResend, atDie, if_pos die, inval] at row
  dsimp only at row
  rw [← State.putInval, State.endInvalidation_putInval die' waits] at row
  exact ⟨_, row, State.inval_putInval die' _⟩

end Sys2Proof.Machine

namespace Sys2Proof

open Machine

/-- Settles O39: each event of a fault record and of an invalidation leaves what its lemma above says. -/
theorem faultsAbortAndInvalidationsEnd : Obligations.FaultsAbortAndInvalidationsEnd := by
  refine fun s d sound die => ⟨?abort, ?engines, ?resend⟩
  case abort =>
    intro n r record tx rx execs runs colls held wf
    exact faultAbort_frees sound.1 die record ⟨tx, rx, execs, runs, colls⟩ held wf
  case engines =>
    intro e v engine inval
    refine ⟨invalidationPoint_clears sound.1 die engine inval, invalidationAck_waits die engine inval, ?_⟩
    intro x point last others command found plain
    exact invalidationAck_ends sound.1 die engine inval point last others command found plain
  case resend => exact fun v => invalidationResend_repeats sound.1 die

end Sys2Proof
end

section
/-!
Events of the memories and of translation (R324 to R326, R334 to R340, R350, R360, R488): patrol scrub, walks, the second
read of a block, access windows.
-/

namespace Sys2Proof.Machine

/-! ### Poison bits (R490) -/

/-- What leaves memory leaves poison bits. -/
theorem State.poisoned_congr {s t : State} (mem : t.mem = s.mem) (d pa : Nat) : t.poisoned d pa = s.poisoned d pa := by
  simp only [State.poisoned, State.byte, mem]

/-- A bit below 8 of a byte. -/
theorem bit_ofNat8 (v : Nat) {n : Nat} (low : n < 8) : bit (BitVec.ofNat 8 v).toNat n = bit v n := by
  rw [bit_eq_testBit, bit_eq_testBit, BitVec.toNat_ofNat, Nat.testBit_mod_two_pow, decide_eq_true low, Bool.true_and]

theorem State.poisoned_setPoison {s : State} (c : s.canonical) (d pa : Nat) (v : Bool) :
    (s.setPoison d pa v).poisoned d pa = v := by
  have low : poisonBit pa < 8 := Nat.mod_lt _ (by decide)
  rw [State.poisoned, State.setPoison, State.byte_setByte _ _ _ _ _ _ c, if_pos rfl, bit_ofNat8 _ low, bit_setBits_self]

/-! ### Patrol scrub (R324 to R326) -/

theorem Within.mems {W : Nat} {s t : State} (w : Within W s t) (c : s.canonical) (d : Nat)
    (controllers : W.testBit Area.controllers.bit = false := by decide) : (t.die d).mems = (s.die d).mems :=
  State.die_congr (w.areas .controllers controllers c) d

theorem State.mems_onMem {s : State} {d m : Nat} (f : MemCtl → MemCtl) (die : d < s.dies.length) :
    ((s.onMem d m f).die d).mems[m]? = ((s.die d).mems[m]?).map f := by
  rw [State.onMem, State.die_onDie _ _ _ _ die, if_pos rfl, getElem?_modifyAt, if_pos rfl]

section Scrub

variable {s : State} {d m block : Nat} {x : MemCtl} (c : s.canonical) (die : d < s.dies.length) (memory : m < 3)
  (listed : block < 2 ^ 24) (ctl : (s.die d).mems[m]? = some x) (enabled : bit (s.reg (memCtlPage d m) 0x100) 31 = true)
  (more : x.scrubbed + 1 < 2 ^ 24)

include c die memory listed ctl enabled more

/-- A block read before the last of a pass counts in the pass, and ECC reports what it found. -/
theorem patrolScrub_advances (severity : EccSeverity) : Completes (.patrolScrub d m block severity) s fun t =>
    ((t.die d).mems[m]?).map MemCtl.scrubbed = some (x.scrubbed + 1) ∧
      t.mem = (s.eccReport d m (m * 2 ^ 36 + block * 4096) severity).mem := by
  have work : Within 8589946895 s (s.eccReport d m (m * 2 ^ 36 + block * 4096) severity) := State.eccReport_within
  have same : ((s.eccReport d m (m * 2 ^ 36 + block * 4096) severity).die d).mems[m]? = some x := by
    rw [work.mems c, ctl]
  have die' : d < (s.eccReport d m (m * 2 ^ 36 + block * 4096) severity).dies.length := by rwa [work.length_dies c]
  have row : exec (.patrolScrub d m block severity) s = execPatrolScrub d m block severity s := by rfl
  rw [execPatrolScrub, atUnit, if_pos die, if_pos (decide_eq_true ⟨memory, listed⟩)] at row
  simp only [enabled, Bool.not_true, Bool.false_eq_true, if_false, same, Option.map_some, Option.getD_some,
    if_neg (Nat.ne_of_lt more)] at row
  refine ⟨_, row, ?_, rfl⟩
  rw [State.mems_onMem _ die', same]
  rfl

theorem patrolScrub_poisons : Completes (.patrolScrub d m block .uncorrected) s fun t =>
    ((t.die d).mems[m]?).map MemCtl.scrubbed = some (x.scrubbed + 1) ∧
      t.poisoned d (m * 2 ^ 36 + block * 4096) = true := by
  obtain ⟨t, row, scrubbed, mem⟩ := patrolScrub_advances c die memory listed ctl enabled more .uncorrected
  have reported : (s.eccReport d m (m * 2 ^ 36 + block * 4096) .uncorrected).mem =
      (s.setPoison d (m * 2 ^ 36 + block * 4096) true).mem :=
    Within.areas (State.error_within.step (by decide) (State.count_within.mono (by decide)) : Within 8589946894 _ _) .memory
      (by decide) (State.setPoison_within.canonical c)
  exact ⟨t, row, scrubbed, (State.poisoned_congr (mem.trans reported) ..).trans (State.poisoned_setPoison c ..)⟩

end Scrub

/-! ### Walks (R332 to R334) -/

/-- A translation of a function's offset: that of the function, and of the page that holds the offset. -/
def Translation.covers (x : Translation) (f offset : Nat) : Prop :=
  x.fn = f ∧ x.base = offset / 2 ^ x.log2 * 2 ^ x.log2

theorem State.leafOut_covers {s : State} {d f offset level e : Nat} {w : Bool} {x : Translation}
    (found : s.leafOut d f offset level e w = .found x) : x.covers f offset := by
  unfold State.leafOut at found
  extract_lets n frame tier at found
  split at found
  · cases found
  · split at found
    · cases found
    · split at found
      · cases found
      · split at found
        · cases found
        · cases found
          exact ⟨rfl, rfl⟩

theorem State.walkFrom_covers {s : State} {d f offset : Nat} {w : Bool} {x : Translation} :
    ∀ (fuel level table n : Nat) (ps : List WalkPointer),
      (s.walkFrom d f offset w fuel level table n ps).1 = .found x → x.covers f offset
  | 0, _, _, _, _, found => by cases found
  | fuel + 1, level, table, n, ps, found => by
    rw [State.walkFrom] at found
    dsimp only at found
    generalize fromLE (s.bytes d _ 8) = entry, (if level = 1 then 128 else 256) = size at found
    split at found
    · cases found
    · split at found
      · cases found
      · split at found
        · exact State.leafOut_covers found
        · split at found
          · cases found
          · exact State.walkFrom_covers fuel _ _ _ _ found

theorem State.walk_covers {s : State} {d f offset : Nat} {w : Bool} {x : Translation}
    (found : (s.walk d f offset w).1 = .found x) : x.covers f offset := by
  unfold State.walk at found
  extract_lets unit at found
  split at found
  · cases found
  · split at found
    · exact State.walkFrom_covers _ _ _ _ _ found
    · split at found
      · exact State.walkFrom_covers _ _ _ _ _ found
      · exact State.walkFrom_covers _ _ _ _ _ found

/-- A translation cache holds at least one translation (R336). -/
theorem cacheSize_pos (e : Nat) : 0 < cacheSize e := by
  unfold cacheSize
  split <;> decide

/-- A translation put into an engine's cache is the one that the engine finds for an offset of its page. -/
theorem State.cached_install {s : State} {d e f offset : Nat} {x : Translation} (die : d < s.dies.length)
    (engine : e < (s.die d).xlate.caches.length) (covers : x.covers f offset) :
    (s.install d e x).cached d e f offset = some x := by
  obtain ⟨fn, base⟩ := covers
  obtain ⟨k, size⟩ : ∃ k, cacheSize e = k + 1 := ⟨cacheSize e - 1, by have := cacheSize_pos e; omega⟩
  rw [State.cached, State.install, State.xlate_onXlate _ die]
  simp only [getElem?_modifyAt, if_true, List.getElem?_eq_getElem engine, Option.map_some, Option.getD_some, size,
    List.take_succ_cons]
  exact List.find?_cons_of_pos (by simp [fn, ← base])

theorem State.xlate_installWalk {s : State} {d : Nat} (die : d < s.dies.length) (ps : List WalkPointer) :
    ((s.installWalk d ps).die d).xlate = { (s.die d).xlate with walks := (ps ++ (s.die d).xlate.walks).take 1024 } :=
  State.xlate_onXlate _ die

theorem State.installWalk_length (s : State) (d : Nat) (ps : List WalkPointer) :
    (s.installWalk d ps).dies.length = s.dies.length := State.onXlate_length ..

/-- A committed walk counted, and its table pointers put into the walk cache (R334, R336). -/
def State.walkCounted (s : State) (d reads : Nat) (ps : List WalkPointer) : State :=
  ((s.count (xlatePage d) Ctr.xlateWalks).count (xlatePage d) Ctr.xlateWalkReads reads).installWalk d ps

theorem State.xlate_walkCounted {s : State} {d : Nat} (die : d < s.dies.length) (reads : Nat) (ps : List WalkPointer) :
    ((s.walkCounted d reads ps).die d).xlate =
      { (s.die d).xlate with walks := (ps ++ (s.die d).xlate.walks).take 1024 } := by
  rw [State.walkCounted, State.xlate_installWalk, State.die_count, State.die_count]
  exact die

theorem State.walkCounted_length (s : State) (d reads : Nat) (ps : List WalkPointer) :
    (s.walkCounted d reads ps).dies.length = s.dies.length := State.installWalk_length ..

section Walk

variable {s : State} {d e f offset : Nat} {w : Bool} (die : d < s.dies.length) (engine : e < 10) (fn : f < s.fns.length)
  (range : offset < 2 ^ 46) (live : (s.die d).computeReset = false)

include die engine fn range live

theorem walkComplete_caches {x : Translation} (cache : e < (s.die d).xlate.caches.length)
    (found : (s.walk d f offset w).1 = .found x) : Completes (.walkComplete d e f offset w false) s fun t =>
      t.cached d e f offset = some x := by
  have row : exec (.walkComplete d e f offset w false) s = execWalkComplete d e f offset w false s := by rfl
  rw [execWalkComplete, atUnit, if_pos die, if_pos (decide_eq_true ⟨engine, fn, range⟩)] at row
  simp only [live, Bool.false_eq_true, if_false, State.demandWalk, found, engine, if_true] at row
  rw [← State.walkCounted] at row
  exact ⟨_, row, State.cached_install (by rwa [State.walkCounted_length]) (by rwa [State.xlate_walkCounted die])
    (State.walk_covers found)⟩

/-- What a prefetch finds is cached, and its walk is not counted (R23, R24, R336). -/
theorem walkComplete_prefetches {x : Translation} (cache : e < (s.die d).xlate.caches.length)
    (found : (s.walk d f offset w).1 = .found x) : Completes (.walkComplete d e f offset w true) s fun t =>
      t.cached d e f offset = some x := by
  have row : exec (.walkComplete d e f offset w true) s = execWalkComplete d e f offset w true s := by rfl
  rw [execWalkComplete, atUnit, if_pos die, if_pos (decide_eq_true ⟨engine, fn, range⟩)] at row
  simp only [live, Bool.false_eq_true, if_false, if_true, found] at row
  exact ⟨_, row, State.cached_install (by rwa [State.installWalk_length]) (by rwa [State.xlate_installWalk die])
    (State.walk_covers found)⟩

end Walk

/-! ### Faults (R350) -/

/-- A fault whose page key has no record takes the lowest free one. -/
theorem State.fault_record {s : State} {d e f offset kind n since : Nat} {w : Bool} (c : s.canonical)
    (die : d < s.dies.length)
    (fresh : (s.die d).xlate.faults.find? (fun r => r.2.fn == f && r.2.key == offset / 2 ^ 25) = none)
    (lowest : lowestBelow 4096 (fun n => (FMap.get? (s.die d).xlate.faults n).isNone) = some n) :
    (FMap.get? ((s.fault d e f offset kind w none since).die d).xlate.faults n).map
        (fun r => (r.fn, r.key, r.kind, r.anyWrite, r.waiters)) = some (f, offset / 2 ^ 25, kind, w, 2 ^ e) := by
  unfold State.fault
  extract_lets unit key
  rw [fresh]
  dsimp only
  rw [lowest]
  dsimp only
  rw [State.faultEntry_within.xlate (State.count_within.canonical (State.count_within.canonical
    (State.onXlate_within.canonical c))), State.die_count, State.die_count, State.xlate_onXlate _ die, FMap.get?_set_self]
  rfl

theorem walkComplete_records {s : State} {d e f offset k n : Nat} {w : Bool} (c : s.canonical) (die : d < s.dies.length)
    (engine : e < 10) (fn : f < s.fns.length) (range : offset < 2 ^ 46) (live : (s.die d).computeReset = false)
    (faults : (s.walk d f offset w).1 = .fault k)
    (fresh : (s.die d).xlate.faults.find? (fun r => r.2.fn == f && r.2.key == offset / 2 ^ 25) = none)
    (lowest : lowestBelow 4096 (fun n => (FMap.get? (s.die d).xlate.faults n).isNone) = some n) :
    Completes (.walkComplete d e f offset w false) s fun t =>
      (FMap.get? (t.die d).xlate.faults n).map (fun r => (r.fn, r.key, r.kind, r.anyWrite, r.waiters)) =
        some (f, offset / 2 ^ 25, k, w, 2 ^ e) := by
  have row : exec (.walkComplete d e f offset w false) s = execWalkComplete d e f offset w false s := by rfl
  rw [execWalkComplete, atUnit, if_pos die, if_pos (decide_eq_true ⟨engine, fn, range⟩)] at row
  simp only [live, Bool.false_eq_true, if_false, State.demandWalk, faults] at row
  rw [← State.walkCounted] at row
  have counted : (s.walkCounted d (s.walk d f offset w).2.1 (s.walk d f offset w).2.2).canonical :=
    State.installWalk_within.canonical (State.count_within.canonical (State.count_within.canonical c))
  have same := congrArg Xlate.faults (State.xlate_walkCounted die (s.walk d f offset w).2.1 (s.walk d f offset w).2.2)
  exact ⟨_, row, State.fault_record counted (by rwa [State.walkCounted_length]) (by rw [same]; exact fresh)
    (by rw [same]; exact lowest)⟩

/-! ### The second read of a block (R488) -/

/-- The integrity page lies apart from the pages that a poisoned block counts on beside it (R35). -/
theorem integrityPage_apart (d : Nat) : (integrityPage d).addr ≠ (colophonPage d).addr ∧
    (∀ f, (integrityPage d).addr ≠ (integrityFnPage d f).addr) ∧
    ∀ f < 17, (integrityPage d).addr ≠ (queuePage d f).addr := by
  simp only [Page.addr, Page.off, PageKind.place]
  refine ⟨?_, fun f => ?_, fun f fn => ?_⟩ <;> omega

theorem State.KeepsCtr.integrityEvent {p : Page} {k d f : Nat} {s t : State} (h : State.KeepsCtr p k s t)
    (apart : p.addr ≠ (queuePage d f).addr) (event index count endpoint seq addr : Nat) :
    State.KeepsCtr p k s (t.integrityEvent d f event index count endpoint seq addr) := h.arrive apart _ _

theorem State.length_fns {s : State} (sound : s.sound) : s.fns.length = 17 := by
  obtain ⟨_, units⟩ := sound
  exact congrArg (fun u => u.2.1) units

/-- A block that fails its tally again is poisoned and counted. -/
theorem State.tallyReread_poisons {s : State} {d f pa a : Nat} (c : s.canonical) (fn : f < 17)
    (fails : ¬ s.tallyOk d pa = true) : (s.tallyReread d f pa a).poisoned d pa = true ∧
      Counted (integrityPage d) Ctr.integrityTallyPoisons 1 s (s.tallyReread d f pa a) := by
  obtain ⟨colophon, perFn, queue⟩ := integrityPage_apart d
  rw [State.tallyReread, if_neg fails]
  extract_lets poisoned counted reported
  have c' : (s.setPoison d pa true).canonical := State.setPoison_within.canonical c
  have before : State.KeepsCtr (integrityPage d) Ctr.integrityTallyPoisons s (s.setPoison d pa true) :=
    (State.KeepsCtr.refl c).within State.setPoison_within
  have start : State.KeepsCtr (integrityPage d) Ctr.integrityTallyPoisons poisoned poisoned :=
    State.KeepsCtr.refl (State.count_within.canonical c')
  have perFunction : State.KeepsCtr (integrityPage d) Ctr.integrityTallyPoisons poisoned counted := by
    simp only [counted]
    split
    · exact start
    · exact start.count (perFn f) _ _
  have captured : State.KeepsCtr (integrityPage d) Ctr.integrityTallyPoisons poisoned reported :=
    perFunction.error (q := integrityPage d) colophon _ _ _
  refine ⟨?_, before.counted (captured.integrityEvent (queue f fn) ..)⟩
  have work : Within 8589947918 (s.setPoison d pa true)
      (reported.integrityEvent d f 2 0 0 (s.endpoint d) 0 (a / 4096 * 4096)) := by
    refine State.integrityEvent_within.step (by decide) (State.error_within.step (by decide) ?_)
    simp only [counted]
    split
    · exact State.count_within.mono (by decide)
    · exact State.count_within.step (by decide) (State.count_within.mono (by decide))
  rw [State.poisoned_congr (work.areas .memory (by decide) c'), State.poisoned_setPoison c]

theorem tallyReread_decides {s : State} {d f : Nat} (sound : s.sound) (die : d < s.dies.length) (fn : f < s.fns.length)
    (pa a : Nat) : Completes (.tallyReread d f pa a) s fun t =>
      if s.tallyOk d pa = true then t.mem = s.mem ∧ Counted (integrityPage d) Ctr.integrityTallyRereadPasses 1 s t
      else t.poisoned d pa = true ∧ Counted (integrityPage d) Ctr.integrityTallyPoisons 1 s t := by
  have row : exec (.tallyReread d f pa a) s = execTallyReread d f pa a s := by rfl
  rw [execTallyReread, atUnit, if_pos die, if_pos (decide_eq_true fn)] at row
  refine ⟨_, row, ?_⟩
  have ⟨c, _⟩ := sound
  split
  · next passes =>
    rw [State.tallyReread, if_pos passes]
    exact ⟨rfl, State.counted_count _ _ _ c.2.1 c.2.2⟩
  · next fails => exact State.tallyReread_poisons c (State.length_fns sound ▸ fn) fails

/-! ### Access counters (R360) -/

theorem dogEarWindowEnd_clears {s : State} {d : Nat} (die : d < s.dies.length) :
    Completes (.dogEarWindowEnd d) s fun t => (t.die d).xlate.counts = [] := by
  have row : exec (.dogEarWindowEnd d) s = execDogEarWindowEnd d s := by rfl
  rw [execDogEarWindowEnd, atDie, if_pos die] at row
  exact ⟨_, row, congrArg Xlate.counts (State.xlate_onXlate _ die)⟩

end Sys2Proof.Machine

namespace Sys2Proof

open Machine

/-- Settles O38: each event leaves what its lemma above says. -/
theorem memoryEventsAct : Obligations.MemoryEventsAct := by
  refine fun s d sound die => ⟨?scrub, ?walks, ?tally, dogEarWindowEnd_clears die⟩
  case scrub =>
    intro m block x memory listed ctl enabled more
    exact ⟨patrolScrub_advances sound.1 die memory listed ctl enabled more .clean,
      patrolScrub_poisons sound.1 die memory listed ctl enabled more⟩
  case walks =>
    intro e f offset w engine fn range live cache
    exact ⟨fun x found => ⟨walkComplete_caches die engine fn range live cache found,
        walkComplete_prefetches die engine fn range live cache found⟩,
      fun k n => walkComplete_records sound.1 die engine fn range live⟩
  case tally => exact fun f pa a fn _ => tallyReread_decides sound die fn pa a

end Sys2Proof
end

section
/-!
Admin commands over translation (R145, R330, R331, R341 to R343, R347, R353, R356).
-/

namespace Sys2Proof.Machine

/-! ### Beginning and ending (R115, R124) -/

/-- An admin command that is next to begin runs on the state that its beginning leaves, and its queue settles. -/
theorem State.begins.runsAdmin {s : State} {f : Nat} {x : Queue} {u : Slot} {c : Instr} {mine : List Byte → Bool}
    {act : State → Word → List Byte → State} (begins : s.begins f 0 x u) (fn : f < s.fns.length)
    (row : exec c s = atFn s f (s.beginAdmin f mine act)) (named : mine u.bytes = true) :
    exec c s = .next ((act (s.beginSlot f 0 x u) u.index u.bytes).settle f 0) := by
  obtain ⟨next, formed, _⟩ := begins
  rw [row, atFn, if_pos fn, State.beginAdmin, State.beginAs, next]
  simp only [named, formed, Bool.not_true, Bool.false_eq_true, if_false, if_true]

/-- An admin command that ends with a status, by the state that it leaves before it ends: what holds of every state that its
end and its queue's settling may leave holds once the command has ended. -/
theorem State.begins.completes_within {s t : State} {f : Nat} {x : Queue} {u : Slot} {c : Instr} {mine : List Byte → Bool}
    {act : State → Word → List Byte → State} {st : Nat} {P : State → Prop} (begins : s.begins f 0 x u)
    (fn : f < s.fns.length) (row : exec c s = atFn s f (s.beginAdmin f mine act)) (named : mine u.bytes = true)
    (acts : act (s.beginSlot f 0 x u) u.index u.bytes = t.adminEnd f u.index st)
    (same : t.execs = (s.beginSlot f 0 x u).execs) (post : ∀ v : State, Within 1672 t v → P v) :
    Completes c s fun v => v.ended f 0 u.index st 0 0 ∧ P v := by
  have runs := begins.runsAdmin fn row named
  obtain ⟨_, _, free⟩ := begins
  rw [acts] at runs
  have found := State.beginSlot_exec? x free
  rw [State.exec?, ← same] at found
  obtain ⟨execs, _⟩ := State.settle_admin (t.adminEnd f u.index st) f
  exact ⟨_, runs, State.ended_congr execs (State.finish_ended st 0 0 0 found rfl rfl),
    post _ (State.settle_within.step (by decide) (State.adminEnd_within.mono (by decide)))⟩

theorem exec_invalidateRange (s : State) (f : Nat) : exec (.invalidateRange f) s =
    atFn s f (s.beginAdmin f (fun d => dOpcode d == 0x20) fun s i d => s.invalidateRange f i d) := by rfl

theorem exec_resolveFault (s : State) (f : Nat) : exec (.resolveFault f) s =
    atFn s f (s.beginAdmin f (fun d => dOpcode d == 0x21) fun s i d => s.resolveFault f i d) := by rfl

theorem exec_setPageTableRoot (s : State) (f : Nat) : exec (.setPageTableRoot f) s =
    atFn s f (s.beginAdmin f (fun d => dOpcode d == 0x22) fun s i d => s.setPageTableRoot f i d) := by rfl

/-! ### INVALIDATE_RANGE (R342, R343, R346) -/

/-- What leaves resets, power and Reckoners leaves the engines that acknowledge at once. -/
theorem Within.idleEngines {W : Nat} {s t : State} (w : Within W s t) (c : s.canonical) (d : Nat)
    (resets : W.testBit Area.resets.bit = false := by decide) (power : W.testBit Area.power.bit = false := by decide)
    (reckoners : W.testBit Area.reckoners.bit = false := by decide) : t.idleEngines d = s.idleEngines d := by
  have unit : (t.die d).power = (s.die d).power := State.die_congr (w.areas .power power c) d
  have recks : (t.die d).recks = (s.die d).recks := State.die_congr (w.areas .reckoners reckoners c) d
  simp only [State.idleEngines, w.computeReset c d resets, unit, State.reck, recks]

/-- The translation unit of a die takes an invalidation (R343, R346). -/
def State.takeInval (g base len : Nat) (s : State) (d : Nat) : State :=
  ((s.dropWalks d g base len).putInval d
    { fn := g, base := base, len := len, points := s.idleEngines d, acked := s.idleEngines d }).count (xlatePage d)
    Ctr.xlateInvalidations

theorem State.takeInval_within {g base len d : Nat} {s : State} : Within 268435464 s (s.takeInval g base len d) :=
  State.count_within.step (by decide) (State.onXlate_within.step (by decide) (State.dropWalks_within.mono (by decide)))

/-- Every translation unit takes an invalidation. -/
def State.takeInvals (s : State) (g base len : Nat) : State := s.dieList.foldl (State.takeInval g base len) s

theorem State.takeInvals_within {g base len : Nat} {s : State} : Within 268435464 s (s.takeInvals g base len) :=
  Within.foldl (fun _ _ w => State.takeInval_within.step (by decide) w) (Within.refl _ s)

theorem State.inval_takeInval {s : State} {d : Nat} (c : s.canonical) (die : d < s.dies.length) (g base len : Nat) :
    ((s.takeInval g base len d).die d).xlate.inval =
      some { fn := g, base := base, len := len, points := s.idleEngines d, acked := s.idleEngines d } := by
  rw [State.takeInval, State.die_count, State.inval_putInval (by rwa [State.dropWalks_within.length_dies c])]

theorem State.inval_takeInval_ne {s : State} {d e : Nat} (other : e ≠ d) (g base len : Nat) :
    ((s.takeInval g base len d).die e).xlate.inval = (s.die e).xlate.inval := by
  rw [State.takeInval, State.die_count, State.inval_putInval_ne _ other, State.dropWalks, State.xlate_onXlate_ne _ other]

theorem State.inval_takeInvals {s : State} {k : Nat} (c : s.canonical) (die : k < s.dies.length) (g base len : Nat) :
    ((s.takeInvals g base len).die k).xlate.inval =
      some { fn := g, base := base, len := len, points := s.idleEngines k, acked := s.idleEngines k } := by
  have make (t : State) (w : Within 268435464 s t) : ((t.takeInval g base len k).die k).xlate.inval =
      some { fn := g, base := base, len := len, points := s.idleEngines k, acked := s.idleEngines k } := by
    rw [State.inval_takeInval (w.canonical c) (by rwa [w.length_dies c]), w.idleEngines c]
  refine foldl_reaches (f := State.takeInval g base len) (I := Within 268435464 s)
    (P := fun t => (t.die k).xlate.inval = some
      { fn := g, base := base, len := len, points := s.idleEngines k, acked := s.idleEngines k }) (List.mem_range.mpr die)
    (fun t d w => State.takeInval_within.step (by decide) w) make (fun t d w taken => ?_) (Within.refl _ s)
  by_cases same : k = d
  · exact same ▸ make t w
  · rwa [State.inval_takeInval_ne same]

/-- The PF's INVALIDATE_RANGE goes to every die, and goes on while an engine has to acknowledge. -/
theorem State.invalidateRange_takes {s : State} {b : List Byte} {k : Nat} (i : Word) (c : s.canonical)
    (length : 0 < arg1 b) (range : arg0 b + arg1 b ≤ 2 ^ 46) (fn : bits (arg2 b) 4 0 ≤ 16) (die : k < s.dies.length)
    (busy : s.idleEngines k ≠ allEngines) :
    s.invalidateRange 0 i b = s.takeInvals (bits (arg2 b) 4 0) (arg0 b) (arg1 b) := by
  have good : ¬ (2 ^ 46 ≤ arg0 b ∨ arg1 b = 0 ∨ 2 ^ 46 < arg0 b + arg1 b ∨ 16 < bits (arg2 b) 4 0) := by omega
  have going := State.endInvalidation_waits (s := s.takeInvals (bits (arg2 b) 4 0) (arg0 b) (arg1 b))
    (by rwa [State.takeInvals_within.length_dies c]) (State.inval_takeInvals c die ..) busy
  rw [State.invalidateRange]
  dsimp only
  rw [if_neg (fun other : 0 ≠ 0 => other rfl), if_neg good]
  exact going

theorem invalidateRange_starts {s : State} {x : Queue} {u : Slot} {k : Nat} (c : s.canonical) (fns : 0 < s.fns.length)
    (begins : s.begins 0 0 x u) (opcode : dOpcode u.bytes = 0x20) (length : 0 < arg1 u.bytes)
    (range : arg0 u.bytes + arg1 u.bytes ≤ 2 ^ 46) (fn : bits (arg2 u.bytes) 4 0 ≤ 16) (die : k < s.dies.length)
    (busy : s.idleEngines k ≠ allEngines) : Completes (.invalidateRange 0) s fun t =>
      (t.exec? 0 0 u.index).map Exec.phase = some .running ∧ ∀ d < s.dies.length, (t.die d).xlate.inval =
        some { fn := bits (arg2 u.bytes) 4 0, base := arg0 u.bytes, len := arg1 u.bytes,
                points := s.idleEngines d, acked := s.idleEngines d } := by
  have runs := begins.runsAdmin fns (exec_invalidateRange s 0) (beq_iff_eq.mpr opcode)
  obtain ⟨_, _, free⟩ := begins
  have begun : Within 648 s (s.beginSlot 0 0 x u) := State.beginSlot_within
  have c' := begun.canonical c
  have idle (d : Nat) : (s.beginSlot 0 0 x u).idleEngines d = s.idleEngines d := begun.idleEngines c d
  rw [State.invalidateRange_takes u.index c' length range fn die (by rwa [idle])] at runs
  have work : Within 268436616 (s.beginSlot 0 0 x u)
      (((s.beginSlot 0 0 x u).takeInvals (bits (arg2 u.bytes) 4 0) (arg0 u.bytes) (arg1 u.bytes)).settle 0 0) :=
    State.settle_within.step (by decide) (State.takeInvals_within.mono (by decide))
  refine ⟨_, runs, ?_, fun d listed => ?_⟩
  · rw [State.exec?_of_within c' work (by decide) (State.beginSlot_exec? x free)]
    rfl
  · rw [State.settle_within.xlate (State.takeInvals_within.canonical c'), State.inval_takeInvals c' listed, idle]

/-! ### RESOLVE_FAULT (R353) -/

/-- A record freed while no access is held for one is free. -/
theorem State.faults_freeFault {s : State} {d n : Nat} (die : d < s.dies.length) (held : (s.die d).xlate.waiting = [])
    (wf : FMap.wf (s.die d).xlate.faults = true) : FMap.get? ((s.freeFault d n).die d).xlate.faults n = none := by
  rw [State.freeFault, State.admitHeldFaults_none (by rw [State.xlate_onXlate _ die, held]),
    State.xlate_onXlate _ (by rwa [State.onXlate_length]), State.xlate_onXlate _ die]
  exact (FMap.get?_erase _ wf).trans (if_pos rfl)

/-- A record counted as resolved, and freed. -/
def State.resolveRecord (s : State) (d n : Nat) : State := (s.count (xlatePage d) Ctr.xlateFaultsResolved).freeFault d n

theorem State.resolveRecord_within {s : State} {d n : Nat} : Within 268436488 s (s.resolveRecord d n) :=
  State.freeFault_within.step (by decide) (State.count_within.mono (by decide))

theorem State.faults_resolveRecord {s : State} {d n : Nat} (die : d < s.dies.length)
    (held : (s.die d).xlate.waiting = []) (wf : FMap.wf (s.die d).xlate.faults = true) :
    FMap.get? ((s.resolveRecord d n).die d).xlate.faults n = none :=
  State.faults_freeFault die (by rw [State.die_count, held]) (by rw [State.die_count, wf])

section ResolveFault

variable {s : State} {b : List Byte} {n d : Nat} {r : FaultRec} (c : s.canonical) (number : n = bits (arg1 b) 11 0)
  (place : d = bits (arg1 b) 18 16) (die : d < s.dies.length) (record : FMap.get? (s.die d).xlate.faults n = some r)
  (free : s.Unawaited d r)

include c number place die record free

/-- The PF resolves a record that nothing waits on. -/
theorem State.resolveFault_frees (i : Word) : s.resolveFault 0 i b = (s.resolveRecord d n).adminEnd 0 i stSuccess := by
  have execs : (s.resolveRecord d n).execs = s.execs := State.resolveRecord_within.areas .descriptors (by decide) c
  rw [State.resolveFault, ← number, ← place, if_neg (fun other : 0 ≠ 0 => other rfl), if_neg (Nat.not_le.mpr die), record]
  dsimp only
  rw [← State.resolveRecord, (free.congr State.resolveRecord_within c fun e listed => .inl (execs ▸ listed)).tellWaiters]

end ResolveFault

theorem resolveFault_frees {s : State} {x : Queue} {u : Slot} {n d : Nat} {r : FaultRec} (c : s.canonical)
    (fns : 0 < s.fns.length) (begins : s.begins 0 0 x u) (opcode : dOpcode u.bytes = 0x21)
    (number : n = bits (arg1 u.bytes) 11 0) (place : d = bits (arg1 u.bytes) 18 16) (die : d < s.dies.length)
    (record : FMap.get? (s.die d).xlate.faults n = some r) (free : s.Unawaited d r)
    (held : (s.die d).xlate.waiting = []) (wf : FMap.wf (s.die d).xlate.faults = true) :
    Completes (.resolveFault 0) s fun t =>
      t.ended 0 0 u.index stSuccess 0 0 ∧ FMap.get? (t.die d).xlate.faults n = none := by
  have begun : Within 648 s (s.beginSlot 0 0 x u) := State.beginSlot_within
  have c' := begun.canonical c
  have free' : (s.beginSlot 0 0 x u).Unawaited d r := free.congr begun c fun e listed => by
    rcases List.mem_append.mp listed with before | own
    · exact .inl before
    · exact .inr (List.mem_singleton.mp own ▸ rfl)
  refine begins.completes_within fns (exec_resolveFault s 0) (beq_iff_eq.mpr opcode)
    (State.resolveFault_frees c' number place die record free' u.index)
    (State.resolveRecord_within.areas .descriptors (by decide) c') fun v settles => ?_
  rw [settles.xlate (State.resolveRecord_within.canonical c')]
  exact State.faults_resolveRecord die (by rw [begun.xlate c, held]) (by rw [begun.xlate c, wf])

/-! ### SET_PAGE_TABLE_ROOT (R330, R331, R341, R356) -/

/-- What a die holds of a function dropped: its translations, and the tiles that Reckoners have fetched ahead. -/
def State.dropHeld (s : State) (d f : Nat) : State :=
  (List.range 5).foldl (fun s r => s.dropTiles d r f 0 (2 ^ 46)) (s.dropTranslations d (· == f))

theorem State.dropHeld_within {s : State} {d f : Nat} : Within 34628173824 s (s.dropHeld d f) :=
  Within.foldl (fun _ _ w => State.dropTiles_within.step (by decide) w) (State.dropTranslations_within.mono (by decide))

/-- Fault records and held accesses stay. -/
theorem State.faults_dropHeld {s : State} {d : Nat} (f : Nat) (c : s.canonical) (die : d < s.dies.length) :
    ((s.dropHeld d f).die d).xlate.faults = (s.die d).xlate.faults ∧
      ((s.dropHeld d f).die d).xlate.waiting = (s.die d).xlate.waiting := by
  have tiles : Within 34359738368 (s.dropTranslations d (· == f)) (s.dropHeld d f) :=
    Within.foldl (fun _ _ w => State.dropTiles_within.step (by decide) w) (Within.refl _ _)
  rw [tiles.xlate (State.dropTranslations_within.canonical c), State.dropTranslations, State.xlate_onXlate _ die]
  exact ⟨rfl, rfl⟩

/-- A root set while the function has no fault record and no access is held for one. -/
def State.putRoot (s : State) (d f root : Nat) : State :=
  (((s.dropHeld d f).onXlate d fun x =>
      { x with roots := if root = 0 then FMap.erase x.roots f else FMap.set x.roots f root }).dropFaults d (· == f)).onXlate d
    fun x => { x with waiting := [] }

theorem State.putRoot_within {s : State} {d f root : Nat} : Within 34628173824 s (s.putRoot d f root) :=
  State.onXlate_within.step (by decide) (State.dropFaults_within.step (by decide) (State.onXlate_within.step (by decide)
    State.dropHeld_within))

theorem State.setRoot_eq {s : State} {d f : Nat} (root : Nat) (c : s.canonical) (die : d < s.dies.length)
    (unrecorded : ∀ r ∈ (s.die d).xlate.faults, r.2.fn ≠ f) (held : (s.die d).xlate.waiting = []) :
    s.setRoot d f root = s.putRoot d f root := by
  have die' : d < (s.dropHeld d f).dies.length := by rwa [State.dropHeld_within.length_dies c]
  obtain ⟨faults, waiting⟩ := State.faults_dropHeld f c die
  have old : ((s.dropHeld d f).die d).xlate.faults.filter (fun r => r.2.fn == f) = [] := by
    rw [faults]
    exact List.filter_eq_nil_iff.mpr fun r listed => by simp [unrecorded r listed]
  rw [State.setRoot, ← State.dropHeld, old, List.map_nil, List.foldl_nil, State.admitHeldFaults_none, ← State.putRoot]
  rw [State.dropFaults, State.xlate_onXlate _ (by rwa [State.onXlate_length]), State.xlate_onXlate _ die']
  simp only [waiting, held, List.filter_nil]

theorem State.roots_putRoot {s : State} {d f root : Nat} (c : s.canonical) (die : d < s.dies.length) (pos : 0 < root) :
    FMap.get? ((s.putRoot d f root).die d).xlate.roots f = some root := by
  have die' : d < (s.dropHeld d f).dies.length := by rwa [State.dropHeld_within.length_dies c]
  rw [State.putRoot, State.dropFaults, State.xlate_onXlate _ (by rwa [State.onXlate_length, State.onXlate_length]),
    State.xlate_onXlate _ (by rwa [State.onXlate_length]), State.xlate_onXlate _ die']
  simp only [if_neg (Nat.ne_of_gt pos), FMap.get?_set_self]

/-- A root in memory that the PF holds: aligned, in the memory of the die that its address names, outside the device
regions. -/
structure State.RootOk (s : State) (b : List Byte) (d : Nat) : Prop where
  home : s.dieOf (gaEndpoint (BitVec.ofNat 64 (arg0 b))) = some d
  fn : bits (arg2 b) 4 0 ≤ 16
  aligned : gaOffset (BitVec.ofNat 64 (arg0 b)) % 32768 = 0
  inside : gaOffset (BitVec.ofNat 64 (arg0 b)) < 3 * 2 ^ 36
  plain : inDeviceRegion s.part (gaOffset (BitVec.ofNat 64 (arg0 b))) 32768 = false
  owned : s.owns d 0 (gaOffset (BitVec.ofNat 64 (arg0 b))) 32768 = true

theorem State.owns_congr {s t : State} (granules : t.granules = s.granules) (d f pa n : Nat) :
    t.owns d f pa n = s.owns d f pa n := by
  simp only [State.owns, State.granuleFn, granules]

/-- The beginning of a descriptor leaves what a root is checked for. -/
theorem State.RootOk.beginSlot {s : State} {b : List Byte} {d : Nat} (ok : s.RootOk b d) (c : s.canonical) (f q : Nat)
    (x : Queue) (u : Slot) : (s.beginSlot f q x u).RootOk b d where
  home := (State.dieOf_beginSlot c f q x u _).trans ok.home
  fn := ok.fn
  aligned := ok.aligned
  inside := ok.inside
  plain := ok.plain
  owned := (State.owns_congr rfl d 0 _ 32768).trans ok.owned

theorem State.setPageTableRoot_sets {s : State} {b : List Byte} {d : Nat} (i : Word) (ok : s.RootOk b d) :
    s.setPageTableRoot 0 i b =
      (s.setRoot d (bits (arg2 b) 4 0) (gaOffset (BitVec.ofNat 64 (arg0 b)))).adminEnd 0 i stSuccess := by
  obtain ⟨home, fn, aligned, inside, plain, owned⟩ := ok
  have shape : ¬ (16 < bits (arg2 b) 4 0 ∨ gaOffset (BitVec.ofNat 64 (arg0 b)) % 32768 ≠ 0) := by omega
  have low : ¬ 3 * 2 ^ 36 ≤ gaOffset (BitVec.ofNat 64 (arg0 b)) := Nat.not_le.mpr inside
  simp only [State.setPageTableRoot, home, if_neg shape, low, plain, owned, ne_eq, not_true_eq_false, Bool.not_true,
    Bool.false_eq_true, or_self, and_false, if_false]

theorem setPageTableRoot_sets {s : State} {x : Queue} {u : Slot} {d : Nat} (c : s.canonical) (fns : 0 < s.fns.length)
    (begins : s.begins 0 0 x u) (opcode : dOpcode u.bytes = 0x22) (ok : s.RootOk u.bytes d)
    (pos : 0 < gaOffset (BitVec.ofNat 64 (arg0 u.bytes))) (die : d < s.dies.length)
    (unrecorded : ∀ r ∈ (s.die d).xlate.faults, r.2.fn ≠ bits (arg2 u.bytes) 4 0) (held : (s.die d).xlate.waiting = []) :
    Completes (.setPageTableRoot 0) s fun t => t.ended 0 0 u.index stSuccess 0 0 ∧
      FMap.get? (t.die d).xlate.roots (bits (arg2 u.bytes) 4 0) = some (gaOffset (BitVec.ofNat 64 (arg0 u.bytes))) := by
  have c' : (s.beginSlot 0 0 x u).canonical := State.beginSlot_within.canonical c
  have acts := State.setPageTableRoot_sets u.index (ok.beginSlot c 0 0 x u)
  rw [State.setRoot_eq _ c' die unrecorded held] at acts
  refine begins.completes_within fns (exec_setPageTableRoot s 0) (beq_iff_eq.mpr opcode) acts ?_ fun v settles => ?_
  · exact State.putRoot_within.areas .descriptors (by decide) c'
  · rw [settles.xlate (State.putRoot_within.canonical c'), State.roots_putRoot c' die pos]

end Sys2Proof.Machine

namespace Sys2Proof

open Machine

/-- Settles O17: each command does what its lemma above says, on the state that its beginning leaves. -/
theorem translationAdminCommands : Obligations.TranslationAdminCommands := by
  refine fun s x u c fns begins => ⟨?invalidate, ?resolve, ?root⟩
  case invalidate =>
    rintro _ _ _ opcode rfl rfl rfl length range fn ⟨k, die, busy⟩
    exact invalidateRange_starts c fns begins opcode length range fn die busy
  case resolve =>
    intro n d r opcode number place die record tx rx execs runs colls held wf
    exact resolveFault_frees c fns begins opcode number place die record ⟨tx, rx, execs, runs, colls⟩ held wf
  case root =>
    rintro d _ _ opcode rfl home rfl fn pos aligned inside plain owned die unrecorded held
    exact setPageTableRoot_sets c fns begins opcode ⟨home, fn, aligned, inside, plain, owned⟩ pos die unrecorded held

end Sys2Proof
end

section
/-!
The stages of a recipe (R408, R415 to R420, R425, R430 to R435), and an uncorrectable error of the stage store (R387).
-/

namespace Sys2Proof.Machine

/-! ### A Reckoner changed -/

theorem State.reck_onReck {s : State} {d r : Nat} (f : Reckoner → Reckoner) (die : d < s.dies.length)
    (unit : r < (s.die d).recks.length) : (s.onReck d r f).reck d r = f (s.reck d r) := by
  rw [State.reck, State.onReck, State.die_onDie _ _ _ _ die, if_pos rfl, getElem?_modifyAt, if_pos rfl, State.reck,
    List.getElem?_eq_getElem unit, Option.map_some, Option.getD_some, Option.getD_some]

/-- A change of one Reckoner leaves each Reckoner as it is, or changes it. -/
theorem State.reck_onReck_or (s : State) (d r : Nat) (f : Reckoner → Reckoner) (e k : Nat) :
    (s.onReck d r f).reck e k = s.reck e k ∨ (s.onReck d r f).reck e k = f (s.reck e k) := by
  simp only [State.reck, State.die, State.onReck, State.onDie, getElem?_modifyAt]
  split
  · cases s.dies[e]? with
    | none => exact .inl rfl
    | some x =>
      simp only [Option.map_some, Option.getD_some, getElem?_modifyAt]
      split
      · cases x.recks[k]? with
        | none => exact .inl rfl
        | some y => exact .inr rfl
      · exact .inl rfl
  · exact .inl rfl

/-- What a change of a Reckoner keeps of it is the same of every Reckoner. -/
theorem State.onReck_congr {β : Type} {g : Reckoner → β} {f : Reckoner → Reckoner} (keeps : ∀ x, g (f x) = g x) (s : State)
    (d r e k : Nat) : g ((s.onReck d r f).reck e k) = g (s.reck e k) := by
  rcases s.reck_onReck_or d r f e k with same | changed
  · rw [same]
  · rw [changed, keeps]

/-- A change that starts no run leaves an idle Reckoner idle. -/
theorem State.runAt_onReck_none {s : State} {e k : Nat} {f : Reckoner → Reckoner} (idle : s.runAt e k = none)
    (starts : ∀ x, x.run = none → (f x).run = none) (d r : Nat) : (s.onReck d r f).runAt e k = none := by
  rcases s.reck_onReck_or d r f e k with same | changed
  · rwa [State.runAt, same]
  · rw [State.runAt, changed]
    exact starts _ idle

/-- An operation outside the Reckoners. -/
theorem Within.reck {W : Nat} {s t : State} (w : Within W s t) (c : s.canonical) (d r : Nat)
    (reckoners : W.testBit Area.reckoners.bit = false := by decide) : t.reck d r = s.reck d r := by
  rw [State.reck, State.die_congr (w.areas .reckoners reckoners c) d, State.reck]

@[simp] theorem State.reck_onInteg (s : State) (d : Nat) (f : Integrity → Integrity) (e k : Nat) :
    (s.onInteg d f).reck e k = s.reck e k := by
  have recks : ((s.onInteg d f).die e).recks = (s.die e).recks :=
    State.die_congr (g := Die.recks) (map_modifyAt _ _ _ _ fun _ => by rfl) e
  rw [State.reck, recks, State.reck]

/-- The checks outstanding are the same where a change of a Reckoner keeps the check records of its run. -/
theorem State.outstanding_onReck {f : Reckoner → Reckoner} (s : State) (d r j : Nat)
    (keeps : ∀ x, (f x).run.map Run.records = x.run.map Run.records) : (s.onReck d r f).outstanding j = s.outstanding j := by
  have dies : (s.onReck d r f).dieList = s.dieList := congrArg List.range (State.onDie_length ..)
  have integ (e : Nat) : (s.onReck d r f).integ e = s.integ e :=
    State.die_congr (g := Die.integ) (map_modifyAt _ _ _ _ fun _ => by rfl) e
  have recks (e : Nat) : ((s.onReck d r f).die e).recks.map (fun x => x.run.map Run.records) =
      (s.die e).recks.map fun x => x.run.map Run.records :=
    State.die_congr (g := fun x => x.recks.map fun x => x.run.map Run.records)
      (map_modifyAt _ _ _ (fun x : Die => x.recks.map fun x => x.run.map Run.records) fun x =>
        map_modifyAt x.recks r f _ keeps) e
  have checks (e : Nat) := congrArg (fun l => (l.map (·.getD [])).flatten) (recks e)
  simp only [List.map_map, Function.comp_def] at checks
  simp only [State.outstanding, State.allChecks, dies, integ, List.flatMap_def, checks]

/-! ### The end of a run (R424, R425) -/

/-- Whether a descriptor ends with its last Reckoner concerns the descriptor alone. -/
theorem State.endRecipe_keeps (s : State) (f q : Nat) (i : Word) :
    (s.endRecipe f q i).mem = s.mem ∧ (s.endRecipe f q i).dies = s.dies := by
  unfold State.endRecipe
  split
  · split <;> exact ⟨rfl, rfl⟩
  · exact ⟨rfl, rfl⟩

theorem State.reck_endRecipe (s : State) (f q : Nat) (i : Word) (e k : Nat) :
    (s.endRecipe f q i).reck e k = s.reck e k := by
  obtain ⟨_, dies⟩ := s.endRecipe_keeps f q i
  rw [State.reck, State.die, dies, State.reck, State.die]

theorem State.reck_unlink_count (s : State) (d id : Nat) (p : Page) (j n e k : Nat) :
    ((s.unlink d id).count p j n).reck e k = s.reck e k := by
  rw [State.reck, State.die_count, ← State.reck, State.unlink, State.reck_onInteg]

/-- A Reckoner whose run has ended. -/
def Reckoner.ended (x : Reckoner) : Reckoner := { x with run := none, cls := 0 }

/-- The end of a run leaves memory, and of the Reckoners changes its own alone. -/
theorem State.clearRun_keeps (s : State) (d r : Nat) : (s.clearRun d r).mem = s.mem ∧
    ∀ e k, (s.clearRun d r).reck e k = (s.onReck d r Reckoner.ended).reck e k := by
  unfold State.clearRun
  extract_lets lost idle
  refine List.foldlRecOn (motive := fun t : State => t.mem = s.mem ∧
    ∀ e k, t.reck e k = (s.onReck d r Reckoner.ended).reck e k) _ _ ⟨rfl, fun _ _ => rfl⟩ fun t h c _ => ?_
  obtain ⟨mem, reck⟩ := h
  exact ⟨mem, fun e k => (t.reck_unlink_count ..).trans (reck e k)⟩

theorem State.runAt_clearRun_self {s : State} {d r : Nat} (die : d < s.dies.length) (unit : r < (s.die d).recks.length) :
    (s.clearRun d r).runAt d r = none := by
  obtain ⟨_, reck⟩ := s.clearRun_keeps d r
  rw [State.runAt, reck, State.reck_onReck _ die unit, Reckoner.ended]

theorem State.runAt_clearRun_none {s : State} {e k : Nat} (idle : s.runAt e k = none) (d r : Nat) :
    (s.clearRun d r).runAt e k = none := by
  obtain ⟨_, reck⟩ := s.clearRun_keeps d r
  rw [State.runAt, reck]
  exact State.runAt_onReck_none idle (fun _ _ => rfl) d r

/-! ### The end of a stage (R408, R425) -/

/-- The walk to the next stage leaves the check records of a run. -/
theorem walkStages_records (b : List Byte) (seqs : List Sequence) (fuel : Nat) (x : Run) :
    (walkStages b seqs fuel x).records = x.records := by
  fun_induction walkStages b seqs fuel x with
  | case1 | case2 | case5 => rfl
  | case3 | case4 | case6 | case7 => assumption

theorem Run.next_records (x : Run) (b : List Byte) (seqs : List Sequence) : (x.next b seqs).records = x.records :=
  walkStages_records b seqs 64 _

/-- A Reckoner's run goes on to its next stage (R408). -/
def State.toNextStage (s : State) (d r : Nat) (b : List Byte) : State :=
  s.onReck d r fun y => { y with run := y.run.map fun x => x.next b y.seqs, cls := 0 }

section StageEnd

variable {s : State} {d r : Nat} {y : Run} {p : Recipe}

theorem State.stageDone_eq (run : s.runAt d r = some y) (goes : y.stopping = false)
    (recipe : FMap.get? s.recipes y.handle = some p) : s.stageDone d r = (s.toNextStage d r p.bundle).tryFinish d r := by
  simp only [State.stageDone, run, goes, recipe, Bool.false_eq_true, if_false, State.toNextStage]

theorem State.runAt_toNextStage (b : List Byte) (die : d < s.dies.length) (unit : r < (s.die d).recks.length)
    (run : s.runAt d r = some y) : (s.toNextStage d r b).runAt d r = some (y.next b (s.reck d r).seqs) := by
  rw [State.runAt] at run
  rw [State.runAt, State.toNextStage, State.reck_onReck _ die unit, run, Option.map_some]

@[simp] theorem State.toNextStage_length (s : State) (d r : Nat) (b : List Byte) :
    (s.toNextStage d r b).dies.length = s.dies.length := State.onDie_length ..

theorem State.length_recks_toNextStage (b : List Byte) (die : d < s.dies.length) :
    ((s.toNextStage d r b).die d).recks.length = (s.die d).recks.length := by
  rw [State.toNextStage, State.onReck, State.die_onDie _ _ _ _ die, if_pos rfl, length_modifyAt]

theorem State.outstanding_toNextStage (s : State) (d r : Nat) (b : List Byte) (j : Nat) :
    (s.toNextStage d r b).outstanding j = s.outstanding j :=
  s.outstanding_onReck d r j fun x => by cases x.run <;> simp [Run.next_records]

/-- The end of a run's stages leaves memory and the stage stores, whether the run ends or waits. -/
theorem State.tryFinish_keeps (s : State) (d r : Nat) :
    (s.tryFinish d r).mem = s.mem ∧ ((s.tryFinish d r).reck d r).store = (s.reck d r).store := by
  have held := State.onReck_congr (g := Reckoner.store) (f := fun x : Reckoner =>
    { x with run := x.run.map fun y => { y with held := true } }) (fun _ => by rfl) s d r d r
  have ended := State.onReck_congr (g := Reckoner.store) (f := Reckoner.ended) (fun _ => by rfl) s d r d r
  unfold State.tryFinish
  split
  · exact ⟨rfl, rfl⟩
  next x _ =>
    split
    · exact ⟨rfl, rfl⟩
    · split
      · obtain ⟨mem, _⟩ := (s.clearRun d r).endRecipe_keeps x.fn x.q x.index
        obtain ⟨mem', reck⟩ := s.clearRun_keeps d r
        rw [State.reck_endRecipe, reck]
        exact ⟨mem.trans mem', ended⟩
      · exact ⟨rfl, held⟩

/-- A run with a stage to go on to does not end. -/
theorem State.tryFinish_of_stage (run : s.runAt d r = some y) (stage : y.stage.isSome = true) : s.tryFinish d r = s := by
  simp only [State.tryFinish, run, stage, Bool.true_or, if_true]

/-- A run with no stage left ends where no check of it is outstanding (R425). -/
theorem State.runAt_tryFinish_none (die : d < s.dies.length) (unit : r < (s.die d).recks.length)
    (run : s.runAt d r = some y) (last : y.stage = none) (placed : y.records = [])
    (checked : s.outstanding (d * 5 + r) = []) : (s.tryFinish d r).runAt d r = none := by
  have ends : s.tryFinish d r = (s.clearRun d r).endRecipe y.fn y.q y.index := by
    simp [State.tryFinish, run, last, placed, State.mayRelease, checked]
  rw [ends, State.runAt, State.reck_endRecipe]
  exact State.runAt_clearRun_self die unit

end StageEnd

/-! ### The commands of the stages -/

/-- The command of each kind of stage, the stages that it runs, and their work. -/
abbrev stageCommands (d r : Nat) : List (Instr × (Stage → Bool) × (Work → RM Unit)) :=
  [(.load d r .clean, fun st => st.kind == kLoad, stageLoad),
    (.matmul d r .clean, fun st => st.kind == kMatmul, stageMatmul),
    (.vector d r .clean, fun st => st.kind == kVector, stageVector),
    (.store d r .clean, fun st => st.kind == kStore, stageStore),
    (.candidate d r .clean, fun st => st.kind == kSample && !st.draw, stageCandidate),
    (.draw d r .clean, fun st => st.kind == kSample && st.draw, stageDraw),
    (.signal d r, fun st => st.kind == kSignal, stageSignal)]

theorem exec_stageCommand (s : State) (d r : Nat) : ∀ x ∈ stageCommands d r,
    exec x.1 s = atUnit s d (r < 5) (s.runStage d r x.2.1 .clean x.2.2) := by
  simp only [stageCommands, List.forall_mem_cons, List.not_mem_nil, false_implies, implies_true, and_true]
  exact ⟨rfl, rfl, rfl, rfl, rfl, rfl, rfl⟩

/-- A stage whose work does not halt is done. -/
theorem State.runStage_done {s s2 : State} {d r : Nat} {w : Work} {sel : Stage → Bool} {act : Work → RM Unit}
    (at_ : s.workAt d r = some w) (kind : sel w.st = true) (work : act w (s.beginStage w) = (.ok (), s2)) :
    s.runStage d r sel .clean act = s2.stageDone d r := by
  simp only [State.runStage, at_, kind, Bool.not_true, Bool.false_eq_true, if_false, work, State.settleStage]

theorem stageCommand_runs {s s2 : State} {d r : Nat} {w : Work} {c : Instr} {sel : Stage → Bool} {act : Work → RM Unit}
    {y : Run} {p : Recipe} (die : d < s.dies.length) (unit : r < 5) (command : (c, sel, act) ∈ stageCommands d r)
    (at_ : s.workAt d r = some w) (kind : sel w.st = true) (work : act w (s.beginStage w) = (.ok (), s2))
    (run : s2.runAt d r = some y) (goes : y.stopping = false) (recipe : FMap.get? s2.recipes y.handle = some p) :
    exec c s = .next ((s2.toNextStage d r p.bundle).tryFinish d r) := by
  rw [exec_stageCommand s d r _ command, State.runStage_done at_ kind work, State.stageDone_eq run goes recipe, atUnit,
    if_pos die, if_pos (decide_eq_true unit)]

/-! ### An uncorrectable error of the stage store (R387, R424) -/

/-- The page of a Reckoner lies apart from the pages that its error counts on beside (R35). -/
theorem reckonerPage_apart {r : Nat} (d : Nat) (unit : r < 5) :
    (∀ e k, (reckonerPage d r).addr ≠ (recipePage e k).addr) ∧ (∀ e, (reckonerPage d r).addr ≠ (integrityPage e).addr) ∧
      (reckonerPage d r).addr ≠ (colophonPage d).addr := by
  simp only [Page.addr, Page.off, PageKind.place]
  refine ⟨fun e k => ?_, fun e => ?_, ?_⟩ <;> omega

namespace State.KeepsCtr

variable {p : Page} {k : Nat} {s t : State} (h : State.KeepsCtr p k s t)
  (integrity : ∀ e, p.addr ≠ (integrityPage e).addr) (recipe : ∀ e j, p.addr ≠ (recipePage e j).addr)

include h integrity

/-- The checks that a run takes with it count on the pages of their integrity units alone. -/
theorem clearRun (d r : Nat) : State.KeepsCtr p k s (t.clearRun d r) := by
  unfold State.clearRun
  exact foldl _ (h.within State.onReck_within) fun u c hu => (hu.within State.unlink_within).count (integrity _) _ _

include recipe

theorem stopOne (d r status detail : Nat) : State.KeepsCtr p k s (t.stopOne d r status detail) := by
  unfold State.stopOne
  have noted := (h.within (State.onReck_within (d := d) (r := r) (f := fun x =>
    { x with abort := status * 65536 + detail }))).count (recipe d r) Ctr.recipeCtlRecipesAborted 1
  exact (noted.within State.raise_within).clearRun integrity d r

theorem stopPeers (f q : Nat) (i : Word) : State.KeepsCtr p k s (t.stopPeers f q i) := by
  unfold State.stopPeers
  refine foldl _ h fun u j hu => ?_
  split
  · exact hu.within State.onRun_within
  · exact hu.stopOne integrity recipe _ _ _ _

theorem failRun (d r status detail : Nat) : State.KeepsCtr p k s (t.failRun d r status detail) := by
  unfold State.failRun
  split
  · exact h
  · exact (((h.within State.onExec_within).stopOne integrity recipe d r status detail).stopPeers integrity recipe
      _ _ _).within State.endRecipe_within

end State.KeepsCtr

theorem State.length_recks {s : State} (sound : s.sound) (d : Nat) : (s.die d).recks.length = 5 := by
  have units := State.units_die sound d
  simp only [Die.units, List.cons.injEq] at units
  obtain ⟨_, _, _, _, _, _, recks, _⟩ := units
  exact recks

section Stops

variable {s : State} {d r : Nat} (status detail : Nat)

/-- A Reckoner's error on its page and in RECIPE_ABORT, before its run ends (R424). -/
def State.noteAbort (s : State) (d r status detail : Nat) : State :=
  ((s.onReck d r fun x => { x with abort := status * 65536 + detail }).count (recipePage d r)
    Ctr.recipeCtlRecipesAborted).raise (recipePage d r) 1

theorem State.noteAbort_within : Within 34359742476 s (s.noteAbort d r status detail) :=
  State.raise_within.step (by decide) (State.count_within.step (by decide) (State.onReck_within.mono (by decide)))

/-- A Reckoner that stops runs nothing. -/
theorem State.runAt_stopOne_self (sound : s.sound) (die : d < s.dies.length) (unit : r < 5) :
    (s.stopOne d r status detail).runAt d r = none := by
  have noted : Within 34359742476 s (s.noteAbort d r status detail) := State.noteAbort_within status detail
  refine State.runAt_clearRun_self (s := s.noteAbort d r status detail) ?_ ?_
  · rwa [noted.length_dies sound.1]
  · rwa [State.length_recks (noted.sound sound)]

/-- A Reckoner that stops starts no run on another. -/
theorem State.runAt_stopOne_none {e k : Nat} (c : s.canonical) (idle : s.runAt e k = none) (d r : Nat) :
    (s.stopOne d r status detail).runAt e k = none := by
  refine State.runAt_clearRun_none (s := s.noteAbort d r status detail) ?_ d r
  have abort := State.runAt_onReck_none (f := fun x => { x with abort := status * 65536 + detail }) idle
    (fun _ none => none) d r
  rw [State.runAt, State.noteAbort, State.raise_within.reck (State.count_within.canonical (State.onReck_within.canonical c)),
    State.count_within.reck (State.onReck_within.canonical c)]
  exact abort

/-- The peers of a Reckoner that stop start no run on it. -/
theorem State.runAt_stopPeers_none (c : s.canonical) (idle : s.runAt d r = none) (f q : Nat) (i : Word) :
    (s.stopPeers f q i).runAt d r = none := by
  unfold State.stopPeers
  refine And.right (List.foldlRecOn (motive := fun t : State => t.canonical ∧ t.runAt d r = none) _ _ ⟨c, idle⟩
    fun t h k _ => ?_)
  obtain ⟨c, idle⟩ := h
  split
  · refine ⟨State.onRun_within.canonical c, State.runAt_onReck_none idle (fun x none => ?_) _ _⟩
    rw [none, Option.map_none]
  · exact ⟨State.stopOne_within.canonical c, State.runAt_stopOne_none _ _ c idle _ _⟩

/-- A run that meets an error ends. -/
theorem State.runAt_failRun (sound : s.sound) (die : d < s.dies.length) (unit : r < 5) :
    (s.failRun d r status detail).runAt d r = none := by
  unfold State.failRun
  split
  · assumption
  next x _ =>
    extract_lets begun
    have first : Within 512 s begun := State.onExec_within
    have stopped := State.runAt_stopOne_self status detail (first.sound sound) die unit
    have peers := State.runAt_stopPeers_none (State.stopOne_within.canonical (first.canonical sound.1)) stopped
      x.fn x.q x.index
    rwa [State.runAt, State.reck_endRecipe]

/-- An uncorrectable error counted, recorded and raised, before the run ends (R387). -/
def State.noteEcc (s : State) (d r a : Nat) : State :=
  (((s.count (reckonerPage d r) Ctr.reckonerStageEccUncorrected).error (reckonerPage d r) 0x0101).setReg (reckonerPage d r)
    0x104 (a % 2 ^ 24)).raise (reckonerPage d r) 1

theorem State.noteEcc_within {a : Nat} : Within 8589946894 s (s.noteEcc d r a) :=
  State.raise_within.step (by decide) ((State.setReg_own (by decide) (by decide)).step (by decide)
    (State.error_within.step (by decide) (State.count_within.mono (by decide))))

theorem State.runAt_stageEcc (a : Nat) (sound : s.sound) (die : d < s.dies.length) (unit : r < 5) :
    (s.stageEcc d r a).runAt d r = none := by
  have noted : Within 8589946894 s (s.noteEcc d r a) := State.noteEcc_within
  exact State.runAt_failRun (s := s.noteEcc d r a) _ _ (noted.sound sound) (by rwa [noted.length_dies sound.1]) unit

end Stops

/-- A stage that begins counts on the page of recipe control alone. -/
theorem State.KeepsCtr.beginStage {p : Page} {k : Nat} {s t : State} (h : State.KeepsCtr p k s t)
    (recipe : ∀ e j, p.addr ≠ (recipePage e j).addr) (w : Work) : State.KeepsCtr p k s (t.beginStage w) := by
  unfold State.beginStage
  split
  · exact h.within State.onRun_within
  · exact (h.within State.onReck_within).count (recipe _ _) _ _

/-- An uncorrectable error counts once in STAGE_ECC_UNCORRECTED (R387). -/
theorem State.counted_stageEcc {s t : State} {d r : Nat} (a : Nat) (unit : r < 5)
    (before : State.KeepsCtr (reckonerPage d r) Ctr.reckonerStageEccUncorrected s t) :
    Counted (reckonerPage d r) Ctr.reckonerStageEccUncorrected 1 s (t.stageEcc d r a) := by
  obtain ⟨recipe, integrity, colophon⟩ := reckonerPage_apart d unit
  have counted := State.KeepsCtr.refl (p := reckonerPage d r) (k := Ctr.reckonerStageEccUncorrected)
    (State.count_within (p := reckonerPage d r) (k := Ctr.reckonerStageEccUncorrected) (n := 1) |>.canonical before.canonical)
  have recorded := (counted.error (q := reckonerPage d r) colophon 0x0101 0 0).within
    (State.setReg_own (p := reckonerPage d r) (off := 0x104) (v := a % 2 ^ 24) (by decide) (by decide))
  exact before.counted ((recorded.within State.raise_within).failRun integrity recipe d r stRecipeAborted raEcc)

theorem exec_load_uncorrectable {s : State} {d r a : Nat} {w : Work} (die : d < s.dies.length) (unit : r < 5)
    (at_ : s.workAt d r = some w) (kind : w.st.kind = kLoad) :
    exec (.load d r (.uncorrectable a)) s = .next ((s.beginStage w).stageEcc d r a) := by
  have row : exec (.load d r (.uncorrectable a)) s = execLoad d r (.uncorrectable a) s := by rfl
  simp only [row, execLoad, atUnit, if_pos die, decide_eq_true unit, if_true, State.runStage, at_, kind, beq_self_eq_true,
    Bool.not_true, Bool.false_eq_true, if_false]

end Sys2Proof.Machine

namespace Sys2Proof

open Machine

/-- Settles O40: a stage that is done goes on to its next stage or ends its run, and an uncorrectable error ends it. -/
theorem recipesRunTheirStages : Obligations.RecipesRunTheirStages := by
  refine ⟨?done, ?ecc⟩
  case done =>
    intro s d r w c sel act s2 y p _ die unit at_ command kind work run goes recipe recks die2
    have unit2 : r < (s2.die d).recks.length := recks ▸ unit
    have die3 : d < (s2.toNextStage d r p.bundle).dies.length := by rwa [State.toNextStage_length]
    have unit3 : r < ((s2.toNextStage d r p.bundle).die d).recks.length := by rwa [State.length_recks_toNextStage p.bundle die2]
    have next := State.runAt_toNextStage p.bundle die2 unit2 run
    obtain ⟨mem, store⟩ := (s2.toNextStage d r p.bundle).tryFinish_keeps d r
    refine ⟨_, stageCommand_runs die unit command at_ kind work run goes recipe, mem, store.trans ?_, ?_, ?_⟩
    · exact State.onReck_congr (g := Reckoner.store) (fun _ => by rfl) s2 d r d r
    · intro stage
      rw [State.tryFinish_of_stage next stage, next]
    · intro last placed checked _
      exact State.runAt_tryFinish_none die3 unit3 next last placed ((s2.outstanding_toNextStage d r _ _).trans checked)
  case ecc =>
    intro s d r a w sound die unit at_ kind
    obtain ⟨recipe, _, _⟩ := reckonerPage_apart d unit
    have begun : Within 34359738376 s (s.beginStage w) := State.beginStage_within
    refine ⟨_, exec_load_uncorrectable die unit at_ kind, ?_, ?_⟩
    · exact State.runAt_stageEcc a (begun.sound sound) (by rwa [begun.length_dies sound.1]) unit
    · exact State.counted_stageEcc a unit ((State.KeepsCtr.refl sound.1).beginStage recipe w)

end Sys2Proof
end

section
/-!
Recipes and tables loaded by the admin queue (R380, R404 to R406, R429, R438, R519).
-/

namespace Sys2Proof.Machine

/-! ### Beginning and ending (R115, R145) -/

/-- An admin command that ends with a status and results, by the state that it leaves before it ends. -/
theorem State.begins.completes_results {s t : State} {f : Nat} {x : Queue} {u : Slot} {c : Instr}
    {mine : List Byte → Bool} {act : State → Word → List Byte → State} {st r0 r1 : Nat} {P : State → Prop}
    (begins : s.begins f 0 x u) (fn : f < s.fns.length) (row : exec c s = atFn s f (s.beginAdmin f mine act))
    (named : mine u.bytes = true)
    (acts : act (s.beginSlot f 0 x u) u.index u.bytes = t.adminEnd f u.index st r0 r1)
    (same : t.execs = (s.beginSlot f 0 x u).execs) (post : ∀ v : State, Within 1672 t v → P v) :
    Completes c s fun v => v.ended f 0 u.index st r0 r1 ∧ P v := by
  have runs := begins.runsAdmin fn row named
  obtain ⟨_, _, free⟩ := begins
  rw [acts] at runs
  have found := State.beginSlot_exec? x free
  rw [State.exec?, ← same] at found
  obtain ⟨execs, _⟩ := State.settle_admin (t.adminEnd f u.index st r0 r1) f
  exact ⟨_, runs, State.ended_congr execs (State.finish_ended st 0 r0 r1 found rfl rfl),
    post _ (State.settle_within.step (by decide) (State.adminEnd_within.mono (by decide)))⟩

/-- A command that has begun and read `n` bytes of host memory for its first argument (R145). -/
def State.beginRead (s : State) (f : Nat) (x : Queue) (u : Slot) (n : Nat) : State :=
  (s.beginSlot f 0 x u).emit (.hostRead f (BitVec.ofNat 64 (arg0 u.bytes)) n)

theorem State.beginRead_within {s : State} {f n : Nat} {x : Queue} {u : Slot} :
    Within 4194952 s (s.beginRead f x u n) :=
  State.emit_within.step (by decide) (State.beginSlot_within.mono (by decide))

/-- A LOAD_TABLE of whole length runs on the table that was read (R146). -/
theorem State.begins.completesTable {s t : State} {f id : Nat} {x : Queue} {u : Slot} {c : Instr} {tenant : Bool}
    {table : List Byte} {act : State → Word → Nat → List Byte → State} {P : State → Prop} (begins : s.begins f 0 x u)
    (fn : f < s.fns.length) (row : exec c s = atFn s f (s.beginTable f id tenant table act))
    (opcode : dOpcode u.bytes = 0x1A) (kind : bits (arg1 u.bytes) 7 0 = id) (whole : bits (arg1 u.bytes) 63 32 = table.length)
    (short : table.length ≤ 1048576) (may : f = 0 ∨ tenant = true)
    (acts : act (s.beginRead f x u table.length) u.index (bits (arg1 u.bytes) 15 8) table = t.adminEnd f u.index stSuccess)
    (same : t.execs = (s.beginSlot f 0 x u).execs) (post : ∀ v : State, Within 1672 t v → P v) :
    Completes c s fun v => v.ended f 0 u.index stSuccess 0 0 ∧ P v := by
  refine begins.completes_results fn row (by simp [opcode, kind]) ?_ same post
  have good : ¬ (bits (arg1 u.bytes) 7 0 ≠ id ∨ 1048576 < bits (arg1 u.bytes) 63 32) := by omega
  have free : ¬ (f ≠ 0 ∧ (!tenant) = true) := by
    rcases may with rfl | rfl <;> simp
  dsimp only
  rw [if_neg good, if_neg free, whole, fitTo_of_length rfl]
  exact acts

/-! ### LOAD_RECIPE (R404, R405) -/

/-- A recipe given a handle, whose EPOCH starts anew on every Reckoner (R405, R493). -/
def State.holdRecipe (s : State) (h : Nat) (p : Recipe) : State :=
  s.reckList.foldl (fun s k => s.onReck (k / 5) (k % 5) fun x => { x with epochs := FMap.erase x.epochs h })
    { s with recipes := FMap.set s.recipes h p }

theorem State.holdRecipe_within {s : State} {h : Nat} {p : Recipe} :
    Within 34359738368 { s with recipes := FMap.set s.recipes h p } (s.holdRecipe h p) :=
  Within.foldl (fun _ _ w => State.onReck_within.step (by decide) w) (Within.refl _ _)

/-- A good bundle takes the lowest free handle where the function may hold one more (R405). -/
theorem State.loadRecipe_holds {s : State} {f h : Nat} {bundle : List Byte} (i : Word) (good : bundleOk bundle = true)
    (lowest : lowestBelow 128 (fun h => (FMap.get? s.recipes h).isNone) = some h)
    (room : s.handleCount f < s.share f 128 Fn.handles) : s.loadRecipe f i bundle =
      (s.holdRecipe h { fn := f, bundle := bundle, dies := s.dieList }).adminEnd f i stSuccess h := by
  simp only [State.loadRecipe, good, Bool.not_true, Bool.false_eq_true, if_false, lowest, if_neg (Nat.not_le.mpr room)]
  rfl

theorem exec_loadRecipe (s : State) (f : Nat) (bundle : List Byte) : exec (.loadRecipe f bundle) s =
    atFn s f (s.beginAdmin f (fun d => dOpcode d == 0x18) fun s i d =>
      if 1048576 < bits (arg1 d) 31 0 then s.adminEnd f i stInvalidArgument
      else (s.emit (.hostRead f (BitVec.ofNat 64 (arg0 d)) (bits (arg1 d) 31 0))).loadRecipe f i
        (fitTo (bits (arg1 d) 31 0) bundle)) := by rfl

theorem loadRecipe_holds {s : State} {f h : Nat} {x : Queue} {u : Slot} {bundle : List Byte} (c : s.canonical)
    (fn : f < s.fns.length) (begins : s.begins f 0 x u) (opcode : dOpcode u.bytes = 0x18)
    (whole : bundle.length = bits (arg1 u.bytes) 31 0) (short : bits (arg1 u.bytes) 31 0 ≤ 1048576)
    (good : bundleOk bundle = true) (lowest : lowestBelow 128 (fun h => (FMap.get? s.recipes h).isNone) = some h)
    (room : s.handleCount f < s.share f 128 Fn.handles) : Completes (.loadRecipe f bundle) s fun t =>
      t.ended f 0 u.index stSuccess h 0 ∧ FMap.get? t.recipes h = some { fn := f, bundle := bundle, dies := s.dieList } ∧
      t.outbox = .hostRead f (BitVec.ofNat 64 (arg0 u.bytes)) (bits (arg1 u.bytes) 31 0) :: s.outbox := by
  have c' : (s.beginRead f x u (bits (arg1 u.bytes) 31 0)).canonical := State.beginRead_within.canonical c
  have acts := State.loadRecipe_holds (s := s.beginRead f x u (bits (arg1 u.bytes) 31 0)) u.index good lowest room
  refine begins.completes_results fn (exec_loadRecipe s f bundle) (beq_iff_eq.mpr opcode)
    (t := (s.beginRead f x u (bits (arg1 u.bytes) 31 0)).holdRecipe h { fn := f, bundle := bundle, dies := s.dieList })
    ?_ (State.holdRecipe_within.areas .descriptors (by decide) c') fun v settles => ?_
  · rw [if_neg (Nat.not_lt.mpr short), fitTo_of_length whole]
    exact acts
  · have held : Within 34359740040 _ v := settles.step (by decide) (State.holdRecipe_within.mono (by decide))
    exact ⟨(congrArg (FMap.get? · h) (held.areas .recipes (by decide) c')).trans (FMap.get?_set_self ..),
      held.areas .outbox (by decide) c'⟩

/-! ### UNLOAD_RECIPE (R406, R438) -/

/-- Whether a RUN_RECIPE that names a handle waits at the head of the queue of a key (R438). -/
def State.waitsAt (s : State) (h k : Nat) : Bool :=
  match s.nextSlot (k / 65536) (k % 65536) with
  | some (_, t) => k % 65536 != 0 && dOpcode t.bytes == 0x20 && dTarget t.bytes == h && s.runWaits (k / 65536) t.bytes
  | none => false

theorem State.handleWaits_keys (s : State) (h : Nat) : s.handleWaits h = (s.queues.map Prod.fst).any (s.waitsAt h) := by
  rw [List.any_map]
  rfl

/-- The beginning of an admin command leaves the next slot of every other queue. -/
theorem State.nextSlot_beginSlot {s : State} {q : Nat} (f : Nat) (x : Queue) (u : Slot) (g : Nat) (pos : q ≠ 0)
    (low : q < 65536) : (s.beginSlot f 0 x u).nextSlot g q = s.nextSlot g q := by
  have queue : (s.beginSlot f 0 x u).queue g q = s.queue g q :=
    State.queue_setQueue_ne _ (by decide) low fun e => pos (congrArg Prod.snd e)
  have fns : (s.beginSlot f 0 x u).fn g = s.fn g := rfl
  simp only [State.nextSlot, queue, fns, bne_iff_ne.mpr pos, Bool.true_or]

theorem State.waitsAt_beginSlot (s : State) (f : Nat) (x : Queue) (u : Slot) (h k : Nat) :
    (s.beginSlot f 0 x u).waitsAt h k = s.waitsAt h k := by
  by_cases admin : k % 65536 = 0
  · simp only [State.waitsAt, admin, bne_self_eq_false, Bool.false_and]
    split <;> split <;> rfl
  · have waits (d : List Byte) : (s.beginSlot f 0 x u).runWaits (k / 65536) d = s.runWaits (k / 65536) d := rfl
    simp only [State.waitsAt, State.nextSlot_beginSlot f x u _ admin (Nat.mod_lt k (by decide)), waits]

theorem State.handleWaits_beginSlot {s : State} {f : Nat} {x : Queue} (u : Slot) (queue : s.queue f 0 = some x) (h : Nat) :
    (s.beginSlot f 0 x u).handleWaits h = s.handleWaits h := by
  have keys : (s.beginSlot f 0 x u).queues.map Prod.fst = s.queues.map Prod.fst := FMap.keys_set _ queue
  rw [State.handleWaits_keys, keys, funext (s.waitsAt_beginSlot f x u h), State.handleWaits_keys]

/-- A handle that no Reckoner runs and no RUN_RECIPE waits for is freed (R406). -/
theorem State.unloadRecipe_frees {s : State} {f : Nat} {d : List Byte} (i : Word)
    (held : (FMap.get? s.recipes (bits (arg1 d) 15 0)).map Recipe.fn = some f)
    (idle : ∀ k ∈ s.reckList, (s.runAt (k / 5) (k % 5)).map Run.handle ≠ some (bits (arg1 d) 15 0))
    (free : s.handleWaits (bits (arg1 d) 15 0) = false) : s.unloadRecipe f i d =
      ({ s with recipes := FMap.erase s.recipes (bits (arg1 d) 15 0) } : State).adminEnd f i stSuccess := by
  have none : (s.reckList.any fun k => (s.runAt (k / 5) (k % 5)).map Run.handle == some (bits (arg1 d) 15 0)) = false :=
    List.any_eq_false.mpr fun k listed => by simpa using idle k listed
  simp only [State.unloadRecipe, held, ne_eq, not_true_eq_false, if_false, none, free, Bool.or_self, Bool.false_eq_true]

theorem exec_unloadRecipe (s : State) (f : Nat) : exec (.unloadRecipe f) s =
    atFn s f (s.beginAdmin f (fun d => dOpcode d == 0x19) fun s i d => s.unloadRecipe f i d) := by rfl

theorem unloadRecipe_frees {s : State} {f : Nat} {x : Queue} {u : Slot} (c : s.canonical) (fn : f < s.fns.length)
    (begins : s.begins f 0 x u) (opcode : dOpcode u.bytes = 0x19)
    (held : (FMap.get? s.recipes (bits (arg1 u.bytes) 15 0)).map Recipe.fn = some f)
    (idle : ∀ k ∈ s.reckList, (s.runAt (k / 5) (k % 5)).map Run.handle ≠ some (bits (arg1 u.bytes) 15 0))
    (free : s.handleWaits (bits (arg1 u.bytes) 15 0) = false) (wf : FMap.wf s.recipes = true) :
    Completes (.unloadRecipe f) s fun t =>
      t.ended f 0 u.index stSuccess 0 0 ∧ FMap.get? t.recipes (bits (arg1 u.bytes) 15 0) = none := by
  have c' : (s.beginSlot f 0 x u).canonical := State.beginSlot_within.canonical c
  have free' := (State.handleWaits_beginSlot u (State.nextSlot_queue begins.1) (bits (arg1 u.bytes) 15 0)).trans free
  refine begins.completes_within fn (exec_unloadRecipe s f) (beq_iff_eq.mpr opcode)
    (State.unloadRecipe_frees (s := s.beginSlot f 0 x u) u.index held idle free') rfl fun v settles => ?_
  have recipes := settles.areas .recipes (by decide) c'
  refine (congrArg (FMap.get? · (bits (arg1 u.bytes) 15 0)) recipes).trans ?_
  exact (FMap.get?_erase _ wf).trans (if_pos rfl)

/-! ### LOAD_TABLE of a Reckoner (R380, R429) -/

/-- A table for one Reckoner that the function holds goes to it (R380). -/
theorem State.tableTargets_one {s : State} {f inst k : Nat} (low : inst < 40) (held : s.namedReckoner f inst = some k) :
    s.tableTargets f inst = [k] := by
  simp only [State.tableTargets, if_neg (Nat.ne_of_lt (Nat.lt_trans low (by decide : 40 < 0xFF))), if_pos low, held,
    Option.toList_some]

/-- The little-endian number in `n` bytes. -/
theorem fromLE_lt (bs : List Byte) : fromLE bs < 256 ^ bs.length := by
  induction bs with
  | nil => decide
  | cons b bs ih =>
    have byte := b.isLt
    rw [fromLE, List.length_cons, Nat.pow_succ]
    omega

theorem le_lt (bs : List Byte) (o n : Nat) : le bs o n < 256 ^ n :=
  Nat.lt_of_lt_of_le (fromLE_lt _) (Nat.pow_le_pow_right (by decide) (List.length_take_le ..))

/-- The reset values of the format slots are words (R379). -/
theorem regReset_format_lt (part : Part) (d r : Nat) {j : Nat} (slot : j < 8) :
    regReset part ⟨d, .format, r⟩ (0x100 + 4 * j) < 2 ^ 64 := by
  have at_ : 0x100 ≤ 0x100 + 4 * j ∧ 0x100 + 4 * j < 0x120 := by omega
  simp only [regReset, if_pos at_, fmtSlotReset]
  split <;> decide

/-- Format slot `j` of a Reckoner. -/
def State.fmtSlot (s : State) (k j : Nat) : Nat := s.reg ⟨k / 5, .format, k % 5⟩ (0x100 + 4 * j)

/-- Word `j` of a table of formats put in its slot of a Reckoner, and every word (R375, R380). -/
def State.setFormat (k : Nat) (table : List Byte) (s : State) (j : Nat) : State :=
  s.setReg ⟨k / 5, .format, k % 5⟩ (0x100 + 4 * j) (le table (4 * j) 4)
def State.setFormats (s : State) (k : Nat) (table : List Byte) : State := (List.range 8).foldl (State.setFormat k table) s

theorem State.setFormats_within {s : State} {k : Nat} {table : List Byte} : Within 2 s (s.setFormats k table) :=
  Within.foldl_mem (fun _ j listed w =>
    (State.setReg_own (by omega) (by have := List.mem_range.mp listed; omega)).step (by decide) w) (Within.refl 2 s)

theorem State.fmtSlot_setFormat {s : State} {k j : Nat} (table : List Byte) (wf : FMap.wf s.regs = true) (slot : j < 8) :
    (s.setFormat k table j).fmtSlot k j = le table (4 * j) 4 :=
  State.reg_setReg_of_lt wf (Nat.lt_trans (le_lt table _ 4) (by decide)) (regReset_format_lt _ _ _ slot)

theorem State.fmtSlot_setFormats {s : State} {k j : Nat} (table : List Byte) (wf : FMap.wf s.regs = true) (slot : j < 8) :
    (s.setFormats k table).fmtSlot k j = le table (4 * j) 4 := by
  refine foldl_reaches (f := State.setFormat k table) (I := fun t => FMap.wf t.regs = true)
    (P := fun t => t.fmtSlot k j = le table (4 * j) 4) (List.mem_range.mpr slot)
    (fun t y h => State.setReg_wf _ _ _ h) (fun t h => t.fmtSlot_setFormat table h slot) (fun t y h set => ?_) wf
  by_cases same : y = j
  · rw [same]
    exact t.fmtSlot_setFormat table h slot
  · exact (State.reg_setReg_ne t _ _ _ _ _ h (by omega)).trans set

/-- A good table of formats is loaded into a Reckoner that runs nothing (R375, R380). -/
theorem State.formatTable_loads {s : State} {f inst k : Nat} {table : List Byte} (i : Word) (low : inst < 40)
    (held : s.namedReckoner f inst = some k) (idle : s.runAt (k / 5) (k % 5) = none) (whole : table.length = 32)
    (good : ∀ j < 8, slotValid (le table (4 * j) 4) = true) :
    s.formatTable f i inst table = (s.setFormats k table).adminEnd f i stSuccess := by
  have valid : ((List.range 8).all fun j => slotValid (le table (4 * j) 4)) = true :=
    List.all_eq_true.mpr fun j listed => good j (List.mem_range.mp listed)
  simp only [State.formatTable, State.tableTargets_one low held, whole, valid, idle, ne_eq, not_true_eq_false,
    Bool.not_true, Bool.false_eq_true, or_self, if_false, List.isEmpty_cons, List.any_cons, List.any_nil,
    Option.isSome_none, Bool.or_self, List.foldl_cons, List.foldl_nil, State.setFormats]
  rfl

/-- The entries of a table of sequences (R428, R429). -/
def sequencesOf (table : List Byte) : List Sequence :=
  (pieces 64 table).map fun e => if bits (le e 0 4) 1 0 = 0 then {} else seqOf e

/-- An entry of a table of sequences that is FREE, or keeps to R428 under a key that the function holds. -/
abbrev State.SequenceFits (s : State) (f d : Nat) (e : List Byte) : Prop :=
  bits (le e 0 4) 1 0 ≠ 0 → seqOk (s.endpoint d) e = true ∧ (le e 0x28 2 = 0 ∨ (s.keySlot f (le e 0x28 2)).isSome = true)

/-- A good table of sequences is loaded into a Reckoner that runs nothing (R429). -/
theorem State.sequenceTable_loads {s : State} {f inst k : Nat} {table : List Byte} (i : Word) (low : inst < 40)
    (held : s.namedReckoner f inst = some k) (idle : s.runAt (k / 5) (k % 5) = none) (whole : table.length = 1024)
    (good : ∀ e ∈ pieces 64 table, s.SequenceFits f (k / 5) e) : s.sequenceTable f i inst table =
      (s.onReck (k / 5) (k % 5) fun x => { x with seqs := sequencesOf table }).adminEnd f i stSuccess := by
  have fits : ∀ e ∈ (pieces 64 table).filter fun e => bits (le e 0 4) 1 0 != 0, seqOk (s.endpoint (k / 5)) e = true ∧
      (le e 0x28 2 = 0 ∨ (s.keySlot f (le e 0x28 2)).isSome = true) := fun e listed => by
    obtain ⟨entry, used⟩ := List.mem_filter.mp listed
    exact good e entry (bne_iff_ne.mp used)
  have formed : ((pieces 64 table).filter fun e => bits (le e 0 4) 1 0 != 0).all (seqOk (s.endpoint (k / 5))) = true :=
    List.all_eq_true.mpr fun e listed => (fits e listed).1
  have keyed : (((pieces 64 table).filter fun e => bits (le e 0 4) 1 0 != 0).any fun e =>
      le e 0x28 2 != 0 && (s.keySlot f (le e 0x28 2)).isNone) = false :=
    List.any_eq_false.mpr fun e listed => by
      rcases (fits e listed).2 with none | some
      · simp [none]
      · simp [Option.isNone_eq_false_iff.mpr some]
  have one : inst ≠ 0xFF := by omega
  simp only [State.sequenceTable, if_neg one, State.tableTargets_one low held, List.head?_cons, idle, whole, formed, keyed,
    Option.isSome_none, ne_eq, not_true_eq_false, Bool.not_true, Bool.false_eq_true, or_self, if_false, sequencesOf]

theorem exec_formatTable (s : State) (f : Nat) (table : List Byte) : exec (.formatTable f table) s =
    atFn s f (s.beginTable f 0x10 true table fun s i inst t => s.formatTable f i inst t) := by rfl

theorem exec_sequenceTable (s : State) (f : Nat) (table : List Byte) : exec (.sequenceTable f table) s =
    atFn s f (s.beginTable f 0x11 true table fun s i inst t => s.sequenceTable f i inst t) := by rfl

section ReckonerTable

variable {s : State} {f k : Nat} {x : Queue} {u : Slot} {table : List Byte} (c : s.canonical) (fn : f < s.fns.length)
  (begins : s.begins f 0 x u) (opcode : dOpcode u.bytes = 0x1A) (length : bits (arg1 u.bytes) 63 32 = table.length)
  (low : bits (arg1 u.bytes) 15 8 < 40) (held : s.namedReckoner f (bits (arg1 u.bytes) 15 8) = some k)
  (idle : s.runAt (k / 5) (k % 5) = none)

include c fn begins opcode length low held idle

theorem formatTable_loads (kind : bits (arg1 u.bytes) 7 0 = 0x10) (whole : table.length = 32)
    (good : ∀ j < 8, slotValid (le table (4 * j) 4) = true) : Completes (.formatTable f table) s fun t =>
      t.ended f 0 u.index stSuccess 0 0 ∧
        ∀ j < 8, t.reg ⟨k / 5, .format, k % 5⟩ (0x100 + 4 * j) = le table (4 * j) 4 := by
  have c' : (s.beginRead f x u table.length).canonical := State.beginRead_within.canonical c
  refine begins.completesTable fn (exec_formatTable s f table) opcode kind length (by omega) (.inr rfl)
    (State.formatTable_loads (s := s.beginRead f x u table.length) u.index low held idle whole good)
    (State.setFormats_within.areas .descriptors (by decide) c') fun v settles j slot => ?_
  rw [Area.same_reg (settles.areas .ownRegs (by decide) (State.setFormats_within.canonical c')) settles.part _ (by omega)
    (by omega)]
  exact State.fmtSlot_setFormats table c'.2.1 slot

theorem sequenceTable_loads (kind : bits (arg1 u.bytes) 7 0 = 0x11) (whole : table.length = 1024)
    (die : k / 5 < s.dies.length) (unit : k % 5 < (s.die (k / 5)).recks.length)
    (good : ∀ e ∈ pieces 64 table, s.SequenceFits f (k / 5) e) : Completes (.sequenceTable f table) s fun t =>
      t.ended f 0 u.index stSuccess 0 0 ∧ (t.reck (k / 5) (k % 5)).seqs = sequencesOf table := by
  have c' : (s.beginRead f x u table.length).canonical := State.beginRead_within.canonical c
  have good' : ∀ e ∈ pieces 64 table, (s.beginRead f x u table.length).SequenceFits f (k / 5) e := fun e entry used =>
    State.endpoint_beginSlot c f 0 x u (k / 5) ▸ good e entry used
  refine begins.completesTable fn (exec_sequenceTable s f table) opcode kind length (by omega) (.inr rfl)
    (State.sequenceTable_loads (s := s.beginRead f x u table.length) u.index low held idle whole good') rfl
    fun v settles => ?_
  rw [settles.reck (State.onReck_within.canonical c'), State.reck_onReck (s := s.beginRead f x u table.length) _ die unit]

end ReckonerTable

/-! ### LOAD_TABLE of COLLATION_TABLE (R519) -/

/-- A table of collation keeps to R519 by the endpoint of its die alone. -/
theorem State.collationOk_congr {s t : State} {d : Nat} (has : t.hasEndpoint d = s.hasEndpoint d)
    (endpoint : t.endpoint d = s.endpoint d) (table : List Byte) : t.collationOk d table = s.collationOk d table := by
  simp only [State.collationOk, has, endpoint]

/-- A good table that names ranges is put in its entry (R519). -/
theorem State.collationTable_loads {s : State} {f inst : Nat} {table : List Byte} (i : Word) (die : inst / 32 < s.dies.length)
    (good : s.collationOk (inst / 32) table = true) (ranges : (collationOf table).ranges ≠ []) :
    s.collationTable f i inst table = (s.onInteg (inst / 32) fun x =>
      { x with collations := FMap.set x.collations (inst % 32) (collationOf table) }).adminEnd f i stSuccess := by
  simp [State.collationTable, Nat.not_le.mpr die, good, ranges]

theorem exec_collationTable (s : State) (f : Nat) (table : List Byte) : exec (.collationTable f table) s =
    atFn s f (s.beginTable f 0x20 false table fun s i inst t => s.collationTable f i inst t) := by rfl

theorem State.integ_onInteg {s : State} {d : Nat} (f : Integrity → Integrity) (die : d < s.dies.length) :
    ((s.onInteg d f).die d).integ = f (s.die d).integ := by
  rw [State.onInteg, State.die_onDie _ _ _ _ die, if_pos rfl]

theorem collationTable_loads {s : State} {x : Queue} {u : Slot} {table : List Byte} (c : s.canonical)
    (fn : 0 < s.fns.length) (begins : s.begins 0 0 x u) (opcode : dOpcode u.bytes = 0x1A)
    (length : bits (arg1 u.bytes) 63 32 = table.length) (kind : bits (arg1 u.bytes) 7 0 = 0x20)
    (short : table.length ≤ 1048576) (die : bits (arg1 u.bytes) 15 8 / 32 < s.dies.length)
    (good : s.collationOk (bits (arg1 u.bytes) 15 8 / 32) table = true) (ranges : (collationOf table).ranges ≠ []) :
    Completes (.collationTable 0 table) s fun t => t.ended 0 0 u.index stSuccess 0 0 ∧
      FMap.get? (t.die (bits (arg1 u.bytes) 15 8 / 32)).integ.collations (bits (arg1 u.bytes) 15 8 % 32) =
        some (collationOf table) := by
  have c' : (s.beginRead 0 x u table.length).canonical := State.beginRead_within.canonical c
  have good' := (State.collationOk_congr (t := s.beginRead 0 x u table.length) (State.hasEndpoint_beginSlot c 0 0 x u _)
    (State.endpoint_beginSlot c 0 0 x u _) table).trans good
  refine begins.completesTable fn (exec_collationTable s 0 table) opcode kind length short (.inl rfl)
    (State.collationTable_loads (s := s.beginRead 0 x u table.length) u.index die good' ranges) rfl fun v settles => ?_
  have integ := State.die_congr (settles.areas .integrity (by decide) (State.onInteg_within.canonical c'))
    (bits (arg1 u.bytes) 15 8 / 32)
  rw [integ, State.integ_onInteg (s := s.beginRead 0 x u table.length) _ die]
  exact FMap.get?_set_self ..

end Sys2Proof.Machine

namespace Sys2Proof

open Machine

/-- Settles O16: each command does what its lemma above says, on the state that its beginning and its read of host memory
leave. -/
theorem recipesAndTablesAreLoaded : Obligations.RecipesAndTablesAreLoaded := by
  refine fun s f x u c fn begins => ⟨?load, ?unload, ?reckoner, ?collation⟩
  case load =>
    rintro _ h bundle opcode rfl short whole good lowest room
    exact loadRecipe_holds c fn begins opcode whole short good lowest room
  case unload =>
    rintro _ opcode rfl held idle free wf
    exact unloadRecipe_frees c fn begins opcode held idle free wf
  case reckoner =>
    rintro table _ k opcode length rfl low held idle die unit
    refine ⟨fun kind whole good => ?_, fun kind whole recks good => ?_⟩
    · exact formatTable_loads c fn begins opcode length low held idle kind whole good
    · exact sequenceTable_loads c fn begins opcode length low held idle kind whole die (by rwa [recks]) good
  case collation =>
    rintro table _ opcode kind length short rfl rfl die good ranges
    exact collationTable_loads c fn begins opcode length kind short die good ranges

end Sys2Proof
end

section
/-!
RUN_RECIPE (R422, R423, R434, R493).
-/

namespace Sys2Proof.Machine

/-! ### Counters of different numbers (R56) -/

/-- Counters of different numbers lie apart, whatever their pages. -/
theorem Page.ctr_ne_of_number (p q : Page) {j k : Nat} (other : j % 128 ≠ k % 128) : p.ctr j ≠ q.ctr k := by
  have := p.addr_mod
  have := q.addr_mod
  simp only [Page.ctr]
  omega

namespace State.KeepsCtr

variable {p : Page} {k : Nat} {s t : State} (h : State.KeepsCtr p k s t)

include h

/-- A count of another number. -/
theorem count_number (q : Page) {j : Nat} (other : k % 128 ≠ j % 128) (n : Nat) :
    State.KeepsCtr p k s (t.count q j n) := by
  obtain ⟨ctr, total⟩ := State.ctr_count_ne t q p j k n h.canonical (p.ctr_ne_of_number q other)
  exact ⟨State.count_within.canonical h.canonical, ctr.trans h.ctr, total.trans h.total⟩

/-- A descriptor that begins counts as DESCRIPTORS_EXECUTED alone. -/
theorem beginSlot (other : k % 128 ≠ Ctr.queuePageDescriptorsExecuted) (f q : Nat) (x : Queue) (u : Slot) :
    State.KeepsCtr p k s (t.beginSlot f q x u) :=
  (h.congr (u := { t.setQueue f q (x.begun u) with
    execs := t.execs ++ [{ fn := f, q := q, index := u.index, desc := u.bytes }] }) rfl rfl rfl).count_number _ other 1

/-- A queue that stops counts as QUEUE_STOPS alone. -/
theorem stopQueue (other : k % 128 ≠ Ctr.queuePageQueueStops) (f q cause detail : Nat) (i : Word) :
    State.KeepsCtr p k s (t.stopQueue f q cause detail i) := by
  unfold State.stopQueue
  split
  · exact h
  · extract_lets stopped page counted pushed
    have counts : State.KeepsCtr p k s counted := (h.congr (u := stopped) rfl rfl rfl).count_number _ other 1
    have pushes : State.KeepsCtr p k s pushed := by
      simp only [pushed, State.pushStop]
      split <;> exact counts.congr rfl rfl rfl
    split <;> exact pushes.congr rfl rfl rfl

theorem settle (other : k % 128 ≠ Ctr.queuePageQueueStops) (f q : Nat) : State.KeepsCtr p k s (t.settle f q) := by
  rcases t.settle_cases f q with same | ⟨o, i, stops⟩
  · rwa [same]
  · rw [stops]
    exact h.stopQueue other ..

/-- What leaves a counter leaves what it has counted. -/
theorem counted_before {n : Nat} {u : State} (before : Counted p k n u s) : Counted p k n u t :=
  ⟨h.ctr.trans before.1, h.total.trans before.2⟩

/-- What is counted after an operation that leaves the counter. -/
theorem counted_after {n : Nat} {u : State} (after : Counted p k n t u) : Counted p k n s u :=
  ⟨h.ctr ▸ after.1, h.total ▸ after.2⟩

theorem trans {u : State} (after : State.KeepsCtr p k t u) : State.KeepsCtr p k s u :=
  ⟨after.canonical, after.ctr.trans h.ctr, after.total.trans h.total⟩

end State.KeepsCtr

/-! ### Reckoners that have a run -/

@[simp] theorem State.reck_count (s : State) (p : Page) (j n e k : Nat) : (s.count p j n).reck e k = s.reck e k := rfl

/-- A Reckoner that has a run is one of the part's. -/
theorem State.exists_of_runAt {s : State} {d r : Nat} {x : Run} (run : s.runAt d r = some x) :
    d < s.dies.length ∧ r < (s.die d).recks.length := by
  have listed : r < (s.die d).recks.length := by
    refine Nat.lt_of_not_le fun beyond => ?_
    rw [State.runAt, State.reck, List.getElem?_eq_none beyond] at run
    cases run
  refine ⟨Nat.lt_of_not_le fun beyond => ?_, listed⟩
  have reset : s.die d = Die.reset := by rw [State.die, List.getElem?_eq_none beyond, Option.getD_none]
  rw [reset] at listed
  have idle : ∀ j < 5, ((Die.reset.recks[j]?).getD {}).run = none := by decide
  rw [State.runAt, State.reck, reset, idle r listed] at run
  cases run

theorem State.reck_onReck_ne {s : State} {d r e k : Nat} (f : Reckoner → Reckoner) (other : (e, k) ≠ (d, r)) :
    (s.onReck d r f).reck e k = s.reck e k := by
  simp only [State.reck, State.die, State.onReck, State.onDie, getElem?_modifyAt]
  split
  next die =>
    have unit : k ≠ r := fun same => other (by rw [die, same])
    cases s.dies[e]? with
    | none => rfl
    | some x => simp only [Option.map_some, Option.getD_some, getElem?_modifyAt, if_neg unit]
  · rfl

/-- The end of a run's stages changes its own Reckoner alone. -/
theorem State.reck_tryFinish_ne {s : State} {d r e k : Nat} (other : (e, k) ≠ (d, r)) :
    (s.tryFinish d r).reck e k = s.reck e k := by
  unfold State.tryFinish
  split
  · rfl
  · split
    · rfl
    · split
      · obtain ⟨_, reck⟩ := s.clearRun_keeps d r
        rw [State.reck_endRecipe, reck, State.reck_onReck_ne _ other]
      · exact State.reck_onReck_ne _ other

/-! ### What the start of a recipe keeps of a Reckoner -/

section Keeps

variable {β : Type} {g : Reckoner → β} (keeps : ∀ (x : Reckoner) y c, g { x with run := y, cls := c } = g x)

include keeps

theorem State.onRun_keeps (s : State) (d r : Nat) (f : Run → Run) (e k : Nat) :
    g ((s.onRun d r f).reck e k) = g (s.reck e k) :=
  State.onReck_congr (f := fun x => { x with run := x.run.map f }) (fun x => keeps x _ x.cls) s d r e k

theorem State.clearRun_congr (s : State) (d r e k : Nat) : g ((s.clearRun d r).reck e k) = g (s.reck e k) := by
  obtain ⟨_, reck⟩ := s.clearRun_keeps d r
  rw [reck]
  exact State.onReck_congr (fun x => keeps x none 0) s d r e k

theorem State.tryFinish_congr (s : State) (d r e k : Nat) : g ((s.tryFinish d r).reck e k) = g (s.reck e k) := by
  unfold State.tryFinish
  split
  · rfl
  · split
    · rfl
    · split
      · rw [State.reck_endRecipe]
        exact State.clearRun_congr keeps ..
      · exact State.onRun_keeps keeps ..

end Keeps

/-! ### A run that starts (R408, R493) -/

/-- A Reckoner whose run starts with its argument block: EPOCH of the handle advances. -/
def Reckoner.starts (y : Reckoner) (x : Run) (b : List Byte) (args : List Word64) : Reckoner :=
  { y with
    run := some ({ x with args := some args, paused := none }.next b y.seqs)
    epochs := FMap.set y.epochs x.handle ((y.epoch x.handle + 1) % 2 ^ 32) }

theorem Reckoner.epoch_starts (y : Reckoner) (x : Run) (b : List Byte) (args : List Word64) :
    (y.starts x b args).epoch x.handle = (y.epoch x.handle + 1) % 2 ^ 32 := by
  simp only [Reckoner.epoch, Reckoner.starts, FMap.get?_set_self, Option.getD_some]

theorem State.startRun_eq {s : State} {d r : Nat} {x : Run} {p : Recipe} (args : List Word64) (run : s.runAt d r = some x)
    (recipe : FMap.get? s.recipes x.handle = some p) : s.startRun d r args =
      ((s.onReck d r fun y => y.starts x p.bundle args).count (recipePage d r) Ctr.recipeCtlRecipesRun).tryFinish d r := by
  simp only [State.startRun, run, recipe, Reckoner.starts]

/-- The start of a run, or none where there is no recipe to run. -/
theorem State.startRun_cases (s : State) (d r : Nat) (args : List Word64) : s.startRun d r args = s ∨ ∃ x b,
    s.startRun d r args =
      ((s.onReck d r fun y => y.starts x b args).count (recipePage d r) Ctr.recipeCtlRecipesRun).tryFinish d r := by
  unfold State.startRun
  split
  · exact .inl rfl
  next x _ =>
    split
    · exact .inl rfl
    next p _ => exact .inr ⟨x, p.bundle, rfl⟩

theorem State.reck_startRun_ne {s : State} {d r e k : Nat} (args : List Word64) (other : (e, k) ≠ (d, r)) :
    (s.startRun d r args).reck e k = s.reck e k := by
  rcases s.startRun_cases d r args with same | ⟨x, b, starts⟩
  · rw [same]
  · rw [starts, State.reck_tryFinish_ne other, State.reck_count, State.reck_onReck_ne _ other]

theorem State.epoch_startRun {s : State} {d r : Nat} {x : Run} {p : Recipe} (args : List Word64) (run : s.runAt d r = some x)
    (recipe : FMap.get? s.recipes x.handle = some p) :
    ((s.startRun d r args).reck d r).epoch x.handle = ((s.reck d r).epoch x.handle + 1) % 2 ^ 32 := by
  obtain ⟨die, unit⟩ := State.exists_of_runAt run
  rw [State.startRun_eq args run recipe, State.tryFinish_congr (g := (·.epoch x.handle)) (fun _ _ _ => rfl),
    State.reck_count, State.reck_onReck _ die unit, Reckoner.epoch_starts]

/-- The page of recipe control of a Reckoner lies apart from those of the other Reckoners and of the integrity units. -/
theorem recipePage_apart {r : Nat} (d : Nat) (unit : r < 5) : (∀ e, (recipePage d r).addr ≠ (integrityPage e).addr) ∧
    ∀ e k, k < 5 → (d, r) ≠ (e, k) → (recipePage d r).addr ≠ (recipePage e k).addr := by
  simp only [Page.addr, Page.off, PageKind.place, ne_eq, Prod.mk.injEq]
  refine ⟨fun e => ?_, fun e k low => ?_⟩ <;> omega

theorem State.KeepsCtr.tryFinish {p : Page} {k : Nat} {s t : State} (h : State.KeepsCtr p k s t)
    (integrity : ∀ e, p.addr ≠ (integrityPage e).addr) (d r : Nat) : State.KeepsCtr p k s (t.tryFinish d r) := by
  unfold State.tryFinish
  split
  · exact h
  · split
    · exact h
    · split
      · exact (h.clearRun integrity d r).within State.endRecipe_within
      · exact h.within State.onRun_within

section Start

variable {s : State} {d r : Nat} (args : List Word64) (c : s.canonical) (unit : r < 5)

include c unit

/-- A run that starts counts in RECIPES_RUN of its own Reckoner alone. -/
theorem State.keepsCtr_startRun_ne {e j : Nat} (low : j < 5) (other : (d, r) ≠ (e, j)) (k : Nat) :
    State.KeepsCtr (recipePage d r) k s (s.startRun e j args) := by
  obtain ⟨integrity, recipe⟩ := recipePage_apart d unit
  have kept := State.KeepsCtr.refl (p := recipePage d r) (k := k) c
  rcases s.startRun_cases e j args with same | ⟨x, b, starts⟩
  · rwa [same]
  · rw [starts]
    exact ((kept.within State.onReck_within).count (recipe e j low other) _ _).tryFinish integrity e j

/-- A run that starts is counted. -/
theorem State.counted_startRun {x : Run} {p : Recipe} (run : s.runAt d r = some x)
    (recipe : FMap.get? s.recipes x.handle = some p) :
    Counted (recipePage d r) Ctr.recipeCtlRecipesRun 1 s (s.startRun d r args) := by
  obtain ⟨integrity, _⟩ := recipePage_apart d unit
  have placed : State.KeepsCtr (recipePage d r) Ctr.recipeCtlRecipesRun s (s.onReck d r fun y => y.starts x p.bundle args) :=
    (State.KeepsCtr.refl c).within State.onReck_within
  rw [State.startRun_eq args run recipe]
  exact placed.counted ((State.KeepsCtr.refl (State.count_within.canonical placed.canonical)).tryFinish integrity d r)

end Start

/-! ### The start of every run of a descriptor -/

/-- Reckoners as die and number. -/
theorem reckoner_ne {j k : Nat} (other : k ≠ j) : (j / 5, j % 5) ≠ (k / 5, k % 5) := by
  simp only [ne_eq, Prod.mk.injEq]
  omega

/-- The runs of distinct Reckoners start. -/
def State.startRuns (s : State) (l : List Nat) : State := l.foldl (fun s k => s.startRun (k / 5) (k % 5) []) s

/-- Each run that starts is counted with the next EPOCH of its handle (R434, R493). -/
theorem State.startRuns_at {s : State} {j : Nat} {l : List Nat} {x : Run} {p : Recipe} (c : s.canonical) (member : j ∈ l)
    (nodup : l.Nodup) (run : s.runAt (j / 5) (j % 5) = some x) (recipe : FMap.get? s.recipes x.handle = some p) :
    Counted (recipePage (j / 5) (j % 5)) Ctr.recipeCtlRecipesRun 1 s (s.startRuns l) ∧
      ((s.startRuns l).reck (j / 5) (j % 5)).epoch x.handle = ((s.reck (j / 5) (j % 5)).epoch x.handle + 1) % 2 ^ 32 := by
  have unit : j % 5 < 5 := Nat.mod_lt j (by decide)
  refine And.right (foldl_once (f := fun s k => State.startRun s (k / 5) (k % 5) [])
    (A := fun t => State.KeepsCtr (recipePage (j / 5) (j % 5)) Ctr.recipeCtlRecipesRun s t ∧ t.recipes = s.recipes ∧
      t.reck (j / 5) (j % 5) = s.reck (j / 5) (j % 5))
    (B := fun t => t.canonical ∧ Counted (recipePage (j / 5) (j % 5)) Ctr.recipeCtlRecipesRun 1 s t ∧
      (t.reck (j / 5) (j % 5)).epoch x.handle = ((s.reck (j / 5) (j % 5)).epoch x.handle + 1) % 2 ^ 32)
    member nodup ?before ?turn ?after ⟨.refl c, rfl, rfl⟩)
  case before =>
    rintro t k _ other ⟨kept, recipes, same⟩
    have step := State.keepsCtr_startRun_ne [] kept.canonical unit (Nat.mod_lt k (by decide)) (reckoner_ne other)
      Ctr.recipeCtlRecipesRun
    refine ⟨kept.trans step, ?_, ?_⟩
    · exact (State.startRun_within.areas .recipes (by decide) kept.canonical).trans recipes
    · exact (State.reck_startRun_ne [] (reckoner_ne other)).trans same
  case turn =>
    rintro t ⟨kept, recipes, same⟩
    have run' : t.runAt (j / 5) (j % 5) = some x := by rw [State.runAt, same, ← State.runAt, run]
    have recipe' : FMap.get? t.recipes x.handle = some p := by rw [recipes, recipe]
    exact ⟨State.startRun_within.canonical kept.canonical,
      kept.counted_after (State.counted_startRun [] kept.canonical unit run' recipe'),
      by rw [State.epoch_startRun [] run' recipe', same]⟩
  case after =>
    rintro t k _ other ⟨canonical, counted, epoch⟩
    have step := State.keepsCtr_startRun_ne [] canonical unit (Nat.mod_lt k (by decide)) (reckoner_ne other)
      Ctr.recipeCtlRecipesRun
    exact ⟨step.canonical, step.counted_before counted, by rw [State.reck_startRun_ne [] (reckoner_ne other), epoch]⟩

/-! ### The argument block (R422) -/

/-- HANDLE and EARLY of a Reckoner as RECIPE_STAT shows them (R434). -/
def Reckoner.shown (x : Reckoner) : Nat × Bool := (x.handle, x.early)

/-- Every Reckoner shows the same HANDLE and EARLY. -/
def State.SameShown (s t : State) : Prop := ∀ e k, (t.reck e k).shown = (s.reck e k).shown

namespace State.SameShown

variable {s t : State} (h : State.SameShown s t)

theorem refl (s : State) : State.SameShown s s := fun _ _ => rfl

include h

theorem onRun (d r : Nat) (f : Run → Run) : State.SameShown s (t.onRun d r f) := fun e k =>
  (State.onRun_keeps (g := Reckoner.shown) (fun _ _ _ => rfl) t d r f e k).trans (h e k)

theorem clearRun (d r : Nat) : State.SameShown s (t.clearRun d r) := fun e k =>
  (State.clearRun_congr (g := Reckoner.shown) (fun _ _ _ => rfl) t d r e k).trans (h e k)

theorem startRun (d r : Nat) (args : List Word64) : State.SameShown s (t.startRun d r args) := fun e k => by
  rcases t.startRun_cases d r args with same | ⟨x, b, starts⟩
  · rw [same, h e k]
  · rw [starts, State.tryFinish_congr (g := Reckoner.shown) (fun _ _ _ => rfl), State.reck_count,
      State.onReck_congr (g := Reckoner.shown) (f := fun y => y.starts x b args) (fun _ => rfl), h e k]

omit h in
theorem foldl {α : Type} {f : State → α → State} (l : List α) (init : State.SameShown s t)
    (step : ∀ u x, State.SameShown s u → State.SameShown s (f u x)) : State.SameShown s (l.foldl f t) :=
  List.foldlRecOn l f init fun u hu x _ => step u x hu

end State.SameShown

/-- An access of global memory that a stage or a descriptor makes changes no Reckoner. -/
theorem rmAccess_sameShown {s t : State} {d e f off n : Nat} {r : Except Halt (List Byte)} (c : s.canonical)
    (read : rmAccess d e f false (fun s => s.read d e f off n) s = (r, t)) : State.SameShown s t := fun j k => by
  have access : MWithin 8858383375 (rmAccess d e f false fun s => s.read d e f off n) :=
    rmAccess_step (by decide) fun _ => State.read_within.mono (by decide)
  have reached : Within 8858383375 s t := Within.runPair read access (by decide) (Within.refl _ s)
  rw [reached.reck c]

/-- The read of the argument block leaves what every Reckoner shows, whatever comes of it. -/
theorem State.fetchArgs_sameShown {s : State} (c : s.canonical) (f q : Nat) (i : Word) :
    State.SameShown s (s.fetchArgs f q i) := by
  have given (t : State) (h : State.SameShown s t) (args : List Word64) :
      State.SameShown s ((s.runsOf f q i).foldl (fun t k => t.startRun (k / 5) (k % 5) args) t) :=
    h.foldl _ fun _ _ hu => hu.startRun _ _ _
  have failed (t : State) (h : State.SameShown s t) (st dt : Nat) : State.SameShown s
      (((s.runsOf f q i).foldl (fun t k => t.clearRun (k / 5) (k % 5)) t).finish f q i st dt 0 0) :=
    h.foldl _ fun _ _ hu => hu.clearRun _ _
  unfold State.fetchArgs
  dsimp only
  split
  · split
    · exact .refl s
    · split
      · exact given s (.refl s) _
      · split
        · exact failed s (.refl s) _ _
        · split
          next read => exact given _ (rmAccess_sameShown c read) _
          next read => exact (rmAccess_sameShown c read).foldl _ fun _ _ hu => hu.onRun _ _ _
          next read => exact failed _ (rmAccess_sameShown c read) _ _
          next read => exact rmAccess_sameShown c read
  · exact .refl s

/-- The Reckoners that run a descriptor's recipe. -/
theorem State.mem_runsOf {s : State} {f q j : Nat} {i : Word} : j ∈ s.runsOf f q i ↔
    j < s.dies.length * 5 ∧ ∃ y, s.runAt (j / 5) (j % 5) = some y ∧ y.fn = f ∧ y.q = q ∧ y.index = i := by
  rw [State.runsOf, List.mem_filter, State.reckList, List.mem_range]
  cases s.runAt (j / 5) (j % 5) <;> simp [and_assoc]

/-- Without an argument block every run of the descriptor starts at once (R422). -/
theorem State.fetchArgs_plain {s : State} {f q h : Nat} {i : Word} {e : Exec} {p : Recipe}
    (found : s.exec? f q i = some e)
    (named : ∀ j ∈ s.runsOf f q i, (s.runAt (j / 5) (j % 5)).map Run.handle = some h)
    (recipe : FMap.get? s.recipes h = some p) (plain : bArgs p.bundle = 0) :
    s.fetchArgs f q i = s.startRuns (s.runsOf f q i) := by
  unfold State.fetchArgs State.startRuns
  cases runs : s.runsOf f q i with
  | nil => simp [found]
  | cons k l =>
    obtain ⟨x, run, same⟩ := Option.map_eq_some_iff.mp (named k (runs ▸ List.mem_cons_self))
    simp only [found, List.head?_cons, Option.bind_some, run, same, recipe, plain, if_true]
    rfl

/-! ### RUN_RECIPE takes its Reckoners (R422, R423) -/

/-- Whether a RUN_RECIPE releases early (R434). -/
def releasesEarly (p : Recipe) (d : List Byte) : Bool := bRelease p.bundle == 2 || (bRelease p.bundle == 0 && dEarly d)

/-- The run that a RUN_RECIPE gives to a Reckoner, by the Reckoner's bit, its number and its rank. -/
def State.newRun (s : State) (f q : Nat) (i : Word) (d : List Byte) (p : Recipe) (k : (Nat × Nat) × Nat) (x : Reckoner) :
    Run where
  fn := f
  q := q
  index := i
  handle := dTarget d % 128
  rank := k.2
  slot := k.1.1
  early := releasesEarly p d
  limit := le d 0x38 4
  formats := s.snapshot p.bundle k.1.2
  active := if bSequences p.bundle then (List.range 16).filter fun e => (x.seqs[e]?.map Sequence.state) == some 1 else []

/-- A Reckoner taken by a RUN_RECIPE, and all that it names. -/
def Reckoner.take (x : Reckoner) (s : State) (f q : Nat) (i : Word) (d : List Byte) (p : Recipe) (k : (Nat × Nat) × Nat) :
    Reckoner :=
  { x with handle := dTarget d % 128, early := releasesEarly p d, run := some (s.newRun f q i d p k x) }
def State.takeReck (f q : Nat) (i : Word) (d : List Byte) (p : Recipe) (s : State) (k : (Nat × Nat) × Nat) : State :=
  s.onReck (k.1.2 / 5) (k.1.2 % 5) (·.take s f q i d p k)
def State.takeRecks (s : State) (f q : Nat) (i : Word) (d : List Byte) (p : Recipe) : State :=
  (s.named f d).zipIdx.foldl (State.takeReck f q i d p) s

/-- A Reckoner that a RUN_RECIPE has taken. -/
structure State.Taken (s : State) (f q : Nat) (i : Word) (d : List Byte) (p : Recipe) (j : Nat) : Prop where
  shown : (s.reck (j / 5) (j % 5)).shown = (dTarget d % 128, releasesEarly p d)
  run : ∃ y, s.runAt (j / 5) (j % 5) = some y ∧ y.fn = f ∧ y.q = q ∧ y.index = i
  handle : (s.runAt (j / 5) (j % 5)).map Run.handle = some (dTarget d % 128)

section Takes

variable {s : State} {f q : Nat} {i : Word} {d : List Byte} {p : Recipe}

theorem State.runRecipe_takes (admitted : s.runRefusal f d = none) (recipe : FMap.get? s.recipes (dTarget d % 128) = some p)
    (formats : ∀ k ∈ s.named f d, formatsOk p.bundle (s.snapshot p.bundle k.2) = true) :
    s.runRecipe f q i d = (s.takeRecks f q i d p).fetchArgs f q i := by
  have good : ((s.named f d).any fun k => !formatsOk p.bundle (s.snapshot p.bundle k.2)) = false :=
    List.any_eq_false.mpr fun k listed => by simp [formats k listed]
  simp only [State.runRecipe, admitted, recipe, good, Bool.false_eq_true, if_false]
  rfl

theorem State.takeRecks_within : Within 34359738368 s (s.takeRecks f q i d p) :=
  Within.foldl (fun _ _ w => State.onReck_within.step (by decide) w) (Within.refl _ s)

/-- Each Reckoner that a RUN_RECIPE takes leaves every Reckoner as it is, or taken. -/
theorem State.reck_takeReck_or (k : (Nat × Nat) × Nat) (e j : Nat) :
    (State.takeReck f q i d p s k).reck e j = s.reck e j ∨
      (State.takeReck f q i d p s k).reck e j = (s.reck e j).take s f q i d p k :=
  s.reck_onReck_or _ _ _ e j

/-- EPOCH stays until the run starts. -/
theorem State.epochs_takeRecks (e j : Nat) : ((s.takeRecks f q i d p).reck e j).epochs = (s.reck e j).epochs := by
  refine List.foldlRecOn (motive := fun t : State => (t.reck e j).epochs = (s.reck e j).epochs) _ _ rfl
    fun t before k _ => ?_
  rcases State.reck_takeReck_or (s := t) k e j with reck | reck <;> rw [reck]
  · exact before
  · exact before

/-- A Reckoner keeps its run or is given one of the recipe. -/
theorem State.runAt_takeRecks (e j : Nat) : (s.takeRecks f q i d p).runAt e j = s.runAt e j ∨
    ((s.takeRecks f q i d p).runAt e j).map Run.handle = some (dTarget d % 128) := by
  refine List.foldlRecOn (motive := fun t : State => t.runAt e j = s.runAt e j ∨
    (t.runAt e j).map Run.handle = some (dTarget d % 128)) _ _ (.inl rfl) fun t before k _ => ?_
  rw [State.runAt]
  rcases State.reck_takeReck_or (s := t) k e j with reck | reck <;> rw [reck]
  · exact before
  · exact .inr rfl

theorem State.length_recks_takeReck (k : (Nat × Nat) × Nat) (e : Nat) :
    ((State.takeReck f q i d p s k).die e).recks.length = (s.die e).recks.length :=
  State.die_congr (g := fun x => x.recks.length)
    (map_modifyAt _ _ _ (fun x : Die => x.recks.length) fun _ => length_modifyAt ..) e

theorem State.taken_of_reck {t u : State} {j : Nat} {k : (Nat × Nat) × Nat} {x : Reckoner}
    (reck : t.reck (j / 5) (j % 5) = x.take u f q i d p k) : t.Taken f q i d p j where
  shown := congrArg Reckoner.shown reck
  run := ⟨_, congrArg Reckoner.run reck, rfl, rfl, rfl⟩
  handle := congrArg (fun x => x.run.map Run.handle) reck

/-- Every Reckoner that is named is taken. -/
theorem State.taken_takeRecks {k : Nat × Nat} (named : k ∈ s.named f d) (die : k.2 / 5 < s.dies.length)
    (unit : k.2 % 5 < (s.die (k.2 / 5)).recks.length) : (s.takeRecks f q i d p).Taken f q i d p k.2 := by
  obtain ⟨n, at_⟩ := List.getElem?_of_mem named
  refine foldl_reaches (f := State.takeReck f q i d p) (x := (k, n))
    (I := fun t => k.2 / 5 < t.dies.length ∧ k.2 % 5 < (t.die (k.2 / 5)).recks.length)
    (P := fun t => t.Taken f q i d p k.2) (List.mem_zipIdx_iff_getElem?.mpr at_) ?inv ?make ?keep ⟨die, unit⟩
  case inv =>
    rintro t j ⟨die, unit⟩
    exact ⟨by rwa [State.takeReck, State.onReck, State.onDie_length], by rwa [State.length_recks_takeReck]⟩
  case make =>
    rintro t ⟨die, unit⟩
    exact State.taken_of_reck (State.reck_onReck _ die unit)
  case keep =>
    rintro t j _ ⟨shown, run, handle⟩
    rcases State.reck_takeReck_or (s := t) j (k.2 / 5) (k.2 % 5) with same | taken
    · exact ⟨by rwa [same], by rwa [State.runAt, same], by rwa [State.runAt, same]⟩
    · exact State.taken_of_reck taken

end Takes

/-! ### The row of RUN_RECIPE -/

theorem exec_runRecipe (s : State) (f q : Nat) : exec (.runRecipe f q) s =
    atFn s f (s.beginAs f q (fun d => q != 0 && dOpcode d == 0x20) (fun _ d => !s.runWaits f d)
      fun s _ i d => s.runRecipe f q i d) := by rfl

/-- The formats of a Reckoner are the same once the descriptor has begun. -/
theorem State.snapshot_beginSlot {s : State} (c : s.canonical) (f q : Nat) (x : Queue) (u : Slot) (b : List Byte) (k : Nat) :
    (s.beginSlot f q x u).snapshot b k = s.snapshot b k := by
  refine List.map_congr_left fun j listed => ?_
  have low : j < 8 := List.mem_range.mp (List.mem_filter.mp listed).1
  rw [Area.same_reg (State.beginSlot_within.areas .ownRegs (by decide) c) rfl _ (by omega) (by omega)]

section RunRecipe

variable {s : State} {f q : Nat} {x : Queue} {u : Slot} {p : Recipe} (c : s.canonical) (fn : f < s.fns.length) (pos : q ≠ 0)
  (begins : s.begins f q x u) (opcode : dOpcode u.bytes = 0x20) (admitted : s.runRefusal f u.bytes = none)
  (free : s.runWaits f u.bytes = false) (recipe : FMap.get? s.recipes (dTarget u.bytes % 128) = some p)
  (formats : ∀ k ∈ s.named f u.bytes, formatsOk p.bundle (s.snapshot p.bundle k.2) = true)

/-- A RUN_RECIPE that has begun and has taken its Reckoners. -/
def State.beginTake (s : State) (f q : Nat) (x : Queue) (u : Slot) (p : Recipe) : State :=
  (s.beginSlot f q x u).takeRecks f q u.index u.bytes p

theorem State.beginTake_within : Within 34359739016 s (s.beginTake f q x u p) :=
  State.takeRecks_within.step (by decide) (State.beginSlot_within.mono (by decide))

include c fn pos begins opcode admitted free recipe formats in
theorem exec_runRecipe_takes : exec (.runRecipe f q) s =
    .next (((s.beginTake f q x u p).fetchArgs f q u.index).settle f q) := by
  have formats' : ∀ k ∈ (s.beginSlot f q x u).named f u.bytes,
      formatsOk p.bundle ((s.beginSlot f q x u).snapshot p.bundle k.2) = true := fun k listed => by
    rw [State.snapshot_beginSlot c]
    exact formats k listed
  have runs := begins.runs fn (exec_runRecipe s f q) pos opcode (by rw [free]; rfl)
  rwa [State.runRecipe_takes (s := s.beginSlot f q x u) admitted recipe formats'] at runs

include c in
/-- A Reckoner that is taken shows the recipe's handle and its release mode to the end of the command. -/
theorem State.shown_beginTake {k : Nat × Nat} (named : k ∈ s.named f u.bytes) (die : k.2 / 5 < s.dies.length)
    (unit : k.2 % 5 < (s.die (k.2 / 5)).recks.length) :
    ((((s.beginTake f q x u p).fetchArgs f q u.index).settle f q).reck (k.2 / 5) (k.2 % 5)).shown =
      (dTarget u.bytes % 128, releasesEarly p u.bytes) := by
  have c' : (s.beginTake f q x u p).canonical := State.beginTake_within.canonical c
  have taken : (s.beginTake f q x u p).Taken f q u.index u.bytes p k.2 :=
    State.taken_takeRecks (s := s.beginSlot f q x u) named die unit
  rw [State.settle_within.reck (State.fetchArgs_within.canonical c'), State.fetchArgs_sameShown c' f q u.index, taken.shown]

include c begins in
/-- The descriptor is in execution while its Reckoners are taken. -/
theorem State.exec?_beginTake : (s.beginTake f q x u p).exec? f q u.index =
    some { fn := f, q := q, index := u.index, desc := u.bytes } := by
  obtain ⟨_, _, free⟩ := begins
  have execs : (s.beginTake f q x u p).execs = (s.beginSlot f q x u).execs :=
    State.takeRecks_within.areas .descriptors (by decide) (State.beginSlot_within.canonical c)
  rw [State.exec?, execs]
  exact State.beginSlot_exec? x free

include c in
/-- Where no Reckoner ran for the descriptor before, those that do run its recipe. -/
theorem State.handle_beginTake (fresh : s.runsOf f q u.index = []) {j : Nat}
    (running : j ∈ (s.beginTake f q x u p).runsOf f q u.index) :
    ((s.beginTake f q x u p).runAt (j / 5) (j % 5)).map Run.handle = some (dTarget u.bytes % 128) := by
  obtain ⟨low, y, run, own⟩ := State.mem_runsOf.mp running
  rcases State.runAt_takeRecks (s := s.beginSlot f q x u) (f := f) (q := q) (i := u.index) (d := u.bytes) (p := p) (j / 5)
    (j % 5) with same | taken
  · have before : j ∈ s.runsOf f q u.index :=
      State.mem_runsOf.mpr ⟨State.beginTake_within.length_dies c ▸ low, y, same.symm.trans run, own⟩
    rw [fresh] at before
    cases before
  · exact taken

include c begins recipe in
/-- A recipe without an argument block starts at once on each Reckoner taken, with the next EPOCH of its handle, and is
counted (R422, R493). -/
theorem State.starts_beginTake (fresh : s.runsOf f q u.index = []) (plain : bArgs p.bundle = 0) {k : Nat × Nat}
    (named : k ∈ s.named f u.bytes) (die : k.2 / 5 < s.dies.length) (unit : k.2 % 5 < (s.die (k.2 / 5)).recks.length) :
    Counted (recipePage (k.2 / 5) (k.2 % 5)) Ctr.recipeCtlRecipesRun 1 s
        (((s.beginTake f q x u p).fetchArgs f q u.index).settle f q) ∧
      ((((s.beginTake f q x u p).fetchArgs f q u.index).settle f q).reck (k.2 / 5) (k.2 % 5)).epoch (dTarget u.bytes % 128) =
        ((s.reck (k.2 / 5) (k.2 % 5)).epoch (dTarget u.bytes % 128) + 1) % 2 ^ 32 := by
  have kept : State.KeepsCtr (recipePage (k.2 / 5) (k.2 % 5)) Ctr.recipeCtlRecipesRun s (s.beginTake f q x u p) :=
    ((State.KeepsCtr.refl c).beginSlot (by decide) f q x u).within State.takeRecks_within
  have taken : (s.beginTake f q x u p).Taken f q u.index u.bytes p k.2 :=
    State.taken_takeRecks (s := s.beginSlot f q x u) named die unit
  have member : k.2 ∈ (s.beginTake f q x u p).runsOf f q u.index :=
    State.mem_runsOf.mpr ⟨by rw [State.beginTake_within.length_dies c]; omega, taken.run⟩
  have recipe' : FMap.get? (s.beginTake f q x u p).recipes (dTarget u.bytes % 128) = some p := by
    rwa [State.beginTake_within.areas .recipes (by decide) c]
  obtain ⟨y, run, handle⟩ := Option.map_eq_some_iff.mp taken.handle
  have epochs : ((s.beginTake f q x u p).reck (k.2 / 5) (k.2 % 5)).epochs = (s.reck (k.2 / 5) (k.2 % 5)).epochs :=
    State.epochs_takeRecks (s := s.beginSlot f q x u) ..
  obtain ⟨counted, epoch⟩ := State.startRuns_at kept.canonical member (List.nodup_range.filter _) run (handle ▸ recipe')
  have canonical := State.fetchArgs_within (f := f) (q := q) (i := u.index).canonical kept.canonical
  rw [State.settle_within.reck canonical]
  rw [← State.fetchArgs_plain (State.exec?_beginTake c begins) (fun _ => State.handle_beginTake c fresh) recipe' plain]
    at counted epoch
  refine ⟨((State.KeepsCtr.refl canonical).settle (by decide) f q).counted_before (kept.counted_after counted), ?_⟩
  · rw [← handle, epoch, Reckoner.epoch, epochs, ← Reckoner.epoch]

end RunRecipe

end Sys2Proof.Machine

namespace Sys2Proof

open Machine

/-- Settles O22: the command begins, takes its Reckoners and reads the argument block, and each Reckoner keeps what it shows;
without an argument block the runs start one after another, each on its own Reckoner. -/
theorem recipesStartOnTheirReckoners : Obligations.RecipesStartOnTheirReckoners := by
  intro s f q x u p c fn pos begins opcode admitted free fresh recipe named
  refine ⟨_, exec_runRecipe_takes c fn pos begins opcode admitted free recipe fun k listed => (named k listed).1,
    fun k listed => ?_⟩
  obtain ⟨_, die, unit⟩ := named k listed
  obtain ⟨handle, early⟩ := Prod.mk.inj (State.shown_beginTake (p := p) c listed die unit)
  exact ⟨handle, early, fun plain => State.starts_beginTake c begins recipe fresh plain listed die unit⟩

end Sys2Proof
end

section
/-!
WAIT stages (R420, R438) and the run-ahead of tiles (R426, R427).
-/

namespace Sys2Proof.Machine

/-! ### The run of a Reckoner changed -/

theorem State.runAt_onRun {s : State} {d r : Nat} (f : Run → Run) (die : d < s.dies.length)
    (unit : r < (s.die d).recks.length) : (s.onRun d r f).runAt d r = (s.runAt d r).map f := by
  rw [State.runAt, State.onRun, State.reck_onReck _ die unit, State.runAt]

/-- What is at work on a Reckoner is its run. -/
theorem State.workAt_run {s : State} {d r : Nat} {w : Work} (at_ : s.workAt d r = some w) :
    w.d = d ∧ w.r = r ∧ s.runAt d r = some w.run := by
  unfold State.workAt at at_
  split at at_
  · cases at_
  next x run =>
    split at at_
    · split at at_
      · cases at_
      · cases at_
        exact ⟨rfl, rfl, run⟩
    · cases at_

/-- A stage that begins leaves the run in place. -/
theorem State.runAt_beginStage {s : State} {w : Work} (die : w.d < s.dies.length)
    (unit : w.r < (s.die w.d).recks.length) :
    ((s.beginStage w).runAt w.d w.r).isSome = (s.runAt w.d w.r).isSome := by
  unfold State.beginStage
  split
  · rw [State.runAt_onRun _ die unit, Option.isSome_map]
  · rw [State.runAt, State.reck_count, State.reck_onReck _ die unit, Option.isSome_map, State.runAt]

/-! ### WAIT (R420) -/

theorem exec_wait_watches {s : State} {d r : Nat} {w : Work} (die : d < s.dies.length) (unit : r < 5)
    (at_ : s.workAt d r = some w) (kind : w.st.kind = kWait) :
    exec (.wait d r) s = .next ((s.beginStage w).onRun d r fun x => { x with waiting := true }) := by
  have row : exec (.wait d r) s = execWait d r s := by rfl
  simp only [row, execWait, atUnit, if_pos die, decide_eq_true unit, if_true, at_, kind, ne_eq, not_true_eq_false, if_false]

section CheckWait

variable {s s2 : State} {d r i : Nat} {x : Run} {p : Recipe} (run : s.runAt d r = some x)
  (recipe : FMap.get? s.recipes x.handle = some p) (waiting : x.waiting = true) (going : x.paused = none)
  (stage : x.stage = some i)

include run recipe waiting going stage

/-- A WAIT whose flag has reached its target is done (R420). -/
theorem State.checkWait_reached (late : Bool)
    (flag : rmFlag { d := d, r := r, run := x, b := p.bundle, st := bStage p.bundle i } s = (.ok true, s2)) :
    s.checkWait d r late = s2.stageDone d r := by
  simp [State.checkWait, run, waiting, going, stage, recipe, flag]

/-- A WAIT whose limit expires before its flag reaches its target stops the run (R438). -/
theorem State.checkWait_late (limit : x.limit ≠ 0)
    (flag : rmFlag { d := d, r := r, run := x, b := p.bundle, st := bStage p.bundle i } s = (.ok false, s2)) :
    s.checkWait d r true = s2.failRun d r stRecipeAborted raTimeout := by
  simp [State.checkWait, run, waiting, going, stage, recipe, flag, limit]

end CheckWait

theorem exec_waitSatisfied {s : State} {d r : Nat} (die : d < s.dies.length) (unit : r < 5) :
    exec (.waitSatisfied d r) s = .next (s.checkWait d r false) := by
  have row : exec (.waitSatisfied d r) s = atUnit s d (r < 5) (s.checkWait d r false) := by rfl
  rw [row, atUnit, if_pos die, if_pos (decide_eq_true unit)]

theorem exec_waitTimeout {s : State} {d r : Nat} (die : d < s.dies.length) (unit : r < 5) :
    exec (.waitTimeout d r) s = .next (s.checkWait d r true) := by
  have row : exec (.waitTimeout d r) s = atUnit s d (r < 5) (s.checkWait d r true) := by rfl
  rw [row, atUnit, if_pos die, if_pos (decide_eq_true unit)]

/-! ### What a run's error leaves of its descriptor (R424) -/

/-- The status and DETAIL that a descriptor in execution has so far. -/
def State.verdict (s : State) (f q : Nat) (i : Word) : Option (Nat × Nat) :=
  (s.exec? f q i).map fun e => (e.status, e.detail)

theorem State.verdict_congr {s t : State} (execs : t.execs = s.execs) (f q : Nat) (i : Word) :
    t.verdict f q i = s.verdict f q i := by
  rw [State.verdict, State.exec?, execs, ← State.exec?, State.verdict]

/-- A recipe that ends does so with the status and DETAIL that its descriptor has. -/
theorem State.verdict_endRecipe (s : State) (f q : Nat) (i : Word) :
    (s.endRecipe f q i).verdict f q i = s.verdict f q i := by
  unfold State.endRecipe
  split
  next e found =>
    split
    · rw [State.verdict, State.finish, State.exec?_onExec _ found (by intro e; split <;> rfl), State.verdict, found]
      simp only [Option.map_some]
      split <;> rfl
    · rfl
  · rfl

/-- A Reckoner and its peers that stop leave the descriptors in execution. -/
theorem State.execs_stops {s : State} (c : s.canonical) (d r st dt f q : Nat) (i : Word) :
    ((s.stopOne d r st dt).stopPeers f q i).execs = s.execs := by
  have stops : Within 171798695948 s ((s.stopOne d r st dt).stopPeers f q i) :=
    State.stopPeers_within.step (by decide) State.stopOne_within
  exact stops.areas .descriptors (by decide) c

/-- A descriptor in execution that takes an error of the Reckoner of a named bit, where it has none yet (R424). -/
def Exec.noteError (e : Exec) (st dt slot : Nat) : Exec :=
  if e.status = 0 then { e with status := st, detail := dt, result1 := slot } else e

/-- The first error of a descriptor becomes its status and DETAIL (R424). -/
theorem State.verdict_failRun {s : State} {d r : Nat} {x : Run} {e : Exec} (st dt : Nat) (c : s.canonical)
    (run : s.runAt d r = some x) (found : s.exec? x.fn x.q x.index = some e) (first : e.status = 0) :
    (s.failRun d r st dt).verdict x.fn x.q x.index = some (st, dt) := by
  have fails : s.failRun d r st dt = (((s.onExec x.fn x.q x.index (·.noteError st dt x.slot)).stopOne d r st dt).stopPeers
      x.fn x.q x.index).endRecipe x.fn x.q x.index := by
    simp only [State.failRun, run, Exec.noteError]
  have begun : Within 512 s (s.onExec x.fn x.q x.index (·.noteError st dt x.slot)) := State.onExec_within
  have noted := State.exec?_onExec (·.noteError st dt x.slot) found fun e => by
    unfold Exec.noteError
    split <;> rfl
  rw [fails, State.verdict_endRecipe, State.verdict_congr (State.execs_stops (begun.canonical c) ..), State.verdict, noted,
    Option.map_some, Exec.noteError, if_pos first]

/-! ### The run-ahead of tiles (R426, R427) -/

/-- The next tile of the stage order is fetched where its tier queue has room (R427). -/
theorem exec_tilePrefetch_fetches {s : State} {d r i : Nat} {x y : Run} {p : Recipe} {u : AheadTile}
    (die : d < s.dies.length) (unit : r < 5) (run : s.runAt d r = some x)
    (recipe : FMap.get? s.recipes x.handle = some p) (stage : x.stage = some i) (args : x.args.isSome = true)
    (goes : x.stopping = false)
    (next : nextTile p.bundle (s.reck d r).seqs (x.ahead.map fun t => (t.stage, t.counters)) 4096
      (if x.begun then x.next p.bundle (s.reck d r).seqs else x) = some y)
    (tile : s.tileAhead { d := d, r := r, run := y, b := p.bundle, st := bStage p.bundle (y.stage.getD 0) } = some u)
    (room : (x.ahead.filter fun v => v.tier == u.tier).length < 2) :
    exec (.tilePrefetch d r) s = .next (s.onRun d r fun z => { z with ahead := z.ahead ++ [u] }) := by
  have row : exec (.tilePrefetch d r) s = execTilePrefetch d r s := by rfl
  have read : x.args.isNone = false := Option.isNone_eq_false_iff.mpr args
  simp only [row, execTilePrefetch, atUnit, if_pos die, decide_eq_true unit, if_true, run, stage, recipe, read, goes,
    Bool.or_self, Bool.false_eq_true, if_false, next, tile, if_neg (Nat.not_le.mpr room)]

/-- What the blocks of a tile hold. -/
def State.peekBlocks (s : State) (f : Nat) (l : List Nat) : List (Nat × List Byte) :=
  l.map fun k => (k, (s.peekBlock f k).getD [])

/-- The blocks of a tile are found where each of them is (R25). -/
theorem State.peekBlocks_eq {s : State} {f : Nat} {l : List Nat} (there : ∀ k ∈ l, (s.peekBlock f k).isSome = true) :
    (l.map fun k => (s.peekBlock f k).map fun bs => (k, bs)) = (s.peekBlocks f l).map some := by
  rw [State.peekBlocks, List.map_map]
  refine List.map_congr_left fun k listed => ?_
  obtain ⟨bs, found⟩ := Option.isSome_iff_exists.mp (there k listed)
  simp only [found, Option.map_some, Function.comp_apply, Option.getD_some]

/-- The oldest tile on its way takes its blocks where none of them faults (R426). -/
theorem exec_tileArrival_takes {s : State} {d r : Nat} {x : Run} {u : AheadTile} (die : d < s.dies.length) (unit : r < 5)
    (run : s.runAt d r = some x) (oldest : (x.ahead.find? fun t => t.data.isNone) = some u)
    (there : ∀ k ∈ u.blocks, (s.peekBlock x.fn k).isSome = true) :
    exec (.tileArrival d r) s = .next (s.onRun d r fun y => { y with
      ahead := y.ahead.map fun v => if v == u then { v with data := some (s.peekBlocks x.fn u.blocks) } else v }) := by
  have row : exec (.tileArrival d r) s = execTileArrival d r s := by rfl
  have whole : ((s.peekBlocks x.fn u.blocks).map some).any Option.isNone = false := by simp
  have got : ((s.peekBlocks x.fn u.blocks).map some).filterMap id = s.peekBlocks x.fn u.blocks := by simp
  simp only [row, execTileArrival, atUnit, if_pos die, decide_eq_true unit, if_true, run, oldest,
    State.peekBlocks_eq there, whole, got, Bool.false_eq_true, if_false]

end Sys2Proof.Machine

namespace Sys2Proof

open Machine

/-- Settles O41: a WAIT watches its flag and ends as the flag's value says, and each event of a tile changes its run's list
of tiles fetched ahead. -/
theorem recipesWaitAndFetchAhead : Obligations.RecipesWaitAndFetchAhead := by
  intro s d r x p sound die unit run recipe
  have recks : r < (s.die d).recks.length := State.length_recks sound d ▸ unit
  refine ⟨?watch, ?flag, ?prefetch, ?arrival⟩
  case watch =>
    intro w at_ kind
    obtain ⟨rfl, rfl, here⟩ := State.workAt_run at_
    have begun : Within 34359738376 s (s.beginStage w) := State.beginStage_within
    have runs := State.runAt_beginStage die recks
    rw [here, Option.isSome_some] at runs
    obtain ⟨y, run'⟩ := Option.isSome_iff_exists.mp runs
    refine ⟨_, exec_wait_watches die unit at_ kind, ?_⟩
    dsimp only
    rw [State.runAt_onRun _ (by rwa [begun.length_dies sound.1]) (by rwa [State.length_recks (begun.sound sound)]), run']
    rfl
  case flag =>
    intro i s2 waiting going stage goes
    refine ⟨fun flag run2 recipe2 recks2 die2 next => ?_, fun flag run2 _ die2 limit e found first => ?_⟩
    · have there := State.runAt_toNextStage p.bundle die2 (recks2 ▸ unit) run2
      have row := exec_waitSatisfied die unit
      rw [State.checkWait_reached run recipe waiting going stage false flag, State.stageDone_eq run2 goes recipe2,
        State.tryFinish_of_stage there next] at row
      exact ⟨_, row, there⟩
    · have looked : Within 43218121743 s s2 := Within.runPair flag rmFlag_within (by decide) (Within.refl _ s)
      have row := exec_waitTimeout die unit
      rw [State.checkWait_late run recipe waiting going stage limit flag] at row
      exact ⟨_, row, State.runAt_failRun _ _ (looked.sound sound) die2 unit,
        State.verdict_failRun _ _ (looked.canonical sound.1) run2 found first⟩
  case prefetch =>
    intro i y u stage args goes next tile room
    refine ⟨_, exec_tilePrefetch_fetches die unit run recipe stage args goes next tile room, ?_⟩
    dsimp only
    rw [State.runAt_onRun _ die recks, run]
    rfl
  case arrival =>
    intro u ahead away there
    have oldest : (x.ahead.find? fun t => t.data.isNone) = some u := by simp [ahead, away]
    refine ⟨_, exec_tileArrival_takes die unit run oldest there, ?_⟩
    dsimp only
    rw [State.runAt_onRun _ die recks, run, Option.map_some, Option.map_some, ahead]
    simp only [List.map_cons, List.map_nil, beq_self_eq_true, if_true, State.peekBlocks]

end Sys2Proof
end

section
-- One proof after another: side by side, the proofs of the whole text need more threads than the memory limit has room for.
set_option Elab.async false
/-!
The state after reset, OTP through every step (R573), the DOE mailbox and attestation (R77, R78, R575, R576), and the cold
reset with the start after it (R625, R667, R668, R674).
-/

namespace Sys2Proof.Machine

/-! ### One-time-programmable memory (R573) -/

/-- A step keeps what is programmed in OTP: a command by its frame, a tick by that of the clock. -/
theorem step_otpKept {s t : State} (h : step s = .next t) : OtpKept s.spine.otp t.spine.otp := by
  unfold step at h
  split at h
  · cases h
    exact State.tick_within.otp
  · next c cs _ =>
    have w : Within (areaMask (touches c)) { s with pending := cs } t := exec_within c _ t h
    exact w.otp

/-! ### Package cold reset and the start after it (R618, R626, R667) -/

/-- POWER_BRAKE_N taken as asserted leaves the board and the Spine. -/
theorem State.brakeDies_keeps (s : State) : s.brakeDies.board = s.board ∧ s.brakeDies.spine = s.spine := by
  unfold State.brakeDies
  generalize s.dieList = l
  induction l generalizing s with
  | nil => exact ⟨rfl, rfl⟩
  | cons d l ih => exact ih _

/-- The state once PERST_N is deasserted: the straps latched, and the brake taken where its pin is asserted. -/
def State.releasePerst (s : State) (addr : BitVec 3) (test : Bool) : State :=
  let t := { s with board := { s.board with perst := false, i3cAddr := addr, strapTest := test } }
  if s.brakePin then t.brakeDies else t

theorem State.releasePerst_keeps (s : State) (addr : BitVec 3) (test : Bool) :
    (s.releasePerst addr test).board = { s.board with perst := false, i3cAddr := addr, strapTest := test } ∧
      (s.releasePerst addr test).spine = s.spine := by
  unfold State.releasePerst
  dsimp only
  split
  · exact State.brakeDies_keeps _
  · exact ⟨rfl, rfl⟩

theorem exec_perstNDeassert {s : State} (asserted : s.board.perst = true) (addr : BitVec 3) (test : Bool) :
    exec (.perstNDeassert addr test) s = .next (
      if test then s.releasePerst addr test
      else { s.releasePerst addr test with
        spine := { (s.releasePerst addr test).spine with phase := .rom } }.trainPcie) := by
  have row : exec (.perstNDeassert addr test) s = execPerstNDeassert addr test s := by rfl
  simp only [row, execPerstNDeassert, asserted, Bool.not_true, Bool.false_eq_true, if_false, State.releasePerst]

/-- A rail that fails while PERST_N is deasserted loses the power (R674). -/
theorem exec_railFault {s : State} {rail : Nat} (released : s.board.perst = false) (group : rail ≠ 0) :
    exec (.railFault rail) s = .next s.coldReset := by
  have row : exec (.railFault rail) s = execRailFault rail s := by rfl
  simp [row, execRailFault, released, group]

/-! ### The DOE mailbox (R67, R77, R78, R575) -/

theorem State.onDoe_of_ready {s : State} (ready : s.ready = true) (r : State) : s.onDoe r = r := if_pos ready

theorem State.spdm_of_ready {s : State} (ready : s.ready = true) (r : SpdmReply) : s.spdm r = s.emit (.spdm r) :=
  State.onDoe_of_ready ready _

theorem State.takeFreeBytes_length (n : Nat) (s : State) : (State.takeFreeBytes n s).1.length = n := by
  induction n generalizing s with
  | zero => rfl
  | succ n ih => simp only [State.takeFreeBytes, List.length_cons, ih]

/-- Free bytes leave all but the count of free values. -/
theorem State.takeFreeBytes_keeps (n : Nat) (s : State) :
    (State.takeFreeBytes n s).2 = { s with free := (State.takeFreeBytes n s).2.free } := by
  induction n generalizing s with
  | zero => rfl
  | succ n ih =>
    simp only [State.takeFreeBytes]
    rw [ih]

/-- A response whose nonce and signature take free values goes out after what went out before. -/
theorem State.signTranscript_spdm {s : State} (ready : s.ready = true) (reply : List Byte → List Byte → SpdmReply) :
    ∃ nonce sig, nonce.length = 32 ∧
      ((State.takeFreeBytes 32 s).2.signTranscript.2.spdm
        (reply (State.takeFreeBytes 32 s).1 (State.takeFreeBytes 32 s).2.signTranscript.1)).outbox =
        .spdm (reply nonce sig) :: s.outbox := by
  refine ⟨(State.takeFreeBytes 32 s).1, (State.takeFreeBytes 32 s).2.signTranscript.1, State.takeFreeBytes_length 32 s, ?_⟩
  have signs (t : State) : t.signTranscript.2 = { t with free := t.signTranscript.2.free } := by
    simp only [State.signTranscript, State.identitySign]
    rw [State.takeFreeBytes_keeps 48 (State.takeFreeBytes 48 t).2, State.takeFreeBytes_keeps 48 t]
  rw [signs, State.takeFreeBytes_keeps 32 s, State.spdm_of_ready (by exact ready)]
  rfl

theorem exec_challenge {s : State} (ready : s.ready = true) (n : List Byte) (selected : s.board.extAsym = true) :
    exec (.challenge 0 n) s = .next ((State.takeFreeBytes 32 s).2.signTranscript.2.spdm (.challengeAuth 0
      (sha384 s.spine.certs) (State.takeFreeBytes 32 s).1 (State.takeFreeBytes 32 s).2.signTranscript.1)) := by
  have row : exec (.challenge 0 n) s = execChallenge 0 n s := by rfl
  simp only [row, execChallenge, State.onDoe_of_ready ready, selected, ne_eq, not_true_eq_false, decide_false, Bool.not_true,
    Bool.or_self, Bool.false_eq_true, if_false]

/-- The block of an index (R576). -/
theorem State.measurements_at (s : State) {i : Nat} (least : 1 ≤ i) (most : i ≤ 6) :
    ∃ kind value, (i, kind, value) ∈ s.measurements ∧
      s.measurements.filter (fun b => i == 0xFF || b.1 == i) = [(i, kind, value)] := by
  unfold State.measurements
  interval_cases i <;> exact ⟨_, _, by simp, rfl⟩

theorem exec_getMeasurements_one {s : State} {i : Nat} (ready : s.ready = true) (n : List Byte) (most : i ≤ 6) :
    exec (.getMeasurements i false n) s = .next ((State.takeFreeBytes 32 s).2.spdm (.measurements 6
      (s.measurements.filter fun b => i == 0xFF || b.1 == i) (State.takeFreeBytes 32 s).1 none)) := by
  have row : exec (.getMeasurements i false n) s = execGetMeasurements i false n s := by rfl
  have known : ¬ (6 < i ∧ i ≠ 0xFF) := by omega
  simp only [row, execGetMeasurements, State.onDoe_of_ready ready, known, Bool.false_and, Bool.false_eq_true, or_self,
    if_false]

theorem exec_getMeasurements_all {s : State} (ready : s.ready = true) (n : List Byte)
    (selected : s.board.extAsym = true) :
    exec (.getMeasurements 0xFF true n) s = .next ((State.takeFreeBytes 32 s).2.signTranscript.2.spdm (.measurements 6
      s.measurements (State.takeFreeBytes 32 s).1 (some (State.takeFreeBytes 32 s).2.signTranscript.1))) := by
  have row : exec (.getMeasurements 0xFF true n) s = execGetMeasurements 0xFF true n s := by rfl
  simp [row, execGetMeasurements, State.onDoe_of_ready ready, selected]

end Sys2Proof.Machine

namespace Sys2Proof

open Machine

/-- Settles O57: every list of the reset state is empty or of the part's size, and every die's time starts at 0. -/
theorem resetStateIsSound : Obligations.ResetStateIsSound := by
  refine ⟨⟨by decide, by decide⟩, rfl, rfl, rfl, rfl, rfl, rfl, rfl, rfl, rfl, fun f => ?_, fun d => ?_⟩
  · rw [State.fn, State.reset, List.getElem?_replicate]
    split <;> rfl
  · rw [State.time, State.die, State.reset, List.getElem?_replicate]
    split <;> rfl

/-- Settles O59: every command and the tick keep what is programmed in OTP. -/
theorem stepsKeepOtp : Obligations.StepsKeepOtp := fun _ _ h => step_otpKept h

/-- Settles O4: the cold reset is written out by its fields; PERST_N deasserted latches the straps and starts the boot ROM. -/
theorem coldResetAndItsEnd : Obligations.ColdResetAndItsEnd := by
  intro s
  refine ⟨⟨s.coldReset, rfl, rfl, rfl, rfl, rfl, rfl, rfl, rfl⟩, fun rail released group => ?_, fun addr asserted => ?_,
    fun addr asserted => ?_⟩
  · exact ⟨_, exec_railFault released group, rfl, rfl, rfl, rfl, rfl, rfl, rfl⟩
  · obtain ⟨board, _⟩ := s.releasePerst_keeps addr false
    refine ⟨_, exec_perstNDeassert asserted addr false, ?_⟩
    simp only [Bool.false_eq_true, if_false, State.trainPcie, State.takeFree_board, State.takeFree_spine, board,
      Option.isSome_some, and_self]
  · obtain ⟨board, spine⟩ := s.releasePerst_keeps addr true
    refine ⟨_, exec_perstNDeassert asserted addr true, ?_⟩
    simp only [if_true, board, spine, and_self]

/-- Settles O7: each request's answer goes out on the mailbox; a signature and its nonce take free values. -/
theorem theDoeMailboxIsAnswered : Obligations.TheDoeMailboxIsAnswered := by
  intro s ready
  have answers : ∀ r, (s.spdm r).outbox = .spdm r :: s.outbox := fun r => by rw [State.spdm_of_ready ready]; rfl
  have doe : ∀ r, s.onDoe r = r := State.onDoe_of_ready ready
  refine ⟨⟨_, rfl, ?version⟩, ⟨_, rfl, answers _⟩, fun a b => ⟨_, rfl, ?algorithms⟩, ⟨_, rfl, answers _⟩,
    fun o n _ => ⟨_, rfl, answers _⟩, fun n selected => ⟨_, exec_challenge ready n selected, ?challenge⟩,
    fun i n least most => ⟨_, exec_getMeasurements_one ready n most, ?one⟩,
    fun n selected => ⟨_, exec_getMeasurements_all ready n selected, ?all⟩, fun c => ⟨_, rfl, answers _⟩,
    fun i => ⟨_, rfl, by rw [doe]; rfl⟩, fun v o n => ⟨_, rfl, ?object⟩, ⟨_, rfl, ?_⟩⟩
  case version => rw [doe, State.spdm_of_ready (by exact ready)]; rfl
  case algorithms =>
    rw [doe, State.spdm_of_ready (by exact ready)]
    exact ⟨rfl, rfl⟩
  case challenge =>
    obtain ⟨nonce, sig, length, sent⟩ := State.signTranscript_spdm ready (.challengeAuth 0 (sha384 s.spine.certs))
    exact ⟨nonce, sig, length, sent⟩
  case one =>
    obtain ⟨kind, value, member, block⟩ := State.measurements_at s least most
    refine ⟨kind, value, (State.takeFreeBytes 32 s).1, member, ?_⟩
    rw [block, State.takeFreeBytes_keeps 32 s, State.spdm_of_ready (by exact ready)]
    rfl
  case all =>
    obtain ⟨nonce, sig, _, sent⟩ := State.signTranscript_spdm ready fun nonce sig =>
      .measurements 6 s.measurements nonce (some sig)
    exact ⟨nonce, sig, sent⟩
  case object =>
    rw [doe]
    split
    next known => simp [known]
    next unknown =>
      have outside : (v == 1 && decide (o ≤ 1) && decide (n ≤ 1024)) = false := by
        by_contra known
        exact unknown (by simpa [and_assoc] using known)
      simp [outside]
  · rw [doe]
    exact ⟨rfl, rfl⟩

end Sys2Proof
end

section
-- One proof after another: side by side, the proofs of the whole text need more threads than the memory limit has room for.
set_option Elab.async false
/-!
Functions: what the function-wide reset leaves of them, how they open and close (R535 to R543), the dirty log's registers
(R544, R546), and the resets of dies, forwarding planes and functions (R71, R289, R675).
-/

namespace Sys2Proof.Machine

/-! ### Operations that leave a register -/

/-- From `s` to `t` the register at `off` of a page stays, and so do the part and the canonical form of the maps. -/
structure State.KeepsReg (p : Page) (off : Nat) (s t : State) : Prop where
  canonical : t.canonical
  part : t.part = s.part
  reg : t.reg p off = s.reg p off

namespace State.KeepsReg

variable {p : Page} {off : Nat} {s t u : State}

theorem refl (c : s.canonical) : State.KeepsReg p off s s := ⟨c, rfl, rfl⟩

/-- States that share the part, memory, registers and totals. -/
theorem congr (h : State.KeepsReg p off s t) (part : u.part = t.part := by rfl) (mem : u.mem = t.mem := by rfl)
    (regs : u.regs = t.regs := by rfl) (totals : u.totals = t.totals := by rfl) : State.KeepsReg p off s u := by
  obtain ⟨⟨hm, hr, ht⟩, same, value⟩ := h
  refine ⟨⟨mem ▸ hm, regs ▸ hr, totals ▸ ht⟩, part.trans same, ?_⟩
  rw [State.reg, regs, part, ← State.reg, value]

/-- An operation that sets no block register. -/
theorem within {W : Nat} (h : State.KeepsReg p off s t) (w : Within W t u) (low : 0x100 ≤ off) (high : off < 0xC00)
    (regs : W.testBit Area.ownRegs.bit = false := by decide) : State.KeepsReg p off s u :=
  ⟨w.canonical h.canonical, w.part.trans h.part,
    (Area.same_reg (w.areas .ownRegs regs h.canonical) w.part p low high).trans h.reg⟩

/-- Another register set. -/
theorem setReg {q : Page} {o : Nat} (h : State.KeepsReg p off s t) (other : p.addr + off ≠ q.addr + o) (v : Nat) :
    State.KeepsReg p off s (t.setReg q o v) :=
  ⟨State.setReg_any.canonical h.canonical, h.part, (State.reg_setReg_ne t q p o off v h.canonical.2.1 other).trans h.reg⟩

theorem foldl {α : Type} {f : State → α → State} (l : List α) (h : State.KeepsReg p off s t)
    (step : ∀ u x, State.KeepsReg p off s u → State.KeepsReg p off s (f u x)) : State.KeepsReg p off s (l.foldl f t) :=
  List.foldlRecOn l f h fun u hu x _ => step u x hu

/-- A trigger sets LAST_NUMBER and NEXT_NUMBER of the die's colophon page alone (R633). -/
theorem trigger {d : Nat} (h : State.KeepsReg p off s t) (low : 0x100 ≤ off) (high : off < 0xC00)
    (apart : p.addr ≠ (colophonPage d).addr) (out : Bool) : State.KeepsReg p off s (t.trigger d out) := by
  have other (o : Nat) (small : o < 0xC00) : p.addr + off ≠ (colophonPage d).addr + o := by
    have := p.addr_mod
    have := (colophonPage d).addr_mod
    omega
  unfold State.trigger State.capture
  refine State.KeepsReg.setReg ?_ (other 0x108 (by decide)) _
  dsimp only
  split
  · have counted := (h.setReg (other 0x10C (by decide)) (BitVec.ofNat 32 (t.reg (colophonPage d) 0x108)).toNat).within
      (State.count_within (p := colophonPage d) (k := Ctr.colophonCapturesTriggered) (n := 1)) low high
    split <;> exact counted.congr
  · exact h.within State.count_within low high

/-- An error sets, beside common registers, those of a trigger alone (R53, R54, R632). -/
theorem error {q : Page} (h : State.KeepsReg p off s t) (low : 0x100 ≤ off) (high : off < 0xC00)
    (apart : p.addr ≠ (colophonPage q.die).addr) (code source data : Nat) :
    State.KeepsReg p off s (t.error q code source data) := by
  unfold State.error
  extract_lets recorded raised above
  have record : State.KeepsReg p off s recorded := h.within State.feRecord_within low high
  have raise : State.KeepsReg p off s raised := by
    simp only [raised]
    split
    · exact record
    · exact record.within State.raise_within low high
  have groups : State.KeepsReg p off s above := raise.within State.feGroups_within low high
  split
  · exact record
  · split
    · unfold State.errorTrigger
      dsimp only
      split
      · exact groups.trigger low high apart true
      · exact groups
    · exact groups

end State.KeepsReg

/-! ### Operations that leave the functions' records -/

/-- From `s` to `t` the functions stay, and so does the canonical form of the maps. -/
structure State.KeepsFns (s t : State) : Prop where
  canonical : t.canonical
  fns : t.fns = s.fns

namespace State.KeepsFns

variable {s t u : State}

theorem refl (c : s.canonical) : State.KeepsFns s s := ⟨c, rfl⟩

/-- States that share memory, registers, totals and functions. -/
theorem congr (h : State.KeepsFns s t) (mem : u.mem = t.mem := by rfl) (regs : u.regs = t.regs := by rfl)
    (totals : u.totals = t.totals := by rfl) (fns : u.fns = t.fns := by rfl) : State.KeepsFns s u := by
  obtain ⟨⟨hm, hr, ht⟩, same⟩ := h
  exact ⟨⟨mem ▸ hm, regs ▸ hr, totals ▸ ht⟩, fns.trans same⟩

/-- An operation whose mask leaves the functions out. -/
theorem within {W : Nat} (h : State.KeepsFns s t) (w : Within W t u)
    (functions : W.testBit Area.functions.bit = false := by decide) : State.KeepsFns s u :=
  ⟨w.canonical h.canonical, .trans (w.areas .functions functions h.canonical) h.fns⟩

theorem foldl {α : Type} {f : State → α → State} (l : List α) (h : State.KeepsFns s t)
    (step : ∀ u x, State.KeepsFns s u → State.KeepsFns s (f u x)) : State.KeepsFns s (l.foldl f t) :=
  List.foldlRecOn l f h fun u hu x _ => step u x hu

end State.KeepsFns

/-! ### The function-wide reset (R539) -/

/-- What the function-wide reset does to queues and descriptors, before the function's own record. -/
def State.dropQueued (s : State) (f : Nat) : State :=
  let s := { s with execs := s.execs.filter (fun e => e.fn != f), doorbells := s.doorbells.filter (·.fn != f)
                    arrivals := s.arrivals.filter fun a => a.2.1 != f }
  ((s.queues.map Prod.fst).foldl (fun s k => if k / 65536 = f then s.removeQueue f (k % 65536) else s) s).adminGone f

/-- What the function-wide reset does after the function's own record: queue pairs, runs, recipes, checks, groups, faults,
translations, log entries and interrupts of the function. -/
def State.dropWork (s : State) (f : Nat) : State :=
  let s := ((s.qps.filter fun x => x.2.fn == f).map Prod.fst).foldl State.removeQp s
  let s := s.reckList.foldl (fun s k =>
    if ((s.runAt (k / 5) (k % 5)).map fun x => x.fn == f).getD false then s.clearRun (k / 5) (k % 5) else s) s
  let s := { s with recipes := s.recipes.filter fun r => r.2.fn != f }
  let s := s.endChecks f
  let s := s.dieList.foldl (fun s d =>
    let s := (s.die d).groups.foldl (fun s g =>
      s.onOp d g.1 fun o => if o.fn = f then { o with leaving := true } else o) s
    ((s.dropFaults d (· == f)).dropTranslations d (· == f)).freeLog d fun e => e.fn == f) s
  (s.fnPages f).foldl State.clearInts s

/-- A function's record after the function-wide reset. -/
def Fn.afterReset (x : Fn) : Fn := { x with ledgers := [[], [], [], []], msix := [] }

theorem State.functionReset_eq (s : State) (f : Nat) :
    s.functionReset f = ((s.dropQueued f).onFn f Fn.afterReset).dropWork f := by rfl

theorem State.dropQueued_keepsFns {s : State} (c : s.canonical) (f : Nat) : State.KeepsFns s (s.dropQueued f) := by
  unfold State.dropQueued
  refine State.KeepsFns.within ?_ State.adminGone_within
  refine .foldl _ ((State.KeepsFns.refl c).congr) fun u k hu => ?_
  split
  · exact hu.within State.removeQueue_within
  · exact hu

theorem State.dropWork_keepsFns {s : State} (c : s.canonical) (f : Nat) : State.KeepsFns s (s.dropWork f) := by
  unfold State.dropWork
  extract_lets pairs runs recipes checks dies
  have hp : State.KeepsFns s pairs := .foldl _ (.refl c) fun u q hu => hu.within State.removeQp_within
  have hr : State.KeepsFns s runs := .foldl _ hp fun u k hu => by
    split
    · exact hu.within State.clearRun_within
    · exact hu
  have hc : State.KeepsFns s checks := (hr.congr (u := recipes)).within State.endChecks_within
  have hd : State.KeepsFns s dies := .foldl _ hc fun u d hu => by
    have left : State.KeepsFns s ((u.die d).groups.foldl (fun s g =>
        s.onOp d g.1 fun o => if o.fn = f then { o with leaving := true } else o) u) :=
      .foldl _ hu fun v g hv => hv.within State.onOp_within
    exact ((left.within State.dropFaults_within).within State.dropTranslations_within).within State.freeLog_within
  exact .foldl _ hd fun u p hu => hu.within State.clearInts_within

/-- The function-wide reset changes no function but its own, and of that the ledgers and interrupt vectors alone. -/
theorem State.functionReset_fns {s : State} (c : s.canonical) (f : Nat) :
    (s.functionReset f).fns = modifyAt s.fns f Fn.afterReset := by
  have queued := State.dropQueued_keepsFns c f
  have c' : ((s.dropQueued f).onFn f Fn.afterReset).canonical := queued.canonical
  rw [State.functionReset_eq, (State.dropWork_keepsFns c' f).fns, ← queued.fns]
  rfl

theorem State.fn_enterClosing {s : State} (c : s.canonical) {f : Nat} (fn : f < s.fns.length) (e : Nat) :
    (s.enterClosing f).fn e =
      if e = f then { s.fn f with phase := .closing, pendClose := false, ledgers := [[], [], [], []], msix := [] }
      else s.fn e := by
  have same : (s.enterClosing f).fns = ((s.onFn f fun x => { x with phase := .closing, pendClose := false }).onFn f
      Fn.afterReset).fns := State.functionReset_fns (s := s.onFn f _) c f
  rw [State.fn_congr same, State.fn_onFn _ _ _ _ (by simpa [State.onFn, length_modifyAt] using fn)]
  split
  · rw [State.fn_onFn _ _ _ _ fn, if_pos rfl]
    rfl
  · rw [State.fn_onFn _ _ _ _ fn, if_neg ‹_›]

theorem State.enterClosing_canonical {s : State} (c : s.canonical) (f : Nat) : (s.enterClosing f).canonical :=
  State.enterClosing_within.canonical c

/-! ### Functions that open (R535, R536) -/

/-- The end of OPENING, before a pending close is acted on. -/
def State.opened (s : State) (f : Nat) : State :=
  ((s.onFn f fun x => { x with phase := .opened, service := false, pendClose := false }).count (fnPage f)
    Ctr.fnStateOpens).raise (fnPage f) 1

theorem State.reachOpen_eq (s : State) (f : Nat) :
    s.reachOpen f = if (s.fn f).pendClose then (s.opened f).enterClosing f else s.opened f := by rfl

theorem State.opened_keepsFns {s : State} (c : s.canonical) (f : Nat) :
    State.KeepsFns (s.onFn f fun x => { x with phase := .opened, service := false, pendClose := false }) (s.opened f) :=
  ((State.KeepsFns.refl (by exact c)).within State.count_within).within State.raise_within

theorem State.opened_fn {s : State} (c : s.canonical) {f : Nat} (fn : f < s.fns.length) (e : Nat) :
    (s.opened f).fn e = if e = f then { s.fn f with phase := .opened, service := false, pendClose := false } else s.fn e := by
  rw [State.fn_congr (State.opened_keepsFns c f).fns, State.fn_onFn _ _ _ _ fn]

theorem State.opened_counted {s : State} (c : s.canonical) (f : Nat) : Counted (fnPage f) Ctr.fnStateOpens 1 s (s.opened f) := by
  have moved : State.KeepsCtr (fnPage f) Ctr.fnStateOpens s
      (s.onFn f fun x => { x with phase := .opened, service := false, pendClose := false }) := (State.KeepsCtr.refl c).congr rfl rfl rfl
  exact moved.counted ((State.KeepsCtr.refl (State.count_within.canonical moved.canonical)).within State.raise_within)

theorem State.opened_length {s : State} (c : s.canonical) (f : Nat) : (s.opened f).fns.length = s.fns.length := by
  rw [(State.opened_keepsFns c f).fns, State.onFn, length_modifyAt]

theorem State.reachOpen_fn {s : State} (c : s.canonical) {f : Nat} (fn : f < s.fns.length) :
    ((s.reachOpen f).fn f).phase = (if (s.fn f).pendClose then .closing else .opened) ∧
      ((s.reachOpen f).fn f).enable = (s.fn f).enable ∧ ∀ e ≠ f, (s.reachOpen f).fn e = s.fn e := by
  have c' : (s.opened f).canonical := (State.opened_keepsFns c f).canonical
  have closing := State.fn_enterClosing c' (f := f) (by rwa [State.opened_length c])
  simp only [State.opened_fn c fn] at closing
  rw [State.reachOpen_eq]
  cases (s.fn f).pendClose with
  | true =>
    simp only [if_true, closing]
    exact ⟨trivial, trivial, fun e other => by rw [if_neg other, if_neg other]⟩
  | false =>
    simp only [Bool.false_eq_true, if_false, State.opened_fn c fn]
    exact ⟨rfl, rfl, fun e other => if_neg other⟩

/-! ### Functions that close (R535, R536, R543) -/

/-- A function's page lies apart from the recipe pages of the part's Reckoners. -/
theorem fnPage_addr_ne_recipePage {f : Nat} (low : f < 17) (d : Nat) {r : Nat} (unit : r < 5) :
    (fnPage f).addr ≠ (recipePage d r).addr := by
  simp only [Page.addr, Page.off, PageKind.place]
  omega

namespace State.KeepsCtr

variable {p : Page} {k : Nat} {s t : State} (h : State.KeepsCtr p k s t) (checks : k % 128 ≠ Ctr.integrityChecksAborted)
  (recipes : ∀ d r, r < 5 → p.addr ≠ (recipePage d r).addr)

include h checks

/-- A run that ends counts its checks as CHECKS_ABORTED alone. -/
theorem clearRun_number (d r : Nat) : State.KeepsCtr p k s (t.clearRun d r) := by
  unfold State.clearRun
  exact foldl _ (h.within State.onReck_within) fun u c hu => (hu.within State.unlink_within).count_number _ checks 1

include recipes

/-- A Reckoner that stops counts on its own recipe page, and its checks as CHECKS_ABORTED. -/
theorem stopOne_of_unit (d : Nat) {r : Nat} (unit : r < 5) (status detail : Nat) :
    State.KeepsCtr p k s (t.stopOne d r status detail) := by
  unfold State.stopOne
  have noted := (h.within (State.onReck_within (d := d) (r := r) (f := fun x =>
    { x with abort := status * 65536 + detail }))).count (recipes d r unit) Ctr.recipeCtlRecipesAborted 1
  exact (noted.within State.raise_within).clearRun_number checks d r

theorem stopPeers_of_units (f q : Nat) (i : Word) : State.KeepsCtr p k s (t.stopPeers f q i) := by
  unfold State.stopPeers
  refine foldl _ h fun u j hu => ?_
  split
  · exact hu.within State.onRun_within
  · exact hu.stopOne_of_unit checks recipes _ (Nat.mod_lt _ (by decide)) _ _

theorem failRun_of_unit (d : Nat) {r : Nat} (unit : r < 5) (status detail : Nat) :
    State.KeepsCtr p k s (t.failRun d r status detail) := by
  unfold State.failRun
  split
  · exact h
  · exact (((h.within State.onExec_within).stopOne_of_unit checks recipes d unit status detail).stopPeers_of_units checks
      recipes _ _ _).within State.endRecipe_within

/-- A Reckoner that changes its holder counts what its run's failure counts alone. -/
theorem moveReckoner (j f : Nat) : State.KeepsCtr p k s (t.moveReckoner j f) := by
  unfold State.moveReckoner
  extract_lets d r failed owned formats
  have ho : State.KeepsCtr p k s owned :=
    (h.failRun_of_unit checks recipes d (Nat.mod_lt j (by decide)) _ _).congr rfl rfl rfl
  have hf : State.KeepsCtr p k s formats := List.foldlRecOn (motive := State.KeepsCtr p k s) _ _ ho fun u hu n hn =>
    hu.within (State.setReg_own (by omega) (by have := List.mem_range.mp hn; omega))
  exact hf.within State.onReck_within

/-- A holding put in force counts what its Reckoners' failures count alone. -/
theorem setHolding {f : Nat} (low : f < 17) (x : Holding) : State.KeepsCtr p k s (t.setHolding f x) := by
  unfold State.setHolding
  extract_lets old lost given taken granted dropped held
  have hg : State.KeepsCtr p k s given := foldl _ h fun u j hu => by
    split
    · exact hu
    · exact hu.moveReckoner checks recipes j 0
  have ht : State.KeepsCtr p k s granted := (foldl _ hg fun u j hu => by
    split
    · exact hu
    · exact hu.moveReckoner checks recipes j f : State.KeepsCtr p k s taken).congr rfl rfl rfl
  have hd : State.KeepsCtr p k s held := by
    simp only [held, dropped]
    split
    · exact (foldl _ ht fun u d hu => hu.within State.dropTranslations_within).congr rfl rfl rfl
    · exact ht.congr rfl rfl rfl
  exact foldl _ hd fun u d hu => hu.within (State.setReg_own (by omega) (by omega))

/-- DESTROY_PARTITION's end counts what the failures of Reckoners count alone. -/
theorem destroyed {f : Nat} (low : f < 17) : State.KeepsCtr p k s (t.destroyed f) := by
  unfold State.destroyed
  extract_lets groups held empty
  have hg : State.KeepsCtr p k s groups := foldl _ h fun u d hu =>
    foldl _ (hu.within State.onXlate_within) fun v g hv => hv.within State.removeGroup_within
  have he : State.KeepsCtr p k s empty := (hg.setHolding checks recipes low _).congr rfl rfl rfl
  split
  · exact he.within State.adminEnd_within
  · exact he

end State.KeepsCtr

/-- A function's record with the counts and the cap of a holding. -/
def Holding.grantTo (h : Holding) (x : Fn) : Fn :=
  { x with queues := h.queues, qps := h.qps, handles := h.handles, cap := h.cap }

/-- A holding put in force changes, of the functions, the counts and the cap of its own alone. -/
theorem State.setHolding_keepsFns {s : State} (c : s.canonical) (f : Nat) (h : Holding) :
    State.KeepsFns (s.onFn f h.grantTo) (s.setHolding f h) := by
  unfold State.setHolding
  extract_lets old lost given taken granted dropped held
  have hg : State.KeepsFns s given := .foldl _ (.refl c) fun u k hu => by
    split
    · exact hu
    · exact hu.within State.moveReckoner_within
  have ht : State.KeepsFns s granted := (State.KeepsFns.foldl _ hg fun u k hu => by
    split
    · exact hu
    · exact hu.within State.moveReckoner_within : State.KeepsFns s taken).congr
  have hd : State.KeepsFns s dropped := by
    simp only [dropped]
    split
    · exact .foldl _ ht fun u d hu => hu.within State.dropTranslations_within
    · exact ht
  have hh : State.KeepsFns (s.onFn f h.grantTo) held := ⟨hd.canonical, congrArg (modifyAt · f h.grantTo) hd.fns⟩
  exact .foldl _ hh fun u d hu => hu.within State.setReg_any

/-- What a function holds once its partition is destroyed. -/
def Holding.none : Holding := { recks := [], granules := [], queues := 0, qps := 0, handles := 0, cap := 64 }

theorem State.destroyed_fn {s : State} (c : s.canonical) {f : Nat} (fn : f < s.fns.length) (e : Nat) :
    (s.destroyed f).fn e = if e = f then { Holding.none.grantTo (s.fn f) with destroying := false } else s.fn e := by
  unfold State.destroyed
  extract_lets groups held empty
  have hg : State.KeepsFns s groups := .foldl _ (.refl c) fun u d hu =>
    .foldl _ (hu.within State.onXlate_within) fun v g hv => hv.within State.removeGroup_within
  have hh : State.KeepsFns (groups.onFn f Holding.none.grantTo) held := State.setHolding_keepsFns hg.canonical f _
  have fng : f < groups.fns.length := by rwa [hg.fns]
  have length : f < held.fns.length := by rwa [hh.fns, State.onFn, length_modifyAt]
  have heldFn (e : Nat) : held.fn e = if e = f then Holding.none.grantTo (s.fn f) else s.fn e := by
    rw [State.fn_congr hh.fns, State.fn_onFn _ _ _ _ fng, State.fn_congr hg.fns, State.fn_congr hg.fns]
  have he : empty.fn e = if e = f then { Holding.none.grantTo (s.fn f) with destroying := false } else s.fn e := by
    refine (State.fn_onFn _ f e _ length).trans ?_
    change (if e = f then { held.fn f with destroying := false } else held.fn e) = _
    rw [heldFn, heldFn, if_pos rfl]
    split
    · rfl
    · rfl
  split
  · have canonical : empty.canonical := hh.canonical
    rw [State.fn_congr (State.adminEnd_within.areas .functions (by decide) canonical), he]
  · exact he

/-- The end of CLOSING, before a destruction ends and a pending open is acted on. -/
def State.closed (s : State) (f : Nat) : State :=
  ((s.onFn f fun x => { x with phase := .closed, flr := false }).count (fnPage f) Ctr.fnStateCloses).raise (fnPage f) 2

theorem State.closed_keepsFns {s : State} (c : s.canonical) (f : Nat) :
    State.KeepsFns (s.onFn f fun x => { x with phase := .closed, flr := false }) (s.closed f) :=
  ((State.KeepsFns.refl (by exact c)).within State.count_within).within State.raise_within

theorem State.closed_counted {s : State} (c : s.canonical) (f : Nat) : Counted (fnPage f) Ctr.fnStateCloses 1 s (s.closed f) := by
  have moved : State.KeepsCtr (fnPage f) Ctr.fnStateCloses s (s.onFn f fun x => { x with phase := .closed, flr := false }) :=
    (State.KeepsCtr.refl c).congr rfl rfl rfl
  exact moved.counted ((State.KeepsCtr.refl (State.count_within.canonical moved.canonical)).within State.raise_within)

/-- A function that has reached CLOSED, its partition given back where it is to be destroyed. -/
def State.closedDown (s : State) (f : Nat) : State :=
  if ((s.closed f).fn f).destroying then (s.closed f).destroyed f else s.closed f

theorem execClosingComplete_closing {s : State} {f : Nat} (fn : f < s.fns.length) (closing : (s.fn f).phase = .closing)
    (stays : s.leaving f = false) : exec (.closingComplete f) s = .next (
      if ((s.closedDown f).fn f).pendOpen then
        (s.closedDown f).onFn f fun x => { x with phase := .opening, pendOpen := false }
      else s.closedDown f) := by
  have row : exec (.closingComplete f) s = execClosingComplete f s := by rfl
  rw [row, execClosingComplete, atFn, if_pos fn, closing, stays]
  rfl

theorem State.closed_within {s : State} {f : Nat} : Within 240853733998 s (s.closed f) :=
  State.raise_within.step (by decide) (State.count_within.step (by decide) (Within.onFn (by decide) (Within.refl _ s)))

theorem State.closedDown_within {s : State} {f : Nat} : Within 240853733998 s (s.closedDown f) := by
  unfold State.closedDown
  split
  · exact State.destroyed_within.step (by decide) State.closed_within
  · exact State.closed_within

theorem State.closedDown_fn {s : State} (c : s.canonical) {f : Nat} (fn : f < s.fns.length) :
    ((s.closedDown f).fn f).phase = .closed ∧ ((s.closedDown f).fn f).flr = false ∧
      ((s.closedDown f).fn f).pendOpen = (s.fn f).pendOpen := by
  have fns : (s.closed f).fns = (s.onFn f fun x => { x with phase := .closed, flr := false }).fns :=
    (State.closed_keepsFns c f).fns
  have length : f < (s.closed f).fns.length := by rwa [fns, State.onFn, length_modifyAt]
  have own : (s.closed f).fn f = { s.fn f with phase := .closed, flr := false } := by
    rw [State.fn_congr fns, State.fn_onFn _ _ _ _ fn, if_pos rfl]
  unfold State.closedDown
  split
  · have given := State.destroyed_fn (State.closed_keepsFns c f).canonical length f
    rw [if_pos rfl, own] at given
    rw [given]
    exact ⟨rfl, rfl, rfl⟩
  · rw [own]
    exact ⟨rfl, rfl, rfl⟩

theorem State.closedDown_counted {s : State} (c : s.canonical) {f : Nat} (low : f < 17) :
    Counted (fnPage f) Ctr.fnStateCloses 1 s (s.closedDown f) := by
  have counted := State.closed_counted c f
  unfold State.closedDown
  split
  · exact ((State.KeepsCtr.refl (State.closed_keepsFns c f).canonical).destroyed (by decide)
      (fun d _ unit => fnPage_addr_ne_recipePage low d unit) low).counted_before counted
  · exact counted

/-- CLOSING ends in CLOSED, or in OPENING where an open is pending (R535, R536). -/
theorem closingComplete_closes {s : State} (sound : s.sound) {f : Nat} (fn : f < s.fns.length)
    (closing : (s.fn f).phase = .closing) (stays : s.leaving f = false) : Completes (.closingComplete f) s fun t =>
      (t.fn f).phase = (if (s.fn f).pendOpen then .opening else .closed) ∧ (t.fn f).flr = false ∧
      (t.fn f).pendOpen = false ∧ Counted (fnPage f) Ctr.fnStateCloses 1 s t := by
  have length := State.length_fns sound
  have low : f < 17 := by omega
  obtain ⟨phase, flr, pending⟩ := State.closedDown_fn sound.1 fn
  have counted := State.closedDown_counted sound.1 low
  have after : f < (s.closedDown f).fns.length := by rwa [State.length_fns (State.closedDown_within.sound sound)]
  refine ⟨_, execClosingComplete_closing fn closing stays, ?_⟩
  cases open_ : (s.fn f).pendOpen with
  | false =>
    rw [open_] at pending
    simp only [pending, Bool.false_eq_true, if_false]
    exact ⟨phase, flr, trivial, counted⟩
  | true =>
    simp only [pending, open_, if_true, State.fn_onFn _ _ _ _ after]
    exact ⟨trivial, flr, trivial, counted⟩

/-! ### The dirty log's registers (R544, R546) -/

/-- The fields of a value of DIRTY_CTL with ENABLE at 1. -/
theorem dirtyCtl_fields (ovf : Bool) {size : Nat} (low : size < 32) :
    b2n true * 0x80000000 + b2n ovf * 0x40000000 + size < 2 ^ 64 ∧
      bit (b2n true * 0x80000000 + b2n ovf * 0x40000000 + size) 31 = true ∧
      bits (b2n true * 0x80000000 + b2n ovf * 0x40000000 + size) 4 0 = size := by
  have most : b2n ovf ≤ 1 := by cases ovf <;> decide
  simp only [b2n, if_true, bit, bits, beq_iff_eq] at most ⊢
  refine ⟨?_, ?_, ?_⟩ <;> omega

theorem regReset_fnState_lt (part : Part) (f : Nat) {off : Nat} (reg : off = 0x148 ∨ off = 0x150) :
    regReset part (fnPage f) off < 2 ^ 64 := by
  have rows : ((regDefAt .fnState 0x148).map RegDef.reset).getD 0 < 2 ^ 64 ∧
    ((regDefAt .fnState 0x150).map RegDef.reset).getD 0 < 2 ^ 64 := by decide
  rcases reg with rfl | rfl
  · exact rows.1
  · exact rows.2

/-- A function's dirty log started afresh under a value of DIRTY_CTL. -/
def State.startLog (s : State) (f ctl : Nat) : State :=
  (((s.setReg (fnPage f) 0x148 ctl).setReg (fnPage f) 0x14C 0).setReg (fnPage f) 0x150 0).onFn f fun x => { x with dirty := [] }

theorem State.startLog_sets {s : State} {f ctl : Nat} (c : s.canonical) (fn : f < s.fns.length) (fits : ctl < 2 ^ 64) :
    (s.startLog f ctl).word (fnPage f) 0x14C = 0 ∧ (s.startLog f ctl).word (fnPage f) 0x150 = 0 ∧
      (s.startLog f ctl).reg (fnPage f) 0x148 = ctl ∧ ((s.startLog f ctl).fn f).dirty = [] := by
  have wf0 := State.setReg_wf (fnPage f) 0x148 ctl c.2.1
  have wf1 := State.setReg_wf (fnPage f) 0x14C 0 wf0
  have tail : (((s.setReg (fnPage f) 0x148 ctl).setReg (fnPage f) 0x14C 0).setReg (fnPage f) 0x150 0).word (fnPage f) 0x14C = 0 := by
    rw [State.word_setReg_ne 0 wf1 (by omega)]
    exact State.word_setReg_self _ _ _ wf0
  have head : (((s.setReg (fnPage f) 0x148 ctl).setReg (fnPage f) 0x14C 0).setReg (fnPage f) 0x150 0).word (fnPage f) 0x150 = 0 :=
    State.word_setReg_self _ _ _ wf1
  have kept : (((s.setReg (fnPage f) 0x148 ctl).setReg (fnPage f) 0x14C 0).setReg (fnPage f) 0x150 0).reg (fnPage f) 0x148 =
      ctl := by
    rw [State.reg_setReg_ne _ _ _ _ _ _ wf1 (by omega), State.reg_setReg_ne _ _ _ _ _ _ wf0 (by omega),
      State.reg_setReg_of_lt c.2.1 fits (regReset_fnState_lt _ _ (.inl rfl))]
  exact ⟨tail, head, kept, congrArg Fn.dirty ((State.fn_onFn _ f f _ fn).trans (if_pos rfl))⟩

/-- DIRTY_CTL written with ENABLE at 1 and a size in range, where ENABLE was 0 (R546). -/
theorem State.writeDirtyCtl_starts {s : State} {f v : Nat} (enable : bit v 31 = true) (least : 8 ≤ bits v 4 0)
    (most : bits v 4 0 ≤ 20) (off : bit (s.reg (fnPage f) 0x148) 31 = false) :
    s.writeDirtyCtl f v = s.startLog f (b2n true * 0x80000000 +
      b2n (bit (s.reg (fnPage f) 0x148) 30 && !bit v 30) * 0x40000000 + bits v 4 0) := by
  simp only [State.writeDirtyCtl, State.startLog, enable, off, least, most, and_self, decide_true, Bool.not_true,
    Bool.false_eq_true, if_false, Bool.and_false, Bool.not_false, Bool.and_true, if_true]

/-- A refused access keeps a block register of a page other than the colophon page. -/
theorem State.reg_refuse {s : State} (c : s.canonical) {p : Page} {off : Nat} (low : 0x100 ≤ off) (high : off < 0xC00)
    (apart : p.addr ≠ (colophonPage p.die).addr) (code : Nat) : (s.refuse p code).reg p off = s.reg p off :=
  (State.KeepsReg.error (q := p) (State.KeepsReg.refl c) low high apart code 0 0).reg

section FnPages

variable {s : State} {f : Nat} (host : s.hostReady) (fn : f < s.fns.length) (takes : s.takes (fnPage f))

include host fn takes

/-- A command by which the host writes a register of a function's page. -/
theorem fnWrite_runs {c : Instr} {t : State} (row : exec c s = atFn s f (s.fromFn 0 (s.guarded (fnPage f) t))) :
    exec c s = .next t := by
  rw [row, State.fromFn_of_hostReady host, State.guarded_of_takes takes, atFn, if_pos fn]

/-- Enabling the dirty log starts it afresh (R544, R546). -/
theorem dirtyLogEnable_starts (c : s.canonical) {v : Word} (enable : bit v.toNat 31 = true) (least : 8 ≤ bits v.toNat 4 0)
    (most : bits v.toNat 4 0 ≤ 20) (off : bit (s.reg (fnPage f) 0x148) 31 = false) :
    Completes (.dirtyLogEnable f v) s fun t => t.word (fnPage f) 0x14C = 0 ∧ t.word (fnPage f) 0x150 = 0 ∧
      bit (t.reg (fnPage f) 0x148) 31 = true ∧ bits (t.reg (fnPage f) 0x148) 4 0 = bits v.toNat 4 0 ∧ (t.fn f).dirty = [] := by
  obtain ⟨fits, enabled, size⟩ := dirtyCtl_fields (bit (s.reg (fnPage f) 0x148) 30 && !bit v.toNat 30)
    (size := bits v.toNat 4 0) (by omega)
  obtain ⟨tail, head, ctl, dirty⟩ := State.startLog_sets c fn fits
  refine ⟨_, fnWrite_runs host fn takes (c := .dirtyLogEnable f v) rfl, ?_⟩
  rw [enable, off, if_neg (by decide), State.writeDirtyCtl_starts enable least most off]
  exact ⟨tail, head, (congrArg (bit · 31) ctl).trans enabled, (congrArg (bits · 4 0) ctl).trans size, dirty⟩

/-- DIRTY_HEAD is taken where it is no further than the log's size behind the tail (R546, R551). -/
theorem dirtyHeadWrite_takes (c : s.canonical) (low : f < 17) (v : Word) :
    Completes (.dirtyHeadWrite f v) s fun t => t.reg (fnPage f) 0x150 =
      if (BitVec.ofNat 32 (s.reg (fnPage f) 0x14C) - v).toNat ≤ 2 ^ bits (s.reg (fnPage f) 0x148) 4 0 then v.toNat
      else s.reg (fnPage f) 0x150 := by
  refine ⟨_, fnWrite_runs host fn takes (c := .dirtyHeadWrite f v) rfl, ?_⟩
  unfold State.writeDirtyHead
  dsimp only
  split
  · next far =>
    have apart : (fnPage f).addr ≠ (colophonPage 0).addr := by
      simp only [Page.addr, Page.off, PageKind.place]
      omega
    rw [if_neg (by omega)]
    exact State.reg_refuse c (by decide) (by decide) apart 0x0102
  · next near =>
    rw [if_pos (by omega)]
    exact State.reg_setReg_of_lt c.2.1 (by have := v.isLt; omega) (regReset_fnState_lt _ _ (.inr rfl))

omit takes host in
/-- A command that changes the function's record alone. -/
theorem onFn_moves {c : Instr} {g : Fn → Fn} (row : exec c s = .next (s.onFn f g)) {P : Fn → Prop} (moved : P (g (s.fn f))) :
    Completes c s fun t => P (t.fn f) := by
  refine ⟨_, row, ?_⟩
  change P ((s.onFn f g).fn f)
  rwa [State.fn_onFn _ _ _ _ fn, if_pos rfl]

/-- FN_CTL.ENABLE written with 1 (R535, R538). -/
theorem exec_functionEnable (pf : f ≠ 0) (off : (s.fn f).enable = false) (held : (s.fn f).queues ≠ 0) :
    exec (.functionEnable f) s = .next (s.onFn f fun x =>
      match x.phase with
      | .closed => { x with enable := true, phase := .opening }
      | .closing => { x with enable := true, pendOpen := true }
      | _ => { x with enable := true, pendClose := false }) := by
  refine (fnWrite_runs host fn takes (c := .functionEnable f) rfl).trans ?_
  rw [if_neg pf, off, if_neg (by decide), if_neg held] <;> rfl

/-- FN_CTL.ENABLE written with 0 (R535, R538). -/
theorem exec_functionDisable (pf : f ≠ 0) (on : (s.fn f).enable = true) :
    exec (.functionDisable f) s = .next (
      match (s.fn f).phase with
      | .closed => s.onFn f fun x => { x with enable := false }
      | .opening => (s.onFn f fun x => { x with enable := false }).onFn f fun x => { x with pendClose := true }
      | .opened => (s.onFn f fun x => { x with enable := false }).enterClosing f
      | .closing => (s.onFn f fun x => { x with enable := false }).onFn f fun x => { x with pendOpen := false }) := by
  refine (fnWrite_runs host fn takes (c := .functionDisable f) rfl).trans ?_
  rw [if_neg pf, on]
  rfl

/-- The PF is neither enabled nor disabled by a write of FN_CTL: the write is refused. -/
theorem functionCtl_pf (c : s.canonical) (pf : f = 0) :
    (Completes (.functionEnable f) s fun t => t.fn f = s.fn f) ∧ Completes (.functionDisable f) s fun t => t.fn f = s.fn f := by
  have refused : (s.refuse (fnPage f) 0x0100).fn f = s.fn f :=
    State.fn_congr (State.refuse_within.areas .functions (by decide) c) f
  refine ⟨⟨_, fnWrite_runs host fn takes (c := .functionEnable f) rfl, ?_⟩,
    ⟨_, fnWrite_runs host fn takes (c := .functionDisable f) rfl, ?_⟩⟩
  · rw [if_pos pf]
    exact refused
  · rw [if_pos pf]
    exact refused

end FnPages

/-- OPENING ends in OPEN and MAINTENANCE, or at once in CLOSING where a close is pending (R535, R536). -/
theorem openingComplete_opens {s : State} (c : s.canonical) {f : Nat} (fn : f < s.fns.length)
    (opening : (s.fn f).phase = .opening) :
    ((s.fn f).pendClose = false → Completes (.openingComplete f) s fun t =>
      t.fn f = { s.fn f with phase := .opened, service := false, pendClose := false } ∧
      Counted (fnPage f) Ctr.fnStateOpens 1 s t) ∧
    ((s.fn f).pendClose = true → Completes (.openingComplete f) s fun t => (t.fn f).phase = .closing) := by
  have row : exec (.openingComplete f) s = .next (s.reachOpen f) := by
    have row : exec (.openingComplete f) s = execOpeningComplete f s := by rfl
    rw [row, execOpeningComplete, atFn, if_pos fn, opening]
    rfl
  refine ⟨fun stays => ⟨_, row, ?_⟩, fun close => ⟨_, row, ?_⟩⟩
  · rw [State.reachOpen_eq, stays, if_neg (by decide)]
    exact ⟨(State.opened_fn c fn f).trans (if_pos rfl), State.opened_counted c f⟩
  · exact (State.reachOpen_fn c fn).1.trans (if_pos close)

/-- Disabling an OPEN function closes it (R535). -/
theorem functionDisable_closes {s : State} {f : Nat} (host : s.hostReady) (fn : f < s.fns.length) (takes : s.takes (fnPage f))
    (c : s.canonical) (pf : f ≠ 0) (on : (s.fn f).enable = true) (opened : (s.fn f).phase = .opened) :
    Completes (.functionDisable f) s fun t => (t.fn f).phase = .closing ∧ (t.fn f).enable = false := by
  refine ⟨_, exec_functionDisable host fn takes pf on, ?_⟩
  rw [opened]
  dsimp only
  rw [State.fn_enterClosing (by exact c) (by simpa [State.onFn, length_modifyAt] using fn), if_pos rfl,
    State.fn_onFn _ _ _ _ fn, if_pos rfl]
  exact ⟨rfl, rfl⟩

/-- Disabling a function that moves leaves a pending close, or takes a pending open away (R535, R538). -/
theorem functionDisable_pends {s : State} {f : Nat} (host : s.hostReady) (fn : f < s.fns.length) (takes : s.takes (fnPage f))
    (pf : f ≠ 0) (on : (s.fn f).enable = true) :
    ((s.fn f).phase = .opening → Completes (.functionDisable f) s fun t =>
      t.fn f = { s.fn f with enable := false, pendClose := true }) ∧
    ((s.fn f).phase = .closing → Completes (.functionDisable f) s fun t =>
      t.fn f = { s.fn f with enable := false, pendOpen := false }) := by
  have length (g : Fn → Fn) : f < (s.onFn f g).fns.length := by rwa [State.onFn, length_modifyAt]
  refine ⟨fun phase => ⟨_, exec_functionDisable host fn takes pf on, ?_⟩,
    fun phase => ⟨_, exec_functionDisable host fn takes pf on, ?_⟩⟩
  all_goals
    rw [phase]
    dsimp only
    rw [State.fn_onFn _ _ _ _ (length _), if_pos rfl, State.fn_onFn _ _ _ _ fn, if_pos rfl]

/-! ### Resets of dies and of the forwarding plane (R289, R675) -/

/-- The islands that leave reset clear RESET_ACTIVE and CMD_BUSY together (R675). -/
theorem State.leaveComputeReset_clears {s : State} (c : s.canonical) {d : Nat} (die : d < s.dies.length) :
    ((s.leaveComputeReset d).die d).computeReset = false ∧ ((s.leaveComputeReset d).die d).cmdBusy = false := by
  let u := s.onDie d fun x => { x with computeReset := false, cmdBusy := false }
  have own : u.die d = { s.die d with computeReset := false, cmdBusy := false } :=
    (State.die_onDie s d d _ die).trans (if_pos rfl)
  have copies : Within 8862578223 u (s.leaveComputeReset d) := Within.foldl (fun t e h => by
    split
    · exact State.runCopy_within.step (by decide) h
    · exact h) (Within.refl _ u)
  have same := State.die_congr (copies.areas .resets (by decide) c) d
  rw [own] at same
  simp only [Prod.mk.injEq] at same
  obtain ⟨compute, _, busy⟩ := same
  exact ⟨compute, busy⟩

theorem dieResetRampDownDone_ends {s : State} (c : s.canonical) {d : Nat} (die : d < s.dies.length)
    (busy : (s.die d).cmdBusy = true) (locked : (s.die d).clocks.holdsCompute = false) :
    Completes (.dieResetRampDownDone d) s fun t => (t.die d).computeReset = false ∧ (t.die d).cmdBusy = false := by
  refine ⟨s.leaveComputeReset d, ?_, State.leaveComputeReset_clears c die⟩
  have row : exec (.dieResetRampDownDone d) s = execDieResetRampDownDone d s := by rfl
  rw [row, execDieResetRampDownDone, atDie, if_pos die, busy, locked]
  rfl

/-- A forwarding plane that is cleared holds no packet. -/
theorem State.clearForwarding_empties {s : State} (c : s.canonical) {d : Nat} (die : d < s.dies.length) :
    ((s.clearForwarding d).die d).router.held = [] ∧ ((s.clearForwarding d).die d).router.fifos = List.replicate 9 [] := by
  have length := (State.clearForwarding_within (s := s) (d := d)).length_dies c
  revert length
  unfold State.clearForwarding
  extract_lets closed kept cleared written
  intro length
  have inner : d < written.dies.length := by
    rw [State.onDie_length] at length
    omega
  rw [State.die_onDie _ _ _ _ inner, if_pos rfl]
  exact ⟨rfl, rfl⟩

theorem forwardingPlaneReset_empties {s : State} (c : s.canonical) {d : Nat} (die : d < s.dies.length) :
    Completes (.forwardingPlaneReset d) s fun t =>
      (t.die d).router.held = [] ∧ (t.die d).router.fifos = List.replicate 9 [] := by
  have row : exec (.forwardingPlaneReset d) s = .next ((s.clearForwarding d).trainPorts d) := if_pos die
  have trained := State.trainPorts_within (s := s.clearForwarding d) (d := d)
  have same : (((s.clearForwarding d).trainPorts d).die d).router = ((s.clearForwarding d).die d).router :=
    State.die_congr (trained.areas .router (by decide) (State.clearForwarding_within.canonical c)) d
  refine ⟨_, row, ?_⟩
  dsimp only
  rw [same]
  exact State.clearForwarding_empties c die

/-! ### Resets of functions (R68, R71, R535) -/

/-- A function's record as a Function Level Reset begins. -/
def Fn.underReset (x : Fn) : Fn := { x with flr := true, pendOpen := x.enable }

theorem exec_functionLevelReset {s : State} {f : Nat} (fn : f < s.fns.length) (ready : s.ready = true)
    (opened : (s.fn f).phase = .opened) : exec (.functionLevelReset f) s =
      .next (((s.count (fnPage f) Ctr.fnStateFlrs).onFn f Fn.underReset).enterClosing f) := by
  have row : exec (.functionLevelReset f) s = execFunctionLevelReset f s := by rfl
  have same : (s.count (fnPage f) Ctr.fnStateFlrs).fn f = s.fn f := by rfl
  simp only [row, execFunctionLevelReset, atFn, if_pos fn, ready, same, opened, Bool.not_true, Bool.false_eq_true, if_false]
  rfl

/-- A Function Level Reset of an OPEN function closes it (R535, R539). -/
theorem functionLevelReset_closes {s : State} (c : s.canonical) {f : Nat} (fn : f < s.fns.length) (ready : s.ready = true)
    (opened : (s.fn f).phase = .opened) :
    Completes (.functionLevelReset f) s fun t => (t.fn f).phase = .closing ∧ (t.fn f).flr = true := by
  have canonical : (s.count (fnPage f) Ctr.fnStateFlrs).canonical := State.count_within.canonical c
  have length : f < ((s.count (fnPage f) Ctr.fnStateFlrs).onFn f Fn.underReset).fns.length := by
    change f < (modifyAt s.fns f Fn.underReset).length
    rwa [length_modifyAt]
  have own : ((s.count (fnPage f) Ctr.fnStateFlrs).onFn f Fn.underReset).fn f = (s.fn f).underReset :=
    (State.fn_onFn (s.count (fnPage f) Ctr.fnStateFlrs) f f _ fn).trans (if_pos rfl)
  have closed := State.fn_enterClosing (s := (s.count (fnPage f) Ctr.fnStateFlrs).onFn f Fn.underReset) canonical length f
  rw [if_pos rfl, own] at closed
  refine ⟨_, exec_functionLevelReset fn ready opened, ?_⟩
  dsimp only
  rw [closed]
  exact ⟨rfl, rfl⟩

/-- What VF Enable cleared does to one VF (R71). -/
def State.closeVf (s : State) (f : Nat) : State :=
  let ph := (s.fn f).phase
  let s := s.onFn f fun x => { x with enable := false, pendOpen := false, flr := ph != .closed }
  match ph with
  | .opened => s.enterClosing f
  | .opening => (s.onFn f fun x => { x with pendClose := true }).reachOpen f
  | _ => s

theorem exec_vfEnableClear (s : State) :
    exec .vfEnableClear s = .next ((List.range 16).foldl (fun s j => s.closeVf (j + 1)) s) := by rfl

theorem State.closeVf_within {s : State} {f : Nat} : Within 249527746479 s (s.closeVf f) := by
  have moved (g : Fn → Fn) {t : State} (h : Within 249527746479 s t) : Within 249527746479 s (t.onFn f g) :=
    Within.onFn (by decide) h
  unfold State.closeVf
  dsimp only
  split
  · exact State.enterClosing_within.step (by decide) (moved _ (Within.refl _ s))
  · exact State.reachOpen_within.step (by decide) (moved _ (moved _ (Within.refl _ s)))
  · exact moved _ (Within.refl _ s)

/-- A VF that is closed is no more enabled, and OPEN or OPENING no more; the other functions stay. -/
theorem State.closeVf_fn {s : State} (c : s.canonical) {f : Nat} (fn : f < s.fns.length) :
    (((s.closeVf f).fn f).enable = false ∧ ((s.closeVf f).fn f).phase ≠ .opened ∧ ((s.closeVf f).fn f).phase ≠ .opening) ∧
      ∀ e ≠ f, (s.closeVf f).fn e = s.fn e := by
  let u := s.onFn f fun x => { x with enable := false, pendOpen := false, flr := (s.fn f).phase != .closed }
  have lu : f < u.fns.length := by
    change f < (modifyAt s.fns f _).length
    rwa [length_modifyAt]
  have own : u.fn f = { s.fn f with enable := false, pendOpen := false, flr := (s.fn f).phase != .closed } :=
    (State.fn_onFn s f f _ fn).trans (if_pos rfl)
  have others (e : Nat) (other : e ≠ f) : u.fn e = s.fn e := (State.fn_onFn s f e _ fn).trans (if_neg other)
  cases phase : (s.fn f).phase with
  | closed =>
    have eq : s.closeVf f = u := by simp only [State.closeVf, phase, u]
    rw [eq, own, phase]
    exact ⟨⟨rfl, by decide, by decide⟩, others⟩
  | closing =>
    have eq : s.closeVf f = u := by simp only [State.closeVf, phase, u]
    rw [eq, own, phase]
    exact ⟨⟨rfl, by decide, by decide⟩, others⟩
  | opened =>
    have eq : s.closeVf f = u.enterClosing f := by simp only [State.closeVf, phase, u]
    rw [eq]
    have closing := State.fn_enterClosing (s := u) c lu
    refine ⟨?_, fun e other => (closing e).trans ((if_neg other).trans (others e other))⟩
    rw [closing f, if_pos rfl, own]
    refine ⟨rfl, ?_, ?_⟩
    · exact (by decide : FnPhase.closing ≠ .opened)
    · exact (by decide : FnPhase.closing ≠ .opening)
  | opening =>
    let v := u.onFn f fun x => { x with pendClose := true }
    have eq : s.closeVf f = v.reachOpen f := by simp only [State.closeVf, phase, u, v]
    have lv : f < v.fns.length := by
      change f < (modifyAt u.fns f _).length
      rwa [length_modifyAt]
    have pending : (v.fn f).pendClose = true := congrArg Fn.pendClose ((State.fn_onFn u f f _ lu).trans (if_pos rfl))
    have disabled : (v.fn f).enable = (u.fn f).enable := by
      have moved : v.fn f = { u.fn f with pendClose := true } := (State.fn_onFn u f f _ lu).trans (if_pos rfl)
      rw [moved]
    obtain ⟨closing, enable, rest⟩ := State.reachOpen_fn (s := v) c lv
    rw [eq, closing, enable, pending, disabled, own]
    exact ⟨⟨rfl, by decide, by decide⟩, fun e other =>
      (rest e other).trans (((State.fn_onFn u f e _ lu).trans (if_neg other)).trans (others e other))⟩

/-- VF Enable cleared closes every VF (R71). -/
theorem vfEnableClear_closes {s : State} (sound : s.sound) :
    Completes .vfEnableClear s fun t => ∀ f, 1 ≤ f → f ≤ 16 → (t.fn f).enable = false ∧ (t.fn f).phase ≠ .opened ∧
      (t.fn f).phase ≠ .opening := by
  refine ⟨_, exec_vfEnableClear s, fun f least most => ?_⟩
  have fn (u : State) (h : u.sound) {j : Nat} (vf : j ∈ List.range 16) : j + 1 < u.fns.length := by
    have := List.mem_range.mp vf
    rw [State.length_fns h]
    omega
  have closed := foldl_once (A := State.sound) (x := f - 1)
    (B := fun t => t.sound ∧ (t.fn f).enable = false ∧ (t.fn f).phase ≠ .opened ∧ (t.fn f).phase ≠ .opening)
    (f := fun (s : State) j => s.closeVf (j + 1)) (List.mem_range.mpr (by omega)) (List.nodup_range (n := 16))
    (fun u j _ _ hu => State.closeVf_within.sound hu)
    (fun u hu => ⟨State.closeVf_within.sound hu, by
      have own := (State.closeVf_fn hu.1 (fn u hu (j := f - 1) (List.mem_range.mpr (by omega)))).1
      rwa [Nat.sub_add_cancel least] at own ⊢⟩)
    (fun u j vf other ⟨hu, closed⟩ => ⟨State.closeVf_within.sound hu, by
      rwa [(State.closeVf_fn hu.1 (fn u hu vf)).2 f (by omega)]⟩) sound
  exact closed.2

end Sys2Proof.Machine

namespace Sys2Proof
open Machine

/-- Settles O5. -/
theorem resetsOfDiesAndFunctions : Obligations.ResetsOfDiesAndFunctions := by
  intro s sound
  exact ⟨fun _ die busy locked => dieResetRampDownDone_ends sound.1 die busy locked,
    fun _ die => forwardingPlaneReset_empties sound.1 die,
    fun _ fn ready opened => functionLevelReset_closes sound.1 fn ready opened, vfEnableClear_closes sound⟩

/-- Settles O47. -/
theorem functionsOpenAndClose : Obligations.FunctionsOpenAndClose := by
  intro s f sound fn
  have low : f < 17 := State.length_fns sound ▸ fn
  refine ⟨fun host takes => ⟨fun pf off held => ?_, fun pf on => ?_, functionCtl_pf host fn takes sound.1, fun h => ?_,
      fun v => dirtyLogEnable_starts host fn takes sound.1, dirtyHeadWrite_takes host fn takes sound.1 low⟩,
    openingComplete_opens sound.1 fn, closingComplete_closes sound fn⟩
  · have row := exec_functionEnable host fn takes pf off held
    exact ⟨fun phase => onFn_moves fn row (P := (· = _)) (by simp only [phase]),
      fun phase => onFn_moves fn row (P := (· = _)) (by simp only [phase])⟩
  · obtain ⟨opening, closing⟩ := functionDisable_pends host fn takes pf on
    exact ⟨opening, closing, functionDisable_closes host fn takes sound.1 pf on⟩
  · exact onFn_moves fn (fnWrite_runs host fn takes (c := .fnHold f h) rfl) (P := (· = _)) rfl

end Sys2Proof
end

section
-- One proof after another: side by side, the proofs of the whole text need more threads than the memory limit has room for.
set_option Elab.async false
/-!
Partitions and groups: RESIZE_PARTITION, DESTROY_PARTITION (R530 to R532, R543), CREATE_GROUP, REFORM_GROUP and DESTROY_GROUP
(R441, R443, R444).
-/

namespace Sys2Proof.Machine

/-! ### Reckoners that change their holder (R532) -/

/-- From `s` to `t` the descriptors in execution, who holds the granules, and every Reckoner's run stay. -/
structure State.KeepsWork (s t : State) : Prop where
  canonical : t.canonical
  execs : t.execs = s.execs
  granules : t.granules = s.granules
  runs : ∀ d r, t.runAt d r = s.runAt d r

theorem State.KeepsWork.refl {s : State} (c : s.canonical) : State.KeepsWork s s := ⟨c, rfl, rfl, fun _ _ => rfl⟩

theorem State.KeepsWork.trans {s t u : State} (h : State.KeepsWork s t) (k : State.KeepsWork t u) : State.KeepsWork s u :=
  ⟨k.canonical, k.execs.trans h.execs, k.granules.trans h.granules, fun d r => (k.runs d r).trans (h.runs d r)⟩

theorem Within.keepsWork {W : Nat} {s t : State} (w : Within W s t) (c : s.canonical)
    (areas : ∀ a ∈ [Area.descriptors, .holdings, .reckoners], W.testBit a.bit = false := by decide) : State.KeepsWork s t where
  canonical := w.canonical c
  execs := w.areas .descriptors (areas _ (by simp)) c
  granules := And.right (w.areas .holdings (areas _ (by simp)) c)
  runs d r := by
    have same : (t.die d).recks = (s.die d).recks := State.die_congr (w.areas .reckoners (areas _ (by simp)) c) d
    simp only [State.runAt, State.reck, same]

/-- A Reckoner without a run that changes its holder leaves all that is in execution. -/
theorem State.moveReckoner_idle {s : State} (c : s.canonical) {k : Nat} (f : Nat) (idle : s.runAt (k / 5) (k % 5) = none) :
    State.KeepsWork s (s.moveReckoner k f) ∧ (s.moveReckoner k f).rkOwner = s.rkOwner.set k f := by
  unfold State.moveReckoner
  extract_lets d r stopped owned formats
  have same : stopped = s := by
    simp only [stopped, d, r, State.failRun, idle]
  have formatted : Within 14 owned formats := Within.foldl (fun t j h => State.setReg_any.step (by decide) h) (Within.refl _ _)
  have moved : State.KeepsWork s owned := by
    obtain ⟨canonical, execs, granules, runs⟩ : State.KeepsWork s stopped := by
      rw [same]
      exact .refl c
    exact ⟨canonical, execs, granules, runs⟩
  have work : State.KeepsWork s formats := moved.trans (formatted.keepsWork moved.canonical)
  have owner : formats.rkOwner = s.rkOwner.set k f :=
    (And.left (formatted.areas .holdings (by decide) moved.canonical)).trans (congrArg (·.rkOwner.set k f) same)
  refine ⟨work.trans ⟨work.canonical, rfl, rfl, fun e j => ?_⟩, owner⟩
  rcases formats.reck_onReck_or d r (fun x => { x with store := [], seqs := List.replicate 16 {} }) e j with same | emptied
  · rw [State.runAt, same, State.runAt]
  · rw [State.runAt, emptied, State.runAt]

/-- Reckoners that change their holder, one after the other. -/
def State.moveReckoners (s : State) (l : List Nat) (f : Nat) : State := l.foldl (fun s k => s.moveReckoner k f) s

theorem State.moveReckoners_idle {l : List Nat} {s : State} (c : s.canonical) (f : Nat)
    (idle : ∀ k ∈ l, s.runAt (k / 5) (k % 5) = none) :
    State.KeepsWork s (s.moveReckoners l f) ∧ (s.moveReckoners l f).rkOwner = l.foldl (fun o k => o.set k f) s.rkOwner := by
  induction l generalizing s with
  | nil => exact ⟨.refl c, rfl⟩
  | cons k l ih =>
    obtain ⟨work, owner⟩ := State.moveReckoner_idle c f (idle k List.mem_cons_self)
    obtain ⟨rest, owners⟩ := ih work.canonical fun j hj => (work.runs _ _).trans (idle j (List.mem_cons_of_mem k hj))
    exact ⟨work.trans rest, owners.trans (by rw [owner, List.foldl_cons])⟩

/-- An entry set among others reads back. -/
theorem getElem?_foldl_set {α : Type} {l : List Nat} {o : List α} {k : Nat} (v : α) (member : k ∈ l) (low : k < o.length) :
    (l.foldl (fun o k => o.set k v) o)[k]? = some v := by
  refine foldl_reaches (I := fun o => k < o.length) (P := fun o => o[k]? = some v) member ?_ ?_ ?_ low
  · intro o j length
    rwa [List.length_set]
  · intro o length
    exact List.getElem?_set_self length
  · intro o j length found
    rw [List.getElem?_set]
    split
    · rw [if_pos (by omega)]
    · exact found

/-- No entry is `p` once all those that were have another value. -/
theorem notMem_foldl_set {l o : List Nat} {p v : Nat} (other : v ≠ p) (all : ∀ k, o[k]? = some p → k ∈ l) :
    p ∉ l.foldl (fun o k => o.set k v) o := by
  induction l generalizing o with
  | nil =>
    intro found
    obtain ⟨k, low, at_⟩ := List.mem_iff_getElem.mp found
    exact List.not_mem_nil (all k (List.getElem?_eq_some_iff.mpr ⟨low, at_⟩))
  | cons j l ih =>
    refine ih fun k found => ?_
    rw [List.getElem?_set] at found
    split at found
    · split at found
      · exact absurd (Option.some.inj found) other
      · exact nomatch found
    · exact (List.mem_cons.mp (all k found)).resolve_left fun same => ‹¬ _› same.symm

/-! ### Holdings (R528 to R532) -/

/-- What follows, in a holding put in force, on the Reckoners that move: granules, translations, counts and rate caps. -/
def State.grant (s : State) (f : Nat) (h : Holding) (lost : Bool) : State :=
  let s := { s with granules := h.granules.foldl (fun m g => FMap.set m g f) (s.granules.filter fun g => g.2 != f) }
  let s := if lost then s.dieList.foldl (fun s d => s.dropTranslations d (· == f)) s else s
  let s := s.onFn f h.grantTo
  s.dieList.foldl (fun s d => s.setReg ⟨d, .rateCtl, 0⟩ (0x140 + 4 * f) h.cap) s

theorem State.setHolding_eq (s : State) (f : Nat) (h : Holding) : s.setHolding f h =
    (h.recks.foldl (fun t k => if (s.holding f).recks.contains k then t else t.moveReckoner k f)
      ((s.holding f).recks.foldl (fun t k => if h.recks.contains k then t else t.moveReckoner k 0) s)).grant f h
        ((s.holding f).granules.any fun g => !h.granules.contains g) := by rfl

/-- A function that holds no Reckoner takes those of its new holding. -/
theorem State.setHolding_take {s : State} {f : Nat} {h : Holding} (none : (s.holding f).recks = []) :
    s.setHolding f h =
      (s.moveReckoners h.recks f).grant f h ((s.holding f).granules.any fun g => !h.granules.contains g) := by
  rw [State.setHolding_eq, none]
  simp only [List.foldl_nil, List.contains_nil, Bool.false_eq_true, if_false]
  rfl

/-- A function whose new holding has no Reckoner gives up those that it holds. -/
theorem State.setHolding_give {s : State} {f : Nat} {h : Holding} (none : h.recks = []) :
    s.setHolding f h =
      (s.moveReckoners (s.holding f).recks 0).grant f h ((s.holding f).granules.any fun g => !h.granules.contains g) := by
  rw [State.setHolding_eq, none]
  simp only [List.foldl_nil, List.contains_nil, Bool.false_eq_true, if_false]
  rfl

/-- A grant leaves the descriptors and who holds the Reckoners; it gives the granules. -/
theorem State.grant_keeps {s : State} (c : s.canonical) (f : Nat) (h : Holding) (lost : Bool) :
    (s.grant f h lost).execs = s.execs ∧ (s.grant f h lost).rkOwner = s.rkOwner ∧
      (s.grant f h lost).granules = h.granules.foldl (fun m g => FMap.set m g f) (s.granules.filter fun g => g.2 != f) := by
  unfold State.grant
  extract_lets given dropped counted
  have drops : Within 268435456 given dropped := by
    simp only [dropped]
    split
    · exact Within.foldl (fun t d h => State.dropTranslations_within.step (by decide) h) (Within.refl _ _)
    · exact Within.refl _ _
  have caps : Within 14 counted (counted.dieList.foldl (fun s d => s.setReg ⟨d, .rateCtl, 0⟩ (0x140 + 4 * f) h.cap) counted) :=
    Within.foldl (fun t d h => State.setReg_any.step (by decide) h) (Within.refl _ _)
  have cd : dropped.canonical := drops.canonical c
  obtain ⟨ownerD, granulesD⟩ := drops.areas .holdings (by decide) c
  obtain ⟨ownerC, granulesC⟩ := caps.areas .holdings (by decide) cd
  exact ⟨(caps.areas .descriptors (by decide) cd).trans (drops.areas .descriptors (by decide) c), ownerC.trans ownerD,
    granulesC.trans granulesD⟩

/-- A granule given to a function among others is the function's. -/
theorem FMap.get?_foldl_set {α : Type} {l : List Nat} {m : List (Nat × α)} {k : Nat} (v : α) (member : k ∈ l) :
    FMap.get? (l.foldl (fun m g => FMap.set m g v) m) k = some v := by
  refine foldl_reaches (I := fun _ => True) (P := fun m => FMap.get? m k = some v) member (fun _ _ _ => trivial)
    (fun m _ => FMap.get?_set_self m k v) (fun m j _ found => ?_) trivial
  by_cases same : k = j
  · rw [same]
    exact FMap.get?_set_self m j v
  · rw [FMap.get?_set_ne _ _ same, found]

/-! ### RESIZE_PARTITION (R530 to R532) -/

/-- A function that holds nothing may take a holding: of Reckoners and granules that no partition holds, on which nothing
runs, and of counts that leave the PF what it uses. -/
structure State.MayTake (s : State) (p : Nat) (h : Holding) : Prop where
  empty : s.holding p = { recks := [], granules := [], queues := 0, qps := 0, handles := 0, cap := (s.fn p).cap }
  recks : ∀ k ∈ h.recks, s.rkOwner[k]? = some 0 ∧ (s.reck (k / 5) (k % 5)).retired = false ∧
    s.runAt (k / 5) (k % 5) = none
  granules : ∀ g ∈ h.granules, FMap.get? s.granules g = none
  keeps : s.pfKeeps p h = true
  queues : s.queueCount p = 0
  qps : s.qpCount p = 0
  handles : s.handleCount p = 0

/-- The command's own beginning leaves what a function may take. -/
theorem State.MayTake.beginRead {s : State} {p n : Nat} {h : Holding} {x : Queue} (may : s.MayTake p h) (u : Slot)
    (queue : s.queue 0 0 = some x) : (s.beginRead 0 x u n).MayTake p h where
  empty := may.empty
  recks := may.recks
  granules := may.granules
  keeps := by
    have count : (s.beginRead 0 x u n).queueCount 0 = s.queueCount 0 := State.queueCount_beginSlot u queue 0
    have keeps := may.keeps
    rw [State.pfKeeps] at keeps ⊢
    rwa [count]
  queues := (State.queueCount_beginSlot u queue p).trans may.queues
  qps := may.qps
  handles := may.handles

/-- A record whose length is the one that its header names is whole. -/
theorem fitRecord_whole {t : List Byte} (whole : t.length = le t 0x14 4) : fitRecord t = t := by
  simp [fitRecord, ← whole, zeros]

/-- RESIZE_PARTITION puts a whole and good record in force for a partition that holds nothing. -/
theorem State.resizePartition_takes {s : State} {f p : Nat} (i : Word) {d t : List Byte} (fn : p = bits (arg2 d) 4 0)
    (whole : t.length = le t 0x14 4) (good : recordOk s.dies.length t = true) (least : 1 ≤ p) (most : p ≤ 16)
    (share : bits (le t 4 4) 17 16 = 1 → p ≤ bits (le t 4 4) 28 24)
    (may : (s.emit (.hostRead f (BitVec.ofNat 64 (arg0 d)) t.length)).MayTake p (holdingOf s.dies.length p t)) :
    s.resizePartition f i d t = ((s.emit (.hostRead f (BitVec.ofNat 64 (arg0 d)) t.length)).setHolding p
      (holdingOf s.dies.length p t)).adminEnd f i stSuccess := by
  have inRange : ¬ (p = 0 ∨ 16 < p ∨ bits (le t 4 4) 17 16 = 1 ∧ bits (le t 4 4) 28 24 < p) := by
    rintro (zero | high | ⟨equal, less⟩)
    · omega
    · omega
    · have := share equal
      omega
  unfold State.resizePartition
  rw [fitRecord_whole whole, ← fn]
  dsimp only
  generalize s.emit (.hostRead f (BitVec.ofNat 64 (arg0 d)) t.length) = u at may ⊢
  generalize holdingOf s.dies.length p t = h at may ⊢
  obtain ⟨empty, recks, granules, keeps, queues, qps, handles⟩ := may
  have freeRecks : (h.recks.any fun k => ((u.rkOwner[k]?).getD 0 != 0 && (u.rkOwner[k]?).getD 0 != p) ||
      (!([] : List Nat).contains k && (u.reck (k / 5) (k % 5)).retired)) = false := by
    rw [List.any_eq_false]
    intro k hk
    obtain ⟨owner, usable, _⟩ := recks k hk
    simp [owner, usable]
  have freeGranules : (h.granules.any fun g => (FMap.get? u.granules g).getD 0 != 0 && (FMap.get? u.granules g).getD 0 != p) =
      false := by
    rw [List.any_eq_false]
    intro g hg
    simp [granules g hg]
  rw [good, empty]
  rw [freeRecks, freeGranules, keeps, queues, qps, handles]
  simp only [Bool.not_true, Bool.false_eq_true, if_false, if_neg inRange, Bool.or_self, List.any_nil, Nat.not_lt_zero,
    decide_false, Bool.false_and]

theorem exec_resizePartition (s : State) (f : Nat) (t : List Byte) : exec (.resizePartition f t) s =
    atFn s f (s.beginAdmin f (fun d => dOpcode d == 0x30) fun s i d => s.pfOnly f i (s.resizePartition f i d t)) := by rfl

/-- What a partition that held nothing has once it has taken a holding. -/
theorem State.MayTake.takes {s : State} {p : Nat} {h : Holding} (may : s.MayTake p h) (c : s.canonical)
    (fn : p < s.fns.length) : (s.setHolding p h).execs = s.execs ∧ (s.setHolding p h).fn p = h.grantTo (s.fn p) ∧
      (∀ k ∈ h.recks, (s.setHolding p h).rkOwner[k]? = some p) ∧
      ∀ g ∈ h.granules, FMap.get? (s.setHolding p h).granules g = some p := by
  obtain ⟨work, owners⟩ := State.moveReckoners_idle c p (l := h.recks) fun k hk => (may.recks k hk).2.2
  obtain ⟨execs, owner, granules⟩ :=
    State.grant_keeps work.canonical p h ((s.holding p).granules.any fun g => !h.granules.contains g)
  have fns : (s.setHolding p h).fn p = h.grantTo (s.fn p) := by
    rw [State.fn_congr (State.setHolding_keepsFns c p h).fns, State.fn_onFn _ _ _ _ fn, if_pos rfl]
  refine ⟨?_, fns, fun k hk => ?_, fun g hg => ?_⟩
  · rw [State.setHolding_take (by rw [may.empty]), execs, work.execs]
  · rw [State.setHolding_take (by rw [may.empty]), owner, owners]
    have held := (may.recks k hk).1
    exact getElem?_foldl_set p hk (List.getElem?_eq_some_iff.mp held).1
  · rw [State.setHolding_take (by rw [may.empty]), granules]
    exact FMap.get?_foldl_set p hg

/-- RESIZE_PARTITION puts its record in force (R530 to R532). -/
theorem resizePartition_takes {s : State} {x : Queue} {u : Slot} {p : Nat} {t : List Byte} (sound : s.sound)
    (begins : s.begins 0 0 x u) (opcode : dOpcode u.bytes = 0x30) (fn : p = bits (arg2 u.bytes) 4 0)
    (whole : t.length = le t 0x14 4) (good : recordOk s.dies.length t = true) (least : 1 ≤ p) (most : p ≤ 16)
    (share : bits (le t 4 4) 17 16 = 1 → p ≤ bits (le t 4 4) 28 24) (may : s.MayTake p (holdingOf s.dies.length p t)) :
    Completes (.resizePartition 0 t) s fun v => v.ended 0 0 u.index stSuccess 0 0 ∧
      v.fn p = (holdingOf s.dies.length p t).grantTo (s.fn p) ∧
      (∀ k ∈ (holdingOf s.dies.length p t).recks, v.rkOwner[k]? = some p) ∧
      ∀ g ∈ (holdingOf s.dies.length p t).granules, FMap.get? v.granules g = some p := by
  have fns := State.length_fns sound
  have length : p < (s.beginRead 0 x u t.length).fns.length := by
    change p < s.fns.length
    omega
  have canonical := (State.beginRead_within (s := s) (f := 0) (n := t.length) (x := x) (u := u)).canonical sound.1
  have mayRead := may.beginRead (n := t.length) u (State.nextSlot_queue begins.1)
  obtain ⟨execs, own, owners, granules⟩ := mayRead.takes canonical length
  have acts := State.resizePartition_takes (s := s.beginSlot 0 0 x u) (f := 0) u.index fn whole good least most share mayRead
  refine begins.completes_within (by omega) (exec_resizePartition s 0 t) (beq_iff_eq.mpr opcode)
    (by rw [State.pfOnly, if_pos rfl]; exact acts) execs fun v w => ?_
  have held : ((s.beginRead 0 x u t.length).setHolding p (holdingOf s.dies.length p t)).canonical :=
    State.setHolding_within.canonical canonical
  obtain ⟨sameOwner, sameGranules⟩ := w.areas .holdings (by decide) held
  refine ⟨(State.fn_congr (w.areas .functions (by decide) held) p).trans own, fun k hk => ?_, fun g hg => ?_⟩
  · rw [sameOwner]
    exact owners k hk
  · rw [sameGranules]
    exact granules g hg

/-! ### DESTROY_PARTITION (R543) -/

/-- The PF's admin command in execution leaves whether another function is quiesced. -/
theorem State.quiesced_beginSlot (s : State) (x : Queue) (u : Slot) {p : Nat} (other : p ≠ 0) :
    (s.beginSlot 0 0 x u).quiesced p = s.quiesced p := by
  have pairs (n : Nat) (y : Qp) : (y.fn == p && (!y.ops.isEmpty || (s.beginSlot 0 0 x u).qpOutstanding n y)) =
      (y.fn == p && (!y.ops.isEmpty || s.qpOutstanding n y)) := by
    cases mine : y.fn == p with
    | false => rfl
    | true =>
      have apart : (0 == y.fn) = false := by
        rw [beq_iff_eq.mp mine]
        exact beq_false_of_ne other.symm
      simp only [State.qpOutstanding, State.beginSlot, State.count_execs, State.setQueue_execs, List.any_append,
        List.any_cons, List.any_nil, apart, Bool.false_and, Bool.or_false]
  unfold State.quiesced
  rw [State.fnBusy_beginSlot]
  simp only [pairs]
  rfl

/-- An admin queue whose next command may begin has none in execution. -/
theorem State.nextSlot_alone {s : State} {f : Nat} {x : Queue} {u : Slot} (next : s.nextSlot f 0 = some (x, u)) :
    s.execs.any (fun e => e.fn == f && e.q == 0) = false := by
  unfold State.nextSlot at next
  split at next
  · cases next
  · split at next
    · cases next
    · split at next
      · next may =>
        simp only [Bool.and_eq_true, bne_self_eq_false, Bool.false_or, Bool.not_eq_true'] at may
        exact may.2
      · cases next

/-- The one command of the PF's admin queue in execution. -/
theorem State.begins.only {s : State} {x : Queue} {u : Slot} (begins : s.begins 0 0 x u) {g : Exec → Bool}
    (admin : ∀ e, g e = true → (e.fn == 0 && e.q == 0) = true)
    (own : g { fn := 0, q := 0, index := u.index, desc := u.bytes } = true) :
    (s.beginSlot 0 0 x u).execs.find? g = some { fn := 0, q := 0, index := u.index, desc := u.bytes } := by
  have alone := State.nextSlot_alone begins.1
  rw [List.any_eq_false] at alone
  have none : s.execs.find? g = none := List.find?_eq_none.mpr fun e he named => alone e he (admin e named)
  simp only [State.beginSlot, State.count_execs, State.setQueue_execs]
  rw [List.find?_append, none, Option.none_or, List.find?_cons_of_pos own]

theorem State.length_rkOwner {s : State} (sound : s.sound) : s.rkOwner.length = s.dies.length * 5 := by
  obtain ⟨_, units⟩ := sound
  simp only [State.units, partUnits, Prod.mk.injEq] at units
  obtain ⟨dies, _, owners, _⟩ := units
  have length := congrArg List.length dies
  rw [List.length_map, List.length_replicate] at length
  rw [owners, length, Nat.mul_comm]

/-- The command that a destruction ends. -/
def destroys (p : Nat) (e : Exec) : Bool := e.fn == 0 && e.q == 0 && dOpcode e.desc == 0x31 && bits (arg2 e.desc) 4 0 == p

/-- A destruction of a CLOSED function's partition, with its command in execution and nothing on its Reckoners. -/
theorem State.destroyed_gives {s : State} {p : Nat} {e : Exec} (sound : s.sound) (fn : p < s.fns.length) (other : p ≠ 0)
    (idle : ∀ k ∈ (s.holding p).recks, s.runAt (k / 5) (k % 5) = none) (command : s.execs.find? (destroys p) = some e) :
    ∃ t : State, s.destroyed p = t.adminEnd 0 e.index stSuccess ∧ t.canonical ∧ t.execs = s.execs ∧
      t.fn p = { Holding.none.grantTo (s.fn p) with destroying := false } ∧ p ∉ t.rkOwner ∧ ∀ g ∈ t.granules, g.2 ≠ p := by
  have own := State.destroyed_fn sound.1 fn p
  revert own
  unfold State.destroyed
  extract_lets groups held empty
  intro own
  have wg : Within 69055021056 s groups := Within.foldl (fun u d hu =>
    Within.foldl (fun v g hv => State.removeGroup_within.step (by decide) hv) (State.onXlate_within.step (by decide) hu))
    (Within.refl _ s)
  have work : State.KeepsWork s groups := wg.keepsWork sound.1
  have soundG : groups.sound := wg.sound sound
  obtain ⟨ownerG, _⟩ := wg.areas .holdings (by decide) sound.1
  have recks : (groups.holding p).recks = (s.holding p).recks := by
    simp only [State.holding, State.reckList, wg.length_dies sound.1, ownerG]
  obtain ⟨moved, owners⟩ := State.moveReckoners_idle work.canonical 0 (l := (groups.holding p).recks) fun k hk =>
    (work.runs _ _).trans (idle k (recks ▸ hk))
  obtain ⟨execs, owner, granules⟩ := State.grant_keeps moved.canonical p Holding.none
    ((groups.holding p).granules.any fun g => !Holding.none.granules.contains g)
  have give : held = (groups.moveReckoners (groups.holding p).recks 0).grant p Holding.none
      ((groups.holding p).granules.any fun g => !Holding.none.granules.contains g) := State.setHolding_give rfl
  have execsE : empty.execs = s.execs := by
    change held.execs = s.execs
    rw [give, execs, moved.execs, work.execs]
  have canonical : empty.canonical := by
    change held.canonical
    exact State.setHolding_within.canonical work.canonical
  have found : empty.execs.find? (fun e => e.fn == 0 && e.q == 0 && dOpcode e.desc == 0x31 && bits (arg2 e.desc) 4 0 == p) =
      some e := by
    rw [execsE]
    exact command
  rw [found] at own ⊢
  dsimp only at own ⊢
  rw [if_pos rfl, State.fn_congr (State.adminEnd_within.areas .functions (by decide) canonical)] at own
  refine ⟨empty, rfl, canonical, execsE, own, ?_, ?_⟩
  · change p ∉ held.rkOwner
    rw [give, owner, owners]
    refine notMem_foldl_set other.symm fun k at_ => ?_
    have low := (List.getElem?_eq_some_iff.mp at_).1
    rw [State.length_rkOwner soundG] at low
    exact List.mem_filter.mpr ⟨List.mem_range.mpr low, beq_iff_eq.mpr at_⟩
  · change ∀ g ∈ held.granules, g.2 ≠ p
    rw [give, granules]
    intro g hg
    exact bne_iff_ne.mp (List.mem_filter.mp hg).2

theorem exec_destroyPartition (s : State) (f : Nat) : exec (.destroyPartition f) s =
    atFn s f (s.beginAdmin f (fun d => dOpcode d == 0x31) fun s i d => s.pfOnly f i (s.destroyPartition f i d)) := by rfl

/-- DESTROY_PARTITION of a quiesced and CLOSED function begins the destruction at once. -/
theorem State.destroyPartition_closed {s : State} {f p : Nat} (i : Word) {d : List Byte} (fn : p = bits (arg2 d) 4 0)
    (least : 1 ≤ p) (most : p ≤ 16) (quiet : s.quiesced p = true) (closed : (s.fn p).phase = .closed)
    (queues : (s.fn p).queues ≠ 0) : s.destroyPartition f i d =
      (s.onFn p fun x => { x with enable := false, pendOpen := false, destroying := true }).destroyed p := by
  have held : ((s.holding p).queues == 0) = false := beq_false_of_ne queues
  unfold State.destroyPartition
  rw [← fn]
  dsimp only
  rw [if_neg (by omega), quiet, if_neg (by decide), held, closed]
  simp only [Bool.and_false, Bool.false_and, Bool.false_eq_true, if_false]

/-- DESTROY_PARTITION takes everything from a quiesced and CLOSED function (R543). -/
theorem destroyPartition_takes {s : State} {x : Queue} {u : Slot} {p : Nat} (sound : s.sound)
    (begins : s.begins 0 0 x u) (opcode : dOpcode u.bytes = 0x31) (fn : p = bits (arg2 u.bytes) 4 0) (least : 1 ≤ p)
    (most : p ≤ 16) (quiet : s.quiesced p = true) (closed : (s.fn p).phase = .closed) (queues : (s.fn p).queues ≠ 0)
    (idle : ∀ k ∈ (s.holding p).recks, s.runAt (k / 5) (k % 5) = none) :
    Completes (.destroyPartition 0) s fun t => t.ended 0 0 u.index stSuccess 0 0 ∧
      (t.fn p).queues = 0 ∧ (t.fn p).qps = 0 ∧ (t.fn p).handles = 0 ∧ p ∉ t.rkOwner ∧ ∀ g ∈ t.granules, g.2 ≠ p := by
  have fns := State.length_fns sound
  have wb := State.beginSlot_within (s := s) (f := 0) (q := 0) (x := x) (t := u)
  have wv : Within 680 s ((s.beginSlot 0 0 x u).onFn p fun x =>
      { x with enable := false, pendOpen := false, destroying := true }) := Within.onFn (by decide) (wb.mono (by decide))
  have length : p < ((s.beginSlot 0 0 x u).onFn p fun x =>
      { x with enable := false, pendOpen := false, destroying := true }).fns.length := by
    rw [State.length_fns (wv.sound sound)]
    omega
  have only : (s.beginSlot 0 0 x u).execs.find? (destroys p) =
      some { fn := 0, q := 0, index := u.index, desc := u.bytes } :=
    begins.only (fun e named => by simp only [destroys, Bool.and_eq_true] at named ⊢; exact named.1.1)
      (by simp [destroys, opcode, fn])
  obtain ⟨t, gives, canonical, execs, own, owners, granules⟩ :=
    State.destroyed_gives (wv.sound sound) length (by omega) idle only
  have acts := State.destroyPartition_closed (s := s.beginSlot 0 0 x u) (f := 0) u.index fn least most
    ((State.quiesced_beginSlot s x u (by omega)).trans quiet) closed queues
  refine begins.completes_within (t := t) (by omega) (exec_destroyPartition s 0) (beq_iff_eq.mpr opcode)
    (by rw [State.pfOnly, if_pos rfl, acts, gives]) execs fun v w => ?_
  obtain ⟨sameOwner, sameGranules⟩ := w.areas .holdings (by decide) canonical
  rw [State.fn_congr (w.areas .functions (by decide) canonical) p, own, sameOwner, sameGranules]
  exact ⟨rfl, rfl, rfl, owners, granules⟩

end Sys2Proof.Machine
end

section
-- One proof after another: side by side, the proofs of the whole text need more threads than the memory limit has room for.
set_option Elab.async false
/-!
Groups: CREATE_GROUP, REFORM_GROUP and DESTROY_GROUP (R441, R443, R444).
-/

namespace Sys2Proof.Machine

/-! ### Maps searched by their values -/

theorem FMap.find?_set_of_none {α : Type} {m : List (Nat × α)} {p : Nat × α → Bool} {k : Nat} {v : α}
    (none : m.find? p = none) (holds : p (k, v) = true) : (FMap.set m k v).find? p = some (k, v) := by
  induction m with
  | nil => simp [FMap.set, holds]
  | cons c m ih =>
    obtain ⟨c, w⟩ := c
    rw [List.find?_cons] at none
    split at none
    · exact nomatch none
    · next fails =>
      simp only [FMap.set]
      split
      · simp [holds]
      · split
        · simp [holds]
        · rw [List.find?_cons, fails]
          exact ih none

theorem FMap.wfFrom_le_of_mem {α : Type} {b : Nat} {m : List (Nat × α)} (wf : FMap.wfFrom b m = true) {x : Nat × α}
    (member : x ∈ m) : b ≤ x.1 := by
  induction m generalizing b with
  | nil => exact nomatch member
  | cons c m ih =>
    simp only [FMap.wfFrom, Bool.and_eq_true, decide_eq_true_eq] at wf
    rcases List.mem_cons.mp member with rfl | member
    · exact wf.1
    · have := ih wf.2 member
      omega

/-- A value put at the first entry that a predicate finds is what it finds then. -/
theorem FMap.find?_set_of_some {α : Type} {b : Nat} {m : List (Nat × α)} {p : Nat × α → Bool} {k : Nat} {v w : α}
    (wf : FMap.wfFrom b m = true) (found : m.find? p = some (k, w)) (holds : p (k, v) = true) :
    (FMap.set m k v).find? p = some (k, v) := by
  induction m generalizing b with
  | nil => exact nomatch found
  | cons c m ih =>
    obtain ⟨c, y⟩ := c
    simp only [FMap.wfFrom, Bool.and_eq_true, decide_eq_true_eq] at wf
    rw [List.find?_cons] at found
    split at found
    · cases found
      simp [FMap.set, holds]
    · next fails =>
      have above : c + 1 ≤ k := FMap.wfFrom_le_of_mem wf.2 (List.mem_of_find?_eq_some found)
      rw [FMap.set, if_neg (by omega), if_neg (by omega), List.find?_cons, fails]
      exact ih wf.2 found

theorem FMap.get?_of_mem {α : Type} {b : Nat} {m : List (Nat × α)} {k : Nat} {v : α} (wf : FMap.wfFrom b m = true)
    (member : (k, v) ∈ m) : FMap.get? m k = some v := by
  induction m generalizing b with
  | nil => exact nomatch member
  | cons c m ih =>
    obtain ⟨c, w⟩ := c
    simp only [FMap.wfFrom, Bool.and_eq_true, decide_eq_true_eq] at wf
    rcases List.mem_cons.mp member with same | member
    · cases same
      simp [FMap.get?]
    · have above : c + 1 ≤ k := FMap.wfFrom_le_of_mem wf.2 member
      rw [FMap.get?, if_neg (by omega), if_neg (by omega)]
      exact ih wf.2 member

theorem FMap.mem_keys_of_get? {α : Type} {m : List (Nat × α)} {k : Nat} (present : (FMap.get? m k).isSome = true) :
    k ∈ m.map Prod.fst := by
  induction m with
  | nil => exact nomatch present
  | cons c m ih =>
    obtain ⟨c, w⟩ := c
    rw [FMap.get?] at present
    split at present
    · next same => exact List.mem_cons.mpr (.inl same.symm)
    · split at present
      · exact nomatch present
      · exact List.mem_cons.mpr (.inr (ih present))

/-- A map with fewer than `n` entries has a free key below `n`. -/
theorem FMap.lowest_free {α : Type} {m : List (Nat × α)} {n : Nat} (room : m.length < n) :
    ∃ k, lowestBelow n (fun k => (FMap.get? m k).isNone) = some k := by
  cases found : lowestBelow n (fun k => (FMap.get? m k).isNone) with
  | some k => exact ⟨k, rfl⟩
  | none =>
    have taken (k : Nat) (hk : k ∈ List.range n) : k ∈ m.map Prod.fst := by
      have absent := List.find?_eq_none.mp found k hk
      rw [Option.isNone_iff_eq_none] at absent
      exact FMap.mem_keys_of_get? (Option.isSome_iff_ne_none.mpr absent)
    have := (List.subperm_of_subset List.nodup_range taken).length_le
    rw [List.length_range, List.length_map] at this
    omega

/-! ### Groups of a die (R441, R444) -/

theorem State.die_onDie_ne (s : State) {d e : Nat} (f : Die → Die) (other : e ≠ d) : (s.onDie d f).die e = s.die e := by
  rw [State.die, State.onDie, getElem?_modifyAt, if_neg other, State.die]

/-- The entry that an installation takes: that of the same group, or else the lowest free one (R441). -/
def State.entryFor (s : State) (d id : Nat) : Option Nat :=
  match s.groupOf d id with
  | some (e, _) => some e
  | none => lowestBelow 4096 fun n => (FMap.get? (s.die d).groups n).isNone

theorem State.installGroup_groups {s : State} {d k : Nat} {g : Group} (entry : s.entryFor d g.id = some k)
    (die : d < s.dies.length) : ((s.installGroup d g).die d).groups = FMap.set (s.die d).groups k g := by
  have eq : s.installGroup d g = match s.entryFor d g.id with
      | none => s
      | some e => (s.onDie d fun x => { x with groups := FMap.set x.groups e g }).onRouter d fun r =>
          { r with repl := FMap.set r.repl g.id g.replEntry } := by rfl
  rw [eq, entry]
  dsimp only [State.onRouter]
  rw [State.die_onDie _ _ _ _ (by rwa [State.onDie_length]), if_pos rfl, State.die_onDie _ _ _ _ die, if_pos rfl]

theorem State.installGroup_groups_ne (s : State) {d e : Nat} (g : Group) (other : e ≠ d) :
    ((s.installGroup d g).die e).groups = (s.die e).groups := by
  unfold State.installGroup
  dsimp only
  split
  · rfl
  · rw [State.onRouter, State.die_onDie_ne _ _ other, State.die_onDie_ne _ _ other]

theorem State.removeGroup_groups {s : State} {d : Nat} (id : Nat) (die : d < s.dies.length) :
    ((s.removeGroup d id).die d).groups = (s.die d).groups.filter fun e => e.2.id != id := by
  rw [State.removeGroup, State.onRouter, State.die_onDie _ _ _ _ (by rwa [State.onDie_length]), if_pos rfl,
    State.die_onDie _ _ _ _ die, if_pos rfl]

theorem State.removeGroup_groups_ne (s : State) {d e : Nat} (id : Nat) (other : e ≠ d) :
    ((s.removeGroup d id).die e).groups = (s.die e).groups := by
  rw [State.removeGroup, State.onRouter, State.die_onDie_ne _ _ other, State.die_onDie_ne _ _ other]

theorem State.groupOf_congr {s t : State} {d : Nat} (same : (t.die d).groups = (s.die d).groups) (id : Nat) :
    t.groupOf d id = s.groupOf d id := by
  rw [State.groupOf, same, State.groupOf]

/-- The entry in which a group is installed is the one found by its ID. -/
theorem State.installGroup_found {s : State} {d k : Nat} {g : Group} (die : d < s.dies.length)
    (entry : s.entryFor d g.id = some k) (wf : (s.groupOf d g.id).isSome = true → FMap.wf (s.die d).groups = true) :
    (s.installGroup d g).groupOf d g.id = some (k, g) := by
  rw [State.groupOf, State.installGroup_groups entry die]
  rw [State.entryFor] at entry
  cases held : s.groupOf d g.id with
  | none =>
    rw [State.groupOf] at held
    exact FMap.find?_set_of_none (p := fun e : Nat × Group => e.2.id == g.id) held (beq_self_eq_true g.id)
  | some x =>
    have canonical := wf (by rw [held]; rfl)
    rw [held] at entry
    obtain ⟨i, old⟩ := x
    cases entry
    rw [State.groupOf] at held
    exact FMap.find?_set_of_some (p := fun e : Nat × Group => e.2.id == g.id) canonical held (beq_self_eq_true g.id)

/-- A die that has no group of an ID, with room, installs one. -/
theorem State.installGroup_fresh {s : State} {d : Nat} {g : Group} (die : d < s.dies.length)
    (fresh : s.groupOf d g.id = none) (room : (s.die d).groups.length < 4096) :
    ((s.installGroup d g).groupOf d g.id).map Prod.snd = some g := by
  obtain ⟨k, lowest⟩ := FMap.lowest_free room
  have entry : s.entryFor d g.id = some k := by
    rw [State.entryFor, fresh]
    exact lowest
  rw [State.installGroup_found die entry (by rw [fresh]; exact fun h => nomatch h)]
  rfl

/-- A die that has a group of an ID replaces it. -/
theorem State.installGroup_again {s : State} {d : Nat} {g : Group} {x : Nat × Group} (die : d < s.dies.length)
    (wf : FMap.wf (s.die d).groups = true) (held : s.groupOf d g.id = some x) :
    ((s.installGroup d g).groupOf d g.id).map Prod.snd = some g := by
  have entry : s.entryFor d g.id = some x.1 := by
    rw [State.entryFor, held]
  rw [State.installGroup_found die entry fun _ => wf]
  rfl

/-- A die from which a group was removed has none of its ID. -/
theorem State.groupOf_removeGroup {s : State} {d : Nat} (id : Nat) (die : d < s.dies.length) :
    (s.removeGroup d id).groupOf d id = none := by
  rw [State.groupOf, State.removeGroup_groups id die]
  refine List.find?_eq_none.mpr fun e he => ?_
  have := (List.mem_filter.mp he).2
  simpa using this

/-! ### Group tables (R440) -/

theorem fitTable_whole {t : List Byte} (whole : t.length = le t 0x14 4) : fitTable t = t := by
  simp [fitTable, ← whole, zeros]

theorem groupTableOk_id {t : List Byte} {id : Nat} (good : groupTableOk t id = true) : le t 6 2 = id := by
  simp only [groupTableOk, Bool.and_eq_true, and_assoc] at good
  obtain ⟨_, _, id, _⟩ := good
  exact beq_iff_eq.mp id

/-- The dies that a table names are dies of the part, and named once each. -/
theorem State.namedDies_find? {s : State} {t : List Byte} {n : Nat × Nat} (named : n ∈ s.namedDies t) :
    n.1 < s.dies.length ∧ (s.namedDies t).find? (fun m => m.1 == n.1) = some n := by
  obtain ⟨d, member, at_⟩ := List.mem_filterMap.mp named
  obtain ⟨k, index, rfl⟩ := Option.map_eq_some_iff.mp at_
  refine ⟨List.mem_range.mp member, ?_⟩
  have only (m : Nat × Nat) (hm : m ∈ s.namedDies t) (same : (m.1 == d) = true) : m = (d, k) := by
    obtain ⟨e, _, at_⟩ := List.mem_filterMap.mp hm
    obtain ⟨j, index', rfl⟩ := Option.map_eq_some_iff.mp at_
    obtain rfl : e = d := beq_iff_eq.mp same
    rw [index] at index'
    rw [Option.some.inj index']
  cases found : (s.namedDies t).find? (fun m => m.1 == d) with
  | none => exact absurd (beq_self_eq_true d) (List.find?_eq_none.mp found _ named)
  | some m =>
    have named := List.find?_some found
    exact congrArg some (only m (List.mem_of_find?_eq_some found) named)

theorem State.namedDies_nodup (s : State) (t : List Byte) : (s.namedDies t).Nodup := by
  refine List.Nodup.filterMap (fun d e n hd he => ?_) List.nodup_range
  obtain ⟨_, _, rfl⟩ := Option.map_eq_some_iff.mp hd
  obtain ⟨_, _, same⟩ := Option.map_eq_some_iff.mp he
  exact (congrArg Prod.fst same).symm

/-- States whose dies and endpoints are the same, and with them the groups that they hold and the dies that a table names. -/
structure State.SameGroups (s t : State) : Prop where
  dies : t.dies = s.dies
  endpoint : ∀ d, t.endpoint d = s.endpoint d
  hasEndpoint : ∀ d, t.hasEndpoint d = s.hasEndpoint d

theorem State.SameGroups.holders {s t : State} (h : State.SameGroups s t) (id : Nat) : t.holders id = s.holders id := by
  simp only [State.holders, State.dieList, State.groupOf, State.die, h.dies]

theorem State.SameGroups.namedDies {s t : State} (h : State.SameGroups s t) (b : List Byte) :
    t.namedDies b = s.namedDies b := by
  simp only [State.namedDies, State.dieList, State.memberIn, h.dies, h.endpoint, h.hasEndpoint]

theorem State.SameGroups.groupOf {s t : State} (h : State.SameGroups s t) (d id : Nat) : t.groupOf d id = s.groupOf d id := by
  simp only [State.groupOf, State.die, h.dies]

theorem State.SameGroups.groupsFull {s t : State} (h : State.SameGroups s t) (b : List Byte) (id : Nat) :
    t.groupsFull b id = s.groupsFull b id := by
  have die (d : Nat) : t.die d = s.die d := by rw [State.die, h.dies, State.die]
  simp only [State.groupsFull, h.namedDies, h.groupOf, die]

/-- The command's beginning, and its read of the table, leave the groups. -/
theorem State.sameGroups_readTable {s : State} (c : s.canonical) (x : Queue) (u : Slot) (d t : List Byte) :
    State.SameGroups s ((s.beginSlot 0 0 x u).readTable 0 d t) := by
  have same : State.SameGroups s (s.beginSlot 0 0 x u) :=
    ⟨rfl, State.endpoint_beginSlot c 0 0 x u, State.hasEndpoint_beginSlot c 0 0 x u⟩
  unfold State.readTable
  dsimp only
  split
  · exact ⟨same.dies, same.endpoint, same.hasEndpoint⟩
  · exact ⟨same.dies, same.endpoint, same.hasEndpoint⟩

theorem State.readTable_execs (s : State) (f : Nat) (d t : List Byte) : (s.readTable f d t).execs = s.execs := by
  unfold State.readTable
  dsimp only
  split <;> rfl

/-! ### CREATE_GROUP (R441) -/

/-- A table's group installed on every die that the table names. -/
def State.installTable (s : State) (t : List Byte) : State :=
  (s.namedDies t).foldl (fun s n => s.installGroup n.1 (groupOfTable t n.2)) s

theorem State.createGroup_installs {s : State} {f : Nat} (i : Word) {d t : List Byte}
    (whole : t.length = le t 0x14 4) (good : groupTableOk t (bits (arg1 d) 15 0) = true)
    (fresh : (s.readTable f d t).holders (bits (arg1 d) 15 0) = [])
    (room : (s.readTable f d t).groupsFull t (bits (arg1 d) 15 0) = false) :
    s.createGroup f i d t = ((s.readTable f d t).installTable t).adminEnd f i stSuccess (le t 8 2) := by
  unfold State.createGroup
  rw [fitTable_whole whole]
  dsimp only
  rw [good, fresh, room]
  simp only [Bool.not_true, List.isEmpty_nil, Bool.false_eq_true, if_false]
  rfl

/-- A group installed leaves the descriptors, the number of dies and the groups of the other dies. -/
theorem State.installGroup_keeps {s : State} (c : s.canonical) (d : Nat) (g : Group) :
    (s.installGroup d g).canonical ∧ (s.installGroup d g).execs = s.execs ∧
      (s.installGroup d g).dies.length = s.dies.length :=
  have w := State.installGroup_within (s := s) (d := d) (g := g)
  ⟨w.canonical c, w.areas .descriptors (by decide) c, w.length_dies c⟩

/-- The dies that a table names hold its group once it is installed, where none held one of its ID and each has room. -/
theorem State.installTable_holds {s : State} {t : List Byte} {id : Nat} (c : s.canonical) (good : groupTableOk t id = true)
    (fresh : s.holders id = []) (room : s.groupsFull t id = false) :
    (s.installTable t).canonical ∧ (s.installTable t).execs = s.execs ∧
      ∀ n ∈ s.namedDies t, ((s.installTable t).groupOf n.1 id).map Prod.snd = some (groupOfTable t n.2) := by
  have keeps := List.foldlRecOn (motive := fun u : State => u.canonical ∧ u.execs = s.execs) (s.namedDies t)
    (fun s n => s.installGroup n.1 (groupOfTable t n.2)) ⟨c, rfl⟩ fun u ⟨cu, hu⟩ n _ => by
      obtain ⟨canonical, execs, _⟩ := State.installGroup_keeps cu n.1 (groupOfTable t n.2)
      exact ⟨canonical, execs.trans hu⟩
  refine ⟨keeps.1, keeps.2, fun n named => ?_⟩
  obtain ⟨die, once⟩ := State.namedDies_find? named
  have absent : s.groupOf n.1 id = none := by
    have notHeld : n.1 ∉ s.holders id := by rw [fresh]; exact List.not_mem_nil
    rw [State.holders, State.dieList, List.mem_filter, List.mem_range] at notHeld
    simpa [die] using notHeld
  have free : (s.die n.1).groups.length < 4096 := by
    rw [State.groupsFull, List.any_eq_false] at room
    have := room n named
    rw [absent] at this
    simpa using this
  have apart (m : Nat × Nat) (hm : m ∈ s.namedDies t) (other : m ≠ n) : n.1 ≠ m.1 := fun at_ => by
    have found := (State.namedDies_find? hm).2
    rw [← at_, once] at found
    exact other (Option.some.inj found).symm
  have entry : (groupOfTable t n.2).id = id := groupTableOk_id good
  have held := foldl_once (f := fun s m => s.installGroup m.1 (groupOfTable t m.2)) (x := n) (l := s.namedDies t)
    (A := fun u : State => u.canonical ∧ u.dies.length = s.dies.length ∧ (u.die n.1).groups = (s.die n.1).groups)
    (B := fun u : State => u.canonical ∧ (u.groupOf n.1 id).map Prod.snd = some (groupOfTable t n.2))
    named (s.namedDies_nodup t)
    (fun u m hm other ⟨cu, length, same⟩ => by
      obtain ⟨canonical, _, kept⟩ := State.installGroup_keeps cu m.1 (groupOfTable t m.2)
      exact ⟨canonical, kept.trans length, (u.installGroup_groups_ne _ (apart m hm other)).trans same⟩)
    (fun u ⟨cu, length, same⟩ => by
      refine ⟨(State.installGroup_keeps cu _ _).1, ?_⟩
      have gone : u.groupOf n.1 (groupOfTable t n.2).id = none := by
        rw [State.groupOf_congr same, entry, absent]
      rw [← entry]
      exact State.installGroup_fresh (by omega) gone (by rwa [same]))
    (fun u m hm other ⟨cu, held⟩ => by
      refine ⟨(State.installGroup_keeps cu _ _).1, ?_⟩
      rwa [State.groupOf_congr (u.installGroup_groups_ne _ (apart m hm other))])
    ⟨c, rfl, rfl⟩
  exact held.2

theorem exec_createGroup (s : State) (f : Nat) (t : List Byte) : exec (.createGroup f t) s =
    atFn s f (s.beginAdmin f (fun d => dOpcode d == 0x38) fun s i d => s.pfOnly f i (s.createGroup f i d t)) := by rfl

/-! ### REFORM_GROUP (R443) -/

/-- No die has an operation of a group in execution; the maps of groups are canonical. -/
structure State.Quiet (n id : Nat) (s : State) : Prop where
  canonical : s.canonical
  length : s.dies.length = n
  wf : ∀ d, FMap.wf (s.die d).groups = true
  idle : ∀ d e g, s.groupOf d id = some (e, g) → g.op = none

/-- What a re-form does on a die without an operation of the group in execution. -/
def State.reformed (s : State) (d id : Nat) (g : Option Group) : State :=
  match g, s.groupOf d id with
  | some g, _ => (s.installGroup d g).groupEvent d g 6 0 0 0
  | none, some (_, h) => (s.removeGroup d id).groupEvent d h 6 0 0 0
  | none, none => s

theorem State.Quiet.reformDie {n id : Nat} {s : State} (quiet : State.Quiet n id s) (d : Nat) (g : Option Group) :
    s.reformDie d id g = s.reformed d id g := by
  unfold State.reformDie State.reformed
  cases held : s.groupOf d id with
  | none => cases g <;> rfl
  | some x =>
    obtain ⟨e, h⟩ := x
    have noOp : s.collOp d e = none := by
      rw [State.collOp, FMap.get?_of_mem (quiet.wf d) (List.mem_of_find?_eq_some held)]
      dsimp only
      rw [quiet.idle d e h held]
      rfl
    have same : s.endColl d e stGroupTimeout gtReformed 0 0 = s := by
      unfold State.endColl
      rw [noOp]
    dsimp only
    rw [same] <;> cases g <;> rfl

theorem State.groupOf_groupEvent {s : State} (c : s.canonical) (d : Nat) (g : Group) (event : Nat) (seq : Word)
    (endpoint chunk e : Nat) : ((s.groupEvent d g event seq endpoint chunk).die e).groups = (s.die e).groups :=
  State.die_congr (State.groupEvent_within.areas .groups (by decide) c) e

/-- The groups of a die in which a group is installed, where the die is one of the part: the group's entry is the one
found by its ID. -/
theorem State.Quiet.installGroup {n id : Nat} {s : State} (quiet : State.Quiet n id s) {d : Nat} {g : Group}
    (entry : g.id = id) (idle : g.op = none) (die : d < n) : State.Quiet n id (s.installGroup d g) := by
  subst entry
  obtain ⟨canonical, length, wf, quietOps⟩ := quiet
  obtain ⟨canonical', _, kept⟩ := State.installGroup_keeps canonical d g
  cases free : s.entryFor d g.id with
  | none =>
    have same : s.installGroup d g = s := by
      have eq : s.installGroup d g = match s.entryFor d g.id with
        | none => s
        | some e => (s.onDie d fun x => { x with groups := FMap.set x.groups e g }).onRouter d fun r =>
            { r with repl := FMap.set r.repl g.id g.replEntry } := by rfl
      rw [eq, free]
    rw [same]
    exact ⟨canonical, length, wf, quietOps⟩
  | some k =>
    have own := State.installGroup_groups free (length.symm ▸ die)
    refine ⟨canonical', kept.trans length, fun e => ?_, fun e j h found => ?_⟩
    · by_cases at_ : e = d
      · rw [at_, own]
        exact FMap.wf_set _ _ (wf d)
      · rw [s.installGroup_groups_ne g at_]
        exact wf e
    · by_cases at_ : e = d
      · subst at_
        rw [State.installGroup_found (length.symm ▸ die) free fun _ => wf e] at found
        cases found
        exact idle
      · rw [State.groupOf_congr (s.installGroup_groups_ne g at_)] at found
        exact quietOps e j h found

theorem State.Quiet.removeGroup {n id : Nat} {s : State} (quiet : State.Quiet n id s) {d : Nat} (die : d < n) :
    State.Quiet n id (s.removeGroup d id) := by
  obtain ⟨canonical, length, wf, quietOps⟩ := quiet
  have w := State.removeGroup_within (s := s) (d := d) (id := id)
  refine ⟨w.canonical canonical, (w.length_dies canonical).trans length, fun e => ?_, fun e j h found => ?_⟩
  · by_cases at_ : e = d
    · rw [at_, State.removeGroup_groups id (length.symm ▸ die)]
      exact FMap.wf_filter _ (wf d)
    · rw [s.removeGroup_groups_ne id at_]
      exact wf e
  · by_cases at_ : e = d
    · rw [at_, State.groupOf_removeGroup id (length.symm ▸ die)] at found
      cases found
    · rw [State.groupOf_congr (s.removeGroup_groups_ne id at_)] at found
      exact quietOps e j h found

theorem State.Quiet.groupEvent {n id : Nat} {s : State} (quiet : State.Quiet n id s) (d : Nat) (g : Group) (event : Nat)
    (seq : Word) (endpoint chunk : Nat) : State.Quiet n id (s.groupEvent d g event seq endpoint chunk) := by
  obtain ⟨canonical, length, wf, idle⟩ := quiet
  have w := State.groupEvent_within (s := s) (d := d) (g := g) (event := event) (seq := seq) (endpoint := endpoint)
    (chunk := chunk)
  refine ⟨w.canonical canonical, (w.length_dies canonical).trans length, fun e => ?_, fun e j h found => ?_⟩
  · rw [State.groupOf_groupEvent canonical]
    exact wf e
  · rw [State.groupOf_congr (State.groupOf_groupEvent canonical d g event seq endpoint chunk e)] at found
    exact idle e j h found

/-- A re-form of a die leaves the descriptors and the other dies' groups, and no operation of the group. -/
theorem State.Quiet.reformed {n id : Nat} {s : State} (quiet : State.Quiet n id s) {d : Nat} {g : Option Group} (die : d < n)
    (fits : ∀ h, g = some h → h.id = id ∧ h.op = none) : State.Quiet n id (s.reformed d id g) ∧
      (s.reformed d id g).execs = s.execs ∧ ∀ e ≠ d, ((s.reformed d id g).die e).groups = (s.die e).groups := by
  unfold State.reformed
  cases g with
  | some h =>
    obtain ⟨entry, idle⟩ := fits h rfl
    have installed := quiet.installGroup entry idle die
    refine ⟨installed.groupEvent .., ?_, fun e other => ?_⟩
    · exact (State.groupEvent_within.areas .descriptors (by decide) installed.canonical).trans
        (State.installGroup_keeps quiet.canonical d h).2.1
    · rw [State.groupOf_groupEvent installed.canonical, s.installGroup_groups_ne h other]
  | none =>
    cases s.groupOf d id with
    | none => exact ⟨quiet, rfl, fun e _ => rfl⟩
    | some x =>
      have removed := quiet.removeGroup die
      refine ⟨removed.groupEvent .., ?_, fun e other => ?_⟩
      · exact (State.groupEvent_within.areas .descriptors (by decide) removed.canonical).trans
          (State.removeGroup_within.areas .descriptors (by decide) quiet.canonical)
      · rw [State.groupOf_groupEvent removed.canonical, s.removeGroup_groups_ne id other]

/-- A die that a table names holds its group once it is re-formed. -/
theorem State.Quiet.reformed_holds {n id : Nat} {s : State} (quiet : State.Quiet n id s) {d : Nat} {g : Group} (die : d < n)
    (entry : g.id = id) (idle : g.op = none) (room : (s.groupOf d id).isNone = true → (s.die d).groups.length < 4096) :
    ((s.reformed d id (some g)).groupOf d id).map Prod.snd = some g := by
  subst entry
  have unit : d < s.dies.length := quiet.length.symm ▸ die
  have eq : s.reformed d g.id (some g) = (s.installGroup d g).groupEvent d g 6 0 0 0 := by
    unfold State.reformed
    cases s.groupOf d g.id <;> rfl
  rw [eq, State.groupOf_congr (State.groupOf_groupEvent (quiet.installGroup rfl idle die).canonical ..)]
  cases held : s.groupOf d g.id with
  | none => exact State.installGroup_fresh unit held (room (by rw [held]; rfl))
  | some x => exact State.installGroup_again unit (quiet.wf d) held

/-- The group that a table gives a die, where it names the die. -/
def State.tableGroup (s : State) (t : List Byte) (h : Nat) : Option Group :=
  ((s.namedDies t).find? fun n => n.1 == h).map fun n => groupOfTable t n.2

/-- A table's group put in the place of its older generation, on every die of the package. -/
def State.reformTable (s : State) (id : Nat) (t : List Byte) : State :=
  s.dieList.foldl (fun u h => u.reformDie h id (s.tableGroup t h)) s

theorem State.reformGroup_reforms {s : State} {f : Nat} (i : Word) {d t : List Byte}
    (whole : t.length = le t 0x14 4) (good : groupTableOk t (bits (arg1 d) 15 0) = true)
    (some_ : s.holders (bits (arg1 d) 15 0) ≠ [])
    (next : (((s.readTable f d t).holders (bits (arg1 d) 15 0)).all fun h =>
      (((s.readTable f d t).groupOf h (bits (arg1 d) 15 0)).map fun g => (g.2.gen + 1) % 65536) == some (le t 8 2)) = true)
    (room : (s.readTable f d t).groupsFull t (bits (arg1 d) 15 0) = false) :
    s.reformGroup f i d t =
      ((s.readTable f d t).reformTable (bits (arg1 d) 15 0) t).adminEnd f i stSuccess (le t 8 2) := by
  unfold State.reformGroup
  rw [fitTable_whole whole]
  dsimp only
  rw [if_neg (by rwa [List.isEmpty_iff]), good, next, room]
  simp only [Bool.not_true, Bool.false_eq_true, if_false]
  rfl

/-- A re-form leaves the descriptors, and on the dies that the table names its group. -/
theorem State.Quiet.reformTable {n id : Nat} {s : State} {t : List Byte} (quiet : State.Quiet n id s)
    (good : groupTableOk t id = true) (room : s.groupsFull t id = false) :
    (s.reformTable id t).canonical ∧ (s.reformTable id t).execs = s.execs ∧
      ∀ m ∈ s.namedDies t, ((s.reformTable id t).groupOf m.1 id).map Prod.snd = some (groupOfTable t m.2) := by
  have fits (h : Nat) (g : Group) (given : s.tableGroup t h = some g) : g.id = id ∧ g.op = none := by
    obtain ⟨m, _, rfl⟩ := Option.map_eq_some_iff.mp given
    exact ⟨groupTableOk_id good, rfl⟩
  have low (h : Nat) (hh : h ∈ s.dieList) : h < n := quiet.length ▸ List.mem_range.mp hh
  have turn (u : State) (hu : State.Quiet n id u) (h : Nat) (hh : h ∈ s.dieList) :
      State.Quiet n id (u.reformDie h id (s.tableGroup t h)) ∧
        (u.reformDie h id (s.tableGroup t h)).execs = u.execs ∧
        ∀ e ≠ h, ((u.reformDie h id (s.tableGroup t h)).die e).groups = (u.die e).groups := by
    rw [hu.reformDie]
    exact hu.reformed (low h hh) (fits h)
  have keeps := List.foldlRecOn (motive := fun u => State.Quiet n id u ∧ u.execs = s.execs) s.dieList
    (fun u h => u.reformDie h id (s.tableGroup t h)) ⟨quiet, rfl⟩ fun u ⟨hu, execs⟩ h hh => by
      obtain ⟨quiet', execs', _⟩ := turn u hu h hh
      exact ⟨quiet', execs'.trans execs⟩
  refine ⟨keeps.1.canonical, keeps.2, fun m named => ?_⟩
  obtain ⟨die, once⟩ := State.namedDies_find? named
  have own : s.tableGroup t m.1 = some (groupOfTable t m.2) := by rw [State.tableGroup, once]; rfl
  have free : (s.groupOf m.1 id).isNone = true → (s.die m.1).groups.length < 4096 := by
    intro absent
    rw [State.groupsFull, List.any_eq_false] at room
    have := room m named
    rw [absent] at this
    simpa using this
  have held := foldl_once (f := fun u h => u.reformDie h id (s.tableGroup t h)) (x := m.1) (l := s.dieList)
    (A := fun u : State => State.Quiet n id u ∧ (u.die m.1).groups = (s.die m.1).groups)
    (B := fun u : State => State.Quiet n id u ∧ (u.groupOf m.1 id).map Prod.snd = some (groupOfTable t m.2))
    (List.mem_range.mpr die) List.nodup_range
    (fun u h hh other ⟨hu, same⟩ => by
      obtain ⟨quiet', _, others⟩ := turn u hu h hh
      exact ⟨quiet', (others m.1 other.symm).trans same⟩)
    (fun u ⟨hu, same⟩ => by
      refine ⟨(turn u hu m.1 (List.mem_range.mpr die)).1, ?_⟩
      rw [hu.reformDie, own]
      exact hu.reformed_holds (low m.1 (List.mem_range.mpr die)) (groupTableOk_id good) rfl (by
        rw [State.groupOf_congr same, same]
        exact free))
    (fun u h hh other ⟨hu, held⟩ => by
      obtain ⟨quiet', _, others⟩ := turn u hu h hh
      exact ⟨quiet', by rwa [State.groupOf_congr (others m.1 other.symm)]⟩) ⟨quiet, rfl⟩
  exact held.2

theorem exec_reformGroup (s : State) (f : Nat) (t : List Byte) : exec (.reformGroup f t) s =
    atFn s f (s.beginAdmin f (fun d => dOpcode d == 0x39) fun s i d => s.pfOnly f i (s.reformGroup f i d t)) := by rfl

/-! ### DESTROY_GROUP (R444) -/

theorem exec_destroyGroup (s : State) (f : Nat) : exec (.destroyGroup f) s =
    atFn s f (s.beginAdmin f (fun d => dOpcode d == 0x3A) fun s i d => s.pfOnly f i (s.destroyGroup f i d)) := by rfl

/-- A group without an operation in execution removed from every die that holds it. -/
def State.removeFrom (s : State) (id : Nat) (l : List Nat) : State := l.foldl (fun s h => s.removeGroup h id) s

theorem State.destroyGroup_removes {s : State} {f : Nat} (i : Word) {d : List Byte}
    (some_ : s.holders (bits (arg1 d) 15 0) ≠ [])
    (idle : ∀ h ∈ s.holders (bits (arg1 d) 15 0), ((s.groupOf h (bits (arg1 d) 15 0)).map fun g => g.2.op) = some none) :
    s.destroyGroup f i d =
      (s.removeFrom (bits (arg1 d) 15 0) (s.holders (bits (arg1 d) 15 0))).adminEnd f i stSuccess := by
  have free : ((s.holders (bits (arg1 d) 15 0)).any fun h =>
      ((s.groupOf h (bits (arg1 d) 15 0)).map fun g => g.2.op.isSome).getD false) = false := by
    rw [List.any_eq_false]
    intro h hh
    have none := idle h hh
    cases held : s.groupOf h (bits (arg1 d) 15 0) with
    | none => exact Bool.false_ne_true
    | some g =>
      rw [held] at none
      simp only [Option.map_some, Option.some.injEq] at none
      simp [none]
  unfold State.destroyGroup
  dsimp only
  rw [if_neg (by rwa [List.isEmpty_iff]), free]
  simp only [Bool.false_eq_true, if_false]
  rfl

/-- No die holds a group that was removed from those that did. -/
theorem State.removeFrom_holders {s : State} (c : s.canonical) (id : Nat) :
    Within 68786585600 s (s.removeFrom id (s.holders id)) ∧ (s.removeFrom id (s.holders id)).holders id = [] := by
  have w (l : List Nat) : Within 68786585600 s (s.removeFrom id l) :=
    Within.foldl (fun u h hu => State.removeGroup_within.step (by decide) hu) (Within.refl _ s)
  refine ⟨w _, List.filter_eq_nil_iff.mpr fun d member => ?_⟩
  have die : d < s.dies.length := by
    have := List.mem_range.mp member
    rwa [(w _).length_dies c] at this
  have gone : (s.removeFrom id (s.holders id)).groupOf d id = none := by
    by_cases held : d ∈ s.holders id
    · refine foldl_reaches (f := fun u h => State.removeGroup u h id)
        (I := fun u : State => u.canonical ∧ u.dies.length = s.dies.length)
        (P := fun u : State => u.groupOf d id = none) held ?_ ?_ ?_ ⟨c, rfl⟩
      · intro u h ⟨cu, length⟩
        have wu := State.removeGroup_within (s := u) (d := h) (id := id)
        exact ⟨wu.canonical cu, (wu.length_dies cu).trans length⟩
      · intro u ⟨_, length⟩
        exact State.groupOf_removeGroup id (length.symm ▸ die)
      · intro u h ⟨_, length⟩ none
        by_cases at_ : d = h
        · rw [← at_]
          exact State.groupOf_removeGroup id (length.symm ▸ die)
        · rw [State.groupOf_congr (u.removeGroup_groups_ne id at_), none]
    · have absent : s.groupOf d id = none := by
        rw [State.holders, State.dieList, List.mem_filter, List.mem_range] at held
        simpa [die] using held
      refine List.foldlRecOn (motive := fun u : State => u.groupOf d id = none) _ _ absent fun u none h hh => ?_
      rw [State.groupOf_congr (u.removeGroup_groups_ne (d := h) (e := d) id fun at_ => held (by rw [at_]; exact hh)), none]
  rw [gone]
  exact Bool.false_ne_true

section Tables

variable {s : State} {x : Queue} {u : Slot} {id : Nat} {t : List Byte} (sound : s.sound) (begins : s.begins 0 0 x u)


include sound begins

/-- A command that leaves on the named dies the group that its table gives ends with the table's GENERATION. -/
theorem groupCommand_completes {c : Instr} {op : Nat} {act : State → Word → List Byte → State} {r : State}
    (row : exec c s = atFn s 0 (s.beginAdmin 0 (fun d => dOpcode d == op) fun s i d => s.pfOnly 0 i (act s i d)))
    (opcode : dOpcode u.bytes = op) (acts : act (s.beginSlot 0 0 x u) u.index u.bytes = r.adminEnd 0 u.index stSuccess (le t 8 2))
    (canonical : r.canonical) (execs : r.execs = (s.beginSlot 0 0 x u).execs)
    (held : ∀ n ∈ s.namedDies t, (r.groupOf n.1 id).map Prod.snd = some (groupOfTable t n.2)) :
    Completes c s fun v => v.ended 0 0 u.index stSuccess (le t 8 2) 0 ∧
      ∀ n ∈ s.namedDies t, (v.groupOf n.1 id).map Prod.snd = some (groupOfTable t n.2) := by
  have fns := State.length_fns sound
  refine begins.completes_results (by omega) row (beq_iff_eq.mpr opcode) (by rw [State.pfOnly, if_pos rfl, acts]) execs
    fun v w n named => ?_
  rw [State.groupOf_congr (State.die_congr (w.areas .groups (by decide) canonical) n.1)]
  exact held n named

variable (argument : id = bits (arg1 u.bytes) 15 0)

include argument

/-- CREATE_GROUP installs its group on every die that its table names (R441). -/
theorem createGroup_installs (opcode : dOpcode u.bytes = 0x38) (whole : t.length = le t 0x14 4)
    (good : groupTableOk t id = true) (room : s.groupsFull t id = false) (fresh : s.holders id = []) :
    Completes (.createGroup 0 t) s fun v => v.ended 0 0 u.index stSuccess (le t 8 2) 0 ∧
      ∀ n ∈ s.namedDies t, (v.groupOf n.1 id).map Prod.snd = some (groupOfTable t n.2) := by
  subst argument
  have same := State.sameGroups_readTable sound.1 x u u.bytes t
  have canonical : ((s.beginSlot 0 0 x u).readTable 0 u.bytes t).canonical :=
    State.readTable_within.canonical (State.beginSlot_within.canonical sound.1)
  have fresh' := (same.holders _).trans fresh
  have room' := (same.groupsFull t _).trans room
  obtain ⟨installed, execs, held⟩ := State.installTable_holds canonical good fresh' room'
  rw [same.namedDies] at held
  exact groupCommand_completes sound begins (exec_createGroup s 0 t) opcode
    (State.createGroup_installs (s := s.beginSlot 0 0 x u) u.index whole good fresh' room') installed
    (execs.trans (State.readTable_execs _ _ _ _)) held

/-- REFORM_GROUP puts its group in the place of the generation before (R443). -/
theorem reformGroup_reforms (opcode : dOpcode u.bytes = 0x39) (whole : t.length = le t 0x14 4)
    (good : groupTableOk t id = true) (room : s.groupsFull t id = false)
    (wf : ∀ d < s.dies.length, FMap.wf (s.die d).groups = true) (some_ : s.holders id ≠ [])
    (idle : ∀ h ∈ s.holders id, ((s.groupOf h id).map fun g => g.2.op) = some none)
    (next : ∀ h ∈ s.holders id, ((s.groupOf h id).map fun g => (g.2.gen + 1) % 65536) = some (le t 8 2)) :
    Completes (.reformGroup 0 t) s fun v => v.ended 0 0 u.index stSuccess (le t 8 2) 0 ∧
      ∀ n ∈ s.namedDies t, (v.groupOf n.1 id).map Prod.snd = some (groupOfTable t n.2) := by
  subst argument
  have same := State.sameGroups_readTable sound.1 x u u.bytes t
  have canonical : ((s.beginSlot 0 0 x u).readTable 0 u.bytes t).canonical :=
    State.readTable_within.canonical (State.beginSlot_within.canonical sound.1)
  have beyond (d : Nat) (out : ¬ d < s.dies.length) : s.die d = Die.reset := by
    rw [State.die, List.getElem?_eq_none (Nat.le_of_not_lt out), Option.getD_none]
  have quiet : State.Quiet s.dies.length (bits (arg1 u.bytes) 15 0) ((s.beginSlot 0 0 x u).readTable 0 u.bytes t) := by
    refine ⟨canonical, congrArg List.length same.dies, fun d => ?_, fun d e g held => ?_⟩
    · rw [State.die, same.dies, ← State.die]
      by_cases die : d < s.dies.length
      · exact wf d die
      · rw [beyond d die]
        rfl
    · rw [same.groupOf] at held
      by_cases die : d < s.dies.length
      · have holds : d ∈ s.holders (bits (arg1 u.bytes) 15 0) :=
          List.mem_filter.mpr ⟨List.mem_range.mpr die, by rw [held]; rfl⟩
        have none := idle d holds
        rw [held] at none
        exact Option.some.inj none
      · rw [State.groupOf, beyond d die] at held
        exact nomatch held
  have room' := (same.groupsFull t _).trans room
  have next' : ((((s.beginSlot 0 0 x u).readTable 0 u.bytes t).holders (bits (arg1 u.bytes) 15 0)).all fun h =>
      ((((s.beginSlot 0 0 x u).readTable 0 u.bytes t).groupOf h (bits (arg1 u.bytes) 15 0)).map fun g =>
        (g.2.gen + 1) % 65536) == some (le t 8 2)) = true := by
    rw [List.all_eq_true, same.holders]
    intro h hh
    rw [same.groupOf, next h hh, beq_self_eq_true]
  obtain ⟨reformed, execs, held⟩ := quiet.reformTable good room'
  rw [same.namedDies] at held
  exact groupCommand_completes sound begins (exec_reformGroup s 0 t) opcode
    (State.reformGroup_reforms (s := s.beginSlot 0 0 x u) u.index whole good some_ next' room') reformed
    (execs.trans (State.readTable_execs _ _ _ _)) held

omit argument in
/-- DESTROY_GROUP removes its group from every die (R444). -/
theorem destroyGroup_removes (opcode : dOpcode u.bytes = 0x3A) (argument : id = bits (arg1 u.bytes) 15 0)
    (some_ : s.holders id ≠ []) (idle : ∀ h ∈ s.holders id, ((s.groupOf h id).map fun g => g.2.op) = some none) :
    Completes (.destroyGroup 0) s fun v => v.ended 0 0 u.index stSuccess 0 0 ∧ v.holders id = [] := by
  subst argument
  have fns := State.length_fns sound
  have canonical : (s.beginSlot 0 0 x u).canonical := State.beginSlot_within.canonical sound.1
  obtain ⟨w, gone⟩ := State.removeFrom_holders canonical (bits (arg1 u.bytes) 15 0)
  refine begins.completes_within (by omega) (exec_destroyGroup s 0) (beq_iff_eq.mpr opcode)
    (by rw [State.pfOnly, if_pos rfl, State.destroyGroup_removes (s := s.beginSlot 0 0 x u) u.index some_ idle])
    (w.areas .descriptors (by decide) canonical) fun v wv => ?_
  have removed := w.canonical canonical
  have groups (d : Nat) := State.groupOf_congr
    (State.die_congr (wv.areas .groups (by decide) removed) d) (bits (arg1 u.bytes) 15 0)
  rw [State.holders, State.dieList] at gone ⊢
  simpa only [groups, wv.length_dies removed] using gone

end Tables

end Sys2Proof.Machine

namespace Sys2Proof
open Machine

/-- Settles O18: each command ends in the state that its equation gives, on the state that its beginning leaves. -/
theorem partitionAndGroupAdminCommands : Obligations.PartitionAndGroupAdminCommands := by
  intro s x u sound begins
  refine ⟨?resize, ?destroy, ?groups, ?removed⟩
  case resize =>
    rintro p _ t opcode fn rfl whole good least most share empty recks granules keeps queues qps handles
    obtain ⟨t', row, ended, own, owners, given⟩ := resizePartition_takes sound begins opcode fn whole good least most share
      ⟨empty, recks, granules, keeps, queues, qps, handles⟩
    exact ⟨t', row, ended, by rw [own]; exact ⟨rfl, rfl, rfl, rfl, owners, given⟩⟩
  case destroy =>
    intro p opcode fn least most quiet closed queues idle
    exact destroyPartition_takes sound begins opcode fn least most quiet closed queues idle
  case groups =>
    intro id t argument whole good room
    exact ⟨fun opcode fresh => createGroup_installs sound begins argument opcode whole good room fresh,
      fun opcode wf some_ idle next => reformGroup_reforms sound begins argument opcode whole good room wf some_ idle next⟩
  case removed =>
    intro id opcode argument some_ idle
    exact destroyGroup_removes sound begins opcode argument some_ idle

end Sys2Proof
end

section
-- One proof after another: side by side, the proofs of the whole text need more threads than the memory limit has room for.
set_option Elab.async false
/-!
The start of the part and its watch (R555, R557 to R559, R567, R568), and the delivery of images (R562 to R567, R571).
-/

namespace Sys2Proof.Machine

/-! ### Delivery over the service port (R558, R563 to R567) -/

/-- A frame is served while the Spine runs. -/
theorem State.served_of_alive {s : State} (alive : s.spine.alive = true) (n : BitVec 16) (r : State) : s.served n r = r := by
  have running : (s.spine.phase == .dead) = false := by
    cases phase : s.spine.phase with
    | dead => simp [Spine.alive, phase] at alive
    | _ => rfl
  rw [State.served, running, alive, if_neg (by decide), if_pos rfl]

@[simp] theorem State.serviceSend_spine (s : State) (kind code : Nat) (n : BitVec 16) (q : Nat) (b : List Byte) :
    (s.serviceSend kind code n q b).spine = s.spine := rfl

/-- A slot that is changed reads back. -/
theorem getElem?_modifyAt_self {α : Type} {l : List α} {k : Nat} (f : α → α) (low : k < l.length) :
    (modifyAt l k f)[k]? = some (f l[k]) := by
  rw [getElem?_modifyAt, if_pos rfl, List.getElem?_eq_getElem low]
  rfl

theorem Spine.spare_lt (x : Spine) : x.spare < 2 := by
  unfold Spine.spare
  split <;> decide

/-- What an OFFER that is admitted leaves of the Spine. -/
def Spine.offered (x : Spine) (n : BitVec 16) (h : List Byte) : Spine :=
  { (if hType h = 2 then x.eraseSlot x.spare else x) with delivery := some { session := n, header := h } }

/-- OFFER (R562, R564, R566). -/
theorem exec_offer {s : State} (alive : s.spine.alive = true) (n : BitVec 16) (h : List Byte) :
    exec (.offer n h) s = .next (if s.offerCode h ≠ 0 then s.serviceSend dkRefuse (s.offerCode h) n 0 []
      else (s.onSpine fun x => x.offered n h).serviceSend dkAccept 0 n 0 []) := by
  have row : exec (.offer n h) s = execOffer n h s := by rfl
  rw [row, execOffer, State.served_of_alive alive]
  rfl

theorem Spine.offered_erases {x : Spine} {n : BitVec 16} {h : List Byte} (slots : x.slots.length = 2) (quire : hType h = 2) :
    ((x.offered n h).slots[x.spare]?).map QuireSlot.state = some .empty := by
  have low : x.spare < x.slots.length := by
    have := x.spare_lt
    omega
  have erased : (x.offered n h).slots = modifyAt x.slots x.spare fun _ => {} := by
    simp only [Spine.offered, if_pos quire, Spine.eraseSlot, Spine.onSlot]
  rw [erased, getElem?_modifyAt_self _ low]
  rfl

section Block

variable {s : State} {n : BitVec 16} {v : Delivery} (alive : s.spine.alive = true) (session : s.spine.delivery = some v)
  (own : v.session = n)

/-- A session after a block that is accepted (R565). -/
def Delivery.taken (v : Delivery) (bs : List Byte) : Delivery :=
  { v with body := v.body ++ bs, next := v.next + 1, since := if decide (v.since + 1 = 16) then 0 else v.since + 1 }

/-- The Spine's state once a block is accepted, and acknowledged where the sixteenth is. -/
def State.takeBlock (s : State) (v : Delivery) (bs : List Byte) : State :=
  let t := s.onSpine fun x => { x with delivery := some (v.taken bs) }
  if decide (v.since + 1 = 16) then t.serviceSend dkBlockAck 0 v.session (v.taken bs).next [] else t

theorem State.takeBlock_spine (s : State) (v : Delivery) (bs : List Byte) :
    (s.takeBlock v bs).spine = { s.spine with delivery := some (v.taken bs) } := by
  unfold State.takeBlock
  dsimp only
  split <;> rfl

include alive session own

/-- A block out of order is acknowledged with the number that is next, and nothing else. -/
theorem exec_block_other {q : Word} (bs : List Byte) (ok : Bool) (other : q.toNat ≠ v.next) :
    exec (.block n q bs ok) s = .next (s.serviceSend dkBlockAck 0 n v.next []) := by
  have row : exec (.block n q bs ok) s = execBlock n q bs ok s := by rfl
  have same : (v.session != n) = false := by rw [own, bne_self_eq_false]
  rw [row, execBlock, State.served_of_alive alive, session]
  dsimp only
  rw [same, if_neg (by decide), if_pos (.inl other)]

/-- A block in order, of the length that is left or 1,024 bytes (R565). -/
theorem exec_block_taken {q : Word} {bs : List Byte} (ok : Bool) (next : q.toNat = v.next)
    (whole : bs.length = min 1024 (hLength v.header - v.body.length)) :
    exec (.block n q bs ok) s = .next (
      if v.body.length + bs.length = hLength v.header then
        ((s.takeBlock v bs).onSpine fun _ => ((s.takeBlock v bs).spine.deliver (v.taken bs) ok).2).serviceSend dkDone
          ((s.takeBlock v bs).spine.deliver (v.taken bs) ok).1 n 0 []
      else s.takeBlock v bs) := by
  have row : exec (.block n q bs ok) s = execBlock n q bs ok s := by rfl
  have same : (v.session != n) = false := by rw [own, bne_self_eq_false]
  have inOrder : ¬ (q.toNat ≠ v.next ∨ bs.length ≠ min 1024 (hLength v.header - v.body.length)) := by
    rintro (other | cut)
    · exact other next
    · exact cut whole
  rw [row, execBlock, State.served_of_alive alive, session]
  dsimp only
  rw [same, if_neg (by decide), if_neg inOrder, ← List.length_append]
  subst own
  rfl

end Block

/-- A whole body ends the delivery (R566). -/
theorem Spine.deliver_delivery (x : Spine) (v : Delivery) (ok : Bool) : (x.deliver v ok).2.delivery = none := by
  unfold Spine.deliver
  dsimp only
  repeat' split
  all_goals rfl

/-- A Quire image whose body verifies is put into the spare slot (R566, R567). -/
theorem Spine.deliver_quire {x : Spine} {v : Delivery} (slots : x.slots.length = 2) (quire : hType v.header = 2)
    (good : sha384 v.body = slice v.header 0x20 48) :
    ((x.deliver v true).2.slots[x.spare]?).map QuireSlot.image = some ⟨v.header, v.body⟩ := by
  have low : x.spare < x.slots.length := by
    have := x.spare_lt
    omega
  have put : (x.deliver v true).2.slots = modifyAt x.slots x.spare fun _ =>
      { state := if (x.slotIn .active).isSome then .trial else .active, tried := false, image := ⟨v.header, v.body⟩ } := by
    simp only [Spine.deliver, if_pos quire, good, beq_self_eq_true, Bool.not_true, Bool.false_eq_true, if_false]
    rfl
  rw [put, getElem?_modifyAt_self _ low]
  rfl

/-- A Spine image whose body verifies is written to flash (R571). -/
theorem Spine.deliver_spine {x : Spine} {v : Delivery} (spine : hType v.header ≠ 2)
    (good : sha384 v.body = slice v.header 0x20 48) (sane : x.corrupt = false) :
    (x.deliver v true).2.flash = ⟨v.header, v.body⟩ := by
  simp only [Spine.deliver, if_neg spine, good, sane, beq_self_eq_true, Bool.not_true, Bool.false_eq_true, if_false, if_true]

/-! ### The start (R557, R558) -/

/-- The checks of an image depend on OTP and the part alone. -/
theorem State.imageOk_congr {s t : State} (otp : t.spine.otp = s.spine.otp) (part : t.part = s.part) (i : Image) :
    t.imageOk i = s.imageOk i := by
  simp only [State.imageOk, State.checkHeader, otp, part]

/-- Dies held in compute reset, one after the other. -/
def State.holdDies (s : State) (l : List Nat) : State :=
  l.foldl (fun s d => s.onDie d fun x => { x with computeReset := true }) s

theorem State.holdDies_spine (s : State) (l : List Nat) :
    (s.holdDies l).spine = s.spine ∧ (s.holdDies l).part = s.part :=
  List.foldlRecOn (motive := fun t : State => t.spine = s.spine ∧ t.part = s.part) l _ ⟨rfl, rfl⟩ fun _ h _ _ => h

/-- BOOT_ROM_START (R557, R558). -/
theorem bootRomStart_starts {s : State} (rom : s.spine.phase = .rom) : Completes .bootRomStart s fun t =>
    if s.spine.flashBad = false ∧ hType s.spine.flash.header = 1 ∧ s.imageOk s.spine.flash = true then
      t.spine.phase = .spine ∧ t.spine.image = s.spine.flash
    else t.spine.phase = .dead := by
  obtain ⟨spine, part⟩ := s.holdDies_spine (s.dieList.drop 1)
  have row : exec .bootRomStart s = .next (
      if !(s.holdDies (s.dieList.drop 1)).spine.flashBad && hType (s.holdDies (s.dieList.drop 1)).spine.flash.header == 1 &&
          (s.holdDies (s.dieList.drop 1)).imageOk (s.holdDies (s.dieList.drop 1)).spine.flash then
        (s.holdDies (s.dieList.drop 1)).onSpine fun x =>
          { x with phase := .spine, image := (s.holdDies (s.dieList.drop 1)).spine.flash }
      else (s.holdDies (s.dieList.drop 1)).onSpine fun x => { x with phase := .dead }) := by
    have row : exec .bootRomStart s = execBootRomStart s := by rfl
    rw [row, execBootRomStart, rom]
    rfl
  refine ⟨_, row, ?_⟩
  dsimp only
  rw [spine, State.imageOk_congr (congrArg Spine.otp spine) part]
  by_cases good : s.spine.flashBad = false ∧ hType s.spine.flash.header = 1 ∧ s.imageOk s.spine.flash = true
  · obtain ⟨sound, kind, passes⟩ := good
    rw [if_pos ⟨sound, kind, passes⟩, sound, kind, passes, if_pos (by decide)]
    exact ⟨rfl, rfl⟩
  · rw [if_neg good, if_neg (by
      simp only [Bool.and_eq_true, Bool.not_eq_true', beq_iff_eq, and_assoc]
      exact good)]
    rfl

/-! ### The PF opens (R538, R557, R568) -/

/-- The PF's record as the Spine opens it. -/
def Fn.opening (x : Fn) : Fn := { x with enable := true, phase := .opening }

/-- The Spine opens the PF: its functions answer, and the PF is OPENING. -/
def State.openFns (s : State) : State :=
  ({ (s.onSpine fun x => { x with
      opened := true, otp := { x.otp with minSpine := max x.otp.minSpine (min 64 (hSecurity x.image.header)) } }) with
    ready := true }).onFn 0 Fn.opening

theorem State.openPf_eq (s : State) : s.openPf = s.openFns.reachOpen 0 := by rfl

theorem State.openPf_keeps {s : State} (c : s.canonical) {a : Area} (kept : Nat.testBit 249527746479 a.bit = false := by decide) :
    a.same s.openFns s.openPf := State.reachOpen_within.areas a kept c

/-- What opening the PF leaves of the Spine. -/
theorem State.openPf_spine {s : State} (c : s.canonical) : s.openPf.ready = true ∧ s.openPf.spine.phase = s.spine.phase ∧
    s.openPf.spine.reports = s.spine.reports ∧ s.openPf.spine.slots = s.spine.slots ∧
    s.openPf.spine.quireFailed = s.spine.quireFailed := by
  have spine : s.openPf.spine = s.openFns.spine := State.openPf_keeps c (a := .spine)
  have ready : s.openPf.ready = s.openFns.ready := State.openPf_keeps c (a := .ready)
  rw [spine, ready]
  exact ⟨rfl, rfl, rfl, rfl, rfl⟩

/-- The PF that the Spine opens is OPEN, where no close is pending. -/
theorem State.openPf_pf {s : State} (c : s.canonical) (fn : 0 < s.fns.length) (stays : (s.fn 0).pendClose = false) :
    (s.openPf.fn 0).phase = .opened := by
  have length : 0 < s.openFns.fns.length := by
    change 0 < (modifyAt s.fns 0 Fn.opening).length
    rwa [length_modifyAt]
  have own : s.openFns.fn 0 = (s.fn 0).opening := (State.fn_onFn _ 0 0 _ (by exact fn)).trans (if_pos rfl)
  have pending : (s.openFns.fn 0).pendClose = false := by rw [own]; exact stays
  have opens := (State.reachOpen_fn (s := s.openFns) c length).1
  rw [pending] at opens
  exact opens

/-- A change of some dies, each once: what it leaves beside them, and each die after it. -/
theorem State.foldl_onDie (s : State) (f : Nat → Die → Die) {l : List Nat} (nodup : l.Nodup) :
    ∃ ds, l.foldl (fun t d => t.onDie d (f d)) s = { s with dies := ds } ∧ ds.length = s.dies.length ∧
      ∀ d < s.dies.length, (State.die { s with dies := ds } d) = if d ∈ l then f d (s.die d) else s.die d := by
  induction l generalizing s with
  | nil => exact ⟨s.dies, rfl, rfl, fun d _ => rfl⟩
  | cons k l ih =>
    obtain ⟨fresh, rest⟩ := List.nodup_cons.mp nodup
    obtain ⟨ds, eq, length, dies⟩ := ih (s.onDie k (f k)) rest
    rw [State.onDie_length] at length dies
    refine ⟨ds, eq, length, fun d die => ?_⟩
    have at_ := dies d die
    change State.die { s with dies := ds } d = _ at at_
    rw [at_]
    by_cases own : d = k
    · subst own
      rw [if_neg fresh, State.die_onDie _ _ _ _ die, if_pos rfl, if_pos List.mem_cons_self]
    · rw [s.die_onDie_ne (f k) own]
      simp only [List.mem_cons, own, false_or]

/-- The dies of the part held in compute reset. -/
theorem State.holdDies_all (s : State) : ∃ ds, s.holdDies s.dieList = { s with dies := ds } ∧ ds.length = s.dies.length ∧
    ∀ d < s.dies.length, (State.die { s with dies := ds } d) = { s.die d with computeReset := true } := by
  obtain ⟨ds, eq, length, dies⟩ := s.foldl_onDie (fun _ x => { x with computeReset := true })
    (l := s.dieList) List.nodup_range
  exact ⟨ds, eq, length, fun d die => (dies d die).trans (if_pos (List.mem_range.mpr die))⟩

/-- The Spine's state with QUIRE_FAILED, before the PF opens. -/
def State.quireFails (s : State) : State :=
  (s.holdDies s.dieList).onSpine fun x => { x with phase := .failed, quireFailed := true }

theorem State.failQuire_eq (s : State) : s.failQuire = s.quireFails.openPf := by rfl

/-- QUIRE_FAILED: the PF opens with every die's compute domain held in reset; Quire slots stay (R568). -/
theorem State.failQuire_fails {s : State} (c : s.canonical) : s.failQuire.spine.phase = .failed ∧
    s.failQuire.spine.quireFailed = true ∧ s.failQuire.ready = true ∧ s.failQuire.spine.slots = s.spine.slots ∧
    (∀ d < s.dies.length, (s.failQuire.die d).computeReset = true) ∧
    ∀ d < s.dies.length, (s.failQuire.die d).entropy = (s.die d).entropy := by
  obtain ⟨ds, eq, length, dies⟩ := s.holdDies_all
  have canonical : s.quireFails.canonical := by
    rw [State.quireFails, eq]
    exact c
  obtain ⟨ready, phase, _, slots, failed⟩ := State.openPf_spine canonical
  have die (d : Nat) (low : d < s.dies.length) : s.quireFails.openFns.die d = { s.die d with computeReset := true } := by
    change (s.holdDies s.dieList).die d = _
    rw [eq]
    exact dies d low
  rw [State.failQuire_eq]
  refine ⟨phase, failed, ready, slots.trans ?_, fun d low => ?_, fun d low => ?_⟩
  · change (s.holdDies s.dieList).spine.slots = _
    rw [eq]
  · have same := State.die_congr (State.openPf_keeps canonical (a := .resets)) d
    rw [die d low] at same
    exact congrArg Prod.fst same
  · have same := State.die_congr (State.openPf_keeps canonical (a := .entropy)) d
    rw [die d low] at same
    exact same

/-! ### Quire images taken up (R567, R568) -/

/-- What a start comes to: a Quire slot is loaded, or it fails with the PF open; the random sources stay. -/
structure State.Starts (s t : State) : Prop where
  phase : t.spine.phase = .loading ∨ t.spine.phase = .failed ∧ t.ready = true
  entropy : ∀ d < s.dies.length, (t.die d).entropy = (s.die d).entropy

theorem State.loadSlot_starts (s : State) (k : Nat) : State.Starts s (s.loadSlot k) := by
  refine ⟨.inl ?_, fun _ _ => rfl⟩
  rfl

theorem State.failQuire_starts {s : State} (c : s.canonical) : State.Starts s s.failQuire := by
  obtain ⟨phase, _, ready, _, _, entropy⟩ := State.failQuire_fails c
  exact ⟨.inr ⟨phase, ready⟩, entropy⟩

theorem State.loadActive_starts {s : State} (c : s.canonical) : State.Starts s s.loadActive := by
  unfold State.loadActive
  split
  · split
    · exact s.loadSlot_starts _
    · exact State.failQuire_starts c
  · exact State.failQuire_starts c

theorem State.chooseQuire_starts {s : State} (c : s.canonical) : State.Starts s s.chooseQuire := by
  unfold State.chooseQuire
  split
  · exact State.loadActive_starts c
  · split
    · exact s.loadSlot_starts _
    · next k _ _ =>
      have starts := State.loadActive_starts
        (s := s.onSpine fun x => x.onSlot k fun q => { q with state := .rejected, tried := true }) c
      exact ⟨starts.phase, starts.entropy⟩

/-- A random source that is seeded and works (R557). -/
def seededEntropy : Entropy := { ok := true, seeded := true }

/-- The Spine releases and seeds a die, and draws its selection key (R494, R557). -/
def State.seedDie (s : State) (d : Nat) : State :=
  (s.onDie d fun x => { x with computeReset := false, entropy := seededEntropy }).drawKey d

theorem State.seedDie_keeps {s : State} (c : s.canonical) (d : Nat) : (s.seedDie d).canonical ∧
    (s.seedDie d).dies.length = s.dies.length ∧ ∀ e, ((s.seedDie d).die e).entropy =
      ((s.onDie d fun x => { x with computeReset := false, entropy := seededEntropy }).die e).entropy := by
  have w := State.drawKey_within (s := s.onDie d fun x => { x with computeReset := false, entropy := seededEntropy }) (d := d)
  exact ⟨w.canonical c, (w.length_dies c).trans (State.onDie_length ..),
    fun e => State.die_congr (w.areas .entropy (by decide) c) e⟩

theorem State.seedDies_entropy {s : State} (c : s.canonical) : (s.dieList.foldl State.seedDie s).canonical ∧
    (s.dieList.foldl State.seedDie s).dies.length = s.dies.length ∧
    ∀ d < s.dies.length, ((s.dieList.foldl State.seedDie s).die d).entropy = seededEntropy := by
  have keeps := List.foldlRecOn (motive := fun u : State => u.canonical ∧ u.dies.length = s.dies.length) s.dieList
    State.seedDie ⟨c, rfl⟩ fun u ⟨cu, length⟩ d _ => by
      obtain ⟨canonical, kept, _⟩ := State.seedDie_keeps cu d
      exact ⟨canonical, kept.trans length⟩
  refine ⟨keeps.1, keeps.2, fun d die => ?_⟩
  exact foldl_reaches (f := State.seedDie) (I := fun u : State => u.canonical ∧ u.dies.length = s.dies.length)
    (P := fun u : State => (u.die d).entropy = seededEntropy) (List.mem_range.mpr die : d ∈ s.dieList)
    (fun u e ⟨cu, length⟩ => by
      obtain ⟨canonical, kept, _⟩ := State.seedDie_keeps cu e
      exact ⟨canonical, kept.trans length⟩)
    (fun u ⟨cu, length⟩ => by
      rw [(State.seedDie_keeps cu d).2.2, State.die_onDie _ _ _ _ (length.symm ▸ die), if_pos rfl])
    (fun u e ⟨cu, length⟩ held => by
      rw [(State.seedDie_keeps cu e).2.2]
      by_cases own : d = e
      · rw [← own, State.die_onDie _ _ _ _ (length.symm ▸ die), if_pos rfl]
      · rwa [u.die_onDie_ne _ own]) ⟨c, rfl⟩

/-- Quire links train again after a cold reset (R557). -/
def State.retrainCold (s : State) : State :=
  if s.spine.cold then s.dieList.foldl (fun s d => (List.range 4).foldl (fun s k => s.retrain d (k + 2)) s) s else s

theorem State.retrainCold_within {s : State} : Within 134217728 s s.retrainCold := by
  unfold State.retrainCold
  split
  · exact Within.foldl (fun t d h => Within.foldl (fun u k h => State.retrain_within.step (by decide) h) h) (Within.refl _ s)
  · exact Within.refl _ s

/-- SPINE_START: every die's random source is seeded, and a Quire image is taken up, or the start fails (R557, R582). -/
theorem spineStart_starts {s : State} (c : s.canonical) (spine : s.spine.phase = .spine) :
    Completes .spineStart s fun t => (t.spine.phase = .loading ∨ t.spine.phase = .failed ∧ t.ready = true) ∧
      ∀ d < s.dies.length, (t.die d).entropy = { ok := true, seeded := true, blocked := false } := by
  have row : exec .spineStart s = .next (s.dieList.foldl State.seedDie s).retrainCold.chooseQuire := by
    have row : exec .spineStart s = execSpineStart s := by rfl
    rw [row, execSpineStart, spine]
    rfl
  obtain ⟨canonical, length, entropy⟩ := State.seedDies_entropy c
  have w := State.retrainCold_within (s := s.dieList.foldl State.seedDie s)
  obtain ⟨phase, kept⟩ := State.chooseQuire_starts (w.canonical canonical)
  refine ⟨_, row, phase, fun d die => ?_⟩
  rw [w.length_dies canonical, length] at kept
  have same := State.die_congr (w.areas .entropy (by decide) canonical) d
  rw [kept d die, same, entropy d die]
  rfl

/-! ### Readiness (R557, R567, R568) -/

theorem State.quireStart_keeps {s : State} (c : s.canonical) (d : Nat) : (s.quireStart d).canonical ∧
    (s.quireStart d).spine = s.spine ∧ (s.quireStart d).fns = s.fns ∧ (s.quireStart d).dies.length = s.dies.length :=
  have w := State.quireStart_within (s := s) (d := d)
  ⟨w.canonical c, w.areas .spine (by decide) c, w.areas .functions (by decide) c, w.length_dies c⟩

/-- A die's report taken, on the state that its Quire firmware leaves (R557). -/
def State.report (s : State) (d : Nat) : State := s.onSpine fun x => { x with reports := d :: x.reports }

/-- The part runs: the Quire image's section is taken, and the PF opens (R557, R570). -/
def State.startRunning (s : State) : State := (s.onSpine fun x => { x.takeSection with phase := .running }).openPf

theorem Spine.takeSection_reports (x : Spine) : x.takeSection.reports = x.reports := by
  unfold Spine.takeSection
  dsimp only
  split <;> rfl

/-- A report taken, and the part running after the last one. -/
def State.takeReport (u : State) (d : Nat) : State :=
  if (u.report d).spine.reports.length = (u.report d).dies.length then (u.report d).startRunning else u.report d

theorem exec_quireReady {s : State} {d : Nat} (die : d < s.dies.length) (loading : s.spine.phase = .loading)
    (fresh : s.spine.reports.contains d = false) : exec (.quireReady d) s = .next ((s.quireStart d).takeReport d) := by
  have row : exec (.quireReady d) s = execQuireReady d s := by rfl
  have takes : (StartPhase.loading != .loading || false) = false := rfl
  rw [row, execQuireReady, atDie, if_pos die, loading, fresh, takes, if_neg (by decide)]
  generalize s.quireStart d = u
  rfl

/-- The last report opens the PF (R538, R557). -/
theorem State.startRunning_runs {s : State} (c : s.canonical) : s.startRunning.spine.phase = .running ∧
    s.startRunning.ready = true ∧ s.startRunning.spine.reports = s.spine.reports ∧
    (0 < s.fns.length → (s.fn 0).pendClose = false → (s.startRunning.fn 0).phase = .opened) := by
  obtain ⟨ready, phase, kept, _, _⟩ := State.openPf_spine
    (s := s.onSpine fun x => { x.takeSection with phase := .running }) c
  exact ⟨phase, ready, kept.trans (Spine.takeSection_reports _), fun fn stays => State.openPf_pf c fn stays⟩

theorem State.takeReport_reports {u : State} (c : u.canonical) (fn : 0 < u.fns.length) (d : Nat) :
    (u.takeReport d).spine.reports = d :: u.spine.reports ∧
      (u.spine.reports.length + 1 = u.dies.length → (u.fn 0).pendClose = false →
        (u.takeReport d).spine.phase = .running ∧ (u.takeReport d).ready = true ∧ ((u.takeReport d).fn 0).phase = .opened) := by
  obtain ⟨phase, ready, kept, opens⟩ := State.startRunning_runs (s := u.report d) c
  unfold State.takeReport
  split
  · exact ⟨kept, fun _ stays => ⟨phase, ready, opens fn stays⟩⟩
  · next more => exact ⟨rfl, fun last => absurd last more⟩

/-- QUIRE_READY: the die's report is taken, and the last one opens the PF (R538, R557). -/
theorem quireReady_reports {s : State} (sound : s.sound) {d : Nat} (die : d < s.dies.length)
    (loading : s.spine.phase = .loading) (fresh : s.spine.reports.contains d = false) :
    Completes (.quireReady d) s fun t => t.spine.reports = d :: s.spine.reports ∧
      (s.spine.reports.length + 1 = s.dies.length → (s.fn 0).pendClose = false →
        t.spine.phase = .running ∧ t.ready = true ∧ (t.fn 0).phase = .opened) := by
  obtain ⟨c, spine, fns, length⟩ := State.quireStart_keeps sound.1 d
  have pf : 0 < (s.quireStart d).fns.length := by rw [fns, State.length_fns sound]; decide
  have taken := State.takeReport_reports c pf d
  rw [spine, length, State.fn_congr fns] at taken
  exact ⟨_, exec_quireReady die loading fresh, taken⟩

theorem quireReadyTimeout_fails {s : State} (c : s.canonical) (loading : s.spine.phase = .loading)
    (active : s.spine.trial = false) : Completes .quireReadyTimeout s fun t =>
      t.spine.phase = .failed ∧ t.spine.quireFailed = true ∧ t.ready = true ∧
        ∀ d < s.dies.length, (t.die d).computeReset = true := by
  have row : exec .quireReadyTimeout s = .next s.failQuire := by
    have row : exec .quireReadyTimeout s = execQuireReadyTimeout s := by rfl
    rw [row, execQuireReadyTimeout, loading, active]
    rfl
  obtain ⟨phase, failed, ready, _, held, _⟩ := State.failQuire_fails c
  exact ⟨_, row, phase, failed, ready, held⟩

/-- The ACTIVE slot taken up: no other slot changes. -/
theorem State.loadActive_slots {s : State} (c : s.canonical) : s.loadActive.spine.slots = s.spine.slots := by
  unfold State.loadActive
  split
  · next k found =>
    have active : (s.spine.slot k).state = .active := by
      have holds := List.find?_some (p := fun k => (s.spine.slot k).state == .active) found
      exact beq_iff_eq.mp holds
    split
    · have notTrial : ((s.spine.slot k).state == .trial) = false := by rw [active]; rfl
      simp only [State.loadSlot, State.onSpine, notTrial, Bool.false_eq_true, if_false]
    · exact (State.failQuire_fails c).2.2.2.1
  · exact (State.failQuire_fails c).2.2.2.1

theorem quireReadyTimeout_rejects {s : State} (sound : s.sound) (loading : s.spine.phase = .loading)
    (slot : s.spine.inUse < 2) (trial : s.spine.trial = true) : Completes .quireReadyTimeout s fun t =>
      ((t.spine.slots[s.spine.inUse]?).map QuireSlot.state) = some .rejected := by
  have row : exec .quireReadyTimeout s = .next
      (s.onSpine fun x => x.onSlot x.inUse fun q => { q with state := .rejected }).loadActive := by
    have row : exec .quireReadyTimeout s = execQuireReadyTimeout s := by rfl
    rw [row, execQuireReadyTimeout, loading, trial]
    rfl
  have slots : s.spine.slots.length = 2 := congrArg (fun u => u.2.2.2) sound.2
  refine ⟨_, row, ?_⟩
  dsimp only
  rw [State.loadActive_slots (by exact sound.1)]
  change ((modifyAt s.spine.slots s.spine.inUse fun q => { q with state := .rejected })[s.spine.inUse]?).map _ = _
  rw [getElem?_modifyAt_self _ (by omega)]
  rfl

/-! ### Heartbeats and guards (R555, R559) -/

theorem quireHeartbeat_clears {s : State} {d : Nat} (die : d < s.dies.length) (cores : d < s.spine.misses.length) :
    Completes (.quireHeartbeat d) s fun t => t.spine.misses[d]? = some 0 := by
  have row : exec (.quireHeartbeat d) s = .next (s.onSpine fun x => { x with misses := x.misses.set d 0 }) := if_pos die
  exact ⟨_, row, List.getElem?_set_self cores⟩

/-- The third heartbeat missed in a row counts a reload (R559). -/
theorem heartbeatMiss_counts {s : State} (c : s.canonical) {d n : Nat} (die : d < s.dies.length)
    (running : s.spine.phase = .running) (awake : s.powerReq < 3) (missed : s.spine.misses[d]? = some n) :
    Completes (.heartbeatMiss d) s fun t => t.spine.misses[d]? = some (if n < 2 then n + 1 else 0) ∧
      (2 ≤ n → Counted mailboxPage Ctr.mailboxQuireReloads 1 s t) := by
  have cores : d < s.spine.misses.length := (List.getElem?_eq_some_iff.mp missed).1
  have row : exec (.heartbeatMiss d) s = .next (
      if n + 1 < 3 then s.onSpine fun x => { x with misses := x.misses.set d (n + 1) }
      else (s.onSpine fun x => { x with misses := x.misses.set d 0 }).count mailboxPage Ctr.mailboxQuireReloads) := by
    have row : exec (.heartbeatMiss d) s = execHeartbeatMiss d s := by rfl
    have shallow : decide (3 ≤ s.powerReq) = false := decide_eq_false (by omega)
    rw [row, execHeartbeatMiss, atDie, if_pos die, running, shallow, missed]
    rfl
  refine ⟨_, row, ?_⟩
  dsimp only
  by_cases few : n < 2
  · rw [if_pos few, if_pos (by omega)]
    exact ⟨List.getElem?_set_self cores, fun most => absurd most (by omega)⟩
  · rw [if_neg few, if_neg (by omega)]
    exact ⟨List.getElem?_set_self cores, fun _ => State.counted_count _ _ _ c.2.1 c.2.2⟩

/-- A package warm reset while the Spine runs: nothing answers the host, and no queue or queue pair is left (R625). -/
theorem State.packageWarm_clears {s : State} (alive : s.spine.alive = true) :
    s.packageWarm.ready = false ∧ s.packageWarm.queues = [] ∧ s.packageWarm.qps = [] := by
  have released : (s.spine.phase == .held) = false := by
    cases phase : s.spine.phase with
    | held => simp [Spine.alive, phase] at alive
    | _ => rfl
  rw [State.packageWarm, released, if_neg (by decide)]
  exact ⟨rfl, rfl, rfl⟩

section Guards

variable {s : State} (alive : s.spine.alive = true)

include alive

theorem exec_watchdogExpiry :
    exec .watchdogExpiry s = .next (s.count mailboxPage Ctr.mailboxWatchdogResets).packageWarm := by
  have row : exec .watchdogExpiry s = execWatchdogExpiry s := by rfl
  rw [row, execWatchdogExpiry, alive, if_pos rfl]

theorem exec_stateChecksum (same : Bool) : exec (.stateChecksum same) s = .next (
    if same then s else (s.count mailboxPage Ctr.mailboxChecksumResets).packageWarm) := by
  have row : exec (.stateChecksum same) s = execStateChecksum same s := by rfl
  rw [row, execStateChecksum, alive]
  cases same <;> rfl

theorem exec_spineEccError (corrected : Bool) : exec (.spineEccError corrected) s = .next (
    if corrected then s.count mailboxPage Ctr.mailboxSpineEccCorrected else s.packageWarm) := by
  have row : exec (.spineEccError corrected) s = execSpineEccError corrected s := by rfl
  rw [row, execSpineEccError, alive]
  rfl

end Guards

end Sys2Proof.Machine

namespace Sys2Proof
open Machine

/-- Settles O48. -/
theorem thePartStarts : Obligations.ThePartStarts := by
  intro s sound
  refine ⟨bootRomStart_starts, spineStart_starts sound.1, fun d die => quireReady_reports sound die, fun loading slot =>
    ⟨quireReadyTimeout_fails sound.1 loading, quireReadyTimeout_rejects sound loading slot⟩, fun d die misses few =>
    ⟨quireHeartbeat_clears die (by omega), fun n => heartbeatMiss_counts sound.1 die⟩, fun alive => ?_⟩
  exact ⟨⟨_, exec_watchdogExpiry alive, State.packageWarm_clears alive⟩,
    ⟨_, exec_stateChecksum alive false, State.packageWarm_clears alive⟩, ⟨_, exec_stateChecksum alive true, rfl⟩,
    ⟨_, exec_spineEccError alive true, State.counted_count _ _ _ sound.1.2.1 sound.1.2.2⟩,
    ⟨_, exec_spineEccError alive false, State.packageWarm_clears alive⟩⟩

/-- Settles O49. -/
theorem imagesAreDelivered : Obligations.ImagesAreDelivered := by
  intro s n alive slots
  refine ⟨fun h => ⟨fun admitted => ?_, fun refused => ?_⟩, fun v q bs ok session own => ⟨fun other => ?_,
    fun next whole => ⟨fun more => ?_, fun last => ?_⟩⟩, ?_, fun v session own => ?_, ⟨_, rfl, rfl⟩⟩
  · refine ⟨_, exec_offer alive n h, ?_⟩
    rw [admitted, if_neg (fun c => c rfl)]
    exact ⟨rfl, Spine.offered_erases slots⟩
  · refine ⟨_, exec_offer alive n h, ?_⟩
    rw [if_pos refused]
    rfl
  · exact ⟨_, exec_block_other alive session own bs ok other, rfl⟩
  · refine ⟨_, exec_block_taken alive session own ok next whole, v.taken bs, ?_⟩
    rw [if_neg (by omega), State.takeBlock_spine]
    exact ⟨rfl, own, rfl, rfl, rfl⟩
  · refine ⟨_, exec_block_taken alive session own ok next whole, ?_⟩
    rw [if_pos last, State.takeBlock_spine]
    refine ⟨Spine.deliver_delivery _ _ _, fun quire written good => ?_, fun spine written good sane => ?_⟩
    · subst written
      exact Spine.deliver_quire (x := { s.spine with delivery := some (v.taken bs) }) (v := v.taken bs) slots quire good
    · subst written
      exact Spine.deliver_spine (x := { s.spine with delivery := some (v.taken bs) }) (v := v.taken bs) spine good sane
  · refine ⟨s.serviceSend dkStatus 0 n 0 s.statusResponse, ?_, rfl, rfl⟩
    have row : exec (.statusRequest n) s = execStatusRequest n s := by rfl
    rw [row, execStatusRequest, State.served_of_alive alive]
  · refine ⟨s.onSpine fun x => { x with delivery := none }, ?_, rfl⟩
    have row : exec (.deliveryAbort n) s = execDeliveryAbort n s := by rfl
    rw [row, execDeliveryAbort, State.served_of_alive alive, session, if_pos (by rw [← own]; rfl)]

end Sys2Proof
end

section
-- One proof after another: side by side, the proofs of the whole text need more threads than the memory limit has room for.
set_option Elab.async false
/-!
The Spine's mailbox (R592 to R594, R614, R615), keys (R587, R592) and random sources (R582).
-/

namespace Sys2Proof.Machine

/-! ### Bytes -/

theorem length_fitTo (n : Nat) (bs : List Byte) : (fitTo n bs).length = n := by
  simp only [fitTo, zeros, List.length_append, List.length_take, List.length_replicate]
  omega

theorem fromBE_lt (bs : List Byte) : fromBE bs < 256 ^ bs.length := by
  induction bs using List.reverseRecOn with
  | nil => decide
  | append_singleton bs b ih =>
    have byte := b.isLt
    rw [fromBE] at ih ⊢
    rw [List.foldl_append, List.foldl_cons, List.foldl_nil, List.length_append, List.length_singleton, Nat.pow_succ]
    omega

/-- A big-endian number of `n` bytes. -/
theorem be_lt (bs : List Byte) (o n : Nat) : be bs o n < 256 ^ n := by
  have short : (slice bs o n).length ≤ n := by
    rw [slice, List.length_take]
    exact Nat.min_le_left ..
  exact Nat.lt_of_lt_of_le (fromBE_lt _) (Nat.pow_le_pow_right (by decide) short)

/-! ### CMAC (R588) -/

theorem length_toBE (n x : Nat) : (toBE n x).length = n := by rw [toBE, List.length_reverse, length_toLE]

/-- The length of a block of AES under a key, whatever the block is. -/
theorem length_aesEncrypt (key block : List Byte) :
    (aesEncrypt key block).length = min 16 (((roundKeys key)[14]?).getD []).length := by
  simp only [aesEncrypt, List.length_map, List.length_zipWith, shiftRows, List.length_range]

/-- A CMAC has the same length for every message. -/
theorem length_cmac (key msg : List Byte) : (cmac key msg).length = min 16 (((roundKeys key)[14]?).getD []).length :=
  length_aesEncrypt _ _

theorem length_cmac_of_eq {key msg : List Byte} {x : Nat} (h : cmac key msg = toBE 16 x) (other : List Byte) :
    (cmac key other).length = 16 := by
  rw [length_cmac, ← length_cmac key msg, h, length_toBE]

theorem length_mgmtHead (m : MgmtMessage) (code : Nat) : (mgmtHead m code).length = 32 := by
  simp only [mgmtHead, List.length_append, length_toBE, List.length_cons, List.length_nil]

/-- A request carried out holds a key whose CMACs are whole. -/
theorem State.mgmtOk_key {s : State} {m : MgmtMessage} {code : Nat} (ok : s.mgmtOk m code = true) (msg : List Byte) :
    (cmac (s.spine.fabricKey.getD []) msg).length = 16 := by
  unfold State.mgmtOk at ok
  split at ok
  · exact nomatch ok
  · next k key =>
    simp only [Bool.and_eq_true] at ok
    rw [key, Option.getD_some]
    exact length_cmac_of_eq (beq_iff_eq.mp ok.1.1) msg

/-- A request that is carried out leaves, of the Spine, its SEQUENCE alone (R589). -/
theorem State.mgmtRun_spine {s : State} (c : s.canonical) (d code : Nat) (m : MgmtMessage) :
    (s.mgmtRun d code m).after.spine = { s.spine with fabricSeq := m.sequence.toNat } :=
  (State.mgmt_within (s := s.onSpine fun x => { x with fabricSeq := m.sequence.toNat }) (d := d) (code := code)
    (arg0 := m.arg0.toNat) (arg1 := m.arg1.toNat)).areas .spine (by decide) c

/-- A response of fabric management has 48 bytes (R588). -/
theorem State.length_mgmtResponse {s : State} (whole : ∀ msg, (cmac (s.spine.fabricKey.getD []) msg).length = 16)
    (m : MgmtMessage) (code status : Nat) (value : Option Nat) (source dest : Nat) :
    (s.mgmtResponse m code status value source dest).1.length = 48 := by
  have key (b : Bool) : (if b then s.takeFree.2 else s.takeFree.2.takeFree.2).spine.fabricKey = s.spine.fabricKey := by
    cases b <;> rfl
  simp only [State.mgmtResponse, List.length_append, length_mgmtHead, key, whole]

/-! ### The end of a mailbox command (R593) -/

theorem State.mbxEnd_word {s : State} (c : s.canonical) (command result : Nat) (response : List Byte) :
    (s.mbxEnd command result response).word mailboxPage 0x114 =
      BitVec.ofNat 64 (response.length * 2 ^ 16 + command * 2 ^ 8 + result) := by
  unfold State.mbxEnd
  extract_lets a sent
  have cs : sent.canonical := by
    simp only [sent]
    split
    · exact c
    · exact State.issueHost_within.canonical c
  have raised : Within 4100 (sent.setReg mailboxPage 0x114 (response.length * 2 ^ 16 + command * 2 ^ 8 + result)) _ :=
    State.raise_within (p := mailboxPage) (mask := 1)
  have same := Area.same_reg (raised.areas .ownRegs (by decide) (State.setReg_any.canonical cs)) raised.part mailboxPage
    (off := 0x114) (by decide) (by decide)
  rw [State.word, same]
  exact State.word_setReg_self _ _ _ cs.2.1

/-- The end of a command counts on the PF's function page and its colophon page alone. -/
theorem State.KeepsCtr.mbxEnd {k : Nat} {s t : State} (h : State.KeepsCtr mailboxPage k s t) (command result : Nat) :
    State.KeepsCtr mailboxPage k s (t.mbxEnd command result) := by
  unfold State.mbxEnd
  simp only [List.isEmpty_nil, if_true]
  exact (h.within (State.setReg_own (by decide) (by decide))).within State.raise_within

section Commands

variable {s : State} (host : s.hostReady)

include host

/-- A mailbox command that ends with a result and a response shows them in MBX_STAT (R593), and its end changes registers,
the PF's record, interrupt requests and what is sent alone. -/
theorem mailbox_shows {i : Instr} {u : State} {command result : Nat} {response : List Byte} {P : State → Prop}
    (row : exec i s = .next (s.fromFn 0 (u.mbxEnd command result response))) (cu : u.canonical)
    (post : ∀ v, v.word mailboxPage 0x114 = BitVec.ofNat 64 (response.length * 2 ^ 16 + command * 2 ^ 8 + result) →
      Within 4198446 u v → P v) : Completes i s P := by
  rw [State.fromFn_of_hostReady host] at row
  exact ⟨_, row, post _ (State.mbxEnd_word cu ..) State.mbxEnd_within⟩

theorem getStatus_shows (c : s.canonical) : Completes .getStatus s fun t => t.word mailboxPage 0x114 = 0x00400100 := by
  have length : s.statusResponse.length = 64 := length_fitTo 64 _
  refine mailbox_shows host (i := .getStatus) (u := s) (response := s.statusResponse) (by rfl) c fun v word _ => ?_
  rw [length] at word
  exact word

theorem attest_shows (c : s.canonical) (r : List Byte) : Completes (.attest r) s fun t => t.word mailboxPage 0x114 =
    if r.length = 32 then BitVec.ofNat 64 ((s.attestReport r).1.length * 65536 + 0x200) else 0x202 := by
  have row : exec (.attest r) s = .next (s.fromFn 0 (s.mbxAttest r)) := by rfl
  unfold State.mbxAttest at row
  by_cases whole : r.length = 32
  · rw [if_neg (fun n => n whole)] at row
    refine mailbox_shows host row (State.attestReport_within.canonical c) fun v word _ => ?_
    have value (n : Nat) : n * 2 ^ 16 + 2 * 2 ^ 8 + mrOk = n * 65536 + 0x200 := by
      rw [mrOk]
      omega
    rw [word, if_pos whole, value]
  · rw [if_pos whole] at row
    refine mailbox_shows host row c fun v word _ => ?_
    rw [word, if_neg whole]
    rfl

/-! ### LOAD_FABRIC_KEY (R580, R589) -/

theorem loadFabricKey_unlocked (c : s.canonical) (b : List Byte) (unlocked : s.spine.unlocked = true) :
    Completes (.loadFabricKey b) s fun t => t.word mailboxPage 0x114 = 0x304 := by
  have row : exec (.loadFabricKey b) s = .next (s.fromFn 0 (s.mbxFabricKey b)) := by rfl
  unfold State.mbxFabricKey at row
  rw [unlocked, if_pos rfl] at row
  exact mailbox_shows host row c fun v word _ => word

/-- A fabric key that is loaded starts its sequence at zero. -/
theorem loadFabricKey_loads (c : s.canonical) {b k : List Byte} (locked : s.spine.unlocked = false) (good : s.blobOk b = true)
    (kind : blobKind b = 2) (fn : bits (le b 8 4) 4 0 = 0) (slot : bits (le b 8 4) 14 8 = 0) (key : s.unwrap b = some k) :
    Completes (.loadFabricKey b) s fun t => t.word mailboxPage 0x114 = 0x300 ∧
      t.spine.fabricKey = some (k.take 32) ∧ t.spine.fabricSeq = 0 := by
  have row : exec (.loadFabricKey b) s = .next (s.fromFn 0 (s.mbxFabricKey b)) := by rfl
  unfold State.mbxFabricKey at row
  rw [locked, good, kind, fn, slot, key] at row
  refine mailbox_shows host row (by exact c) fun v word w => ⟨word, ?_⟩
  have spine : v.spine = { s.spine with fabricKey := some (k.take 32), fabricSeq := 0 } := w.areas .spine (by decide) c
  rw [spine]
  exact ⟨rfl, rfl⟩

/-! ### FABRIC_CMD (R588 to R590) -/

section FabricCmd

variable {d : Nat} {r : List Byte} (die : d < s.dies.length)

include die

theorem fabricCmd_badFormat (c : s.canonical) (cut : r.length ≠ 48) :
    Completes (.fabricCmd d r) s fun t => t.word mailboxPage 0x114 = 0x402 := by
  have row : exec (.fabricCmd d r) s = .next (s.fromFn 0 (s.mbxFabric d r)) := if_pos die
  unfold State.mbxFabric at row
  rw [if_pos cut] at row
  exact mailbox_shows host row c fun v word _ => word

/-- A request whose CMAC, SEQUENCE or flags do not hold is dropped and counted. -/
theorem fabricCmd_drops (c : s.canonical) (whole : r.length = 48) (bad : s.mgmtOk (mailboxMessage r) (be r 0 1) = false) :
    Completes (.fabricCmd d r) s fun t => t.word mailboxPage 0x114 = 0x403 ∧
      Counted mailboxPage Ctr.mailboxFabricAuthDrops 1 s t := by
  have row : exec (.fabricCmd d r) s = .next (s.fromFn 0 (s.mbxFabric d r)) := if_pos die
  unfold State.mbxFabric at row
  rw [if_neg (fun n => n whole)] at row
  dsimp only at row
  rw [bad, Bool.not_false, if_pos rfl] at row
  have dropped : s.mgmtDrop.canonical := State.mgmtDrop_within.canonical c
  rw [State.fromFn_of_hostReady host] at row
  exact ⟨_, row, State.mbxEnd_word dropped .., (State.KeepsCtr.refl c).counted ((State.KeepsCtr.refl dropped).mbxEnd _ _)⟩

/-- SET_INJECT_EDITION through the mailbox is answered, and leaves its SEQUENCE. -/
theorem fabricCmd_runs (c : s.canonical) (whole : r.length = 48) (ok : s.mgmtOk (mailboxMessage r) (be r 0 1) = true)
    (code : be r 0 1 = 3) : Completes (.fabricCmd d r) s fun t => t.word mailboxPage 0x114 = 0x00300400 ∧
      t.spine.fabricSeq = be r 8 8 := by
  have row : exec (.fabricCmd d r) s = .next (s.fromFn 0 (s.mbxFabric d r)) := if_pos die
  unfold State.mbxFabric at row
  rw [if_neg (fun n => n whole)] at row
  dsimp only at row
  rw [ok, Bool.not_true, if_neg (by decide), code, if_neg (by decide)] at row
  rw [code] at ok
  have ran := (State.mgmtRun_within (s := s) (d := d) (code := 3) (m := mailboxMessage r)).canonical c
  have spine := State.mgmtRun_spine c d 3 (mailboxMessage r)
  have answered (m : MgmtMessage) (status : Nat) (value : Option Nat) :=
    State.mgmtResponse_within (s := (s.mgmtRun d 3 (mailboxMessage r)).after) (m := m) (code := 3) (status := status)
      (value := value) (source := 0) (dest := 0)
  have key : (s.mgmtRun d 3 (mailboxMessage r)).after.spine.fabricKey = s.spine.fabricKey := by rw [spine]
  have length := State.length_mgmtResponse (s := (s.mgmtRun d 3 (mailboxMessage r)).after)
    (fun msg => by rw [key]; exact State.mgmtOk_key ok msg) (mailboxMessage r) 3 (s.mgmtRun d 3 (mailboxMessage r)).status
    (s.mgmtRun d 3 (mailboxMessage r)).value 0 0
  refine mailbox_shows host row ((answered ..).canonical ran) fun v word w => ⟨?_, ?_⟩
  · rw [word, length]
    rfl
  · have sequence : (mailboxMessage r).sequence.toNat = be r 8 8 := Nat.mod_eq_of_lt (be_lt r 8 8)
    rw [w.areas .spine (by decide) ((answered ..).canonical ran), (answered ..).areas .spine (by decide) ran, spine]
    exact sequence

end FabricCmd

/-! ### CONFIRM_QUIRE (R567, R570) -/

theorem confirmQuire_confirms (c : s.canonical) (slots : s.spine.slots.length = 2) (slot : s.spine.inUse < 2) :
    Completes .confirmQuire s fun t => if s.spine.trial = true ∧ s.spine.phase = .running then
        t.word mailboxPage 0x114 = 0x500 ∧ (t.spine.slots[s.spine.inUse]?).map QuireSlot.state = some .active
      else t.word mailboxPage 0x114 = 0x504 ∧ t.spine = s.spine := by
  have row : exec .confirmQuire s = .next (s.fromFn 0 s.mbxConfirm) := by rfl
  unfold State.mbxConfirm at row
  by_cases trial : s.spine.trial = true ∧ s.spine.phase = .running
  · obtain ⟨tried, runs⟩ := trial
    rw [tried, runs, if_pos (by decide)] at row
    refine mailbox_shows host row (by exact c) fun v word w => ?_
    have spine : v.spine = s.spine.confirm := w.areas .spine (by decide) c
    rw [if_pos ⟨tried, runs⟩, spine]
    refine ⟨word, ?_⟩
    change ((modifyAt (modifyAt s.spine.slots s.spine.inUse fun q => { q with state := .active }) (1 - s.spine.inUse)
      fun _ => {})[s.spine.inUse]?).map _ = _
    rw [getElem?_modifyAt, if_neg (by omega), getElem?_modifyAt_self _ (by omega)]
    rfl
  · have idle : (s.spine.trial && s.spine.phase == .running) = false := by
      rw [Bool.eq_false_iff]
      intro both
      rw [Bool.and_eq_true, beq_iff_eq] at both
      exact trial both
    rw [idle, if_neg (by decide)] at row
    refine mailbox_shows host row c fun v word w => ?_
    rw [if_neg trial]
    exact ⟨word, w.areas .spine (by decide) c⟩

/-! ### The debug unlock (R592) -/

theorem debugChallenge_keeps (c : s.canonical) : Completes .debugChallenge s fun t =>
    t.word mailboxPage 0x114 = 0x00280600 ∧ ∃ n, t.spine.nonce = some n ∧ n.length = 32 := by
  have row : exec .debugChallenge s = .next (s.fromFn 0 s.mbxChallenge) := by rfl
  have length := State.takeFreeBytes_length 32 s
  have taken : (State.takeFreeBytes 32 s).2.canonical := State.takeFreeBytes_within.canonical c
  unfold State.mbxChallenge at row
  refine mailbox_shows host row (by exact taken) fun v word w =>
    ⟨?_, _, congrArg Spine.nonce (w.areas .spine (by decide) taken), length⟩
  rw [word, List.length_append, length_toLE, length]
  rfl

omit host in
/-- What an accepted debug token erases (R592). -/
theorem State.unlock_erases (s : State) : s.unlock.keys = [] ∧ s.unlock.spine.unlocked = true ∧
    s.unlock.spine.fabricKey = none ∧ s.unlock.spine.nonce = none ∧ ∀ d < s.dies.length, (s.unlock.integ d).key = zeros 32 := by
  obtain ⟨ds, eq, _, dies⟩ := State.foldl_onDie { s with keys := [] } (fun _ x => { x with integ := { x.integ with key := zeros 32 } })
    (l := s.dieList) List.nodup_range
  have unlock : s.unlock = State.onSpine { s with keys := [], dies := ds }
      fun x => { x with unlocked := true, nonce := none, fabricKey := none } := by
    rw [State.unlock, State.eachDie]
    exact congrArg (State.onSpine · _) eq
  rw [unlock]
  refine ⟨rfl, rfl, rfl, rfl, fun d die => ?_⟩
  exact congrArg (fun x : Die => x.integ.key) ((dies d die).trans (if_pos (List.mem_range.mpr die)))

theorem debugUnlock_unlocks (c : s.canonical) (b : List Byte) : Completes (.debugUnlock b) s fun t =>
    if tokenForm b = true ∧ s.spine.tokenOk b = true then
      t.word mailboxPage 0x114 = 0x700 ∧ t.spine.unlocked = true ∧ t.keys = [] ∧ t.spine.fabricKey = none ∧
      t.spine.nonce = none ∧ ∀ d < s.dies.length, (t.integ d).key = zeros 32
    else t.spine = s.spine ∧ t.word mailboxPage 0x114 = if tokenForm b = true then 0x703 else 0x702 := by
  have row : exec (.debugUnlock b) s = .next (s.fromFn 0 (s.mbxUnlock b)) := by rfl
  unfold State.mbxUnlock at row
  cases form : tokenForm b with
  | false =>
    rw [form, Bool.not_false, if_pos rfl] at row
    refine mailbox_shows host row c fun v word w => ?_
    rw [if_neg (fun h => Bool.false_ne_true h.1), if_neg Bool.false_ne_true]
    exact ⟨w.areas .spine (by decide) c, word⟩
  | true =>
    cases accepted : s.spine.tokenOk b with
    | false =>
      rw [form, accepted] at row
      refine mailbox_shows host (u := s) row c fun v word w => ?_
      rw [if_neg (fun h => Bool.false_ne_true h.2), if_pos rfl]
      exact ⟨w.areas .spine (by decide) c, word⟩
    | true =>
      rw [form, accepted] at row
      have unlocked : s.unlock.canonical := State.unlock_within.canonical c
      obtain ⟨keys, unlock, fabricKey, nonce, erased⟩ := s.unlock_erases
      refine mailbox_shows host (u := s.unlock) row unlocked fun v word w => ?_
      rw [if_pos ⟨rfl, rfl⟩, w.areas .spine (by decide) unlocked, w.areas .keys (by decide) unlocked]
      refine ⟨word, unlock, keys, fabricKey, nonce, fun d die => ?_⟩
      have same : (v.die d).integ = (s.unlock.die d).integ := State.die_congr (w.areas .integrity (by decide) unlocked) d
      rw [State.integ, same]
      exact erased d die

/-! ### Ramp records (R614, R615) -/

theorem approveRampTable_judges (c : s.canonical) (r : List Byte) : Completes (.approveRampTable r) s fun t =>
    t.word mailboxPage 0x114 = if rampHeaderOk r = true then if rampRecordOk s.part r = true then 0x800 else 0x805 else 0x802 := by
  have row : exec (.approveRampTable r) s = .next (s.fromFn 0 (s.mbxRamp r)) := by rfl
  unfold State.mbxRamp at row
  cases header : rampHeaderOk r with
  | false =>
    rw [header] at row
    exact mailbox_shows host (u := s) row c fun v word _ => word
  | true =>
    cases record : rampRecordOk s.part r with
    | false =>
      rw [header, record] at row
      exact mailbox_shows host (u := s.policyViolation) row (State.policyViolation_within.canonical c) fun v word _ => word
    | true =>
      rw [header, record] at row
      exact mailbox_shows host (u := s.applyRecord r) row (State.applyRecord_within.canonical c) fun v word _ => word

end Commands

end Sys2Proof.Machine

namespace Sys2Proof
open Machine

/-- Settles O50. -/
theorem mailboxCommandsAct : Obligations.MailboxCommandsAct := by
  intro s sound host
  have c := sound.1
  have slots : s.spine.slots.length = 2 := congrArg (fun u => u.2.2.2) sound.2
  exact ⟨getStatus_shows host c, attest_shows host c, fun b => ⟨loadFabricKey_unlocked host c b,
      fun k locked good kind fn slot key => loadFabricKey_loads host c locked good kind fn slot key⟩,
    fun d r die => ⟨fabricCmd_badFormat host die c, fabricCmd_drops host die c, fabricCmd_runs host die c⟩,
    confirmQuire_confirms host c slots, debugChallenge_keeps host c, debugUnlock_unlocks host c,
    approveRampTable_judges host c⟩

end Sys2Proof
end

section
-- One proof after another: side by side, the proofs of the whole text need more threads than the memory limit has room for.
set_option Elab.async false
/-!
Key commands (R587, R592) and random sources (R582).
-/

namespace Sys2Proof.Machine

/-! ### Key commands (R586, R587) -/

theorem bits7_lt (v : Nat) : bits v 6 0 < 128 := Nat.mod_lt _ (by decide)

theorem regReset_cipherUser_lt (part : Part) (f : Nat) : regReset part (cipherUserPage 0 f) 0x10C < 2 ^ 64 := by
  have row : ((regDefAt .cipherUser 0x10C).map RegDef.reset).getD 0 < 2 ^ 64 := by decide
  exact row

/-- A key command that ends shows its slot and its result in KEY_STAT. -/
theorem State.keyEnd_shows {s : State} (c : s.canonical) (f : Nat) {v result : Nat} (small : result < 2 ^ 24) :
    (s.keyEnd f (bits v 6 0) result).reg (cipherUserPage 0 f) 0x10C = bits v 6 0 * 2 ^ 24 + result := by
  have slot := bits7_lt v
  have set : State.KeepsReg (cipherUserPage 0 f) 0x10C
      (s.setReg (cipherUserPage 0 f) 0x10C (bits v 6 0 % 128 * 2 ^ 24 + result)) (s.keyEnd f (bits v 6 0) result) :=
    (State.KeepsReg.refl (State.setReg_any.canonical c)).within State.raise_within (by decide) (by decide)
  rw [set.reg, Nat.mod_eq_of_lt slot]
  exact State.reg_setReg_of_lt c.2.1 (by omega) (regReset_cipherUser_lt _ _)

theorem krOk_lt : krOk < 2 ^ 24 := by decide
theorem krInUse_lt : krInUse < 2 ^ 24 := by decide

theorem State.keyEnd_keys {s : State} (c : s.canonical) (f h result : Nat) : (s.keyEnd f h result).keys = s.keys :=
  State.keyEnd_within.areas .keys (by decide) c

section KeyCommands

variable {s : State} {f : Nat} {v : Word} (c : s.canonical) (host : s.hostReady) (fn : f < s.fns.length)
  (takes : s.takes (cipherUserPage 0 f)) (go : bit v.toNat 31 = true)

include host fn takes

/-- A command that the host writes to a function's key page. -/
theorem keyCommand_runs {i : Instr} {t : State}
    (row : exec i s = atFn s f (s.fromFn f (s.guarded (cipherUserPage 0 f) t))) : exec i s = .next t := by
  rw [row, State.fromFn_of_hostReady host, State.guarded_of_takes takes, atFn, if_pos fn]

include c go

/-- A key that something names stays; one that nothing names is gone (R587). -/
theorem keyErase_erases (erase : bit v.toNat 30 = true) (wf : FMap.wf s.keys = true) : Completes (.keyErase f v) s fun t =>
    if s.keyInUse f (bits v.toNat 6 0) = true then
      t.keys = s.keys ∧ t.reg (cipherUserPage 0 f) 0x10C = bits v.toNat 6 0 * 2 ^ 24 + krInUse
    else t.keySlot f (bits v.toNat 6 0) = none ∧ t.reg (cipherUserPage 0 f) 0x10C = bits v.toNat 6 0 * 2 ^ 24 + krOk := by
  have row : exec (.keyErase f v) s = .next (
      if s.keyInUse f (bits v.toNat 6 0) then s.keyEnd f (bits v.toNat 6 0) krInUse
      else State.keyEnd { s with keys := FMap.erase s.keys (f * 65 + bits v.toNat 6 0) } f (bits v.toNat 6 0) krOk) := by
    refine (keyCommand_runs host fn takes (i := .keyErase f v) rfl).trans ?_
    dsimp only
    rw [go, erase]
    rfl
  refine ⟨_, row, ?_⟩
  dsimp only
  split
  · exact ⟨State.keyEnd_keys c .., State.keyEnd_shows c f krInUse_lt⟩
  · have erased : State.canonical { s with keys := FMap.erase s.keys (f * 65 + bits v.toNat 6 0) } := c
    refine ⟨?_, State.keyEnd_shows erased f krOk_lt⟩
    rw [State.keySlot, State.keyEnd_keys erased]
    exact (FMap.get?_erase (b := 0) _ wf).trans (if_pos rfl)

omit c in
theorem exec_keyLoad (load : bit v.toNat 30 = false) : exec (.keyLoad f v) s = .next
    (((s.loadResult f (bits v.toNat 6 0)).2.2.count (cipherUserPage 0 f)
      (if (s.loadResult f (bits v.toNat 6 0)).1 = 0 then Ctr.cipherUserKeyLoads else Ctr.cipherUserKeyLoadFailures)).keyEnd
        f (bits v.toNat 6 0) (s.loadResult f (bits v.toNat 6 0)).1) := by
  refine (keyCommand_runs host fn takes (i := .keyLoad f v) rfl).trans ?_
  dsimp only
  rw [go, load]
  rfl

/-- After a debug unlock nothing is loaded (R592). -/
theorem keyLoad_unlocked (load : bit v.toNat 30 = false) (unlocked : s.spine.unlocked = true) :
    Completes (.keyLoad f v) s fun t => t.keys = s.keys ∧
      Counted (cipherUserPage 0 f) Ctr.cipherUserKeyLoadFailures 1 s t := by
  have result : s.loadResult f (bits v.toNat 6 0) = (krDebugUnlocked, [], s) := by
    rw [State.loadResult, unlocked]
    rfl
  refine ⟨_, exec_keyLoad host fn takes go load, ?_⟩
  rw [result, if_neg (show krDebugUnlocked ≠ 0 by decide)]
  dsimp only
  have counted : State.KeepsCtr (cipherUserPage 0 f) Ctr.cipherUserKeyLoadFailures
      (s.count (cipherUserPage 0 f) Ctr.cipherUserKeyLoadFailures)
      ((s.count (cipherUserPage 0 f) Ctr.cipherUserKeyLoadFailures).keyEnd f (bits v.toNat 6 0) krDebugUnlocked) :=
    (State.KeepsCtr.refl (State.count_within.canonical c)).within State.keyEnd_within
  exact ⟨State.keyEnd_keys (State.count_within.canonical c) f _ _, (State.KeepsCtr.refl c).counted counted⟩

end KeyCommands

/-- A load that ends well has put a key into its slot. -/
theorem State.loadResult_ok {s u : State} {f h : Nat} {k : List Byte} (ok : s.loadResult f h = (krOk, k, u)) :
    (u.keySlot f h).isSome = true := by
  unfold State.loadResult at ok
  dsimp only at ok
  split at ok
  · cases ok
  · split at ok
    · cases ok
    · split at ok
      · split at ok
        · cases ok
        · split at ok
          · cases ok
          · split at ok
            · cases ok
            · split at ok
              · cases ok
              · cases ok
                rw [State.keySlot, State.putKey, FMap.get?_set_self]
                rfl
      · cases ok

/-- A key that is loaded is in its slot (R587). -/
theorem keyLoad_loads {s u : State} {f : Nat} {v : Word} {k : List Byte} (c : s.canonical) (host : s.hostReady)
    (fn : f < s.fns.length) (takes : s.takes (cipherUserPage 0 f)) (go : bit v.toNat 31 = true)
    (load : bit v.toNat 30 = false) (ok : s.loadResult f (bits v.toNat 6 0) = (krOk, k, u)) :
    Completes (.keyLoad f v) s fun t => t.keys = u.keys ∧ (t.keySlot f (bits v.toNat 6 0)).isSome = true ∧
      t.reg (cipherUserPage 0 f) 0x10C = bits v.toNat 6 0 * 2 ^ 24 + krOk := by
  have cu : u.canonical := by
    have w := (State.loadResult_within (s := s) (f := f) (a2 := bits v.toNat 6 0)).canonical c
    rwa [ok] at w
  have row : exec (.keyLoad f v) s =
      .next ((u.count (cipherUserPage 0 f) Ctr.cipherUserKeyLoads).keyEnd f (bits v.toNat 6 0) krOk) := by
    rw [exec_keyLoad host fn takes go load, ok, if_pos (show krOk = 0 from rfl)]
  have counted : (u.count (cipherUserPage 0 f) Ctr.cipherUserKeyLoads).canonical := State.count_within.canonical cu
  have keys := State.keyEnd_keys counted f (bits v.toNat 6 0) krOk
  have put := State.loadResult_ok ok
  rw [State.keySlot] at put
  refine ⟨_, row, keys, ?_, State.keyEnd_shows counted f krOk_lt⟩
  rw [State.keySlot, keys]
  exact put

/-! ### Random sources (R582) -/

theorem cipherPage_apart (d : Nat) : (cipherPage d).addr ≠ (colophonPage d).addr := by
  simp only [Page.addr, Page.off, PageKind.place]
  omega

section Entropy

variable {s : State} {d : Nat} (c : s.canonical) (die : d < s.dies.length) (released : (s.die d).computeReset = false)

include c die released

/-- A health failure is counted and reported (R582). -/
theorem entropyHealthFailure_counts : Completes (.entropyHealthFailure d) s fun t =>
    (t.die d).entropy = { (s.die d).entropy with ok := false } ∧ Counted (cipherPage d) Ctr.cipherHealthFailures 1 s t := by
  have row : exec (.entropyHealthFailure d) s = .next
      (((s.onDie d fun x => { x with entropy := { x.entropy with ok := false } }).count (cipherPage d)
        Ctr.cipherHealthFailures).error (cipherPage d) 0x0100) := by
    have row : exec (.entropyHealthFailure d) s = execEntropyHealthFailure d s := by rfl
    rw [row, execEntropyHealthFailure, atDie, if_pos die, released, if_neg Bool.false_ne_true]
  have failed : State.KeepsCtr (cipherPage d) Ctr.cipherHealthFailures s
      (s.onDie d fun x => { x with entropy := { x.entropy with ok := false } }) := (State.KeepsCtr.refl c).congr rfl rfl rfl
  have counted := State.count_within (p := cipherPage d) (k := Ctr.cipherHealthFailures) (n := 1) |>.canonical failed.canonical
  have same := State.die_congr (State.error_within (p := cipherPage d) (code := 0x0100) (source := 0) (data := 0) |>.areas
    .entropy (by decide) counted) d
  have reported := (State.KeepsCtr.refl (p := cipherPage d) (k := Ctr.cipherHealthFailures) counted).error
    (q := cipherPage d) (cipherPage_apart d) 0x0100 0 0
  refine ⟨_, row, same.trans ?_, failed.counted reported⟩
  rw [State.die_count, State.die_onDie _ _ _ _ die, if_pos rfl]

/-- The source works again once it passes (R582). -/
theorem entropyHealthPass_seeds : Completes (.entropyHealthPass d) s fun t =>
    (t.die d).entropy = { ok := true, seeded := true, blocked := false } ∧
      ((s.die d).entropy.seeded = true → Counted (cipherPage d) Ctr.cipherReseeds 1 s t) := by
  have row : exec (.entropyHealthPass d) s = .next (
      if (s.die d).entropy.seeded then
        (s.onDie d fun x => { x with entropy := { ok := true, seeded := true, blocked := false } }).count (cipherPage d)
          Ctr.cipherReseeds
      else s.onDie d fun x => { x with entropy := { ok := true, seeded := true, blocked := false } }) := by
    have row : exec (.entropyHealthPass d) s = execEntropyHealthPass d s := by rfl
    rw [row, execEntropyHealthPass, atDie, if_pos die, released, if_neg Bool.false_ne_true]
  have seeded : ((s.onDie d fun x => { x with entropy := { ok := true, seeded := true, blocked := false } }).die d).entropy =
      { ok := true, seeded := true, blocked := false } := by
    rw [State.die_onDie _ _ _ _ die, if_pos rfl]
  refine ⟨_, row, ?_⟩
  cases (s.die d).entropy.seeded with
  | true => exact ⟨seeded, fun _ => State.counted_count _ _ _ c.2.1 c.2.2⟩
  | false => exact ⟨seeded, fun h => nomatch h⟩

/-- A reseed that falls due while a health failure stands is blocked (R582). -/
theorem drbgReseed_reseeds : Completes (.drbgReseed d) s fun t =>
    if (s.die d).entropy.ok = true then (t.die d).entropy.seeded = true ∧ Counted (cipherPage d) Ctr.cipherReseeds 1 s t
    else (t.die d).entropy = { (s.die d).entropy with blocked := true } := by
  have row : exec (.drbgReseed d) s = .next (
      if (s.die d).entropy.ok then
        (s.onDie d fun x => { x with entropy := { x.entropy with seeded := true } }).count (cipherPage d) Ctr.cipherReseeds
      else s.onDie d fun x => { x with entropy := { x.entropy with blocked := true } }) := by
    have row : exec (.drbgReseed d) s = execDrbgReseed d s := by rfl
    rw [row, execDrbgReseed, atDie, if_pos die, released, if_neg Bool.false_ne_true]
  refine ⟨_, row, ?_⟩
  cases (s.die d).entropy.ok with
  | true =>
    refine ⟨?_, State.counted_count _ _ _ c.2.1 c.2.2⟩
    rw [if_pos rfl, State.die_count, State.die_onDie _ _ _ _ die, if_pos rfl]
  | false =>
    refine congrArg Die.entropy ((State.die_onDie _ _ _ _ die).trans (if_pos rfl))

end Entropy

end Sys2Proof.Machine

namespace Sys2Proof
open Machine

/-- Settles O51. -/
theorem keysAndEntropyAct : Obligations.KeysAndEntropyAct := by
  refine ⟨fun s f v sound host fn _ takes go => ⟨fun erase wf => ?_, fun load => ⟨fun unlocked => ?_, fun k u ok => ?_⟩⟩,
    fun s d sound die released => ⟨?_, ?_, ?_⟩⟩
  · exact keyErase_erases sound.1 host fn takes go erase wf
  · exact keyLoad_unlocked sound.1 host fn takes go load unlocked
  · exact keyLoad_loads sound.1 host fn takes go load ok
  · exact entropyHealthFailure_counts sound.1 die released
  · exact entropyHealthPass_seeds sound.1 die released
  · exact drbgReseed_reseeds sound.1 die released

end Sys2Proof
end

section
-- One proof after another: side by side, the proofs of the whole text need more threads than the memory limit has room for.
set_option Elab.async false
/-!
Fabric management (R588 to R590, R657).
-/

namespace Sys2Proof.Machine

/-! ### Registers -/

/-- A trigger keeps the registers other than LAST_NUMBER and NEXT_NUMBER, of whatever page (R633). -/
theorem State.KeepsReg.triggerOther {p : Page} {off : Nat} {s t : State} (h : State.KeepsReg p off s t) (low : 0x100 ≤ off)
    (high : off < 0xC00) (last : off ≠ 0x10C) (next : off ≠ 0x108) (d : Nat) (out : Bool) :
    State.KeepsReg p off s (t.trigger d out) := by
  have other {o : Nat} (apart : off ≠ o) (small : o < 0xC00) : p.addr + off ≠ (colophonPage d).addr + o := by
    have := p.addr_mod
    have := (colophonPage d).addr_mod
    omega
  unfold State.trigger State.capture
  refine State.KeepsReg.setReg ?_ (other next (by decide)) _
  dsimp only
  split
  · have counted := (h.setReg (other last (by decide)) (BitVec.ofNat 32 (t.reg (colophonPage d) 0x108)).toNat).within
      (State.count_within (p := colophonPage d) (k := Ctr.colophonCapturesTriggered) (n := 1)) low high
    split <;> exact counted.congr
  · exact h.within State.count_within low high

/-- The reset columns of the field tables hold 64-bit values. -/
theorem regDefs_reset_lt (k : PageKind) : ∀ r ∈ regDefs k, r.reset < 2 ^ 64 := by
  cases k <;> decide

theorem regDefAt_reset_lt (k : PageKind) (off : Nat) : ((regDefAt k off).map RegDef.reset).getD 0 < 2 ^ 64 := by
  cases found : regDefAt k off with
  | none => exact Nat.two_pow_pos 64
  | some r => exact regDefs_reset_lt k r (List.mem_of_find?_eq_some found)

theorem regReset_lt {part : Part} {p : Page} {off : Nat}
    (table : regReset part p off = ((regDefAt p.kind off).map RegDef.reset).getD 0) : regReset part p off < 2 ^ 64 :=
  table ▸ regDefAt_reset_lt p.kind off

/-! ### Routing tables -/

/-- From `s` to `t` the routing tables of die `d` stay, and so do the canonical form of the maps and the number of dies. -/
structure State.KeepsRoutes (d : Nat) (s t : State) : Prop where
  canonical : t.canonical
  length : t.dies.length = s.dies.length
  routes : (t.die d).router.routes = (s.die d).router.routes

namespace State.KeepsRoutes

variable {d : Nat} {s t u : State}

theorem refl (c : s.canonical) : State.KeepsRoutes d s s := ⟨c, rfl, rfl⟩

/-- An operation outside routers. -/
theorem within {W : Nat} (h : State.KeepsRoutes d s t) (w : Within W t u)
    (router : W.testBit Area.router.bit = false := by decide) (clocks : W.testBit Area.clocks.bit = false := by decide) :
    State.KeepsRoutes d s u :=
  ⟨w.canonical h.canonical, (w.length_dies h.canonical clocks).trans h.length,
    (congrArg Router.routes (w.router h.canonical d router)).trans h.routes⟩

/-- A change of a router that keeps its routing tables. -/
theorem onRouter {f : Router → Router} (h : State.KeepsRoutes d s t) (e : Nat) (keeps : ∀ r, (f r).routes = r.routes) :
    State.KeepsRoutes d s (t.onRouter e f) :=
  ⟨h.canonical, (State.onRouter_length t e f).trans h.length, (State.onRouter_congr keeps t e d).trans h.routes⟩

variable (h : State.KeepsRoutes d s t)

include h

theorem editionCount (e : Nat) (b : Bool) (f : Nat → Nat) : State.KeepsRoutes d s (t.editionCount e b f) :=
  h.onRouter e fun _ => by rfl

theorem discard (e : Nat) (p : Packet) (port vc units ctr : Nat) (origin : Option Nat) :
    State.KeepsRoutes d s (t.discard e p port vc units ctr origin) :=
  ((h.within State.count_within).within State.freeUnits_within).editionCount e p.edition _

theorem holdPacket (e : Nat) (x : HeldPacket) : State.KeepsRoutes d s (t.holdPacket e x) :=
  (h.onRouter e fun _ => by rfl).within State.noteOccupancy_within

theorem forward (e : Nat) (p : Packet) (flow inPort vcIn units : Nat) (origin : Option Nat) :
    State.KeepsRoutes d s (t.forward e p flow inPort vcIn units origin) := by
  unfold State.forward
  extract_lets waiter
  split
  · exact h.discard ..
  · split
    · exact h.discard ..
    · refine State.KeepsRoutes.within ?_ State.noteOccupancy_within
      split
      · exact ((h.editionCount ..).within State.item_within).onRouter e fun _ => by rfl
      · exact (h.editionCount ..).onRouter e fun _ => by rfl
  · exact h.discard ..
  · split
    · exact h.discard ..
    · exact h.holdPacket ..
  · split
    · exact h.discard ..
    · exact h.holdPacket ..

/-- A packet that the die forms and sends. -/
theorem inject (e : Nat) (p : Packet) (flow : Nat) : State.KeepsRoutes d s (t.inject e p flow) := by
  unfold State.inject
  dsimp only
  refine State.KeepsRoutes.forward ?_ ..
  split
  · exact (h.within State.item_within).editionCount ..
  · exact h.editionCount ..

/-- A packet taken by its consumer. -/
theorem takeLocal (e : Nat) (p : Packet) : State.KeepsRoutes d s (t.takeLocal e p) := by
  unfold State.takeLocal
  dsimp only
  split
  · exact h
  · refine State.KeepsRoutes.within (State.KeepsRoutes.within (h.onRouter e fun r => ?_) State.freeUnits_within)
      State.noteOccupancy_within
    split <;> rfl

end State.KeepsRoutes

/-- A forwarding-plane reset keeps the routing tables and empties the FIFOs (R289). -/
theorem State.forwardingReset_routes {s : State} (c : s.canonical) {d : Nat} (die : d < s.dies.length) :
    ((s.forwardingReset d).die d).router.routes = (s.die d).router.routes ∧
      ((s.forwardingReset d).die d).router.fifos = Die.reset.router.fifos := by
  have trained := State.trainPorts_within (s := s.clearForwarding d) (d := d)
  have same : ((s.forwardingReset d).die d).router = ((s.clearForwarding d).die d).router :=
    State.die_congr (trained.areas .router (by decide) (State.clearForwarding_within.canonical c)) d
  rw [same]
  refine ⟨?_, (State.clearForwarding_empties c die).2⟩
  unfold State.clearForwarding
  extract_lets closed kept cleared written
  have early : State.KeepsRoutes d s closed :=
    ((State.KeepsRoutes.refl c).within State.failReads_within).within State.closeEarly_within
  have blank : State.KeepsRoutes d s cleared := early.within State.clearPages_within
  have inner : d < written.dies.length := blank.length.symm ▸ die
  rw [State.die_onDie _ _ _ _ inner, if_pos rfl]
  exact blank.routes

/-! ### Messages (R588, R589) -/

/-- The state once the packet that holds a message is taken. -/
def State.mgmtTaken (s : State) (d code : Nat) (m : MgmtMessage) : State :=
  match s.mgmtPacket d code m with
  | some p => s.takeLocal d p
  | none => s

/-- The state in which a message's command is carried out: its SEQUENCE is the last one accepted. -/
def State.mgmtBegun (s : State) (d code : Nat) (m : MgmtMessage) : State :=
  (s.mgmtTaken d code m).onSpine fun x => { x with fabricSeq := m.sequence.toNat }

theorem State.mgmtTaken_within {s : State} {d code : Nat} {m : MgmtMessage} :
    Within 17385390088 s (s.mgmtTaken d code m) := by
  unfold State.mgmtTaken
  split
  · exact State.takeLocal_within
  · exact Within.refl _ s

theorem State.mgmtBegun_within {s : State} {d code : Nat} {m : MgmtMessage} :
    Within 17385652232 s (s.mgmtBegun d code m) :=
  State.onSpine_step (by decide) (fun _ => ⟨OtpKept.refl _, rfl, .inr rfl⟩) (State.mgmtTaken_within.mono (by decide))

theorem State.mgmtBegun_routes {s : State} (c : s.canonical) (d code : Nat) (m : MgmtMessage) :
    State.KeepsRoutes d s (s.mgmtBegun d code m) := by
  have taken : State.KeepsRoutes d s (s.mgmtTaken d code m) := by
    unfold State.mgmtTaken
    split
    · exact (State.KeepsRoutes.refl c).takeLocal ..
    · exact .refl c
  exact ⟨taken.canonical, taken.length, taken.routes⟩

/-- A message that does not hold is dropped (R589). -/
theorem State.mgmtFrom_drops {s : State} {d code : Nat} {m : MgmtMessage} (c : s.canonical) (alive : s.spine.alive = true)
    (bad : s.mgmtOk m code = false) : s.mgmtFrom d code m = (s.mgmtTaken d code m).mgmtDrop := by
  have spine : (s.mgmtTaken d code m).spine = s.spine := State.mgmtTaken_within.areas .spine (by decide) c
  have living : (s.mgmtTaken d code m).spine.alive = true := spine ▸ alive
  have fails : (s.mgmtTaken d code m).mgmtOk m code = false := by rw [State.mgmtOk, spine, ← State.mgmtOk, bad]
  unfold State.mgmtFrom
  extract_lets tallied tc taken o r body sent
  have same : taken = s.mgmtTaken d code m := rfl
  rw [same, living, fails]
  simp

/-- A message that holds is carried out, and answered. -/
theorem State.mgmtFrom_answers {s : State} {d code : Nat} {m : MgmtMessage} (c : s.canonical) (takes : s.takesMgmt d code m) :
    ∃ u p, Within 131072 ((s.mgmtBegun d code m).mgmt d code m.arg0.toNat m.arg1.toNat).after u ∧
      s.mgmtFrom d code m = if code = 7 then (u.inject d p flowLocal).forwardingReset d else u.inject d p flowLocal := by
  obtain ⟨_, alive, ok, tally⟩ := takes
  have spine : (s.mgmtTaken d code m).spine = s.spine := State.mgmtTaken_within.areas .spine (by decide) c
  have living : (s.mgmtTaken d code m).spine.alive = true := spine ▸ alive
  have holds : (s.mgmtTaken d code m).mgmtOk m code = true := by rw [State.mgmtOk, spine, ← State.mgmtOk, ok]
  have whole : ((s.mgmtPacket d code m).map fun p => tallies 0 (p.body.take 48) == p.body.drop 48).getD true = true := by
    cases found : s.mgmtPacket d code m with
    | none => rfl
    | some p => exact beq_iff_eq.mpr (tally p found)
  unfold State.mgmtFrom
  extract_lets tallied tc taken o r body sent
  have same : taken = s.mgmtTaken d code m := rfl
  have good : tallied = true := whole
  rw [same, living, holds, good]
  exact ⟨r.2, _, State.mgmtResponse_within, by rfl⟩

section Messages

variable {s : State} {d code : Nat} {m : MgmtMessage} {i : Instr} (c : s.canonical) (die : d < s.dies.length)
  (row : exec i s = atDie s d (s.mgmtFrom d code m))

include c die row

/-- A message that does not hold is counted, and leaves the Spine as it is (R589). -/
theorem mgmt_drops (alive : s.spine.alive = true) (bad : s.mgmtOk m code = false) :
    Completes i s fun t => t.spine = s.spine ∧ Counted mailboxPage Ctr.mailboxFabricAuthDrops 1 s t := by
  have eth (e : Nat) : mailboxPage.addr ≠ (ethPage d e).addr := by
    simp only [Page.addr, Page.off, PageKind.place]
    omega
  have buffer : mailboxPage.addr ≠ (bufferPage d).addr := by
    simp only [Page.addr, Page.off, PageKind.place]
    omega
  have taken : State.KeepsCtr mailboxPage Ctr.mailboxFabricAuthDrops s (s.mgmtTaken d code m) := by
    unfold State.mgmtTaken State.takeLocal
    split
    · dsimp only
      split
      · exact .refl c
      · refine State.KeepsCtr.noteOccupancy (State.KeepsCtr.freeUnits ?_ eth ..) buffer
        exact (State.KeepsCtr.refl c).congr rfl rfl rfl
    · exact .refl c
  refine ⟨(s.mgmtTaken d code m).mgmtDrop, ?_, State.mgmtTaken_within.areas .spine (by decide) c, ?_⟩
  · rw [row, State.mgmtFrom_drops c alive bad, atDie, if_pos die]
  · exact taken.counted (.refl (State.count_within.canonical taken.canonical))

/-- A message that holds leaves its SEQUENCE (R589). -/
theorem mgmt_sequences (takes : s.takesMgmt d code m) : Completes i s fun t => t.spine.fabricSeq = m.sequence.toNat := by
  obtain ⟨u, p, answered, whole⟩ := State.mgmtFrom_answers c takes
  have begun := State.mgmtBegun_within (s := s) (d := d) (code := code) (m := m) |>.canonical c
  have ran := State.mgmt_within (s := s.mgmtBegun d code m) (d := d) (code := code) (arg0 := m.arg0.toNat) (arg1 := m.arg1.toNat)
  have replied := (State.inject_within (s := u) (d := d) (p := p) (flow := flowLocal)).step (by decide)
    (answered.mono (W := 25975455752) (by decide))
  have canonical := ran.canonical begun
  have sequence : (u.inject d p flowLocal).spine.fabricSeq = m.sequence.toNat := by
    rw [replied.areas .spine (by decide) canonical, ran.areas .spine (by decide) begun]
    rfl
  refine ⟨s.mgmtFrom d code m, by rw [row, atDie, if_pos die], ?_⟩
  rw [whole]
  split
  · rw [(State.forwardingReset_within (s := u.inject d p flowLocal) (d := d)).areas .spine (by decide) (replied.canonical canonical)]
    exact sequence
  · exact sequence

/-- A command other than RESET_FORWARDING_PLANE ends as its own operation left the part, but for the response sent. -/
theorem mgmt_runs (takes : s.takesMgmt d code m) (other : code ≠ 7) :
    ∃ t, exec i s = .next t ∧ Within 25975455752 ((s.mgmtBegun d code m).mgmt d code m.arg0.toNat m.arg1.toNat).after t ∧
      State.KeepsRoutes d ((s.mgmtBegun d code m).mgmt d code m.arg0.toNat m.arg1.toNat).after t := by
  obtain ⟨u, p, answered, whole⟩ := State.mgmtFrom_answers c takes
  have begun := State.mgmtBegun_within (s := s) (d := d) (code := code) (m := m) |>.canonical c
  have ran := State.mgmt_within (s := s.mgmtBegun d code m) (d := d) (code := code) (arg0 := m.arg0.toNat) (arg1 := m.arg1.toNat)
  rw [if_neg other] at whole
  refine ⟨u.inject d p flowLocal, by rw [row, whole, atDie, if_pos die], ?_, ?_⟩
  · exact State.inject_within.step (by decide) (answered.mono (by decide))
  · exact ((State.KeepsRoutes.refl (ran.canonical begun)).within answered).inject ..

/-- RESET_FORWARDING_PLANE (R289, R590). -/
theorem mgmt_resetForwardingPlane (takes : s.takesMgmt d code m) (reset : code = 7) : Completes i s fun t =>
    (t.die d).router.routes = (s.die d).router.routes ∧ (t.die d).router.fifos = Die.reset.router.fifos := by
  subst reset
  obtain ⟨u, p, answered, whole⟩ := State.mgmtFrom_answers c takes
  rw [if_pos rfl] at whole
  have begun := State.mgmtBegun_routes c d 7 m
  have sent : State.KeepsRoutes d s (u.inject d p flowLocal) := (begun.within answered).inject ..
  obtain ⟨routes, fifos⟩ := State.forwardingReset_routes sent.canonical (sent.length.symm ▸ die)
  refine ⟨(u.inject d p flowLocal).forwardingReset d, by rw [row, whole, atDie, if_pos die], ?_⟩
  exact ⟨routes.trans sent.routes, fifos⟩

end Messages

end Sys2Proof.Machine
end

section
-- One proof after another: side by side, the proofs of the whole text need more threads than the memory limit has room for.
set_option Elab.async false
/-!
Fabric management: what the commands write (R590, R633, R657).
-/

namespace Sys2Proof.Machine

/-! ### Fields of masked values -/

theorem bit_mod32 (v : Nat) {n : Nat} (low : n < 32) : bit (v % 2 ^ 32) n = bit v n := by
  rw [bit_eq_testBit, bit_eq_testBit, Nat.testBit_mod_two_pow, decide_eq_true low, Bool.true_and]

theorem bits_mod32 (v : Nat) {hi : Nat} (low : hi < 32) : bits (v % 2 ^ 32) hi 0 = bits v hi 0 := by
  simp only [bits, Nat.pow_zero, Nat.div_one, Nat.sub_zero]
  exact Nat.mod_mod_of_dvd v (Nat.pow_dvd_pow 2 low)

theorem bit_and {v mask n : Nat} (kept : bit mask n = true) : bit (v &&& mask) n = bit v n := by
  rw [bit_eq_testBit] at kept
  rw [bit_eq_testBit, bit_eq_testBit, Nat.testBit_and, kept, Bool.and_true]

theorem bits_and {v mask hi : Nat} (kept : mask % 2 ^ (hi + 1) = 2 ^ (hi + 1) - 1) : bits (v &&& mask) hi 0 = bits v hi 0 := by
  simp only [bits, Nat.pow_zero, Nat.div_one, Nat.sub_zero]
  rw [Nat.and_mod_two_pow, kept, Nat.and_two_pow_sub_one_eq_mod, Nat.mod_mod]

/-- A field of one bit set reads as the bit put into it. -/
theorem bits_setBits_one (r k v : Nat) : bits (setBits r k k v) k k = bits v 0 0 := by
  have width : k + 1 - k = 1 := by omega
  have split := Nat.div_add_mod r (2 ^ k)
  have half := Nat.div_add_mod (r / 2 ^ k) 2
  have value : setBits r k k v = r % 2 ^ k + 2 ^ k * (2 * (r / 2 ^ k / 2) + v % 2) := by
    simp only [setBits, bits, width, Nat.pow_one]
    rw [Nat.mul_add, ← Nat.mul_assoc, Nat.mul_comm (v % 2), Nat.mul_comm (r / 2 ^ k % 2), Nat.mul_assoc]
    have whole : r = 2 ^ k * (2 * (r / 2 ^ k / 2)) + 2 ^ k * (r / 2 ^ k % 2) + r % 2 ^ k := by
      rw [← Nat.mul_add, half, split]
    omega
  have small : r % 2 ^ k / 2 ^ k = 0 := Nat.div_eq_of_lt (Nat.mod_lt _ (Nat.two_pow_pos k))
  simp only [value, bits, width, Nat.pow_one, Nat.pow_zero, Nat.div_one, Nat.sub_zero,
    Nat.add_mul_div_left _ _ (Nat.two_pow_pos k), small]
  omega

/-- The fields of PTP_CTL as SET_PTP forms it. -/
theorem ptpCtl_fields (on : Bool) {port mode shift : Nat} (hp : port < 8) (hm : mode < 4) (hs : shift < 128) :
    b2n on * 2 ^ 31 + port * 2 ^ 28 + mode * 2 ^ 26 + shift * 2 ^ 16 < 2 ^ 64 ∧
      bits (b2n on * 2 ^ 31 + port * 2 ^ 28 + mode * 2 ^ 26 + shift * 2 ^ 16) 30 28 = port ∧
      bit (b2n on * 2 ^ 31 + port * 2 ^ 28 + mode * 2 ^ 26 + shift * 2 ^ 16) 31 = on := by
  cases on with
  | false =>
    simp only [b2n, bits, bit, Bool.false_eq_true, if_false, beq_eq_false_iff_ne]
    omega
  | true =>
    simp only [b2n, bits, bit, if_true, beq_iff_eq]
    omega

/-! ### Triggers (R633) -/

section Triggers

variable {s : State} (c : s.canonical) (d : Nat) (out : Bool)

include c

/-- NEXT_NUMBER advances. -/
theorem State.trigger_next : (s.trigger d out).reg (colophonPage d) 0x108 =
    (BitVec.ofNat 32 (s.reg (colophonPage d) 0x108) + 1 : Word).toNat := by
  have captured := State.capture_within (s := s) (d := d) (n := BitVec.ofNat 32 (s.reg (colophonPage d) 0x108))
    (origin := s.endpoint d) (at_ := s.time d) (out := out) |>.canonical c
  exact State.reg_setReg_of_lt captured.2.1 (Nat.lt_trans (BitVec.isLt _) (by decide)) (regReset_lt (by rfl))

/-- A capture of a number after LAST_NUMBER starts. -/
theorem State.trigger_starts (new : before (BitVec.ofNat 32 (s.reg (colophonPage d) 0x10C))
      (BitVec.ofNat 32 (s.reg (colophonPage d) 0x108)) = true) :
    (s.trigger d out).reg (colophonPage d) 0x10C = (BitVec.ofNat 32 (s.reg (colophonPage d) 0x108) : Word).toNat ∧
      (s.trigger d out).colophonOut = (s.colophonOut || (out && d == 0)) := by
  have set : (s.setReg (colophonPage d) 0x10C (BitVec.ofNat 32 (s.reg (colophonPage d) 0x108) : Word).toNat).reg
      (colophonPage d) 0x10C = (BitVec.ofNat 32 (s.reg (colophonPage d) 0x108) : Word).toNat :=
    State.reg_setReg_of_lt c.2.1 (Nat.lt_trans (BitVec.isLt _) (by decide)) (regReset_lt (by rfl))
  have counted : State.KeepsReg (colophonPage d) 0x10C _ _ := (State.KeepsReg.refl (State.setReg_any.canonical c)).within
    (State.count_within (s := s.setReg (colophonPage d) 0x10C (BitVec.ofNat 32 (s.reg (colophonPage d) 0x108) : Word).toNat)
      (p := colophonPage d) (k := Ctr.colophonCapturesTriggered) (n := 1)) (by decide) (by decide)
  have other : (colophonPage d).addr + 0x10C ≠ (colophonPage d).addr + 0x108 := by omega
  unfold State.trigger State.capture
  dsimp only
  rw [if_pos new]
  split
  · next drives =>
    have placed : State.KeepsReg (colophonPage d) 0x10C _ _ := State.KeepsReg.setReg (counted.congr
      (u := { ((s.setReg (colophonPage d) 0x10C (BitVec.ofNat 32 (s.reg (colophonPage d) 0x108) : Word).toNat).count
        (colophonPage d) Ctr.colophonCapturesTriggered).onDie d (fun x =>
          { x with capOrigin := s.endpoint d, capTrigger := s.time d }) with colophonOut := true })) other
      (BitVec.ofNat 32 (s.reg (colophonPage d) 0x108) + 1 : Word).toNat
    refine ⟨placed.reg.trans set, ?_⟩
    rw [drives, Bool.or_true]
    rfl
  · next quiet =>
    have placed : State.KeepsReg (colophonPage d) 0x10C _ _ := State.KeepsReg.setReg (counted.congr
      (u := ((s.setReg (colophonPage d) 0x10C (BitVec.ofNat 32 (s.reg (colophonPage d) 0x108) : Word).toNat).count
        (colophonPage d) Ctr.colophonCapturesTriggered).onDie d (fun x =>
          { x with capOrigin := s.endpoint d, capTrigger := s.time d }))) other
      (BitVec.ofNat 32 (s.reg (colophonPage d) 0x108) + 1 : Word).toNat
    refine ⟨placed.reg.trans set, ?_⟩
    rw [Bool.not_eq_true _ |>.mp quiet, Bool.or_false]
    rfl

end Triggers

/-! ### Operations on every die -/

theorem colophonPage_apart {d k : Nat} (other : d ≠ k) (i j : Nat) (hi : i < 4096) (hj : j < 4096) :
    (colophonPage d).addr + i ≠ (colophonPage k).addr + j := by
  simp only [Page.addr, Page.off, PageKind.place]
  omega

theorem State.eachDie_within {W : Nat} {s : State} {f : State → Nat → State} (step : ∀ t d, Within W t (f t d)) :
    Within W s (s.eachDie f) :=
  List.foldlRecOn s.dieList f (Within.refl W s) fun _ h d _ => (step _ d).step (Nat.and_self W) h

/-- Fabric time of every die changed. -/
theorem State.time_eachDie {s : State} {f : FabricTime → FabricTime} {k : Nat} (die : k < s.dies.length) :
    ((s.eachDie fun t d => t.onTime d f).die k).time = f (s.die k).time := by
  obtain ⟨ds, eq, _, dies⟩ := s.foldl_onDie (fun _ x => { x with time := f x.time }) (l := s.dieList) List.nodup_range
  have folded : (s.eachDie fun t d => t.onTime d f) = { s with dies := ds } := eq
  have listed : k ∈ s.dieList := List.mem_range.mpr die
  rw [folded, dies k die, if_pos listed]

/-- PTP_CTL and the epoch offset of a die set. -/
def State.setPtp (s : State) (d v : Nat) (offset : Int) : State :=
  (s.setReg (colophonPage d) 0x12C v).onTime d fun t => { t with epochOffset := offset }

theorem State.setPtp_sets {t : State} (c : t.canonical) {k v : Nat} (die : k < t.dies.length) (fits : v < 2 ^ 64)
    (offset : Int) : (t.setPtp k v offset).reg (colophonPage k) 0x12C = v ∧
      ((t.setPtp k v offset).die k).time.epochOffset = offset := by
  have set : (t.setReg (colophonPage k) 0x12C v).reg (colophonPage k) 0x12C = v :=
    State.reg_setReg_of_lt c.2.1 fits (regReset_lt (by rfl))
  have same : (t.setPtp k v offset).reg (colophonPage k) 0x12C = (t.setReg (colophonPage k) 0x12C v).reg (colophonPage k) 0x12C :=
    ((State.KeepsReg.refl (State.setReg_any.canonical c)).within State.onTime_within (by decide) (by decide)).reg
  have inner : k < (t.setReg (colophonPage k) 0x12C v).dies.length := die
  refine ⟨same.trans set, ?_⟩
  rw [State.setPtp, State.onTime, State.die_onDie _ _ _ _ inner, if_pos rfl]

theorem State.setPtp_within {t : State} {k v : Nat} {offset : Int} : Within 4294967310 t (t.setPtp k v offset) :=
  State.onTime_within.step (by decide) (State.setReg_any.mono (by decide))

theorem State.eachDie_setPtp {u : State} (c : u.canonical) {k v : Nat} (die : k < u.dies.length) (fits : v < 2 ^ 64)
    (offset : Int) : (u.eachDie fun s d => s.setPtp d v offset).reg (colophonPage k) 0x12C = v ∧
      ((u.eachDie fun s d => s.setPtp d v offset).die k).time.epochOffset = offset := by
  refine foldl_reaches (I := fun t : State => t.canonical ∧ t.dies.length = u.dies.length) (P := fun t : State =>
      t.reg (colophonPage k) 0x12C = v ∧ (t.die k).time.epochOffset = offset)
    (List.mem_range.mpr die) (fun t e ct => ?_) (fun t ct => ?_) (fun t e ct h => ?_) ⟨c, rfl⟩
  · exact ⟨State.setPtp_within.canonical ct.1, (State.setPtp_within.length_dies ct.1).trans ct.2⟩
  · exact State.setPtp_sets ct.1 (ct.2.symm ▸ die) fits offset
  · by_cases same : e = k
    · subst same
      exact State.setPtp_sets ct.1 (ct.2.symm ▸ die) fits offset
    · have other : k ≠ e := Ne.symm same
      have kept := ((State.KeepsReg.refl ct.1).setReg (colophonPage_apart other 0x12C 0x12C (by decide) (by decide)) v).within
        (State.onTime_within (d := e) (f := fun t => { t with epochOffset := offset })) (by decide) (by decide)
      refine ⟨kept.reg.trans h.1, ?_⟩
      have alone : (t.setPtp e v offset).die k = t.die k := State.die_onDie_ne _ _ other
      rw [alone]
      exact h.2

/-- ARM_CAPTURE_AT of one die. -/
def State.armAt (s : State) (d number at_ : Nat) : State :=
  (((s.setReg (colophonPage d) 0x108 number).setReg (colophonPage d) 0x110 at_).setReg (colophonPage d) 0x100
    (setBits (s.reg (colophonPage d) 0x100) 30 30 1)).fireDue d

theorem State.KeepsReg.fireDue {k : Nat} {t v : State} (h : State.KeepsReg (colophonPage k) 0x110 t v) (e : Nat) :
    State.KeepsReg (colophonPage k) 0x110 t (v.fireDue e) := by
  unfold State.fireDue
  split
  · refine State.KeepsReg.triggerOther (h.setReg ?_ _) (by decide) (by decide) (by decide) (by decide) e true
    have := (colophonPage k).addr_mod
    have := (colophonPage e).addr_mod
    omega
  · exact h

theorem State.armAt_sets {t : State} (c : t.canonical) {at_ : Nat} (k number : Nat) (fits : at_ < 2 ^ 64) :
    (t.armAt k number at_).reg (colophonPage k) 0x110 = at_ := by
  have named : (t.setReg (colophonPage k) 0x108 number).canonical := State.setReg_any.canonical c
  have timed : ((t.setReg (colophonPage k) 0x108 number).setReg (colophonPage k) 0x110 at_).canonical :=
    State.setReg_any.canonical named
  have armed := (State.KeepsReg.refl (p := colophonPage k) (off := 0x110) timed).setReg (q := colophonPage k) (o := 0x100)
    (by omega) (setBits (t.reg (colophonPage k) 0x100) 30 30 1)
  exact (armed.fireDue k).reg.trans (State.reg_setReg_of_lt named.2.1 fits (regReset_lt (by rfl)))

theorem State.armAt_within {t : State} {k number at_ : Nat} : Within 8589942798 t (t.armAt k number at_) := by
  unfold State.armAt
  exact State.fireDue_within.step (by decide) (State.setReg_any.step (by decide) (State.setReg_any.step (by decide)
    (State.setReg_any.mono (by decide))))

theorem State.armAt_keeps {t : State} (c : t.canonical) {k e : Nat} (other : k ≠ e) (number at_ : Nat) :
    (t.armAt e number at_).reg (colophonPage k) 0x110 = t.reg (colophonPage k) 0x110 := by
  have apart (j : Nat) (hj : j < 4096) : (colophonPage k).addr + 0x110 ≠ (colophonPage e).addr + j :=
    colophonPage_apart other 0x110 j (by decide) hj
  have named := State.KeepsReg.setReg (q := colophonPage e) (o := 0x108) (State.KeepsReg.refl c) (apart 0x108 (by decide)) number
  have timed := State.KeepsReg.setReg (q := colophonPage e) (o := 0x110) named (apart 0x110 (by decide)) at_
  have armed := State.KeepsReg.setReg (q := colophonPage e) (o := 0x100) timed (apart 0x100 (by decide))
    (setBits (t.reg (colophonPage e) 0x100) 30 30 1)
  exact (armed.fireDue e).reg

theorem State.eachDie_armAt {u : State} (c : u.canonical) {k at_ : Nat} (die : k < u.dies.length) (number : Nat)
    (fits : at_ < 2 ^ 64) : (u.eachDie fun s d => s.armAt d number at_).reg (colophonPage k) 0x110 = at_ := by
  refine foldl_reaches (f := fun s d => s.armAt d number at_) (l := u.dieList) (I := State.Whole u.dies.length)
    (P := fun t : State => t.reg (colophonPage k) 0x110 = at_) (List.mem_range.mpr die)
    (fun t e w => State.armAt_within.whole w) (fun t w => State.armAt_sets w.canonical k number fits)
    (fun t e w h => ?_) ⟨c, rfl⟩
  by_cases same : e = k
  · rw [same]
    exact State.armAt_sets w.canonical k number fits
  · exact (State.armAt_keeps w.canonical (Ne.symm same) number at_).trans h

/-! ### The commands (R590, R657) -/

section Commands

variable {u : State} (c : u.canonical) {d : Nat} (a0 a1 : Nat)

include c

/-- WRITE_TABLE_ENTRY with FORCE (R280, R281). -/
theorem State.mgmt_tableEntry (die : d < u.dies.length) (place : bit a0 29 = false ∨ bits a0 13 0 ≤ 15)
    (entry : a1 % 2 ^ 32 ≠ 0) (good : badRoute (a1 % 2 ^ 32) = false) (force : bit a0 31 = true) :
    FMap.get? ((u.mgmt d 2 a0 a1).after.die d).router.routes (routeIndex (bit a0 30) (bit a0 29) (bits a0 13 0)) =
      some (BitVec.ofNat 32 (a1 % 2 ^ 32)) := by
  have sel (n : Nat) (low : n < 32) (kept : bit 0xE0003FFF n = true) : bit (a0 % 2 ^ 32 &&& 0xE0003FFF) n = bit a0 n := by
    rw [bit_and kept, bit_mod32 _ low]
  have index : bits (a0 % 2 ^ 32 &&& 0xE0003FFF) 13 0 = bits a0 13 0 := by
    rw [bits_and (by decide), bits_mod32 _ (by decide)]
  have small : a0 % 2 ^ 32 &&& 0xE0003FFF < 2 ^ 64 := Nat.lt_of_le_of_lt Nat.and_le_right (by decide)
  have selected : u.writeTableSelect d (a0 % 2 ^ 32) = (0, u.setReg (router1Page d) 0x100 (a0 % 2 ^ 32 &&& 0xE0003FFF)) := by
    unfold State.writeTableSelect
    rw [bit_mod32 _ (by decide), bits_mod32 _ (by decide), if_neg]
    rcases place with off | few
    · rw [off]; exact Bool.false_ne_true
    · rw [decide_eq_false (by omega), Bool.and_false]; exact Bool.false_ne_true
  have reads : (u.setReg (router1Page d) 0x100 (a0 % 2 ^ 32 &&& 0xE0003FFF)).reg (router1Page d) 0x100 =
      a0 % 2 ^ 32 &&& 0xE0003FFF := State.reg_setReg_of_lt c.2.1 small (regReset_lt (by rfl))
  have out : (u.mgmt d 2 a0 a1).after =
      ((u.setReg (router1Page d) 0x100 (a0 % 2 ^ 32 &&& 0xE0003FFF)).writeTableEntry d (a1 % 2 ^ 32)).2 := by
    unfold State.mgmt
    rw [selected]
    rfl
  rw [out]
  unfold State.writeTableEntry
  extract_lets sel' force' e kept forced set
  have chosen : sel' = a0 % 2 ^ 32 &&& 0xE0003FFF := reads
  have forces : force' = true := by
    simp only [force', chosen]
    rw [sel 31 (by decide) (by decide), force]
  have inner : d < (kept.count (routerPage d) Ctr.router0ForceWrites).dies.length := die
  have counted : forced = kept.count (routerPage d) Ctr.router0ForceWrites := if_pos forces
  rw [good, forces, if_neg Bool.false_ne_true, if_neg (by simp), counted, State.router_onRouter _ inner]
  simp only [set, if_neg entry]
  rw [tableIndex, chosen, sel 30 (by decide) (by decide), sel 29 (by decide) (by decide), index]
  exact FMap.get?_set_self ..

/-- SET_INJECT_EDITION (R284). -/
theorem State.mgmt_injectEdition :
    bits ((u.mgmt d 3 a0 a1).after.reg (routerPage d) 0x104) 0 0 = bits a0 0 0 := by
  have small (v : Nat) : v &&& 0x101 < 2 ^ 64 := Nat.lt_of_le_of_lt Nat.and_le_right (by decide)
  have out : (u.mgmt d 3 a0 a1).after = u.writeEditionCtl d (setBits (u.reg (routerPage d) 0x104) 0 0 a0) := by
    simp only [State.mgmt]
  rw [out]
  unfold State.writeEditionCtl
  extract_lets written
  have kept : State.KeepsReg (routerPage d) 0x104 written ((List.range 7).foldl (fun s k =>
      if s.portState d k == .discard && s.portLinkUp d k then (s.setPort d k .up).reoffer d else s) written) :=
    (State.KeepsReg.refl (State.setReg_any.canonical c)).foldl _ fun t k h => by
      split
      · exact (h.within State.setPort_within (by decide) (by decide)).within State.reoffer_within (by decide) (by decide)
      · exact h
  rw [kept.reg, State.reg_setReg_of_lt c.2.1 (small _) (regReset_lt (by rfl)), bits_and (by decide), bits_setBits_one]

/-- SET_RELAY_REQUIRED (R291). -/
theorem State.mgmt_relayRequired :
    bits ((u.mgmt d 4 a0 a1).after.reg (routerPage d) 0x104) 8 8 = bits a0 0 0 := by
  have set := State.reg_setReg_self u (routerPage d) 0x104 (setBits (u.reg (routerPage d) 0x104) 8 8 a0) c.2.1
  have same := congrArg BitVec.toNat set
  rw [BitVec.toNat_ofNat, BitVec.toNat_ofNat] at same
  have field (x y : Nat) (h : x % 2 ^ 64 = y % 2 ^ 64) : bits x 8 8 = bits y 8 8 := by
    simp only [bits]
    omega
  exact (field _ _ same).trans (bits_setBits_one _ 8 a0)

/-- SET_ENDPOINT_ID of a router that holds nothing (R62, R274). -/
theorem State.mgmt_endpointId (idle : u.busy (routerPage d) = false) :
    (u.mgmt d 5 a0 a1).after.reg (routerPage d) 0x100 = a0 % 2 ^ 32 &&& 0x8003FFFF := by
  have out : (u.mgmt d 5 a0 a1).after = u.setReg (routerPage d) 0x100 (a0 % 2 ^ 32 &&& 0x8003FFFF) := by
    change (u.writeEndpointId d (a0 % 2 ^ 32)).2 = _
    rw [State.writeEndpointId, idle]
    rfl
  rw [out]
  exact State.reg_setReg_of_lt c.2.1 (Nat.lt_of_le_of_lt Nat.and_le_right (by decide)) (regReset_lt (by rfl))

/-- SET_ROUTE_CTL: an ESCAPE_WAIT_NS below 64 is refused. -/
theorem State.mgmt_routeCtl : (u.mgmt d 6 a0 a1).after.reg (routerPage d) 0x110 =
    if bits a0 15 0 < 64 then u.reg (routerPage d) 0x110 else a0 % 2 ^ 32 &&& 0xFF00FFFF := by
  have apart : (routerPage d).addr ≠ (colophonPage (routerPage d).die).addr := by
    simp only [Page.addr, Page.off, PageKind.place]
    omega
  have out : (u.mgmt d 6 a0 a1).after = (u.writeRouteCtl d (a0 % 2 ^ 32)).2 := by rfl
  rw [out, State.writeRouteCtl, bits_mod32 _ (by decide)]
  split
  · exact State.reg_refuse c (by decide) (by decide) apart 0x0104
  · exact State.reg_setReg_of_lt c.2.1 (Nat.lt_of_le_of_lt Nat.and_le_right (by decide)) (regReset_lt (by rfl))

/-- SET_FABRIC_TIME to a time that is not earlier (R651). -/
theorem State.mgmt_fabricTime {k : Nat} (die : k < u.dies.length)
    (later : (u.die 0).time.timeSet = false ∨ (u.time 0).toNat ≤ a0) :
    (u.mgmt d 0x20 a0 a1).after.time k = BitVec.ofNat 64 a0 ∧ ((u.mgmt d 0x20 a0 a1).after.die k).time.timeSet = true := by
  have set := State.time_eachDie (f := fun t => { t with ns := BitVec.ofNat 64 a0, frac := 0, slew := 0, timeSet := true }) die
  have canonical : (u.setTimes (BitVec.ofNat 64 a0)).canonical := State.setTimes_within.canonical c
  have counted : Within 8 (u.setTimes (BitVec.ofNat 64 a0)) ((u.setTimes (BitVec.ofNat 64 a0)).eachDie fun s d =>
      s.count (colophonPage d) Ctr.colophonTimeSteps) := State.eachDie_within fun _ _ => State.count_within
  have out : ∃ b : Bool, (u.mgmt d 0x20 a0 a1).after = if b = true then (u.setTimes (BitVec.ofNat 64 a0)).eachDie fun s d =>
      s.count (colophonPage d) Ctr.colophonTimeSteps else u.setTimes (BitVec.ofNat 64 a0) := by
    refine ⟨decide ((u.die 0).time.timeSet = true ∧ (u.time 0).toNat < a0), ?_⟩
    have admitted : ¬((u.die 0).time.timeSet = true ∧ a0 < (u.time 0).toNat) := by
      rintro ⟨on, early⟩
      rcases later with off | later
      · rw [off] at on; exact Bool.false_ne_true on
      · omega
    simp only [State.mgmt]
    rw [if_neg admitted]
  have same : ((u.mgmt d 0x20 a0 a1).after.die k).time = ((u.setTimes (BitVec.ofNat 64 a0)).die k).time := by
    obtain ⟨b, out⟩ := out
    rw [out]
    cases b with
    | true => exact State.die_congr (counted.areas .time (by decide) canonical) k
    | false => rfl
  have time : ((u.mgmt d 0x20 a0 a1).after.die k).time =
      { (u.die k).time with ns := BitVec.ofNat 64 a0, frac := 0, slew := 0, timeSet := true } := same.trans set
  rw [State.time, time]
  exact ⟨rfl, rfl⟩

omit c in
/-- ADJUST_FABRIC_TIME within the rate admitted (R652). -/
theorem State.mgmt_adjustTime {k : Nat} (die : k < u.dies.length) (least : -500000 ≤ signedInt 32 (a1 % 2 ^ 32))
    (most : signedInt 32 (a1 % 2 ^ 32) ≤ 500000) : ((u.mgmt d 0x21 a0 a1).after.die k).time =
      { (u.die k).time with
        ppb := signedInt 32 (a1 % 2 ^ 32), slew := (u.die k).time.slew + signedInt 64 a0 * 65536 } := by
  have out : (u.mgmt d 0x21 a0 a1).after = u.eachDie fun s d => s.onTime d fun t =>
      { t with ppb := signedInt 32 (a1 % 2 ^ 32), slew := t.slew + signedInt 64 a0 * 65536 } := by
    simp only [State.mgmt]
    rw [if_neg (by omega)]
  rw [out]
  exact State.time_eachDie die

/-- SET_PTP with a port that the part has (R655). -/
theorem State.mgmt_ptp {k : Nat} (die : k < u.dies.length) (port : bits a0 10 8 < u.dies.length) :
    bits ((u.mgmt d 0x22 a0 a1).after.reg (colophonPage k) 0x12C) 30 28 = bits a0 10 8 ∧
      bit ((u.mgmt d 0x22 a0 a1).after.reg (colophonPage k) 0x12C) 31 = bit a0 0 ∧
      ((u.mgmt d 0x22 a0 a1).after.die k).time.epochOffset = signedInt 64 a1 := by
  have out : (u.mgmt d 0x22 a0 a1).after = u.eachDie fun s d => s.setPtp d (b2n (bit a0 0) * 2 ^ 31 +
      bits a0 10 8 * 2 ^ 28 + bits a0 13 12 * 2 ^ 26 + bits a0 22 16 * 2 ^ 16) (signedInt 64 a1) := by
    simp only [State.mgmt]
    rw [if_neg (Nat.not_le.mpr port)]
    rfl
  obtain ⟨fits, portField, enable⟩ := ptpCtl_fields (bit a0 0) (port := bits a0 10 8) (mode := bits a0 13 12)
    (shift := bits a0 22 16) (Nat.mod_lt _ (by decide)) (Nat.mod_lt _ (by decide)) (Nat.mod_lt _ (by decide))
  obtain ⟨ctl, offset⟩ := State.eachDie_setPtp c die fits (signedInt 64 a1)
  rw [out, ctl]
  exact ⟨portField, enable, offset⟩

/-- ARM_CAPTURE_AT (R648). -/
theorem State.mgmt_armCapture {k : Nat} (die : k < u.dies.length) (fits : a1 < 2 ^ 64) :
    (u.mgmt d 0x23 a0 a1).after.reg (colophonPage k) 0x110 = a1 := by
  have out : (u.mgmt d 0x23 a0 a1).after = u.eachDie fun s d => s.armAt d (a0 % 2 ^ 32) a1 := by
    simp only [State.mgmt]
    rfl
  rw [out]
  exact State.eachDie_armAt c die _ fits

/-- TRIGGER_CAPTURE of a number after LAST_NUMBER. -/
theorem State.mgmt_triggerCapture
    (new : before (BitVec.ofNat 32 (u.reg (colophonPage 0) 0x10C)) (BitVec.ofNat 32 a0) = true) :
    (u.mgmt d 0x24 a0 a1).after.reg (colophonPage 0) 0x10C = a0 % 2 ^ 32 ∧ (u.mgmt d 0x24 a0 a1).after.colophonOut = true := by
  have out : (u.mgmt d 0x24 a0 a1).after = (u.setReg (colophonPage 0) 0x108 (a0 % 2 ^ 32)).trigger 0 true := by
    simp only [State.mgmt]
  have canonical : (u.setReg (colophonPage 0) 0x108 (a0 % 2 ^ 32)).canonical := State.setReg_any.canonical c
  have next : (u.setReg (colophonPage 0) 0x108 (a0 % 2 ^ 32)).reg (colophonPage 0) 0x108 = a0 % 2 ^ 32 :=
    State.reg_setReg_of_lt c.2.1 (Nat.lt_trans (Nat.mod_lt _ (by decide)) (by decide)) (regReset_lt (by rfl))
  have last : (u.setReg (colophonPage 0) 0x108 (a0 % 2 ^ 32)).reg (colophonPage 0) 0x10C = u.reg (colophonPage 0) 0x10C :=
    State.reg_setReg_ne u _ _ _ _ _ c.2.1 (by omega)
  have number : BitVec.ofNat 32 (a0 % 2 ^ 32) = BitVec.ofNat 32 a0 := by
    apply BitVec.eq_of_toNat_eq
    rw [BitVec.toNat_ofNat, BitVec.toNat_ofNat, Nat.mod_mod]
  obtain ⟨starts, drives⟩ := State.trigger_starts canonical 0 true (by rw [next, last, number]; exact new)
  rw [next, BitVec.toNat_ofNat, Nat.mod_mod] at starts
  rw [out]
  exact ⟨starts, drives.trans (Bool.or_true _)⟩

end Commands

end Sys2Proof.Machine
end

section
-- One proof after another: side by side, the proofs of the whole text need more threads than the memory limit has room for.
set_option Elab.async false
/-!
Fabric management: the messages carried out (R588 to R590, R657).
-/

namespace Sys2Proof.Machine

section Takes

variable {s : State} {d : Nat} {m : MgmtMessage} (c : s.canonical) (die : d < s.dies.length)

include c

theorem State.mgmtBegun_canonical (code : Nat) : (s.mgmtBegun d code m).canonical := State.mgmtBegun_within.canonical c

theorem State.length_mgmtBegun (code : Nat) : (s.mgmtBegun d code m).dies.length = s.dies.length :=
  (State.mgmtBegun_routes c d code m).length

theorem State.time_mgmtBegun (code k : Nat) : ((s.mgmtBegun d code m).die k).time = (s.die k).time :=
  State.die_congr (State.mgmtBegun_within.areas .time (by decide) c) k

theorem State.reg_mgmtBegun (code : Nat) (p : Page) {off : Nat} (low : 0x100 ≤ off) (high : off < 0xC00) :
    (s.mgmtBegun d code m).reg p off = s.reg p off :=
  ((State.KeepsReg.refl c).within State.mgmtBegun_within low high).reg

omit c in
/-- A router that holds no packet stays idle: no packet holds the message. -/
theorem State.busy_mgmtBegun (code : Nat) (idle : s.busy (routerPage d) = false) :
    (s.mgmtBegun d code m).busy (routerPage d) = false := by
  have listed : s.busy (routerPage d) = ((s.die d).router.fifos.any (fun l => !l.isEmpty) ||
      !(s.die d).router.held.isEmpty || !(s.die d).router.arrived.isEmpty) := by rfl
  rw [listed, Bool.or_eq_false_iff, Bool.not_eq_false', List.isEmpty_iff] at idle
  have nothing : s.mgmtPacket d code m = none := by rw [State.mgmtPacket, idle.2]; rfl
  have same : (s.mgmtBegun d code m).busy (routerPage d) = s.busy (routerPage d) := by
    rw [State.mgmtBegun, State.mgmtTaken, nothing]
    rfl
  rw [same, listed, idle.1, idle.2]
  rfl

include die

/-- What a command leaves in a block register is there once the response is sent. -/
theorem mgmt_reg {i : Instr} {code : Nat} {P : Nat → Prop} (row : exec i s = atDie s d (s.mgmtFrom d code m))
    (takes : s.takesMgmt d code m) (other : code ≠ 7) (p : Page) {off : Nat} (low : 0x100 ≤ off) (high : off < 0xC00)
    (set : P (((s.mgmtBegun d code m).mgmt d code m.arg0.toNat m.arg1.toNat).after.reg p off)) :
    Completes i s fun t => P (t.reg p off) := by
  obtain ⟨t, row, w, _⟩ := mgmt_runs c die row takes other
  have ran := (State.mgmt_within (s := s.mgmtBegun d code m) (d := d) (code := code) (arg0 := m.arg0.toNat)
    (arg1 := m.arg1.toNat)).canonical (State.mgmtBegun_canonical c code)
  refine ⟨t, row, ?_⟩
  dsimp only
  rw [((State.KeepsReg.refl ran).within w low high).reg]
  exact set

/-- What a command leaves of the dies' fabric time and block registers is there once the response is sent. -/
theorem mgmt_keeps {i : Instr} {code : Nat} (row : exec i s = atDie s d (s.mgmtFrom d code m))
    (takes : s.takesMgmt d code m) (other : code ≠ 7) : Completes i s fun t =>
      (∀ k, (t.die k).time = (((s.mgmtBegun d code m).mgmt d code m.arg0.toNat m.arg1.toNat).after.die k).time) ∧
      t.colophonOut = ((s.mgmtBegun d code m).mgmt d code m.arg0.toNat m.arg1.toNat).after.colophonOut ∧
      ∀ p off, 0x100 ≤ off → off < 0xC00 →
        t.reg p off = ((s.mgmtBegun d code m).mgmt d code m.arg0.toNat m.arg1.toNat).after.reg p off := by
  obtain ⟨t, row, w, _⟩ := mgmt_runs c die row takes other
  have ran := (State.mgmt_within (s := s.mgmtBegun d code m) (d := d) (code := code) (arg0 := m.arg0.toNat)
    (arg1 := m.arg1.toNat)).canonical (State.mgmtBegun_canonical c code)
  exact ⟨t, row, State.die_congr (w.areas .time (by decide) ran), (w.areas .pins (by decide) ran).1,
    fun p off low high => ((State.KeepsReg.refl ran).within w low high).reg⟩

end Takes

/-- The messages, each with its code, as `exec` carries them out. -/
theorem mgmt_row {s : State} {d code : Nat} {m : MgmtMessage} {i : Instr}
    (listed : (i, code) ∈ [(Instr.readRouter d m, 1), (.writeTableEntry d m, 2), (.setInjectEdition d m, 3),
      (.setRelayRequired d m, 4), (.setEndpointId d m, 5), (.setRouteCtl d m, 6), (.resetForwardingPlane d m, 7),
      (.setFabricTime d m, 0x20), (.adjustFabricTime d m, 0x21), (.setPtp d m, 0x22), (.armCaptureAt d m, 0x23),
      (.triggerCapture d m, 0x24), (.readFabricTime d m, 0x25)]) :
    exec i s = atDie s d (s.mgmtFrom d code m) := by
  simp only [List.mem_cons, Prod.mk.injEq, List.not_mem_nil, or_false] at listed
  rcases listed with ⟨rfl, rfl⟩ | ⟨rfl, rfl⟩ | ⟨rfl, rfl⟩ | ⟨rfl, rfl⟩ | ⟨rfl, rfl⟩ | ⟨rfl, rfl⟩ | ⟨rfl, rfl⟩ |
    ⟨rfl, rfl⟩ | ⟨rfl, rfl⟩ | ⟨rfl, rfl⟩ | ⟨rfl, rfl⟩ | ⟨rfl, rfl⟩ | ⟨rfl, rfl⟩ <;> rfl

end Sys2Proof.Machine

namespace Sys2Proof
open Machine

/-- Settles O52. -/
theorem fabricManagementActs : Obligations.FabricManagementActs := by
  intro s d m sound die alive
  have c := sound.1
  refine ⟨fun i code listed => ⟨fun bad => mgmt_drops c die (mgmt_row listed) alive bad,
    fun takes => mgmt_sequences c die (mgmt_row listed) takes⟩, fun v takes place value entry good force => ?_,
    fun takes => ?_, fun takes => ?_, fun takes idle => ?_, fun takes => ?_,
    fun takes => mgmt_resetForwardingPlane c die (by rfl) takes rfl, fun takes later => ?_, fun takes least most => ?_,
    fun takes port => ?_, fun takes => ?_, fun takes new => ?_, fun takes => ?_⟩
  · subst value
    obtain ⟨t, row, _, kept⟩ := mgmt_runs (i := .writeTableEntry d m) c die (by rfl) takes (by decide)
    refine ⟨t, row, ?_⟩
    dsimp only
    rw [kept.routes]
    exact State.mgmt_tableEntry (State.mgmtBegun_canonical c 2) _ _ ((State.length_mgmtBegun c 2).symm ▸ die) place entry good force
  · exact mgmt_reg c die (P := fun v => bits v 0 0 = bits m.arg0.toNat 0 0) (by rfl) takes (by decide) _ (by decide) (by decide)
      (State.mgmt_injectEdition (State.mgmtBegun_canonical c 3) _ _)
  · exact mgmt_reg c die (P := fun v => bits v 8 8 = bits m.arg0.toNat 0 0) (by rfl) takes (by decide) _ (by decide) (by decide)
      (State.mgmt_relayRequired (State.mgmtBegun_canonical c 4) _ _)
  · exact mgmt_reg c die (P := (· = _)) (by rfl) takes (by decide) _ (by decide) (by decide)
      (State.mgmt_endpointId (State.mgmtBegun_canonical c 5) _ _ (State.busy_mgmtBegun 5 idle))
  · have set := State.mgmt_routeCtl (d := d) (State.mgmtBegun_canonical (d := d) (m := m) c 6) m.arg0.toNat m.arg1.toNat
    rw [State.reg_mgmtBegun c 6 _ (by decide) (by decide)] at set
    exact mgmt_reg c die (P := (· = _)) (by rfl) takes (by decide) _ (by decide) (by decide) set
  · obtain ⟨t, row, time, _⟩ := mgmt_keeps (i := .setFabricTime d m) c die (by rfl) takes (by decide)
    refine ⟨t, row, fun k low => ?_⟩
    have begun := State.time_mgmtBegun (d := d) (m := m) c 0x20 0
    obtain ⟨ns, on⟩ := State.mgmt_fabricTime (d := d) (State.mgmtBegun_canonical (d := d) (m := m) c 0x20) m.arg0.toNat m.arg1.toNat
      ((State.length_mgmtBegun c 0x20).symm ▸ low) (by rw [State.time, begun]; exact later)
    rw [State.time, time k]
    exact ⟨ns.trans ((BitVec.ofNat_toNat 64 m.arg0).trans (BitVec.setWidth_eq _)), on⟩
  · obtain ⟨t, row, time, _⟩ := mgmt_keeps (i := .adjustFabricTime d m) c die (by rfl) takes (by decide)
    refine ⟨t, row, fun k low => ?_⟩
    have set := State.mgmt_adjustTime (u := s.mgmtBegun d 0x21 m) (d := d) m.arg0.toNat m.arg1.toNat
      ((State.length_mgmtBegun c 0x21).symm ▸ low) least most
    rw [time k, set, State.time_mgmtBegun c]
    exact ⟨rfl, rfl⟩
  · obtain ⟨t, row, time, _, reg⟩ := mgmt_keeps (i := .setPtp d m) c die (by rfl) takes (by decide)
    refine ⟨t, row, fun k low => ?_⟩
    have length := State.length_mgmtBegun (d := d) (m := m) c 0x22
    rw [reg _ _ (by decide) (by decide), time k]
    exact State.mgmt_ptp (State.mgmtBegun_canonical c 0x22) _ _ (length.symm ▸ low) (length.symm ▸ port)
  · obtain ⟨t, row, _, _, reg⟩ := mgmt_keeps (i := .armCaptureAt d m) c die (by rfl) takes (by decide)
    refine ⟨t, row, fun k low => ?_⟩
    rw [reg _ _ (by decide) (by decide)]
    exact State.mgmt_armCapture (State.mgmtBegun_canonical c 0x23) _ _ ((State.length_mgmtBegun c 0x23).symm ▸ low) m.arg1.isLt
  · obtain ⟨t, row, _, drives, reg⟩ := mgmt_keeps (i := .triggerCapture d m) c die (by rfl) takes (by decide)
    refine ⟨t, row, ?_⟩
    dsimp only
    rw [reg _ _ (by decide) (by decide), drives]
    exact State.mgmt_triggerCapture (State.mgmtBegun_canonical c 0x24) _ _
      (by rw [State.reg_mgmtBegun c 0x24 _ (by decide) (by decide)]; exact new)
  · obtain ⟨t, row, time, _⟩ := mgmt_keeps (i := .readFabricTime d m) c die (by rfl) takes (by decide)
    refine ⟨t, row, fun k _ => ?_⟩
    have same : ((s.mgmtBegun d 0x25 m).mgmt d 0x25 m.arg0.toNat m.arg1.toNat).after = s.mgmtBegun d 0x25 m := by
      simp only [State.mgmt]
    rw [State.time, time k, same, State.time_mgmtBegun c, State.time]

end Sys2Proof
end

section
-- One proof after another: side by side, the proofs of the whole text need more threads than the memory limit has room for.
set_option Elab.async false
/-!
Power states (R596 to R605, R631) and MCTP control requests (R666).
-/

namespace Sys2Proof.Machine

/-! ### The power unit of a die -/

/-- A change of a die's power unit. -/
theorem State.power_onPower {s : State} {d : Nat} (f : Power → Power) (die : d < s.dies.length) (e : Nat) :
    ((s.onPower d f).die e).power = if e = d then f (s.die d).power else (s.die e).power := by
  by_cases same : e = d
  · subst same
    rw [State.onPower, State.die_onDie _ _ _ _ die, if_pos rfl, if_pos rfl]
  · rw [State.onPower, State.die_onDie_ne _ _ same, if_neg same]

theorem Within.power {W : Nat} {s t : State} (w : Within W s t) (c : s.canonical) (e : Nat)
    (power : W.testBit Area.power.bit = false := by decide) : (t.die e).power = (s.die e).power :=
  State.die_congr (w.areas .power power c) e

/-- STATE of a die set leaves every other power unit as it is. -/
theorem State.power_setPower {s : State} (c : s.canonical) {d : Nat} (die : d < s.dies.length) (v e : Nat) :
    ((s.setPower d v).die e).power = if e = d then { (s.die d).power with state := v } else (s.die e).power := by
  unfold State.setPower
  split
  · next already =>
    split
    · next same =>
      subst same
      rw [← already]
    · rfl
  · have counted : ((s.onPower d fun x => { x with state := v }).count (powerPage d) Ctr.powerStateChanges).canonical :=
      State.count_within.canonical (State.onPower_within.canonical c)
    rw [State.raise_within.power counted e, State.die_count]
    exact State.power_onPower _ die e

theorem State.target_setPower {s : State} (c : s.canonical) (d v e : Nat) :
    ((s.setPower d v).die e).power.target = (s.die e).power.target := by
  unfold State.setPower
  split
  · rfl
  · have counted : ((s.onPower d fun x => { x with state := v }).count (powerPage d) Ctr.powerStateChanges).canonical :=
      State.count_within.canonical (State.onPower_within.canonical c)
    rw [State.raise_within.power counted e, State.die_count]
    exact State.die_congr (g := fun x => x.power.target) (map_modifyAt _ _ _ _ fun _ => by rfl) e

/-- A die enters a state of the ladder. -/
theorem State.power_enterState {s : State} (c : s.canonical) {d : Nat} (die : d < s.dies.length) (r e : Nat) :
    ((s.enterState d r).die e).power = if e = d then { (s.die d).power with state := r } else (s.die e).power := by
  unfold State.enterState
  extract_lets entered
  have kept : entered.Whole s.dies.length ∧ ∀ e, (entered.die e).power = (s.die e).power := by
    simp only [entered]
    split
    · exact ⟨State.enterPressed_within.whole ⟨c, rfl⟩, State.enterPressed_within.power c⟩
    · split
      · exact ⟨State.enterBoarded_within.whole ⟨c, rfl⟩, State.enterBoarded_within.power c⟩
      · split
        · exact ⟨State.enterShelved_within.whole ⟨c, rfl⟩, State.enterShelved_within.power c⟩
        · exact ⟨⟨c, rfl⟩, fun _ => rfl⟩
  obtain ⟨⟨canonical, length⟩, powers⟩ := kept
  rw [State.power_setPower canonical (length.symm ▸ die), powers d, powers e]

/-- The power unit of every die changed. -/
theorem State.eachDie_onPower (s : State) (f : Power → Power) :
    ∃ ds, (s.eachDie fun s d => s.onPower d f) = { s with dies := ds } ∧ ds.length = s.dies.length ∧
      ∀ d < s.dies.length, ((ds[d]?).getD {}).power = f (s.die d).power := by
  obtain ⟨ds, eq, length, dies⟩ := s.foldl_onDie (fun _ x => { x with power := f x.power }) (l := s.dieList) List.nodup_range
  refine ⟨ds, eq, length, fun d die => ?_⟩
  have listed : d ∈ s.dieList := List.mem_range.mpr die
  have at_ := dies d die
  rw [if_pos listed] at at_
  exact congrArg Die.power at_

/-- Every die's power unit changed in turn. -/
theorem State.power_eachDie {s : State} (c : s.canonical) {f : State → Nat → State} {k v : Nat} (die : k < s.dies.length)
    (whole : ∀ (t : State) e, t.Whole s.dies.length → State.Whole s.dies.length (f t e))
    (set : ∀ (t : State) d e, t.Whole s.dies.length → d < s.dies.length →
      ((f t d).die e).power = if e = d then { (t.die d).power with state := v } else (t.die e).power) :
    ((s.eachDie f).die k).power.state = v := by
  have keep (t : State) (d : Nat) (w : t.Whole s.dies.length) (low : d < s.dies.length) (h : (t.die k).power.state = v) :
      ((f t d).die k).power.state = v := by
    rw [set t d k w low]
    split
    · rfl
    · exact h
  obtain ⟨before, after, split⟩ := List.append_of_mem (List.mem_range.mpr die)
  have bound (d : Nat) (h : d ∈ before ++ k :: after) : d < s.dies.length := List.mem_range.mp (split ▸ h)
  have order : s.eachDie f = after.foldl f (f (before.foldl f s) k) := by
    rw [State.eachDie, State.dieList, split, List.foldl_append, List.foldl_cons]
  have reached : State.Whole s.dies.length (before.foldl f s) :=
    List.foldlRecOn before f ⟨c, rfl⟩ fun t w d _ => whole t d w
  have own : ((f (before.foldl f s) k).die k).power.state = v := by rw [set _ k k reached die, if_pos rfl]
  rw [order]
  have rest := List.foldlRecOn after f
    (motive := fun t : State => t.Whole s.dies.length ∧ (t.die k).power.state = v) ⟨whole _ k reached, own⟩
    fun t h d listed => ⟨whole t d h.1, keep t d h.1
      (bound d (List.mem_append_right _ (List.mem_cons_of_mem _ listed))) h.2⟩
  exact rest.2

/-! ### Moves (R602, R603) -/

theorem State.setPower_whole {n : Nat} {s : State} (w : s.Whole n) (d v : Nat) : (s.setPower d v).Whole n :=
  State.setPower_within.whole w

/-- A move to Open, Creased or Folded leaves every die in Open, one to a held state leaves every die in that state (R602). -/
theorem State.moveTo_power {s : State} (c : s.canonical) {r d : Nat} (stay : ¬((s.die 0).power.state = 5 ∧ r < 5))
    (die : d < s.dies.length) : ((s.moveTo r).die d).power.state = if r < 3 then 0 else r := by
  unfold State.moveTo
  extract_lets cur trained board linked
  rw [if_neg stay]
  have train : trained.Whole s.dies.length := by
    simp only [trained]
    split
    · exact State.Whole.foldl ⟨c, rfl⟩ fun _ _ w => State.trainPorts_within.whole w
    · exact ⟨c, rfl⟩
  obtain ⟨canonical, length⟩ := train
  split
  · refine State.power_eachDie canonical (length.symm ▸ die)
      (fun t e w => State.setPower_whole (State.selfRefresh_within.whole w) e 0) fun t e k w low => ?_
    have refreshed := State.selfRefresh_within (s := t) (d := e) (v := false)
    rw [State.power_setPower (refreshed.canonical w.canonical) ((refreshed.whole w).length.symm ▸ low),
      refreshed.power w.canonical, refreshed.power w.canonical]
  · have link : linked.Whole s.dies.length := by
      simp only [linked]
      split
      · exact State.Whole.congr ⟨canonical, length⟩ rfl rfl rfl rfl
      · exact ⟨canonical, length⟩
    exact State.power_eachDie link.canonical (link.length.symm ▸ die) (fun t e w => State.enterState_within.whole w)
      fun t e k w low => State.power_enterState w.canonical (w.length.symm ▸ low) r k

theorem State.warmReset_dies (s : State) : ∃ (l : List Die) (brake : Bool), s.warmReset.dies = l.map (Die.warm brake) := ⟨_, _, rfl⟩

/-- After a package warm reset every die is in Open (R625). -/
theorem State.packageWarm_power {s : State} (c : s.canonical) (run : s.spine.phase ≠ .held) {d : Nat}
    (die : d < s.dies.length) : (s.packageWarm.die d).power.state = 0 := by
  have released : (s.spine.phase == .held) = false := beq_eq_false_iff_ne.mpr run
  have length : d < s.warmReset.dies.length := (State.warmReset_within.whole ⟨c, rfl⟩).length.symm ▸ die
  have dies : s.packageWarm.dies = s.warmReset.dies := by
    rw [State.packageWarm, released, if_neg Bool.false_ne_true]
    rfl
  obtain ⟨l, brake, warm⟩ := s.warmReset_dies
  rw [warm, List.length_map] at length
  rw [State.die, dies, warm, List.getElem?_map, List.getElem?_eq_getElem length]
  rfl

/-- A part that leaves Shelved is in Open (R603). -/
theorem State.leaveShelved_power {s : State} (c : s.canonical) (run : s.spine.phase ≠ .held) {d : Nat}
    (die : d < s.dies.length) : (s.leaveShelved.die d).power.state = 0 := by
  have warm := State.packageWarm_within (s := s) |>.canonical c
  have timed : Within 4294967296 s.packageWarm (s.packageWarm.eachDie fun s d => s.onTime d fun _ => {}) :=
    State.eachDie_within fun _ _ => State.onTime_within
  have trained : Within 134217728 (s.packageWarm.eachDie fun s d => s.onTime d fun _ => {}) s.leaveShelved :=
    State.eachDie_within fun t d => List.foldlRecOn _ _ (Within.refl _ t) fun _ h _ _ =>
      State.retrain_within.step (by decide) h
  rw [trained.power (timed.canonical warm), timed.power warm]
  exact State.packageWarm_power c run die

/-- The part with its move ended: nothing waits, and no wake message is held. -/
def State.moveEnded (s : State) : State :=
  { s with powerMove := none, powerNext := none, board := { s.board with waking := none } }

theorem State.mctpAnswer_keeps (s : State) (m : List Byte) :
    (s.mctpAnswer m).dies = s.dies ∧ (s.mctpAnswer m).powerMove = s.powerMove ∧
      (s.mctpAnswer m).board.waking = s.board.waking := by
  unfold State.mctpAnswer
  dsimp only
  split
  · exact ⟨rfl, rfl, rfl⟩
  · split
    · exact ⟨rfl, rfl, rfl⟩
    · split
      · exact ⟨rfl, rfl, rfl⟩
      · split <;> exact ⟨rfl, rfl, rfl⟩

/-- A move that completes with no request waiting (R602). -/
theorem exec_powerTransitionDone {s : State} {r : Nat} (move : s.powerMove = some r) (wait : s.powerNext = none) :
    ∃ t, exec .powerTransitionDone s = .next t ∧ t.dies = (s.moveTo r).dies ∧ t.powerMove = none ∧ t.board.waking = none := by
  have row : exec .powerTransitionDone s = .next (match s.board.waking with
      | some m => (s.moveTo r).moveEnded.mctpAnswer m
      | none => (s.moveTo r).moveEnded) := by
    have row : exec .powerTransitionDone s = execPowerTransitionDone s := by rfl
    rw [row, execPowerTransitionDone, move, wait]
    rfl
  refine ⟨_, row, ?_⟩
  cases s.board.waking with
  | none => exact ⟨rfl, rfl, rfl⟩
  | some m => exact State.mctpAnswer_keeps (s.moveTo r).moveEnded m

/-! ### Requests (R601) -/

section Requests

variable {s : State} (sound : s.sound) (ready : s.ready = true) {r : BitVec 3}

include ready in
theorem exec_powerReq : exec (.powerReq 0 0x80008 r) s = .next (s.requestPower r.toNat) := by
  have row : exec (.powerReq 0 0x80008 r) s = execPowerReq 0 0x80008 r s := by rfl
  rw [row, execPowerReq, ready, if_pos (by decide), if_pos rfl]

/-- A die's power unit with a target. -/
def Power.aim (r : Nat) (x : Power) : Power := { x with target := r }

/-- Every die's target set, and POWER_REQ. -/
def State.aimed (s : State) (r : Nat) : State :=
  { State.eachDie { s with powerRefused := false } (fun s d => s.onPower d (Power.aim r)) with powerReq := r }

theorem State.aimed_eq (s : State) (r : Nat) :
    ∃ ds, s.aimed r = { s with powerRefused := false, powerReq := r, dies := ds } ∧ ds.length = s.dies.length ∧
      ∀ d < s.dies.length, ((ds[d]?).getD {}).power = (s.die d).power.aim r := by
  obtain ⟨ds, aim, length, powers⟩ := State.eachDie_onPower { s with powerRefused := false } (Power.aim r)
  refine ⟨ds, ?_, length, powers⟩
  unfold State.aimed
  rw [aim]

theorem State.aimed_target {s : State} {r d : Nat} (die : d < s.dies.length) : ((s.aimed r).die d).power.target = r := by
  obtain ⟨ds, eq, _, powers⟩ := s.aimed_eq r
  rw [eq]
  exact congrArg Power.target (powers d die)

theorem State.aimed_keeps (s : State) (r : Nat) : (s.aimed r).powerMove = s.powerMove ∧ (s.aimed r).mem = s.mem ∧
    (s.aimed r).regs = s.regs ∧ (s.aimed r).totals = s.totals ∧ (s.aimed r).dies.length = s.dies.length := by
  obtain ⟨ds, eq, length, _⟩ := s.aimed_eq r
  rw [eq]
  exact ⟨rfl, rfl, rfl, rfl, length⟩

theorem State.applyPower_eq {s : State} {r : Nat} (admits : s.refusesPower r = false) : s.applyPower r =
    if (3 ≤ r ∨ 3 ≤ (s.die 0).power.state) ∧ (s.die 0).power.state ≠ r then { s.aimed r with powerMove := some r }
    else (s.aimed r).eachDie fun s d =>
      if (s.die d).power.state < 3 ∧ r < (s.die d).power.state then (s.selfRefresh d false).setPower d 0 else s := by
  unfold State.applyPower
  exact if_neg fun h => Bool.false_ne_true (admits.symm.trans h)

/-- A request that the part admits: every die's target, with a move where a held state is entered or left. -/
theorem State.applyPower_admits {s : State} (c : s.canonical) {r : Nat} (still : s.powerMove = none)
    (admits : s.refusesPower r = false) : (s.applyPower r).powerReq = r ∧
      (∀ d < s.dies.length, ((s.applyPower r).die d).power.target = r) ∧
      (s.applyPower r).powerMove =
        if (3 ≤ r ∨ 3 ≤ (s.die 0).power.state) ∧ (s.die 0).power.state ≠ r then some r else none := by
  obtain ⟨move, mem, regs, totals, _⟩ := s.aimed_keeps r
  have canonical : (s.aimed r).canonical := ⟨mem ▸ c.1, regs ▸ c.2.1, totals ▸ c.2.2⟩
  rw [State.applyPower_eq admits]
  split
  · exact ⟨rfl, fun d die => State.aimed_target die, rfl⟩
  · have wake (t : State) (d : Nat) : Within 1610616844 t
        (if (t.die d).power.state < 3 ∧ r < (t.die d).power.state then (t.selfRefresh d false).setPower d 0 else t) := by
      split
      · exact State.setPower_within.step (by decide) (State.selfRefresh_within.mono (by decide))
      · exact Within.refl _ t
    have states := (State.eachDie_within wake).areas .powerState (by decide) canonical
    refine ⟨states.1, fun d die => ?_, states.2.2.1.trans (move.trans still)⟩
    have kept := List.foldlRecOn (motive := fun t : State => t.Whole (s.aimed r).dies.length ∧ (t.die d).power.target = r)
      (s.aimed r).dieList _ ⟨⟨canonical, rfl⟩, State.aimed_target die⟩ fun t h e _ => ⟨(wake t e).whole h.1, by
        split
        · have refreshed := (State.selfRefresh_within (s := t) (d := e) (v := false))
          rw [State.target_setPower (refreshed.canonical h.1.canonical), refreshed.power h.1.canonical]
          exact h.2
        · exact h.2⟩
    exact kept.2

section Requested

include sound ready

/-- A reserved encoding is refused (R42). -/
theorem powerReq_reserved (bad : 5 < r.toNat) : Completes (.powerReq 0 0x80008 r) s fun t =>
    t.powerReq = s.powerReq ∧ t.powerMove = s.powerMove := by
  refine ⟨_, exec_powerReq ready, ?_⟩
  rw [State.requestPower, if_pos bad]
  obtain ⟨req, _, move, _⟩ := (State.reject_within (s := s) (p := packagePage) (code := 0x0003)).areas .powerState (by decide) sound.1
  exact ⟨req, move⟩

omit sound in
/-- A request during a move waits (R631). -/
theorem powerReq_waits (low : r.toNat ≤ 5) (move : s.powerMove.isSome = true) : Completes (.powerReq 0 0x80008 r) s fun t =>
    t.powerNext = some r.toNat ∧ t.powerMove = s.powerMove := by
  refine ⟨_, exec_powerReq ready, ?_⟩
  rw [State.requestPower, if_neg (by omega), if_pos move]
  exact ⟨rfl, rfl⟩

omit sound in
theorem requestPower_applies (low : r.toNat ≤ 5) (still : s.powerMove = none) :
    exec (.powerReq 0 0x80008 r) s = .next (s.applyPower r.toNat) := by
  rw [exec_powerReq ready, State.requestPower, if_neg (by omega), still]
  rfl

/-- A request that the part refuses (R601). -/
theorem powerReq_refused (low : r.toNat ≤ 5) (still : s.powerMove = none) (refuses : s.refusesPower r.toNat = true) :
    Completes (.powerReq 0 0x80008 r) s fun t =>
      t.powerRefused = true ∧ t.powerReq = s.powerReq ∧ t.powerMove = none := by
  have refused : s.applyPower r.toNat =
      { State.reject { s with powerRefused := false } packagePage 0x0003 with powerRefused := true } := if_pos refuses
  have kept := (State.reject_within (s := { s with powerRefused := false }) (p := packagePage) (code := 0x0003)).areas
    .powerState (by decide) sound.1
  obtain ⟨req, _, move, _⟩ := kept
  refine ⟨_, requestPower_applies ready low still, ?_⟩
  rw [refused]
  exact ⟨rfl, req, move.trans still⟩

end Requested

end Requests

/-! ### Floors (R599, R600) -/

section Floors

variable {s : State} (c : s.canonical) {d : Nat} (die : d < s.dies.length)

include c die

omit c die in
theorem State.mayDrop_open (may : s.mayDrop d = true) : (s.die d).power.state = 0 := by
  simp only [State.mayDrop, Bool.and_eq_true, beq_iff_eq] at may
  exact may.1.1

/-- A die that runs nothing drops to Creased (R599). -/
theorem creaseIdle_creases (req : s.powerReq = 1) (may : s.mayDrop d = true) (idle : s.running d = false) :
    Completes (.creaseIdle d) s fun t =>
      (t.die d).power.state = 1 ∧ Counted (powerPage d) Ctr.powerStateChanges 1 s t := by
  have row : exec (.creaseIdle d) s = .next (s.setPower d 1) := by
    have row : exec (.creaseIdle d) s = execCreaseIdle d s := by rfl
    rw [row, execCreaseIdle, atDie, if_pos die, if_pos ⟨req, may, by rw [idle]; rfl⟩]
  have changed : s.setPower d 1 = ((s.onPower d fun x => { x with state := 1 }).count (powerPage d)
      Ctr.powerStateChanges).raise (powerPage d) 1 := by
    rw [State.setPower, State.mayDrop_open may]
    exact if_neg (by decide)
  have power := State.power_setPower c die 1 d
  rw [if_pos rfl] at power
  refine ⟨_, row, congrArg Power.state power, ?_⟩
  rw [changed]
  have moved : State.KeepsCtr (powerPage d) Ctr.powerStateChanges s (s.onPower d fun x => { x with state := 1 }) :=
    (State.KeepsCtr.refl c).congr rfl rfl rfl
  exact moved.counted ((State.KeepsCtr.refl (State.count_within.canonical moved.canonical)).within State.raise_within)

/-- A die that is idle drops to Folded, its memories in self-refresh (R600). -/
theorem foldIdle_folds (req : s.powerReq = 2) (may : s.mayDrop d = true) (idle : s.foldIdle d = true) :
    Completes (.foldIdle d) s fun t => (t.die d).power.state = 2 ∧ ∀ x ∈ (t.die d).mems, x.selfRefresh = true := by
  have row : exec (.foldIdle d) s =
      .next (((s.closeEarly d fun p => p.kind.domain == .compute).selfRefresh d true).setPower d 2) := by
    have row : exec (.foldIdle d) s = execFoldIdle d s := by rfl
    rw [row, execFoldIdle, atDie, if_pos die, if_pos ⟨req, may, idle⟩]
  have closed : State.Whole s.dies.length (s.closeEarly d fun p => p.kind.domain == .compute) :=
    State.closeEarly_within.whole ⟨c, rfl⟩
  have slept := (State.selfRefresh_within (d := d) (v := true)).whole closed
  have power := State.power_setPower slept.canonical (slept.length.symm ▸ die) 2 d
  rw [if_pos rfl] at power
  refine ⟨_, row, congrArg Power.state power, ?_⟩
  have mems : ∀ {u : State}, d < u.dies.length → u.canonical →
      ((((u.selfRefresh d true).setPower d 2).die d).mems) = (u.die d).mems.map fun m => { m with selfRefresh := true } := by
    intro u low cu
    have same : (((u.selfRefresh d true).setPower d 2).die d).mems = ((u.selfRefresh d true).die d).mems :=
      State.die_congr (State.setPower_within.areas .controllers (by decide) (State.selfRefresh_within.canonical cu)) d
    rw [same, State.selfRefresh, State.die_onDie _ _ _ _ low, if_pos rfl]
  intro x listed
  rw [mems (closed.length.symm ▸ die) closed.canonical] at listed
  obtain ⟨m, _, rfl⟩ := List.mem_map.mp listed
  rfl

/-- A wake event takes a die at a floor to Open (R599). -/
theorem wakeEvent_opens (cause : WakeCause) (floor : (s.die d).power.state = 1 ∨ (s.die d).power.state = 2) :
    Completes (.wakeEvent d cause) s fun t => (t.die d).power.state = 0 := by
  have row : exec (.wakeEvent d cause) s = execWakeEvent d cause s := by rfl
  rw [execWakeEvent, atDie, if_pos die] at row
  have opened {u : State} (w : u.Whole s.dies.length) : ((u.setPower d 0).die d).power.state = 0 := by
    have power := State.power_setPower w.canonical (w.length.symm ▸ die) 0 d
    rw [if_pos rfl] at power
    exact congrArg Power.state power
  refine ⟨_, row, ?_⟩
  dsimp only
  split
  · exact opened ⟨c, rfl⟩
  · next notCreased =>
    rw [if_pos (floor.resolve_left notCreased)]
    have woken := (State.selfRefresh_within (d := d) (v := false)).whole ⟨c, rfl⟩
    split
    · rw [State.enterComputeReset_within.power (State.setPower_within.canonical woken.canonical)]
      exact opened woken
    · exact opened woken

end Floors

/-! ### MCTP (R605, R666) -/

section Mctp

variable {s : State} (perst : s.board.perst = false)

include perst

/-- A request that reaches the part in Shelved begins its wake (R605). -/
theorem State.mctpRequest_wakes (shelved : (s.die 0).power.state = 5) (m : List Byte) :
    s.mctpRequest m = { s with board := { s.board with waking := some m }, powerReq := 0, powerMove := some 0 } := by
  rw [State.mctpRequest, perst, if_neg Bool.false_ne_true, if_pos shelved]

/-- A request outside Shelved is answered (R666). -/
theorem State.mctpRequest_answers (awake : (s.die 0).power.state ≠ 5) (m : List Byte) :
    s.mctpRequest m = s.mctpAnswer m := by
  rw [State.mctpRequest, perst, if_neg Bool.false_ne_true, if_neg awake]

end Mctp

/-- A wake message to the part's endpoint is the request that it holds. -/
theorem exec_mctpWake (s : State) (m : List Byte) : exec (.mctpWake s.board.eid m) s = .next (s.mctpRequest m) := by
  have row : exec (.mctpWake s.board.eid m) s = execMctpWake s.board.eid m s := by rfl
  rw [row, execMctpWake, beq_self_eq_true, Bool.true_or, if_pos rfl]

/-- The command code of a request of one byte's code. -/
theorem le_mctpBytes (code : Byte) (data : List Byte) : le (mctpBytes code.toNat data) 2 1 = code.toNat := by
  simp [le, mctpBytes, toLE, slice, fromLE]

theorem State.mctpAnswer_setEndpointId (s : State) (e : Byte) : s.mctpAnswer (mctpBytes 1 [e]) =
    State.emit { s with board := { s.board with eid := e } } (.mctp (.setEndpointId e)) := by
  have code : le (mctpBytes 1 [e]) 2 1 = 1 := le_mctpBytes 1 [e]
  have data : BitVec.ofNat 8 (le (mctpBytes 1 [e]) 4 1) = e := by
    simp [le, mctpBytes, toLE, slice, fromLE]
  rw [State.mctpAnswer, code, data]
  rfl

theorem State.mctpAnswer_versions (s : State) (e : Byte) :
    ∃ v, (s.mctpAnswer (mctpBytes 4 [e])).outbox = .mctp (.versions v) :: s.outbox := by
  have code : le (mctpBytes 4 [e]) 2 1 = 4 := le_mctpBytes 4 [e]
  rw [State.mctpAnswer, code]
  exact ⟨_, rfl⟩

end Sys2Proof.Machine

namespace Sys2Proof
open Machine

/-- Settles O53. -/
theorem powerStatesAndMctp : Obligations.PowerStatesAndMctp := by
  refine ⟨fun s sound => ⟨fun r ready => ⟨powerReq_reserved sound ready, powerReq_waits ready, powerReq_refused sound ready,
    fun low still admits => ⟨_, requestPower_applies ready low still, State.applyPower_admits sound.1 still admits⟩⟩,
    fun d die => ⟨creaseIdle_creases sound.1 die, foldIdle_folds sound.1 die, wakeEvent_opens sound.1 die⟩,
    fun r move wait low => ?_⟩, fun s perst => ⟨fun i r listed shelved => ?_, fun e shelved => ?_, fun awake => ?_⟩⟩
  · obtain ⟨t, row, dies, still, none_⟩ := exec_powerTransitionDone move wait
    have same (d : Nat) : t.die d = (s.moveTo r).die d := by rw [State.die, dies, State.die]
    refine ⟨t, row, still, none_, fun stay d die => ?_, fun shelved less run d die => ?_⟩
    · rw [same]
      exact State.moveTo_power sound.1 stay die
    · have leaves : s.moveTo r = s.leaveShelved := if_pos ⟨shelved, less⟩
      rw [same, leaves]
      exact State.leaveShelved_power sound.1 run die
  · have wakes := State.mctpRequest_wakes perst shelved r
    simp only [List.mem_cons, Prod.mk.injEq, List.not_mem_nil, or_false] at listed
    have row : exec i s = .next (s.mctpRequest r) := by
      rcases listed with ⟨rfl, rfl⟩ | ⟨rfl, rfl⟩ | ⟨rfl, rfl⟩
      · rfl
      · rfl
      · exact exec_mctpWake s _
    rw [wakes] at row
    exact ⟨_, row, rfl, rfl, rfl, rfl⟩
  · have wakes := State.mctpRequest_wakes perst shelved
    refine ⟨⟨s.mctpRequest (mctpBytes 1 [e]), rfl, ?_⟩, ⟨s.mctpRequest (mctpBytes 4 [e]), rfl, ?_⟩,
      ⟨s.mctpRequest (mctpBytes e.toNat []), if_pos ⟨shelved, perst⟩ |> congrArg Host.Outcome.next, ?_⟩⟩
    · rw [wakes]
      exact ⟨rfl, rfl⟩
    · rw [wakes]
    · rw [wakes]
  · have answers := State.mctpRequest_answers perst awake
    have refused : ¬((s.die 0).power.state = 5 ∧ s.board.perst = false) := fun h => awake h.1
    refine ⟨fun e => ⟨s.mctpRequest (mctpBytes 1 [e]), rfl, ?_⟩, ⟨s.mctpRequest (mctpBytes 2 []), rfl, ?_⟩,
      fun e => ⟨s.mctpRequest (mctpBytes 4 [e]), rfl, ?_⟩, ⟨s.mctpRequest (mctpBytes 5 []), rfl, ?_⟩,
      fun code => ⟨s.emit (.mctp .unsupportedCmd), ?_, rfl⟩, ⟨s.mctpRequest (mctpBytes 2 []), exec_mctpWake s _, ?_⟩⟩
    · rw [answers, State.mctpAnswer_setEndpointId]
      exact ⟨rfl, rfl⟩
    · rw [answers]
      rfl
    · dsimp only
      rw [answers]
      exact State.mctpAnswer_versions s e
    · rw [answers]
      rfl
    · have row : exec (.mctpUnsupportedMessage code) s = execMctpUnsupportedMessage code s := by rfl
      rw [row, execMctpUnsupportedMessage, if_neg refused, perst]
      rfl
    · rw [answers]
      rfl

end Sys2Proof
end

section
-- One proof after another: side by side, the proofs of the whole text need more threads than the memory limit has room for.
set_option Elab.async false
/-!
The governor, the brake, temperatures and PLLs (R606 to R623, R630).
-/

namespace Sys2Proof.Machine

/-! ### The ramp governor (R607, R608) -/

/-- The highest issue that a condition admits. -/
theorem highest_spec (ok : Nat → Bool) : (((List.range 101).reverse.find? ok).getD 0) ≤ 100 ∧
    (0 < ((List.range 101).reverse.find? ok).getD 0 → ok (((List.range 101).reverse.find? ok).getD 0) = true) := by
  cases found : (List.range 101).reverse.find? ok with
  | none => exact ⟨Nat.zero_le _, fun h => absurd h (Nat.lt_irrefl 0)⟩
  | some i =>
    have listed := List.mem_of_find?_eq_some found
    rw [List.mem_reverse, List.mem_range] at listed
    exact ⟨by simp only [Option.getD_some]; omega, fun _ => List.find?_some found⟩

theorem lowestBelow_zero {n : Nat} {p : Nat → Bool} (zero : p 0 = true) : lowestBelow (n + 1) p = some 0 := by
  rw [lowestBelow, List.range_succ_eq_map, List.find?_cons_of_pos zero]

/-- The power of what a die draws rises with its issue. -/
theorem railPower_mono (fixed perPercent : List Nat) {i j : Nat} (le : i ≤ j) :
    railPower ((List.range 3).map fun r => fixed[r]?.getD 0 + perPercent[r]?.getD 0 * i) ≤
      railPower ((List.range 3).map fun r => fixed[r]?.getD 0 + perPercent[r]?.getD 0 * j) := by
  have rail (r : Nat) : fixed[r]?.getD 0 + perPercent[r]?.getD 0 * i ≤ fixed[r]?.getD 0 + perPercent[r]?.getD 0 * j :=
    Nat.add_le_add_left (Nat.mul_le_mul_left _ le) _
  have sum (f : Nat → Nat) : railPower ((List.range 3).map f) = f 0 * 75 + (f 1 * 80 + (f 2 * 110 + 0)) := by rfl
  rw [sum, sum]
  have := rail 0
  have := rail 1
  have := rail 2
  omega

/-- The governor's issue keeps the thermal cap, the brake's and the budget's, where so quick a fall is admitted. -/
theorem State.govern_issue {s : State} {d : Nat} (die : d < s.dies.length) (fixed perPercent : List Nat) (wanted : Nat)
    (fall : s.downOk d ((List.range 3).map fun r => fixed[r]?.getD 0 + perPercent[r]?.getD 0 * 0) = true) {i : Nat}
    (issue : ((s.govern d fixed perPercent wanted).die d).power.issue = i) :
    i ≤ 100 ∧ i ≤ (if (s.die d).power.trip then 0 else (s.die d).power.thermal) ∧
      ((s.die d).power.brake = true → i ≤ bits (s.reg (powerPage d) 0x104) 31 24) ∧
      (0 < i → railPower ((List.range 3).map fun r => fixed[r]?.getD 0 + perPercent[r]?.getD 0 * i) ≤
        bits (s.reg (powerPage d) 0x108) 15 0 * 100000) := by
  unfold State.govern at issue
  extract_lets p x draw highest rampCap floor budget thermal brake cap allowed cause actual ballast cur energy burnt set
    counted cycled at issue
  have same (l : List Nat) : ((l.foldl (fun s r => if (((s.die d).recks[r]?).bind Reckoner.run).isSome then
      s.count (reckonerPage d r) Ctr.reckonerThrottleCycles (periodCycles * (wanted - actual) / 100) else s) cycled).die d).power =
      (set.die d).power := by
    refine List.foldlRecOn (motive := fun t : State => (t.die d).power = (set.die d).power) l _ ?_ fun t h r _ => ?_
    · simp only [cycled]
      split <;> rfl
    · split
      · exact h
      · exact h
  have level : floor = 0 := by
    simp only [floor]
    rw [lowestBelow_zero fall]
    rfl
  have capped : i = cap := by
    have power := State.power_onPower (fun x => { x with
      issue := allowed, cause := cause, history := (cur :: x.history).take 8191
      energy := energy % microJoule, ballast := burnt % microJoule }) die d
    rw [if_pos rfl] at power
    rw [← issue, same, power]
    simp only [allowed, level, Nat.not_lt_zero, if_false]
  obtain ⟨rampMost, _⟩ := highest_spec fun i => s.upOk d (draw i)
  obtain ⟨_, fits⟩ := highest_spec fun i => decide (railPower (draw i) ≤ bits (s.reg p 0x108) 15 0 * 100000)
  have underRamp : i ≤ rampCap := capped ▸ Nat.le_trans (Nat.min_le_left _ _) (Nat.min_le_left _ _)
  have underBudget : i ≤ budget := capped ▸ Nat.le_trans (Nat.min_le_left _ _) (Nat.min_le_right _ _)
  have underThermal : i ≤ thermal := capped ▸ Nat.le_trans (Nat.min_le_right _ _) (Nat.min_le_left _ _)
  have underBrake : i ≤ brake := capped ▸ Nat.le_trans (Nat.min_le_right _ _) (Nat.min_le_right _ _)
  refine ⟨Nat.le_trans underRamp rampMost, underThermal, fun on => ?_, fun some_ => ?_⟩
  · have brakes : brake = bits (s.reg (powerPage d) 0x104) 31 24 := if_pos on
    exact brakes ▸ underBrake
  · exact Nat.le_trans (railPower_mono fixed perPercent underBudget)
      (of_decide_eq_true (fits (Nat.lt_of_lt_of_le some_ underBudget)))

/-! ### Budgets (R613) -/

theorem powerPage_apart {d k : Nat} (other : d ≠ k) (i j : Nat) (hi : i < 4096) (hj : j < 4096) :
    (powerPage d).addr + i ≠ (powerPage k).addr + j := by
  simp only [Page.addr, Page.off, PageKind.place]
  omega

theorem powerPage_addr_ne {d k : Nat} (other : d ≠ k) : (powerPage d).addr ≠ (powerPage k).addr := by
  simp only [Page.addr, Page.off, PageKind.place]
  omega

/-- The Spine's budgets are taken whole (R613). -/
theorem budgets_taken {s : State} (c : s.canonical) {w : List Nat} (small : ∀ v ∈ w, v < 65536) {d v : Nat}
    (own : w[d]? = some v) :
    (w.zipIdx.foldl (fun s (w : Nat × Nat) => s.setReg (powerPage w.2) 0x108 w.1) s).reg (powerPage d) 0x108 = v := by
  have listed : (v, d) ∈ w.zipIdx := List.mk_mem_zipIdx_iff_getElem?.mpr own
  have nodup : w.zipIdx.Nodup := List.Nodup.of_map Prod.snd (by rw [List.zipIdx_map_snd]; exact List.nodup_range')
  have apart {y : Nat × Nat} (hy : y ∈ w.zipIdx) (ne : y ≠ (v, d)) : d ≠ y.2 := by
    rintro rfl
    have at_ : w[y.2]? = some y.1 := List.mk_mem_zipIdx_iff_getElem?.mp (show (y.1, y.2) ∈ w.zipIdx from hy)
    rw [own] at at_
    exact ne (by rw [Option.some.inj at_])
  have fits : v < 2 ^ 64 := Nat.lt_trans (small v (List.mem_of_getElem? own)) (by decide)
  refine (foldl_once (f := fun (s : State) (w : Nat × Nat) => s.setReg (powerPage w.2) 0x108 w.1) (A := State.Whole s.dies.length)
    (B := fun t : State => t.Whole s.dies.length ∧ t.reg (powerPage d) 0x108 = v) listed nodup
    (fun t y _ _ h => State.setReg_any.whole h)
    (fun t h => ⟨State.setReg_any.whole h, State.reg_setReg_of_lt h.canonical.2.1 fits (regReset_lt (by rfl))⟩)
    (fun t y hy ne h => ⟨State.setReg_any.whole h.1, ?_⟩) ⟨c, rfl⟩).2
  exact (State.reg_setReg_ne t _ _ _ _ _ h.1.canonical.2.1 (powerPage_apart (apart hy ne) _ _ (by decide) (by decide))).trans h.2

theorem budgetUpdate_whole {s : State} (c : s.canonical) (w : List Nat) : Completes (.budgetUpdate w) s fun t =>
    if s.budgetsOk w = true then ∀ d < s.dies.length, some (t.reg (powerPage d) 0x108) = w[d]? else t = s := by
  have row : exec (.budgetUpdate w) s = execBudgetUpdate w s := by rfl
  refine ⟨_, row, ?_⟩
  dsimp only
  split
  · next ok =>
    simp only [State.budgetsOk, Bool.and_eq_true, beq_iff_eq, List.all_eq_true, decide_eq_true_eq] at ok
    obtain ⟨⟨length, _⟩, each⟩ := ok
    have small : ∀ v ∈ w, v < 65536 := by
      intro v listed
      obtain ⟨k, low, rfl⟩ := List.mem_iff_getElem.mp listed
      exact (each (w[k], k) (List.mk_mem_zipIdx_iff_getElem?.mpr (List.getElem?_eq_getElem low))).1
    intro d die
    have own : w[d]? = some (w[d]'(length ▸ die)) := List.getElem?_eq_getElem _
    rw [budgets_taken c small own, own]
  · rfl

/-! ### The brake (R618) -/

/-- The brake taken on one die. -/
def State.brakeDie (s : State) (d : Nat) : State :=
  ((s.onPower d fun x => { x with brake := true }).count (powerPage d) Ctr.powerBrakeEvents).raise (powerPage d) 2

theorem State.brakeDie_within {s : State} {d : Nat} : Within 1073745932 s (s.brakeDie d) :=
  State.raise_within.step (by decide) (State.count_within.step (by decide) (State.onPower_within.mono (by decide)))

theorem State.brakeDie_brake {s : State} (c : s.canonical) {d : Nat} (die : d < s.dies.length) (e : Nat) :
    ((s.brakeDie d).die e).power.brake = if e = d then true else (s.die e).power.brake := by
  have counted : ((s.onPower d fun x => { x with brake := true }).count (powerPage d) Ctr.powerBrakeEvents).canonical :=
    State.count_within.canonical (State.onPower_within.canonical c)
  rw [State.brakeDie, State.raise_within.power counted e, State.die_count, State.power_onPower _ die]
  split <;> rfl

theorem State.brakeDies_brakes {s : State} (c : s.canonical) {d : Nat} (die : d < s.dies.length) :
    (s.brakeDies.die d).power.brake = true ∧ Counted (powerPage d) Ctr.powerBrakeEvents 1 s s.brakeDies := by
  have own (t : State) (ct : t.canonical) : State.KeepsCtr (powerPage d) Ctr.powerBrakeEvents t
      (t.onPower d fun x => { x with brake := true }) := (State.KeepsCtr.refl ct).congr rfl rfl rfl
  have other (t : State) (ct : t.canonical) (e : Nat) (ne : e ≠ d) :
      State.KeepsCtr (powerPage d) Ctr.powerBrakeEvents t (t.brakeDie e) := by
    have braked : State.KeepsCtr (powerPage d) Ctr.powerBrakeEvents t (t.onPower e fun x => { x with brake := true }) :=
      (State.KeepsCtr.refl ct).congr rfl rfl rfl
    exact (braked.count (powerPage_addr_ne (Ne.symm ne)) _ 1).within State.raise_within
  have listed : d ∈ s.dieList := List.mem_range.mpr die
  have result := foldl_once (f := State.brakeDie) (l := s.dieList) (b := s)
    (A := fun t : State => t.Whole s.dies.length ∧ State.KeepsCtr (powerPage d) Ctr.powerBrakeEvents s t)
    (B := fun t : State => t.Whole s.dies.length ∧ (t.die d).power.brake = true ∧
      Counted (powerPage d) Ctr.powerBrakeEvents 1 s t) listed List.nodup_range
    (fun t e _ ne h => ⟨State.brakeDie_within.whole h.1, h.2.trans (other t h.1.canonical e ne)⟩)
    (fun t h => ⟨State.brakeDie_within.whole h.1, ?_, ?_⟩)
    (fun t e mem ne h => ⟨State.brakeDie_within.whole h.1, ?_, ?_⟩) ⟨⟨c, rfl⟩, .refl c⟩
  · exact result.2
  · rw [State.brakeDie_brake h.1.canonical (h.1.length.symm ▸ die), if_pos rfl]
  · have braked := own t h.1.canonical
    exact (h.2.trans braked).counted ((State.KeepsCtr.refl (State.count_within.canonical braked.canonical)).within State.raise_within)
  · rw [State.brakeDie_brake h.1.canonical (h.1.length.symm ▸ List.mem_range.mp mem), if_neg (Ne.symm ne)]
    exact h.2.1
  · exact (other t h.1.canonical e ne).counted_before h.2.2

/-- The pin asserted acts on every die (R618). -/
theorem brakeAssert_brakes {s : State} (c : s.canonical) (off : s.brakePin = false) (perst : s.board.perst = false) :
    Completes .brakeAssert s fun t => t.brakePin = true ∧ ∀ d < s.dies.length,
      (t.die d).power.brake = true ∧ Counted (powerPage d) Ctr.powerBrakeEvents 1 s t := by
  have row : exec .brakeAssert s = .next (State.brakeDies { s with brakePin := true }) := by
    have row : exec .brakeAssert s = execBrakeAssert s := by rfl
    rw [row, execBrakeAssert, off, perst]
    rfl
  have pinned : State.canonical { s with brakePin := true } := c
  have pins := (State.brakeDies_within (s := { s with brakePin := true })).areas .pins (by decide) pinned
  exact ⟨_, row, pins.2.2, fun d die => State.brakeDies_brakes pinned die⟩

/-- A die's power unit with the brake released. -/
def Power.release (x : Power) : Power := { x with brake := false }

theorem brakeDeassert_releases (s : State) : Completes .brakeDeassert s fun t =>
    t.brakePin = false ∧ ∀ d < s.dies.length, (t.die d).power.brake = false := by
  have row : exec .brakeDeassert s =
      .next (State.eachDie { s with brakePin := false } fun s d => s.onPower d Power.release) := by rfl
  obtain ⟨ds, eq, _, powers⟩ := State.eachDie_onPower { s with brakePin := false } Power.release
  refine ⟨_, row, ?_⟩
  dsimp only
  rw [eq]
  exact ⟨rfl, fun d die => congrArg Power.brake (powers d die)⟩

/-! ### Temperatures (R619 to R621) -/

/-- A die once a temperature is taken, before it trips. -/
def State.heated (s : State) (d t : Nat) : State := (s.onPower d fun x => { x with tj := t }).thermalCap d t

/-- A die that trips. -/
def State.tripped (s : State) (d : Nat) : State :=
  ((s.onPower d fun x => { x with trip := true }).count (powerPage d) Ctr.powerTrips).raise (powerPage d) 4

theorem State.heated_power {s : State} {d : Nat} (die : d < s.dies.length) (t : Nat) :
    ((s.heated d t).die d).power.tj = t ∧ ((s.heated d t).die d).power.trip = (s.die d).power.trip ∧
      (105 ≤ t → ((s.heated d t).die d).power.thermal = 0) := by
  have low : d < (s.onPower d fun x => { x with tj := t }).dies.length := (State.onDie_length s d _).symm ▸ die
  have tj := State.power_onPower (fun x => { x with tj := t }) die d
  rw [if_pos rfl] at tj
  unfold State.heated State.thermalCap
  extract_lets x e keeps entry cap
  have power := State.power_onPower (fun x => { x with thermEntry := entry, thermal := if 105 ≤ t then 0 else cap }) low d
  rw [if_pos rfl, tj] at power
  rw [power]
  exact ⟨rfl, rfl, fun hot => if_pos hot⟩

theorem State.heated_within {s : State} {d t : Nat} : Within 1073741824 s (s.heated d t) :=
  State.thermalCap_within.step (by decide) State.onPower_within

theorem State.tripped_power {s : State} (c : s.canonical) {d : Nat} (die : d < s.dies.length) :
    ((s.tripped d).die d).power = { (s.die d).power with trip := true } := by
  have counted : ((s.onPower d fun x => { x with trip := true }).count (powerPage d) Ctr.powerTrips).canonical :=
    State.count_within.canonical (State.onPower_within.canonical c)
  rw [State.tripped, State.raise_within.power counted d, State.die_count, State.power_onPower _ die, if_pos rfl]

theorem State.tripped_within {s : State} {d : Nat} : Within 1073745932 s (s.tripped d) :=
  State.raise_within.step (by decide) (State.count_within.step (by decide) (State.onPower_within.mono (by decide)))

theorem State.tripped_counts {s : State} (c : s.canonical) (d : Nat) :
    Counted (powerPage d) Ctr.powerTrips 1 s (s.tripped d) := by
  have trips : State.KeepsCtr (powerPage d) Ctr.powerTrips s (s.onPower d fun x => { x with trip := true }) :=
    (State.KeepsCtr.refl c).congr rfl rfl rfl
  exact trips.counted ((State.KeepsCtr.refl (State.count_within.canonical trips.canonical)).within State.raise_within)

/-- THERM_ALERT_N is driven by a die at ALERT_C (R620). -/
theorem State.alertNow_drives {s : State} {d : Nat} (die : d < s.dies.length) (perst : s.board.perst = false)
    (hot : s.alertC d ≤ (s.die d).power.tj) : s.alertNow.thermAlert = true := by
  have driven : s.alertNow.thermAlert = (!s.board.perst &&
      s.dieList.any fun d => decide (s.alertC d ≤ (s.die d).power.tj) || (s.die d).power.trip) := by rfl
  rw [driven, perst, Bool.not_false, Bool.true_and, List.any_eq_true]
  exact ⟨d, List.mem_range.mpr die, by rw [decide_eq_true hot, Bool.true_or]⟩

theorem thermalSample_acts {s : State} (c : s.canonical) {d : Nat} (die : d < s.dies.length) (j : Nat) :
    Completes (.thermalSample d j) s fun t => (t.die d).power.tj = min j 255 ∧
      (s.tripC d ≤ min j 255 → (t.die d).power.trip = true) ∧
      (s.tripC d ≤ min j 255 → (s.die d).power.trip = false → Counted (powerPage d) Ctr.powerTrips 1 s t) ∧
      (105 ≤ j → (t.die d).power.thermal = 0) ∧
      (s.board.perst = false → s.alertC d ≤ min j 255 → t.thermAlert = true) := by
  obtain ⟨tj, trip, cap⟩ := State.heated_power die (min j 255)
  have heated := State.heated_within (s := s) (d := d) (t := min j 255)
  have hot := heated.canonical c
  have whole := heated.whole ⟨c, rfl⟩
  have reg : (s.heated d (min j 255)).reg (powerPage d) 0x104 = s.reg (powerPage d) 0x104 :=
    ((State.KeepsReg.refl c).within heated (by decide) (by decide)).reg
  have limit : (s.heated d (min j 255)).tripC d = s.tripC d := by rw [State.tripC, reg, State.tripC]
  have row : exec (.thermalSample d j) s = .next (State.alertNow
      (if s.tripC d ≤ min j 255 ∧ (s.die d).power.trip = false then (s.heated d (min j 255)).tripped d
        else s.heated d (min j 255))) := by
    have row : exec (.thermalSample d j) s = execThermalSample d j s := by rfl
    rw [row, execThermalSample, atDie, if_pos die, ← limit, ← trip]
    rfl
  have alert {u : State} (w : u.Whole s.dies.length) (regs : u.reg (powerPage d) 0x104 = s.reg (powerPage d) 0x104)
      (temp : (u.die d).power.tj = min j 255) (board : u.board = s.board) (perst : s.board.perst = false)
      (at_ : s.alertC d ≤ min j 255) : u.alertNow.thermAlert = true := by
    refine State.alertNow_drives (w.length.symm ▸ die) (board ▸ perst) ?_
    rw [State.alertC, regs, ← State.alertC, temp]
    exact at_
  refine ⟨_, row, ?_⟩
  dsimp only
  split
  · next trips =>
    have power := State.tripped_power hot (whole.length.symm ▸ die)
    have same : (((s.heated d (min j 255)).tripped d).alertNow.die d).power =
        { ((s.heated d (min j 255)).die d).power with trip := true } := power
    have regs := ((State.KeepsReg.refl hot).within (State.tripped_within (d := d)) (p := powerPage d) (off := 0x104)
      (by decide) (by decide)).reg
    have board := (State.tripped_within (s := s.heated d (min j 255)) (d := d)).areas .board (by decide) hot
    rw [same]
    refine ⟨tj, fun _ => rfl, fun _ _ => ?_, fun high => cap (by omega), fun perst at_ => ?_⟩
    · have before : State.KeepsCtr (powerPage d) Ctr.powerTrips s (s.heated d (min j 255)) := (State.KeepsCtr.refl c).within heated
      have after : State.KeepsCtr (powerPage d) Ctr.powerTrips ((s.heated d (min j 255)).tripped d)
          ((s.heated d (min j 255)).tripped d).alertNow :=
        (State.KeepsCtr.refl (State.tripped_within.canonical hot)).within State.alertNow_within
      exact after.counted_before (before.counted_after (State.tripped_counts hot d))
    · exact alert (State.tripped_within.whole whole) (regs.trans reg) (by rw [power]; exact tj)
        (board.trans (heated.areas .board (by decide) c)) perst at_
  · next stays =>
    have same : ((s.heated d (min j 255)).alertNow.die d).power = ((s.heated d (min j 255)).die d).power := by rfl
    have already (above : s.tripC d ≤ min j 255) : (s.die d).power.trip = true := by
      cases on : (s.die d).power.trip with
      | true => rfl
      | false => exact absurd ⟨above, on⟩ stays
    rw [same]
    refine ⟨tj, fun above => trip.trans (already above), fun above off => absurd ⟨above, off⟩ stays, fun high => cap (by omega),
      fun perst at_ => alert whole reg tj (heated.areas .board (by decide) c) perst at_⟩

/-- A die's power unit with TRIP cleared. -/
def Power.untrip (x : Power) : Power := { x with trip := false }

section Thermal

variable {s : State} (c : s.canonical) {d : Nat} (die : d < s.dies.length) (host : s.hostReady)
  (takes : s.takes (powerPage d))

include die host takes

include c in
/-- TRIP clears once the die is no hotter than ALERT_C (R621). -/
theorem tripClear_clears (trip : (s.die d).power.trip = true) : Completes (.tripClear d) s fun t =>
    (t.die d).power.trip = decide (s.alertC d < (s.die d).power.tj) := by
  have row : exec (.tripClear d) s = .next (s.clearTrip d) := by
    have row : exec (.tripClear d) s = execTripClear d s := by rfl
    rw [row, execTripClear, State.fromFn_of_hostReady host, State.guarded_of_takes takes, atDie, if_pos die]
  have cleared : s.clearTrip d = if s.alertC d < (s.die d).power.tj then s.refuse (powerPage d) 0x0100
      else (s.onPower d Power.untrip).alertNow := by
    rw [State.clearTrip, trip]
    rfl
  refine ⟨_, row, ?_⟩
  dsimp only
  rw [cleared]
  split
  · next hot =>
    rw [State.refuse_within.power c d, trip, decide_eq_true hot]
  · next cool =>
    have clears : ((s.onPower d Power.untrip).alertNow.die d).power = (s.die d).power.untrip :=
      (State.power_onPower Power.untrip die d).trans (if_pos rfl)
    rw [clears, decide_eq_false cool]
    rfl

omit die takes host in
theorem regReset_therm_lt (part : Part) (d : Nat) {j : Nat} (entry : j < 8) :
    regReset part (powerPage d) (0x140 + 4 * j) < 2 ^ 64 := by
  have entries : ∀ k < 8, ∀ q, regReset q (powerPage 0) (0x140 + 4 * k) < 2 ^ 64 := by
    intro k low q
    interval_cases k <;> exact of_decide_eq_true (by rfl)
  exact entries j entry part

include c in
/-- A table entry is taken only in a table that R630 admits. -/
theorem thermTableWrite_checks {j : Nat} (v : Word) (entry : j < 8) : Completes (.thermTableWrite d j v) s fun t =>
    t.reg (powerPage d) (0x140 + 4 * j) =
      if thermOk ((List.range 8).map fun k => if k = j then (bits v.toNat 15 8, bits v.toNat 6 0) else s.therm d k) = true then
        v.toNat &&& 0xFF7F
      else s.reg (powerPage d) (0x140 + 4 * j) := by
  have row : exec (.thermTableWrite d j v) s = .next (s.writeTherm d j v.toNat) := by
    have row : exec (.thermTableWrite d j v) s = execThermTableWrite d j v s := by rfl
    rw [row, execThermTableWrite, State.fromFn_of_hostReady host, State.guarded_of_takes takes, atUnit, if_pos die,
      decide_eq_true entry, if_pos rfl]
  have percent : bits (v.toNat &&& 0xFF7F) 6 0 = bits v.toNat 6 0 := bits_and (by decide)
  have degrees : bits (v.toNat &&& 0xFF7F) 15 8 = bits v.toNat 15 8 := by
    have high (x : Nat) : bits x 15 8 = bits (x >>> 8) 7 0 := by
      rw [Nat.shiftRight_eq_div_pow]
      simp only [bits, Nat.pow_zero, Nat.div_one]
    rw [high, high, Nat.shiftRight_and_distrib]
    exact bits_and (by decide)
  have apart : (powerPage d).addr ≠ (colophonPage (powerPage d).die).addr := by
    simp only [Page.addr, Page.off, PageKind.place]
    omega
  refine ⟨_, row, ?_⟩
  dsimp only
  rw [State.writeTherm, percent, degrees]
  split
  · exact State.reg_setReg_of_lt c.2.1 (Nat.lt_trans (Nat.lt_of_le_of_lt Nat.and_le_left v.isLt) (by decide))
      (regReset_therm_lt _ d entry)
  · exact State.reg_refuse c (by omega) (by omega) apart 0x0100

end Thermal

/-! ### PLLs (R622, R623) -/

theorem Within.clocks {W : Nat} {s t : State} (w : Within W s t) (c : s.canonical) (e : Nat)
    (clocks : W.testBit Area.clocks.bit = false := by decide) : (t.die e).clocks = (s.die e).clocks :=
  State.die_congr (w.areas .clocks clocks c) e

/-- A PLL out of lock on a die. -/
def State.unlockPll (s : State) (d : Nat) (p : Pll) : State :=
  s.onDie d fun x => { x with clocks := { unlocked := p :: x.clocks.unlocked } }

theorem State.enterReset_resets {s : State} (c : s.canonical) {d : Nat} (die : d < s.dies.length)
    (awake : (s.die d).power.state ≠ 2) : ((if (s.die d).power.state = 2 || (s.die d).computeReset then s
      else s.enterComputeReset d).die d).computeReset = true := by
  rw [decide_eq_false awake, Bool.false_or]
  split
  · next already => exact already
  · exact State.enterComputeReset_sets c die

/-- The reset domain of a PLL is in reset (R622). -/
theorem State.pllReset_resets {s : State} (c : s.canonical) {d : Nat} (die : d < s.dies.length) (p : Pll) :
    ((p = .cpll ∨ p = .dpll) → (s.die d).power.state ≠ 2 → ((s.pllReset d p).die d).computeReset = true) ∧
    (p = .rpll → ((s.pllReset d p).die d).fwdReset = true) ∧
    ((p = .mpll ∨ p = .gpll) → (s.pllReset d p).spine.phase = .held) ∧
    (p = .pcie → d = 0 → (s.pllReset d p).board.link = none) := by
  have held : (if s.spine.phase == .held then s else s.warmReset.onSpine fun x => { x with phase := .held }).spine.phase =
      .held := by
    split
    · next already => exact beq_iff_eq.mp already
    · rfl
  refine ⟨?_, ?_, ?_, ?_⟩
  · rintro (rfl | rfl) awake
    · exact State.enterReset_resets c die awake
    · exact State.enterReset_resets c die awake
  · rintro rfl
    have low : d < (s.clearForwarding d).dies.length := (State.clearForwarding_within.length_dies c).symm ▸ die
    exact (congrArg Die.fwdReset (State.die_onDie _ d d _ low)).trans (by rw [if_pos rfl])
  · rintro (rfl | rfl)
    · exact held
    · exact held
  · rintro rfl rfl
    rfl

theorem pllLockLoss_resets {s : State} (c : s.canonical) {d : Nat} {p : Pll} (die : d < s.dies.length)
    (locked : p ∉ (s.die d).clocks.unlocked) : Completes (.pllLockLoss d p) s fun t => p ∈ (t.die d).clocks.unlocked ∧
      ((p = .cpll ∨ p = .dpll) → (s.die d).power.state ≠ 2 → (t.die d).computeReset = true) ∧
      (p = .rpll → (t.die d).fwdReset = true) ∧ ((p = .mpll ∨ p = .gpll) → t.spine.phase = .held) ∧
      (p = .pcie → d = 0 → t.board.link = none) := by
  have row : exec (.pllLockLoss d p) s = .next
      ((((s.pllReset d p).unlockPll d p).count (clockPage d) Ctr.clockPllLockLosses).raise (clockPage d) 1) := by
    have row : exec (.pllLockLoss d p) s = execPllLockLoss d p s := by rfl
    rw [row, execPllLockLoss, atDie, if_pos die, if_neg (by rw [List.contains_iff_mem]; exact locked)]
    rfl
  obtain ⟨canonical, length⟩ := State.pllReset_within.whole (s := s) (t := s.pllReset d p) ⟨c, rfl⟩
  obtain ⟨compute, forwarding, package, link⟩ := State.pllReset_resets c die p
  have unlocked : ((s.pllReset d p).unlockPll d p).die d =
      { (s.pllReset d p).die d with clocks := { unlocked := p :: ((s.pllReset d p).die d).clocks.unlocked } } :=
    (State.die_onDie _ d d _ (length.symm ▸ die)).trans (if_pos rfl)
  have counted : (((s.pllReset d p).unlockPll d p).count (clockPage d) Ctr.clockPllLockLosses).canonical :=
    State.count_within.canonical (show ((s.pllReset d p).unlockPll d p).canonical from canonical)
  have raised := State.raise_within (s := ((s.pllReset d p).unlockPll d p).count (clockPage d) Ctr.clockPllLockLosses)
    (p := clockPage d) (mask := 1)
  have flags := State.die_congr (raised.areas .resets (by decide) counted) d
  have resets : ((((s.pllReset d p).unlockPll d p).count (clockPage d) Ctr.clockPllLockLosses).die d).computeReset =
        ((s.pllReset d p).die d).computeReset ∧
      ((((s.pllReset d p).unlockPll d p).count (clockPage d) Ctr.clockPllLockLosses).die d).fwdReset =
        ((s.pllReset d p).die d).fwdReset := by
    rw [State.die_count, unlocked]
    exact ⟨rfl, rfl⟩
  refine ⟨_, row, ?_, fun pll awake => ?_, fun pll => ?_, fun pll => ?_, fun pll zero => ?_⟩
  · rw [raised.clocks counted d, State.die_count, unlocked]
    exact List.mem_cons_self
  · exact (congrArg Prod.fst flags).trans (resets.1.trans (compute pll awake))
  · exact (congrArg (fun x => x.2.1) flags).trans (resets.2.trans (forwarding pll))
  · exact (congrArg Spine.phase (raised.areas .spine (by decide) counted)).trans (package pll)
  · exact (congrArg Board.link (raised.areas .board (by decide) counted)).trans (link pll zero)

/-- A PLL in lock on a die. -/
def State.lockPll (s : State) (d : Nat) (p : Pll) : State :=
  s.onDie d fun x => { x with clocks := { unlocked := x.clocks.unlocked.filter (· != p) } }

/-- The domain of a PLL that has relocked (R623). -/
def State.pllRun (s : State) (d : Nat) (p : Pll) : State :=
  match p with
  | .cpll | .dpll => if (s.die d).computeReset && s.mayRun d then s.leaveComputeReset d else s
  | .rpll => (s.onDie d fun x => { x with fwdReset := false }).trainPorts d
  | .mpll | .gpll =>
    if s.packageLocked && s.spine.phase == .held && !s.board.perst && !s.board.strapTest then
      (s.onSpine fun x => { x with phase := .rom }).trainPcie
    else s
  | .serdes _ => s
  | .pcie => if d = 0 && s.board.link.isNone && !s.board.perst && !s.board.strapTest then s.trainPcie else s

theorem State.pllRun_rpll {s : State} (c : s.canonical) {d : Nat} (die : d < s.dies.length) :
    ((s.pllRun d .rpll).die d).fwdReset = false ∧ ((s.pllRun d .rpll).die d).clocks = (s.die d).clocks := by
  have released : (s.onDie d fun x => { x with fwdReset := false }).die d = { s.die d with fwdReset := false } :=
    (State.die_onDie s d d _ die).trans (if_pos rfl)
  have trained := State.trainPorts_within (s := s.onDie d fun x => { x with fwdReset := false }) (d := d)
  have canonical : (s.onDie d fun x => { x with fwdReset := false }).canonical := c
  have flags := State.die_congr (trained.areas .resets (by decide) canonical) d
  refine ⟨(congrArg (fun x => x.2.1) flags).trans (by rw [released]), ?_⟩
  exact (trained.clocks canonical d).trans (by rw [released])

theorem State.pllRun_clocks {s : State} (c : s.canonical) {d : Nat} (die : d < s.dies.length) (p : Pll) :
    ((s.pllRun d p).die d).clocks = (s.die d).clocks := by
  have start : ((if s.packageLocked && s.spine.phase == .held && !s.board.perst && !s.board.strapTest then
      (s.onSpine fun x => { x with phase := .rom }).trainPcie else s).die d).clocks = (s.die d).clocks := by
    split <;> rfl
  have link : ((if d = 0 && s.board.link.isNone && !s.board.perst && !s.board.strapTest then s.trainPcie else s).die d).clocks =
      (s.die d).clocks := by
    split <;> rfl
  have leave : ((if (s.die d).computeReset && s.mayRun d then s.leaveComputeReset d else s).die d).clocks =
      (s.die d).clocks := by
    split
    · exact State.leaveComputeReset_within.clocks c d
    · rfl
  cases p with
  | cpll => exact leave
  | dpll => exact leave
  | rpll => exact (State.pllRun_rpll c die).2
  | mpll => exact start
  | gpll => exact start
  | serdes k => rfl
  | pcie => exact link

theorem pllRelock_runs {s : State} (c : s.canonical) {d : Nat} {p : Pll} (die : d < s.dies.length)
    (lost : p ∈ (s.die d).clocks.unlocked) : Completes (.pllRelock d p) s fun t => p ∉ (t.die d).clocks.unlocked ∧
      (p = .rpll → (t.die d).fwdReset = false) := by
  have row : exec (.pllRelock d p) s = .next ((s.lockPll d p).pllRun d p) := by
    have row : exec (.pllRelock d p) s = execPllRelock d p s := by rfl
    have member : (s.die d).clocks.unlocked.contains p = true := List.contains_iff_mem.mpr lost
    rw [row, execPllRelock, member, atDie, if_pos die]
    cases p <;> rfl
  have locked : (s.lockPll d p).die d =
      { s.die d with clocks := { unlocked := (s.die d).clocks.unlocked.filter (· != p) } } :=
    (State.die_onDie s d d _ die).trans (if_pos rfl)
  have canonical : (s.lockPll d p).canonical := c
  have low : d < (s.lockPll d p).dies.length := (State.onDie_length s d _).symm ▸ die
  refine ⟨_, row, ?_, ?_⟩
  · rw [State.pllRun_clocks canonical low, locked]
    simp
  · rintro rfl
    exact (State.pllRun_rpll canonical low).1

end Sys2Proof.Machine

namespace Sys2Proof
open Machine

/-- Settles O54. -/
theorem governorAndPlls : Obligations.GovernorAndPlls := by
  refine ⟨fun s sound => ⟨fun d fixed perPercent wanted die fall => ?_, budgetUpdate_whole sound.1,
    brakeAssert_brakes sound.1, brakeDeassert_releases s, fun d j die => thermalSample_acts sound.1 die j,
    fun d die host takes => ⟨tripClear_clears sound.1 die host takes,
      fun j v entry => thermTableWrite_checks sound.1 die host takes v entry⟩⟩,
    fun s d p sound die => ⟨pllLockLoss_resets sound.1 die, pllRelock_runs sound.1 die⟩⟩
  have row : exec (.governorPeriod d fixed perPercent wanted) s = .next (s.govern d fixed perPercent (min wanted 100)) := by
    have row : exec (.governorPeriod d fixed perPercent wanted) s = execGovernorPeriod d fixed perPercent wanted s := by rfl
    rw [row, execGovernorPeriod, atDie, if_pos die]
  exact ⟨_, row, State.govern_issue die fixed perPercent (min wanted 100) fall rfl⟩

end Sys2Proof
end

section
-- One proof after another: side by side, the proofs of the whole text need more threads than the memory limit has room for.
set_option Elab.async false
/-!
Captures at a page (R635 to R646), and the package's fabric time (R654, R656).
-/

namespace Sys2Proof.Machine

/-! ### The latest latch of a page -/

/-- A key that is found stays found when another is erased. -/
theorem FMap.get?_erase_of_some {α : Type} {k k' : Nat} (other : k' ≠ k) {v : α} :
    ∀ {m : List (Nat × α)}, FMap.get? m k' = some v → FMap.get? (FMap.erase m k) k' = some v
  | [], found => nomatch found
  | (c, w) :: m, found => by
    simp only [FMap.get?] at found
    simp only [FMap.erase]
    by_cases own : c = k'
    · rw [if_pos own] at found
      rw [if_neg (own ▸ other)]
      split <;> simp only [FMap.get?, if_pos own, found]
    · rw [if_neg own] at found
      split at found
      · nomatch found
      · next late =>
        split
        · exact found
        · split
          · simp only [FMap.get?, if_neg own, if_neg late, found]
          · simp only [FMap.get?, if_neg own, if_neg late]
            exact FMap.get?_erase_of_some other found

/-- Banks changed in what is neither the number nor the latch keep both. -/
theorem PageCapture.last_onBanks (c : PageCapture) (f : Bank → Bank) : (c.onBanks f).last = f c.last := by
  unfold PageCapture.last PageCapture.onBanks
  dsimp only
  split <;> rfl

/-- The latest latch of a page is of number `n`. -/
structure State.Latched (p : Page) (n : Word) (t : State) : Prop where
  die : p.die < t.dies.length
  any : (t.cap p).any = true
  number : (t.cap p).last.number = n
  latched : (t.cap p).last.latched = true

namespace State.Latched

variable {p : Page} {n : Word} {s t : State}

/-- States with the same capture logic. -/
theorem congr (h : State.Latched p n t) (length : s.dies.length = t.dies.length) (cap : s.cap p = t.cap p) :
    State.Latched p n s :=
  ⟨length ▸ h.die, cap ▸ h.any, cap ▸ h.number, cap ▸ h.latched⟩

/-- An operation outside capture logic. -/
theorem within {W : Nat} (h : State.Latched p n t) (w : Within W t s) (c : t.canonical)
    (captures : W.testBit Area.captures.bit = false := by decide) (clocks : W.testBit Area.clocks.bit = false := by decide) :
    State.Latched p n s := by
  have same := State.die_congr (w.areas .captures captures c) p.die
  have listed : (s.die p.die).captures = (t.die p.die).captures := congrArg Prod.fst same
  exact h.congr (w.length_dies c clocks) (by rw [State.cap, listed, State.cap])

/-- Capture logic set at some place: at the page's own, to one of the same latch. -/
theorem setCap (h : State.Latched p n t) (q : Page) (c : PageCapture)
    (own : p.die = q.die → p.off = q.off → c.any = true ∧ c.last.number = n ∧ c.last.latched = true) :
    State.Latched p n (t.setCap q c) := by
  have die : p.die < (t.setCap q c).dies.length := (State.length_setCap t q c).symm ▸ h.die
  have captures := State.captures_setCap t q c h.die
  by_cases place : p.die = q.die ∧ p.off = q.off
  · obtain ⟨any, number, latched⟩ := own place.1 place.2
    have listed : c ≠ {} := fun e => Bool.false_ne_true ((congrArg PageCapture.any e).symm.trans any)
    have cap : (t.setCap q c).cap p = c := by
      rw [State.cap, captures, if_pos place.1, if_neg listed, place.2, FMap.get?_set_self]
      rfl
    exact ⟨die, by rw [cap, any], by rw [cap, number], by rw [cap, latched]⟩
  · have cap : (t.setCap q c).cap p = t.cap p := by
      rw [State.cap, captures, State.cap]
      split
      · next sameDie =>
        have apart : p.off ≠ q.off := fun e => place ⟨sameDie, e⟩
        split
        · cases found : FMap.get? (t.die p.die).captures p.off with
          | none =>
            have any := h.any
            rw [State.cap, found] at any
            nomatch any
          | some v => rw [FMap.get?_erase_of_some apart found]
        · rw [FMap.get?_set_ne _ _ apart]
      · rfl
    exact h.congr (State.length_setCap t q c) cap

/-- Capture logic set at a page to one of the same latch as its own. -/
theorem setOwn (h : State.Latched p n t) (q : Page) {c : PageCapture} (any : c.any = (t.cap q).any)
    (number : c.last.number = (t.cap q).last.number) (latched : c.last.latched = (t.cap q).last.latched) :
    State.Latched p n (t.setCap q c) := by
  refine h.setCap q c fun die off => ?_
  have same : t.cap q = t.cap p := by rw [State.cap, ← die, ← off, ← State.cap]
  rw [any, number, latched, same]
  exact ⟨h.any, h.number, h.latched⟩

/-- Banks changed at a page in what is neither the number nor the latch. -/
theorem setBanks (h : State.Latched p n t) (q : Page) {f : Bank → Bank} (number : ∀ b, (f b).number = b.number)
    (latched : ∀ b, (f b).latched = b.latched) : State.Latched p n (t.setCap q ((t.cap q).onBanks f)) :=
  h.setOwn q rfl (by rw [PageCapture.last_onBanks, number]) (by rw [PageCapture.last_onBanks, latched])

/-- The group pages above are brought up to date. -/
theorem refreshGroups (h : State.Latched p n t) (c : t.canonical) (d : Nat) : State.Latched p n (t.refreshGroups d) := by
  refine (List.foldlRecOn (motive := fun u : State => u.canonical ∧ State.Latched p n u) (groupsAbove d) _ ⟨c, h⟩
    fun u hu g _ => ⟨State.refreshGroup_within.canonical hu.1, ?_⟩).2
  unfold State.refreshGroup
  dsimp only
  have bank (b : Bank) : (u.groupBank g b).number = b.number ∧ (u.groupBank g b).latched = b.latched := by
    unfold State.groupBank
    split <;> exact ⟨rfl, rfl⟩
  split
  · exact hu.2
  · have set := hu.2.setBanks g (f := u.groupBank g) (fun b => (bank b).1) fun b => (bank b).2
    split
    · exact set.within State.raise_within (State.setCap_within.canonical hu.1)
    · exact set

/-- The group pages above latch a number that they have not: never the page's own place, which has. -/
theorem latchGroups (k : Nat) (h : State.Latched p n t) (q : Page) : State.Latched p n (State.latchGroups k t q n) := by
  induction k generalizing t q with
  | zero => exact h
  | succ k ih =>
    refine List.foldlRecOn (motive := State.Latched p n) (t.capParents q) _ h fun u hu g _ => ?_
    dsimp only
    split
    · exact hu
    · next fresh =>
      refine ih (hu.setCap g.1 _ fun die off => absurd ?_ fresh) g.1
      have same : u.cap g.1 = u.cap p := by rw [State.cap, ← die, ← off, ← State.cap]
      rw [State.capHas, same, List.any_eq_true]
      refine ⟨(u.cap p).last, ?_, ?_⟩
      · unfold PageCapture.last
        split
        · exact List.mem_cons_of_mem _ List.mem_cons_self
        · exact List.mem_cons_self
      · rw [hu.latched, hu.number, beq_self_eq_true, Bool.true_or, Bool.true_and]

/-- Markers sent on a link. -/
theorem sendMarkers (h : State.Latched p n t) (c : t.canonical) (d l : Nat) (m : Word) :
    State.Latched p n (t.sendMarkers d l m) := by
  unfold State.sendMarkers
  split
  · exact h
  · dsimp only
    have waits := h.setOwn (linkPage d l) (c := { t.cap (linkPage d l) with
      waiting := (t.cap (linkPage d l)).waiting ++ (t.markerVcs d l).map fun vc => (vc, m) }) rfl rfl rfl
    unfold State.flushMarkers
    refine (List.foldlRecOn (motive := fun u : State => u.canonical ∧ State.Latched p n u) _ _
      ⟨State.setCap_within.canonical c, waits⟩ fun u hu w _ => ?_).2
    dsimp only
    split
    · exact hu
    · have taken := hu.2.setOwn (linkPage d l) (c := { u.cap (linkPage d l) with
        waiting := (u.cap (linkPage d l)).waiting.erase w }) rfl rfl rfl
      exact ⟨State.sendFrame_within.canonical (State.setCap_within.canonical hu.1),
        taken.within State.sendFrame_within (State.setCap_within.canonical hu.1)⟩

/-- A page sends a marker on. -/
theorem sendOn (h : State.Latched p n t) (c : t.canonical) (q : Page) (m : Word) : State.Latched p n (t.sendOn q m) := by
  unfold State.sendOn
  dsimp only
  split
  · have seen := h.setOwn q (c := { t.cap q with seen := some m, vcs := [] }) rfl rfl rfl
    split
    · exact seen.sendMarkers (State.setCap_within.canonical c) _ _ m
    · exact seen
  · exact h

/-- A channel closed by its marker. -/
theorem closeBy (h : State.Latched p n t) (c : t.canonical) (q : Page) (src : Nat) (m : Word) :
    State.Latched p n (t.closeBy q src m) := by
  unfold State.closeBy
  dsimp only
  split
  · refine State.Latched.refreshGroups (h.setBanks q (fun b => ?_) fun b => ?_) (State.setCap_within.canonical c) q.die
    · split <;> rfl
    · split <;> rfl
  · exact h

end State.Latched

/-- A page that has latched nothing latches (R635, R643). -/
theorem State.latch_latches {s : State} {p : Page} {n : Word} (die : p.die < s.dies.length) (first : (s.cap p).any = false) :
    State.Latched p n (s.latch p n) := by
  unfold State.latch
  dsimp only
  refine State.Latched.latchGroups 4 ?_ p
  have stored : (s.cap p).store (s.bankNow p n) = { s.cap p with bankA := s.bankNow p n, lastB := false, any := true } := by
    rw [PageCapture.store, first]
    rfl
  rw [stored]
  have cap := State.cap_setCap (s := s) (p := p) (q := p) (c := { s.cap p with
      bankA := s.bankNow p n, lastB := false, any := true
      armed := (s.cap p).armed && bit (s.reg (colophonPage p.die) 0x100) 31 }) die
    fun e => nomatch congrArg PageCapture.any e
  rw [if_pos ⟨rfl, rfl⟩] at cap
  exact ⟨(State.length_setCap s p _).symm ▸ die, congrArg PageCapture.any cap,
    (congrArg (fun c : PageCapture => c.last.number) cap).trans rfl,
    (congrArg (fun c : PageCapture => c.last.latched) cap).trans rfl⟩

/-- The page found in a die's window is of that die. -/
theorem pageAt_die {d off : Nat} {p : Page} (found : pageAt d off = some p) : p.die = d := by
  unfold pageAt at found
  obtain ⟨_, _, rfl⟩ := Option.map_eq_some_iff.mp found
  rfl

/-! ### Markers and channels (R635, R636, R639) -/

section Pages

variable {s : State} (c : s.canonical) {d : Nat} (die : d < s.dies.length) {page channel : Nat} {p : Page}
  (found : pageAt d (page * 4096) = some p)

include c die found

omit c in
theorem exec_markerArrival {n : Word} (live : s.inReset p = false) (powered : s.gated p = false) :
    exec (.markerArrival d page channel n) s = .next (
      if (s.cap p).any && before n (s.cap p).last.number then s.markerAt p n else (s.markerAt p n).closeBy p channel n) := by
  have row : exec (.markerArrival d page channel n) s = execMarkerArrival d page channel n s := by rfl
  rw [row, execMarkerArrival, found]
  dsimp only
  rw [atDie, if_pos die, live, powered]
  rfl

/-- A page that is armed latches at the marker (R635). -/
theorem markerArrival_latches {n : Word} (live : s.inReset p = false) (powered : s.gated p = false)
    (first : (s.cap p).any = false) (armed : (s.cap p).armed = true) : Completes (.markerArrival d page channel n) s fun t =>
      (t.cap p).last.number = n ∧ (t.cap p).last.latched = true := by
  have at_ : s.markerAt p n = (s.latch p n).sendOn p n := by
    unfold State.markerAt
    dsimp only
    rw [first, armed]
    rfl
  have latched : State.Latched p n (s.latch p n) := State.latch_latches ((pageAt_die found).symm ▸ die) first
  have canonical : (s.latch p n).canonical := State.latch_within.canonical c
  have sent := latched.sendOn canonical p n
  have closed := sent.closeBy (State.sendOn_within.canonical canonical) p channel n
  refine ⟨_, exec_markerArrival die found live powered, ?_⟩
  rw [first, Bool.false_and, if_neg Bool.false_ne_true, at_]
  exact ⟨closed.number, closed.latched⟩

/-- A marker whose number is not new is counted (R636). -/
theorem markerArrival_stale {n : Word} (live : s.inReset p = false) (powered : s.gated p = false)
    (some_ : (s.cap p).any = true) (old : before n (s.cap p).last.number = true) :
    Completes (.markerArrival d page channel n) s fun t =>
      (t.cap p).last = (s.cap p).last ∧ Counted (colophonPage d) Ctr.colophonMarkersStale 1 s t := by
  have at_ : s.markerAt p n = s.count (colophonPage d) Ctr.colophonMarkersStale := by
    unfold State.markerAt
    dsimp only
    rw [some_, old, pageAt_die found]
    rfl
  refine ⟨_, exec_markerArrival die found live powered, ?_⟩
  rw [some_, old, Bool.true_and, if_pos rfl, at_]
  exact ⟨rfl, State.counted_count _ _ _ c.2.1 c.2.2⟩

/-- A channel that no marker reaches closes at its timeout (R639). -/
theorem channelTimeout_counts (open_ : (s.cap p).last.hasOpen channel = true) :
    Completes (.channelTimeout d page channel) s fun t => Counted (colophonPage d) Ctr.colophonChannelsTimedOut 1 s t := by
  have row : ∃ b, exec (.channelTimeout d page channel) s = .next ((((s.setCap p b).refreshGroups d).count (colophonPage d)
      Ctr.colophonChannelsTimedOut).raise (colophonPage d) 2) := by
    have row : exec (.channelTimeout d page channel) s = execChannelTimeout d page channel s := by rfl
    rw [row, execChannelTimeout, found]
    dsimp only
    rw [atDie, if_pos die, open_, Bool.or_true, if_pos rfl]
    exact ⟨_, rfl⟩
  obtain ⟨b, row⟩ := row
  refine ⟨_, row, ?_⟩
  have closed : State.KeepsCtr (colophonPage d) Ctr.colophonChannelsTimedOut s ((s.setCap p b).refreshGroups d) :=
    ((State.KeepsCtr.refl c).within State.setCap_within).within State.refreshGroups_within
  exact closed.counted ((State.KeepsCtr.refl (State.count_within.canonical closed.canonical)).within State.raise_within)

end Pages

end Sys2Proof.Machine
end

section
-- One proof after another: side by side, the proofs of the whole text need more threads than the memory limit has room for.
set_option Elab.async false
/-!
Triggers, markers on links and fabric time (R632 to R642, R654, R656).
-/

namespace Sys2Proof.Machine

section Triggers

variable {s : State} (c : s.canonical) {d : Nat} (die : d < s.dies.length)

include c

/-- A trigger whose number is not new is counted (R633). -/
theorem State.trigger_drops (out : Bool) (old : before (BitVec.ofNat 32 (s.reg (colophonPage d) 0x10C))
      (BitVec.ofNat 32 (s.reg (colophonPage d) 0x108)) = false) :
    Counted (colophonPage d) Ctr.colophonTriggersDropped 1 s (s.trigger d out) := by
  have dropped : s.trigger d out = (s.count (colophonPage d) Ctr.colophonTriggersDropped).setReg (colophonPage d) 0x108
      (BitVec.ofNat 32 (s.reg (colophonPage d) 0x108) + 1 : Word).toNat := by
    unfold State.trigger State.capture
    dsimp only
    rw [old]
    rfl
  rw [dropped]
  exact (State.KeepsCtr.refl c).counted ((State.KeepsCtr.refl (State.count_within.canonical c)).within
    (State.setReg_own (by decide) (by decide)))

include die

/-- CAP_CMD.GO (R632). -/
theorem capCmdGo_triggers {n : Word} (host : s.hostReady) (takes : s.takes (colophonPage d))
    (number : n = BitVec.ofNat 32 (s.reg (colophonPage d) 0x108)) : Completes (.capCmdGo d) s fun t =>
      t.reg (colophonPage d) 0x108 = (n + 1).toNat ∧
      if before (BitVec.ofNat 32 (s.reg (colophonPage d) 0x10C)) n = true then
        t.reg (colophonPage d) 0x10C = n.toNat ∧ (d = 0 → t.colophonOut = true)
      else Counted (colophonPage d) Ctr.colophonTriggersDropped 1 s t := by
  subst number
  have row : exec (.capCmdGo d) s = .next (s.trigger d true) := by
    have row : exec (.capCmdGo d) s = execCapCmdGo d s := by rfl
    rw [row, execCapCmdGo, State.fromFn_of_hostReady host, State.guarded_of_takes takes, atDie, if_pos die]
  refine ⟨_, row, State.trigger_next c d true, ?_⟩
  split
  · next new =>
    obtain ⟨last, drives⟩ := State.trigger_starts c d true new
    refine ⟨last, ?_⟩
    rintro rfl
    exact drives.trans (Bool.or_true _)
  · next old => exact State.trigger_drops c true (Bool.not_eq_true _ ▸ old)

/-- CAP_TIME reached (R632). -/
theorem capTimeMatch_triggers (due : s.timeDue d = true) : Completes (.capTimeMatch d) s fun t =>
    bit (t.reg (colophonPage d) 0x100) 30 = false ∧
      t.reg (colophonPage d) 0x108 = (BitVec.ofNat 32 (s.reg (colophonPage d) 0x108) + 1 : Word).toNat := by
  have row : exec (.capTimeMatch d) s = .next ((s.setReg (colophonPage d) 0x100
      (setBits (s.reg (colophonPage d) 0x100) 30 30 0)).trigger d true) := by
    have row : exec (.capTimeMatch d) s = execCapTimeMatch d s := by rfl
    rw [row, execCapTimeMatch, State.fireDue, due, if_pos rfl, atDie, if_pos die]
  have canonical : (s.setReg (colophonPage d) 0x100 (setBits (s.reg (colophonPage d) 0x100) 30 30 0)).canonical :=
    State.setReg_any.canonical c
  have next : (s.setReg (colophonPage d) 0x100 (setBits (s.reg (colophonPage d) 0x100) 30 30 0)).reg (colophonPage d) 0x108 =
      s.reg (colophonPage d) 0x108 := State.reg_setReg_ne s _ _ _ _ _ c.2.1 (by omega)
  have kept := (State.KeepsReg.refl (p := colophonPage d) (off := 0x100) canonical).triggerOther (by decide) (by decide)
    (by decide) (by decide) d true
  have same := congrArg BitVec.toNat (State.reg_setReg_self s (colophonPage d) 0x100
    (setBits (s.reg (colophonPage d) 0x100) 30 30 0) c.2.1)
  rw [BitVec.toNat_ofNat, BitVec.toNat_ofNat] at same
  have cleared : bits (setBits (s.reg (colophonPage d) 0x100) 30 30 0) 30 30 = 0 := bits_setBits_one _ 30 0
  have field (x y : Nat) (h : x % 2 ^ 64 = y % 2 ^ 64) (zero : bits y 30 30 = 0) : bit x 30 = false := by
    simp only [bit, bits, beq_eq_false_iff_ne] at *
    omega
  have advanced := State.trigger_next canonical d true
  rw [next] at advanced
  refine ⟨_, row, ?_, advanced⟩
  rw [kept.reg]
  exact field _ _ same cleared

omit die

/-- COLOPHON_IN, where it is enabled, triggers without driving COLOPHON_OUT (R632, R634). -/
theorem colophonIn_triggers (on : bit (s.reg (colophonPage 0) 0x100) 28 = true) (perst : s.board.perst = false) :
    Completes .colophonIn s fun t =>
      t.reg (colophonPage 0) 0x108 = (BitVec.ofNat 32 (s.reg (colophonPage 0) 0x108) + 1 : Word).toNat ∧
        t.colophonOut = s.colophonOut := by
  have row : exec .colophonIn s = .next (s.trigger 0 false) := by
    have row : exec .colophonIn s = execColophonIn s := by rfl
    rw [row, execColophonIn, on, perst]
    rfl
  refine ⟨_, row, State.trigger_next c 0 false, ?_⟩
  cases new : before (BitVec.ofNat 32 (s.reg (colophonPage 0) 0x10C)) (BitVec.ofNat 32 (s.reg (colophonPage 0) 0x108)) with
  | true => exact (State.trigger_starts c 0 false new).2.trans (Bool.or_false _)
  | false =>
    unfold State.trigger State.capture
    dsimp only
    rw [new]
    rfl

/-- A marker's number after LAST_NUMBER starts the die's capture (R633, R641). -/
theorem State.markerTrigger_starts {n : Word} (origin : Nat) (at_ : Word64)
    (new : before (BitVec.ofNat 32 (s.reg (colophonPage d) 0x10C)) n = true) :
    (s.markerTrigger d n origin at_).reg (colophonPage d) 0x10C = n.toNat := by
  have set : (s.setReg (colophonPage d) 0x10C n.toNat).reg (colophonPage d) 0x10C = n.toNat :=
    State.reg_setReg_of_lt c.2.1 (Nat.lt_trans (BitVec.isLt _) (by decide)) (regReset_lt (by rfl))
  have canonical : (s.setReg (colophonPage d) 0x10C n.toNat).canonical := State.setReg_any.canonical c
  have counted := (State.KeepsReg.refl (p := colophonPage d) (off := 0x10C) canonical).within
    (State.count_within (s := s.setReg (colophonPage d) 0x10C n.toNat) (p := colophonPage d)
      (k := Ctr.colophonCapturesTriggered) (n := 1)) (by decide) (by decide)
  have captured : s.capture d n origin at_ false = ((s.setReg (colophonPage d) 0x10C n.toNat).count (colophonPage d)
      Ctr.colophonCapturesTriggered).onDie d fun x => { x with capOrigin := origin, capTrigger := at_ } := by
    rw [State.capture, if_pos new]
    rfl
  have noted : State.KeepsReg (colophonPage d) 0x10C (s.setReg (colophonPage d) 0x10C n.toNat) (s.capture d n origin at_ false) := by
    rw [captured]
    exact counted.congr
  rw [State.markerTrigger, if_pos new,
    (noted.setReg (q := colophonPage d) (o := 0x108) (by omega) (n + 1).toNat).reg, set]

end Triggers

/-- A marker on a quire link starts the far die's capture (R641). -/
theorem colophonMarker_starts {s : State} (c : s.canonical) {d port l : Nat} {p : Packet} {n : Word}
    (die : d < s.dies.length) (link : linkOfPort port = some l) (wired : s.wired d l = true) (quire : 2 ≤ l)
    (length : p.body.length = 16) (number : n = BitVec.ofNat 32 (be p.body 0 4))
    (new : before (BitVec.ofNat 32 (s.reg (colophonPage d) 0x10C)) n = true) :
    Completes (.colophonMarker d port 10 p) s fun t => t.reg (colophonPage d) 0x10C = n.toNat := by
  have taken := State.takeMarker_within (s := s) (d := d) (port := port) (p := p)
  have canonical := taken.canonical c
  have last : (s.takeMarker d port p).reg (colophonPage d) 0x10C = s.reg (colophonPage d) 0x10C :=
    ((State.KeepsReg.refl c).within taken (by decide) (by decide)).reg
  have starts := State.markerTrigger_starts canonical (bits (be p.body 4 4) 17 0) (BitVec.ofNat 64 (be p.body 8 8))
    (by rw [last]; exact new)
  have started := (State.markerTrigger_within (s := s.takeMarker d port p) (d := d) (n := n)
    (origin := bits (be p.body 4 4) 17 0) (at_ := BitVec.ofNat 64 (be p.body 8 8))).canonical canonical
  have rest : ∃ t, exec (.colophonMarker d port 10 p) s = .next t ∧ Within 8728350732 ((s.takeMarker d port p).markerTrigger d n
      (bits (be p.body 4 4) 17 0) (BitVec.ofNat 64 (be p.body 8 8))) t := by
    have row : exec (.colophonMarker d port 10 p) s = execColophonMarker d port 10 p s := by rfl
    have vc : (s.takeMarker d port p).triggerVc d l = some 10 := if_pos quire
    have far : decide (l < 2) = false := decide_eq_false (by omega)
    rw [row, execColophonMarker, atLink, link]
    dsimp only
    rw [wired, atUnit, if_pos die, if_pos rfl, far, Bool.false_and, if_neg Bool.false_ne_true, if_neg (not_not.mpr length), vc,
      beq_self_eq_true, if_pos rfl, ← number]
    refine ⟨_, rfl, ?_⟩
    have marked := State.markerAt_within (s := (s.takeMarker d port p).markerTrigger d n (bits (be p.body 4 4) 17 0)
      (BitVec.ofNat 64 (be p.body 8 8))) (p := linkPage d l) (n := n) |>.mono (W := 8728350732) (by decide)
    exact Within.ite (fun _ => marked) fun _ => Within.ite (fun _ => marked) fun _ => Within.ite
      (fun _ => State.closeBy_within.step (by decide) (State.setCap_within.step (by decide) marked))
      fun _ => State.setCap_within.step (by decide) marked
  obtain ⟨t, row, w⟩ := rest
  refine ⟨t, row, ?_⟩
  dsimp only
  rw [((State.KeepsReg.refl started).within w (by decide) (by decide)).reg, starts]

/-! ### Fabric time (R654, R656) -/

/-- Die 0's fabric time reaches a die (R654). -/
theorem packageTimeSync_follows {s : State} {d : Nat} (die : d < s.dies.length) (other : d ≠ 0) :
    Completes (.packageTimeSync d) s fun t => t.time d = s.time 0 ∧ (t.die d).time.ppb = (s.die 0).time.ppb ∧
      (t.die d).time.synced = true := by
  have row : exec (.packageTimeSync d) s = .next (s.onTime d fun x => { x with
      ns := (s.die 0).time.ns, frac := (s.die 0).time.frac, ppb := (s.die 0).time.ppb, slew := (s.die 0).time.slew
      synced := true }) := by
    have row : exec (.packageTimeSync d) s = execPackageTimeSync d s := by rfl
    rw [row, execPackageTimeSync, atDie, if_pos die, if_neg other]
  refine ⟨_, row, ?_⟩
  dsimp only
  rw [State.time, State.onTime, State.die_onDie _ _ _ _ die, if_pos rfl]
  exact ⟨rfl, rfl, rfl⟩

/-- PTP_LOCKED of every die cleared. -/
def State.unlockPtp (s : State) : State := s.eachDie fun s d => s.onTime d fun x => { x with ptpLocked := false }

/-- PTP_LOCKED clears at a loss of Sync (R656). -/
theorem ptpSyncLoss_unlocks {s : State} (c : s.canonical) {d : Nat}
    (port : d = bits (s.reg (colophonPage 0) 0x12C) 30 28) (locked : (s.die d).time.ptpLocked = true) :
    Completes .ptpSyncLoss s fun t => (∀ k < s.dies.length, (t.die k).time.ptpLocked = false) ∧
      Counted (colophonPage d) Ctr.colophonPtpSyncLosses 1 s t := by
  subst port
  have row : exec .ptpSyncLoss s = .next ((s.unlockPtp.count (colophonPage (bits (s.reg (colophonPage 0) 0x12C) 30 28))
      Ctr.colophonPtpSyncLosses).raise (colophonPage (bits (s.reg (colophonPage 0) 0x12C) 30 28)) 4) := by
    have row : exec .ptpSyncLoss s = execPtpSyncLoss s := by rfl
    rw [row, execPtpSyncLoss]
    dsimp only
    rw [locked]
    rfl
  generalize bits (s.reg (colophonPage 0) 0x12C) 30 28 = d at row
  have unlocked : State.KeepsCtr (colophonPage d) Ctr.colophonPtpSyncLosses s s.unlockPtp :=
    (State.KeepsCtr.refl c).foldl _ fun u e h => h.within State.onTime_within
  have counted : (s.unlockPtp.count (colophonPage d) Ctr.colophonPtpSyncLosses).canonical :=
    State.count_within.canonical unlocked.canonical
  have raised := State.raise_within (s := s.unlockPtp.count (colophonPage d) Ctr.colophonPtpSyncLosses) (p := colophonPage d)
    (mask := 4)
  refine ⟨_, row, fun k die => ?_, unlocked.counted ((State.KeepsCtr.refl counted).within raised)⟩
  have time := State.time_eachDie (f := fun x => { x with ptpLocked := false }) die
  have same := State.die_congr (raised.areas .time (by decide) counted) k
  exact (congrArg FabricTime.ptpLocked same).trans (congrArg FabricTime.ptpLocked time)

end Sys2Proof.Machine

namespace Sys2Proof
open Machine

/-- Settles O55. -/
theorem capturesAndFabricTimeAct : Obligations.CapturesAndFabricTimeAct := by
  intro s d sound die
  have c := sound.1
  refine ⟨fun n number => ⟨fun host takes => capCmdGo_triggers c die host takes number, fun due => ?_,
    fun zero on perst => ?_⟩, ⟨_, rfl, rfl⟩, fun page channel n p found leaf live powered =>
    ⟨markerArrival_latches c die found live powered, markerArrival_stale c die found live powered,
      channelTimeout_counts c die found⟩, fun port l p n link wired quire length number new =>
    colophonMarker_starts c die link wired quire length number new, packageTimeSync_follows die,
    ptpSyncLoss_unlocks c⟩
  · rw [number]
    exact capTimeMatch_triggers c die due
  · subst zero
    rw [number]
    exact colophonIn_triggers c on perst

end Sys2Proof
end

section
-- One proof after another: side by side, the proofs of the whole text need more threads than the memory limit has room for.
set_option Elab.async false
/-!
Checked execution (R497 to R499).
-/

namespace Sys2Proof.Machine

/-- A disputed check of Reckoner 0 by Reckoner 1, for a function of number 255: no rule of a sound state bounds the function
that a check record names. -/
def strayCheck : Check :=
  { id := 0, original := 0, checker := 1, fn := 255, q := 0, index := 0, early := false, tile := [], operands := [], result := []
    disputed := some [1] }

/-- The part after reset, with that check in the buffer of die 0. -/
def State.withStrayCheck : State := State.reset.onInteg 0 fun x => { x with records := FMap.set x.records 0 strayCheck }

/-- The queue page that function 255 would have is the integrity page of its die (R35): an arrival entry that its check drops
counts there. -/
theorem queuePage_stray : (queuePage 0 255).addr = (integrityPage 0).addr := by decide

/-- The failed check's arrival entry is dropped, which counts where the permanent faults count: 2 in place of 1. -/
theorem strayCheck_countsTwice : (match execCheckReexecution 0 0 [] [1] [] State.withStrayCheck with
    | .next t => t.ctr (integrityPage 0) Ctr.integrityClassPermanent
    | _ => 0) = 2 := by decide +kernel

theorem withStrayCheck_sound : State.withStrayCheck.sound := by decide

/-- The premises that the state meets. -/
theorem withStrayCheck_premises : FMap.get? (State.withStrayCheck.integ 0).records 0 = some strayCheck ∧
    0 < State.withStrayCheck.dies.length ∧ (State.withStrayCheck.reck 0 0).retired = false ∧
    State.withStrayCheck.ctr (integrityPage 0) Ctr.integrityClassPermanent = 0 := by decide

end Sys2Proof.Machine

namespace Sys2Proof

open Machine

/-- Refutes O42: `State.sound` does not bound the function of a check record. The queue page of function 255 would be the
die's integrity page, so the arrival entry that the failed check drops advances the counter of permanent faults once more:
it counts 2 where the statement has 1. -/
theorem not_checksAndKnownAnswers : ¬ Obligations.ChecksAndKnownAnswers := by
  intro h
  obtain ⟨record, die, inService, before⟩ := withStrayCheck_premises
  obtain ⟨_, disputed⟩ := h.1 State.withStrayCheck 0 0 strayCheck withStrayCheck_sound die record die die
  obtain ⟨permanent, _⟩ := disputed [1] rfl (by decide) inService
  obtain ⟨t, runs, _, counted, _⟩ := permanent []
  have twice : t.ctr (integrityPage 0) Ctr.integrityClassPermanent = 2 := by
    have row : exec (.checkReexecution 0 0 [] [1] []) State.withStrayCheck =
      execCheckReexecution 0 0 [] [1] [] State.withStrayCheck := by rfl
    have counts := strayCheck_countsTwice
    rwa [← row, show exec (.checkReexecution 0 0 [] [1] []) State.withStrayCheck = .next t from runs] at counts
  have once : t.ctr (integrityPage 0) Ctr.integrityClassPermanent = 1 :=
    counted.trans (congrArg (· + BitVec.ofNat 64 1) before)
  exact absurd (once.symm.trans twice) (by decide)

end Sys2Proof
end

section
-- One proof after another: side by side, the proofs of the whole text need more threads than the memory limit has room for.
set_option Elab.async false
/-!
CIPHER descriptors (R583 to R585).
-/

namespace Sys2Proof.Machine

/-- A key slot that holds 31 bytes: no premise of the statement gives a key its 32 bytes, and AES under a shorter key gives
blocks shorter than 16 bytes. -/
def shortKey : KeySlot := { key := zeros 31, second := [], usage := 0xFF, counters := [] }

/-- A CIPHER descriptor that encrypts 16 bytes at 0x100020 to 0x200000 in MODE GCM under key slot 1, with its parameter block
at 0x100000. -/
def encrypt16 : List Byte :=
  [0x30, 0, 0, 0, 1, 0, 0, 0] ++ toLE 8 0x100020 ++ toLE 8 0x200000 ++ toLE 8 16 ++ toLE 8 0x100000 ++ zeros 24

def encryptSlot : Slot := { index := 0, bytes := encrypt16, kind := .current }

/-- Queue 1 of the PF with that descriptor. -/
def encryptQueue : Queue :=
  { arrival := false, isLocal := false, owner := 0, ledger := none, log2 := 4, base := 0, vector := 0, intEn := false, wait := 0
    tail := 1, slots := [encryptSlot] }

/-- The part with endpoint 0 on die 0, a seeded cipher engine, that queue and that key, the first 16 GiB of the die's HBM mapped
for the PF, and the block of zeros at 0x100000 whole. -/
def State.shortKeyed : State :=
  (({ State.reset with
      fns := { phase := .opened } :: List.replicate 16 {}, queues := [(1, encryptQueue)],
      keys := [(1, shortKey)] } : State).setReg ⟨0, .router0, 0⟩ 0x100 0x80000000).setByte 0 0x8000 0x13
    |>.setPoison 0 0x100000 false |>.setTally 0 0x100000 0x98F94189 |>.onDie 0 fun x =>
    { x with entropy := { ok := true, seeded := true }, xlate := { x.xlate with roots := [(0, 0x8000)] } }

/-- What the descriptor computes under that key: 12 bytes and a tag of 12 bytes. -/
def shortOut : CipherOut :=
  cipherCompute (cMode encrypt16) (cBack encrypt16) shortKey (zeros 16) [] [] (zeros 16)

theorem shortOut_lengths : shortOut.out.length = 12 ∧ shortOut.tag.length = 12 ∧ shortOut.failed = 0 := by decide +kernel

theorem shortKeyed_premises : State.shortKeyed.canonical ∧ State.shortKeyed.begins 0 1 encryptQueue encryptSlot ∧
    State.shortKeyed.cipherHeld 0 = false ∧ State.shortKeyed.hasEndpoint 0 = true ∧
    State.shortKeyed.cipherKey 0 encrypt16 = some shortKey := by decide

/-- The reads of the descriptor, once it has begun. -/
def shortFetch : MemOut × List (List Byte) × State :=
  State.cipherFetch 0 0 (cipherReads encrypt16) (State.shortKeyed.beginSlot 0 1 encryptQueue encryptSlot)

theorem shortFetch_ok : shortFetch = (.ok [], [zeros 16, [], [], zeros 16], shortFetch.2.2) := by
  have reads : shortFetch.1 = .ok [] ∧ shortFetch.2.1 = [zeros 16, [], [], zeros 16] := by decide +kernel
  obtain ⟨whole, parts⟩ := reads
  generalize shortFetch = x at whole parts ⊢
  obtain ⟨_, _, _⟩ := x
  rw [← whole, ← parts]

/-- The writes of what was computed, the bytes and then the tag. -/
def shortPut : CopyOut × State :=
  State.cipherPut 0 0 (dDst encrypt16) (dOperand encrypt16 + 16) shortOut.out shortOut.tag
    ((shortOut.out ++ shortOut.tag).length / 1024 + 8) 0
    (shortFetch.2.2.onExec 0 1 0 fun e => { e with data := shortOut.out ++ shortOut.tag, detail := shortOut.failed })

theorem shortPut_done : shortPut = (.done 24, shortPut.2) := by
  have moves : shortPut.1 = .done 24 := by decide +kernel
  generalize shortPut = x at moves ⊢
  obtain ⟨_, _⟩ := x
  rw [← moves]

/-- The descriptor ends with 8 bytes written in place of 12: the last 16 bytes of its output are taken as the tag. -/
theorem execCipher_short : (match execCipher 0 1 State.shortKeyed with
    | .next t => (t.exec? 0 1 0).map Exec.result0
    | _ => none) = some 8 := by decide +kernel

end Sys2Proof.Machine

namespace Sys2Proof

open Machine

/-- Refutes O24: no premise gives the key its 32 bytes. Under a key of 31 bytes AES gives blocks of 12 bytes, and the model, which
takes the last 16 bytes of what GCM computes as the tag, ends a descriptor with a result of 8 bytes, where the statement has the 12
bytes that were computed. -/
theorem not_cipherDescriptorsEnd : ¬ Obligations.CipherDescriptorsEnd := by
  intro h
  obtain ⟨canonical, begins, free, endpoint, key⟩ := shortKeyed_premises
  obtain ⟨out, _, verified⟩ := shortOut_lengths
  obtain ⟨t, runs, _, ended⟩ := h State.shortKeyed 0 1 24 encryptQueue encryptSlot shortKey [] (zeros 16) [] [] (zeros 16)
    shortFetch.2.2 shortPut.2 shortOut canonical (by decide) (by decide) begins (by decide) free endpoint
    shortFetch_ok key (by decide) rfl shortPut_done
  rw [if_pos verified] at ended
  obtain ⟨e, found, _, _, result, _⟩ := ended
  have row : exec (.cipher 0 1) State.shortKeyed = execCipher 0 1 State.shortKeyed := by rfl
  have eight := execCipher_short
  rw [← row, runs] at eight
  have found' : t.exec? 0 1 0 = some e := found
  have twelve : (t.exec? 0 1 0).map Exec.result0 = some 12 := by rw [found', Option.map_some, result, out]
  exact absurd (twelve.symm.trans eight) (by decide)

end Sys2Proof
end

section
-- One proof after another: side by side, the proofs of the whole text need more threads than the memory limit has room for.
set_option Elab.async false
/-!
Chunk packets of a generation that their chunk has not reached (R459, R475).
-/

namespace Sys2Proof.Machine

/-! ### A member with one chunk -/

/-- Chunk 0 at generation 0, with one block of output written. -/
def firstChunk : Chunk := { k := 0, written := [0x100000] }

/-- A REDUCE of 256 elements at a member with one child. -/
def memberOp : CollOp where
  fn := 0
  q := 1
  index := 0
  broadcast := false
  src := 0x200000
  dst := 0x100000
  length := 1024
  inType := 0
  outType := 0
  distribute := true
  early := false
  seq := 0
  granted := 1
  chunks := [firstChunk]
  children := [{ member := 2, endpoint := 11 }]

/-- Group 5 at generation 3: its root is member 0, this die is member 1, and member 2 is its child. -/
def memberGroup : Group where
  id := 5
  gen := 3
  root := 0
  tclass := 0
  owner := 0
  timeout := 2000
  member := 1
  table := [(9, 0), (0, 0), (11, 1)]
  op := some memberOp

/-- The part with that group in entry 0 of die 0, and the first 16 GiB of the die's HBM mapped for the PF. -/
def State.withMember : State :=
  (State.reset.setByte 0 0x8000 0x13).onDie 0 fun x =>
    { x with groups := [(0, memberGroup)], xlate := { x.xlate with roots := [(0, 0x8000)] } }

theorem withMember_sound : State.withMember.sound := by decide

theorem withMember_die : 0 < State.withMember.dies.length := by decide

/-! ### Packets of generation 1 -/

/-- The header of a chunk packet of group 5 from a member for chunk 0 at generation 1, and one byte, which no tally follows. -/
def lateBody (kind sender : Nat) : List Byte :=
  toBE 4 (kind * 2 ^ 28 + 2 ^ 26 + sender * 4096) ++ zeros 12 ++ toBE 4 (5 * 65536 + 3) ++ [0]

def latePacket (kind sender : Nat) : Packet := ownPacket 0 0 0 ptChunk (lateBody kind sender)

/-- What the packet holds. -/
def lateIn (kind sender : Nat) : ChunkIn where
  kind := kind
  gen := 1
  specials := false
  half := false
  sender := sender
  seq := 0
  chunk := 0
  row := 0
  width := 0
  pos := 0
  arg := 0
  group := 5
  ggen := 3
  payload := [0]
  good := false

theorem takesChunk_lateRetract :
    State.withMember.takesChunk 0 (latePacket ckRetract 0) ckRetract 0 memberGroup memberOp (lateIn ckRetract 0) := by decide

theorem takesChunk_lateFrames :
    State.withMember.takesChunk 0 (latePacket ckFrames 2) ckFrames 0 memberGroup memberOp (lateIn ckFrames 2) := by decide

/-- A RETRACT for the generation after the chunk's own leaves the chunk where it is. -/
theorem execRetract_late : (match execRetract 0 (latePacket ckRetract 0) State.withMember with
    | .next t => (t.collOp 0 0).map fun x => (x.2.chunk? 0).map Chunk.gen
    | _ => none) = some (some 0) := by decide

theorem withMember_reaches : State.withMember.reaches 0 7 0 (gaOffset 0x100000) 1 true 0x100000 :=
  ⟨by decide, by decide, ⟨{ fn := 0, base := 0, log2 := 34, tier := 0, frame := 0, writable := true, countEn := false }, by decide,
    by decide⟩, by decide, by decide⟩

/-- FRAMES of the generation after the chunk's own are dropped before their tally is looked at. -/
theorem execFrames_late : (match execFrames 0 (latePacket ckFrames 2) 0 State.withMember with
    | .next t => some (t.ctr (collPage 0) Ctr.collectiveTallyFailures)
    | _ => none) = some 0 := by decide

theorem withMember_uncounted : State.withMember.ctr (collPage 0) Ctr.collectiveTallyFailures = 0 := by decide

end Sys2Proof.Machine

namespace Sys2Proof

open Machine

/-- Refutes O44: `State.takesChunk` asks a RETRACT only not to be of a generation before its chunk's. One of generation 1 for a
chunk at generation 0 changes nothing, so the chunk is at generation 0 after it, where the statement has 2. -/
theorem not_chunkControlPacketsAct : ¬ Obligations.ChunkControlPacketsAct := by
  intro h
  obtain ⟨_, _, _, _, _, retract⟩ := h State.withMember 0 (latePacket ckRetract 0) withMember_sound withMember_die
  obtain ⟨t, runs, _, moved⟩ := retract 0 memberGroup memberOp (lateIn ckRetract 0) firstChunk 0x100000 0x100000
    takesChunk_lateRetract rfl rfl withMember_reaches
  have row : exec (.retract 0 (latePacket ckRetract 0)) State.withMember =
    execRetract 0 (latePacket ckRetract 0) State.withMember := by rfl
  have stays := execRetract_late
  rw [← row, runs] at stays
  obtain ⟨⟨g, o⟩, found, gen⟩ := Option.map_eq_some_iff.mp stays
  exact absurd (gen.symm.trans (moved g o found)) (by decide)

/-- Refutes O45: `State.takesChunk` asks FRAMES only not to be of a generation before their chunk's. Those of generation 1 for a
chunk at generation 0 are dropped as stale, whether or not their tally passes, so no failed tally is counted. -/
theorem not_chunkDataPacketsAct : ¬ Obligations.ChunkDataPacketsAct := by
  intro h
  obtain ⟨frames, _⟩ := h State.withMember 0 (latePacket ckFrames 2) withMember_sound withMember_die
  obtain ⟨bad, _⟩ := frames 0 memberGroup memberOp (lateIn ckFrames 2) firstChunk 0 takesChunk_lateFrames rfl rfl (by decide) rfl
  obtain ⟨t, runs, counted, _⟩ := bad rfl
  have row : exec (.frames 0 (latePacket ckFrames 2) 0) State.withMember =
    execFrames 0 (latePacket ckFrames 2) 0 State.withMember := by rfl
  have none := execFrames_late
  rw [← row, runs] at none
  have zero : t.ctr (collPage 0) Ctr.collectiveTallyFailures = 0 := Option.some.inj none
  rw [withMember_uncounted, zero] at counted
  exact absurd counted (by decide)

end Sys2Proof
end

section
-- One proof after another: side by side, the proofs of the whole text need more threads than the memory limit has room for.
set_option Elab.async false
/-!
Poison notices (R514, R516).
-/

namespace Sys2Proof.Machine

/-- A translation of the first 16 GiB of the PF's memory on a die. -/
def strayTranslation : Translation :=
  { fn := 0, base := 0, log2 := 34, tier := 0, frame := 0, writable := true, countEn := false }

/-- The part with endpoint 0 on die 0, no page table, and a translation in an eleventh cache, which no engine has: a sound state
may list more caches than the part has engines. -/
def State.withEleventhCache : State :=
  ((State.reset.setReg ⟨0, .router0, 0⟩ 0x100 0x80000000).setPoison 0 0x100000 false).onXlate 0 fun x =>
    { x with caches := List.replicate 10 [] ++ [[strayTranslation]] }

theorem withEleventhCache_sound : State.withEleventhCache.sound := by decide

theorem withEleventhCache_endpoint : 0 < State.withEleventhCache.dies.length ∧ State.withEleventhCache.endpoint 0 = 0 ∧
    State.withEleventhCache.hasEndpoint 0 = true := by decide

/-- The address at which the walk of a notice would find the block, had notices a cache (R336). -/
theorem withEleventhCache_reaches : State.withEleventhCache.reaches 0 10 0 0x100000 1 true 0x100000 :=
  ⟨by decide, by decide, ⟨strayTranslation, by decide, by decide⟩, by decide, by decide⟩

/-- A NOTICE of the block at 0x100000 of endpoint 0, for the PF: its header, its body, and the packet. -/
def noticeHeader : List Byte := integrityHeader 1 1 0 0 0 0 0

def noticeBody : List Byte := toBE 8 0x100000

def noticePacket : Packet :=
  ownPacket 0 0 0 ptPoisonNotice (noticeHeader ++ noticeBody ++ tallies 0 (noticeHeader ++ noticeBody))

theorem integrityParts_noticePacket : integrityParts noticePacket = some (noticeHeader, noticeBody) := by decide +kernel

theorem noticeHeader_fields : bits (be noticeHeader 0 4) 31 28 = 1 ∧ bits (be noticeHeader 0 4) 27 16 = 1 ∧
    integrityFn noticeHeader = 0 ∧ noticeBody.length = 8 ∧ fromBE noticeBody % 2 ^ 46 = 0x100000 ∧
    fromBE noticeBody / 2 ^ 46 = 0 := by decide

/-- The walk itself finds no page table, and the block is refused. -/
theorem execNotice_refused : (match execNotice 0 noticePacket State.withEleventhCache with
    | .next t => some (t.poisoned 0 0x100000)
    | _ => none) = some false := by decide +kernel

end Sys2Proof.Machine

namespace Sys2Proof

open Machine

/-- Refutes O43: `State.reaches` lets engine 10 translate from a cache, which `State.sound` does not rule out, while a notice's
block is found by a walk alone. Where the two differ, here for a function without a page table, the block is refused and not
poisoned. -/
theorem not_noticesAndDigests : ¬ Obligations.NoticesAndDigests := by
  intro h
  obtain ⟨die, endpoint, has⟩ := withEleventhCache_endpoint
  obtain ⟨kind, count, fn, length, offset, place⟩ := noticeHeader_fields
  obtain ⟨notice, _⟩ := h.1 State.withEleventhCache 0 withEleventhCache_sound die
  obtain ⟨t, runs, poisoned, _⟩ := notice noticePacket noticeHeader noticeBody integrityParts_noticePacket kind count length
    0x100000 (by rw [fn, offset]; exact withEleventhCache_reaches) (by rw [place, endpoint]) has
  have row : exec (.notice 0 noticePacket) State.withEleventhCache = execNotice 0 noticePacket State.withEleventhCache := by rfl
  have refused := execNotice_refused
  rw [← row, runs] at refused
  exact absurd (poisoned.symm.trans (Option.some.inj refused)) (by decide)

end Sys2Proof
end

section
-- One proof after another: side by side, the proofs of the whole text need more threads than the memory limit has room for.
set_option Elab.async false
/-!
REDUCE descriptors that begin (R447).
-/

namespace Sys2Proof.Machine

/-- A REDUCE of 1,024 bytes of BF16 for group 5 at generation 3 and OP_SEQ 0, with its argument block at 0x100000. -/
def reduce5 : List Byte :=
  [0x28, 0, 0, 0, 5, 0, 0, 0] ++ toLE 8 0x200000 ++ toLE 8 0x300000 ++ toLE 8 1024 ++ toLE 8 0x100000 ++ zeros 8 ++
    [0x77, 0, 0, 0, 3, 0, 0, 0] ++ zeros 8

def reduceSlot : Slot := { index := 0, bytes := reduce5, kind := .current }

/-- Queue 1 of the PF with that descriptor. -/
def reduceQueue : Queue :=
  { arrival := false, isLocal := false, owner := 0, ledger := none, log2 := 4, base := 0, vector := 0, intEn := false, wait := 0
    tail := 1, slots := [reduceSlot] }

/-- Its argument block: a replay window at 2^34 and no scale arrays. -/
def reduceArgs : List Byte := zeros 16 ++ toLE 8 0x400000000 ++ zeros 8

/-- Group 5 at generation 3, of this die alone. -/
def rootGroup : Group :=
  { id := 5, gen := 3, root := 0, tclass := 0, owner := 0, timeout := 2000, member := 0, table := [(0, 0)] }

/-- A table pointer for a function that has no page table. -/
def fillerPointer : WalkPointer := ⟨1, 1, 0, 0x9000⟩

/-- The table pointer under which the replay window is mapped, and which no page table holds any more. -/
def replayPointer : WalkPointer := ⟨0, 1, 1, 0x9000⟩

/-- A walk cache that is full, with the pointer of the replay window as its oldest entry. -/
def fullWalks : List WalkPointer := List.replicate 1023 fillerPointer ++ [replayPointer]

/-- The part with endpoint 0 on die 0, the queue and the group. The PF's page table maps its first GiB through a table of the
second level; the argument block stands in it and keeps its tally. -/
def State.withFullWalks : State :=
  (((({ State.reset with fns := { phase := .opened } :: List.replicate 16 {}, queues := [(1, reduceQueue)] } : State).setReg
    ⟨0, .router0, 0⟩ 0x100 0x80000000).setBytes 0 0x8000 (toLE 8 0x9001)).setByte 0 0x9000 0x13
    |>.setByte 0 0x100014 4 |>.setPoison 0 0x100000 false |>.setTally 0 0x100000 2110734768 |>.onDie 0 fun x =>
    { x with groups := [(0, rootGroup)], xlate := { x.xlate with roots := [(0, 0x8000)], walks := fullWalks } })

theorem withFullWalks_group : State.withFullWalks.canonical ∧ 0 < State.withFullWalks.fns.length ∧
    0 < State.withFullWalks.dies.length ∧ State.withFullWalks.collWaits 0 reduce5 = false ∧
    State.withFullWalks.collGroup 0 reduce5 = some (0, rootGroup) ∧
    FMap.get? (State.withFullWalks.die 0).groups 0 = some rootGroup ∧ State.withFullWalks.hasEndpoint 0 = true ∧
    State.withFullWalks.endpoint 0 = 0 := by decide

theorem withFullWalks_begins : State.withFullWalks.begins 0 1 reduceQueue reduceSlot := by decide

/-- What the descriptor and its argument block say. -/
theorem reduce5_fields : dOpcode reduce5 = 0x28 ∧ gaEndpoint (dOperand reduce5) = 0 ∧ gaOffset (dOperand reduce5) = 0x100000 ∧
    reduceArgs.length = 32 ∧ (collOpOf 0 1 0 reduce5 rootGroup reduceArgs).badArgs rootGroup.isRoot reduceArgs = false ∧
    le reduce5 0x34 2 = 3 ∧ (collOpOf 0 1 0 reduce5 rootGroup reduceArgs).seq = 0 ∧
    gaEndpoint (collOpOf 0 1 0 reduce5 rootGroup reduceArgs).replay = 0 := by decide

/-- A translation of the PF's first GiB. -/
def firstGiB : Translation := { fn := 0, base := 0, log2 := 30, tier := 0, frame := 0, writable := true, countEn := false }

theorem translate_reduceArgs : (State.withFullWalks.translate 0 7 0 0x100000 false).1 = .found firstGiB := by decide +kernel

theorem reduceArgs_whole : State.withFullWalks.poisoned 0 0x100000 = false ∧
    State.withFullWalks.tallyOk 0 0x100000 = true ∧ State.withFullWalks.bytes 0 0x100000 32 = reduceArgs := by decide +kernel

theorem readsAs_reduceArgs : State.withFullWalks.readsAs 0 7 0 0x100000 reduceArgs := by
  obtain ⟨clean, tally, bytes⟩ := reduceArgs_whole
  have reaches : State.withFullWalks.reaches 0 7 0 0x100000 32 false 0x100000 :=
    ⟨by decide, by decide, ⟨firstGiB, translate_reduceArgs, by decide⟩, by decide, by decide⟩
  exact ⟨0x100000, reaches, clean, tally, bytes⟩

/-- Before the descriptor begins, the replay window is mapped, through the pointer that the cache holds. -/
theorem replay_mapped : State.withFullWalks.mappedHbm 0 0 (gaOffset (collOpOf 0 1 0 reduce5 rootGroup reduceArgs).replay)
    (collOpOf 0 1 0 reduce5 rootGroup reduceArgs).replayLen = true := by decide +kernel

/-- The read of the argument block drops that pointer, and the descriptor is refused. -/
theorem execReduce_refused : (match execReduce 0 1 State.withFullWalks with
    | .next t => (FMap.get? (t.die 0).groups 0).map Group.nextOp
    | _ => none) = some 0 := by decide +kernel

end Sys2Proof.Machine

namespace Sys2Proof

open Machine

/-- Refutes O23: the replay window is looked for after the argument block has been read, and the walk for that read may drop the
oldest table pointer of a full walk cache. Where the window was mapped through that pointer alone, the descriptor ends with
ACCESS_DENIED and NEXT_OP_SEQ stays. -/
theorem not_collectivesTakeTheirSequence : ¬ Obligations.CollectivesTakeTheirSequence := by
  intro h
  obtain ⟨canonical, fn, die, free, named, group, endpoint, here⟩ := withFullWalks_group
  obtain ⟨opcode, place, offset, length, good, gen, seq, replay⟩ := reduce5_fields
  obtain ⟨t, runs, g, found, _, next⟩ := h State.withFullWalks 0 1 0 reduceQueue reduceSlot rootGroup reduceArgs (.reduce 0 1) 0x28
    canonical fn (by decide) withFullWalks_begins (by simp) opcode free named die group endpoint (place.trans here.symm)
    (offset ▸ readsAs_reduceArgs) length good gen seq fun _ => ⟨replay.trans here.symm, replay_mapped⟩
  have row : exec (.reduce 0 1) State.withFullWalks = execReduce 0 1 State.withFullWalks := by rfl
  have refused := execReduce_refused
  rw [← row, runs] at refused
  have found' : FMap.get? (t.die 0).groups 0 = some g := found
  have stays : (FMap.get? (t.die 0).groups 0).map Group.nextOp = some 1 := by
    rw [found', Option.map_some, next]
    rfl
  exact absurd (stays.symm.trans refused) (by decide)

end Sys2Proof
end

section
-- One proof after another: side by side, the proofs of the whole text need more threads than the memory limit has room for.
set_option Elab.async false
/-!
The timers of collective operations (R465 to R469, R472).
-/

namespace Sys2Proof.Machine

/-! ### What a packet sent counts (R212, R274, R286) -/

/-- A page that lies apart from those on which the router of die `d` counts: its own, the packet buffer's, and those of the
Ethernet ports. -/
structure Page.ApartFromRouter (p : Page) (d : Nat) : Prop where
  router : p.addr ≠ (routerPage d).addr
  buffer : p.addr ≠ (bufferPage d).addr
  eth (e : Nat) : p.addr ≠ (ethPage d e).addr

theorem collPage_apartFromRouter (d : Nat) : (collPage d).ApartFromRouter d := by
  refine ⟨?_, ?_, fun e => ?_⟩ <;> simp only [ne_eq, Page.addr, Page.off, PageKind.place] <;> omega

namespace State.KeepsCtr

variable {p : Page} {k d : Nat} {s t : State} (h : State.KeepsCtr p k s t)

include h

theorem onRouter (e : Nat) (f : Router → Router) : State.KeepsCtr p k s (t.onRouter e f) := h.congr rfl rfl rfl

variable (apart : p.ApartFromRouter d)

include apart

theorem discard (x : Packet) (port vc units ctr : Nat) (origin : Option Nat) :
    State.KeepsCtr p k s (t.discard d x port vc units ctr origin) :=
  ((h.count apart.router ctr 1).freeUnits apart.eth port vc units origin).within State.editionCount_within

theorem holdPacket (x : HeldPacket) : State.KeepsCtr p k s (t.holdPacket d x) :=
  (h.onRouter ..).noteOccupancy apart.buffer

theorem forward (x : Packet) (flow inPort vcIn units : Nat) (origin : Option Nat) :
    State.KeepsCtr p k s (t.forward d x flow inPort vcIn units origin) := by
  unfold State.forward
  extract_lets waiter
  split
  · exact h.discard apart ..
  · split
    · exact h.discard apart ..
    · refine State.KeepsCtr.noteOccupancy ?_ apart.buffer
      split
      · exact ((h.within State.editionCount_within).within State.item_within).onRouter ..
      · exact (h.within State.editionCount_within).onRouter ..
  · exact h.discard apart ..
  · split
    · exact h.discard apart ..
    · exact h.holdPacket apart _
  · split
    · exact h.discard apart ..
    · exact h.holdPacket apart _

theorem inject (x : Packet) (flow : Nat) : State.KeepsCtr p k s (t.inject d x flow) := by
  unfold State.inject
  dsimp only
  refine State.KeepsCtr.forward ?_ apart ..
  split
  · exact (h.within State.item_within).within State.editionCount_within
  · exact h.within State.editionCount_within

theorem replicate (x : Packet) (r : ReplEntry) (flow inPort vcIn units : Nat) :
    State.KeepsCtr p k s (t.replicate d x r flow inPort vcIn units) := by
  have copied {u : State} (hu : State.KeepsCtr p k s u) (y : Packet) (origin : Option Nat) : State.KeepsCtr p k s
      (((u.count (routerPage d) Ctr.router0ReplicatedCopies).editionCount d y.edition (· + 1)).forward d y flow inPort vcIn
        units origin) :=
    ((hu.count apart.router _ _).within State.editionCount_within).forward apart ..
  unfold State.replicate
  extract_lets id mark arrives one children here leaves
  have children : State.KeepsCtr p k s children :=
    foldl _ (h.onRouter ..) fun u c hu => copied hu _ _
  have here : State.KeepsCtr p k s here := by
    simp only [here]
    split
    · exact copied children _ _
    · exact children
  exact (here.onRouter ..).freeUnits apart.eth ..

theorem sendAll (g : Group) (body : List Byte) : State.KeepsCtr p k s (t.sendAll d g body) := by
  unfold State.sendAll
  dsimp only
  split
  · exact h.replicate apart ..
  · exact h.count apart.router _ _

theorem sendChildren (g : Group) (o : CollOp) (body : List Byte) : State.KeepsCtr p k s (t.sendChildren d g o body) :=
  foldl _ h fun _ _ hu => hu.inject apart _ _

end State.KeepsCtr

/-! ### Operations by their group-list entry -/

/-- A change of the value of a key. -/
theorem FMap.get?_modify {α : Type} (k : Nat) (f : α → α) :
    ∀ m : List (Nat × α), FMap.get? (FMap.modify m k f) k = (FMap.get? m k).map f
  | [] => rfl
  | (j, v) :: m => by
    have rest : FMap.get? (m.map fun p => if p.1 = k then (p.1, f p.2) else p) k = (FMap.get? m k).map f := FMap.get?_modify k f m
    rw [FMap.modify, List.map_cons, FMap.get?]
    by_cases here : j = k
    · rw [if_pos here, FMap.get?, if_pos here, if_pos here, Option.map_some]
    · rw [if_neg here, FMap.get?, if_neg here, if_neg here, rest, apply_ite (Option.map f), Option.map_none]

section Operation

variable {s : State} {d e : Nat} {g : Group} {o : CollOp} (die : d < s.dies.length)

theorem State.group_of_collOp (op : s.collOp d e = some (g, o)) :
    FMap.get? (s.die d).groups e = some g ∧ g.op = some o := by
  unfold State.collOp at op
  split at op
  · next h found =>
    obtain ⟨x, held, pair⟩ := Option.map_eq_some_iff.mp op
    cases pair
    exact ⟨found, held⟩
  · cases op

theorem State.collOp_of_group (found : FMap.get? (s.die d).groups e = some g) : s.collOp d e = g.op.map fun o => (g, o) := by
  rw [State.collOp, found]

/-- Work outside the groups. -/
theorem Within.collOp {W : Nat} {t : State} (w : Within W s t) (c : s.canonical)
    (groups : W.testBit Area.groups.bit = false := by decide) : t.collOp d e = s.collOp d e := by
  rw [State.collOp, State.die_congr (w.areas .groups groups c) d, State.collOp]

include die

theorem State.group_onGroup (f : Group → Group) :
    FMap.get? ((s.onGroup d e f).die d).groups e = (FMap.get? (s.die d).groups e).map f := by
  rw [State.onGroup, State.die_onDie _ _ _ _ die, if_pos rfl, FMap.get?_modify]

theorem State.collOp_onOp (f : CollOp → CollOp) (op : s.collOp d e = some (g, o)) :
    (s.onOp d e f).collOp d e = some ({ g with op := some (f o) }, f o) := by
  obtain ⟨found, held⟩ := State.group_of_collOp op
  rw [State.collOp_of_group (s := s.onOp d e f) ((State.group_onGroup die _).trans (by rw [found, Option.map_some])), held,
    Option.map_some, Option.map_some]

/-- A group without an operation has none. -/
theorem State.collOp_onGroup_none {f : Group → Group} (ends : ∀ g, (f g).op = none) : (s.onGroup d e f).collOp d e = none := by
  rw [State.collOp, State.group_onGroup die]
  cases FMap.get? (s.die d).groups e with
  | none => rfl
  | some g => simp only [Option.map_some, ends, Option.map_none]

end Operation

/-! ### The end of an operation (R477) -/

/-- A group whose operation has ended. -/
def Group.over (o : CollOp) (g : Group) : Group := { g with op := none, ended := some (o.seq, o.chunkCount) }

/-- Work beside the descriptors. -/
theorem Within.exec? {W f q : Nat} {i : Word} {s t : State} (w : Within W s t) (c : s.canonical)
    (descriptors : W.testBit Area.descriptors.bit = false := by decide) : t.exec? f q i = s.exec? f q i :=
  congrArg (List.find? fun x : Exec => x.is f q i) (w.areas .descriptors descriptors c)

/-- Work beside the descriptors leaves a descriptor in execution. -/
theorem Within.inExecution {W f q : Nat} {i : Word} {s t : State} (w : Within W s t) (c : s.canonical)
    (live : s.inExecution f q i) (descriptors : W.testBit Area.descriptors.bit = false := by decide) : t.inExecution f q i := by
  obtain ⟨x, found, running⟩ := live
  exact ⟨x, (w.exec? c descriptors).trans found, running⟩

/-- A descriptor in execution ends on an error, with its DETAIL. -/
theorem State.finish_endedWith {s : State} {f q st : Nat} {i : Word} (dt r0 r1 : Nat) (live : s.inExecution f q i) (fails : st ≠ 0) :
    (s.finish f q i st dt r0 r1).endedWith f q i st dt := by
  obtain ⟨x, found, running⟩ := live
  refine ⟨_, State.exec?_onExec _ found fun y => ?_, ?_⟩
  · split <;> rfl
  · simp [running, fails]

section End

variable {s : State} {d e st : Nat} {g : Group} {o : CollOp} (c : s.canonical) (die : d < s.dies.length)
  (op : s.collOp d e = some (g, o)) (running : o.completed = false)

include op running

/-- The end of an operation whose descriptor has not completed. -/
theorem State.endColl_of_running (dt r0 r1 : Nat) : s.endColl d e st dt r0 r1 =
    ((s.onGroup d e (Group.over o)).finish o.fn o.q o.index st dt r0
      r1).count (collPage d) Ctr.collectiveOperationsCompleted := by
  simp only [State.endColl, op, running, Bool.false_eq_true, if_false]
  rfl

/-- Beside the operations completed the end counts nothing. -/
theorem State.KeepsCtr.endColl {k : Nat} {u : State} (h : State.KeepsCtr (collPage d) k u s)
    (other : k % 128 ≠ Ctr.collectiveOperationsCompleted) (dt r0 r1 : Nat) :
    State.KeepsCtr (collPage d) k u (s.endColl d e st dt r0 r1) := by
  rw [State.endColl_of_running op running]
  exact ((h.within State.onGroup_within).within State.finish_within).countOther other 1

include c die

/-- It ends with its descriptor. -/
theorem State.endColl_ends (dt r0 r1 : Nat) (live : s.inExecution o.fn o.q o.index) (fails : st ≠ 0) :
    (s.endColl d e st dt r0 r1).collOp d e = none ∧ (s.endColl d e st dt r0 r1).endedWith o.fn o.q o.index st dt := by
  rw [State.endColl_of_running op running]
  have dropped := State.onGroup_within (s := s) (d := d) (e := e)
    (f := Group.over o)
  have ended := State.finish_within (s := s.onGroup d e (Group.over o))
    (f := o.fn) (q := o.q) (i := o.index) (status := st) (detail := dt) (result0 := r0) (result1 := r1)
  have c' := ended.canonical (dropped.canonical c)
  constructor
  · rw [State.count_within.collOp c', ended.collOp (dropped.canonical c)]
    exact State.collOp_onGroup_none die fun _ => by rfl
  · obtain ⟨x, found, phase, status, detail⟩ :=
      State.finish_endedWith dt r0 r1 (dropped.inExecution c live) fails
    exact ⟨x, (State.count_within.exec? c').trans found, phase, status, detail⟩

end End

/-! ### The timers -/

/-- A group event counts, where its entry is dropped, on a page of the queue manager (R122). -/
theorem State.KeepsCtr.groupEvent {k d : Nat} {s t : State} (h : State.KeepsCtr (collPage d) k s t) (g : Group) (event : Nat)
    (seq : Word) (endpoint chunk : Nat) : State.KeepsCtr (collPage d) k s (t.groupEvent d g event seq endpoint chunk) := by
  refine State.KeepsCtr.arrive h ?_ _ _
  simp only [ne_eq, Page.addr, Page.off, PageKind.place]
  omega

/-- A timeout counted, with its interrupt (R468, R469). -/
def State.noteTimeout (s : State) (d : Nat) : State :=
  (s.count (collPage d) Ctr.collectiveGroupTimeouts).raise (collPage d) 2

theorem State.noteTimeout_within {s : State} {d : Nat} : Within 4108 s (s.noteTimeout d) :=
  State.raise_within.step (by decide) (State.count_within.mono (by decide))

/-- What keeps the timeouts counted from a timeout on. -/
theorem State.counted_noteTimeout {s t : State} {d : Nat} (c : s.canonical)
    (keeps : ∀ {u : State}, State.KeepsCtr (collPage d) Ctr.collectiveGroupTimeouts u (s.noteTimeout d) →
      State.KeepsCtr (collPage d) Ctr.collectiveGroupTimeouts u t) :
    Counted (collPage d) Ctr.collectiveGroupTimeouts 1 s t :=
  (State.KeepsCtr.refl c).counted (keeps ((State.KeepsCtr.refl (State.count_within.canonical c)).within State.raise_within))

section Timers

variable {s : State} {d e : Nat} {g : Group} {o : CollOp} (c : s.canonical) (die : d < s.dies.length) (entry : e < 4096)
  (op : s.collOp d e = some (g, o))

include op in
/-- A RESEND asked for the first time is counted and kept (R466). -/
theorem State.askResend_fresh {m k gen : Nat} (fresh : o.asked.contains (m, k, gen) = false) : s.askResend d e m k gen =
    (((s.onOp d e fun o => { o with asked := (m, k, gen) :: o.asked }).count (collPage d)
      Ctr.collectiveResendsRequested).sendChunk d g (g.endpointOf m) (chunkBody g o.seq ckResend gen 0 k 0 0 0 [])) := by
  simp only [State.askResend, op, fresh, Bool.false_eq_true, if_false]

/-- What the root does when it aborts an operation whose descriptor runs (R470). -/
theorem State.abortRoot_of_op (op : s.collOp d e = some (g, o)) (status detail own : Nat) :
    s.abortRoot d e status detail own =
      (s.sendAll d g (chunkBody g o.seq ckAbort 0 0 0 0 0 (detail * 65536 + status) [])).endColl d e status own 0 0 := by
  rw [State.abortRoot, op]

include die entry op

theorem atColl_of_op (act : Group → CollOp → State) : atColl s d e act = .next (act g o) := by
  rw [atColl, atUnit, if_pos die, if_pos (decide_eq_true entry), op]

end Timers

/-! ### What each timer does -/

/-- The packets that a member other than the root repeats (R465). -/
def State.repeatMember (s : State) (d : Nat) (g : Group) (o : CollOp) : State :=
  let s := if o.broadcast || o.granted = 0 then s else s.sendGrants d g o
  let s := match o.receipts with
    | some m => s.sendReceipt d g o.seq false (min m (o.holds false))
    | none => s
  o.failures.foldl (fun s f => s.sendRoot d g (chunkBody g o.seq ckFailure f.2.1 0 f.1 0 0 (f.2.2.2 * 256 + f.2.2.1) [])) s

theorem State.repeatMember_within {s : State} {d : Nat} {g : Group} {o : CollOp} :
    Within 25975324680 s (s.repeatMember d g o) := by
  unfold State.repeatMember
  extract_lets granted receipted
  have granted : Within 25975324680 s granted := Within.ite (fun _ => Within.refl _ _) fun _ => State.sendGrants_within
  have receipted : Within 25975324680 s receipted := by
    simp only [receipted]
    split
    · exact State.sendReceipt_within.step (by decide) granted
    · exact granted
  exact Within.foldl (fun _ _ w => State.sendRoot_within.step (by decide) w) receipted

/-- The chunk of which a child that is late is reported: the first that lacks its rows, or else that of its RECEIPT (R468). -/
def CollOp.lateChunk (o : CollOp) (n : Nat) (c : ChildState) : Nat :=
  ((o.chunks.find? fun x => o.lacksRows x.k (n + 1)).map Chunk.k).getD ((c.receipt.map Prod.snd).getD 0)

/-- What a member that leaves says of it: ABORT to all from the root, or FAILURE to the root (R472). -/
def State.tellLeave (s : State) (d e : Nat) (g : Group) (o : CollOp) : State :=
  if g.isRoot then
    (s.groupEvent d g 5 o.seq (s.endpoint d) 0).sendAll d g
      (chunkBody g o.seq ckAbort 0 0 0 0 0 (gtAborted * 65536 + stGroupTimeout) [])
  else s.sendFailure d e 0 0 5 (s.endpoint d)

theorem State.tellLeave_within {s : State} {d e : Nat} {g : Group} {o : CollOp} :
    Within 94694802440 s (s.tellLeave d e g o) :=
  Within.ite (fun _ => State.sendAll_within.step (by decide) (State.groupEvent_within.mono (by decide)))
    fun _ => State.sendFailure_within.mono (by decide)

section Rows

variable {s : State} {d e : Nat} {g : Group} {o : CollOp} (die : d < s.dies.length) (entry : e < 4096)
  (op : s.collOp d e = some (g, o))

include die entry op

theorem exec_repeatTimer (member : g.isRoot = false) : exec (.repeatTimer d e) s = .next (s.repeatMember d g o) := by
  have row : exec (.repeatTimer d e) s = execRepeatTimer d e s := by rfl
  rw [row, execRepeatTimer, atColl_of_op die entry op]
  simp only [member, Bool.false_eq_true, if_false]
  rfl

theorem exec_resendTimer (member : g.isRoot = false) (broadcast : o.broadcast = true) (lacks : o.holds false < o.chunkCount) :
    exec (.resendTimer d e) s =
      .next (s.askResend d e g.root (o.holds false) (((o.chunk? (o.holds false)).map Chunk.gen).getD 0)) := by
  have row : exec (.resendTimer d e) s = execResendTimer d e s := by rfl
  have writes : o.writes false = true := by simp [CollOp.writes, broadcast]
  rw [row, execResendTimer, atColl_of_op die entry op]
  simp only [broadcast, member, writes, lacks, decide_true, Bool.not_false, Bool.and_self, if_true]

theorem exec_childTimeout {n : Nat} {x : ChildState} (child : o.children[n]? = some x) (silent : x.receipt = none) :
    exec (.childTimeout d e n) s = .next (if g.isRoot then (s.noteTimeout d).rootCause d e (o.lateChunk n x) 4 x.endpoint true
      else ((s.noteTimeout d).groupEvent d g 1 o.seq x.endpoint (o.lateChunk n x)).sendFailure d e (o.lateChunk n x)
        (((o.chunk? (o.lateChunk n x)).map Chunk.gen).getD 0) 4 x.endpoint) := by
  have row : exec (.childTimeout d e n) s = execChildTimeout d e n s := by rfl
  rw [row, execChildTimeout, atColl_of_op die entry op, child]
  simp only [silent, Option.isNone_none, Bool.or_true, Bool.not_true, Bool.and_false, Bool.false_eq_true, if_false,
    CollOp.lateChunk, State.noteTimeout]

theorem exec_parentTimeout (member : g.isRoot = false) : exec (.parentTimeout d e) s =
    .next ((((s.noteTimeout d).groupEvent d g 2 o.seq (g.endpointOf g.parentOf) 0).sendChildren d g o
      (chunkBody g o.seq ckAbort 0 0 0 0 0 (gtParentTimeout * 65536 + stGroupTimeout) [])).endColl d e stGroupTimeout
        gtParentTimeout 0 0) := by
  have row : exec (.parentTimeout d e) s = execParentTimeout d e s := by rfl
  rw [row, execParentTimeout, atColl_of_op die entry op]
  simp only [member, Bool.false_eq_true, if_false, State.noteTimeout]

theorem exec_memberLeft (leaving : o.leaving = true) (boundary : o.atBoundary g.isRoot = true) : exec (.memberLeft d e) s =
    .next ((State.tellLeave { s with execs := s.execs.filter fun e => !e.is o.fn o.q o.index } d e g o).onGroup d e
      (Group.over o)) := by
  have row : exec (.memberLeft d e) s = execMemberLeft d e s := by rfl
  rw [row, execMemberLeft, atColl_of_op die entry op]
  simp only [leaving, boundary, Bool.not_true, Bool.or_self, Bool.false_eq_true, if_false, State.tellLeave]
  rfl

end Rows

/-! ### What a timer leaves -/

/-- An operation that repeats a FAILURE: chunk, generation, cause, endpoint (R465). -/
def CollOp.report (f : Nat × Nat × Nat × Nat) (o : CollOp) : CollOp :=
  { o with failures := if o.failures.contains f then o.failures else o.failures ++ [f] }

theorem CollOp.mem_report (o : CollOp) (f : Nat × Nat × Nat × Nat) : f ∈ (o.report f).failures := by
  rw [CollOp.report]
  dsimp only
  split
  · next listed => exact List.contains_iff_mem.mp listed
  · exact List.mem_append_right _ List.mem_cons_self

theorem State.sendFailure_of_op {s : State} {d e : Nat} {g : Group} {o : CollOp} (op : s.collOp d e = some (g, o))
    (k gen cause endpoint : Nat) : s.sendFailure d e k gen cause endpoint =
      (s.onOp d e (CollOp.report (k, gen, cause, endpoint))).sendRoot d g
        (chunkBody g o.seq ckFailure gen 0 k 0 0 (endpoint * 256 + cause) []) := by
  rw [State.sendFailure, op]
  rfl

section Outcomes

variable {s : State} {d e : Nat} {g : Group} {o : CollOp} (c : s.canonical) (die : d < s.dies.length)
  (op : s.collOp d e = some (g, o))

include c die op

/-- A timeout that is noted, reported and then ends the operation. -/
theorem State.endColl_timeout {W st : Nat} {t : State} (work : Within W s t) (outside : W &&& 25975329804 = W)
    (keeps : ∀ {u : State}, State.KeepsCtr (collPage d) Ctr.collectiveGroupTimeouts u (s.noteTimeout d) →
      State.KeepsCtr (collPage d) Ctr.collectiveGroupTimeouts u t)
    (running : o.completed = false) (live : s.inExecution o.fn o.q o.index) (fails : st ≠ 0) (dt : Nat) :
    (t.endColl d e st dt 0 0).collOp d e = none ∧ (t.endColl d e st dt 0 0).endedWith o.fn o.q o.index st dt ∧
      Counted (collPage d) Ctr.collectiveGroupTimeouts 1 s (t.endColl d e st dt 0 0) := by
  have beside : Within 25975329804 s t := work.mono outside
  have op' : t.collOp d e = some (g, o) := (beside.collOp c).trans op
  obtain ⟨gone, ended⟩ := State.endColl_ends (beside.canonical c) (by rw [beside.length_dies c]; exact die) op' running dt 0 0
    (beside.inExecution c live) fails
  exact ⟨gone, ended, State.counted_noteTimeout c fun h => (keeps h).endColl op' running (by decide) ..⟩

/-- A child that is late at the root (R468). -/
theorem State.rootCause_timeout (k endpoint : Nat) (running : o.completed = false) (live : s.inExecution o.fn o.q o.index) :
    ((s.noteTimeout d).rootCause d e k 4 endpoint true).collOp d e = none ∧
      ((s.noteTimeout d).rootCause d e k 4 endpoint true).endedWith o.fn o.q o.index stGroupTimeout gtMemberTimeout ∧
      Counted (collPage d) Ctr.collectiveGroupTimeouts 1 s ((s.noteTimeout d).rootCause d e k 4 endpoint true) := by
  have noted : (s.noteTimeout d).collOp d e = some (g, o) := (State.noteTimeout_within.collOp c).trans op
  have told : ((s.noteTimeout d).groupEvent d g 1 o.seq endpoint k).collOp d e = some (g, o) :=
    (State.groupEvent_within.collOp (State.noteTimeout_within.canonical c)).trans noted
  have row : (s.noteTimeout d).rootCause d e k 4 endpoint true =
      (((s.noteTimeout d).groupEvent d g 1 o.seq endpoint k).sendAll d g
        (chunkBody g o.seq ckAbort 0 0 0 0 0 (gtAborted * 65536 + stGroupTimeout) [])).endColl d e stGroupTimeout gtMemberTimeout
          0 0 := by
    rw [← State.abortRoot_of_op told, State.rootCause, noted]
    rfl
  rw [row]
  exact State.endColl_timeout c die op (W := 25975329804)
    (State.sendAll_within.step (by decide) (State.groupEvent_within.step (by decide) (State.noteTimeout_within.mono (by decide))))
    (by decide) (fun h => (h.groupEvent g _ _ _ _).sendAll (collPage_apartFromRouter d) ..) running live (by decide) _

/-- A FAILURE sent to the root is kept (R465, R473). -/
theorem State.sendFailure_kept (k gen cause endpoint : Nat) : ∃ o',
    ((s.sendFailure d e k gen cause endpoint).collOp d e).map Prod.snd = some o' ∧
      ∃ f ∈ o'.failures, f.2.2 = (cause, endpoint) := by
  refine ⟨o.report (k, gen, cause, endpoint), ?_, _, o.mem_report _, rfl⟩
  have row := State.sendFailure_of_op op k gen cause endpoint
  rw [row, State.sendRoot_within.collOp (State.onOp_within.canonical c), State.collOp_onOp die _ op, Option.map_some]

end Outcomes

end Sys2Proof.Machine

namespace Sys2Proof

open Machine

/-- Settles O46: each timer by what it does to the operation of its group-list entry; the packets that it sends count on pages
of the router alone. -/
theorem collectiveTimersAct : Obligations.CollectiveTimersAct := by
  intro s d e g o sound die entry op
  obtain ⟨c, _⟩ := sound
  have apart := collPage_apartFromRouter d
  refine ⟨?repeatTimer, ?resendTimer, ?childTimeout, ?parentTimeout, ?memberLeft⟩
  case repeatTimer =>
    intro member
    exact ⟨_, exec_repeatTimer die entry op member, (State.repeatMember_within.collOp c).trans op,
      State.repeatMember_within.areas .memory (by decide) c⟩
  case resendTimer =>
    rintro k gen member broadcast rfl lacks rfl fresh
    refine ⟨_, exec_resendTimer die entry op member broadcast lacks, ?_⟩
    rw [State.askResend_fresh op fresh]
    have asked := State.onOp_within (s := s) (d := d) (e := e)
      (f := fun x => { x with asked := (g.root, o.holds false, ((o.chunk? (o.holds false)).map Chunk.gen).getD 0) :: x.asked })
    constructor
    · rw [State.sendChunk_within.collOp (State.count_within.canonical (asked.canonical c)),
        State.count_within.collOp (asked.canonical c), State.collOp_onOp die _ op, Option.map_some]
    · exact ((State.KeepsCtr.refl c).within asked).counted
        ((State.KeepsCtr.refl (State.count_within.canonical (asked.canonical c))).inject apart ..)
  case childTimeout =>
    intro n x child silent
    have row := exec_childTimeout die entry op child silent
    constructor
    · intro root running live
      rw [if_pos root] at row
      exact ⟨_, row, State.rootCause_timeout c die op _ _ running live⟩
    · intro member
      rw [if_neg (by rw [member]; decide)] at row
      have told : Within 5132 s ((s.noteTimeout d).groupEvent d g 1 o.seq x.endpoint (o.lateChunk n x)) :=
        State.groupEvent_within.step (by decide) (State.noteTimeout_within.mono (by decide))
      have op' := (told.collOp c (d := d) (e := e)).trans op
      refine ⟨_, row, ?_, State.sendFailure_kept (told.canonical c) (by rw [told.length_dies c]; exact die) op' ..⟩
      refine State.counted_noteTimeout c fun h => ?_
      rw [State.sendFailure_of_op op']
      exact ((h.groupEvent ..).within State.onOp_within).inject apart ..
  case parentTimeout =>
    intro member running live
    refine ⟨_, exec_parentTimeout die entry op member, ?_⟩
    exact State.endColl_timeout c die op (W := 25975329804)
      (State.sendChildren_within.step (by decide) (State.groupEvent_within.step (by decide)
        (State.noteTimeout_within.mono (by decide))))
      (by decide) (fun h => (h.groupEvent ..).sendChildren apart ..) running live (by decide) _
  case memberLeft =>
    intro leaving boundary
    have left := State.tellLeave_within (s := { s with execs := s.execs.filter fun e => !e.is o.fn o.q o.index }) (d := d) (e := e)
      (g := g) (o := o)
    refine ⟨_, exec_memberLeft die entry op leaving boundary, State.collOp_onGroup_none ?_ fun _ => by rfl, ?_⟩
    · rw [left.length_dies c]
      exact die
    · rw [State.onGroup_within.exec? (left.canonical c), left.exec? c, State.exec?_filter]

end Sys2Proof
end
